-- ==== Sys2Proof/Word.lean ====
section
/-! DEFINITION. The word types of the model: a byte, a 64-bit control-space word (R7) and a 32-bit core word (R82). -/

namespace Sys2Proof

/-- One byte of any memory of the module. -/
abbrev Byte := BitVec 8

/-- A 64-bit control-space register or command word (R7, R99). -/
abbrev W64 := BitVec 64

/-- A 32-bit word of a sequencer core or of the accumulator buffer (R82, R60). -/
abbrev W32 := BitVec 32

end Sys2Proof
end

