-- ==== Sys2Proof/Config.lean ====
section
/-! DEFINITION. What the spec leaves open, as opaque constants with no body: nothing can be proved about their values. The
assumption log names each use. -/

namespace Sys2Proof.Config

/-- A fresh unspecified 64-bit value: `freeWord n` is the value of the n-th draw (State.free counts the draws). -/
opaque freeWord : Nat → BitVec 64

/-- What the hardware takes where a rule allows several results and R62 makes the result a function of the data: a choice by the case and
the operands. -/
opaque choose : List Nat → Nat

/-- Bits beyond 34 in the internal significands of the special-function unit (R160). -/
opaque sfnExtra : Nat

/-- The module's random source (R417): draw n of 64 random bits. -/
opaque randomWord : Nat → BitVec 64

/-- The not-ready status of the sideband's protocol (R444, R468). -/
opaque notReady : Nat

/-- Contents of fuses and factory records (R37, R355, R403, R419, R420, R480), by item number and index. -/
opaque factory : Nat → Nat → Nat

/-- The private key of the key pair whose handle is given (R418): it comes from the random source and never leaves the module. -/
opaque privateKey : Nat → Nat

/-- Key material behind a handle (R418, R228): 0 the two XTS keys of an owner, 1 its tag key. -/
opaque keyBytes : Nat → Nat → List (BitVec 8)

/-- Bytes of HKDF output that are reduced to an identity or alias key (R419 gives no length). -/
opaque keyLength : Nat

/-- The info string of the alias key's derivation (R419 gives that of IDK only). -/
opaque aliasInfo : List (BitVec 8)

/-- The bytes of an SPDM response as the cited standard lays them out (R421): response code and the values that it carries. -/
opaque spdmBytes : Nat → List (List (BitVec 8)) → List (BitVec 8)

/-- The bytes that a measurement block measures (R422): the rule lists the items and states no encoding of them. -/
opaque measured : List (List Nat) → List (List (BitVec 8)) → List (BitVec 8)

/-- The certificate chain from the root to IDK in the configuration store (R419). -/
opaque certChain : List (BitVec 8)

/-- What an alias certificate says of an alias public key, which IDK signs, and the certificate with that signature (R419, X.509). -/
opaque aliasTbs : List (BitVec 8) → List (BitVec 8)
opaque aliasCert : List (BitVec 8) → List (BitVec 8) → List (BitVec 8)

/-- A signed calibration record (R467), whose layout the spec does not give: key and bytes; the coefficients of R403 when it
verifies. -/
opaque calOpen : List (BitVec 8) → List (BitVec 8) → Option (List (BitVec 32))

/-- Subtype and value of the two mandatory TLVs of an LLDP frame whose contents R307 leaves to IEEE 802.1AB: 1 Chassis ID, 2 Port ID; and
the port. -/
opaque lldpId : Nat → Nat → List (BitVec 8)

/-- Offset in configuration space of the capability with this number in the table of R359, which leaves the places to the PCI Express
standard. -/
opaque capAt : Nat → Nat

/-- A time in ms as the Readiness Time Reporting capability writes it. -/
opaque readyCode : Nat → Nat

/-- The temperature term of the leakage model (R403) at a temperature in °C and a supply in mV, in 1/65536: 1 at 60 °C and 0.750 V. -/
opaque leakTerm : Nat → Nat → Nat

/-- A word of configuration space that the spec does not fix (R359): offset, the last value written there if any, and whether the HDM
decoder's last commit failed. -/
opaque configWord : Nat → Option (BitVec 32) → Bool → BitVec 32

/-- What a configuration write does to the HDM decoder, whose registers CXL 3.1 lays out (R359, R365): nothing, or a commit (with its
size in 32 MiB) or the end of one. -/
opaque hdmCtl : Nat → BitVec 32 → Option (Bool × Nat)

end Sys2Proof.Config
end

