-- ==== Sys2Proof/Syntax.lean ====
section
/-! DEFINITION. The commands of the block: one constructor of `Instr` for each row of spec/opcode_table.json, and the types
of their operands. An operand carries what the outside world brings with the event (a packet, a reading, an error that
the read meets). -/

namespace Sys2Proof

/-- Who makes an access or gives a command (R26). `core k` is a sequencer core: 0–127 the logical cells, 128–159 the
stream engines (16 per half), 160–167 the collective sequencers. -/
inductive Requester where
  | host
  | mc
  | hc (half : Nat)
  | core (k : Nat)
  | xport
deriving DecidableEq, Repr

/-- What the SEC-DED code of a layer-store word finds on the access (R194). -/
inductive Ecc where
  | ok | single | double
deriving DecidableEq, Repr

/-- What the line code and the tag find when a stored HBM line is read (R229): sound, one symbol corrected,
uncorrectable, or a tag that does not verify. -/
inductive LineFault where
  | good | corrected | uncorrectable | tagBad
deriving DecidableEq, Repr

/-- One 64-byte line access of the unified range (R187): a read with its cache hint and last-use mark (R100, R203), a
write of bytes from an offset within the line, or a memory-side operation (R240). -/
inductive LineAccess where
  | read (hint : Nat) (lastUse : Bool)
  | write (hint : Nat) (off : Nat) (data : List Byte)
  | atomic (off : Nat) (op : W64) (operand : List Byte)
deriving DecidableEq, Repr

/-- The Sirri header (R276) and payload (R277) of one packet. -/
structure Packet where
  ver : Nat
  typ : Nat
  last : Bool
  slow : Bool
  ece : Bool
  enc : Bool
  coll : Bool
  srcDev : Nat
  dstDev : Nat
  dstQueue : Nat
  srcQueue : Nat
  msgId : Nat
  pktIndex : Nat
  xmit : Nat
  ctrlOp : Nat
  regionKey : Nat
  accessKey : Nat
  keyId : Nat
  offset : Nat
  msgLen : Nat
  status : Nat
  collId : Nat
  payload : List Byte
deriving DecidableEq, Repr

/-- What the receiving port tells the transport about a packet: the port (16 for the module's own memory fabric, R280),
whether its checksum verifies (R275), whether the encryption tag verifies (R277), and a CE mark (R338). Checksum and mark are those of
the frame in the port's receive buffer that carries the packet. -/
structure RxInfo where
  port : Nat
  csumOk : Bool
  tagOk : Bool
  ce : Bool
deriving DecidableEq, Repr

/-- The IP and UDP headers of a Sirri packet, as far as the rules name them (R275, R279, R336, R338): IP version, addresses, DSCP and ECN
field (3: CE), UDP ports, and whether the UDP checksum is zero or verifies. -/
structure IpHead where
  v6 : Bool
  src : Nat
  dst : Nat
  dscp : Nat
  ecn : Nat
  srcPort : Nat
  dstPort : Nat
  csumOk : Bool
deriving DecidableEq, Repr

/-- What an Ethernet frame carries, as far as the port distinguishes it (R337). -/
inductive FrameKind where
  | sirri (ip : IpHead) (pkt : Packet)
  | lldp
  | arpNd
  | echo
  | pfc (prios quanta : Nat)
  | pause
  | parking (typ seq : Nat)
  | other
deriving DecidableEq, Repr

/-- Destination address class of a frame (R356). -/
inductive CastKind where
  | unicast | multicast | broadcast
deriving DecidableEq, Repr

/-- One Ethernet frame: its length from destination address through FCS (R352), its 802.1Q tag (VID and PCP) if any, its
destination class, and what it carries. -/
structure Frame where
  len : Nat
  tag : Option (Nat × Nat)
  cast : CastKind
  kind : FrameKind
deriving DecidableEq, Repr

/-- The Kenaris TLVs of a received LLDP frame (R307, R346). -/
structure Lldp where
  sub : Nat
  mac : Nat
  devnum : Nat
  portIndex : Nat
  generation : Nat
  serial : Nat
  linkMode : Nat
  linkFlags : Nat
  prio : Nat
  bestSerial : Nat
  assignDev : Option Nat
  assignPrefix : Nat
deriving DecidableEq, Repr

/-- What the FEC of a port has counted in one second (R343, R351, R356): codewords received, corrected and uncorrectable, and the symbols
corrected on each lane from 0 on. -/
structure FecCounts where
  words : Nat
  corrected : Nat
  uncorrectable : Nat
  lanes : List Nat
deriving DecidableEq, Repr

/-- What a host snoop asks of the device cache (R363): the current data, or the line given up. -/
inductive SnoopKind where
  | current | invalidate
deriving DecidableEq, Repr

/-- One line of the activity counts of one microsecond (R403): the coefficient 0 to 3 or 5, the sequencer core counted, and the count. -/
structure EnergyCount where
  coef : Nat
  unit : Nat
  count : Nat
deriving DecidableEq, Repr

/-- The accesses of one microsecond to a way of a half's layer store (R403). -/
structure WayCount where
  half : Nat
  way : Nat
  count : Nat
deriving DecidableEq, Repr

/-- What a PCS fault takes with it (R341): whether the alignment was lost, and whether a frame had partly come. -/
structure PcsFault where
  alignLoss : Bool
  fragment : Bool
deriving DecidableEq, Repr

/-- A posted write as the host sends it (R378): its size in bytes, and whether it may pass others. -/
structure PostedWrite where
  size : Nat
  relaxed : Bool
deriving DecidableEq, Repr

/-- Which bound a cell has with a neighbour (R397): the other cell, and whether of the supply or of the temperature. -/
structure BoundName where
  other : Nat
  supply : Bool
deriving DecidableEq, Repr

/-- The requester-chosen bytes of an SPDM request (a nonce or an exchange key); its meaning is the cited standard's. -/
structure SpdmReq where
  nonce : List Byte
deriving DecidableEq, Repr

/-- SEQ and signature of a signed ward request (R424). -/
structure SignedReq where
  seq : Nat
  sig : List Byte
deriving DecidableEq, Repr

/-- How the NAND operation in progress ends (R447, R448, R450, R455, R457). -/
inductive NandResult where
  | ok
  | opFailed
  | corrected (bits : Nat)
  | unreadable
deriving DecidableEq, Repr

/-- The two wired masters of the field tag (R472, R475). -/
inductive TagMaster where
  | rack | mc
deriving DecidableEq, Repr

/-- A controller that a restart brings back (R468, R488). -/
inductive Controller where
  | moduleCtl
  | halfCtl (half : Nat)
deriving DecidableEq, Repr

/-- The commands of the block, one constructor per row of spec/opcode_table.json, in the table's order but that
the writes of one control register and the host's accesses come first. -/
inductive Instr where
  /-- REGISTER_WRITE (R8): A write to a control-space register that has no row of its own, checked for size, alignment, window and field access type. -/
  | registerWrite (who : Requester) (addr size : Nat) (val : W64)
  /-- RC_READ (R8): A read of a register with read-clear fields returns the value and clears those fields in the same access. -/
  | rcRead (who : Requester) (addr size : Nat)
  /-- TAG_ACCESS_READ (R480): Starts a read of 8 tag bytes into TAG_DATA. -/
  | tagAccessRead (who : Requester) (addr : Nat)
  /-- TAG_ACCESS_WRITE (R480): Starts a write of TAG_DATA to the asset note or mailbox. -/
  | tagAccessWrite (who : Requester) (addr : Nat)
  /-- ORDER_TAKE_LEAD (R486): The module controller orders a half to take LEAD with an epoch. -/
  | orderTakeLead (who : Requester) (half epoch : Nat)
  /-- ORDER_HAND_OFF (R486): The module controller orders a lead half to hand off. -/
  | orderHandOff (who : Requester) (half : Nat)
  /-- EVT_NAND_READ (R504): Copies one incident-log page into EVT_NAND_DATA. -/
  | evtNandRead (who : Requester) (page : Nat) (readable : Bool)
  /-- SEQ_RUN (R85): Writing RUN with 1 starts the core at its PC and restarts the elapsed counter. -/
  | seqRun (who : Requester) (core : Nat) (trapHalt : Bool)
  /-- SEQ_HALT (R86): Writing RUN with 0 halts the core at the next instruction boundary. -/
  | seqHalt (who : Requester) (core : Nat) (trapHalt : Bool)
  /-- FG_RESUME (R96): Resumes a STOPPED foreground stream and clears its fault register. -/
  | fgResume (who : Requester) (core : Nat)
  /-- FG_FLUSH (R96): Discards the queued foreground commands and enters FLUSHING. -/
  | fgFlush (who : Requester) (core : Nat)
  /-- FILL_RESUME (R96): Resumes a STOPPED fill stream and clears its fault register. -/
  | fillResume (who : Requester) (core : Nat)
  /-- FILL_FLUSH (R96): Discards the queued fill commands and enters FLUSHING. -/
  | fillFlush (who : Requester) (core : Nat)
  /-- FILL_ENABLE_WRITE (R95): Sets whether the fill head may issue. -/
  | fillEnableWrite (who : Requester) (core : Nat) (en : Bool)
  /-- SYNC_CTR_WRITE (R113): A control-space write of a counter, applied before the same-cycle increments. -/
  | syncCtrWrite (who : Requester) (core ctr val : Nat)
  /-- IMEM_WRITE (R120): A write to instruction memory, refused with BOUNDS unless the core is halted. -/
  | imemWrite (who : Requester) (core off : Nat) (val : W64)
  /-- SFN_TABLE_WRITE (R171): A write to user-table coefficients or constants, refused while the table is valid. -/
  | sfnTableWrite (who : Requester) (cell off : Nat) (val : W64)
  /-- SFN_TDESC_WRITE (R171): A write to a user-table descriptor, setting or clearing VALID under its checks. -/
  | sfnTdescWrite (who : Requester) (cell tbl : Nat) (val : W64)
  /-- SFN_BCAST_WRITE (R173): A write to the broadcast page is applied to every masked cell, or to none. -/
  | sfnBcastWrite (who : Requester) (half off : Nat) (val : W64)
  /-- WALK_ENABLE (R198): Writing ENABLE with 1 starts a walker at entry 0, pass 0. -/
  | walkEnable (who : Requester) (half ward : Nat) (val : W64)
  /-- WALK_DISABLE (R216): Writing ENABLE with 0 stops the walker after the current block. -/
  | walkDisable (who : Requester) (half ward : Nat)
  /-- WALK_RESUME (R216): Leaves the stopped state and retries the entry at POS. -/
  | walkResume (who : Requester) (half ward : Nat)
  /-- TIER_OP_MIGRATE (R202): Migrates blocks of a range into free or replaceable frames, skipping the rest. -/
  | tierOpMigrate (who : Requester) (half count cls ward : Nat)
  /-- TIER_OP_EVICT (R202): Evicts the blocks of a range from the layer store, pinned blocks included. -/
  | tierOpEvict (who : Requester) (half count ward : Nat)
  /-- TIER_OP_CLEAN (R202): Writes home the dirty lines of a range while keeping the frames. -/
  | tierOpClean (who : Requester) (half count ward : Nat)
  /-- UNFENCE (R248): Writing UNFENCE at or below 92 °C takes a stack out of FENCED. -/
  | unfence (who : Requester) (stack : Nat)
  /-- PC_RETRAIN_START (R223): MEM_PC_CTRL takes one pseudo-channel out of service for retraining. -/
  | pcRetrainStart (who : Requester) (stack pc : Nat)
  /-- REGION_RESET (R237): A reset command makes regions UNSET once their requests have drained. -/
  | regionReset (who : Requester) (stack first count : Nat)
  /-- REGION_CLEAR_NOW (R237): A clear-now command starts urgent clearing of the UNSET regions of a range. -/
  | regionClearNow (who : Requester) (stack first count : Nat)
  /-- XPORT_DOORBELL (R299): Sets a HOST queue's producer count so the queue takes new descriptors. -/
  | xportDoorbell (who : Requester) (queue prod : Nat)
  /-- XPORT_CQ_DOORBELL (R300): Sets a queue's completion consumer count, freeing ring entries. -/
  | xportCqDoorbell (who : Requester) (queue cons : Nat)
  /-- CTX_CMD_READ (R297): Reads a queue context into the data registers. -/
  | ctxCmdRead (who : Requester) (queue : Nat)
  /-- CTX_CMD_WRITE (R297): Writes a queue context from the data registers under its checks. -/
  | ctxCmdWrite (who : Requester) (queue : Nat)
  /-- REGION_REGISTER (R303): Registers a region, fixing its blocks and drawing its keys. -/
  | regionRegister (who : Requester) (ward : Nat) (permWrite permRead permAtomic : Bool)
  /-- REGION_DEREGISTER (R306): Deregisters a region once no packet naming it executes. -/
  | regionDeregister (who : Requester) (ward : Nat)
  /-- COLL_ABORT_WRITE (R321): Software aborts an open collective with ABORTED. -/
  | collAbortWrite (who : Requester) (seq : Nat)
  /-- RETIME (R344): Removes the port from routes and re-adapts every lane. -/
  | retime (who : Requester) (port : Nat)
  /-- HOST_BAR0_ACCESS (R361): A host access to control space through BAR0, checked against the allowed windows. -/
  | hostBar0Access (wr : Bool) (off size : Nat) (val : W64)
  /-- HOST_DOORBELL_PROD (R368): A doorbell page write sets a queue's producer count. -/
  | hostDoorbellProd (off size : Nat) (val : W64)
  /-- HOST_DOORBELL_CQ (R368): A doorbell page write sets a queue's completion consumer count. -/
  | hostDoorbellCq (off size : Nat) (val : W64)
  /-- HOST_PLACE_FLAG (R378): A flag write signals a placement slot's region after its earlier writes are visible. -/
  | hostPlaceFlag (slot : Nat) (write : PostedWrite)
  /-- HOST_BAR4_WRITE (R377): A placement write is executed as a local WRITE into the slot's region. -/
  | hostBar4Write (off : Nat) (data : List Byte)
  /-- CXL_MEM_READ (R367): A host CXL.mem read of the shared window. -/
  | cxlMemRead (addr : Nat) (fault : LineFault)
  /-- CXL_MEM_WRITE (R367): A host CXL.mem write to the shared window. -/
  | cxlMemWrite (addr : Nat) (data : List Byte) (fault : LineFault)
  /-- PM_TOL_WRITE (R376): A write of the host tolerance, waking the module when below the present wake time. -/
  | pmTolWrite (who : Requester) (val : W64)
  /-- TXN_BEGIN (R460): Opens a configuration transaction for its owner. -/
  | txnBegin (who : Requester)
  /-- TXN_FIELD_WRITE (R460): A TXN field write is staged, or discarded with BOUNDS. -/
  | txnFieldWrite (who : Requester) (addr : Nat) (val : W64)
  /-- TXN_LATCH (R462): Validates staged values and accepts or rejects the latch, optionally with a commit request. -/
  | txnLatch (who : Requester) (persist : Bool)
  /-- TXN_ROLLBACK (R460): Discards the staged values and returns to IDLE. -/
  | txnRollback (who : Requester)
  /-- FW_INSTALL (R467): Copies and verifies an image into the slot not running. -/
  | fwInstall (who : Requester) (len : Nat)
  /-- FW_SWITCH_NEXT (R467): Makes the other valid slot ACTIVE in TRIAL from the next cold start. -/
  | fwSwitchNext (who : Requester)
  /-- FW_SWITCH_LIVE (R468): Switches firmware now, restarting the controllers in turn. -/
  | fwSwitchLive (who : Requester)
  /-- FW_CONFIRM (R467): Makes the running TRIAL slot VALID and raises the security counter. -/
  | fwConfirm (who : Requester)
  /-- FW_INSTALL_CAL (R467): Installs and loads a signed calibration record. -/
  | fwInstallCal (who : Requester) (len : Nat)
  /-- REF_LOCK_LOST (R30): The root PLL loses lock and holds its frequency for 100 µs. -/
  | refLockLost
  /-- REF_HOLDOVER_EXPIRY (R30): Lock has not returned within 100 µs, so the main clocks stop, in-flight operations end ABORTED and alarm REF_LOST is raised. -/
  | refHoldoverExpiry
  /-- REF_LOCK_REGAINED (R30): The root PLL regains lock: no effect within holdover, otherwise the module makes a warm restart. -/
  | refLockRegained
  /-- CELL_CHECK_FAIL (R40): A physical cell fails its built-in check, is marked faulty, and any logical cell on it is stopped and made absent. -/
  | cellCheckFail (half row col : Nat)
  /-- PARITY_RATE_LIMIT (R77): More than 16 parity or CSTORE_UE events within one second on a physical cell mark it faulty. -/
  | parityRateLimit (half row col : Nat)
  /-- MESH_PACKET_ARRIVE (R41): A mesh packet reaches its destination cell; it is written there, or discarded at a stopped or absent cell with the sender ABORTED. -/
  | meshPacketArrive (idx : Nat)
  /-- HINGE_SUBLINK_DOWN (R491): A hinge sublink fails; its packets are replayed on the other sublinks of the column, or rerouted through a neighbour column. -/
  | hingeSublinkDown (sublink : Nat)
  /-- RV_INSTRUCTION (R82): The sequencer core executes one standard RV32IMC/Zicsr instruction, including its loads and stores. -/
  | rvInstruction (core : Nat) (errs : List (Nat × Bool))
  /-- EBREAK (R85): EBREAK halts the core with the PC at the instruction. -/
  | ebreak (core : Nat)
  /-- TC_STAGE (R87): Writes one staging word from a register. -/
  | tcStage (core : Nat)
  /-- TC_LDS (R87): Loads all eight staging words from 32 bytes of the cell store. -/
  | tcLds (core : Nat) (errs : List (Nat × Bool))
  /-- TC_PUSHS (R88): Checks the staged command and pushes it into the named stream, or stalls while the queue is full or flushing. -/
  | tcPushs (core : Nat)
  /-- PUSHS_UNSTALL (R98): A stalled TC.PUSHS queues its command once the stream has room and is in RUN. -/
  | pushsUnstall (core : Nat)
  /-- TC_DONE (R87): Returns the retired count of a stream. -/
  | tcDone (core : Nat)
  /-- SC_READ (R87): Returns the value of a synchronisation counter. -/
  | scRead (core : Nat)
  /-- SC_WAIT (R87): Stalls the core until a counter has reached a target. -/
  | scWait (core : Nat)
  /-- SC_WAIT_RELEASE (R112): A stalled SC.WAIT completes when its counter reaches the target. -/
  | scWaitRelease (core : Nat)
  /-- SC_ADD (R113): Adds a value to a counter modulo 2^16. -/
  | scAdd (core : Nat)
  /-- KENARIS_ILLEGAL (R87): A Kenaris instruction with a bad funct7 or the reserved funct3 raises an illegal-instruction exception. -/
  | kenarisIllegal (core : Nat)
  /-- COMMAND_ISSUE (R91): A stream head issues into its unit queue once its wait condition holds and the unit has room, under the fill rules. -/
  | commandIssue (core strm : Nat)
  /-- COMMAND_COMPLETE (R114): A command completes, performs its SIG or stops its stream, and advances the retired count. -/
  | commandComplete (core unit : Nat)
  /-- MATMUL (R105): Runs one array pass of activations by a weight tile into accumulator rows, with optional scales. -/
  | matmul (core : Nat) (errs : List (Nat × Bool))
  /-- CONV (R106): Runs one array pass whose activation rows the convolution generator builds from a descriptor. -/
  | conv (core : Nat) (errs : List (Nat × Bool))
  /-- WEIGHT_LOAD_DONE (R50): A weight tile finishes loading into the back registers. -/
  | weightLoadDone (core : Nat)
  /-- PASS_START (R51): A pass starts once its weights are loaded, its interlocks have cleared and any change of form has drained. -/
  | passStart (core : Nat) (wparity : Bool)
  /-- PASS_DONE (R49): The last row of a pass is written to the accumulator buffer. -/
  | passDone (core : Nat) (aparity : Bool)
  /-- LOAD (R107): Copies rows from a device address into the cell store. -/
  | load (core : Nat) (errs : List (Nat × Bool))
  /-- STORE (R107): Copies rows from the cell store to a device address. -/
  | store (core : Nat) (errs : List (Nat × Bool))
  /-- GATHER (R211): A stream engine reads listed rows from arbitrary addresses and packs them at the destination. -/
  | gather (core : Nat)
  /-- QUANT (R108): Converts rows to the destination format, computing or applying row scales, and counts health categories. -/
  | quant (core : Nat) (errs : List (Nat × Bool))
  /-- DEQUANT (R108): Widens narrow rows with their scales to FP32, BF16 or FP16. -/
  | dequant (core : Nat) (errs : List (Nat × Bool))
  /-- SFN (R109): Evaluates a function table on each element, with optional row vector and gate. -/
  | sfn (core : Nat) (errs : List (Nat × Bool))
  /-- NORM (R176): Normalises each row with mean and variance or RMS, and optional affine parameters. -/
  | norm (core : Nat) (errs : List (Nat × Bool))
  /-- REDUCE (R175): Computes sums, sums of squares or extremes per row or per column. -/
  | reduce (core : Nat) (errs : List (Nat × Bool))
  /-- RNG (R110): Writes Philox random words, uniform values or keep-mask bits. -/
  | rng (core : Nat)
  /-- OPT_UPDATE (R267): Applies a momentum SGD or Adam update to a chunk of parameters described by a descriptor. -/
  | optUpdate (core : Nat) (errs : List (Nat × Bool))
  /-- SYNC (R111): Completes when earlier commands of its stream, or of both streams, have completed. -/
  | sync (core : Nat)
  /-- WAIT (R104): Is held until its W0 condition and every enabled wait pair has been met. -/
  | wait (core : Nat)
  /-- SIGNAL (R115): Adds an amount to a counter of a cell, engine, sequencer or every cell of the ward. -/
  | signal (core : Nat)
  /-- SEND (R114): Sends data over the mesh into another cell's cell store and optionally signals a counter there. -/
  | send (core : Nat) (errs : List (Nat × Bool))
  /-- SEND_QUEUE (R302): A SEND with DKIND 1 sends through a CELL transport queue, one-sided or two-sided. -/
  | sendQueue (core : Nat) (errs : List (Nat × Bool))
  /-- RECV (R302): Posts a receive buffer to a queue and stays held until a message fills it. -/
  | recv (core : Nat)
  /-- RECV_TIMEOUT (R117): A RECV's timeout expires and it completes with TIMEOUT. -/
  | recvTimeout (core : Nat)
  /-- CQSEND (R317): Quantises rows with error feedback and sends them as one WRITE message through a COLL queue. -/
  | cqsend (core : Nat)
  /-- CADD (R318): Widens landed rows and writes or adds them at home in issue order. -/
  | cadd (core : Nat)
  /-- CBEGIN (R319): Opens a collective with its member list, stack mask and deadline. -/
  | cbegin (core : Nat)
  /-- CEND (R319): Closes the collective once its earlier commands have completed. -/
  | cend (core : Nat)
  /-- SFN_VALID_CLEAR_DONE (R171): A write clearing VALID completes once no issued SFN names the table. -/
  | sfnValidClearDone (cell tbl : Nat)
  /-- BLOCK_ACCESS (R187): A 64-byte line access to the unified range is served from home or frame according to the block state. -/
  | blockAccess (who : Requester) (line : Nat) (acc : LineAccess) (ecc : Ecc)
  /-- FILL_START (R186): A migration finds a frame, takes the migration lock and starts copying the block in. -/
  | fillStart (half ward block cls tag : Nat)
  /-- FILL_DONE (R186): The last line of a fill is copied; the block becomes CLEAN or DIRTY and waiting accesses proceed. -/
  | fillDone (block : Nat)
  /-- DRAIN_DONE (R186): The last dirty line is written home; the frame is released or kept CLEAN. -/
  | drainDone (block : Nat)
  /-- BANK_SLOT_GRANT (R208): A freed bank slot goes in turn to a waiting requester holding fewer than 8 slots. -/
  | bankSlotGrant (stack bank : Nat)
  /-- WALK_ENTRY_START (R199): The layer counter plus distance reaches the entry's layer, and the walker checks the entry and applies its operation. -/
  | walkEntryStart (half ward : Nat)
  /-- WALK_FRAME_AVAILABLE (R199): A frame of the set becomes free or replaceable for a waiting walker. -/
  | walkFrameAvailable (half ward : Nat)
  /-- WALK_ENTRY_DONE (R199): Every block of an entry is handled; the walker signals and advances, wraps or stops. -/
  | walkEntryDone (half ward : Nat)
  /-- TIER_OP_DONE (R202): A TIER operation finishes and reports status, DONE and SKIPPED. -/
  | tierOpDone (half : Nat)
  /-- HBM_LINE_READ (R229): A controller serves a line read through region state, poison, line code, tag and decryption. -/
  | hbmLineRead (line : Nat) (fault : LineFault)
  /-- HBM_LINE_WRITE (R230): A controller serves a full or partial line write, clearing an UNSET region first. -/
  | hbmLineWrite (line : Nat) (off : Nat) (data : List Byte) (fault : LineFault)
  /-- MSO_OPERATION (R244): A memory-side add or compare-and-swap is applied atomically to a line in the memory-side cache. -/
  | msoOperation (line off : Nat) (op : W64) (operand : List Byte) (fault : LineFault)
  /-- CLEARING_DONE (R234): The last line of a clearing region is written; the region becomes SET and waiting requests proceed. -/
  | clearingDone (stack region : Nat)
  /-- BG_CLEAR_START (R235): The background clearer takes the next owned UNSET region. -/
  | bgClearStart (stack : Nat)
  /-- REFRESH (R222): A periodic per-bank refresh is issued. -/
  | refresh (stack pc bank : Nat)
  /-- PATROL_READ (R239): The patrol reads a line of a SET region, correcting or poisoning it. -/
  | patrolRead (stack : Nat) (fault : LineFault)
  /-- HBM_TEMP_READING (R245): The 100 µs stack temperature reading sets the stack's thermal level. -/
  | hbmTempReading (stack temp : Nat)
  /-- HBM_TEMP_LOST (R249): No valid reading for 1 ms puts the stack into HOT and raises TEMP_LOST. -/
  | hbmTempLost (stack : Nat)
  /-- PC_RETRAIN_DONE (R470): A retraining ends, returning the pseudo-channel to service on new or restored values. -/
  | pcRetrainDone (stack : Nat) (ok : Bool)
  /-- PC_RETRAIN_SCHEDULE (R470): The periodic schedule starts the next pseudo-channel's retraining. -/
  | pcRetrainSchedule
  /-- REGION_CMD_DONE (R237): A region command finishes and reports its status. -/
  | regionCmdDone (stack : Nat)
  /-- RX_WRITE (R292): A received WRITE packet is checked, written, acknowledged, and on LAST signals the region. -/
  | rxWrite (rx : RxInfo) (pkt : Packet)
  /-- RX_READ_REQ (R292): A received READ_REQ is checked and answered with READ_RESP packets. -/
  | rxReadReq (rx : RxInfo) (pkt : Packet)
  /-- RX_READ_RESP (R301): A received READ_RESP writes data locally toward the read's completion. -/
  | rxReadResp (rx : RxInfo) (pkt : Packet)
  /-- RX_SEND (R294): A received SEND packet is bound to the oldest posted receive buffer and written. -/
  | rxSend (rx : RxInfo) (pkt : Packet)
  /-- RX_ATOMIC (R292): A received ATOMIC is executed once through the duplicate filter and acknowledged with results. -/
  | rxAtomic (rx : RxInfo) (pkt : Packet)
  /-- RX_ACK (R291): A received ACK marks packets acknowledged, adjusts the window and may complete the message. -/
  | rxAck (rx : RxInfo) (pkt : Packet)
  /-- RX_NAK (R289): A received NAK ends the message with its status or schedules a resend. -/
  | rxNak (rx : RxInfo) (pkt : Packet)
  /-- RX_PROBE (R313): A received CTRL PROBE is answered with PROBE_ECHO. -/
  | rxProbe (rx : RxInfo) (pkt : Packet)
  /-- RX_PROBE_ECHO (R313): A received PROBE_ECHO clears the port's DOWN bit for the destination. -/
  | rxProbeEcho (rx : RxInfo) (pkt : Packet)
  /-- RX_CTRL_ABORT (R322): A received CTRL ABORT ends the member's commands of the collective or enters the aborted table. -/
  | rxCtrlAbort (rx : RxInfo) (pkt : Packet)
  /-- RETX_TIMEOUT (R284): A packet's RTO expires and a copy is sent on the next usable port, or the message ends. -/
  | retxTimeout (msg pkt : Nat)
  /-- NAK_RETRY_TIMER (R289): After NOT_READY or BUSY, the packet is sent again after RTO without counting a retry. -/
  | nakRetryTimer (msg pkt : Nat)
  /-- ACK_COALESCE_TIMEOUT (R283): 1 µs after the first unacknowledged packet, the coalesced ACK is sent. -/
  | ackCoalesceTimeout (srcDev msgId : Nat)
  /-- LAST_PACKET_SEND (R285): The LAST packet is sent once all others are acknowledged and stray copies have aged past LIFE. -/
  | lastPacketSend (msg : Nat) (lifePassed : Bool)
  /-- FILTER_ENTRY_EXPIRE (R287): A duplicate-filter entry expires after FILTER_AGE. -/
  | filterEntryExpire (srcDev msgId : Nat)
  /-- MSG_TIMEOUT (R290): A message waiting on NOT_READY or BUSY ends with TIMEOUT. -/
  | msgTimeout (msg : Nat)
  /-- PROBE_TIMER (R313): Every 1 ms, probes are sent on ports marked down. -/
  | probeTimer
  /-- MSG_CONTEXT_GRANT (R281): A freed message context goes to a waiting queue or command. -/
  | msgContextGrant
  /-- DESC_WRITE (R299): A WRITE descriptor starts a one-sided write message to a remote region. -/
  | descWrite (queue : Nat)
  /-- DESC_READ (R299): A READ descriptor requests data from a remote region. -/
  | descRead (queue : Nat)
  /-- DESC_SEND (R299): A SEND descriptor starts a two-sided message to a destination queue. -/
  | descSend (queue : Nat)
  /-- DESC_ATOMIC (R299): An ATOMIC descriptor sends a memory-side operation to a remote region. -/
  | descAtomic (queue : Nat)
  /-- DESC_RECV (R299): A RECV descriptor posts a receive buffer. -/
  | descRecv (queue : Nat)
  /-- DESC_INVALID (R299): A descriptor with a reserved OP, bad DVER or zero length completes with BOUNDS. -/
  | descInvalid (queue : Nat)
  /-- CQ_ENTRY_WRITE (R300): A completion entry is written when the ring has room, followed by the signal and any interrupt. -/
  | cqEntryWrite (queue : Nat)
  /-- REG_CMD_DONE (R304): A registration or deregistration completes once blocks have settled or packets drained. -/
  | regCmdDone
  /-- LLDP_TX (R307): Each port sends its LLDP frame every 1 s. -/
  | lldpTx (port : Nat)
  /-- LLDP_RX (R307): A received LLDP frame updates identity, link, election and assignment state. -/
  | lldpRx (port : Nat) (info : Lldp)
  /-- ELECTION_SETTLED (R309): The best candidate unchanged for 3 s becomes leader and assigns device numbers and routes. -/
  | electionSettled
  /-- COLL_DEADLINE (R321): A collective's deadline passes and it is aborted with TIMEOUT. -/
  | collDeadline (seq : Nat)
  /-- ABORT_WINDOW_EXPIRY (R322): 10 µs after the first abort, the member completes its commands with the first-ranked status. -/
  | abortWindowExpiry (seq : Nat)
  /-- ABORT_TABLE_EXPIRE (R322): An aborted-table entry expires after 100 ms. -/
  | abortTableExpire (collId : Nat)
  /-- PORT_FRAME_RX (R334): A received frame is checked, buffered, counted and delivered or dropped. -/
  | portFrameRx (port sub : Nat) (frame : Frame) (fcsOk : Bool)
  /-- PORT_FRAME_TX (R333): A frame whole in the transmit buffer is sent on the fibre. -/
  | portFrameTx (port sub : Nat)
  /-- ARP_ND_REQUEST (R337): An ARP request or neighbour solicitation for the port's address is answered. -/
  | arpNdRequest (port sub : Nat) (v6 : Bool) (target : Nat) (peerMac : Nat)
  /-- ICMP_ECHO (R337): An echo request to the port is answered, up to 1,000 per second. -/
  | icmpEcho (port sub : Nat) (v6 : Bool) (target : Nat) (data : List Byte)
  /-- RX_PFC (R339): A PFC frame pauses sending of Sirri frames for its quanta. -/
  | rxPfc (port sub : Nat) (prios quanta : Nat)
  /-- PFC_PAUSE_EXPIRY (R339): The pause quanta run out and sending resumes. -/
  | pfcPauseExpiry (port : Nat) (pausedUs : Nat)
  /-- RX_PAUSE (R337): An 802.3 PAUSE frame is counted and ignored. -/
  | rxPause (port sub : Nat)
  /-- PFC_REFRESH (R339): Every 20 µs the pausing PFC frame is repeated while the fill stays high. -/
  | pfcRefresh (port : Nat)
  /-- PFC_STORM (R340): Unbroken pause for STORM_MS removes the port from its routes. -/
  | pfcStorm (port : Nat)
  /-- PFC_STORM_END (R340): 10 ms with no pausing frame returns the port to its routes. -/
  | pfcStormEnd (port : Nat)
  /-- LINK_DOWN (R341): A lane or PCS fault takes the link down, removes it from routes and returns unsent frames. -/
  | linkDown (port sub : Nat) (lane : Option Nat) (fault : PcsFault)
  /-- LINK_ALIGNED (R342): All lanes recover, the PCS aligns and the FEC decodes; the hold timer starts. -/
  | linkAligned (port sub : Nat)
  /-- LINKUP_HOLD_EXPIRY (R342): The link has stayed clean for LINKUP_HOLD_MS and rejoins its routes. -/
  | linkupHoldExpiry (port sub : Nat)
  /-- FEC_DEGRADE (R343): Corrected symbols in a second exceed the threshold. -/
  | fecDegrade (port : Nat) (counts : FecCounts)
  /-- PARK_WINDOW (R348): A 100 µs traffic window ends; enough low windows send PARK_REQ. -/
  | parkWindow (port sent received : Nat)
  /-- PARK_REQ (R348): A received PARK_REQ is answered with PARK_ACK or PARK_NAK, or crosses with the port's own request. -/
  | parkReq (port seq : Nat)
  /-- PARK_ACK (R348): A received PARK_ACK parks the port and sends PARK_GO. -/
  | parkAck (port seq : Nat)
  /-- PARK_NAK (R348): A received PARK_NAK returns the port to FULL. -/
  | parkNak (port seq : Nat)
  /-- PARK_GO (R348): A received PARK_GO moves the receive distribution to lanes 0–3. -/
  | parkGo (port seq : Nat)
  /-- PARK_ANSWER_TIMEOUT (R348): No answer within 10 µs returns the port to FULL. -/
  | parkAnswerTimeout (port : Nat)
  /-- WAKE (R348): A received WAKE brings lanes 4–7 out of idle. -/
  | wake (port seq : Nat)
  /-- LANES_LOCKED (R348): Lanes 4–7 lock; WAKE_ACK is sent or both directions return to eight lanes. -/
  | lanesLocked (port : Nat)
  /-- WAKE_ACK (R348): A received WAKE_ACK returns the port to FULL once lanes are locked. -/
  | wakeAck (port seq : Nat)
  /-- WAKE_TIMEOUT (R348): No WAKE_ACK within 2 µs resends WAKE; after the third the link goes down. -/
  | wakeTimeout (port : Nat)
  /-- PARK_REFRESH (R349): Every 100 µs parked lanes send and check a refresh burst. -/
  | parkRefresh (port missed : Nat)
  /-- HOST_CONFIG_REQUEST (R372): A configuration request is served, or answered with retry status before stage 3. -/
  | hostConfigRequest (wr : Bool) (off : Nat) (val : W32)
  /-- HOST_BAR4_READ (R362): A read of BAR4 is refused with BOUNDS. -/
  | hostBar4Read (off : Nat)
  /-- HOST_SNOOP (R363): The module answers a host snoop of its device cache. -/
  | hostSnoop (line : Nat) (kind : SnoopKind) (hostData : Option (List Byte))
  /-- HOST_LINK_UP (R358): The host link trains, reporting any degraded rate or width. -/
  | hostLinkUp (speed width : Nat) (cxl : Bool)
  /-- HOST_LINK_DOWN (R364): The host link goes down; host-window requests abort and dirty device-cache lines are discarded. -/
  | hostLinkDown
  /-- PERST_ASSERT (R373): PERST# asserted while running resets the link and configuration space. -/
  | perstAssert
  /-- PERST_DEASSERT (R372): PERST# deasserted starts link training. -/
  | perstDeassert
  /-- HOT_RESET (R373): A hot reset resets the link, configuration space and BAR assignments. -/
  | hotReset
  /-- FLR (R373): A Function Level Reset also disables every HOST queue and aborts its messages. -/
  | flr
  /-- PSTATE_ENTRY (R374): An entry condition held for IDLE_US takes the module into a deeper power state. -/
  | pstateEntry (pstate : Nat)
  /-- PSTATE_WAKE (R376): A wake event returns the module to P0. -/
  | pstateWake
  /-- P_IN_SAMPLE (R383): A 1 µs input power sample is measured and checked against the ceiling. -/
  | pInSample (pin prsv : Nat)
  /-- CLAMP_END (R384): After 100 µs the clamp releases and wards restart two levels lower. -/
  | clampEnd
  /-- OCP_TRIP (R385): Input current above 62 A for 5 µs drops every rail but standby. -/
  | ocpTrip (amps : Nat)
  /-- GOVERNOR_DECISION (R392): Every 10 µs each ward moves at most one level by modelled power against its share. -/
  | governorDecision (half sum10ms samples : Nat)
  /-- CAP_STEP_CHECK (R393): Every 100 µs, an average above the cap steps every ward down one level. -/
  | capStepCheck (avg100us avg10ms : Nat)
  /-- SUPPLY_SETTLED (R391): A cell supply settles after a step, and a step up changes the divider. -/
  | supplySettled (cell : Nat)
  /-- CELL_SUPPLY_SAMPLE (R397): A 1 µs supply average is compared between neighbours. -/
  | cellSupplySample (cell mv : Nat)
  /-- NEIGHBOUR_HOLD_END (R397): The difference has stayed within its limit for 100 µs and the step is released. -/
  | neighbourHoldEnd (cell : Nat) (bound : BoundName)
  /-- DROOP_DETECT (R398): A cell supply falls below threshold and its clock stretches. -/
  | droopDetect (cell mv : Nat)
  /-- DROOP_RECOVER (R398): The supply recovers and stretching ends. -/
  | droopRecover (cell : Nat)
  /-- STRETCH_LIMIT (R398): A stretch episode reaches 64 cycles and ends. -/
  | stretchLimit (cell : Nat)
  /-- DROOP_STEP_END (R399): A droop step is released after 100 µs. -/
  | droopStepEnd (cell : Nat)
  /-- START_GRANT (R401): A start grant from the bucket lets a waiting array raise its activity. -/
  | startGrant (core : Nat)
  /-- ENERGY_MODEL_TICK (R403): Each µs activity counts are turned into modelled and attributed energy. -/
  | energyModelTick (counts : List EnergyCount) (ways : List WayCount)
  /-- CORR_UPDATE (R404): Every 1 ms the correction factor moves toward measured over modelled. -/
  | corrUpdate (half us : Nat)
  /-- CELL_TEMP_READING (R406): A 10 µs cell sensor reading triggers thermal steps. -/
  | cellTempReading (cell temp : Nat)
  /-- THERMAL_STEP_TIMER (R406): Every 100 µs a hot cell or half steps down a further level. -/
  | thermalStepTimer
  /-- LS_TEMP_READING (R406): A layer-store sensor reading triggers half-wide steps. -/
  | lsTempReading (half sensor temp : Nat)
  /-- COOLANT_READING (R406): A 100 ms coolant reading lowers the effective cap when hot. -/
  | coolantReading (inlet outlet : Nat)
  /-- CELL_SENSOR_LOST (R406): No valid cell reading for 1 ms treats the cell as above 105 °C. -/
  | cellSensorLost (cell : Nat)
  /-- P_IN_LOST (R406): No valid P_IN for 10 µs sets the effective cap to 1,200 W. -/
  | pInLost
  /-- DEADBOLT_TRIP (R407): A deadbolt condition stops clocks, drops rails and records the cause. -/
  | deadboltTrip (cause value source : Nat)
  /-- INPUT_REMOVED_1S (R408): The 54 V input absent for 1 s clears the deadbolt, trip or halt. -/
  | inputRemoved1s
  /-- SPDM_GET_VERSION (R421): SPDM GET_VERSION. -/
  | spdmGetVersion
  /-- SPDM_GET_CAPABILITIES (R421): SPDM GET_CAPABILITIES. -/
  | spdmGetCapabilities (req : SpdmReq)
  /-- SPDM_NEGOTIATE_ALGORITHMS (R421): SPDM NEGOTIATE_ALGORITHMS. -/
  | spdmNegotiateAlgorithms (req : SpdmReq)
  /-- SPDM_GET_DIGESTS (R421): SPDM GET_DIGESTS. -/
  | spdmGetDigests
  /-- SPDM_GET_CERTIFICATE (R419): Returns the certificate chain, or an error on a blank. -/
  | spdmGetCertificate (slot offset length : Nat)
  /-- SPDM_CHALLENGE (R420): SPDM CHALLENGE signed with the alias key. -/
  | spdmChallenge (slot : Nat) (req : SpdmReq)
  /-- SPDM_GET_MEASUREMENTS (R422): Returns the measurement blocks and ward records. -/
  | spdmGetMeasurements (index : Nat) (sig raw : Bool) (req : SpdmReq)
  /-- SPDM_KEY_EXCHANGE (R421): SPDM KEY_EXCHANGE opening a secure session. -/
  | spdmKeyExchange (slot session : Nat) (req : SpdmReq)
  /-- SPDM_FINISH (R421): SPDM FINISH. -/
  | spdmFinish (session : Nat) (macOk : Bool)
  /-- SPDM_HEARTBEAT (R421): SPDM HEARTBEAT. -/
  | spdmHeartbeat (session : Nat)
  /-- SPDM_KEY_UPDATE (R421): SPDM KEY_UPDATE. -/
  | spdmKeyUpdate (session : Nat) (op : Nat)
  /-- SPDM_END_SESSION (R421): SPDM END_SESSION. -/
  | spdmEndSession (session : Nat)
  /-- WARD_OPEN (R413): Assigns a ward's groups, engines and queues and generates its keys and nonce. -/
  | wardOpen (ward groups streamMask collMask qbase qcount : Nat)
  /-- SLICE_ASSIGN (R415): Resets slices to UNSET and gives them to a ward or to none. -/
  | sliceAssign (wardByte first count target : Nat)
  /-- SET_POLICY (R416): Stores the policy key and locks the ward. -/
  | setPolicy (ward : Nat) (key : List Byte)
  /-- INSTALL_KEY (R426): Unwraps a weight key blob into a key slot. -/
  | installKey (ward : Nat) (blob : List Byte)
  /-- BUNDLE (R428): Verifies and applies a signed list of control-space writes in two passes. -/
  | bundle (ward addr len : Nat)
  /-- LINK_KEY (R435): Installs a link key entry derived with a peer. -/
  | linkKey (ward keyId peer : Nat) (peerPub peerNonce : List Byte) (auth : Option SignedReq)
  /-- UNSEAL_RING (R432): Binds an unseal context to the ward and sets its ring. -/
  | unsealRing (ward ctx base log2 sigCtr sigTkind sigTarget sigAllward : Nat) (auth : Option SignedReq)
  /-- WARD_RELEASE (R438): Stops the ward, destroys its keys, resets its slices and starts power gating. -/
  | wardRelease (ward : Nat)
  /-- WARD_REQUEST_UNKNOWN (R423): A ward request with an unknown code, bad ward or short payload is answered with BOUNDS. -/
  | wardRequestUnknown (code ward : Nat) (payload : List Byte)
  /-- WARD_GATE_VERIFIED (R439): Gated domains are verified cleared; counters zeroed and the ward becomes FREE. -/
  | wardGateVerified (ward : Nat)
  /-- GATE_FAIL_TIMEOUT (R439): A domain not verified within 10 ms leaves the ward RELEASING and marks cells faulty. -/
  | gateFailTimeout (ward : Nat) (cells : List Nat)
  /-- RNG_HEALTH_FAIL (R417): The entropy source fails a health test and key requests are denied. -/
  | rngHealthFail
  /-- RNG_HEALTH_PASS (R417): The entropy source passes again. -/
  | rngHealthPass
  /-- UNSEAL_POLL (R432): Every 1 µs the engine reads PROD of each enabled ring and checks new jobs. -/
  | unsealPoll
  /-- UNSEAL_CHUNK (R434): A 4 KiB chunk is decrypted and the engine turns to the next waiting context. -/
  | unsealChunk
  /-- STANDBY_UP (R444): The input enters range; the standby domain comes up and stage 0 verifies an image. -/
  | standbyUp (bootRecordOk slot0Ok slot1Ok : Bool)
  /-- STAGE_REACHED (R444): A start-up stage completes and applies its part of the snapshot. -/
  | stageReached (stage : Nat)
  /-- STAGE_TIMEOUT (R445): A stage condition not met in time halts the module with a cause. -/
  | stageTimeout (cause : Nat)
  /-- NAND_OP_DONE (R447): A NAND read, program or erase completes, with retirement or refresh on failure. -/
  | nandOpDone (res : NandResult)
  /-- NAND_PATROL (R452): The 7-day patrol reads a page and refreshes its block if needed. -/
  | nandPatrol (page : Nat) (corrected : Nat)
  /-- COMMIT_START (R456): A requested or deferred commit starts once hold-up energy covers it. -/
  | commitStart
  /-- LATCH_EFFECT (R463): At boundary T_L the staged values take effect in every named block. -/
  | latchEffect
  /-- TXN_TIMEOUT (R460): An open transaction idle for TIMEOUT_S is rolled back. -/
  | txnTimeout
  /-- FW_OP_DONE (R467): A firmware operation finishes and reports its status. -/
  | fwOpDone
  /-- FW_CONFIRM_TIMEOUT (R467): An unconfirmed TRIAL image after CONFIRM_MIN reverts to the other slot. -/
  | fwConfirmTimeout
  /-- TAG_INVENTORY (R474): Field ISO/IEC 15693 Inventory. -/
  | tagInventory
  /-- TAG_GET_SYSTEM_INFO (R474): Field Get System Information. -/
  | tagGetSystemInfo
  /-- TAG_EXT_GET_SYSTEM_INFO (R474): Field Extended Get System Information. -/
  | tagExtGetSystemInfo
  /-- TAG_READ_SINGLE_BLOCK (R474): Field Read Single Block, or its Extended form. -/
  | tagReadSingleBlock (block : Nat)
  /-- TAG_READ_MULTIPLE_BLOCKS (R474): Field Read Multiple Blocks of at most 32 blocks. -/
  | tagReadMultipleBlocks (first count : Nat)
  /-- TAG_WRITE_SINGLE_BLOCK (R474): Field Write Single Block, accepted in the mailbox only. -/
  | tagWriteSingleBlock (block : Nat) (data : List Byte)
  /-- TAG_FIELD_UNSUPPORTED (R474): Any other field command is answered with error 0x01. -/
  | tagFieldUnsupported (code : Nat)
  /-- TAG_WIRED_ACCESS (R475): A wired I²C access to the tag, arbitrated against the field and other master. -/
  | tagWiredAccess (master : TagMaster) (wr : Bool) (addr len : Nat) (data : List Byte) (lock : Bool)
  /-- TAG_WIRED_HOLD_TIMEOUT (R475): A held wired access is NAKed after 30 ms. -/
  | tagWiredHoldTimeout (master : TagMaster)
  /-- TAG_LOCK_TIMEOUT (R475): A wired multi-page lock is released after 50 ms. -/
  | tagLockTimeout
  /-- TAG_ACCESS_DONE (R480): A TAG_ACCESS operation ends with its status. -/
  | tagAccessDone (nak : Bool)
  /-- MBOX_ASSET_NOTE (R478): Mailbox command copying data into the asset note. -/
  | mboxAssetNote
  /-- MBOX_SERVICE_MARK (R478): Mailbox command setting SERVICE_MARK. -/
  | mboxServiceMark
  /-- MBOX_INVALID (R478): A mailbox with a reserved CMD or VER is answered with BOUNDS. -/
  | mboxInvalid
  /-- CONFIG_DIGEST_WRITE (R477): After a commit, at most once per 60 s, the digest record is written to the tag. -/
  | configDigestWrite
  /-- TAG_FAULT (R481): The tag does not answer the module controller for 1 s. -/
  | tagFault
  /-- LEASE_TX (R484): The lead half sends LEASE every 1 ms. -/
  | leaseTx (half : Nat)
  /-- LEASE_RX (R485): A received LEASE is accepted or refused by epoch. -/
  | leaseRx (half epoch : Nat)
  /-- LEASE_ACK_RX (R485): A received LEASE_ACK confirms the follow half. -/
  | leaseAckRx (half epoch : Nat)
  /-- LEASE_NAK_RX (R485): A received LEASE_NAK with higher epoch demotes a lead half. -/
  | leaseNakRx (half epoch : Nat)
  /-- HANDOFF_RX (R485): A received HANDOFF with higher epoch makes the half LEAD and sends ACCEPT. -/
  | handoffRx (half epoch : Nat)
  /-- ACCEPT_RX (R485): A received ACCEPT completes a handoff. -/
  | acceptRx (half epoch : Nat)
  /-- LEASE_LAPSE (R485): No accepted LEASE for 2.5 ms makes the follow half SAFE. -/
  | leaseLapse (half : Nat)
  /-- LEASE_NO_ACK (R485): No LEASE_ACK for 2.5 ms makes the lead act alone. -/
  | leaseNoAck (half : Nat)
  /-- HANDOFF_STALL (R485): No ACCEPT within 1 ms resends HANDOFF. -/
  | handoffStall (half : Nat)
  /-- HC_STATUS_POLL (R488): Every 1 ms the module controller asks each half controller for status. -/
  | hcStatusPoll
  /-- HC_HANG (R488): A half controller silent for 5 ms is restarted after leadership moves. -/
  | hcHang (half : Nat)
  /-- MC_WATCHDOG (R488): The watchdog restarts module controller firmware unserved for 100 ms. -/
  | mcWatchdog
  /-- ALARM_DEQUEUE (R497): A freed queue entry takes the oldest waiting alarm key. -/
  | alarmDequeue (path : Nat)
  /-- SUMMARY_DEQUEUE (R498): A summary record enters its queue when entries above the reserve are free. -/
  | summaryDequeue (path : Nat)
  /-- HOST_RING_WRITE (R500): An event record is written to the host ring and PROD advanced, with MSI-X vector 0. -/
  | hostRingWrite
  /-- HOST_RING_STALL (R500): The host ring full for 1 s raises a log event. -/
  | hostRingStall
  /-- GET_EVENTS (R501): Sideband command returning the count and up to 8 oldest records. -/
  | getEvents
  /-- ACK_EVENTS (R501): Sideband command removing returned records up to a SEQ. -/
  | ackEvents (seq : Nat)
  /-- INCIDENT_PAGE_PROGRAM (R502): A page of records is programmed when full or its timer expires and energy allows. -/
  | incidentPageProgram
  /-- EN_ASSERT (R527): EN asserted with the input in range for 20 ms starts the rail sequence. -/
  | enAssert
  /-- POWER_GOOD (R527): Every rail is in regulation and PWRGD asserts. -/
  | powerGood
  /-- EN_DEASSERT (R528): EN deasserted for 10 µs starts a normal power-down. -/
  | enDeassert
  /-- INPUT_LOSS (R528): Input below 42 V for 5 µs starts an emergency power-down. -/
  | inputLoss
  /-- INPUT_OVERVOLTAGE (R528): Input above 61 V for 5 µs starts an emergency power-down. -/
  | inputOvervoltage
  /-- RAIL_FAULT (R531): A rail leaves regulation, is recorded, and the emergency order applies. -/
  | railFault (rail mv timeMs : Nat)
  /-- RAIL_DISCHARGED (R529): A rail falls below 10 % and the next rail of the normal order is disabled. -/
  | railDischarged (rail : Nat)
  /-- RAIL_DISCHARGE_TIMEOUT (R531): A disabled rail not below 10 % within 2 ms switches to the emergency order. -/
  | railDischargeTimeout (rail mv timeMs : Nat)
  /-- EMERGENCY_STEP (R530): A timed step of the emergency order disables the next rails. -/
  | emergencyStep
  /-- POWERUP_RETRY (R533): One second after a power-up rail failure, power-up is tried once more. -/
  | powerupRetry
  /-- INPUT_RETURN (R535): The input returns during a power-down or on hold-up; a cold start follows when allowed. -/
  | inputReturn
  /-- SB_GET_SUPPLY (R521): Sideband command returning the supply status. -/
  | sbGetSupply (vin iin vhu : Nat)
  /-- SB_GET_RAIL_FAULTS (R520): Sideband command returning the rail fault record. -/
  | sbGetRailFaults
  /-- SB_CLEAR_RAIL_FAULTS (R520): Sideband command emptying the rail fault record. -/
  | sbClearRailFaults
  /-- SB_RESTART (R520): Sideband command powering down and making a cold start. -/
  | sbRestart
  /-- SB_UNKNOWN_COMMAND (R520): An unknown sideband command is answered with BOUNDS. -/
  | sbUnknownCommand (code : Nat)
  /-- JTAG_BYPASS (R522): Boundary-scan BYPASS instruction. -/
  | jtagBypass
  /-- JTAG_IDCODE (R522): Boundary-scan IDCODE instruction. -/
  | jtagIdcode
  /-- JTAG_SAMPLE_PRELOAD (R522): Boundary-scan SAMPLE/PRELOAD instruction. -/
  | jtagSamplePreload (preload : List Bool)
  /-- JTAG_EXTEST (R523): Boundary-scan EXTEST drives the row B outputs. -/
  | jtagExtest
  /-- JTAG_CLAMP (R522): Boundary-scan CLAMP, BYPASS while a ward is locked. -/
  | jtagClamp
  /-- JTAG_HIGHZ (R522): Boundary-scan HIGHZ, BYPASS while a ward is locked. -/
  | jtagHighz
  /-- JTAG_UNLOCK (R523): A verified debug response sets DEBUG and faults locked wards. -/
  | jtagUnlock (response : List Byte)
  /-- CM_MEASUREMENT (R537): The bank reaches 4.5 V and its capacitance is measured. -/
  | cmMeasurement (chargeMc : Nat)
  /-- GAUGE_FAULT (R538): The estimates disagree for 1 s and the gauge enters fault. -/
  | gaugeFault
  /-- GAUGE_FAULT_CLEAR (R538): The estimates agree for 10 s and the gauge fault clears. -/
  | gaugeFaultClear
  /-- RAIL_IN_REGULATION (R527): During power-up a rail comes into regulation and the next rail of the sequence is enabled. -/
  | railInRegulation (rail : Nat)
  /-- INPUT_IN_RANGE_20MS (R527): The input has been in range for 20 ms while EN is already asserted, so power-up starts; likewise the 1 s at or below 59 V after an over-voltage. -/
  | inputInRange20ms
  /-- HOLD_UP_EXHAUSTED (R526): The hold-up bank falls to the 2.00 V floor and the standby domain, with the module controller and address 0x52, turns off. -/
  | holdUpExhausted
  /-- CONTROLLER_RESTART_DONE (R488): A restarted half controller or module controller is running again: the half comes up as FOLLOW with epoch 0 and step-ups resume, or MC_RESTART is raised and the MGMT, CFG, TAG and SEC windows return. -/
  | controllerRestartDone (which : Controller)
  /-- REFRESH_MANAGEMENT_REQUEST (R218): An HBM stack issues a refresh management request, and the controller honours it within the time the stack allows. -/
  | refreshManagementRequest (stack : Nat)
  /-- IRQ_MIN_EXPIRY (R500): The IRQ_MIN_US or MIN_US hold-off of an MSI-X vector runs out, and the interrupt for records or entries written during the hold-off is raised. -/
  | irqMinExpiry (vector : Nat)
  /-- HOST_LINK_L1_CHANGE (R517): The host link enters L1.2 or returns to L0, asserting WAKE# when an MSI-X or event record is pending, or deasserting it within 10 µs of L0. -/
  | hostLinkL1Change (inL12 : Bool)
deriving DecidableEq, Repr

end Sys2Proof
end

