-- ==== Sys2Proof/WellFormed.lean ====
section
/-! DEFINITION. Which commands are well formed: every operand that names a part of the module names one that exists, and
every field of a packet fits its place. A range that the spec itself answers with a status (an address, a length, a ward byte)
is no condition of this file. -/

namespace Sys2Proof

/-- A requester that exists (R26, R118). -/
def Requester.wf : Requester → Bool
  | .host => true
  | .mc => true
  | .hc h => decide (h < 2)
  | .core k => decide (k < 168)
  | .xport => true

/-- A controller that exists (R488). -/
def Controller.wf : Controller → Bool
  | .moduleCtl => true
  | .halfCtl h => decide (h < 2)

/-- An access within one line (R187, R240). -/
def LineAccess.wf : LineAccess → Bool
  | .read hint _ => decide (hint < 4)
  | .write hint off data => decide (hint < 4) && decide (0 < data.length) && decide (off + data.length ≤ 64)
  | .atomic off _ operand => decide (off < 64) && decide (operand.length ≤ 128)

/-- A receiving port that exists: 0–15, or 16 for the module's own memory fabric (R280). -/
def RxInfo.wf (r : RxInfo) : Bool := decide (r.port < 17)

/-- Every field of a header fits its place (R276). -/
def Packet.wf (p : Packet) : Bool :=
  decide (p.ver < 16) && decide (p.typ < 16) && decide (p.srcDev < 2 ^ 16) && decide (p.dstDev < 2 ^ 16) &&
  decide (p.dstQueue < 2 ^ 20) && decide (p.srcQueue < 2 ^ 20) && decide (p.msgId < 2 ^ 32) && decide (p.pktIndex < 2 ^ 20) &&
  decide (p.xmit < 16) && decide (p.ctrlOp < 256) && decide (p.regionKey < 2 ^ 32) && decide (p.accessKey < 2 ^ 32) &&
  decide (p.keyId < 2 ^ 16) && decide (p.offset < 2 ^ 48) && decide (p.msgLen < 2 ^ 32) && decide (p.status < 256) &&
  decide (p.collId < 2 ^ 16) && decide (p.payload.length ≤ 4096)

/-- Header fields that fit their places (R275, R279). -/
def IpHead.wf (i : IpHead) : Bool :=
  decide (i.src < 2 ^ 128) && decide (i.dst < 2 ^ 128) && decide (i.dscp < 64) && decide (i.ecn < 4) && decide (i.srcPort < 2 ^ 16) &&
  decide (i.dstPort < 2 ^ 16)

/-- A tag with a VID of 12 bits and a PCP of 3, and a Sirri payload that is a packet (R331, R337). -/
def Frame.wf (f : Frame) : Bool :=
  (match f.tag with
    | none => true
    | some (v, p) => decide (v < 4096) && decide (p < 8)) &&
  (match f.kind with
    | .sirri ip p => ip.wf && p.wf
    | .pfc prios quanta => decide (prios < 256) && decide (quanta < 65536)
    | .lldp => true
    | .arpNd => true
    | .echo => true
    | .pause => true
    | .parking typ seq => decide (typ < 256) && decide (seq < 65536)
    | .other => true)

/-- TLV fields fit their places (R307). -/
def Lldp.wf (l : Lldp) : Bool :=
  decide (l.mac < 2 ^ 48) && decide (l.devnum < 2 ^ 16) && decide (l.portIndex < 2 ^ 8) && decide (l.prio < 2 ^ 8)

/-- Whether a command is well formed. -/
def Instr.wf : Instr → Bool
  | .registerWrite who _ _ _ => who.wf
  | .rcRead who _ _ => who.wf
  | .refLockLost => true
  | .refHoldoverExpiry => true
  | .refLockRegained => true
  | .cellCheckFail half row col => decide (half < 2) && decide (row < 8) && decide (col < 9)
  | .parityRateLimit half row col => decide (half < 2) && decide (row < 8) && decide (col < 9)
  | .meshPacketArrive _ => true
  | .hingeSublinkDown sublink => decide (sublink < 32)
  | .rvInstruction core _ => decide (core < 168)
  | .ebreak core => decide (core < 168)
  | .tcStage core => decide (core < 168)
  | .tcLds core _ => decide (core < 168)
  | .tcPushs core => decide (core < 168)
  | .pushsUnstall core => decide (core < 168)
  | .tcDone core => decide (core < 168)
  | .scRead core => decide (core < 168)
  | .scWait core => decide (core < 168)
  | .scWaitRelease core => decide (core < 168)
  | .scAdd core => decide (core < 168)
  | .kenarisIllegal core => decide (core < 168)
  | .seqRun who core _ => who.wf && decide (core < 168)
  | .seqHalt who core _ => who.wf && decide (core < 168)
  | .fgResume who core => who.wf && decide (core < 168)
  | .fgFlush who core => who.wf && decide (core < 168)
  | .fillResume who core => who.wf && decide (core < 168)
  | .fillFlush who core => who.wf && decide (core < 168)
  | .fillEnableWrite who core _ => who.wf && decide (core < 168)
  | .syncCtrWrite who core ctr _ => who.wf && decide (core < 168) && decide (ctr < 64)
  | .imemWrite who core _ _ => who.wf && decide (core < 168)
  | .commandIssue core strm => decide (core < 168) && decide (strm < 2)
  | .commandComplete core unit => decide (core < 168) && decide (unit < 8)
  | .matmul core _ => decide (core < 168)
  | .conv core _ => decide (core < 168)
  | .weightLoadDone core => decide (core < 168)
  | .passStart core _ => decide (core < 168)
  | .passDone core _ => decide (core < 168)
  | .load core _ => decide (core < 168)
  | .store core _ => decide (core < 168)
  | .gather core => decide (core < 168)
  | .quant core _ => decide (core < 168)
  | .dequant core _ => decide (core < 168)
  | .sfn core _ => decide (core < 168)
  | .norm core _ => decide (core < 168)
  | .reduce core _ => decide (core < 168)
  | .rng core => decide (core < 168)
  | .optUpdate core _ => decide (core < 168)
  | .sync core => decide (core < 168)
  | .wait core => decide (core < 168)
  | .signal core => decide (core < 168)
  | .send core _ => decide (core < 168)
  | .sendQueue core _ => decide (core < 168)
  | .recv core => decide (core < 168)
  | .recvTimeout core => decide (core < 168)
  | .cqsend core => decide (core < 168)
  | .cadd core => decide (core < 168)
  | .cbegin core => decide (core < 168)
  | .cend core => decide (core < 168)
  | .sfnTableWrite who cell _ _ => who.wf && decide (cell < 128)
  | .sfnTdescWrite who cell tbl _ => who.wf && decide (cell < 128) && decide (tbl < 4)
  | .sfnValidClearDone cell tbl => decide (cell < 128) && decide (tbl < 4)
  | .sfnBcastWrite who half _ _ => who.wf && decide (half < 2)
  | .blockAccess who line acc _ => who.wf && decide (line < 2 ^ 33) && acc.wf
  | .fillStart half ward block _ _ => decide (half < 2) && decide (ward < 8) && decide (block < 2 ^ 23)
  | .fillDone block => decide (block < 2 ^ 23)
  | .drainDone block => decide (block < 2 ^ 23)
  | .bankSlotGrant stack bank => decide (stack < 8) && decide (bank < 4096)
  | .walkEnable who half ward _ => who.wf && decide (half < 2) && decide (ward < 8)
  | .walkDisable who half ward => who.wf && decide (half < 2) && decide (ward < 8)
  | .walkResume who half ward => who.wf && decide (half < 2) && decide (ward < 8)
  | .walkEntryStart half ward => decide (half < 2) && decide (ward < 8)
  | .walkFrameAvailable half ward => decide (half < 2) && decide (ward < 8)
  | .walkEntryDone half ward => decide (half < 2) && decide (ward < 8)
  | .tierOpMigrate who half _ _ ward => who.wf && decide (half < 2) && decide (ward < 8)
  | .tierOpEvict who half _ ward => who.wf && decide (half < 2) && decide (ward < 8)
  | .tierOpClean who half _ ward => who.wf && decide (half < 2) && decide (ward < 8)
  | .tierOpDone half => decide (half < 2)
  | .hbmLineRead line _ => decide (line < 2 ^ 33)
  | .hbmLineWrite line off _ _ => decide (line < 2 ^ 33) && decide (off < 64)
  | .msoOperation line off _ _ _ => decide (line < 2 ^ 33) && decide (off < 64)
  | .clearingDone stack region => decide (stack < 8) && decide (region < 65536)
  | .bgClearStart stack => decide (stack < 8)
  | .refresh stack pc bank => decide (stack < 8) && decide (pc < 64) && decide (bank < 64)
  | .patrolRead stack _ => decide (stack < 8)
  | .hbmTempReading stack _ => decide (stack < 8)
  | .hbmTempLost stack => decide (stack < 8)
  | .unfence who stack => who.wf && decide (stack < 8)
  | .pcRetrainStart who stack pc => who.wf && decide (stack < 8) && decide (pc < 64)
  | .pcRetrainDone stack _ => decide (stack < 8)
  | .pcRetrainSchedule => true
  | .regionReset who stack _ _ => who.wf && decide (stack < 8)
  | .regionClearNow who stack _ _ => who.wf && decide (stack < 8)
  | .regionCmdDone stack => decide (stack < 8)
  | .rxWrite rx pkt => rx.wf && pkt.wf
  | .rxReadReq rx pkt => rx.wf && pkt.wf
  | .rxReadResp rx pkt => rx.wf && pkt.wf
  | .rxSend rx pkt => rx.wf && pkt.wf
  | .rxAtomic rx pkt => rx.wf && pkt.wf
  | .rxAck rx pkt => rx.wf && pkt.wf
  | .rxNak rx pkt => rx.wf && pkt.wf
  | .rxProbe rx pkt => rx.wf && pkt.wf
  | .rxProbeEcho rx pkt => rx.wf && pkt.wf
  | .rxCtrlAbort rx pkt => rx.wf && pkt.wf
  | .retxTimeout _ _ => true
  | .nakRetryTimer _ _ => true
  | .ackCoalesceTimeout _ _ => true
  | .lastPacketSend _ _ => true
  | .filterEntryExpire _ _ => true
  | .msgTimeout _ => true
  | .probeTimer => true
  | .msgContextGrant => true
  | .xportDoorbell who queue _ => who.wf && decide (queue < 2 ^ 20)
  | .xportCqDoorbell who queue _ => who.wf && decide (queue < 2 ^ 20)
  | .descWrite queue => decide (queue < 2 ^ 20)
  | .descRead queue => decide (queue < 2 ^ 20)
  | .descSend queue => decide (queue < 2 ^ 20)
  | .descAtomic queue => decide (queue < 2 ^ 20)
  | .descRecv queue => decide (queue < 2 ^ 20)
  | .descInvalid queue => decide (queue < 2 ^ 20)
  | .cqEntryWrite queue => decide (queue < 2 ^ 20)
  | .ctxCmdRead who queue => who.wf && decide (queue < 2 ^ 20)
  | .ctxCmdWrite who queue => who.wf && decide (queue < 2 ^ 20)
  | .regionRegister who ward _ _ _ => who.wf && decide (ward < 8)
  | .regionDeregister who ward => who.wf && decide (ward < 8)
  | .regCmdDone => true
  | .lldpTx port => decide (port < 16)
  | .lldpRx port info => decide (port < 16) && decide (info.sub < 2) && info.wf
  | .electionSettled => true
  | .collDeadline _ => true
  | .collAbortWrite who _ => who.wf
  | .abortWindowExpiry _ => true
  | .abortTableExpire _ => true
  | .portFrameRx port sub frame _ => decide (port < 16) && decide (sub < 2) && frame.wf
  | .portFrameTx port sub => decide (port < 16) && decide (sub < 2)
  | .arpNdRequest port sub _ _ _ => decide (port < 16) && decide (sub < 2)
  | .icmpEcho port sub _ _ _ => decide (port < 16) && decide (sub < 2)
  | .rxPfc port sub _ _ => decide (port < 16) && decide (sub < 2)
  | .pfcPauseExpiry port _ => decide (port < 16)
  | .rxPause port sub => decide (port < 16) && decide (sub < 2)
  | .pfcRefresh port => decide (port < 16)
  | .pfcStorm port => decide (port < 16)
  | .pfcStormEnd port => decide (port < 16)
  | .linkDown port sub _ _ => decide (port < 16) && decide (sub < 2)
  | .linkAligned port sub => decide (port < 16) && decide (sub < 2)
  | .linkupHoldExpiry port sub => decide (port < 16) && decide (sub < 2)
  | .fecDegrade port counts => decide (port < 16) && decide (counts.lanes.length ≤ 8)
  | .retime who port => who.wf && decide (port < 16)
  | .parkWindow port _ _ => decide (port < 16)
  | .parkReq port _ => decide (port < 16)
  | .parkAck port _ => decide (port < 16)
  | .parkNak port _ => decide (port < 16)
  | .parkGo port _ => decide (port < 16)
  | .parkAnswerTimeout port => decide (port < 16)
  | .wake port _ => decide (port < 16)
  | .lanesLocked port => decide (port < 16)
  | .wakeAck port _ => decide (port < 16)
  | .wakeTimeout port => decide (port < 16)
  | .parkRefresh port _ => decide (port < 16)
  | .hostConfigRequest _ _ _ => true
  | .hostBar0Access _ _ _ _ => true
  | .hostDoorbellProd _ _ _ => true
  | .hostDoorbellCq _ _ _ => true
  | .hostPlaceFlag _ _ => true
  | .hostBar4Write _ _ => true
  | .hostBar4Read _ => true
  | .cxlMemRead _ _ => true
  | .cxlMemWrite _ _ _ => true
  | .hostSnoop line _ _ => decide (2 ^ 34 ≤ line ∧ line < 2 ^ 35)
  | .hostLinkUp _ _ _ => true
  | .hostLinkDown => true
  | .perstAssert => true
  | .perstDeassert => true
  | .hotReset => true
  | .flr => true
  | .pstateEntry _ => true
  | .pstateWake => true
  | .pmTolWrite who _ => who.wf
  | .pInSample _ _ => true
  | .clampEnd => true
  | .ocpTrip _ => true
  | .governorDecision half _ _ => decide (half < 2)
  | .capStepCheck _ _ => true
  | .supplySettled cell => decide (cell < 128)
  | .cellSupplySample cell _ => decide (cell < 128)
  | .neighbourHoldEnd cell bound => decide (cell < 128) && decide (bound.other < 128)
  | .droopDetect cell _ => decide (cell < 128)
  | .droopRecover cell => decide (cell < 128)
  | .stretchLimit cell => decide (cell < 128)
  | .droopStepEnd cell => decide (cell < 128)
  | .startGrant core => decide (core < 168)
  | .energyModelTick counts ways => counts.all (fun e => decide (e.coef < 6) && e.coef ≠ 4 && decide (e.unit < 168)) && ways.all (fun e => decide (e.half < 2) && decide (e.way < 16))
  | .corrUpdate half _ => decide (half < 2)
  | .cellTempReading cell _ => decide (cell < 128)
  | .thermalStepTimer => true
  | .lsTempReading half _ _ => decide (half < 2)
  | .coolantReading _ _ => true
  | .cellSensorLost cell => decide (cell < 128)
  | .pInLost => true
  | .deadboltTrip _ _ _ => true
  | .inputRemoved1s => true
  | .spdmGetVersion => true
  | .spdmGetCapabilities _ => true
  | .spdmNegotiateAlgorithms _ => true
  | .spdmGetDigests => true
  | .spdmGetCertificate _ _ _ => true
  | .spdmChallenge _ _ => true
  | .spdmGetMeasurements _ _ _ _ => true
  | .spdmKeyExchange _ _ _ => true
  | .spdmFinish _ _ => true
  | .spdmHeartbeat _ => true
  | .spdmKeyUpdate _ _ => true
  | .spdmEndSession _ => true
  | .wardOpen ward _ _ _ _ _ => decide (ward < 256)
  | .sliceAssign _ _ _ _ => true
  | .setPolicy ward _ => decide (ward < 256)
  | .installKey ward _ => decide (ward < 256)
  | .bundle ward _ _ => decide (ward < 256)
  | .linkKey ward _ _ _ _ _ => decide (ward < 256)
  | .unsealRing ward _ _ _ _ _ _ _ _ => decide (ward < 256)
  | .wardRelease ward => decide (ward < 256)
  | .wardRequestUnknown _ ward _ => decide (ward < 256)
  | .wardGateVerified ward => decide (ward < 8)
  | .gateFailTimeout ward _ => decide (ward < 8)
  | .rngHealthFail => true
  | .rngHealthPass => true
  | .unsealPoll => true
  | .unsealChunk => true
  | .standbyUp _ _ _ => true
  | .stageReached _ => true
  | .stageTimeout _ => true
  | .nandOpDone _ => true
  | .nandPatrol _ _ => true
  | .commitStart => true
  | .txnBegin who => who.wf
  | .txnFieldWrite who _ _ => who.wf
  | .txnLatch who _ => who.wf
  | .latchEffect => true
  | .txnRollback who => who.wf
  | .txnTimeout => true
  | .fwInstall who _ => who.wf
  | .fwSwitchNext who => who.wf
  | .fwSwitchLive who => who.wf
  | .fwConfirm who => who.wf
  | .fwInstallCal who _ => who.wf
  | .fwOpDone => true
  | .fwConfirmTimeout => true
  | .tagInventory => true
  | .tagGetSystemInfo => true
  | .tagExtGetSystemInfo => true
  | .tagReadSingleBlock _ => true
  | .tagReadMultipleBlocks _ _ => true
  | .tagWriteSingleBlock _ _ => true
  | .tagFieldUnsupported _ => true
  | .tagWiredAccess _ _ _ _ _ _ => true
  | .tagWiredHoldTimeout _ => true
  | .tagLockTimeout => true
  | .tagAccessRead who _ => who.wf
  | .tagAccessWrite who _ => who.wf
  | .tagAccessDone _ => true
  | .mboxAssetNote => true
  | .mboxServiceMark => true
  | .mboxInvalid => true
  | .configDigestWrite => true
  | .tagFault => true
  | .leaseTx half => decide (half < 2)
  | .leaseRx half _ => decide (half < 2)
  | .leaseAckRx half _ => decide (half < 2)
  | .leaseNakRx half _ => decide (half < 2)
  | .handoffRx half _ => decide (half < 2)
  | .acceptRx half _ => decide (half < 2)
  | .leaseLapse half => decide (half < 2)
  | .leaseNoAck half => decide (half < 2)
  | .handoffStall half => decide (half < 2)
  | .orderTakeLead who half _ => who.wf && decide (half < 2)
  | .orderHandOff who half => who.wf && decide (half < 2)
  | .hcStatusPoll => true
  | .hcHang half => decide (half < 2)
  | .mcWatchdog => true
  | .alarmDequeue path => decide (path < 5)
  | .summaryDequeue path => decide (path < 5)
  | .hostRingWrite => true
  | .hostRingStall => true
  | .getEvents => true
  | .ackEvents _ => true
  | .incidentPageProgram => true
  | .evtNandRead who _ _ => who.wf
  | .enAssert => true
  | .powerGood => true
  | .enDeassert => true
  | .inputLoss => true
  | .inputOvervoltage => true
  | .railFault rail _ _ => decide (rail < 16)
  | .railDischarged rail => decide (rail < 16)
  | .railDischargeTimeout rail _ _ => decide (rail < 16)
  | .emergencyStep => true
  | .powerupRetry => true
  | .inputReturn => true
  | .sbGetSupply _ _ _ => true
  | .sbGetRailFaults => true
  | .sbClearRailFaults => true
  | .sbRestart => true
  | .sbUnknownCommand _ => true
  | .jtagBypass => true
  | .jtagIdcode => true
  | .jtagSamplePreload _ => true
  | .jtagExtest => true
  | .jtagClamp => true
  | .jtagHighz => true
  | .jtagUnlock _ => true
  | .cmMeasurement _ => true
  | .gaugeFault => true
  | .gaugeFaultClear => true
  | .railInRegulation rail => decide (rail < 16)
  | .inputInRange20ms => true
  | .holdUpExhausted => true
  | .controllerRestartDone which => which.wf
  | .refreshManagementRequest stack => decide (stack < 8)
  | .irqMinExpiry vector => decide (vector < 64)
  | .hostLinkL1Change _ => true

end Sys2Proof
end

