-- ==== Sys2Proof/Machine/Bits.lean ====
section
/-! DEFINITION. Bit fields of control words (R7, R10), byte strings (little-endian, R7, R99) and small list helpers. -/

namespace Sys2Proof.Machine

/-- Bits [lsb+w−1:lsb] of a natural number. -/
def bitsOf (v lsb w : Nat) : Nat := (v >>> lsb) % 2 ^ w

/-- `v` with bits [lsb+w−1:lsb] replaced by the low bits of `x`. -/
def putBits (v lsb w x : Nat) : Nat := v - ((v >>> lsb) % 2 ^ w) <<< lsb + (x % 2 ^ w) <<< lsb

/-- One bit as a Bool. -/
def bitAt (v i : Nat) : Bool := (v >>> i) % 2 = 1

/-- A Bool as the value of a one-bit field. -/
def b2n (b : Bool) : Nat := if b then 1 else 0

/-- Field of a 64-bit word (R10: [lsb+w−1:lsb]). -/
def fld (v : W64) (lsb w : Nat) : Nat := bitsOf v.toNat lsb w

/-- A 64-bit word with one field replaced. -/
def setFld (v : W64) (lsb w x : Nat) : W64 := BitVec.ofNat 64 (putBits v.toNat lsb w x)

/-- Two's-complement reading of the low `w` bits. -/
def sext (w v : Nat) : Int :=
  let v := v % 2 ^ w
  if v < 2 ^ (w - 1) then (v : Int) else (v : Int) - (2 ^ w : Nat)

/-- The low `w` bits of an integer. -/
def wrapInt (w : Nat) (x : Int) : Nat := (x % ((2 ^ w : Nat) : Int)).toNat

/-- The `n` bytes of `v`, least significant first. -/
def leBytes : Nat → Nat → List Byte
  | 0, _ => []
  | n + 1, v => BitVec.ofNat 8 v :: leBytes n (v / 256)

/-- The number that bytes spell, least significant first. -/
def leNat : List Byte → Nat
  | [] => 0
  | b :: bs => b.toNat + 256 * leNat bs

/-- The number that bytes spell, most significant first. -/
def beNat (bs : List Byte) : Nat := leNat bs.reverse

/-- A number as `n` bytes, the most significant first. -/
def beBytes (n v : Nat) : List Byte := (leBytes n v).reverse

/-- `n` zero bytes. -/
def zeros (n : Nat) : List Byte := List.replicate n 0

/-- Exactly `n` bytes: cut, or padded with zeros. -/
def padTo (n : Nat) (bs : List Byte) : List Byte := (bs ++ zeros (n - bs.length)).take n

/-- The sub-list of `n` items from `off`. -/
def slice {α : Type} (l : List α) (off n : Nat) : List α := (l.drop off).take n

/-- `old` with `new` laid over it from `off`. -/
def overlay (old : List Byte) (off : Nat) (new : List Byte) : List Byte :=
  (old.take off ++ new ++ old.drop (off + new.length)).take old.length

/-- Saturating addition at the top of a `w`-bit counter. -/
def satAdd (w a b : Nat) : Nat := min (a + b) (2 ^ w - 1)

/-- Number of 1 bits among the low `w`. -/
def popCount : Nat → Nat → Nat
  | 0, _ => 0
  | w + 1, v => v % 2 + popCount w (v / 2)

/-- Positions of the 1 bits among the low `w`, rising. -/
def bitList (w v : Nat) : List Nat := (List.range w).filter (bitAt v)

/-- `⌈a / b⌉`. -/
def ceilDiv (a b : Nat) : Nat := (a + b - 1) / b

/-- `n` rounded up to a multiple of `m`. -/
def alignUp (n m : Nat) : Nat := ceilDiv n m * m

/-- Item `i` of a list replaced. -/
def setAt {α : Type} : List α → Nat → α → List α
  | [], _, _ => []
  | _ :: l, 0, x => x :: l
  | y :: l, i + 1, x => y :: setAt l i x

/-- Floor of log2, 0 for 0. -/
def log2 (n : Nat) : Nat := Nat.log2 n

end Sys2Proof.Machine
end

