-- ==== Sys2Proof/Machine/Map.lean ====
section
/-! DEFINITION. Sparse maps with a default, the ONE form in which the model keeps memories and indexed state: a list of
(key, value) pairs with strictly rising keys and no entry equal to what an unlisted key reads as. Equal maps are equal
lists. A memory is such a map of bytes whose unlisted addresses read as zero. -/

namespace Sys2Proof.Machine

/-- The value at a key; `d` is what an unlisted key reads as. -/
def mget {α : Type} (d : α) : List (Nat × α) → Nat → α
  | [], _ => d
  | (k, v) :: m, a => if k = a then v else mget d m a

/-- Puts an entry in its place, replacing one of the same key. -/
def minsert {α : Type} (a : Nat) (x : α) : List (Nat × α) → List (Nat × α)
  | [] => [(a, x)]
  | (k, v) :: m => if a < k then (a, x) :: (k, v) :: m else if a = k then (a, x) :: m else (k, v) :: minsert a x m

/-- Removes the entry of a key. -/
def merase {α : Type} (a : Nat) : List (Nat × α) → List (Nat × α)
  | [] => []
  | (k, v) :: m => if a = k then merase a m else (k, v) :: merase a m

/-- Writes one key; writing the default removes the entry, so that the form stays canonical. -/
def mset {α : Type} [DecidableEq α] (d : α) (m : List (Nat × α)) (a : Nat) (x : α) : List (Nat × α) :=
  if x = d then merase a m else minsert a x m

/-- Keys strictly rise from `lo`, and no entry holds what its unlisted key reads as. -/
def mwfFrom {α : Type} [DecidableEq α] (d : Nat → α) (lo : Nat) : List (Nat × α) → Bool
  | [] => true
  | (k, v) :: m => decide (lo ≤ k) && decide (v ≠ d k) && mwfFrom d (k + 1) m

/-- The canonical form of a sparse map whose unlisted key `a` reads as `d a`. -/
def mwfBy {α : Type} [DecidableEq α] (d : Nat → α) (m : List (Nat × α)) : Bool := mwfFrom d 0 m

/-- The canonical form of a sparse map. -/
def mwf {α : Type} [DecidableEq α] (d : α) (m : List (Nat × α)) : Bool := mwfBy (fun _ => d) m

/-- Applies a function to the value at a key. -/
def mmod {α : Type} [DecidableEq α] (d : α) (m : List (Nat × α)) (a : Nat) (f : α → α) : List (Nat × α) :=
  mset d m a (f (mget d m a))

/-- A set of numbers, kept as a sparse map to Bool. -/
abbrev NatSet := List (Nat × Bool)

/-- Membership. -/
def nmem (s : NatSet) (a : Nat) : Bool := mget false s a

/-- Adds or removes a member. -/
def nput (s : NatSet) (a : Nat) (b : Bool) : NatSet := mset false s a b

/-- The form of a byte memory (Host.Cell entries, unlisted bytes read zero). -/
def Memory.wf (m : List Host.Cell) : Bool := mwf (0 : Byte) m

/-- One byte of a memory. -/
def byteAt (m : List Host.Cell) (a : Nat) : Byte := mget 0 m a

/-- `n` bytes of a memory from `a`. -/
def bytesAt (m : List Host.Cell) (a : Nat) : Nat → List Byte
  | 0 => []
  | n + 1 => byteAt m a :: bytesAt m (a + 1) n

/-- Writes bytes from `a`. -/
def putBytes (m : List Host.Cell) (a : Nat) : List Byte → List Host.Cell
  | [] => m
  | b :: bs => putBytes (mset 0 m a b) (a + 1) bs

/-- Makes `n` bytes from `a` read zero (the entries go). -/
def zeroBytes (m : List Host.Cell) (a n : Nat) : List Host.Cell := m.filter (fun c => c.1 < a || a + n ≤ c.1)

/-- Drops every entry whose key lies in [a, a+n). -/
def meraseRange {α : Type} (m : List (Nat × α)) (a n : Nat) : List (Nat × α) :=
  m.filter (fun c => c.1 < a || a + n ≤ c.1)

/-- `dst` with the entries of [a, a+n) replaced by those of `src`. -/
def mcopyRange {α : Type} (src dst : List (Nat × α)) (a n : Nat) : List (Nat × α) :=
  dst.filter (fun c => c.1 < a) ++ src.filter (fun c => a ≤ c.1 && c.1 < a + n) ++ dst.filter (fun c => a + n ≤ c.1)

end Sys2Proof.Machine
end

