-- ==== Sys2Proof/Machine/Regs.lean ====
section
/-! DEFINITION. The control-space registers (R7 to R12, R23 to R25): where each lies and its fields, written out from the
register tables of the spec. An address here is the offset in control space (device address − 0xF000_0000_0000). -/

namespace Sys2Proof.Machine

/-- Access types of register fields (R8). -/
inductive Acc where
  | ro | rw | w1c | wo | rc | txn
deriving DecidableEq, Repr

/-- A field's place in its word. -/
structure Fld where
  lsb : Nat
  width : Nat
deriving DecidableEq, Repr

/-- One field of a register table: its place, access type, reset value and stated range (R5). -/
structure FieldDef where
  lsb : Nat
  width : Nat
  acc : Acc
  reset : Nat
  lo : Nat
  hi : Nat
deriving DecidableEq, Repr

/-- Whether a value lies in a field's stated range (R5). -/
def FieldDef.takes (f : FieldDef) (x : Nat) : Bool :=
  if f.lo ≤ f.hi then decide (f.lo ≤ x ∧ x ≤ f.hi) else decide (f.lo ≤ x ∨ x ≤ f.hi)

/-- One row of a block's register list: the offset of its first instance, the counts and strides of its instances
(largest stride first), and its fields that are not reserved. -/
structure RegDef where
  base : Nat
  dims : List (Nat × Nat)
  fields : List FieldDef
deriving DecidableEq, Repr

/-- A field whose range is all its encodings. -/
def fd (lsb width : Nat) (acc : Acc) (reset : Nat) : FieldDef := ⟨lsb, width, acc, reset, 0, 2 ^ width - 1⟩

/-- A field with a stated range from `lo` to `hi`; where `hi` lies below `lo`, the range goes through the field's largest code to 0. -/
def fdr (lsb width : Nat) (acc : Acc) (reset lo hi : Nat) : FieldDef := ⟨lsb, width, acc, reset, lo, hi⟩


/-! Register addresses. -/

namespace R

/-- MGMT_CAPS. -/
def MGMT_CAPS : Nat := 0x8

/-- MGMT_STAGE (R480). -/
def MGMT_STAGE : Nat := 0x100

/-- MGMT_FW_STATUS (R480). -/
def MGMT_FW_STATUS : Nat := 0x108

/-- MGMT_FW_VERSION (R480). -/
def MGMT_FW_VERSION (n : Nat) : Nat := 0x110 + n * 0x8

/-- MGMT_FW_ADDR (R480). -/
def MGMT_FW_ADDR : Nat := 0x120

/-- MGMT_FW_CTRL (R480). -/
def MGMT_FW_CTRL : Nat := 0x128

/-- MGMT_FW_OPSTATUS (R480). -/
def MGMT_FW_OPSTATUS : Nat := 0x130

/-- MGMT_FH_W (R159). -/
def MGMT_FH_W (w f c : Nat) : Nat := 0x200100 + w * 0x1000 + f * 0x20 + c * 0x8

/-- HALF_CAPS (R34). -/
def HALF_CAPS (h : Nat) : Nat := 0x1000008 + h * 0x40000000

/-- HALF_CELL_MAP (R35). -/
def HALF_CELL_MAP (h : Nat) : Nat := 0x1000100 + h * 0x40000000

/-- HALF_CELL_ABSENT (R36). -/
def HALF_CELL_ABSENT (h : Nat) : Nat := 0x1000108 + h * 0x40000000

/-- HALF_CELL_FAULT_LO (R37). -/
def HALF_CELL_FAULT_LO (h : Nat) : Nat := 0x1000110 + h * 0x40000000

/-- HALF_CELL_FAULT_HI (R37). -/
def HALF_CELL_FAULT_HI (h : Nat) : Nat := 0x1000118 + h * 0x40000000

/-- HALF_LEAD_STATUS (R506). -/
def HALF_LEAD_STATUS (h : Nat) : Nat := 0x1000200 + h * 0x40000000

/-- HALF_LEAD_CTRL (R506). -/
def HALF_LEAD_CTRL (h : Nat) : Nat := 0x1000208 + h * 0x40000000

/-- HALF_LEAD_COUNT (R506). -/
def HALF_LEAD_COUNT (h : Nat) : Nat := 0x1000210 + h * 0x40000000

/-- HALF_CVT_CTRL (R159). -/
def HALF_CVT_CTRL (h i : Nat) : Nat := 0x1400000 + h * 0x40000000 + i * 0x1000

/-- HALF_CVT_SEED (R159). -/
def HALF_CVT_SEED (h i : Nat) : Nat := 0x1400008 + h * 0x40000000 + i * 0x1000

/-- HALF_FH (R159). -/
def HALF_FH (h i f c : Nat) : Nat := 0x1400100 + h * 0x40000000 + i * 0x1000 + f * 0x20 + c * 0x8

/-- HALF_SFN_COEF_LO (R180). -/
def HALF_SFN_COEF_LO (h i t g : Nat) : Nat := 0x1500000 + h * 0x40000000 + i * 0x10000 + t * 0x1000 + g * 0x10

/-- HALF_SFN_COEF_HI (R180). -/
def HALF_SFN_COEF_HI (h i t g : Nat) : Nat := 0x1500008 + h * 0x40000000 + i * 0x10000 + t * 0x1000 + g * 0x10

/-- HALF_SFN_TDESC (R180). -/
def HALF_SFN_TDESC (h i t : Nat) : Nat := 0x1508000 + h * 0x40000000 + i * 0x10000 + t * 0x40

/-- HALF_SFN_TRANGE (R180). -/
def HALF_SFN_TRANGE (h i t : Nat) : Nat := 0x1508008 + h * 0x40000000 + i * 0x10000 + t * 0x40

/-- HALF_SFN_TLO (R180). -/
def HALF_SFN_TLO (h i t : Nat) : Nat := 0x1508010 + h * 0x40000000 + i * 0x10000 + t * 0x40

/-- HALF_SFN_THI (R180). -/
def HALF_SFN_THI (h i t : Nat) : Nat := 0x1508018 + h * 0x40000000 + i * 0x10000 + t * 0x40

/-- HALF_SFN_FTZ (R180). -/
def HALF_SFN_FTZ (h i : Nat) : Nat := 0x1509000 + h * 0x40000000 + i * 0x10000

/-- HALF_SFN_BCAST_MASK (R180). -/
def HALF_SFN_BCAST_MASK (h : Nat) : Nat := 0x144F000 + h * 0x40000000

/-- CELL_CAPS (R123). -/
def CELL_CAPS (k : Nat) : Nat := 0x8000008 + k * 0x20000

/-- CELL_SEQ_CTRL (R124). -/
def CELL_SEQ_CTRL (k : Nat) : Nat := 0x8000100 + k * 0x20000

/-- CELL_SEQ_STATUS (R124). -/
def CELL_SEQ_STATUS (k : Nat) : Nat := 0x8000108 + k * 0x20000

/-- CELL_SEQ_PC (R124). -/
def CELL_SEQ_PC (k : Nat) : Nat := 0x8000110 + k * 0x20000

/-- CELL_SEQ_FAULT (R124). -/
def CELL_SEQ_FAULT (k : Nat) : Nat := 0x8000118 + k * 0x20000

/-- CELL_STREAM_CTRL (R125). -/
def CELL_STREAM_CTRL (k : Nat) : Nat := 0x8000200 + k * 0x20000

/-- CELL_STREAM_STATUS (R125). -/
def CELL_STREAM_STATUS (k : Nat) : Nat := 0x8000208 + k * 0x20000

/-- CELL_STREAM_UNSET (R125). -/
def CELL_STREAM_UNSET (k : Nat) : Nat := 0x8000220 + k * 0x20000

/-- CELL_RNG_THRESH (R125). -/
def CELL_RNG_THRESH (k : Nat) : Nat := 0x8000400 + k * 0x20000

/-- CELL_VEC_EPS (R125). -/
def CELL_VEC_EPS (k : Nat) : Nat := 0x8000408 + k * 0x20000

/-- CELL_STREAM_FAULT (R125). -/
def CELL_STREAM_FAULT (k x : Nat) : Nat := 0x8000210 + k * 0x20000 + x * 0x8

/-- CELL_PROG_ELAPSED. -/
def CELL_PROG_ELAPSED (k : Nat) : Nat := 0x8000300 + k * 0x20000

/-- CELL_BUSY. -/
def CELL_BUSY (k u : Nat) : Nat := 0x8000308 + k * 0x20000 + u * 0x8

/-- CELL_SYNC_CTR (R125). -/
def CELL_SYNC_CTR (k n : Nat) : Nat := 0x8000800 + k * 0x20000 + n * 0x8

/-- CELL_ARRAY_ID (R78). -/
def CELL_ARRAY_ID (k : Nat) : Nat := 0x8001000 + k * 0x20000

/-- CELL_ARRAY_STATUS (R79). -/
def CELL_ARRAY_STATUS (k : Nat) : Nat := 0x8001008 + k * 0x20000

/-- CELL_ARRAY_MACS (R80). -/
def CELL_ARRAY_MACS (k : Nat) : Nat := 0x8001010 + k * 0x20000

/-- CELL_STORE_ECC (R81). -/
def CELL_STORE_ECC (k : Nat) : Nat := 0x8001018 + k * 0x20000

/-- MEM_CAPS (R251). -/
def MEM_CAPS (st : Nat) : Nat := 0x10000008 + st / 4 * 0x40000000 + st % 4 * 0x400000

/-- MEM_PC_ONLINE (R251). -/
def MEM_PC_ONLINE (st : Nat) : Nat := 0x10000100 + st / 4 * 0x40000000 + st % 4 * 0x400000

/-- MEM_PC_CTRL (R251). -/
def MEM_PC_CTRL (st : Nat) : Nat := 0x10000108 + st / 4 * 0x40000000 + st % 4 * 0x400000

/-- MEM_SCRUB_CTRL (R251). -/
def MEM_SCRUB_CTRL (st : Nat) : Nat := 0x10000200 + st / 4 * 0x40000000 + st % 4 * 0x400000

/-- MEM_SCRUB_STATUS (R251). -/
def MEM_SCRUB_STATUS (st : Nat) : Nat := 0x10000208 + st / 4 * 0x40000000 + st % 4 * 0x400000

/-- MEM_REGION_CMD (R251). -/
def MEM_REGION_CMD (st : Nat) : Nat := 0x10000300 + st / 4 * 0x40000000 + st % 4 * 0x400000

/-- MEM_REGION_CMD_STATUS (R251). -/
def MEM_REGION_CMD_STATUS (st : Nat) : Nat := 0x10000308 + st / 4 * 0x40000000 + st % 4 * 0x400000

/-- MEM_THERM_STATUS (R251). -/
def MEM_THERM_STATUS (st : Nat) : Nat := 0x10000400 + st / 4 * 0x40000000 + st % 4 * 0x400000

/-- MEM_THERM_CTRL (R251). -/
def MEM_THERM_CTRL (st : Nat) : Nat := 0x10000408 + st / 4 * 0x40000000 + st % 4 * 0x400000

/-- MEM_ECC_COUNT (R251). -/
def MEM_ECC_COUNT (st : Nat) : Nat := 0x10000500 + st / 4 * 0x40000000 + st % 4 * 0x400000

/-- MEM_ODECC_COUNT (R251). -/
def MEM_ODECC_COUNT (st : Nat) : Nat := 0x10000508 + st / 4 * 0x40000000 + st % 4 * 0x400000

/-- MEM_ERR_ADDR (R251). -/
def MEM_ERR_ADDR (st : Nat) : Nat := 0x10000510 + st / 4 * 0x40000000 + st % 4 * 0x400000

/-- MEM_REGION_STATE (R251). -/
def MEM_REGION_STATE (st r : Nat) : Nat := 0x10100000 + st / 4 * 0x40000000 + st % 4 * 0x400000 + r * 0x8

/-- TIER_CAPS (R216). -/
def TIER_CAPS (h : Nat) : Nat := 0x11000008 + h * 0x40000000

/-- TIER_OP_ADDR (R216). -/
def TIER_OP_ADDR (h : Nat) : Nat := 0x11000100 + h * 0x40000000

/-- TIER_OP_CTRL (R216). -/
def TIER_OP_CTRL (h : Nat) : Nat := 0x11000108 + h * 0x40000000

/-- TIER_OP_STATUS (R216). -/
def TIER_OP_STATUS (h : Nat) : Nat := 0x11000110 + h * 0x40000000

/-- TIER_WARD_WAYS (R216). -/
def TIER_WARD_WAYS (h w : Nat) : Nat := 0x11000200 + h * 0x40000000 + w * 0x8

/-- TIER_WARD_OCC (R216). -/
def TIER_WARD_OCC (h w : Nat) : Nat := 0x11000240 + h * 0x40000000 + w * 0x8

/-- TIER_BWREG (R216). -/
def TIER_BWREG (h c w : Nat) : Nat := 0x11000300 + h * 0x40000000 + c * 0x40 + w * 0x8

/-- TIER_ENG_BUSY (R216). -/
def TIER_ENG_BUSY (h e : Nat) : Nat := 0x11000400 + h * 0x40000000 + e * 0x8

/-- TIER_MOVER_BUSY (R216). -/
def TIER_MOVER_BUSY (h : Nat) : Nat := 0x11000480 + h * 0x40000000

/-- TIER_WALK_CTRL (R216). -/
def TIER_WALK_CTRL (h w : Nat) : Nat := 0x11001000 + h * 0x40000000 + w * 0x80

/-- TIER_WALK_BASE (R216). -/
def TIER_WALK_BASE (h w : Nat) : Nat := 0x11001008 + h * 0x40000000 + w * 0x80

/-- TIER_WALK_LEN (R216). -/
def TIER_WALK_LEN (h w : Nat) : Nat := 0x11001010 + h * 0x40000000 + w * 0x80

/-- TIER_WALK_STATUS (R216). -/
def TIER_WALK_STATUS (h w : Nat) : Nat := 0x11001018 + h * 0x40000000 + w * 0x80

/-- XPORT_CAPS (R325). -/
def XPORT_CAPS : Nat := 0x18000008

/-- XPORT_CFG (R325). -/
def XPORT_CFG : Nat := 0x18000100

/-- XPORT_TIMING (R325). -/
def XPORT_TIMING : Nat := 0x18000108

/-- XPORT_CC (R325). -/
def XPORT_CC : Nat := 0x18000110

/-- XPORT_STATE_BASE (R325). -/
def XPORT_STATE_BASE : Nat := 0x18000118

/-- XPORT_ROUTE_BASE (R325). -/
def XPORT_ROUTE_BASE : Nat := 0x18000120

/-- XPORT_ELECT (R325). -/
def XPORT_ELECT : Nat := 0x18000128

/-- XPORT_REG_ADDR (R325). -/
def XPORT_REG_ADDR : Nat := 0x18000300

/-- XPORT_REG_LEN (R325). -/
def XPORT_REG_LEN : Nat := 0x18000308

/-- XPORT_REG_SIG (R325). -/
def XPORT_REG_SIG : Nat := 0x18000310

/-- XPORT_REG_KEY (R325). -/
def XPORT_REG_KEY : Nat := 0x18000318

/-- XPORT_REG_CTRL (R325). -/
def XPORT_REG_CTRL : Nat := 0x18000320

/-- XPORT_REG_STATUS (R325). -/
def XPORT_REG_STATUS : Nat := 0x18000328

/-- XPORT_DOORBELL (R325). -/
def XPORT_DOORBELL : Nat := 0x18000400

/-- XPORT_CQ_DOORBELL (R325). -/
def XPORT_CQ_DOORBELL : Nat := 0x18000408

/-- XPORT_CTX_CMD (R325). -/
def XPORT_CTX_CMD : Nat := 0x18000540

/-- XPORT_CTX_STATUS (R325). -/
def XPORT_CTX_STATUS : Nat := 0x18000548

/-- XPORT_RETX_COUNT (R325). -/
def XPORT_RETX_COUNT : Nat := 0x18000600

/-- XPORT_DROP_COUNT (R325). -/
def XPORT_DROP_COUNT : Nat := 0x18000608

/-- XPORT_BUSY_COUNT (R325). -/
def XPORT_BUSY_COUNT : Nat := 0x18000610

/-- XPORT_ADDR (R325). -/
def XPORT_ADDR (p : Nat) : Nat := 0x18000200 + p * 0x8

/-- XPORT_NEXTHOP (R325). -/
def XPORT_NEXTHOP (p : Nat) : Nat := 0x18000280 + p * 0x8

/-- XPORT_CTX_DATA (R325). -/
def XPORT_CTX_DATA (n : Nat) : Nat := 0x18000500 + n * 0x8

/-- XPORT_CVT_CTRL (R325). -/
def XPORT_CVT_CTRL (q : Nat) : Nat := 0x18000700 + q * 0x20

/-- XPORT_CVT_SEED (R325). -/
def XPORT_CVT_SEED (q : Nat) : Nat := 0x18000708 + q * 0x20

/-- XPORT_COLL_CTRL (R325). -/
def XPORT_COLL_CTRL (q : Nat) : Nat := 0x18000710 + q * 0x20

/-- XPORT_COLL_STATUS (R325). -/
def XPORT_COLL_STATUS (q : Nat) : Nat := 0x18000718 + q * 0x20

/-- XPORT_ROUTE (R325). -/
def XPORT_ROUTE (i : Nat) : Nat := 0x18010000 + i * 0x8

/-- PORT_CAPS (R355). -/
def PORT_CAPS (p : Nat) : Nat := 0x19000008 + p / 8 * 0x40000000 + p % 8 * 0x200000

/-- PORT_CFG (R355). -/
def PORT_CFG (p : Nat) : Nat := 0x19000100 + p / 8 * 0x40000000 + p % 8 * 0x200000

/-- PORT_STATUS (R355). -/
def PORT_STATUS (p : Nat) : Nat := 0x19000108 + p / 8 * 0x40000000 + p % 8 * 0x200000

/-- PORT_MAC (R355). -/
def PORT_MAC (p : Nat) : Nat := 0x19000110 + p / 8 * 0x40000000 + p % 8 * 0x200000

/-- PORT_NEXTHOP_B (R355). -/
def PORT_NEXTHOP_B (p : Nat) : Nat := 0x19000118 + p / 8 * 0x40000000 + p % 8 * 0x200000

/-- PORT_PFC (R355). -/
def PORT_PFC (p : Nat) : Nat := 0x19000120 + p / 8 * 0x40000000 + p % 8 * 0x200000

/-- PORT_PARK (R355). -/
def PORT_PARK (p : Nat) : Nat := 0x19000128 + p / 8 * 0x40000000 + p % 8 * 0x200000

/-- PORT_LINK_CTRL (R355). -/
def PORT_LINK_CTRL (p : Nat) : Nat := 0x19000130 + p / 8 * 0x40000000 + p % 8 * 0x200000

/-- PORT_FEC_THRESH (R355). -/
def PORT_FEC_THRESH (p : Nat) : Nat := 0x19000138 + p / 8 * 0x40000000 + p % 8 * 0x200000

/-- PORT_RX_COUNTER (R355). -/
def PORT_RX_COUNTER (p n : Nat) : Nat := 0x19001000 + p / 8 * 0x40000000 + p % 8 * 0x200000 + n * 0x8

/-- PORT_TX_COUNTER (R355). -/
def PORT_TX_COUNTER (p n : Nat) : Nat := 0x19001100 + p / 8 * 0x40000000 + p % 8 * 0x200000 + n * 0x8

/-- PORT_PHY_COUNTER (R355). -/
def PORT_PHY_COUNTER (p n : Nat) : Nat := 0x19001200 + p / 8 * 0x40000000 + p % 8 * 0x200000 + n * 0x8

/-- PORT_WARD_COUNTER (R355). -/
def PORT_WARD_COUNTER (p w k : Nat) : Nat := 0x19002000 + p / 8 * 0x40000000 + p % 8 * 0x200000 + w * 0x20 + k * 0x8

/-- HOST_CAPS (R380). -/
def HOST_CAPS : Nat := 0x20000008

/-- HOST_LINK_STATUS (R380). -/
def HOST_LINK_STATUS : Nat := 0x20000100

/-- HOST_CS_ALLOW_LO (R380). -/
def HOST_CS_ALLOW_LO : Nat := 0x20000108

/-- HOST_CS_ALLOW_HI (R380). -/
def HOST_CS_ALLOW_HI : Nat := 0x20000110

/-- HOST_HW_BASE (R380). -/
def HOST_HW_BASE : Nat := 0x20000118

/-- HOST_SHW (R380). -/
def HOST_SHW : Nat := 0x20000120

/-- HOST_PM_CTRL (R380). -/
def HOST_PM_CTRL : Nat := 0x20000128

/-- HOST_PM_TOL (R380). -/
def HOST_PM_TOL : Nat := 0x20000130

/-- HOST_PM_STATUS (R380). -/
def HOST_PM_STATUS : Nat := 0x20000138

/-- HOST_ERR (R380). -/
def HOST_ERR : Nat := 0x20000140

/-- HOST_ERR_COUNT (R380). -/
def HOST_ERR_COUNT : Nat := 0x20000148

/-- HOST_PLACE_KEY (R380). -/
def HOST_PLACE_KEY (n : Nat) : Nat := 0x20000200 + n * 0x10

/-- HOST_PLACE_CTL (R380). -/
def HOST_PLACE_CTL (n : Nat) : Nat := 0x20000208 + n * 0x10

/-- HOST_CQIRQ (R380). -/
def HOST_CQIRQ (n : Nat) : Nat := 0x20000300 + n * 0x8

/-- PWR_CAPS (R410). -/
def PWR_CAPS : Nat := 0x28000008

/-- PWR_CAP (R410). -/
def PWR_CAP : Nat := 0x28000100

/-- PWR_CAP_SHARE (R410). -/
def PWR_CAP_SHARE : Nat := 0x28000108

/-- PWR_DROOP_CTRL (R410). -/
def PWR_DROOP_CTRL : Nat := 0x28000130

/-- PWR_SLOPE (R410). -/
def PWR_SLOPE : Nat := 0x28000138

/-- PWR_STATUS (R410). -/
def PWR_STATUS : Nat := 0x28000140

/-- PWR_TEMP (R410). -/
def PWR_TEMP : Nat := 0x28000148

/-- PWR_TRIP (R410). -/
def PWR_TRIP : Nat := 0x28000150

/-- PWR_WARD_SHARE (R410). -/
def PWR_WARD_SHARE (h : Nat) : Nat := 0x28000110 + h * 0x8

/-- PWR_WARD_LEVEL (R410). -/
def PWR_WARD_LEVEL (h : Nat) : Nat := 0x28000120 + h * 0x8

/-- PWR_WARD_ENERGY. -/
def PWR_WARD_ENERGY (w : Nat) : Nat := 0x28000200 + w * 0x8

/-- PWR_HALF_ENERGY. -/
def PWR_HALF_ENERGY (h : Nat) : Nat := 0x28000240 + h * 0x8

/-- PWR_RSV_ENERGY. -/
def PWR_RSV_ENERGY : Nat := 0x28000250

/-- PWR_IN_ENERGY. -/
def PWR_IN_ENERGY : Nat := 0x28000258

/-- PWR_PORT_ENERGY. -/
def PWR_PORT_ENERGY (p : Nat) : Nat := 0x28000260 + p * 0x8

/-- PWR_MODEL_COEF (R410). -/
def PWR_MODEL_COEF (k : Nat) : Nat := 0x28000300 + k * 0x8

/-- PWR_CELL (R410). -/
def PWR_CELL (i : Nat) : Nat := 0x28001000 + i * 0x8

/-- SEC_CAPS (R442). -/
def SEC_CAPS : Nat := 0x30000008

/-- SEC_STATUS (R442). -/
def SEC_STATUS : Nat := 0x30000100

/-- SEC_SERIAL (R442). -/
def SEC_SERIAL : Nat := 0x30000108

/-- SEC_WARD_STATE (R442). -/
def SEC_WARD_STATE (w : Nat) : Nat := 0x30000200 + w * 0x20

/-- SEC_WARD_RES (R442). -/
def SEC_WARD_RES (w : Nat) : Nat := 0x30000208 + w * 0x20

/-- SEC_WARD_ENG (R442). -/
def SEC_WARD_ENG (w : Nat) : Nat := 0x30000210 + w * 0x20

/-- SEC_WARD_SEQ (R442). -/
def SEC_WARD_SEQ (w : Nat) : Nat := 0x30000218 + w * 0x20

/-- SEC_UNS_RING (R442). -/
def SEC_UNS_RING (c : Nat) : Nat := 0x30001000 + c * 0x10

/-- SEC_UNS_CTL (R442). -/
def SEC_UNS_CTL (c : Nat) : Nat := 0x30001008 + c * 0x10

/-- SEC_KEYSLOT (R442). -/
def SEC_KEYSLOT (k : Nat) : Nat := 0x30002000 + k * 0x8

/-- SEC_LINK (R442). -/
def SEC_LINK (j : Nat) : Nat := 0x30003000 + j * 0x8

/-- CFG_CAPS. -/
def CFG_CAPS : Nat := 0x38000008

/-- CFG_TXN_CTRL (R480). -/
def CFG_TXN_CTRL : Nat := 0x38000100

/-- CFG_TXN_STATUS (R480). -/
def CFG_TXN_STATUS : Nat := 0x38000108

/-- CFG_TXN_FAIL (R480). -/
def CFG_TXN_FAIL : Nat := 0x38000110

/-- CFG_PERSIST (R480). -/
def CFG_PERSIST : Nat := 0x38000118

/-- CFG_NAND_STATUS (R480). -/
def CFG_NAND_STATUS : Nat := 0x38000120

/-- CFG_NAND_ECC (R480). -/
def CFG_NAND_ECC : Nat := 0x38000128

/-- CFG_LIVE_CTRL (R480). -/
def CFG_LIVE_CTRL : Nat := 0x38000130

/-- TAG_CAPS. -/
def TAG_CAPS : Nat := 0x3C000008

/-- TAG_STATUS (R480). -/
def TAG_STATUS : Nat := 0x3C000100

/-- TAG_ACCESS (R480). -/
def TAG_ACCESS : Nat := 0x3C000108

/-- TAG_DATA (R480). -/
def TAG_DATA : Nat := 0x3C000110

/-- EVT_CAPS (R507). -/
def EVT_CAPS : Nat := 0x3F000008

/-- EVT_CTRL (R507). -/
def EVT_CTRL : Nat := 0x3F000100

/-- EVT_HOST_BASE (R507). -/
def EVT_HOST_BASE : Nat := 0x3F000108

/-- EVT_HOST_PROD (R507). -/
def EVT_HOST_PROD : Nat := 0x3F000110

/-- EVT_HOST_CONS (R507). -/
def EVT_HOST_CONS : Nat := 0x3F000118

/-- EVT_SB_STATUS (R507). -/
def EVT_SB_STATUS : Nat := 0x3F000120

/-- EVT_NAND_POS (R507). -/
def EVT_NAND_POS : Nat := 0x3F000300

/-- EVT_NAND_READ (R507). -/
def EVT_NAND_READ : Nat := 0x3F000308

/-- EVT_LOSS (R507). -/
def EVT_LOSS (p : Nat) : Nat := 0x3F000200 + p * 0x8

/-- EVT_NAND_DATA (R507). -/
def EVT_NAND_DATA (n : Nat) : Nat := 0x3F001000 + n * 0x8

end R

/-! Field places. -/

namespace F

/-- MGMT_CAPS.CAPS_VER. -/
def MGMT_CAPS_CAPS_VER : Fld := ⟨0, 8⟩

/-- MGMT_STAGE.STAGE. -/
def MGMT_STAGE_STAGE : Fld := ⟨0, 3⟩

/-- MGMT_STAGE.HALTED. -/
def MGMT_STAGE_HALTED : Fld := ⟨3, 1⟩

/-- MGMT_STAGE.WARM. -/
def MGMT_STAGE_WARM : Fld := ⟨4, 1⟩

/-- MGMT_STAGE.CAUSE. -/
def MGMT_STAGE_CAUSE : Fld := ⟨8, 8⟩

/-- MGMT_STAGE.T_MS. -/
def MGMT_STAGE_T_MS : Fld := ⟨16, 32⟩

/-- MGMT_FW_STATUS.RUN_SLOT. -/
def MGMT_FW_STATUS_RUN_SLOT : Fld := ⟨0, 1⟩

/-- MGMT_FW_STATUS.ACTIVE_SLOT. -/
def MGMT_FW_STATUS_ACTIVE_SLOT : Fld := ⟨1, 1⟩

/-- MGMT_FW_STATUS.SLOT0_STATE. -/
def MGMT_FW_STATUS_SLOT0_STATE : Fld := ⟨2, 2⟩

/-- MGMT_FW_STATUS.SLOT1_STATE. -/
def MGMT_FW_STATUS_SLOT1_STATE : Fld := ⟨4, 2⟩

/-- MGMT_FW_STATUS.TRIES. -/
def MGMT_FW_STATUS_TRIES : Fld := ⟨6, 2⟩

/-- MGMT_FW_STATUS.CONFIRM_MIN. -/
def MGMT_FW_STATUS_CONFIRM_MIN : Fld := ⟨8, 8⟩

/-- MGMT_FW_STATUS.SVN_FUSE. -/
def MGMT_FW_STATUS_SVN_FUSE : Fld := ⟨16, 32⟩

/-- MGMT_FW_VERSION.VERSION. -/
def MGMT_FW_VERSION_VERSION : Fld := ⟨0, 64⟩

/-- MGMT_FW_ADDR.ADDR. -/
def MGMT_FW_ADDR_ADDR : Fld := ⟨0, 48⟩

/-- MGMT_FW_CTRL.LEN. -/
def MGMT_FW_CTRL_LEN : Fld := ⟨0, 25⟩

/-- MGMT_FW_CTRL.OP. -/
def MGMT_FW_CTRL_OP : Fld := ⟨25, 3⟩

/-- MGMT_FW_CTRL.GO. -/
def MGMT_FW_CTRL_GO : Fld := ⟨28, 1⟩

/-- MGMT_FW_OPSTATUS.BUSY. -/
def MGMT_FW_OPSTATUS_BUSY : Fld := ⟨0, 1⟩

/-- MGMT_FW_OPSTATUS.STATUS. -/
def MGMT_FW_OPSTATUS_STATUS : Fld := ⟨8, 8⟩

/-- MGMT_FW_OPSTATUS.DONE_KIB. -/
def MGMT_FW_OPSTATUS_DONE_KIB : Fld := ⟨16, 24⟩

/-- MGMT_FH_W.COUNT. -/
def MGMT_FH_W_COUNT : Fld := ⟨0, 64⟩

/-- HALF_CAPS.CAPS_VER. -/
def HALF_CAPS_CAPS_VER : Fld := ⟨0, 8⟩

/-- HALF_CAPS.PHYS_COLS. -/
def HALF_CAPS_PHYS_COLS : Fld := ⟨8, 8⟩

/-- HALF_CAPS.ROWS. -/
def HALF_CAPS_ROWS : Fld := ⟨16, 8⟩

/-- HALF_CAPS.SPARES_PER_ROW. -/
def HALF_CAPS_SPARES_PER_ROW : Fld := ⟨24, 8⟩

/-- HALF_CELL_MAP.SUBST_i. -/
def HALF_CELL_MAP_SUBST (i : Nat) : Fld := ⟨8 * i, 4⟩

/-- HALF_CELL_ABSENT.ABSENT. -/
def HALF_CELL_ABSENT_ABSENT : Fld := ⟨0, 64⟩

/-- HALF_CELL_FAULT_LO.FAULT_i. -/
def HALF_CELL_FAULT_LO_FAULT (i : Nat) : Fld := ⟨16 * i, 9⟩

/-- HALF_CELL_FAULT_HI.FAULT_i. -/
def HALF_CELL_FAULT_HI_FAULT (i : Nat) : Fld := ⟨16 * i, 9⟩

/-- HALF_LEAD_STATUS.ROLE. -/
def HALF_LEAD_STATUS_ROLE : Fld := ⟨0, 2⟩

/-- HALF_LEAD_STATUS.STRAP. -/
def HALF_LEAD_STATUS_STRAP : Fld := ⟨2, 1⟩

/-- HALF_LEAD_STATUS.NO_ACK. -/
def HALF_LEAD_STATUS_NO_ACK : Fld := ⟨3, 1⟩

/-- HALF_LEAD_STATUS.SINCE_US. -/
def HALF_LEAD_STATUS_SINCE_US : Fld := ⟨16, 16⟩

/-- HALF_LEAD_STATUS.EPOCH. -/
def HALF_LEAD_STATUS_EPOCH : Fld := ⟨32, 32⟩

/-- HALF_LEAD_CTRL.ORDER. -/
def HALF_LEAD_CTRL_ORDER : Fld := ⟨0, 2⟩

/-- HALF_LEAD_CTRL.GO. -/
def HALF_LEAD_CTRL_GO : Fld := ⟨2, 1⟩

/-- HALF_LEAD_CTRL.EPOCH. -/
def HALF_LEAD_CTRL_EPOCH : Fld := ⟨32, 32⟩

/-- HALF_LEAD_COUNT.LAPSES. -/
def HALF_LEAD_COUNT_LAPSES : Fld := ⟨0, 16⟩

/-- HALF_LEAD_COUNT.CHANGES. -/
def HALF_LEAD_COUNT_CHANGES : Fld := ⟨16, 16⟩

/-- HALF_LEAD_COUNT.SUBLINKS_DOWN. -/
def HALF_LEAD_COUNT_SUBLINKS_DOWN : Fld := ⟨32, 8⟩

/-- HALF_CVT_CTRL.SCALE_ADJ. -/
def HALF_CVT_CTRL_SCALE_ADJ : Fld := ⟨0, 4⟩

/-- HALF_CVT_SEED.SEED. -/
def HALF_CVT_SEED_SEED : Fld := ⟨0, 64⟩

/-- HALF_FH.COUNT. -/
def HALF_FH_COUNT : Fld := ⟨0, 64⟩

/-- HALF_SFN_COEF_LO.C0. -/
def HALF_SFN_COEF_LO_C0 : Fld := ⟨0, 32⟩

/-- HALF_SFN_COEF_LO.C1. -/
def HALF_SFN_COEF_LO_C1 : Fld := ⟨32, 32⟩

/-- HALF_SFN_COEF_HI.C2. -/
def HALF_SFN_COEF_HI_C2 : Fld := ⟨0, 32⟩

/-- HALF_SFN_COEF_HI.C3. -/
def HALF_SFN_COEF_HI_C3 : Fld := ⟨32, 32⟩

/-- HALF_SFN_TDESC.VER. -/
def HALF_SFN_TDESC_VER : Fld := ⟨0, 8⟩

/-- HALF_SFN_TDESC.REDUCTION. -/
def HALF_SFN_TDESC_REDUCTION : Fld := ⟨8, 2⟩

/-- HALF_SFN_TDESC.COMBINE. -/
def HALF_SFN_TDESC_COMBINE : Fld := ⟨10, 2⟩

/-- HALF_SFN_TDESC.SYMMETRY. -/
def HALF_SFN_TDESC_SYMMETRY : Fld := ⟨12, 2⟩

/-- HALF_SFN_TDESC.LOG2W. -/
def HALF_SFN_TDESC_LOG2W : Fld := ⟨16, 8⟩

/-- HALF_SFN_TDESC.VALID. -/
def HALF_SFN_TDESC_VALID : Fld := ⟨32, 1⟩

/-- HALF_SFN_TRANGE.XMIN. -/
def HALF_SFN_TRANGE_XMIN : Fld := ⟨0, 32⟩

/-- HALF_SFN_TRANGE.K. -/
def HALF_SFN_TRANGE_K : Fld := ⟨32, 32⟩

/-- HALF_SFN_TLO.LO_A. -/
def HALF_SFN_TLO_LO_A : Fld := ⟨0, 32⟩

/-- HALF_SFN_TLO.LO_B. -/
def HALF_SFN_TLO_LO_B : Fld := ⟨32, 32⟩

/-- HALF_SFN_THI.HI_A. -/
def HALF_SFN_THI_HI_A : Fld := ⟨0, 32⟩

/-- HALF_SFN_THI.HI_B. -/
def HALF_SFN_THI_HI_B : Fld := ⟨32, 32⟩

/-- HALF_SFN_FTZ.THRESH. -/
def HALF_SFN_FTZ_THRESH : Fld := ⟨0, 32⟩

/-- HALF_SFN_FTZ.CUSTOM. -/
def HALF_SFN_FTZ_CUSTOM : Fld := ⟨32, 1⟩

/-- HALF_SFN_BCAST_MASK.MASK. -/
def HALF_SFN_BCAST_MASK_MASK : Fld := ⟨0, 64⟩

/-- CELL_CAPS.CAPS_VER. -/
def CELL_CAPS_CAPS_VER : Fld := ⟨0, 8⟩

/-- CELL_CAPS.SYNC_CTRS. -/
def CELL_CAPS_SYNC_CTRS : Fld := ⟨8, 8⟩

/-- CELL_CAPS.FG_DEPTH. -/
def CELL_CAPS_FG_DEPTH : Fld := ⟨16, 8⟩

/-- CELL_CAPS.FILL_DEPTH. -/
def CELL_CAPS_FILL_DEPTH : Fld := ⟨24, 8⟩

/-- CELL_CAPS.IMEM_KIB. -/
def CELL_CAPS_IMEM_KIB : Fld := ⟨32, 8⟩

/-- CELL_CAPS.CVER_MAX. -/
def CELL_CAPS_CVER_MAX : Fld := ⟨40, 4⟩

/-- CELL_SEQ_CTRL.RUN. -/
def CELL_SEQ_CTRL_RUN : Fld := ⟨0, 1⟩

/-- CELL_SEQ_CTRL.TRAP_HALT. -/
def CELL_SEQ_CTRL_TRAP_HALT : Fld := ⟨1, 1⟩

/-- CELL_SEQ_STATUS.HALTED. -/
def CELL_SEQ_STATUS_HALTED : Fld := ⟨0, 1⟩

/-- CELL_SEQ_STATUS.TRAPPED. -/
def CELL_SEQ_STATUS_TRAPPED : Fld := ⟨1, 1⟩

/-- CELL_SEQ_STATUS.STALLED. -/
def CELL_SEQ_STATUS_STALLED : Fld := ⟨2, 1⟩

/-- CELL_SEQ_STATUS.PC. -/
def CELL_SEQ_STATUS_PC : Fld := ⟨32, 32⟩

/-- CELL_SEQ_PC.PC. -/
def CELL_SEQ_PC_PC : Fld := ⟨0, 32⟩

/-- CELL_SEQ_FAULT.MEPC. -/
def CELL_SEQ_FAULT_MEPC : Fld := ⟨0, 32⟩

/-- CELL_SEQ_FAULT.MCAUSE. -/
def CELL_SEQ_FAULT_MCAUSE : Fld := ⟨32, 8⟩

/-- CELL_STREAM_CTRL.FG_RESUME. -/
def CELL_STREAM_CTRL_FG_RESUME : Fld := ⟨0, 1⟩

/-- CELL_STREAM_CTRL.FG_FLUSH. -/
def CELL_STREAM_CTRL_FG_FLUSH : Fld := ⟨1, 1⟩

/-- CELL_STREAM_CTRL.FILL_RESUME. -/
def CELL_STREAM_CTRL_FILL_RESUME : Fld := ⟨8, 1⟩

/-- CELL_STREAM_CTRL.FILL_FLUSH. -/
def CELL_STREAM_CTRL_FILL_FLUSH : Fld := ⟨9, 1⟩

/-- CELL_STREAM_CTRL.FILL_ENABLE. -/
def CELL_STREAM_CTRL_FILL_ENABLE : Fld := ⟨16, 1⟩

/-- CELL_STREAM_STATUS.FG_STATE. -/
def CELL_STREAM_STATUS_FG_STATE : Fld := ⟨0, 2⟩

/-- CELL_STREAM_STATUS.FG_DEPTH. -/
def CELL_STREAM_STATUS_FG_DEPTH : Fld := ⟨8, 7⟩

/-- CELL_STREAM_STATUS.FILL_STATE. -/
def CELL_STREAM_STATUS_FILL_STATE : Fld := ⟨16, 2⟩

/-- CELL_STREAM_STATUS.FILL_DEPTH. -/
def CELL_STREAM_STATUS_FILL_DEPTH : Fld := ⟨24, 7⟩

/-- CELL_STREAM_STATUS.FG_IDLE. -/
def CELL_STREAM_STATUS_FG_IDLE : Fld := ⟨32, 1⟩

/-- CELL_STREAM_STATUS.FILL_IDLE. -/
def CELL_STREAM_STATUS_FILL_IDLE : Fld := ⟨33, 1⟩

/-- CELL_STREAM_UNSET.COUNT. -/
def CELL_STREAM_UNSET_COUNT : Fld := ⟨0, 32⟩

/-- CELL_RNG_THRESH.KEEP. -/
def CELL_RNG_THRESH_KEEP : Fld := ⟨0, 32⟩

/-- CELL_VEC_EPS.EPS. -/
def CELL_VEC_EPS_EPS : Fld := ⟨0, 32⟩

/-- CELL_STREAM_FAULT.SEQ. -/
def CELL_STREAM_FAULT_SEQ : Fld := ⟨0, 32⟩

/-- CELL_STREAM_FAULT.OPCODE. -/
def CELL_STREAM_FAULT_OPCODE : Fld := ⟨32, 8⟩

/-- CELL_STREAM_FAULT.STATUS. -/
def CELL_STREAM_FAULT_STATUS : Fld := ⟨40, 8⟩

/-- CELL_STREAM_FAULT.COUNT. -/
def CELL_STREAM_FAULT_COUNT : Fld := ⟨48, 16⟩

/-- CELL_PROG_ELAPSED.ELAPSED. -/
def CELL_PROG_ELAPSED_ELAPSED : Fld := ⟨0, 64⟩

/-- CELL_BUSY.CYCLES. -/
def CELL_BUSY_CYCLES : Fld := ⟨0, 64⟩

/-- CELL_SYNC_CTR.VALUE. -/
def CELL_SYNC_CTR_VALUE : Fld := ⟨0, 16⟩

/-- CELL_ARRAY_ID.ARRAY_VER. -/
def CELL_ARRAY_ID_ARRAY_VER : Fld := ⟨0, 8⟩

/-- CELL_ARRAY_ID.ROWS. -/
def CELL_ARRAY_ID_ROWS : Fld := ⟨8, 8⟩

/-- CELL_ARRAY_ID.COLS. -/
def CELL_ARRAY_ID_COLS : Fld := ⟨16, 8⟩

/-- CELL_ARRAY_ID.FORMS. -/
def CELL_ARRAY_ID_FORMS : Fld := ⟨24, 8⟩

/-- CELL_ARRAY_ID.ACC_ROWS. -/
def CELL_ARRAY_ID_ACC_ROWS : Fld := ⟨32, 16⟩

/-- CELL_ARRAY_STATUS.FORM. -/
def CELL_ARRAY_STATUS_FORM : Fld := ⟨0, 1⟩

/-- CELL_ARRAY_STATUS.ACT_LEVEL. -/
def CELL_ARRAY_STATUS_ACT_LEVEL : Fld := ⟨8, 8⟩

/-- CELL_ARRAY_STATUS.INT_WRAP. -/
def CELL_ARRAY_STATUS_INT_WRAP : Fld := ⟨16, 1⟩

/-- CELL_ARRAY_STATUS.FP_NAN. -/
def CELL_ARRAY_STATUS_FP_NAN : Fld := ⟨17, 1⟩

/-- CELL_ARRAY_STATUS.FP_INF. -/
def CELL_ARRAY_STATUS_FP_INF : Fld := ⟨18, 1⟩

/-- CELL_ARRAY_STATUS.WPARITY. -/
def CELL_ARRAY_STATUS_WPARITY : Fld := ⟨19, 1⟩

/-- CELL_ARRAY_STATUS.APARITY. -/
def CELL_ARRAY_STATUS_APARITY : Fld := ⟨20, 1⟩

/-- CELL_ARRAY_MACS.MACS. -/
def CELL_ARRAY_MACS_MACS : Fld := ⟨0, 64⟩

/-- CELL_STORE_ECC.CORRECTED. -/
def CELL_STORE_ECC_CORRECTED : Fld := ⟨0, 32⟩

/-- CELL_STORE_ECC.UNCORRECTED. -/
def CELL_STORE_ECC_UNCORRECTED : Fld := ⟨32, 16⟩

/-- MEM_CAPS.CAPS_VER. -/
def MEM_CAPS_CAPS_VER : Fld := ⟨0, 8⟩

/-- MEM_CAPS.PCS. -/
def MEM_CAPS_PCS : Fld := ⟨8, 8⟩

/-- MEM_CAPS.BANKS_PER_PC. -/
def MEM_CAPS_BANKS_PER_PC : Fld := ⟨16, 8⟩

/-- MEM_CAPS.REGION_LOG2. -/
def MEM_CAPS_REGION_LOG2 : Fld := ⟨24, 8⟩

/-- MEM_CAPS.STACK_GIB. -/
def MEM_CAPS_STACK_GIB : Fld := ⟨32, 8⟩

/-- MEM_CAPS.MSO_OPS. -/
def MEM_CAPS_MSO_OPS : Fld := ⟨40, 8⟩

/-- MEM_PC_ONLINE.ONLINE. -/
def MEM_PC_ONLINE_ONLINE : Fld := ⟨0, 64⟩

/-- MEM_PC_CTRL.PC. -/
def MEM_PC_CTRL_PC : Fld := ⟨0, 6⟩

/-- MEM_PC_CTRL.RETRAIN. -/
def MEM_PC_CTRL_RETRAIN : Fld := ⟨8, 1⟩

/-- MEM_SCRUB_CTRL.CLEAR_RATE. -/
def MEM_SCRUB_CTRL_CLEAR_RATE : Fld := ⟨0, 5⟩

/-- MEM_SCRUB_CTRL.BG_CLEAR_EN. -/
def MEM_SCRUB_CTRL_BG_CLEAR_EN : Fld := ⟨5, 1⟩

/-- MEM_SCRUB_CTRL.PATROL_HOURS. -/
def MEM_SCRUB_CTRL_PATROL_HOURS : Fld := ⟨8, 8⟩

/-- MEM_SCRUB_CTRL.PATROL_EN. -/
def MEM_SCRUB_CTRL_PATROL_EN : Fld := ⟨16, 1⟩

/-- MEM_SCRUB_STATUS.UNSET_OWNED. -/
def MEM_SCRUB_STATUS_UNSET_OWNED : Fld := ⟨0, 17⟩

/-- MEM_SCRUB_STATUS.PATROL_POS. -/
def MEM_SCRUB_STATUS_PATROL_POS : Fld := ⟨32, 30⟩

/-- MEM_REGION_CMD.FIRST. -/
def MEM_REGION_CMD_FIRST : Fld := ⟨0, 16⟩

/-- MEM_REGION_CMD.COUNT. -/
def MEM_REGION_CMD_COUNT : Fld := ⟨16, 17⟩

/-- MEM_REGION_CMD.OP. -/
def MEM_REGION_CMD_OP : Fld := ⟨33, 1⟩

/-- MEM_REGION_CMD.GO. -/
def MEM_REGION_CMD_GO : Fld := ⟨63, 1⟩

/-- MEM_REGION_CMD_STATUS.BUSY. -/
def MEM_REGION_CMD_STATUS_BUSY : Fld := ⟨0, 1⟩

/-- MEM_REGION_CMD_STATUS.STATUS. -/
def MEM_REGION_CMD_STATUS_STATUS : Fld := ⟨8, 8⟩

/-- MEM_REGION_CMD_STATUS.DONE. -/
def MEM_REGION_CMD_STATUS_DONE : Fld := ⟨16, 17⟩

/-- MEM_THERM_STATUS.TEMP. -/
def MEM_THERM_STATUS_TEMP : Fld := ⟨0, 8⟩

/-- MEM_THERM_STATUS.VALID. -/
def MEM_THERM_STATUS_VALID : Fld := ⟨8, 1⟩

/-- MEM_THERM_STATUS.LEVEL. -/
def MEM_THERM_STATUS_LEVEL : Fld := ⟨9, 3⟩

/-- MEM_THERM_STATUS.SLOW. -/
def MEM_THERM_STATUS_SLOW : Fld := ⟨12, 1⟩

/-- MEM_THERM_STATUS.PEAK. -/
def MEM_THERM_STATUS_PEAK : Fld := ⟨16, 8⟩

/-- MEM_THERM_CTRL.UNFENCE. -/
def MEM_THERM_CTRL_UNFENCE : Fld := ⟨0, 1⟩

/-- MEM_ECC_COUNT.CORRECTED. -/
def MEM_ECC_COUNT_CORRECTED : Fld := ⟨0, 32⟩

/-- MEM_ECC_COUNT.UNCORRECTED. -/
def MEM_ECC_COUNT_UNCORRECTED : Fld := ⟨32, 16⟩

/-- MEM_ECC_COUNT.TAG_FAILS. -/
def MEM_ECC_COUNT_TAG_FAILS : Fld := ⟨48, 16⟩

/-- MEM_ODECC_COUNT.CORRECTED. -/
def MEM_ODECC_COUNT_CORRECTED : Fld := ⟨0, 32⟩

/-- MEM_ERR_ADDR.OFFSET. -/
def MEM_ERR_ADDR_OFFSET : Fld := ⟨0, 36⟩

/-- MEM_ERR_ADDR.STATUS. -/
def MEM_ERR_ADDR_STATUS : Fld := ⟨36, 8⟩

/-- MEM_REGION_STATE.STATE. -/
def MEM_REGION_STATE_STATE : Fld := ⟨0, 2⟩

/-- MEM_REGION_STATE.OWNER. -/
def MEM_REGION_STATE_OWNER : Fld := ⟨4, 4⟩

/-- TIER_CAPS.CAPS_VER. -/
def TIER_CAPS_CAPS_VER : Fld := ⟨0, 8⟩

/-- TIER_CAPS.WAYS. -/
def TIER_CAPS_WAYS : Fld := ⟨8, 8⟩

/-- TIER_CAPS.SETS. -/
def TIER_CAPS_SETS : Fld := ⟨16, 16⟩

/-- TIER_CAPS.BANK_SLOTS. -/
def TIER_CAPS_BANK_SLOTS : Fld := ⟨32, 8⟩

/-- TIER_CAPS.SLOTS_PER_REQ. -/
def TIER_CAPS_SLOTS_PER_REQ : Fld := ⟨40, 8⟩

/-- TIER_CAPS.ENGINES. -/
def TIER_CAPS_ENGINES : Fld := ⟨48, 8⟩

/-- TIER_OP_ADDR.ADDR. -/
def TIER_OP_ADDR_ADDR : Fld := ⟨0, 48⟩

/-- TIER_OP_CTRL.COUNT. -/
def TIER_OP_CTRL_COUNT : Fld := ⟨0, 23⟩

/-- TIER_OP_CTRL.OP. -/
def TIER_OP_CTRL_OP : Fld := ⟨24, 2⟩

/-- TIER_OP_CTRL.CLASS. -/
def TIER_OP_CTRL_CLASS : Fld := ⟨26, 2⟩

/-- TIER_OP_CTRL.WARD. -/
def TIER_OP_CTRL_WARD : Fld := ⟨28, 3⟩

/-- TIER_OP_CTRL.GO. -/
def TIER_OP_CTRL_GO : Fld := ⟨31, 1⟩

/-- TIER_OP_STATUS.BUSY. -/
def TIER_OP_STATUS_BUSY : Fld := ⟨0, 1⟩

/-- TIER_OP_STATUS.STATUS. -/
def TIER_OP_STATUS_STATUS : Fld := ⟨8, 8⟩

/-- TIER_OP_STATUS.DONE. -/
def TIER_OP_STATUS_DONE : Fld := ⟨16, 23⟩

/-- TIER_OP_STATUS.SKIPPED. -/
def TIER_OP_STATUS_SKIPPED : Fld := ⟨40, 23⟩

/-- TIER_WARD_WAYS.WAYS. -/
def TIER_WARD_WAYS_WAYS : Fld := ⟨0, 16⟩

/-- TIER_WARD_OCC.FRAMES. -/
def TIER_WARD_OCC_FRAMES : Fld := ⟨0, 15⟩

/-- TIER_WARD_OCC.PINNED. -/
def TIER_WARD_OCC_PINNED : Fld := ⟨16, 15⟩

/-- TIER_WARD_OCC.DIRTY. -/
def TIER_WARD_OCC_DIRTY : Fld := ⟨32, 15⟩

/-- TIER_BWREG.RATE. -/
def TIER_BWREG_RATE : Fld := ⟨0, 9⟩

/-- TIER_BWREG.DEPTH. -/
def TIER_BWREG_DEPTH : Fld := ⟨16, 16⟩

/-- TIER_BWREG.BORROW. -/
def TIER_BWREG_BORROW : Fld := ⟨32, 1⟩

/-- TIER_ENG_BUSY.CYCLES. -/
def TIER_ENG_BUSY_CYCLES : Fld := ⟨0, 64⟩

/-- TIER_MOVER_BUSY.CYCLES. -/
def TIER_MOVER_BUSY_CYCLES : Fld := ⟨0, 64⟩

/-- TIER_WALK_CTRL.ENABLE. -/
def TIER_WALK_CTRL_ENABLE : Fld := ⟨0, 1⟩

/-- TIER_WALK_CTRL.WRAP. -/
def TIER_WALK_CTRL_WRAP : Fld := ⟨1, 1⟩

/-- TIER_WALK_CTRL.RESUME. -/
def TIER_WALK_CTRL_RESUME : Fld := ⟨2, 1⟩

/-- TIER_WALK_CTRL.DISTANCE. -/
def TIER_WALK_CTRL_DISTANCE : Fld := ⟨8, 8⟩

/-- TIER_WALK_CTRL.LC_ENGINE. -/
def TIER_WALK_CTRL_LC_ENGINE : Fld := ⟨16, 4⟩

/-- TIER_WALK_CTRL.LC_CTR. -/
def TIER_WALK_CTRL_LC_CTR : Fld := ⟨20, 6⟩

/-- TIER_WALK_CTRL.SIG_CTR. -/
def TIER_WALK_CTRL_SIG_CTR : Fld := ⟨32, 6⟩

/-- TIER_WALK_CTRL.SIG_EN. -/
def TIER_WALK_CTRL_SIG_EN : Fld := ⟨38, 1⟩

/-- TIER_WALK_CTRL.SIG_TARGET. -/
def TIER_WALK_CTRL_SIG_TARGET : Fld := ⟨40, 7⟩

/-- TIER_WALK_CTRL.SIG_TKIND. -/
def TIER_WALK_CTRL_SIG_TKIND : Fld := ⟨47, 2⟩

/-- TIER_WALK_CTRL.SIG_ALLWARD. -/
def TIER_WALK_CTRL_SIG_ALLWARD : Fld := ⟨49, 1⟩

/-- TIER_WALK_BASE.BASE. -/
def TIER_WALK_BASE_BASE : Fld := ⟨0, 48⟩

/-- TIER_WALK_LEN.ENTRIES. -/
def TIER_WALK_LEN_ENTRIES : Fld := ⟨0, 20⟩

/-- TIER_WALK_LEN.SPAN. -/
def TIER_WALK_LEN_SPAN : Fld := ⟨32, 16⟩

/-- TIER_WALK_STATUS.POS. -/
def TIER_WALK_STATUS_POS : Fld := ⟨0, 20⟩

/-- TIER_WALK_STATUS.RUNNING. -/
def TIER_WALK_STATUS_RUNNING : Fld := ⟨20, 1⟩

/-- TIER_WALK_STATUS.HELD. -/
def TIER_WALK_STATUS_HELD : Fld := ⟨21, 1⟩

/-- TIER_WALK_STATUS.WAITING. -/
def TIER_WALK_STATUS_WAITING : Fld := ⟨22, 1⟩

/-- TIER_WALK_STATUS.STOPPED. -/
def TIER_WALK_STATUS_STOPPED : Fld := ⟨23, 1⟩

/-- TIER_WALK_STATUS.STATUS. -/
def TIER_WALK_STATUS_STATUS : Fld := ⟨24, 8⟩

/-- TIER_WALK_STATUS.PASS. -/
def TIER_WALK_STATUS_PASS : Fld := ⟨32, 16⟩

/-- XPORT_CAPS.CAPS_VER. -/
def XPORT_CAPS_CAPS_VER : Fld := ⟨0, 8⟩

/-- XPORT_CAPS.HDR_VER. -/
def XPORT_CAPS_HDR_VER : Fld := ⟨8, 4⟩

/-- XPORT_CAPS.QUEUE_LOG2. -/
def XPORT_CAPS_QUEUE_LOG2 : Fld := ⟨16, 8⟩

/-- XPORT_CAPS.REGION_LOG2. -/
def XPORT_CAPS_REGION_LOG2 : Fld := ⟨24, 8⟩

/-- XPORT_CAPS.MSG_LOG2. -/
def XPORT_CAPS_MSG_LOG2 : Fld := ⟨32, 8⟩

/-- XPORT_CAPS.FILTER_LOG2. -/
def XPORT_CAPS_FILTER_LOG2 : Fld := ⟨40, 8⟩

/-- XPORT_CAPS.COLL_SEQ. -/
def XPORT_CAPS_COLL_SEQ : Fld := ⟨48, 8⟩

/-- XPORT_CAPS.ROUTE_LOG2. -/
def XPORT_CAPS_ROUTE_LOG2 : Fld := ⟨56, 8⟩

/-- XPORT_CFG.DEVNUM. -/
def XPORT_CFG_DEVNUM : Fld := ⟨0, 16⟩

/-- XPORT_CFG.DEV_MODE. -/
def XPORT_CFG_DEV_MODE : Fld := ⟨16, 2⟩

/-- XPORT_CFG.IPV. -/
def XPORT_CFG_IPV : Fld := ⟨18, 1⟩

/-- XPORT_CFG.PAYLOAD. -/
def XPORT_CFG_PAYLOAD : Fld := ⟨19, 2⟩

/-- XPORT_CFG.ENABLE. -/
def XPORT_CFG_ENABLE : Fld := ⟨21, 1⟩

/-- XPORT_CFG.UDP_PORT. -/
def XPORT_CFG_UDP_PORT : Fld := ⟨22, 16⟩

/-- XPORT_TIMING.RTO. -/
def XPORT_TIMING_RTO : Fld := ⟨0, 8⟩

/-- XPORT_TIMING.RETRY_MAX. -/
def XPORT_TIMING_RETRY_MAX : Fld := ⟨8, 8⟩

/-- XPORT_TIMING.LIFE. -/
def XPORT_TIMING_LIFE : Fld := ⟨16, 16⟩

/-- XPORT_TIMING.FILTER_AGE. -/
def XPORT_TIMING_FILTER_AGE : Fld := ⟨32, 16⟩

/-- XPORT_TIMING.SLOW_MULT. -/
def XPORT_TIMING_SLOW_MULT : Fld := ⟨48, 4⟩

/-- XPORT_CC.INIT_WIN. -/
def XPORT_CC_INIT_WIN : Fld := ⟨0, 13⟩

/-- XPORT_CC.MAX_WIN. -/
def XPORT_CC_MAX_WIN : Fld := ⟨16, 13⟩

/-- XPORT_STATE_BASE.BASE. -/
def XPORT_STATE_BASE_BASE : Fld := ⟨0, 48⟩

/-- XPORT_ROUTE_BASE.BASE. -/
def XPORT_ROUTE_BASE_BASE : Fld := ⟨0, 16⟩

/-- XPORT_ELECT.PRIORITY. -/
def XPORT_ELECT_PRIORITY : Fld := ⟨0, 8⟩

/-- XPORT_ELECT.ASSIGN_BASE. -/
def XPORT_ELECT_ASSIGN_BASE : Fld := ⟨8, 16⟩

/-- XPORT_REG_ADDR.ADDR. -/
def XPORT_REG_ADDR_ADDR : Fld := ⟨0, 48⟩

/-- XPORT_REG_LEN.LEN. -/
def XPORT_REG_LEN_LEN : Fld := ⟨0, 40⟩

/-- XPORT_REG_SIG.CTR. -/
def XPORT_REG_SIG_CTR : Fld := ⟨0, 6⟩

/-- XPORT_REG_SIG.EN. -/
def XPORT_REG_SIG_EN : Fld := ⟨6, 1⟩

/-- XPORT_REG_SIG.TARGET. -/
def XPORT_REG_SIG_TARGET : Fld := ⟨7, 7⟩

/-- XPORT_REG_SIG.TKIND. -/
def XPORT_REG_SIG_TKIND : Fld := ⟨14, 2⟩

/-- XPORT_REG_SIG.ALLWARD. -/
def XPORT_REG_SIG_ALLWARD : Fld := ⟨16, 1⟩

/-- XPORT_REG_SIG.NOTIFY_QUEUE. -/
def XPORT_REG_SIG_NOTIFY_QUEUE : Fld := ⟨17, 20⟩

/-- XPORT_REG_SIG.NOTIFY_EN. -/
def XPORT_REG_SIG_NOTIFY_EN : Fld := ⟨37, 1⟩

/-- XPORT_REG_KEY.REGION_KEY. -/
def XPORT_REG_KEY_REGION_KEY : Fld := ⟨0, 32⟩

/-- XPORT_REG_KEY.ACCESS_KEY. -/
def XPORT_REG_KEY_ACCESS_KEY : Fld := ⟨32, 32⟩

/-- XPORT_REG_CTRL.GO. -/
def XPORT_REG_CTRL_GO : Fld := ⟨0, 1⟩

/-- XPORT_REG_CTRL.OP. -/
def XPORT_REG_CTRL_OP : Fld := ⟨1, 1⟩

/-- XPORT_REG_CTRL.WARD. -/
def XPORT_REG_CTRL_WARD : Fld := ⟨2, 3⟩

/-- XPORT_REG_CTRL.PERM_WRITE. -/
def XPORT_REG_CTRL_PERM_WRITE : Fld := ⟨5, 1⟩

/-- XPORT_REG_CTRL.PERM_READ. -/
def XPORT_REG_CTRL_PERM_READ : Fld := ⟨6, 1⟩

/-- XPORT_REG_CTRL.PERM_ATOMIC. -/
def XPORT_REG_CTRL_PERM_ATOMIC : Fld := ⟨7, 1⟩

/-- XPORT_REG_STATUS.BUSY. -/
def XPORT_REG_STATUS_BUSY : Fld := ⟨0, 1⟩

/-- XPORT_REG_STATUS.STATUS. -/
def XPORT_REG_STATUS_STATUS : Fld := ⟨8, 8⟩

/-- XPORT_DOORBELL.QUEUE. -/
def XPORT_DOORBELL_QUEUE : Fld := ⟨0, 20⟩

/-- XPORT_DOORBELL.PROD. -/
def XPORT_DOORBELL_PROD : Fld := ⟨20, 32⟩

/-- XPORT_CQ_DOORBELL.QUEUE. -/
def XPORT_CQ_DOORBELL_QUEUE : Fld := ⟨0, 20⟩

/-- XPORT_CQ_DOORBELL.CQ_CONS. -/
def XPORT_CQ_DOORBELL_CQ_CONS : Fld := ⟨20, 32⟩

/-- XPORT_CTX_CMD.QUEUE. -/
def XPORT_CTX_CMD_QUEUE : Fld := ⟨0, 20⟩

/-- XPORT_CTX_CMD.OP. -/
def XPORT_CTX_CMD_OP : Fld := ⟨20, 1⟩

/-- XPORT_CTX_CMD.GO. -/
def XPORT_CTX_CMD_GO : Fld := ⟨21, 1⟩

/-- XPORT_CTX_STATUS.BUSY. -/
def XPORT_CTX_STATUS_BUSY : Fld := ⟨0, 1⟩

/-- XPORT_CTX_STATUS.STATUS. -/
def XPORT_CTX_STATUS_STATUS : Fld := ⟨8, 8⟩

/-- XPORT_RETX_COUNT.COUNT. -/
def XPORT_RETX_COUNT_COUNT : Fld := ⟨0, 32⟩

/-- XPORT_DROP_COUNT.COUNT. -/
def XPORT_DROP_COUNT_COUNT : Fld := ⟨0, 32⟩

/-- XPORT_BUSY_COUNT.COUNT. -/
def XPORT_BUSY_COUNT_COUNT : Fld := ⟨0, 32⟩

/-- XPORT_ADDR.PREFIX. -/
def XPORT_ADDR_PREFIX : Fld := ⟨0, 64⟩

/-- XPORT_NEXTHOP.MAC. -/
def XPORT_NEXTHOP_MAC : Fld := ⟨0, 48⟩

/-- XPORT_NEXTHOP.LEARN. -/
def XPORT_NEXTHOP_LEARN : Fld := ⟨48, 1⟩

/-- XPORT_CTX_DATA.WORD. -/
def XPORT_CTX_DATA_WORD : Fld := ⟨0, 64⟩

/-- XPORT_CVT_CTRL.SCALE_ADJ. -/
def XPORT_CVT_CTRL_SCALE_ADJ : Fld := ⟨0, 4⟩

/-- XPORT_CVT_SEED.SEED. -/
def XPORT_CVT_SEED_SEED : Fld := ⟨0, 64⟩

/-- XPORT_COLL_CTRL.ABORT. -/
def XPORT_COLL_CTRL_ABORT : Fld := ⟨0, 1⟩

/-- XPORT_COLL_STATUS.OPEN. -/
def XPORT_COLL_STATUS_OPEN : Fld := ⟨0, 1⟩

/-- XPORT_COLL_STATUS.STATUS. -/
def XPORT_COLL_STATUS_STATUS : Fld := ⟨8, 8⟩

/-- XPORT_COLL_STATUS.COLL_ID. -/
def XPORT_COLL_STATUS_COLL_ID : Fld := ⟨16, 16⟩

/-- XPORT_ROUTE.PORTS. -/
def XPORT_ROUTE_PORTS : Fld := ⟨0, 16⟩

/-- XPORT_ROUTE.DOWN. -/
def XPORT_ROUTE_DOWN : Fld := ⟨16, 16⟩

/-- XPORT_ROUTE.ENT_LOG2. -/
def XPORT_ROUTE_ENT_LOG2 : Fld := ⟨32, 3⟩

/-- XPORT_ROUTE.VALID. -/
def XPORT_ROUTE_VALID : Fld := ⟨36, 1⟩

/-- PORT_CAPS.CAPS_VER. -/
def PORT_CAPS_CAPS_VER : Fld := ⟨0, 8⟩

/-- PORT_CAPS.LANES. -/
def PORT_CAPS_LANES : Fld := ⟨8, 8⟩

/-- PORT_CAPS.MODES. -/
def PORT_CAPS_MODES : Fld := ⟨16, 8⟩

/-- PORT_CAPS.PARK. -/
def PORT_CAPS_PARK : Fld := ⟨24, 1⟩

/-- PORT_CAPS.PFC. -/
def PORT_CAPS_PFC : Fld := ⟨25, 1⟩

/-- PORT_CFG.MODE. -/
def PORT_CFG_MODE : Fld := ⟨0, 2⟩

/-- PORT_CFG.VLAN_EN. -/
def PORT_CFG_VLAN_EN : Fld := ⟨2, 1⟩

/-- PORT_CFG.VID. -/
def PORT_CFG_VID : Fld := ⟨3, 12⟩

/-- PORT_CFG.PCP. -/
def PORT_CFG_PCP : Fld := ⟨15, 3⟩

/-- PORT_CFG.DSCP. -/
def PORT_CFG_DSCP : Fld := ⟨18, 6⟩

/-- PORT_CFG.PFC_EN. -/
def PORT_CFG_PFC_EN : Fld := ⟨24, 1⟩

/-- PORT_CFG.PARK_EN. -/
def PORT_CFG_PARK_EN : Fld := ⟨25, 1⟩

/-- PORT_CFG.MAX_FRAME. -/
def PORT_CFG_MAX_FRAME : Fld := ⟨26, 14⟩

/-- PORT_STATUS.LINK_A. -/
def PORT_STATUS_LINK_A : Fld := ⟨0, 1⟩

/-- PORT_STATUS.LINK_B. -/
def PORT_STATUS_LINK_B : Fld := ⟨1, 1⟩

/-- PORT_STATUS.USABLE. -/
def PORT_STATUS_USABLE : Fld := ⟨2, 1⟩

/-- PORT_STATUS.PARK_STATE. -/
def PORT_STATUS_PARK_STATE : Fld := ⟨3, 2⟩

/-- PORT_STATUS.PEER_PARK. -/
def PORT_STATUS_PEER_PARK : Fld := ⟨5, 1⟩

/-- PORT_STATUS.TX_PAUSED. -/
def PORT_STATUS_TX_PAUSED : Fld := ⟨6, 1⟩

/-- PORT_STATUS.XOFF_SENT. -/
def PORT_STATUS_XOFF_SENT : Fld := ⟨7, 1⟩

/-- PORT_STATUS.LANE_OK. -/
def PORT_STATUS_LANE_OK : Fld := ⟨8, 8⟩

/-- PORT_STATUS.RX_FILL. -/
def PORT_STATUS_RX_FILL : Fld := ⟨16, 11⟩

/-- PORT_STATUS.STORM. -/
def PORT_STATUS_STORM : Fld := ⟨27, 1⟩

/-- PORT_MAC.MAC. -/
def PORT_MAC_MAC : Fld := ⟨0, 48⟩

/-- PORT_NEXTHOP_B.MAC. -/
def PORT_NEXTHOP_B_MAC : Fld := ⟨0, 48⟩

/-- PORT_NEXTHOP_B.LEARN. -/
def PORT_NEXTHOP_B_LEARN : Fld := ⟨48, 1⟩

/-- PORT_PFC.XOFF_KIB. -/
def PORT_PFC_XOFF_KIB : Fld := ⟨0, 11⟩

/-- PORT_PFC.XON_KIB. -/
def PORT_PFC_XON_KIB : Fld := ⟨16, 11⟩

/-- PORT_PFC.STORM_MS. -/
def PORT_PFC_STORM_MS : Fld := ⟨32, 8⟩

/-- PORT_PARK.THRESH. -/
def PORT_PARK_THRESH : Fld := ⟨0, 7⟩

/-- PORT_PARK.HOLD_MS. -/
def PORT_PARK_HOLD_MS : Fld := ⟨8, 8⟩

/-- PORT_PARK.WAKE_KIB. -/
def PORT_PARK_WAKE_KIB : Fld := ⟨16, 8⟩

/-- PORT_LINK_CTRL.RETIME. -/
def PORT_LINK_CTRL_RETIME : Fld := ⟨0, 1⟩

/-- PORT_LINK_CTRL.LOOPBACK. -/
def PORT_LINK_CTRL_LOOPBACK : Fld := ⟨1, 2⟩

/-- PORT_LINK_CTRL.LINKUP_HOLD_MS. -/
def PORT_LINK_CTRL_LINKUP_HOLD_MS : Fld := ⟨8, 8⟩

/-- PORT_FEC_THRESH.DEGRADE. -/
def PORT_FEC_THRESH_DEGRADE : Fld := ⟨0, 32⟩

/-- PORT_RX_COUNTER.COUNT. -/
def PORT_RX_COUNTER_COUNT : Fld := ⟨0, 48⟩

/-- PORT_TX_COUNTER.COUNT. -/
def PORT_TX_COUNTER_COUNT : Fld := ⟨0, 48⟩

/-- PORT_PHY_COUNTER.COUNT. -/
def PORT_PHY_COUNTER_COUNT : Fld := ⟨0, 48⟩

/-- PORT_WARD_COUNTER.COUNT. -/
def PORT_WARD_COUNTER_COUNT : Fld := ⟨0, 64⟩

/-- HOST_CAPS.CAPS_VER. -/
def HOST_CAPS_CAPS_VER : Fld := ⟨0, 8⟩

/-- HOST_CAPS.LANES. -/
def HOST_CAPS_LANES : Fld := ⟨8, 8⟩

/-- HOST_CAPS.PCIE_GEN. -/
def HOST_CAPS_PCIE_GEN : Fld := ⟨16, 4⟩

/-- HOST_CAPS.PLACE_SLOTS. -/
def HOST_CAPS_PLACE_SLOTS : Fld := ⟨24, 8⟩

/-- HOST_CAPS.MSIX. -/
def HOST_CAPS_MSIX : Fld := ⟨32, 8⟩

/-- HOST_LINK_STATUS.SPEED. -/
def HOST_LINK_STATUS_SPEED : Fld := ⟨0, 4⟩

/-- HOST_LINK_STATUS.WIDTH. -/
def HOST_LINK_STATUS_WIDTH : Fld := ⟨4, 5⟩

/-- HOST_LINK_STATUS.CXL. -/
def HOST_LINK_STATUS_CXL : Fld := ⟨9, 1⟩

/-- HOST_LINK_STATUS.RRS. -/
def HOST_LINK_STATUS_RRS : Fld := ⟨10, 1⟩

/-- HOST_CS_ALLOW_LO.ALLOW. -/
def HOST_CS_ALLOW_LO_ALLOW : Fld := ⟨0, 64⟩

/-- HOST_CS_ALLOW_HI.ALLOW. -/
def HOST_CS_ALLOW_HI_ALLOW : Fld := ⟨0, 64⟩

/-- HOST_HW_BASE.BASE. -/
def HOST_HW_BASE_BASE : Fld := ⟨30, 22⟩

/-- HOST_SHW.BASE_32M. -/
def HOST_SHW_BASE_32M : Fld := ⟨0, 14⟩

/-- HOST_SHW.SIZE_32M. -/
def HOST_SHW_SIZE_32M : Fld := ⟨16, 12⟩

/-- HOST_PM_CTRL.MAX_STATE. -/
def HOST_PM_CTRL_MAX_STATE : Fld := ⟨0, 3⟩

/-- HOST_PM_CTRL.IDLE_US. -/
def HOST_PM_CTRL_IDLE_US : Fld := ⟨16, 16⟩

/-- HOST_PM_TOL.TOL_US. -/
def HOST_PM_TOL_TOL_US : Fld := ⟨0, 32⟩

/-- HOST_PM_STATUS.STATE. -/
def HOST_PM_STATUS_STATE : Fld := ⟨0, 3⟩

/-- HOST_PM_STATUS.ENTERING. -/
def HOST_PM_STATUS_ENTERING : Fld := ⟨3, 1⟩

/-- HOST_ERR.OFFSET. -/
def HOST_ERR_OFFSET : Fld := ⟨0, 48⟩

/-- HOST_ERR.STATUS. -/
def HOST_ERR_STATUS : Fld := ⟨48, 8⟩

/-- HOST_ERR.SOURCE. -/
def HOST_ERR_SOURCE : Fld := ⟨56, 3⟩

/-- HOST_ERR_COUNT.COUNT. -/
def HOST_ERR_COUNT_COUNT : Fld := ⟨0, 32⟩

/-- HOST_PLACE_KEY.REGION_KEY. -/
def HOST_PLACE_KEY_REGION_KEY : Fld := ⟨0, 32⟩

/-- HOST_PLACE_KEY.ACCESS_KEY. -/
def HOST_PLACE_KEY_ACCESS_KEY : Fld := ⟨32, 32⟩

/-- HOST_PLACE_CTL.EN. -/
def HOST_PLACE_CTL_EN : Fld := ⟨0, 1⟩

/-- HOST_PLACE_CTL.OFFSET. -/
def HOST_PLACE_CTL_OFFSET : Fld := ⟨12, 36⟩

/-- HOST_CQIRQ.QUEUE. -/
def HOST_CQIRQ_QUEUE : Fld := ⟨0, 20⟩

/-- HOST_CQIRQ.EN. -/
def HOST_CQIRQ_EN : Fld := ⟨20, 1⟩

/-- HOST_CQIRQ.MIN_US. -/
def HOST_CQIRQ_MIN_US : Fld := ⟨24, 8⟩

/-- PWR_CAPS.CAPS_VER. -/
def PWR_CAPS_CAPS_VER : Fld := ⟨0, 8⟩

/-- PWR_CAPS.LEVELS. -/
def PWR_CAPS_LEVELS : Fld := ⟨8, 4⟩

/-- PWR_CAPS.COEFS. -/
def PWR_CAPS_COEFS : Fld := ⟨16, 8⟩

/-- PWR_CAP.CAP_W. -/
def PWR_CAP_CAP_W : Fld := ⟨0, 12⟩

/-- PWR_CAP.RESERVE_W. -/
def PWR_CAP_RESERVE_W : Fld := ⟨16, 12⟩

/-- PWR_CAP.FIXED_W. -/
def PWR_CAP_FIXED_W : Fld := ⟨32, 8⟩

/-- PWR_CAP.EFF. -/
def PWR_CAP_EFF : Fld := ⟨40, 8⟩

/-- PWR_CAP_SHARE.HALF0. -/
def PWR_CAP_SHARE_HALF0 : Fld := ⟨0, 9⟩

/-- PWR_CAP_SHARE.HALF1. -/
def PWR_CAP_SHARE_HALF1 : Fld := ⟨16, 9⟩

/-- PWR_DROOP_CTRL.MODE. -/
def PWR_DROOP_CTRL_MODE : Fld := ⟨0, 1⟩

/-- PWR_DROOP_CTRL.STRETCH_MV. -/
def PWR_DROOP_CTRL_STRETCH_MV : Fld := ⟨8, 8⟩

/-- PWR_DROOP_CTRL.EMERG_MV. -/
def PWR_DROOP_CTRL_EMERG_MV : Fld := ⟨16, 8⟩

/-- PWR_DROOP_CTRL.STEP_EPISODES. -/
def PWR_DROOP_CTRL_STEP_EPISODES : Fld := ⟨24, 8⟩

/-- PWR_SLOPE.RATE. -/
def PWR_SLOPE_RATE : Fld := ⟨0, 8⟩

/-- PWR_SLOPE.BURST. -/
def PWR_SLOPE_BURST : Fld := ⟨8, 8⟩

/-- PWR_STATUS.P_IN_W. -/
def PWR_STATUS_P_IN_W : Fld := ⟨0, 12⟩

/-- PWR_STATUS.P_RSV_W. -/
def PWR_STATUS_P_RSV_W : Fld := ⟨12, 12⟩

/-- PWR_STATUS.CAP_EFF_W. -/
def PWR_STATUS_CAP_EFF_W : Fld := ⟨24, 12⟩

/-- PWR_STATUS.CORR. -/
def PWR_STATUS_CORR : Fld := ⟨36, 8⟩

/-- PWR_STATUS.CLAMP. -/
def PWR_STATUS_CLAMP : Fld := ⟨44, 1⟩

/-- PWR_TEMP.INLET. -/
def PWR_TEMP_INLET : Fld := ⟨0, 8⟩

/-- PWR_TEMP.OUTLET. -/
def PWR_TEMP_OUTLET : Fld := ⟨8, 8⟩

/-- PWR_TEMP.PEAK_DIE. -/
def PWR_TEMP_PEAK_DIE : Fld := ⟨16, 8⟩

/-- PWR_TRIP.CAUSE. -/
def PWR_TRIP_CAUSE : Fld := ⟨0, 4⟩

/-- PWR_TRIP.VALUE. -/
def PWR_TRIP_VALUE : Fld := ⟨8, 8⟩

/-- PWR_TRIP.SOURCE. -/
def PWR_TRIP_SOURCE : Fld := ⟨16, 8⟩

/-- PWR_WARD_SHARE.SHARE_i. -/
def PWR_WARD_SHARE_SHARE (i : Nat) : Fld := ⟨8 * i, 8⟩

/-- PWR_WARD_LEVEL.LEVEL_i. -/
def PWR_WARD_LEVEL_LEVEL (i : Nat) : Fld := ⟨4 * i, 4⟩

/-- PWR_WARD_ENERGY.ENERGY. -/
def PWR_WARD_ENERGY_ENERGY : Fld := ⟨0, 64⟩

/-- PWR_HALF_ENERGY.ENERGY. -/
def PWR_HALF_ENERGY_ENERGY : Fld := ⟨0, 64⟩

/-- PWR_RSV_ENERGY.ENERGY. -/
def PWR_RSV_ENERGY_ENERGY : Fld := ⟨0, 64⟩

/-- PWR_IN_ENERGY.ENERGY. -/
def PWR_IN_ENERGY_ENERGY : Fld := ⟨0, 64⟩

/-- PWR_PORT_ENERGY.ENERGY. -/
def PWR_PORT_ENERGY_ENERGY : Fld := ⟨0, 64⟩

/-- PWR_MODEL_COEF.COEF. -/
def PWR_MODEL_COEF_COEF : Fld := ⟨0, 32⟩

/-- PWR_CELL.LEVEL. -/
def PWR_CELL_LEVEL : Fld := ⟨0, 4⟩

/-- PWR_CELL.DIV. -/
def PWR_CELL_DIV : Fld := ⟨4, 2⟩

/-- PWR_CELL.CAUSE. -/
def PWR_CELL_CAUSE : Fld := ⟨6, 5⟩

/-- PWR_CELL.TEMP. -/
def PWR_CELL_TEMP : Fld := ⟨16, 8⟩

/-- PWR_CELL.VOLT_MV. -/
def PWR_CELL_VOLT_MV : Fld := ⟨24, 10⟩

/-- PWR_CELL.EPISODES. -/
def PWR_CELL_EPISODES : Fld := ⟨48, 16⟩

/-- SEC_CAPS.CAPS_VER. -/
def SEC_CAPS_CAPS_VER : Fld := ⟨0, 8⟩

/-- SEC_CAPS.WARDS. -/
def SEC_CAPS_WARDS : Fld := ⟨8, 4⟩

/-- SEC_CAPS.CONTEXTS. -/
def SEC_CAPS_CONTEXTS : Fld := ⟨16, 8⟩

/-- SEC_CAPS.KEYSLOTS. -/
def SEC_CAPS_KEYSLOTS : Fld := ⟨24, 8⟩

/-- SEC_CAPS.LINKS. -/
def SEC_CAPS_LINKS : Fld := ⟨32, 16⟩

/-- SEC_STATUS.BLANK. -/
def SEC_STATUS_BLANK : Fld := ⟨0, 1⟩

/-- SEC_STATUS.DEBUG. -/
def SEC_STATUS_DEBUG : Fld := ⟨1, 1⟩

/-- SEC_STATUS.RNG_OK. -/
def SEC_STATUS_RNG_OK : Fld := ⟨2, 1⟩

/-- SEC_STATUS.LOCKED. -/
def SEC_STATUS_LOCKED : Fld := ⟨8, 8⟩

/-- SEC_SERIAL.DIGEST. -/
def SEC_SERIAL_DIGEST : Fld := ⟨0, 64⟩

/-- SEC_WARD_STATE.STATE. -/
def SEC_WARD_STATE_STATE : Fld := ⟨0, 3⟩

/-- SEC_WARD_STATE.CELLS. -/
def SEC_WARD_STATE_CELLS : Fld := ⟨8, 8⟩

/-- SEC_WARD_STATE.SLICES. -/
def SEC_WARD_STATE_SLICES : Fld := ⟨16, 15⟩

/-- SEC_WARD_RES.GROUPS. -/
def SEC_WARD_RES_GROUPS : Fld := ⟨0, 8⟩

/-- SEC_WARD_RES.QBASE. -/
def SEC_WARD_RES_QBASE : Fld := ⟨8, 8⟩

/-- SEC_WARD_RES.QCOUNT. -/
def SEC_WARD_RES_QCOUNT : Fld := ⟨16, 9⟩

/-- SEC_WARD_ENG.STREAM. -/
def SEC_WARD_ENG_STREAM : Fld := ⟨0, 32⟩

/-- SEC_WARD_ENG.COLL. -/
def SEC_WARD_ENG_COLL : Fld := ⟨32, 8⟩

/-- SEC_WARD_SEQ.SEQ. -/
def SEC_WARD_SEQ_SEQ : Fld := ⟨0, 64⟩

/-- SEC_UNS_RING.BASE. -/
def SEC_UNS_RING_BASE : Fld := ⟨0, 48⟩

/-- SEC_UNS_RING.RING_LOG2. -/
def SEC_UNS_RING_RING_LOG2 : Fld := ⟨48, 4⟩

/-- SEC_UNS_CTL.WARD. -/
def SEC_UNS_CTL_WARD : Fld := ⟨0, 3⟩

/-- SEC_UNS_CTL.EN. -/
def SEC_UNS_CTL_EN : Fld := ⟨3, 1⟩

/-- SEC_UNS_CTL.SIG_CTR. -/
def SEC_UNS_CTL_SIG_CTR : Fld := ⟨4, 6⟩

/-- SEC_UNS_CTL.SIG_TARGET. -/
def SEC_UNS_CTL_SIG_TARGET : Fld := ⟨10, 7⟩

/-- SEC_UNS_CTL.SIG_TKIND. -/
def SEC_UNS_CTL_SIG_TKIND : Fld := ⟨17, 2⟩

/-- SEC_UNS_CTL.SIG_ALLWARD. -/
def SEC_UNS_CTL_SIG_ALLWARD : Fld := ⟨19, 1⟩

/-- SEC_UNS_CTL.BUSY. -/
def SEC_UNS_CTL_BUSY : Fld := ⟨20, 1⟩

/-- SEC_KEYSLOT.WARD. -/
def SEC_KEYSLOT_WARD : Fld := ⟨0, 3⟩

/-- SEC_KEYSLOT.VALID. -/
def SEC_KEYSLOT_VALID : Fld := ⟨3, 1⟩

/-- SEC_LINK.KEY_ID. -/
def SEC_LINK_KEY_ID : Fld := ⟨0, 16⟩

/-- SEC_LINK.PEER. -/
def SEC_LINK_PEER : Fld := ⟨16, 16⟩

/-- SEC_LINK.WARD. -/
def SEC_LINK_WARD : Fld := ⟨32, 3⟩

/-- SEC_LINK.VALID. -/
def SEC_LINK_VALID : Fld := ⟨35, 1⟩

/-- SEC_LINK.SPENT. -/
def SEC_LINK_SPENT : Fld := ⟨36, 1⟩

/-- CFG_CAPS.CAPS_VER. -/
def CFG_CAPS_CAPS_VER : Fld := ⟨0, 8⟩

/-- CFG_TXN_CTRL.OP. -/
def CFG_TXN_CTRL_OP : Fld := ⟨0, 2⟩

/-- CFG_TXN_CTRL.PERSIST. -/
def CFG_TXN_CTRL_PERSIST : Fld := ⟨2, 1⟩

/-- CFG_TXN_CTRL.TIMEOUT_S. -/
def CFG_TXN_CTRL_TIMEOUT_S : Fld := ⟨8, 8⟩

/-- CFG_TXN_STATUS.STATE. -/
def CFG_TXN_STATUS_STATE : Fld := ⟨0, 2⟩

/-- CFG_TXN_STATUS.OWNER. -/
def CFG_TXN_STATUS_OWNER : Fld := ⟨2, 1⟩

/-- CFG_TXN_STATUS.OVERFLOW. -/
def CFG_TXN_STATUS_OVERFLOW : Fld := ⟨3, 1⟩

/-- CFG_TXN_STATUS.STATUS. -/
def CFG_TXN_STATUS_STATUS : Fld := ⟨8, 8⟩

/-- CFG_TXN_STATUS.STAGED. -/
def CFG_TXN_STATUS_STAGED : Fld := ⟨16, 14⟩

/-- CFG_TXN_STATUS.TXN_ID. -/
def CFG_TXN_STATUS_TXN_ID : Fld := ⟨32, 32⟩

/-- CFG_TXN_FAIL.ADDR. -/
def CFG_TXN_FAIL_ADDR : Fld := ⟨0, 48⟩

/-- CFG_PERSIST.STATE. -/
def CFG_PERSIST_STATE : Fld := ⟨0, 3⟩

/-- CFG_PERSIST.SKIPPED. -/
def CFG_PERSIST_SKIPPED : Fld := ⟨3, 15⟩

/-- CFG_PERSIST.SEQ. -/
def CFG_PERSIST_SEQ : Fld := ⟨18, 46⟩

/-- CFG_NAND_STATUS.RESERVE_LEFT. -/
def CFG_NAND_STATUS_RESERVE_LEFT : Fld := ⟨0, 12⟩

/-- CFG_NAND_STATUS.RETIRED. -/
def CFG_NAND_STATUS_RETIRED : Fld := ⟨16, 12⟩

/-- CFG_NAND_STATUS.MAX_ERASE. -/
def CFG_NAND_STATUS_MAX_ERASE : Fld := ⟨32, 32⟩

/-- CFG_NAND_ECC.CORRECTED. -/
def CFG_NAND_ECC_CORRECTED : Fld := ⟨0, 32⟩

/-- CFG_NAND_ECC.UNREADABLE. -/
def CFG_NAND_ECC_UNREADABLE : Fld := ⟨32, 16⟩

/-- CFG_LIVE_CTRL.RETRAIN_EN. -/
def CFG_LIVE_CTRL_RETRAIN_EN : Fld := ⟨0, 1⟩

/-- CFG_LIVE_CTRL.RETRAIN_HOURS. -/
def CFG_LIVE_CTRL_RETRAIN_HOURS : Fld := ⟨8, 8⟩

/-- TAG_CAPS.CAPS_VER. -/
def TAG_CAPS_CAPS_VER : Fld := ⟨0, 8⟩

/-- TAG_STATUS.SERVICE_MARK. -/
def TAG_STATUS_SERVICE_MARK : Fld := ⟨0, 1⟩

/-- TAG_STATUS.BUSY. -/
def TAG_STATUS_BUSY : Fld := ⟨1, 1⟩

/-- TAG_STATUS.STATUS. -/
def TAG_STATUS_STATUS : Fld := ⟨8, 8⟩

/-- TAG_STATUS.FIELD_WRITES. -/
def TAG_STATUS_FIELD_WRITES : Fld := ⟨16, 16⟩

/-- TAG_ACCESS.ADDR. -/
def TAG_ACCESS_ADDR : Fld := ⟨0, 13⟩

/-- TAG_ACCESS.OP. -/
def TAG_ACCESS_OP : Fld := ⟨13, 1⟩

/-- TAG_ACCESS.GO. -/
def TAG_ACCESS_GO : Fld := ⟨14, 1⟩

/-- TAG_DATA.DATA. -/
def TAG_DATA_DATA : Fld := ⟨0, 64⟩

/-- EVT_CAPS.CAPS_VER. -/
def EVT_CAPS_CAPS_VER : Fld := ⟨0, 8⟩

/-- EVT_CAPS.PATHS. -/
def EVT_CAPS_PATHS : Fld := ⟨8, 8⟩

/-- EVT_CAPS.ALARM_KEYS. -/
def EVT_CAPS_ALARM_KEYS : Fld := ⟨16, 16⟩

/-- EVT_CAPS.SUMMARY_KEYS. -/
def EVT_CAPS_SUMMARY_KEYS : Fld := ⟨32, 16⟩

/-- EVT_CTRL.HOST_EN. -/
def EVT_CTRL_HOST_EN : Fld := ⟨0, 1⟩

/-- EVT_CTRL.SB_LOG. -/
def EVT_CTRL_SB_LOG : Fld := ⟨1, 1⟩

/-- EVT_CTRL.TRACE_EN. -/
def EVT_CTRL_TRACE_EN : Fld := ⟨2, 1⟩

/-- EVT_CTRL.IRQ_MIN_US. -/
def EVT_CTRL_IRQ_MIN_US : Fld := ⟨8, 8⟩

/-- EVT_HOST_BASE.BASE. -/
def EVT_HOST_BASE_BASE : Fld := ⟨0, 48⟩

/-- EVT_HOST_BASE.LOG2. -/
def EVT_HOST_BASE_LOG2 : Fld := ⟨48, 5⟩

/-- EVT_HOST_PROD.PROD. -/
def EVT_HOST_PROD_PROD : Fld := ⟨0, 32⟩

/-- EVT_HOST_CONS.CONS. -/
def EVT_HOST_CONS_CONS : Fld := ⟨0, 32⟩

/-- EVT_SB_STATUS.QUEUED. -/
def EVT_SB_STATUS_QUEUED : Fld := ⟨0, 9⟩

/-- EVT_SB_STATUS.ALERT. -/
def EVT_SB_STATUS_ALERT : Fld := ⟨9, 1⟩

/-- EVT_NAND_POS.NEWEST. -/
def EVT_NAND_POS_NEWEST : Fld := ⟨0, 17⟩

/-- EVT_NAND_POS.OLDEST. -/
def EVT_NAND_POS_OLDEST : Fld := ⟨32, 17⟩

/-- EVT_NAND_READ.PAGE. -/
def EVT_NAND_READ_PAGE : Fld := ⟨0, 17⟩

/-- EVT_NAND_READ.GO. -/
def EVT_NAND_READ_GO : Fld := ⟨17, 1⟩

/-- EVT_NAND_READ.BUSY. -/
def EVT_NAND_READ_BUSY : Fld := ⟨18, 1⟩

/-- EVT_NAND_READ.STATUS. -/
def EVT_NAND_READ_STATUS : Fld := ⟨24, 8⟩

/-- EVT_LOSS.SUMMARISED. -/
def EVT_LOSS_SUMMARISED : Fld := ⟨0, 32⟩

/-- EVT_LOSS.TRACES_LOST. -/
def EVT_LOSS_TRACES_LOST : Fld := ⟨32, 32⟩

/-- EVT_NAND_DATA.DATA. -/
def EVT_NAND_DATA_DATA : Fld := ⟨0, 64⟩

end F

/-- Registers of the MGMT window. -/
def regsMGMT : List RegDef := [
  ⟨0x8, [],
    [fd 0 8 .ro 0x1]⟩,
  ⟨0x100, [],
    [fd 0 3 .ro 0x0, fd 3 1 .ro 0x0, fd 4 1 .ro 0x0, fd 8 8 .ro 0x0, fd 16 32 .ro 0x0]⟩,
  ⟨0x108, [],
    [fd 0 1 .ro 0x0, fd 1 1 .ro 0x0, fd 2 2 .ro 0x0, fd 4 2 .ro 0x0, fd 6 2 .ro 0x0, fdr 8 8 .rw 0x1E 1 255, fd 16 32 .ro 0x0]⟩,
  ⟨0x110, [(2, 0x8)],
    [fd 0 64 .ro 0x0]⟩,
  ⟨0x120, [],
    [fd 0 48 .rw 0x0]⟩,
  ⟨0x128, [],
    [fd 0 25 .wo 0x0, fd 25 3 .wo 0x0, fd 28 1 .wo 0x0]⟩,
  ⟨0x130, [],
    [fd 0 1 .ro 0x0, fd 8 8 .ro 0x0, fd 16 24 .ro 0x0]⟩,
  ⟨0x200100, [(8, 0x1000), (10, 0x20), (4, 0x8)],
    [fd 0 64 .rc 0x0]⟩]

/-- Registers of the HALF window. -/
def regsHALF : List RegDef := [
  ⟨0x1000008, [(2, 0x40000000)],
    [fd 0 8 .ro 0x1, fd 8 8 .ro 0x9, fd 16 8 .ro 0x8, fd 24 8 .ro 0x1]⟩,
  ⟨0x1000100, [(2, 0x40000000)],
    [fdr 0 4 .txn 0xF 15 7, fdr 8 4 .txn 0xF 15 7, fdr 16 4 .txn 0xF 15 7, fdr 24 4 .txn 0xF 15 7,
      fdr 32 4 .txn 0xF 15 7, fdr 40 4 .txn 0xF 15 7, fdr 48 4 .txn 0xF 15 7, fdr 56 4 .txn 0xF 15 7]⟩,
  ⟨0x1000108, [(2, 0x40000000)],
    [fd 0 64 .txn 0x0]⟩,
  ⟨0x1000110, [(2, 0x40000000)],
    [fd 0 9 .ro 0x0, fd 16 9 .ro 0x0, fd 32 9 .ro 0x0, fd 48 9 .ro 0x0]⟩,
  ⟨0x1000118, [(2, 0x40000000)],
    [fd 0 9 .ro 0x0, fd 16 9 .ro 0x0, fd 32 9 .ro 0x0, fd 48 9 .ro 0x0]⟩,
  ⟨0x1000200, [(2, 0x40000000)],
    [fd 0 2 .ro 0x1, fd 2 1 .ro 0x0, fd 3 1 .ro 0x0, fd 16 16 .ro 0x0, fd 32 32 .ro 0x0]⟩,
  ⟨0x1000208, [(2, 0x40000000)],
    [fd 0 2 .wo 0x0, fd 2 1 .wo 0x0, fd 32 32 .wo 0x0]⟩,
  ⟨0x1000210, [(2, 0x40000000)],
    [fd 0 16 .rc 0x0, fd 16 16 .rc 0x0, fd 32 8 .ro 0x0]⟩,
  ⟨0x1400000, [(2, 0x40000000), (64, 0x1000)],
    [fd 0 4 .rw 0x0]⟩,
  ⟨0x1400008, [(2, 0x40000000), (64, 0x1000)],
    [fd 0 64 .rw 0x0]⟩,
  ⟨0x1400100, [(2, 0x40000000), (64, 0x1000), (10, 0x20), (4, 0x8)],
    [fd 0 64 .ro 0x0]⟩,
  ⟨0x1500000, [(2, 0x40000000), (64, 0x10000), (4, 0x1000), (256, 0x10)],
    [fd 0 32 .rw 0x0, fd 32 32 .rw 0x0]⟩,
  ⟨0x1500008, [(2, 0x40000000), (64, 0x10000), (4, 0x1000), (256, 0x10)],
    [fd 0 32 .rw 0x0, fd 32 32 .rw 0x0]⟩,
  ⟨0x1508000, [(2, 0x40000000), (64, 0x10000), (4, 0x40)],
    [fd 0 8 .ro 0x1, fd 8 2 .rw 0x0, fdr 10 2 .rw 0x0 0 2, fdr 12 2 .rw 0x0 0 2, fdr 16 8 .rw 0x0 192 63, fd 32 1 .rw 0x0]⟩,
  ⟨0x1508008, [(2, 0x40000000), (64, 0x10000), (4, 0x40)],
    [fd 0 32 .rw 0x0, fd 32 32 .rw 0x0]⟩,
  ⟨0x1508010, [(2, 0x40000000), (64, 0x10000), (4, 0x40)],
    [fd 0 32 .rw 0x0, fd 32 32 .rw 0x0]⟩,
  ⟨0x1508018, [(2, 0x40000000), (64, 0x10000), (4, 0x40)],
    [fd 0 32 .rw 0x0, fd 32 32 .rw 0x0]⟩,
  ⟨0x1509000, [(2, 0x40000000), (64, 0x10000)],
    [fd 0 32 .rw 0x0, fd 32 1 .rw 0x0]⟩,
  ⟨0x144F000, [(2, 0x40000000)],
    [fd 0 64 .rw 0x0]⟩]

/-- Registers of the CELL window. -/
def regsCELL : List RegDef := [
  ⟨0x8000008, [(128, 0x20000)],
    [fd 0 8 .ro 0x1, fd 8 8 .ro 0x40, fd 16 8 .ro 0x40, fd 24 8 .ro 0x40, fd 32 8 .ro 0x40, fd 40 4 .ro 0x1]⟩,
  ⟨0x8000100, [(128, 0x20000)],
    [fd 0 1 .rw 0x0, fd 1 1 .rw 0x1]⟩,
  ⟨0x8000108, [(128, 0x20000)],
    [fd 0 1 .ro 0x1, fd 1 1 .ro 0x0, fd 2 1 .ro 0x0, fd 32 32 .ro 0x0]⟩,
  ⟨0x8000110, [(128, 0x20000)],
    [fd 0 32 .rw 0x0]⟩,
  ⟨0x8000118, [(128, 0x20000)],
    [fd 0 32 .ro 0x0, fd 32 8 .ro 0x0]⟩,
  ⟨0x8000200, [(128, 0x20000)],
    [fd 0 1 .wo 0x0, fd 1 1 .wo 0x0, fd 8 1 .wo 0x0, fd 9 1 .wo 0x0, fd 16 1 .rw 0x1]⟩,
  ⟨0x8000208, [(128, 0x20000)],
    [fd 0 2 .ro 0x0, fd 8 7 .ro 0x0, fd 16 2 .ro 0x0, fd 24 7 .ro 0x0, fd 32 1 .ro 0x1, fd 33 1 .ro 0x1]⟩,
  ⟨0x8000220, [(128, 0x20000)],
    [fd 0 32 .rc 0x0]⟩,
  ⟨0x8000400, [(128, 0x20000)],
    [fd 0 32 .rw 0x80000000]⟩,
  ⟨0x8000408, [(128, 0x20000)],
    [fd 0 32 .rw 0x3727C5AC]⟩,
  ⟨0x8000210, [(128, 0x20000), (2, 0x8)],
    [fd 0 32 .ro 0x0, fd 32 8 .ro 0x0, fd 40 8 .ro 0x0, fd 48 16 .ro 0x0]⟩,
  ⟨0x8000300, [(128, 0x20000)],
    [fd 0 64 .ro 0x0]⟩,
  ⟨0x8000308, [(128, 0x20000), (6, 0x8)],
    [fd 0 64 .ro 0x0]⟩,
  ⟨0x8000800, [(128, 0x20000), (64, 0x8)],
    [fd 0 16 .rw 0x0]⟩,
  ⟨0x8001000, [(128, 0x20000)],
    [fd 0 8 .ro 0x1, fd 8 8 .ro 0x80, fd 16 8 .ro 0x80, fd 24 8 .ro 0x3, fd 32 16 .ro 0x400]⟩,
  ⟨0x8001008, [(128, 0x20000)],
    [fd 0 1 .ro 0x0, fd 8 8 .ro 0x0, fd 16 1 .w1c 0x0, fd 17 1 .w1c 0x0, fd 18 1 .w1c 0x0, fd 19 1 .w1c 0x0, fd 20 1 .w1c 0x0]⟩,
  ⟨0x8001010, [(128, 0x20000)],
    [fd 0 64 .ro 0x0]⟩,
  ⟨0x8001018, [(128, 0x20000)],
    [fd 0 32 .rc 0x0, fd 32 16 .rc 0x0]⟩]

/-- Registers of the MEM window. -/
def regsMEM : List RegDef := [
  ⟨0x10000008, [(2, 0x40000000), (4, 0x400000)],
    [fd 0 8 .ro 0x1, fd 8 8 .ro 0x40, fd 16 8 .ro 0x40, fd 24 8 .ro 0x14, fd 32 8 .ro 0x40, fd 40 8 .ro 0x3F]⟩,
  ⟨0x10000100, [(2, 0x40000000), (4, 0x400000)],
    [fd 0 64 .ro 0x0]⟩,
  ⟨0x10000108, [(2, 0x40000000), (4, 0x400000)],
    [fd 0 6 .wo 0x0, fd 8 1 .wo 0x0]⟩,
  ⟨0x10000200, [(2, 0x40000000), (4, 0x400000)],
    [fd 0 5 .rw 0x8, fd 5 1 .rw 0x1, fd 8 8 .rw 0x18, fd 16 1 .rw 0x1]⟩,
  ⟨0x10000208, [(2, 0x40000000), (4, 0x400000)],
    [fd 0 17 .ro 0x0, fd 32 30 .ro 0x0]⟩,
  ⟨0x10000300, [(2, 0x40000000), (4, 0x400000)],
    [fd 0 16 .wo 0x0, fd 16 17 .wo 0x0, fd 33 1 .wo 0x0, fd 63 1 .wo 0x0]⟩,
  ⟨0x10000308, [(2, 0x40000000), (4, 0x400000)],
    [fd 0 1 .ro 0x0, fd 8 8 .ro 0x0, fd 16 17 .ro 0x0]⟩,
  ⟨0x10000400, [(2, 0x40000000), (4, 0x400000)],
    [fd 0 8 .ro 0x0, fd 8 1 .ro 0x0, fd 9 3 .ro 0x0, fd 12 1 .ro 0x0, fd 16 8 .rc 0x0]⟩,
  ⟨0x10000408, [(2, 0x40000000), (4, 0x400000)],
    [fd 0 1 .wo 0x0]⟩,
  ⟨0x10000500, [(2, 0x40000000), (4, 0x400000)],
    [fd 0 32 .rc 0x0, fd 32 16 .rc 0x0, fd 48 16 .rc 0x0]⟩,
  ⟨0x10000508, [(2, 0x40000000), (4, 0x400000)],
    [fd 0 32 .rc 0x0]⟩,
  ⟨0x10000510, [(2, 0x40000000), (4, 0x400000)],
    [fd 0 36 .ro 0x0, fd 36 8 .ro 0x0]⟩,
  ⟨0x10100000, [(2, 0x40000000), (4, 0x400000), (65536, 0x8)],
    [fd 0 2 .ro 0x0, fd 4 4 .ro 0xF]⟩]

/-- Registers of the TIER window. -/
def regsTIER : List RegDef := [
  ⟨0x11000008, [(2, 0x40000000)],
    [fd 0 8 .ro 0x1, fd 8 8 .ro 0x10, fd 16 16 .ro 0x400, fd 32 8 .ro 0x40, fd 40 8 .ro 0x8, fd 48 8 .ro 0x10]⟩,
  ⟨0x11000100, [(2, 0x40000000)],
    [fd 0 48 .rw 0x0]⟩,
  ⟨0x11000108, [(2, 0x40000000)],
    [fd 0 23 .wo 0x0, fd 24 2 .wo 0x0, fd 26 2 .wo 0x0, fd 28 3 .wo 0x0, fd 31 1 .wo 0x0]⟩,
  ⟨0x11000110, [(2, 0x40000000)],
    [fd 0 1 .ro 0x0, fd 8 8 .ro 0x0, fd 16 23 .ro 0x0, fd 40 23 .ro 0x0]⟩,
  ⟨0x11000200, [(2, 0x40000000), (8, 0x8)],
    [fd 0 16 .txn 0x0]⟩,
  ⟨0x11000240, [(2, 0x40000000), (8, 0x8)],
    [fd 0 15 .ro 0x0, fd 16 15 .ro 0x0, fd 32 15 .ro 0x0]⟩,
  ⟨0x11000300, [(2, 0x40000000), (4, 0x40), (8, 0x8)],
    [fdr 0 9 .txn 0x20 0 256, fdr 16 16 .txn 0x400 1 65535, fd 32 1 .txn 0x1]⟩,
  ⟨0x11000400, [(2, 0x40000000), (16, 0x8)],
    [fd 0 64 .ro 0x0]⟩,
  ⟨0x11000480, [(2, 0x40000000)],
    [fd 0 64 .ro 0x0]⟩,
  ⟨0x11001000, [(2, 0x40000000), (8, 0x80)],
    [fd 0 1 .rw 0x0, fd 1 1 .rw 0x0, fd 2 1 .wo 0x0, fd 8 8 .rw 0x1, fd 16 4 .rw 0x0, fd 20 6 .rw 0x0, fd 32 6 .rw 0x0, fd 38 1 .rw 0x0, fd 40 7 .rw 0x0, fdr 47 2 .rw 0x0 0 2, fd 49 1 .rw 0x0]⟩,
  ⟨0x11001008, [(2, 0x40000000), (8, 0x80)],
    [fd 0 48 .rw 0x0]⟩,
  ⟨0x11001010, [(2, 0x40000000), (8, 0x80)],
    [fd 0 20 .rw 0x0, fd 32 16 .rw 0x0]⟩,
  ⟨0x11001018, [(2, 0x40000000), (8, 0x80)],
    [fd 0 20 .ro 0x0, fd 20 1 .ro 0x0, fd 21 1 .ro 0x0, fd 22 1 .ro 0x0, fd 23 1 .ro 0x0, fd 24 8 .ro 0x0, fd 32 16 .ro 0x0]⟩]

/-- Registers of the XPORT window. -/
def regsXPORT : List RegDef := [
  ⟨0x18000008, [],
    [fd 0 8 .ro 0x1, fd 8 4 .ro 0x1, fd 16 8 .ro 0x14, fd 24 8 .ro 0x10, fd 32 8 .ro 0xE, fd 40 8 .ro 0x10, fd 48 8 .ro 0x8, fd 56 8 .ro 0xC]⟩,
  ⟨0x18000100, [],
    [fd 0 16 .txn 0xFFFF, fdr 16 2 .txn 0x0 0 1, fd 18 1 .txn 0x1, fdr 19 2 .txn 0x2 0 2, fd 21 1 .txn 0x0, fd 22 16 .txn 0xBA10]⟩,
  ⟨0x18000108, [],
    [fdr 0 8 .txn 0x8 1 255, fdr 8 8 .txn 0x8 1 255, fd 16 16 .txn 0x10, fd 32 16 .txn 0x7D0, fdr 48 4 .txn 0x4 1 15]⟩,
  ⟨0x18000110, [],
    [fdr 0 13 .txn 0x1000 1 4096, fdr 16 13 .txn 0x1000 1 4096]⟩,
  ⟨0x18000118, [],
    [fd 0 48 .txn 0x0]⟩,
  ⟨0x18000120, [],
    [fd 0 16 .txn 0x0]⟩,
  ⟨0x18000128, [],
    [fd 0 8 .txn 0x80, fd 8 16 .txn 0x0]⟩,
  ⟨0x18000300, [],
    [fd 0 48 .rw 0x0]⟩,
  ⟨0x18000308, [],
    [fd 0 40 .rw 0x0]⟩,
  ⟨0x18000310, [],
    [fd 0 6 .rw 0x0, fd 6 1 .rw 0x0, fd 7 7 .rw 0x0, fdr 14 2 .rw 0x0 0 2, fd 16 1 .rw 0x0, fd 17 20 .rw 0x0, fd 37 1 .rw 0x0]⟩,
  ⟨0x18000318, [],
    [fd 0 32 .rw 0x0, fd 32 32 .ro 0x0]⟩,
  ⟨0x18000320, [],
    [fd 0 1 .wo 0x0, fd 1 1 .wo 0x0, fd 2 3 .wo 0x0, fd 5 1 .wo 0x0, fd 6 1 .wo 0x0, fd 7 1 .wo 0x0]⟩,
  ⟨0x18000328, [],
    [fd 0 1 .ro 0x0, fd 8 8 .ro 0x0]⟩,
  ⟨0x18000400, [],
    [fd 0 20 .wo 0x0, fd 20 32 .wo 0x0]⟩,
  ⟨0x18000408, [],
    [fd 0 20 .wo 0x0, fd 20 32 .wo 0x0]⟩,
  ⟨0x18000540, [],
    [fd 0 20 .wo 0x0, fd 20 1 .wo 0x0, fd 21 1 .wo 0x0]⟩,
  ⟨0x18000548, [],
    [fd 0 1 .ro 0x0, fd 8 8 .ro 0x0]⟩,
  ⟨0x18000600, [],
    [fd 0 32 .rc 0x0]⟩,
  ⟨0x18000608, [],
    [fd 0 32 .rc 0x0]⟩,
  ⟨0x18000610, [],
    [fd 0 32 .rc 0x0]⟩,
  ⟨0x18000200, [(16, 0x8)],
    [fd 0 64 .txn 0x0]⟩,
  ⟨0x18000280, [(16, 0x8)],
    [fd 0 48 .txn 0x0, fd 48 1 .txn 0x1]⟩,
  ⟨0x18000500, [(8, 0x8)],
    [fd 0 64 .rw 0x0]⟩,
  ⟨0x18000700, [(8, 0x20)],
    [fd 0 4 .rw 0x0]⟩,
  ⟨0x18000708, [(8, 0x20)],
    [fd 0 64 .rw 0x0]⟩,
  ⟨0x18000710, [(8, 0x20)],
    [fd 0 1 .wo 0x0]⟩,
  ⟨0x18000718, [(8, 0x20)],
    [fd 0 1 .ro 0x0, fd 8 8 .ro 0x0, fd 16 16 .ro 0x0]⟩,
  ⟨0x18010000, [(4096, 0x8)],
    [fd 0 16 .txn 0x0, fd 16 16 .ro 0x0, fdr 32 3 .txn 0x0 0 7, fd 36 1 .txn 0x0]⟩]

/-- Registers of the PORT window. -/
def regsPORT : List RegDef := [
  ⟨0x19000008, [(2, 0x40000000), (8, 0x200000)],
    [fd 0 8 .ro 0x1, fd 8 8 .ro 0x8, fd 16 8 .ro 0x3, fd 24 1 .ro 0x1, fd 25 1 .ro 0x1]⟩,
  ⟨0x19000100, [(2, 0x40000000), (8, 0x200000)],
    [fdr 0 2 .txn 0x1 0 2, fd 2 1 .txn 0x0, fd 3 12 .txn 0x0, fd 15 3 .txn 0x0, fd 18 6 .txn 0x0, fd 24 1 .txn 0x0, fd 25 1 .txn 0x1, fdr 26 14 .txn 0x2400 1518 9216]⟩,
  ⟨0x19000108, [(2, 0x40000000), (8, 0x200000)],
    [fd 0 1 .ro 0x0, fd 1 1 .ro 0x0, fd 2 1 .ro 0x0, fd 3 2 .ro 0x0, fd 5 1 .ro 0x0, fd 6 1 .ro 0x0, fd 7 1 .ro 0x0, fd 8 8 .ro 0x0, fd 16 11 .ro 0x0, fd 27 1 .ro 0x0]⟩,
  ⟨0x19000110, [(2, 0x40000000), (8, 0x200000)],
    [fd 0 48 .ro 0x0]⟩,
  ⟨0x19000118, [(2, 0x40000000), (8, 0x200000)],
    [fd 0 48 .txn 0x0, fd 48 1 .txn 0x1]⟩,
  ⟨0x19000120, [(2, 0x40000000), (8, 0x200000)],
    [fdr 0 11 .txn 0x180 1 1024, fd 16 11 .txn 0x100, fdr 32 8 .txn 0x2 1 255]⟩,
  ⟨0x19000128, [(2, 0x40000000), (8, 0x200000)],
    [fdr 0 7 .txn 0x20 1 120, fdr 8 8 .txn 0xA 1 255, fdr 16 8 .txn 0x20 1 255]⟩,
  ⟨0x19000130, [(2, 0x40000000), (8, 0x200000)],
    [fd 0 1 .wo 0x0, fdr 1 2 .rw 0x0 0 1, fdr 8 8 .rw 0xA 1 255]⟩,
  ⟨0x19000138, [(2, 0x40000000), (8, 0x200000)],
    [fd 0 32 .rw 0x4000000]⟩,
  ⟨0x19001000, [(2, 0x40000000), (8, 0x200000), (32, 0x8)],
    [fd 0 48 .ro 0x0]⟩,
  ⟨0x19001100, [(2, 0x40000000), (8, 0x200000), (32, 0x8)],
    [fd 0 48 .ro 0x0]⟩,
  ⟨0x19001200, [(2, 0x40000000), (8, 0x200000), (32, 0x8)],
    [fd 0 48 .ro 0x0]⟩,
  ⟨0x19002000, [(2, 0x40000000), (8, 0x200000), (8, 0x20), (4, 0x8)],
    [fd 0 64 .rc 0x0]⟩]

/-- Registers of the HOST window. -/
def regsHOST : List RegDef := [
  ⟨0x20000008, [],
    [fd 0 8 .ro 0x1, fd 8 8 .ro 0x10, fd 16 4 .ro 0x6, fd 24 8 .ro 0x10, fd 32 8 .ro 0x40]⟩,
  ⟨0x20000100, [],
    [fd 0 4 .ro 0x0, fd 4 5 .ro 0x0, fd 9 1 .ro 0x0, fd 10 1 .ro 0x1]⟩,
  ⟨0x20000108, [],
    [fd 0 64 .rw 0xFFFEFFFFFFFFFFFF]⟩,
  ⟨0x20000110, [],
    [fd 0 64 .rw 0xFFFFFFFFFFFFFFFF]⟩,
  ⟨0x20000118, [],
    [fd 30 22 .txn 0x0]⟩,
  ⟨0x20000120, [],
    [fd 0 14 .txn 0x0, fdr 16 12 .txn 0x0 0 2048]⟩,
  ⟨0x20000128, [],
    [fd 0 3 .rw 0x1, fdr 16 16 .rw 0x64 1 65535]⟩,
  ⟨0x20000130, [],
    [fd 0 32 .rw 0x0]⟩,
  ⟨0x20000138, [],
    [fd 0 3 .ro 0x0, fd 3 1 .ro 0x0]⟩,
  ⟨0x20000140, [],
    [fd 0 48 .ro 0x0, fd 48 8 .ro 0x0, fd 56 3 .ro 0x0]⟩,
  ⟨0x20000148, [],
    [fd 0 32 .rc 0x0]⟩,
  ⟨0x20000200, [(16, 0x10)],
    [fd 0 32 .rw 0x0, fd 32 32 .rw 0x0]⟩,
  ⟨0x20000208, [(16, 0x10)],
    [fd 0 1 .rw 0x0, fd 12 36 .rw 0x0]⟩,
  ⟨0x20000308, [(63, 0x8)],
    [fd 0 20 .rw 0x0, fd 20 1 .rw 0x0, fd 24 8 .rw 0x0]⟩]

/-- Registers of the PWR window. -/
def regsPWR : List RegDef := [
  ⟨0x28000008, [],
    [fd 0 8 .ro 0x1, fd 8 4 .ro 0xA, fd 16 8 .ro 0x9]⟩,
  ⟨0x28000100, [],
    [fdr 0 12 .txn 0x7D0 1200 2200, fd 16 12 .txn 0x196, fd 32 8 .txn 0x50, fd 40 8 .txn 0xEC]⟩,
  ⟨0x28000108, [],
    [fd 0 9 .txn 0x80, fd 16 9 .txn 0x80]⟩,
  ⟨0x28000130, [],
    [fd 0 1 .txn 0x0, fd 8 8 .txn 0x28, fd 16 8 .txn 0x50, fdr 24 8 .txn 0x8 1 255]⟩,
  ⟨0x28000138, [],
    [fdr 0 8 .txn 0x20 1 255, fdr 8 8 .txn 0x10 1 128]⟩,
  ⟨0x28000140, [],
    [fd 0 12 .ro 0x0, fd 12 12 .ro 0x0, fd 24 12 .ro 0x7D0, fd 36 8 .ro 0x80, fd 44 1 .ro 0x0]⟩,
  ⟨0x28000148, [],
    [fd 0 8 .ro 0x0, fd 8 8 .ro 0x0, fd 16 8 .rc 0x0]⟩,
  ⟨0x28000150, [],
    [fd 0 4 .ro 0x0, fd 8 8 .ro 0x0, fd 16 8 .ro 0x0]⟩,
  ⟨0x28000110, [(2, 0x8)],
    [fd 0 8 .txn 0xFF, fd 8 8 .txn 0x0, fd 16 8 .txn 0x0, fd 24 8 .txn 0x0, fd 32 8 .txn 0x0, fd 40 8 .txn 0x0, fd 48 8 .txn 0x0, fd 56 8 .txn 0x0]⟩,
  ⟨0x28000120, [(2, 0x8)],
    [fd 0 4 .ro 0x0, fd 4 4 .ro 0x0, fd 8 4 .ro 0x0, fd 12 4 .ro 0x0, fd 16 4 .ro 0x0, fd 20 4 .ro 0x0, fd 24 4 .ro 0x0, fd 28 4 .ro 0x0]⟩,
  ⟨0x28000200, [(8, 0x8)],
    [fd 0 64 .ro 0x0]⟩,
  ⟨0x28000240, [(2, 0x8)],
    [fd 0 64 .ro 0x0]⟩,
  ⟨0x28000250, [],
    [fd 0 64 .ro 0x0]⟩,
  ⟨0x28000258, [],
    [fd 0 64 .ro 0x0]⟩,
  ⟨0x28000260, [(16, 0x8)],
    [fd 0 64 .ro 0x0]⟩,
  ⟨0x28000300, [(9, 0x8)],
    [fd 0 32 .ro 0x0]⟩,
  ⟨0x28001000, [(128, 0x8)],
    [fd 0 4 .ro 0x0, fd 4 2 .ro 0x0, fd 6 5 .ro 0x0, fd 16 8 .ro 0x0, fd 24 10 .ro 0x0, fd 48 16 .rc 0x0]⟩]

/-- Registers of the SEC window. -/
def regsSEC : List RegDef := [
  ⟨0x30000008, [],
    [fd 0 8 .ro 0x1, fd 8 4 .ro 0x8, fd 16 8 .ro 0x40, fd 24 8 .ro 0x40, fd 32 16 .ro 0x100]⟩,
  ⟨0x30000100, [],
    [fd 0 1 .ro 0x0, fd 1 1 .ro 0x0, fd 2 1 .ro 0x0, fd 8 8 .ro 0x0]⟩,
  ⟨0x30000108, [],
    [fd 0 64 .ro 0x0]⟩,
  ⟨0x30000200, [(8, 0x20)],
    [fd 0 3 .ro 0x0, fd 8 8 .ro 0x0, fd 16 15 .ro 0x0]⟩,
  ⟨0x30000208, [(8, 0x20)],
    [fd 0 8 .rw 0x0, fd 8 8 .rw 0x0, fdr 16 9 .rw 0x0 0 256]⟩,
  ⟨0x30000210, [(8, 0x20)],
    [fd 0 32 .rw 0x0, fd 32 8 .rw 0x0]⟩,
  ⟨0x30000218, [(8, 0x20)],
    [fd 0 64 .ro 0x0]⟩,
  ⟨0x30001000, [(64, 0x10)],
    [fd 0 48 .rw 0x0, fdr 48 4 .rw 0x0 2 12]⟩,
  ⟨0x30001008, [(64, 0x10)],
    [fd 0 3 .rw 0x0, fd 3 1 .rw 0x0, fd 4 6 .rw 0x0, fd 10 7 .rw 0x0, fdr 17 2 .rw 0x0 0 2, fd 19 1 .rw 0x0, fd 20 1 .ro 0x0]⟩,
  ⟨0x30002000, [(64, 0x8)],
    [fd 0 3 .ro 0x0, fd 3 1 .ro 0x0]⟩,
  ⟨0x30003000, [(256, 0x8)],
    [fd 0 16 .ro 0x0, fd 16 16 .ro 0x0, fd 32 3 .ro 0x0, fd 35 1 .ro 0x0, fd 36 1 .ro 0x0]⟩]

/-- Registers of the CFG window. -/
def regsCFG : List RegDef := [
  ⟨0x38000008, [],
    [fd 0 8 .ro 0x1]⟩,
  ⟨0x38000100, [],
    [fd 0 2 .wo 0x0, fd 2 1 .wo 0x0, fd 8 8 .rw 0xA]⟩,
  ⟨0x38000108, [],
    [fd 0 2 .ro 0x0, fd 2 1 .ro 0x0, fd 3 1 .ro 0x0, fd 8 8 .ro 0x0, fd 16 14 .ro 0x0, fd 32 32 .ro 0x0]⟩,
  ⟨0x38000110, [],
    [fd 0 48 .ro 0x0]⟩,
  ⟨0x38000118, [],
    [fd 0 3 .ro 0x0, fd 3 15 .ro 0x0, fd 18 46 .ro 0x0]⟩,
  ⟨0x38000120, [],
    [fd 0 12 .ro 0x0, fd 16 12 .ro 0x0, fd 32 32 .ro 0x0]⟩,
  ⟨0x38000128, [],
    [fd 0 32 .rc 0x0, fd 32 16 .rc 0x0]⟩,
  ⟨0x38000130, [],
    [fd 0 1 .txn 0x1, fdr 8 8 .txn 0x18 1 255]⟩]

/-- Registers of the TAG window. -/
def regsTAG : List RegDef := [
  ⟨0x3C000008, [],
    [fd 0 8 .ro 0x1]⟩,
  ⟨0x3C000100, [],
    [fd 0 1 .w1c 0x0, fd 1 1 .ro 0x0, fd 8 8 .ro 0x0, fd 16 16 .rc 0x0]⟩,
  ⟨0x3C000108, [],
    [fd 0 13 .wo 0x0, fd 13 1 .wo 0x0, fd 14 1 .wo 0x0]⟩,
  ⟨0x3C000110, [],
    [fd 0 64 .rw 0x0]⟩]

/-- Registers of the EVT window. -/
def regsEVT : List RegDef := [
  ⟨0x3F000008, [],
    [fd 0 8 .ro 0x1, fd 8 8 .ro 0x3, fd 16 16 .ro 0x400, fd 32 16 .ro 0x100]⟩,
  ⟨0x3F000100, [],
    [fd 0 1 .rw 0x0, fd 1 1 .rw 0x0, fd 2 1 .rw 0x0, fd 8 8 .rw 0xA]⟩,
  ⟨0x3F000108, [],
    [fd 0 48 .rw 0x0, fd 48 5 .rw 0xC]⟩,
  ⟨0x3F000110, [],
    [fd 0 32 .ro 0x0]⟩,
  ⟨0x3F000118, [],
    [fd 0 32 .rw 0x0]⟩,
  ⟨0x3F000120, [],
    [fd 0 9 .ro 0x0, fd 9 1 .ro 0x0]⟩,
  ⟨0x3F000300, [],
    [fd 0 17 .ro 0x0, fd 32 17 .ro 0x0]⟩,
  ⟨0x3F000308, [],
    [fd 0 17 .rw 0x0, fd 17 1 .wo 0x0, fd 18 1 .ro 0x0, fd 24 8 .ro 0x0]⟩,
  ⟨0x3F000200, [(3, 0x8)],
    [fd 0 32 .rc 0x0, fd 32 32 .rc 0x0]⟩,
  ⟨0x3F001000, [(256, 0x8)],
    [fd 0 64 .ro 0x0]⟩]

/-- The register list of a block, by the block's ID without the half bit (R23). -/
def regsOf (id : Nat) : List RegDef :=
  match id with

  | 0x0 => regsMGMT
  | 0x1 => regsHALF
  | 0x8 => regsCELL
  | 0x10 => regsMEM
  | 0x11 => regsTIER
  | 0x18 => regsXPORT
  | 0x19 => regsPORT
  | 0x20 => regsHOST
  | 0x28 => regsPWR
  | 0x30 => regsSEC
  | 0x38 => regsCFG
  | 0x3C => regsTAG
  | 0x3F => regsEVT
  | _ => []

/-- Whether an offset (from the register's first instance) is an instance's, by counts and strides. -/
def inDims : List (Nat × Nat) → Nat → Bool
  | [], r => r = 0
  | (n, st) :: ds, r => decide (r / st < n) && inDims ds (r % st)

/-- The window ID of a control-space offset (R23). -/
def windowOf (a : Nat) : Nat := a / 0x1000000

/-- Whether a window ID is listed in R23. -/
def windowListed (id : Nat) : Bool :=
  id ∈ [0x00, 0x01, 0x41, 0x08, 0x10, 0x50, 0x11, 0x51, 0x18, 0x19, 0x59, 0x20, 0x28, 0x30, 0x38, 0x3C, 0x3F]

/-- The size of a block's sub-windows (R24), or of its window. -/
def subWindow (id : Nat) : Nat :=
  match id % 0x40 with
  | 0x08 => 0x20000
  | 0x10 => 0x400000
  | 0x19 => 0x200000
  | _ => 0x1000000

/-- The register that holds an aligned offset, if any. -/
def regDef (a : Nat) : Option RegDef :=
  (regsOf (windowOf a % 0x40)).find? (fun d => decide (d.base ≤ a) && inDims d.dims (a - d.base))

/-- BLOCK_ID of a window (R11, R24): TYPE, MAJOR 1, MINOR 0, GEN 1. -/
def blockId (id : Nat) : W64 := BitVec.ofNat 64 (id + 0x1_0001_0000)

/-- Whether an offset is the BLOCK_ID of its window or sub-window. -/
def isBlockId (a : Nat) : Bool :=
  let id := windowOf a
  let sub := subWindow id
  let inWin := a % 0x1000000
  decide (inWin % sub = 0) && (match id % 0x40 with
    | 0x10 => decide (inWin / sub < 4)
    | 0x19 => decide (inWin / sub < 8)
    | _ => true)

/-- The fields' reset values put together. -/
def resetOfFields (fs : List FieldDef) : Nat := fs.foldl (fun v f => v + f.reset <<< f.lsb) 0

/-- The value a register holds after reset (the Reset column of its table; 0 where no register lies, R25). STRAP of half 0
reads 1: in the LM1 the strap names half 0 (R483). -/
def regReset (a : Nat) : W64 :=
  if a = R.HALF_LEAD_STATUS 0 then 5
  else if isBlockId a && windowListed (windowOf a) then blockId (windowOf a)
  else match regDef a with
    | some d => BitVec.ofNat 64 (resetOfFields d.fields)
    | none => 0

end Sys2Proof.Machine
end

