-- ==== Sys2Proof/Machine/State.lean ====
section
/-! DEFINITION. The state of the module: plain data. Registers that the spec lays out live in `regs` (one home each, keyed by
their control-space offset); everything else the spec gives the module has its own field. -/

namespace Sys2Proof.Machine

open Sys2Proof

/-- Why the block stops. No command of the table ends this way: every row has an effect (NOTES.md, Stops). -/
inductive Fault where
  /-- Raised by nothing: the spec gives the block no fault that stops it. Safe. -/
  | none
deriving DecidableEq, Repr

/-- Why a command is refused. -/
inductive Refusal where
  /-- Raised only by the arms of exec that have no meaning yet; safe, the run stops. -/
  | notModelled (mnemonic : String)
deriving DecidableEq, Repr

/-- What the last access or request answered: its status (R13), a register value, and bytes. -/
structure Resp where
  status : Nat := 0
  val : W64 := 0
  bytes : List Byte := []
deriving DecidableEq, Repr

/-! ## Events (R493 to R498) -/

/-- An event record (R493). -/
structure EvRec where
  code : Nat
  cls : Nat
  summary : Bool := false
  count : Nat := 1
  time : Nat := 0
  source : Nat := 0
  srcKind : Nat := 0
  ward : Nat := 0xFF
  source2 : Nat := 0
  status : Nat := 0
  addr : Nat := 0
  seq : Nat := 0
deriving DecidableEq, Repr

/-- One path of events (R495 to R498): records queued, the alarms that wait for an entry, the summary keys, and the next
record number. -/
structure EvPath where
  queue : List EvRec := []
  alarms : List EvRec := []
  sums : List EvRec := []
  seq : Nat := 0
deriving DecidableEq, Repr

/-- The event machinery: paths 0 host ring, 1 sideband, 2 incident log, 3 and 4 the internal paths of the halves (R496). -/
structure Evt where
  paths : List (Nat × EvPath) := []
  /-- Records that GET_EVENTS has returned and that are not yet removed (R501). -/
  returned : List Nat := []
  /-- The module controller is restarting (R488), and which half controllers are. -/
  mcDown : Bool := false
  hcDown : NatSet := []
  /-- MSI-X vectors pending in the PCIe pending bits or raised (R380, R500): vectors raised, oldest first. -/
  msix : List Nat := []
  /-- Vectors in their hold-off time (R500, R380), with what waits for it to end. -/
  holdOff : List (Nat × Bool) := []
  /-- Incident-log pages (R502): ring index, cold starts, records; newest last. -/
  pages : List (Nat × Nat × List EvRec) := []
  /-- Sequence number of the next incident page (R502). -/
  pageSeq : Nat := 0
  /-- Ring index of the next page. -/
  pagePos : Nat := 0
  /-- NAND_LOG_DEFERRED has been raised and energy has not covered a page since (R503). -/
  deferred : Bool := false
  /-- HOST_RING_STALL has been raised and the ring has stayed full since (R500), and when the ring became full. -/
  stalled : Bool := false
  fullAt : Nat := 0
  /-- When the last page was programmed, and the alarm pages of the last minute (R502). -/
  pageAt : Option Nat := none
  alarmPages : List Nat := []
deriving DecidableEq, Repr

/-! ## Cells, engines and sequencers (chapters 2 and 3) -/

/-- A tile command (R99). -/
structure Cmd where
  w0 : W64 := 0
  w1 : W64 := 0
  w2 : W64 := 0
  w3 : W64 := 0
deriving DecidableEq, Repr

/-- A command queued in a stream, with its sequence number (R89; kept unbounded, read modulo 2^32). -/
structure QCmd where
  cmd : Cmd
  seq : Nat
deriving DecidableEq, Repr

/-- Stream states (R96). -/
inductive StreamState where
  | run | stopped | flushing
deriving DecidableEq, Repr

/-- One command stream (R90, R96): its queue, state, next sequence number and fault register. -/
structure Stream where
  queue : List QCmd := []
  state : StreamState := .run
  nextSeq : Nat := 0
  fault : W64 := 0
deriving DecidableEq, Repr

/-- One pass in the array (R48 to R66). stage 1: weights loading; 2: loaded in the back registers; 3: started, weights in
front. -/
structure Pass where
  stage : Nat
  shallow : Bool
  fmtA : Nat
  fmtB : Nat
  depth : Nat
  width : Nat
  rows : Nat
  kUsed : Nat
  accRow : Nat
  add : Bool
  /-- The convolution descriptor (R70); empty for a MATMUL. -/
  desc : List Byte
  /-- Weight codes, row by row. -/
  wtile : List Nat
  /-- Results of each sub-pass (R56); none for an aborted pass (R76). -/
  sub : List (List Nat)
  poison : Bool
deriving DecidableEq, Repr

/-- Where an issued command stands. -/
inductive Phase where
  /-- in its unit's queue, not yet executed -/
  | queued
  /-- a pass in the array -/
  | pass (p : Pass)
  /-- a RECV whose message has not arrived (R92) -/
  | held
  /-- sent; completes when its data has landed or its message has ended (R114) -/
  | flying
  /-- executed, with its status; not yet complete (R114) -/
  | done (status : Nat)
deriving DecidableEq, Repr

/-- An issued command (R91) with what is sampled at issue (R140, R153, R169, R172). -/
structure Issued where
  cmd : Cmd
  seq : Nat
  strm : Nat
  ord : Nat
  unit : Nat
  ward : Nat
  seed : Nat
  adj : Int
  ftz : W64
  tableOk : Bool
  phase : Phase
  /-- Formats, and the categories of the elements that a CQSEND has rounded into each, counted when it completes (R151). -/
  tally : List (Nat × List Nat) := []
deriving DecidableEq, Repr

/-- Why a core stalls (R86, R98). -/
inductive Stall where
  | none | scWait | pushs
deriving DecidableEq, Repr

/-- One sequencer core with its streams and counters: a cell's, a stream engine's or a collective sequencer's (R82, R118). -/
structure Core where
  pc : Nat := 0
  startPc : Nat := 0
  x : List (Nat × W32) := []
  csr : List (Nat × W32) := []
  /-- mcycle = the core's cycles (State.ck) + cycAdd, modulo 2^64 (R82). -/
  cycAdd : Nat := 0
  minstret : Nat := 0
  halted : Bool := true
  trapped : Bool := false
  trapHalt : Bool := true
  stall : Stall := .none
  seqFault : W64 := 0
  /-- The latched upper half of a sub-window register (R84): its aligned offset and bits [63:32]. -/
  latch : Option (Nat × W32) := none
  staging : List (Nat × W32) := []
  strm0 : Stream := {}
  strm1 : Stream := {}
  fillEnable : Bool := true
  unset : Nat := 0
  issued : List Issued := []
  nextOrd : Nat := 0
  /-- Whether the program-elapsed counter runs, its start, and its value once stopped (R121). -/
  elapsedRun : Bool := false
  elapsedStart : Nat := 0
  elapsed : Nat := 0
  /-- Busy counters (R121): accumulated cycles per unit, and since when a unit is busy (start + 1). -/
  busy : List (Nat × Nat) := []
  busySince : List (Nat × Nat) := []
  /-- Synchronisation counters (R112, R113). -/
  ctrs : List (Nat × Nat) := []
  /-- Form of the last pass (R79). -/
  lastShallow : Bool := false
  /-- Activity level when its target last changed, and when that was (R67). -/
  actBase : Nat := 0
  actSince : Nat := 0
  /-- The array's rise waits for a start grant (R401). -/
  wantGrant : Bool := false
deriving DecidableEq, Repr

/-- A mesh packet in flight (R41, R114, R544). -/
structure MeshPkt where
  src : Nat
  ord : Nat
  dst : Nat
  off : Nat
  data : List Byte
  /-- Byte offsets within the data that came from a poisoned line (R548). -/
  bad : List (Nat × Nat)
  ctr : Option Nat
  status : Nat
deriving DecidableEq, Repr

/-! ## Memory (chapters 6 and 7) -/

/-- An HBM region (R228, R234): state 0 UNSET, 1 CLEARING, 2 SET; owner code; and for a clearing its rate and whether it is
urgent. -/
structure Region where
  st : Nat := 0
  owner : Nat := 15
  rate : Nat := 0
  urgent : Bool := false
deriving DecidableEq, Repr

/-- Line marks (R192, R229, R231): the status a read of the line gives beside its data. -/
inductive Mark where
  | ok | unset | poison | tagFail
deriving DecidableEq, Repr

/-- A line of a memory-side cache (R203, R232). -/
structure CLine where
  data : List Byte := []
  dirty : Bool := false
  hint2 : Bool := false
  mark : Mark := .ok
  stamp : Nat := 0
deriving DecidableEq, Repr

/-- States of a block that holds a frame (R185). -/
inductive BlkState where
  | filling | clean | dirty | drainKeep | drainRelease
deriving DecidableEq, Repr

/-- A block in the layer store (R182, R185, R195): way of its set, state, owning ward, class, layer tag, dirty lines. -/
structure Blk where
  way : Nat
  st : BlkState
  ward : Nat
  cls : Nat
  tag : Nat
  dirty : NatSet
deriving DecidableEq, Repr

/-- A line access that waits (R187, R209, R223, R235): requester, line and access. -/
structure WaitAcc where
  who : Requester
  line : Nat
  acc : LineAccess
  /-- A request made at the controller itself, whatever the block's state (R229, R230, R244). -/
  home : Bool := false
  ecc : Ecc := .ok
  fault : LineFault := .good
  /-- The requester already had 4,096 requests outstanding: this one is not issued yet (R209). -/
  stalled : Bool := false
deriving DecidableEq, Repr

/-- A fill that waits for a DIRTY victim's frame (R196). -/
structure FillDue where
  block : Nat
  half : Nat
  ward : Nat
  cls : Nat
  tag : Nat
  way : Nat
deriving DecidableEq, Repr

/-- A walker (R198, R199): what the status register does not hold. -/
structure Walker where
  /-- The entry at POS is being handled, and this is the next block of it. -/
  active : Bool := false
  next : Nat := 0
  entry : Cmd := {}
deriving DecidableEq, Repr

/-- A TIER operation in progress (R202). -/
structure TierOp where
  op : Nat
  first : Nat
  count : Nat
deriving DecidableEq, Repr

/-- A command of MEM_REGION_CMD in progress (R237). -/
structure RegionCmd where
  op : Nat
  first : Nat
  count : Nat
deriving DecidableEq, Repr

/-- Per-stack state that no register holds. -/
structure Stack where
  /-- First region the background clearer looks at (R235). -/
  bgNext : Nat := 0
  /-- Pseudo-channel being retrained (R223, R470). -/
  retrain : Option Nat := none
  /-- Successive failed retrainings of each pseudo-channel (R470). -/
  retrainFails : List (Nat × Nat) := []
  cmd : Option RegionCmd := none
  /-- Refreshes issued, and refresh management requests honoured (R218, R222). -/
  refreshes : Nat := 0
  rfm : Nat := 0
  selfRefresh : Bool := false
  /-- Regions whose urgent clearing queues behind the one in progress (R235), oldest first. -/
  urgentQ : List Nat := []
deriving DecidableEq, Repr

/-- The memory side of the module. -/
structure Mem where
  /-- Plain data of the unified range as DRAM holds it (what R226 encrypts), by device address. -/
  hbm : List Host.Cell := []
  /-- Marks of home lines, by line number. -/
  marks : List (Nat × Mark) := []
  regions : List (Nat × Region) := []
  /-- Memory-side cache lines present, by line number. -/
  cache : List (Nat × CLine) := []
  stamp : Nat := 0
  /-- Blocks in the layer store, by block number. -/
  blocks : List (Nat × Option Blk) := []
  /-- Frame bytes, by device address. -/
  frame : List Host.Cell := []
  /-- Marks of frame lines, by line number. -/
  fmarks : List (Nat × Mark) := []
  wayPtr : List (Nat × Nat) := []
  waiting : List WaitAcc := []
  /-- Turn order of banks (R208) and regulator deficits (R206: sixteenths of a token short of DEPTH, and when). -/
  bankLast : List (Nat × Nat) := []
  bucket : List (Nat × (Nat × Nat)) := []
  stk : List (Nat × Stack) := []
  walkers : List (Nat × Walker) := []
  /-- The ward whose walker takes mover work next in a half (R200). -/
  walkNext : List (Nat × Nat) := []
  /-- Fills that wait for a victim to drain (R196), by the victim's block. -/
  due : List (Nat × Option FillDue) := []
  /-- What the line code and the tag find at the next home reads, and the SEC-DED code at the next frame reads, that carry no finding
  of their own (log entry 10); sound where the list is empty. -/
  finds : List LineFault := []
  eccs : List Ecc := []
  ops : List (Nat × Option TierOp) := []
  moverBusy : List (Nat × Nat) := []
  /-- The retraining in progress is one of the schedule's; manual retrainings that wait for it (stack, pseudo-channel), and
  where the schedule stands (R470). -/
  schedOn : Bool := false
  /-- When the schedule's last retraining ended (R470). -/
  schedAt : Nat := 0
  retrainQ : List (Nat × Nat) := []
  retrainPos : Nat := 0
  /-- Host memory reached through the host window and the host link, by host physical address. -/
  host : List Host.Cell := []
  /-- Device cache lines (R363), by line number of the host window. -/
  dcache : List (Nat × CLine) := []
  /-- The host has configured the HOST block since the last link reset (R364, R373). -/
  hostCfg : Bool := false
  /-- The HDM decoder: the size in 32 MiB for which it is committed, and whether its last commit failed (R365). -/
  hdm : Option Nat := none
  hdmError : Bool := false
  /-- Configuration space: the last value written to each word (R359, R372). -/
  cfgSpace : List (Nat × W32) := []
  /-- Snoop filter: lines that the host may hold, oldest first (R366). -/
  snoop : List Nat := []
  /-- Cell stores and engine data memories, keyed core × 2^22 + offset, and their poisoned lines (R47). -/
  cstore : List Host.Cell := []
  cpoison : NatSet := []
  /-- Instruction memories, keyed core × 2^16 + offset. -/
  imem : List Host.Cell := []
  /-- Accumulator words, keyed cell × 2^17 + word (R60). -/
  acc : List (Nat × W32) := []
deriving DecidableEq, Repr
/-! ## Transport (chapter 9) -/

/-- A registered region (R303 to R306). Phase: 0 registering, 1 registered, 2 deregistering. -/
structure XRegion where
  base : Nat
  len : Nat
  ward : Nat
  permWrite : Bool
  permRead : Bool
  permAtomic : Bool
  sig : W64
  access : Nat
  phase : Nat
deriving DecidableEq, Repr

/-- A queue context (R297): its eight words. -/
structure Ctx where
  w0 : W64 := 0
  w1 : W64 := 0
  w2 : W64 := 0
  w3 : W64 := 0
  w4 : W64 := 0
  w5 : W64 := 0
  w6 : W64 := 0
  w7 : W64 := 0
deriving DecidableEq, Repr

/-- Where a message's completion goes (R301). -/
inductive Origin where
  /-- a descriptor of a HOST queue: USER_TAG, OP, CQ_EN, SIG_EN -/
  | desc (tag op : Nat) (cq sig : Bool)
  /-- a command of a core, by its order of issue -/
  | cmd (core ord : Nat)
  /-- a CTRL ABORT (R321): the sequencer that sends it, and the COLL_ID -/
  | abort (seq collId : Nat)
deriving DecidableEq, Repr

/-- One copy of a packet sent (R284, R285): XMIT and the port (16: the memory fabric). -/
structure Copy where
  xmit : Nat
  port : Nat
deriving DecidableEq, Repr

/-- What the sender knows of one packet of a message (R281). -/
structure PktSt where
  /-- newest first -/
  copies : List Copy := []
  sends : Nat := 0
  /-- XMIT of the copy that its ACK named -/
  acked : Option Nat := none
  /-- waits to be sent again after NOT_READY or BUSY (R289) -/
  held : Bool := false
deriving DecidableEq, Repr

/-- An outstanding message (R281 to R291). -/
structure Msg where
  id : Nat
  /-- packet type of R277: 0 WRITE, 1 READ, 3 SEND, 4 ATOMIC, 7 CTRL ABORT -/
  kind : Nat
  origin : Origin
  queue : Nat
  ward : Nat
  dst : Nat
  dstQueue : Nat
  len : Nat
  /-- local device address of the data (of an ATOMIC: FETCH results go to local + 64) -/
  loc : Nat
  /-- cache hint of the accesses to it (R299, R100) -/
  hint : Nat := 0
  /-- the data is read at that address when the message starts -/
  fetch : Bool
  /-- source data; for an ATOMIC the operation word and operand -/
  data : List Byte
  rkey : Nat
  akey : Nat
  off : Nat
  /-- P when the message started, and its number of packets -/
  psize : Nat
  npkts : Nat
  /-- RETRY_MAX and MAX_WIN when it started (R463) -/
  retryMax : Nat := 0
  maxWin : Nat := 0
  pkts : List (Nat × PktSt)
  cwnd : Nat
  /-- packets acknowledged without ECE since the window last grew (R291) -/
  run : Nat
  /-- when an ECE last halved the window, plus 1 -/
  lastEce : Nat
  slow : Bool
  /-- the next packet goes to this port or the first usable one after it (R312) -/
  ptr : Nat
  /-- packets of a READ that have landed, and the READ_REQs sent -/
  got : NatSet
  rounds : Nat
  /-- READ_REQ rounds that count as no retry (R289) -/
  spare : Nat := 0
  strict : Bool
  /-- status gathered from the source or the destination of the data -/
  st : Nat
  /-- first packet that would carry a byte of a poisoned line (R548) -/
  cut : Option Nat
  /-- collective whose packet it is (R319) -/
  coll : Option Nat
  /-- STATUS of a CTRL ABORT -/
  ctl : Nat
  /-- when it started, in idle cycles -/
  start : Nat
deriving DecidableEq, Repr

/-- A posted receive buffer (R294, R299, R302): an address of a ward, or a range of a core's store. -/
structure RecvBuf where
  origin : Origin
  core : Option Nat
  addr : Nat
  cap : Nat
  ward : Nat
  /-- cache hint of what is written there (R299, R100) -/
  hint : Nat := 0
deriving DecidableEq, Repr

/-- A receive assembly entry (R294): the bound buffer, or the status that the refused message is answered with. -/
structure Asm where
  queue : Nat
  buf : Option RecvBuf
  st : Nat
deriving DecidableEq, Repr

/-- A completion that waits for its ring (R300). -/
structure CqE where
  status : Nat
  op : Nat
  tag : Nat
  bytes : Nat
  src : Nat
  cq : Bool
  sig : Bool
  /-- the ACK that follows the entry (R293): port, packet and ward -/
  ack : Option (Nat × Packet × Nat) := none
deriving DecidableEq, Repr

/-- Coalesced acknowledgements of one message (R283): the first packet, its port, its ward, the indices, ECE and SLOW. -/
structure Coal where
  pkt : Packet
  port : Nat
  ward : Nat
  idxs : List Nat
  ece : Bool
  slow : Bool
deriving DecidableEq, Repr

/-- A collective of a sequencer (R319 to R322). -/
structure Coll where
  isOpen : Bool := false
  id : Nat := 0
  members : List (Nat × Nat) := []
  mask : Nat := 0
  timeout : Nat := 0
  /-- µs at which it is aborted with TIMEOUT -/
  deadline : Nat := 0
  /-- status that ranks first among the aborts received (R322) -/
  abort : Option Nat := none
deriving DecidableEq, Repr

/-- What LLDP has shown of the peer of a port (R307, R310, R346). -/
structure Peer where
  mac : Nat
  dev : Nat
  port : Nat
  gen : Nat
  serial : Nat
  prio : Nat
  best : Nat
deriving DecidableEq, Repr

/-- The transport's state. -/
structure Xport where
  /-- Regions by INDEX, and the GEN of each entry's last registration (R304, R305). -/
  regions : List (Nat × Option XRegion) := []
  gens : List (Nat × Nat) := []
  /-- The registration or deregistration in progress (R304, R306): its INDEX. -/
  regBusy : Option Nat := none
  /-- The context cache (R297), most recently used first. -/
  ctxCache : List (Nat × Ctx) := []
  /-- The next MSG_ID (kept unbounded, used modulo 2^32). -/
  nextMsg : Nat := 0
  /-- The count of messages when link key entry j was installed, plus 1 (R437). -/
  linkAt : List (Nat × Nat) := []
  /-- Outstanding messages, oldest first, and those that wait for a context (R281) or for their STRICT queue (R295). -/
  msgs : List Msg := []
  waitMsgs : List Msg := []
  /-- Posted receive buffers of each queue, oldest first. -/
  posted : List (Nat × List RecvBuf) := []
  /-- Receive assembly table, by SRC_DEV × 2^32 + MSG_ID. -/
  asm : List (Nat × Asm) := []
  /-- Duplicate filter (R287), by SRC_DEV × 2^32 + MSG_ID: the stored answer, once there is one, and the ward it is charged
  to. -/
  filter : List (Nat × Option (Packet × Nat)) := []
  /-- Acknowledgements being coalesced (R283), by the same key. -/
  coal : List (Nat × Coal) := []
  /-- Completions waiting for their rings, by queue. -/
  cqWait : List (Nat × List CqE) := []
  /-- Packets on the module's own memory fabric (R280). -/
  loop : List Packet := []
  /-- Successive timeouts by DST × 16 + port (R313). -/
  misses : List (Nat × Nat) := []
  colls : List (Nat × Coll) := []
  /-- Aborted table (R322): COLL_ID and status, the entry closest to its expiry first. -/
  aborted : List (Nat × Nat) := []
  /-- What LLDP has shown on each port, and sub-port B's peer at 16 + port. -/
  peers : List (Nat × Option Peer) := []
  /-- Ports that R310 keeps from Sirri traffic. -/
  conflict : NatSet := []
  /-- This module leads the direct mesh (R309), and the ranks it has assigned: serial and device number. -/
  leads : Bool := false
  assigned : List (Nat × Nat) := []
deriving DecidableEq, Repr

/-! ## Ports (chapter 10) -/

/-- A frame handed to a port, with the ward that its Sirri packet is charged to (R353). -/
structure TxFrame where
  frame : Frame
  ward : Option Nat
  /-- sub-port that must send it, if one must (R337) -/
  sub : Option Nat := none
  /-- destination MAC address and EtherType, as far as the frame's kind gives them before it is sent -/
  dst : Nat := 0
  etype : Nat := 0
  /-- what follows the EtherType; of a Sirri frame, once it is sent, the UDP datagram -/
  bytes : List Byte := []
deriving DecidableEq, Repr

/-- A port's state that no register holds. -/
structure Port where
  /-- Frames handed to the port and not yet sent; the first 256 KiB of them fill its transmit buffer (R333). -/
  txq : List TxFrame := []
  /-- Frames in the receive buffer, waiting for the transport (R334). -/
  rxq : List Frame := []
  /-- Sub-port that sends the next frame in mode 2 (R329). -/
  turn : Nat := 0
  /-- Echo answers sent in the present second (R337), and when it began. -/
  echoes : Nat := 0
  echoAt : Nat := 0
  /-- Links aligned that wait for LINKUP_HOLD_MS (R342), by sub-port. -/
  holdA : Bool := false
  holdB : Bool := false
  /-- A retime is in progress (R344). -/
  retiming : Bool := false
  /-- Consecutive low windows, and whether the last was low (R348). -/
  lowWindows : Nat := 0
  lastLow : Bool := false
  /-- Sequence number of the next parking request, and of the pending one. -/
  parkSeq : Nat := 0
  reqSeq : Option Nat := none
  /-- Lanes 4–7 idle, and locked; WAKEs sent; a WAKE to answer; a WAKE_ACK that came before the lanes were locked (R348). -/
  lanesIdle : Bool := false
  lanesLocked : Bool := true
  wakes : Nat := 0
  wakeOwed : Option Nat := none
  wakeAcked : Bool := false
  /-- A latch has taken PARK_EN away and the port has not yet returned to FULL (R348). -/
  capKept : Bool := false
  /-- Successive refreshes missed by each parked lane (R349). -/
  missRun : List (Nat × Nat) := []
  /-- When the present pause of sending began (R339). -/
  pausedAt : Nat := 0
  /-- The last frame sent on the fibre, and the sub-port that sent it. -/
  wire : Option (TxFrame × Nat) := none
deriving DecidableEq, Repr


/-! ## Supplies, hold-up store and boundary scan (chapter 16) -/

/-- Where the sequencer of the rails stands (R527 to R530): off, powering up, on, and the two orders of power-down. -/
inductive Seq where
  | off | up | on | normal | emergency
deriving DecidableEq, Repr

/-- An entry of the rail fault record (R532). -/
structure RailFault where
  rail : Nat
  phase : Nat
  mv : Nat
  timeMs : Nat
  start : Nat
deriving DecidableEq, Repr

/-- The power train and its sequencer. -/
structure Sup where
  /-- The input lies in its range; it has done so for 20 ms, or for 1 s after an over-voltage; EN. -/
  inRange : Bool := false
  ready : Bool := false
  en : Bool := false
  /-- The standby domain is up (R526). -/
  standby : Bool := false
  pwrgd : Bool := false
  seq : Seq := .off
  /-- Rails 2 to 11 that are enabled, and rails 2 to 11 in regulation. -/
  enabled : NatSet := []
  inReg : NatSet := []
  /-- A disabled rail of the normal order that is not yet below 10 %. -/
  falling : Option Nat := none
  /-- Next step of the emergency order. -/
  step : Nat := 0
  /-- The input has been above 61 V and not yet at or below 59 V for 1 s (R528). -/
  needOv : Bool := false
  /-- Over-current trip and deadbolt latched; both power-up attempts failed. -/
  trip : Bool := false
  deadbolt : Bool := false
  stuck : Bool := false
  /-- The one retry of power-up is waiting, or has been used. -/
  retryDue : Bool := false
  retried : Bool := false
  /-- A RESTART has been ordered: the cold start follows the power-down. -/
  auto : Bool := false
  /-- Stage 0 of a cold start is due. -/
  bootDue : Bool := true
  /-- The hold-up gauge's estimates disagree (R538). -/
  disagree : Bool := false
  /-- When the last power-down was triggered, and the time before which no cold start begins (R535). -/
  downAt : Nat := 0
  notBefore : Nat := 0
  /-- PERST# is asserted (R372). -/
  perst : Bool := true
  /-- The host link is in L1.2 (R517). -/
  l12 : Bool := false
deriving DecidableEq, Repr

/-- The boundary-scan port (R522, R523): current instruction and boundary register. -/
structure Jtag where
  ir : Nat := 0xFF
  cells : List Bool := []
deriving DecidableEq, Repr

/-! ## Non-volatile state (chapters 14 and 16) -/

/-- A firmware image as its header describes it (R465). -/
structure Image where
  version : W64
  svn : Nat
  mcDigest : List Byte
  hcDigest : List Byte
  /-- LENGTH in bytes -/
  len : Nat := 0
deriving DecidableEq, Repr

/-- A configuration snapshot (R454): its SEQ, the registers, whether it still reads back whole, and its first page in the slot's ring. -/
structure Snap where
  seq : Nat
  entries : List (Nat × W64)
  sound : Bool := true
  page : Nat := 0
deriving DecidableEq, Repr

/-- What the NAND does next (R447): an operation on a logical block. -/
inductive NandOp where
  /-- a commit of the configuration into a slot, with the failures so far (R457) -/
  | commit (slot fails : Nat)
  /-- a read of the pages of a block that hold data -/
  | read (block : Nat)
  /-- a refresh (R452) -/
  | refresh (block : Nat)
  /-- a page of the incident log -/
  | page (block : Nat)
deriving DecidableEq, Repr

/-- What outlives the power: fuses, the NAND, the sequencer's own memory and the field tag. -/
structure Nv where
  /-- Fuses: security counter, an unprogrammed identity seed, faulty physical cells by half × 8 + row. -/
  svnFuse : Nat := 0
  blank : Bool := false
  cellFuse : List (Nat × Nat) := []
  /-- Cold starts since manufacture, bank capacitance in mF, charge counter in mC as last set, rail faults, oldest first. -/
  starts : Nat := 0
  cm : Nat := 1500
  charge : Nat := 0
  faults : List RailFault := []
  /-- Boot record (R449, R466): ACTIVE slot, states of the slots, TRIES. -/
  active : Nat := 0
  slot0 : Nat := 1
  slot1 : Nat := 0
  tries : Nat := 0
  image0 : Option Image := some { version := 0, svn := 0, mcDigest := [], hcDigest := [] }
  image1 : Option Image := none
  /-- Calibration record: the coefficients of R403. -/
  cal : List (Nat × W32) := []
  snap0 : Option Snap := none
  snap1 : Option Snap := none
  /-- Next page of each snapshot ring. -/
  ring0 : Nat := 0
  ring1 : Nat := 0
  /-- Physical blocks that left the factory bad, and those retired since (R450). -/
  factoryBad : NatSet := []
  retired : NatSet := []
  /-- The ACTIVE slot has been switched to and has not run yet (R467). -/
  switchDue : Bool := false
  /-- Physical block of each logical block that a retirement or a refresh has moved, and erase counts of physical blocks. -/
  map : List (Nat × Nat) := []
  erases : List (Nat × Nat) := []
  /-- Reads of each logical block since it was erased (R452). -/
  reads : List (Nat × Nat) := []
  /-- Bytes of the field tag (R473). -/
  tag : List Host.Cell := []
deriving DecidableEq, Repr

/-! ## Configuration, firmware and the tag's arbitration (chapter 14) -/

/-- A firmware operation in progress (R467). -/
structure FwOp where
  op : Nat
  len : Nat
  addr : Nat
  /-- A live switch has begun (R468). -/
  started : Bool := false
deriving DecidableEq, Repr

/-- A wired access to the tag that clock stretching holds (R475). -/
structure TagReq where
  master : TagMaster
  wr : Bool
  addr : Nat
  len : Nat
  data : List Byte
  lock : Bool
  /-- when it arrived -/
  since : Nat := 0
deriving DecidableEq, Repr

/-- A write that clears VALID of a user table and waits for the SFNs that name it (R171): cell, table (0–3 for 12–15), requester, the
control-space offset written, and the descriptor. -/
structure SfnClear where
  cell : Nat
  tbl : Nat
  who : Requester
  off : Nat
  val : W64
deriving DecidableEq, Repr

/-- The module controller's state beside its registers. -/
structure Mgt where
  /-- When the event happened from which the stage is timed (R444). -/
  stageFrom : Nat := 0
  /-- Staged registers (R460), the first write discarded for overflow (R461), and when the transaction was last touched. -/
  staged : List (Nat × W64) := []
  overAddr : Nat := 0
  touched : Nat := 0
  /-- The latch being carried out requests a commit. -/
  persist : Bool := false
  /-- The values whose latch passed and waits for T_L. -/
  accepted : Option (List (Nat × W64)) := none
  /-- NAND operations, in order; the first is in progress. -/
  nandOps : List NandOp := []
  /-- A commit is requested and has not started (R456, R464). -/
  commitDue : Bool := false
  /-- A boot record update that waits for energy (R456): ACTIVE, the two slot states, TRIES. -/
  boot : Option (Nat × Nat × Nat × Nat) := none
  /-- Entries of the snapshot being written (R453), and its first page. -/
  writing : List (Nat × W64) := []
  writePage : Nat := 0
  fwOp : Option FwOp := none
  /-- Controllers that a live switch still has to restart, the one restarting first, and how the last switch was made. -/
  switching : List Controller := []
  live : Bool := false
  /-- The slot switched away from, while the running image is unconfirmed, and from when it is to be confirmed (R467). -/
  fallback : Option Nat := none
  trialAt : Nat := 0
  /-- The configuration digest record: when it was last written, and whether a newer commit waits for it. -/
  digestAt : Nat := 0
  digestDue : Bool := false
  /-- Last fault record (R476): slot that holds the newest, SEQ, cause and when, and whether there is one. -/
  recSlot : Nat := 1
  recSeq : Nat := 0
  recCause : Nat := 0
  recAt : Nat := 0
  /-- Tag arbitration (R475): who holds the wired lock, since when, and who is held by clock stretching. -/
  tagLock : Option TagMaster := none
  tagLockAt : Nat := 0
  tagHeld : List TagReq := []
  /-- The TAG_ACCESS operation in progress (R480). -/
  tagOp : Option (Bool × Nat) := none
  /-- The field has written the mailbox since it was last handled. -/
  mboxDue : Bool := false
  /-- Half controllers: the hinge messages that each half sent last (kind 0 LEASE, 1 LEASE_ACK, 2 LEASE_NAK, 3 HANDOFF, 4 ACCEPT;
  and the epoch), and when each half last accepted a LEASE or a LEASE_ACK. -/
  hinge : List (Nat × List (Nat × Nat)) := []
  leaseAt : List (Nat × Nat) := []
  /-- When each half last changed its role, or sent HANDOFF (R485). -/
  roleAt : List (Nat × Nat) := []
  /-- Status requests in a row that each half controller has left unanswered (R488). -/
  silent : List (Nat × Nat) := []
  /-- Host accesses that woke the module from P4, which complete after the restart (R376), oldest first. -/
  wakeHeld : List Instr := []
  /-- the power state that is being entered (R376) -/
  entering : Option Nat := none
  /-- Device Readiness Status messages sent to the host (R372) -/
  readySent : Nat := 0
  /-- Writes that clear VALID of an SFN table and wait (R171), oldest first. -/
  sfnClear : List SfnClear := []
deriving DecidableEq, Repr

/-! ## Power (chapter 12) -/

/-- A step that a neighbour bound holds (R397): the cell it steps and the level it sets, the two neighbours, and whether it is a
supply bound or a temperature bound. -/
structure Bound where
  cell : Nat
  level : Nat
  a : Nat
  b : Nat
  supply : Bool
deriving DecidableEq, Repr

/-- A cell's supply after a step of its divider (R391). -/
inductive Settle where
  | no | down | up
deriving DecidableEq, Repr

/-- What is set for a cell beside its ward's level (R394, R398, R406). -/
structure CellPwr where
  /-- Above 95 °C and not yet at or below 92 °C, likewise above 105 °C or without readings, and the level set for heat. -/
  hot : Bool := false
  crit : Bool := false
  heat : Nat := 0
  /-- The last reading was 115 °C or more (R406). -/
  at115 : Bool := false
  /-- Level set for a hot layer-store sensor. -/
  ls : Nat := 0
  /-- Level of a droop step (R399). -/
  droop : Nat := 0
  settle : Settle := .no
  /-- The clock is stretched (R398). -/
  stretch : Bool := false
  /-- Times of the stretch episodes of the last 10 µs. -/
  episodes : List Nat := []
  /-- CK_CELL cycles counted up to the last change of the divider, and `now` at that change (R27, R121). -/
  cycBase : Nat := 0
  cycSince : Nat := 0
deriving DecidableEq, Repr

/-- The governor's state. -/
structure Pwr where
  cells : List (Nat × CellPwr) := []
  bounds : List Bound := []
  /-- Layer-store sensors above 100 °C and not yet at or below 97 °C (half × 16 + sensor). -/
  lsHot : NatSet := []
  /-- °C of the larger coolant excess, and P_IN without valid readings. -/
  coolExcess : Nat := 0
  pinLost : Bool := false
  /-- Ward levels before the clamp (half × 8 + ward). -/
  before : List (Nat × Nat) := []
  /-- Start grants short of a full bucket, in 1/7200 of a grant, and when (module 0, halves 1 and 2); the core granted last. -/
  bucket : List (Nat × (Nat × Nat)) := []
  lastGrant : Nat := 127
  /-- 1 µs samples summed toward a 100 µs average: count, P_IN and P_RSV. -/
  samples : Nat := 0
  sumIn : Nat := 0
  sumRsv : Nat := 0
  /-- 1 µs samples since the last comparison of R404 (count, P_IN, P_RSV), and since the last mean of P_RSV (count, sum; R405) -/
  msN : Nat := 0
  msIn : Nat := 0
  msRsv : Nat := 0
  rsvN : Nat := 0
  rsvSum : Nat := 0
  /-- Modelled energy before CORR, in 2^-32 µJ: of both halves since that comparison, and of each ward of a half (half × 8 + ward) since
  the half's last decision (R392). -/
  model : Nat := 0
  spent : List (Nat × Nat) := []
  /-- Payload and header bytes of a port not yet modelled, by port × 16 + ward, 15 for no ward (R403, R405). -/
  portBytes : List (Nat × Nat) := []
  /-- Layer-store sensors whose last reading was 115 °C or more (R406). -/
  ls115 : NatSet := []
  /-- Energy in 2^-39 µJ not yet in a counter, by counter offset. -/
  frac : List (Nat × Nat) := []
  /-- Comparisons in a row out of range (R404); a run of averages above the cap (R411). -/
  driftRun : Nat := 0
  capRun : Bool := false
deriving DecidableEq, Repr

/-! ## Security (chapter 13) -/

/-- What a ward holds beside its registers (R416, R418, R422): key handles, nonce, policy key. -/
structure Ward where
  keys : Nat := 0
  nonce : List Byte := []
  session : Nat := 0
  policy : List Byte := []
  /-- RELEASING: power gating is in progress. -/
  gating : Bool := false
  /-- Cell groups being gated. -/
  gated : Nat := 0
deriving DecidableEq, Repr

/-- A job of the unseal engine (R432, R433): descriptor words, ring index, bytes done. -/
structure UJob where
  words : List W64
  index : Nat
  moved : Nat
  /-- plaintext of the segment being moved; none once its tag has failed -/
  plain : Option (List Byte)
deriving DecidableEq, Repr

/-- An unseal context: PROD as last read, CONS, the job and whether it is to be aborted. -/
structure UCtx where
  prod : Nat := 0
  cons : Nat := 0
  job : Option UJob := none
  abort : Bool := false
deriving DecidableEq, Repr

/-- An SPDM secure session (R421): its number and whether FINISH has completed it. -/
structure Session where
  id : Nat
  finished : Bool
  keyGen : Nat := 0
deriving DecidableEq, Repr

/-- The SEC block's state. -/
structure Sec where
  /-- The alias key of this start (R419), and its certificate. -/
  alias_ : Nat := 0
  aliasCert : List Byte := []
  /-- The random source has failed a health test that it has not passed since (R417). -/
  rngBad : Bool := false
  /-- Handle drawn for the next key (each is fresh from the random source, R417). -/
  nextKey : Nat := 1
  wards : List (Nat × Ward) := []
  /-- Module data and tag keys and the shared tag key (R418): a handle once stage 2 has made them. -/
  moduleKeys : Nat := 0
  weightKeys : List (Nat × List Byte) := []
  linkKeys : List (Nat × List Byte) := []
  uctx : List (Nat × UCtx) := []
  /-- Context that the engine serves. -/
  turn : Nat := 0
  /-- SPDM: version and algorithms negotiated, sessions. -/
  negotiated : Bool := false
  sessions : List Session := []
deriving DecidableEq, Repr

/-! ## The whole -/

/-- Clocks and reference (R30). -/
structure Clk where
  /-- The root PLL is locked. -/
  lock : Bool := true
  /-- The holdover has expired and the main clocks wait for a warm restart. -/
  lost : Bool := false
  /-- CK_CELL, CK_MESH, CK_MEM and CK_HINGE run. -/
  on : Bool := false
  /-- `now` at the beginning of the last cold start (R493 TIME, R444), and at that of the last cold start or warm restart, from which
  the cores' cycles count (R82). -/
  coldStart : Nat := 0
  restartAt : Nat := 0
  /-- Parity and CSTORE_UE events per physical cell (R77): the times of those not older than a second. -/
  parity : List (Nat × List Nat) := []
  /-- Failed hinge sublinks (R18, R491). -/
  sublinks : NatSet := []
deriving DecidableEq, Repr

/-- The state of the module. -/
structure State where
  /-- Commands waiting, first in first out. -/
  pending : List Instr := []
  /-- CK_CELL cycles at ÷4 since power-up (log entry 1). -/
  now : Nat := 0
  /-- Draws made from the free values (log entry 3). -/
  free : Nat := 0
  /-- Draws made from the random source (R417, log entry 4). -/
  rnd : Nat := 0
  resp : Resp := {}
  regs : List (Nat × W64) := []
  clk : Clk := {}
  evt : Evt := {}
  cores : List (Nat × Core) := []
  mesh : List MeshPkt := []
  mem : Mem := {}
  xport : Xport := {}
  ports : List (Nat × Port) := []
  sup : Sup := {}
  jtag : Jtag := {}
  nv : Nv := {}
  mgt : Mgt := {}
  pwr : Pwr := {}
  sec : Sec := {}
deriving DecidableEq, Repr

/-- The module right after power-up reset: every register at its reset value (R10), memory with nothing listed, every
region UNSET without owner (R234), every core halted at PC 0 (R85), stage 0 with the main clocks off (R444). -/
def State.reset : State := {}

end Sys2Proof.Machine
end

