-- ==== Sys2Proof/Machine/Ops.lean ====
section
/-! DEFINITION. The named operations that every family uses: status codes, registers, cores, free values, events, wards and
the address map. -/

namespace Sys2Proof.Machine

open Sys2Proof

/-! ## Status codes (R13, R14) -/

namespace St
/-- OK. -/
def ok : Nat := 0x00
/-- UNSET. -/
def unset : Nat := 0x01
/-- POISON. -/
def poison : Nat := 0x02
/-- TAG_FAIL. -/
def tagFail : Nat := 0x03
/-- KEY_DENIED. -/
def keyDenied : Nat := 0x04
/-- BOUNDS. -/
def bounds : Nat := 0x05
/-- TIMEOUT. -/
def timeout : Nat := 0x06
/-- PEER_UNREACHABLE. -/
def peerUnreachable : Nat := 0x07
/-- ABORTED. -/
def aborted : Nat := 0x08
/-- WARD_FAULT. -/
def wardFault : Nat := 0x09
/-- THERMAL_ABORT. -/
def thermalAbort : Nat := 0x0A
/-- RETRY_EXHAUSTED. -/
def retryExhausted : Nat := 0x0B
/-- FORMAT_INVALID. -/
def formatInvalid : Nat := 0x0C
end St

/-- Place of a status in the order of R14; a lower place is reported first. -/
def statusRank : Nat → Nat
  | 0x09 => 0 | 0x05 => 1 | 0x04 => 2 | 0x0C => 3 | 0x0A => 4 | 0x08 => 5 | 0x07 => 6 | 0x0B => 7 | 0x06 => 8
  | 0x02 => 9 | 0x03 => 10 | 0x01 => 11 | _ => 12

/-- The one status that R14 reports for two conditions. -/
def worst (a b : Nat) : Nat := if statusRank b < statusRank a then b else a

/-- The first status of a list under R14. -/
def worstOf (l : List Nat) : Nat := l.foldl worst St.ok

/-- The status of a failed check, or OK. -/
def chk (bad : Bool) (st : Nat) : Nat := if bad then st else St.ok

/-! ## Registers -/

/-- A register's stored value. -/
def State.reg (s : State) (a : Nat) : W64 := mget (regReset a) s.regs a

/-- Stores a register. -/
def State.setReg (s : State) (a : Nat) (v : W64) : State := { s with regs := mset (regReset a) s.regs a v }

/-- A field of a register. -/
def State.rf (s : State) (a : Nat) (f : Fld) : Nat := fld (s.reg a) f.lsb f.width

/-- Sets a field of a register. -/
def State.setF (s : State) (a : Nat) (f : Fld) (x : Nat) : State := s.setReg a (setFld (s.reg a) f.lsb f.width x)

/-- Adds to a counter field that stops at its maximum. -/
def State.bump (s : State) (a : Nat) (f : Fld) (n : Nat) : State := s.setF a f (satAdd f.width (s.rf a f) n)

/-- Adds to a counter field that wraps. -/
def State.addF (s : State) (a : Nat) (f : Fld) (n : Nat) : State := s.setF a f (s.rf a f + n)

/-- Sets the answer of the last access. -/
def State.answer (s : State) (st : Nat) (v : W64 := 0) (bs : List Byte := []) : State :=
  { s with resp := { status := st, val := v, bytes := bs } }

/-! ## Cores -/

/-- Core `k` (0–127 cells, 128–159 stream engines, 160–167 collective sequencers). -/
def State.core (s : State) (k : Nat) : Core := mget {} s.cores k

/-- Replaces core `k`. -/
def State.setCore (s : State) (k : Nat) (c : Core) : State := { s with cores := mset {} s.cores k c }

/-- Changes core `k` by a function. -/
def State.modCore (s : State) (k : Nat) (f : Core → Core) : State := s.setCore k (f (s.core k))

/-- Whether a core number is a cell's. -/
def isCell (k : Nat) : Bool := decide (k < 128)

/-- Whether a core number is a stream engine's. -/
def isEngine (k : Nat) : Bool := decide (128 ≤ k ∧ k < 160)

/-- Whether a core number is a collective sequencer's. -/
def isColl (k : Nat) : Bool := decide (160 ≤ k ∧ k < 168)

/-- Synchronisation counter `n` of core `k`. -/
def State.ctr (s : State) (k n : Nat) : Nat := mget 0 (s.core k).ctrs n

/-- Writes a counter (16 bits). -/
def State.setCtr (s : State) (k n v : Nat) : State :=
  s.modCore k (fun c => { c with ctrs := mset 0 c.ctrs n (v % 65536) })

/-- Adds to a counter modulo 2^16 (R113). -/
def State.addCtr (s : State) (k n v : Nat) : State := s.setCtr k n (s.ctr k n + v)

/-- Counter value C has reached target T (R112). -/
def reached (c t : Nat) : Bool := decide ((c + 65536 - t % 65536) % 65536 < 0x8000)

/-! ## Free values -/

/-- The next free word. -/
def State.freeW (s : State) : W64 := Config.freeWord s.free

/-- After `n` draws. -/
def State.drew (s : State) (n : Nat) : State := { s with free := s.free + n }

/-- `n` free bytes. -/
def State.freeBytes (s : State) (n : Nat) : List Byte :=
  (((List.range (ceilDiv n 8)).map (fun i => leBytes 8 (Config.freeWord (s.free + i)).toNat)).flatten).take n

/-- A fresh random word (R417) and the state after the draw. -/
def State.random (s : State) : W64 × State := (Config.randomWord s.rnd, { s with rnd := s.rnd + 1 })

/-- The bytes of the next `n` draws of the random source. -/
def State.randomBytes (s : State) (n : Nat) : List Byte :=
  ((List.range n).map (fun i => leBytes 8 (Config.randomWord (s.rnd + i)).toNat)).flatten

/-- `n` draws are made. -/
def State.drawn (s : State) (n : Nat) : State := { s with rnd := s.rnd + n }

/-! ## Time -/

/-- ns from the beginning of the last cold start (R493). -/
def State.ns (s : State) : Nat := (s.now - s.clk.coldStart) * 5 / 9

/-- Cycles of CK_MEM or CK_MESH in a number of CK_CELL cycles (R27: 1.2 of 1.8 GHz). -/
def meshCycles (n : Nat) : Nat := n * 2 / 3

/-- CK_CELL cycles in a microsecond. -/
def cyclesPerUs : Nat := 1800

/-- CK_CELL cycles of core `k` since the last restart: for a cell at the divider that PWR_CELL shows, ÷4, ÷5 or ÷6 (R27, R82, R121; log
entry 83). -/
def State.ck (s : State) (k : Nat) : Nat :=
  if isCell k then
    let x := mget {} s.pwr.cells k
    x.cycBase + (s.now - max x.cycSince s.clk.restartAt) * 4 / (4 + s.rf (R.PWR_CELL k) F.PWR_CELL_DIV)
  else s.now - s.clk.restartAt

/-! ## Events (R493 to R499) -/

/-- Path `p`. -/
def State.path (s : State) (p : Nat) : EvPath := mget {} s.evt.paths p

/-- Replaces path `p`. -/
def State.setPath (s : State) (p : Nat) (q : EvPath) : State :=
  { s with evt := { s.evt with paths := mset {} s.evt.paths p q } }

/-- Records of a path's queue (R496); the ring's unread records count for the host ring. -/
def State.pathCap (s : State) (p : Nat) : Nat :=
  match p with
  | 0 => 2 ^ s.rf R.EVT_HOST_BASE F.EVT_HOST_BASE_LOG2
  | 1 => 256
  | 2 => 256
  | _ => 1024

/-- Entries in use. -/
def State.pathUsed (s : State) (p : Nat) : Nat :=
  (s.path p).queue.length +
    (if p = 0 then (s.rf R.EVT_HOST_PROD F.EVT_HOST_PROD_PROD + 2 ^ 32 - s.rf R.EVT_HOST_CONS F.EVT_HOST_CONS_CONS) % 2 ^ 32
     else 0)

/-- Free entries. -/
def State.pathFree (s : State) (p : Nat) : Nat := s.pathCap p - s.pathUsed p

/-- The alarm reserve (R496). -/
def alarmReserve (p : Nat) : Nat :=
  match p with
  | 0 => 16
  | 1 => 64
  | 2 => 64
  | _ => 256

/-- Whether a path carries a class now (R495). -/
def State.pathTakes (s : State) (p cls : Nat) : Bool :=
  match p with
  | 0 => s.rf R.EVT_CTRL F.EVT_CTRL_HOST_EN = 1 && (cls ≠ 2 || s.rf R.EVT_CTRL F.EVT_CTRL_TRACE_EN = 1)
  | 1 => cls = 0 || (cls = 1 && s.rf R.EVT_CTRL F.EVT_CTRL_SB_LOG = 1)
  | 2 => decide (cls ≤ 1)
  | _ => true

/-- Puts a record into a path's queue with its record number. -/
def State.enqueue (s : State) (p : Nat) (r : EvRec) : State :=
  let q := s.path p
  s.setPath p { q with queue := q.queue ++ [{ r with seq := q.seq % 65536 }], seq := q.seq + 1 }

/-- Counts one more occurrence on the key of a record, if it waits in the list. -/
def bumpKey (l : List EvRec) (code source n : Nat) : List EvRec :=
  l.map (fun k => if k.code = code ∧ k.source = source then { k with count := satAdd 32 k.count n } else k)

/-- Whether a key waits. -/
def hasKey (l : List EvRec) (code source : Nat) : Bool := l.any (fun k => k.code = code && k.source = source)

/-- An alarm reaches a path (R496, R497). -/
def State.alarmTo (s : State) (p : Nat) (r : EvRec) : State :=
  let q := s.path p
  if hasKey q.alarms r.code r.source then s.setPath p { q with alarms := bumpKey q.alarms r.code r.source r.count }
  else if s.pathTakes p 0 && decide (0 < s.pathFree p) then s.enqueue p r
  else s.setPath p { q with alarms := q.alarms ++ [r] }

/-- A log merges into the summary table of a path (R498). -/
def State.summarise (s : State) (p : Nat) (r : EvRec) : State :=
  let q := s.path p
  let r := { r with summary := true }
  if hasKey q.sums r.code r.source then s.setPath p { q with sums := bumpKey q.sums r.code r.source r.count }
  else if (q.sums.filter (fun k => k.source ≠ 0xFFFF)).length < 256 then s.setPath p { q with sums := q.sums ++ [r] }
  else if hasKey q.sums r.code 0xFFFF then s.setPath p { q with sums := bumpKey q.sums r.code 0xFFFF r.count }
  else s.setPath p { q with sums := q.sums ++ [{ r with source := 0xFFFF }] }

/-- Counts summarised occurrences on an outer path (R498). -/
def State.countSummarised (s : State) (p n : Nat) : State :=
  if p < 3 then s.bump (R.EVT_LOSS p) F.EVT_LOSS_SUMMARISED n else s

/-- A log reaches a path (R496, R498); a summary from the internal path keeps its count. -/
def State.logTo (s : State) (p : Nat) (r : EvRec) : State :=
  if s.pathTakes p 1 then
    if alarmReserve p < s.pathFree p then
      (if r.summary then s.countSummarised p r.count else s).enqueue p r
    else (s.countSummarised p r.count).summarise p r
  else s

/-- A trace reaches a path (R496, R499). -/
def State.traceTo (s : State) (p : Nat) (r : EvRec) : State :=
  if s.pathTakes p 2 then
    if 2 * s.pathUsed p ≤ s.pathCap p then s.enqueue p r
    else if p < 3 then s.bump (R.EVT_LOSS p) F.EVT_LOSS_TRACES_LOST 1 else s
  else s

/-- A record reaches a path. -/
def State.recTo (s : State) (p : Nat) (r : EvRec) : State :=
  match r.cls with
  | 0 => s.alarmTo p r
  | 1 => s.logTo p r
  | _ => s.traceTo p r

/-- A record reaches the three outer paths (R495). -/
def State.toOuter (s : State) (r : EvRec) : State := ((s.recTo 0 r).recTo 1 r).recTo 2 r

/-- Everything a half controller's internal path holds, in the order of delivery (R496). -/
def EvPath.contents (q : EvPath) : List EvRec :=
  q.queue.filter (fun r => r.cls = 0) ++ q.alarms.map (fun r => { r with summary := decide (1 < r.count) }) ++
    q.queue.filter (fun r => r.cls = 1 && r.summary) ++ q.sums ++
    q.queue.filter (fun r => r.cls ≠ 0 && !(r.cls = 1 && r.summary))

/-- The internal path of a half is delivered to the module controller while both controllers run (R496, log entry 12). -/
def State.deliver (s : State) (h : Nat) : State :=
  if s.evt.mcDown || nmem s.evt.hcDown h then s
  else
    let q := s.path (3 + h)
    (q.contents.foldl State.toOuter (s.setPath (3 + h) { q with queue := [], alarms := [], sums := [] }))

/-- The half whose controller reports an event, if its block belongs to a half (R23, R496). -/
def eventHalf (r : EvRec) : Option Nat :=
  let id := r.code / 256
  if id % 0x40 ∈ [0x01, 0x10, 0x11, 0x19] then some (id / 0x40 % 2)
  else if id = 0x08 then (if r.srcKind = 2 then some (r.source / 64 % 2) else if r.srcKind = 6 then some (r.source / 16 % 2) else none)
  else none

/-- Raises an event (R494 to R499). -/
def State.raise (s : State) (r : EvRec) : State :=
  let r := { r with time := s.ns }
  match eventHalf r with
  | some h => (s.recTo (3 + h) r).deliver h
  | none => if s.evt.mcDown then s.recTo 3 r else s.toOuter r

/-- A record of a code with its class, source and source kind. -/
def ev (code cls source srcKind : Nat) : EvRec := { code := code, cls := cls, source := source, srcKind := srcKind }

/-- The code of a per-half block's event in half `h` (R15, R505). -/
def halfCode (code h : Nat) : Nat := code + 0x4000 * h

/-- ALERT# (R501): an alarm is queued or waits for the sideband. -/
def State.alert (s : State) : Bool :=
  (s.path 1).queue.any (fun r => r.cls = 0) || !(s.path 1).alarms.isEmpty

/-! ## Wards (R413) and who owns what -/

/-- Ward states (R442). -/
def State.wardState (s : State) (w : Nat) : Nat := s.rf (R.SEC_WARD_STATE w) F.SEC_WARD_STATE_STATE

/-- Whether a ward holds resources: what is written to its registers while it is FREE assigns nothing (R442). -/
def State.holds (s : State) (w : Nat) : Bool := s.wardState w ≠ 0

/-- The ward that holds cell group `g`. -/
def State.wardOfGroup (s : State) (g : Nat) : Option Nat :=
  (List.range 8).find? (fun w => bitAt (s.rf (R.SEC_WARD_RES w) F.SEC_WARD_RES_GROUPS) g && s.holds w)

/-- Whether logical cell `k` is absent (R36). -/
def State.absent (s : State) (k : Nat) : Bool :=
  bitAt (s.rf (R.HALF_CELL_ABSENT (k / 64)) F.HALF_CELL_ABSENT_ABSENT) (k % 64)

/-- The ward that a core runs in (R33, R119, R442); an absent cell belongs to none (R414). -/
def State.wardOfCore (s : State) (k : Nat) : Option Nat :=
  if isCell k then (if s.absent k then none else s.wardOfGroup (k / 16))
  else if isEngine k then
    (List.range 8).find? (fun w => bitAt (s.rf (R.SEC_WARD_ENG w) F.SEC_WARD_ENG_STREAM) (k - 128) && s.holds w)
  else (List.range 8).find? (fun w => bitAt (s.rf (R.SEC_WARD_ENG w) F.SEC_WARD_ENG_COLL) (k - 160) && s.holds w)

/-- The ward that holds queue `q` (R442: units of 4,096 queues). -/
def State.wardOfQueue (s : State) (q : Nat) : Option Nat :=
  (List.range 8).find? (fun w =>
    let b := s.rf (R.SEC_WARD_RES w) F.SEC_WARD_RES_QBASE
    let n := s.rf (R.SEC_WARD_RES w) F.SEC_WARD_RES_QCOUNT
    decide (b ≤ q / 4096 ∧ q / 4096 < b + n) && s.holds w)

/-- The physical column on which logical cell (half, row, col) runs (R31). -/
def State.physCol (s : State) (h r c : Nat) : Nat :=
  if s.rf (R.HALF_CELL_MAP h) (F.HALF_CELL_MAP_SUBST r) = c then 8 else c

/-- The logical cell that runs on a physical cell, if any (R31). -/
def State.logicalOn (s : State) (h r p : Nat) : Option Nat :=
  let sub := s.rf (R.HALF_CELL_MAP h) (F.HALF_CELL_MAP_SUBST r)
  if p = 8 then (if sub < 8 then some (h * 64 + r * 8 + sub) else none)
  else if sub = p then none else some (h * 64 + r * 8 + p)

/-- HALF_CELL_FAULT of a row: register and field. -/
def faultReg (h r : Nat) : Nat := if r < 4 then R.HALF_CELL_FAULT_LO h else R.HALF_CELL_FAULT_HI h

/-- The field of row `r` in HALF_CELL_FAULT. -/
def faultFld (r : Nat) : Fld := if r < 4 then F.HALF_CELL_FAULT_LO_FAULT r else F.HALF_CELL_FAULT_HI_FAULT (r - 4)

/-- Whether physical cell (r, p) of a half is faulty (R37). -/
def State.faulty (s : State) (h r p : Nat) : Bool := bitAt (s.rf (faultReg h r) (faultFld r)) p

/-- Marks a physical cell faulty (R37). -/
def State.markFaulty (s : State) (h r p : Nat) : State :=
  s.setF (faultReg h r) (faultFld r) (Nat.lor (s.rf (faultReg h r) (faultFld r)) (2 ^ p))

/-! ## The address map (R19 to R22) -/

/-- The parts of the device address space (R20). -/
inductive Space where
  | unified | host | control | reserved
deriving DecidableEq, Repr

/-- First address of the host window. -/
def hostWindowBase : Nat := 0x0100_0000_0000

/-- First address of control space. -/
def controlBase : Nat := 0xF000_0000_0000

/-- The part an address lies in; an address of 2^48 or above lies in none (R19). -/
def spaceOf (a : Nat) : Space :=
  if a < 2 ^ 39 then .unified
  else if hostWindowBase ≤ a ∧ a < 0x0200_0000_0000 then .host
  else if controlBase ≤ a ∧ a < controlBase + 0x8000_0000 then .control
  else .reserved

/-- The part that a whole access of `n` bytes lies in; one that spans parts lies in none (R21). -/
def spaceOfRange (a n : Nat) : Space := if spaceOf a = spaceOf (a + n - 1) then spaceOf a else .reserved

/-- Home stack of a unified-range address (R22). -/
def homeStack (a : Nat) : Nat := Nat.xor (Nat.xor (bitsOf a 16 3) (bitsOf a 19 3)) (bitsOf a 22 3)

/-- Stack offset of a unified-range address (R22). -/
def stackOff (a : Nat) : Nat := bitsOf a 19 20 * 65536 + a % 65536

/-- The device address of an offset in a stack: the inverse of R22. -/
def stackAddr (st off : Nat) : Nat :=
  let hi := off / 65536
  let mid := Nat.xor (Nat.xor st (bitsOf hi 0 3)) (bitsOf hi 3 3)
  hi * 2 ^ 19 + mid * 65536 + off % 65536

/-- Home half of an address (R22). -/
def homeHalf (a : Nat) : Nat := homeStack a / 4

/-- Key of the region (R233) that an address lies in. -/
def regionKey (a : Nat) : Nat := homeStack a * 65536 + stackOff a / 2 ^ 20

/-- A region. -/
def State.region (s : State) (key : Nat) : Region := mget {} s.mem.regions key

/-- Replaces a region. -/
def State.setRegion (s : State) (key : Nat) (r : Region) : State :=
  { s with mem := { s.mem with regions := mset {} s.mem.regions key r } }

/-- Owner code of an address (R228). -/
def State.owner (s : State) (a : Nat) : Nat := (s.region (regionKey a)).owner

/-- Per-stack state. -/
def State.stack (s : State) (st : Nat) : Stack := mget {} s.mem.stk st

/-- Replaces per-stack state. -/
def State.setStack (s : State) (st : Nat) (x : Stack) : State :=
  { s with mem := { s.mem with stk := mset {} s.mem.stk st x } }

/-- Thermal level of a stack: 0 NORMAL, 1 WARM, 2 HOT, 3 FENCED (R245). -/
def State.thermLevel (s : State) (st : Nat) : Nat := s.rf (R.MEM_THERM_STATUS st) F.MEM_THERM_STATUS_LEVEL

/-- Whether an address is homed in a fenced stack (R247). -/
def State.fenced (s : State) (a : Nat) : Bool := s.thermLevel (homeStack a) = 3

/-- The lines (line numbers) that a byte range touches. -/
def linesOf (a n : Nat) : List Nat := if n = 0 then [] else (List.range ((a + n - 1) / 64 - a / 64 + 1)).map (fun i => a / 64 + i)

/-- The lead half: the half whose role is LEAD (R483), else half 0. -/
def State.role (s : State) (h : Nat) : Nat := s.rf (R.HALF_LEAD_STATUS h) F.HALF_LEAD_STATUS_ROLE

end Sys2Proof.Machine
end

