-- ==== Sys2Proof/Machine/Access.lean ====
section
/-! DEFINITION. Who reaches which control-space window (R7, R25, R26, R41, R361, R429, R468). -/

namespace Sys2Proof.Machine

open Sys2Proof

/-- The logical cell whose CELL sub-window holds a control-space offset (R24). -/
def cellOfAddr (a : Nat) : Option Nat := if windowOf a = 0x08 then some (a % 0x1000000 / 0x20000) else none

/-- The logical cell to which a control-space offset belongs (R41): its sub-window, or its conversion or table page (R158, R170). -/
def cellPage (a : Nat) : Option Nat :=
  let o := a % 0x1000000
  if windowOf a % 0x40 = 0x01 then
    let k := windowOf a / 0x40 % 2 * 64
    if 0x400000 ≤ o ∧ o < 0x440000 then some (k + (o - 0x400000) / 0x1000)
    else if 0x500000 ≤ o ∧ o < 0x900000 then some (k + (o - 0x500000) / 0x10000)
    else none
  else cellOfAddr a

/-- Whether HOST_CS_ALLOW lets the host reach a window (R361). -/
def State.hostAllows (s : State) (id : Nat) : Bool :=
  if id < 64 then bitAt (s.rf R.HOST_CS_ALLOW_LO F.HOST_CS_ALLOW_LO_ALLOW) id
  else bitAt (s.rf R.HOST_CS_ALLOW_HI F.HOST_CS_ALLOW_HI_ALLOW) (id - 64)

/-- Whether the host link is up and start-up stage 3 is complete, so that host requests are served (R372). -/
def State.hostUp (s : State) : Bool :=
  decide (s.rf R.HOST_LINK_STATUS F.HOST_LINK_STATUS_SPEED ≠ 0) && decide (3 ≤ s.rf R.MGMT_STAGE F.MGMT_STAGE_STAGE)

/-- Whether R26 gives a requester a control-space offset. -/
def State.reaches (s : State) (who : Requester) (a : Nat) : Bool :=
  let id := windowOf a
  match who with
  | .host => s.hostUp && s.hostAllows id
  | .mc => true
  | .hc h => id ∈ [0x01 + 0x40 * h, 0x10 + 0x40 * h, 0x11 + 0x40 * h, 0x19 + 0x40 * h, 0x3F] ||
      (id = 0x08 && decide (a % 0x1000000 / 0x20000 / 64 = h))
  | .core k => isCell k && cellOfAddr a = some k
  | .xport => false

/-- The windows that the module controller itself holds (R468). -/
def mcWindow (id : Nat) : Bool := id ∈ [0x00, 0x30, 0x38, 0x3C]

/-- The checks that every control-space access passes before its register's own rules: reach (R26, R361), a listed window
(R23, R25), a present cell (R41), and a module controller that runs (R468). -/
def State.reach (s : State) (who : Requester) (a : Nat) : Nat :=
  let id := windowOf a
  let noCell := match cellPage a with
    | some k => s.absent k
    | none => false
  worst (chk (decide (0x8000_0000 ≤ a) || !s.reaches who a || !windowListed id || noCell) St.bounds)
    (chk (s.evt.mcDown && mcWindow id) St.timeout)

/-- Whether a ward is LOCKED (R416, R442). -/
def State.locked (s : State) (w : Nat) : Bool := s.wardState w = 2

/-- Whether R429 restricts this requester: the host and the module controller. -/
def lockable (who : Requester) : Bool := who = .host || who = .mc

/-- Raises LOCKED_REFUSED for ward `w` (R429). -/
def State.lockedRefused (s : State) (w : Nat) : State := s.raise { ev 0x3009 1 w 5 with ward := w, status := St.wardFault }

/-- A host access that ends badly: HOST_ERR and HOST_ACCESS_FAULT (R362). SOURCE 0 is BAR0. -/
def State.hostErr (s : State) (off src st : Nat) : State :=
  let s := ((s.setF R.HOST_ERR F.HOST_ERR_OFFSET off).setF R.HOST_ERR F.HOST_ERR_STATUS st).setF R.HOST_ERR F.HOST_ERR_SOURCE src
  (s.bump R.HOST_ERR_COUNT F.HOST_ERR_COUNT_COUNT 1).raise { ev 0x2004 1 0 0 with status := st, addr := off }

/-- Ends a control-space access with a status: the answer, and for the host HOST_ERR when it is not OK (R362). -/
def State.ctlEnd (s : State) (who : Requester) (a st : Nat) (v : W64 := 0) : State :=
  let s := if who = .host && s.hostUp && st ≠ St.ok && st ≠ St.unset then s.hostErr a 0 st else s
  s.answer st v

/-- A write to a control register that has a row of its own: after the shared checks and `own`, the register's own checks,
its effect `f`; otherwise nothing. -/
def State.ctlDo (s : State) (who : Requester) (a own : Nat) (f : State → State) : State :=
  let st := worst (s.reach who a) own
  if st = St.ok then (f s).ctlEnd who a St.ok else s.ctlEnd who a st

end Sys2Proof.Machine
end

