-- ==== Sys2Proof/Machine/Fp.lean ====
section
/-! DEFINITION. The element formats (R127 to R131), rounding into them (R137 to R143, R149) and FP32 arithmetic (R57,
R58). A finite value is an exact dyadic number; every operation is exact until the one rounding the spec gives it. -/

namespace Sys2Proof.Machine

/-- The value of a floating-point or integer element: NaN, a signed infinity, or ±m × 2^e exactly (m = 0 is a signed zero). -/
inductive FVal where
  | nan
  | inf (neg : Bool)
  | fin (neg : Bool) (m : Nat) (e : Int)
deriving DecidableEq, Repr

/-- Exponent bits of a format (R127). -/
def expBits : Nat → Nat
  | 0 => 8 | 1 => 8 | 2 => 5 | 3 => 5 | 4 => 4 | 5 => 3 | 6 => 2 | 7 => 2 | _ => 0

/-- Mantissa bits of a format (R127). -/
def manBits : Nat → Nat
  | 0 => 23 | 1 => 7 | 2 => 10 | 3 => 2 | 4 => 3 | 5 => 2 | 6 => 3 | 7 => 1 | _ => 0

/-- Exponent bias (R127). -/
def fmtBias : Nat → Int
  | 0 => 127 | 1 => 127 | 2 => 15 | 3 => 15 | 4 => 7 | 5 => 3 | 6 => 1 | 7 => 1 | _ => 0

/-- Bits of one element (R127). -/
def elemBits : Nat → Nat
  | 0 => 32 | 1 => 16 | 2 => 16 | 3 => 8 | 4 => 8 | 5 => 6 | 6 => 6 | 7 => 4 | 8 => 8 | 9 => 4 | _ => 0

/-- INT8 and INT4. -/
def isIntFmt (c : Nat) : Bool := c = 8 || c = 9

/-- The code of MAXF without the sign (R127, R129). -/
def maxCode : Nat → Nat
  | 0 => 0x7F7F_FFFF | 1 => 0x7F7F | 2 => 0x7BFF | 3 => 0x7B | 4 => 0x7E | 5 => 0x1F | 6 => 0x1F | 7 => 0x7
  | 8 => 127 | 9 => 7 | _ => 0

/-- Formats that have infinities (R129). -/
def hasInf (c : Nat) : Bool := decide (c ≤ 3)

/-- Code of +∞, where the format has one. -/
def infCode (c : Nat) : Nat := maxCode c + 1

/-- The canonical NaN written (R129); +0 or 0 in formats without NaN (R136, R143). -/
def nanCode : Nat → Nat
  | 0 => 0x7FC0_0000 | 1 => 0x7FC0 | 2 => 0x7E00 | 3 => 0x7E | 4 => 0x7F | _ => 0

/-- The value a code stands for (R128, R129, R130). -/
def decodeElem (c code : Nat) : FVal :=
  if isIntFmt c then
    let v := sext (elemBits c) code
    .fin (decide (v < 0)) v.natAbs 0
  else
    let w := elemBits c
    let neg := bitAt code (w - 1)
    let mag := code % 2 ^ (w - 1)
    let e := mag / 2 ^ manBits c
    let m := mag % 2 ^ manBits c
    if hasInf c && decide (mag > maxCode c) then (if mag = infCode c then .inf neg else .nan)
    else if c = 4 && mag = 0x7F then .nan
    else if e = 0 then .fin neg m (1 - fmtBias c - manBits c)
    else .fin neg (2 ^ manBits c + m) ((e : Int) - fmtBias c - manBits c)

/-- The bits of the sign of a format. -/
def signBit (c : Nat) (neg : Bool) : Nat := if neg then 2 ^ (elemBits c - 1) else 0

/-- Whether the magnitude n + r/d rounds up (R138); `u` are the 16 random bits of mode 3. -/
def roundsUp (mode u n r d : Nat) : Bool :=
  match mode with
  | 0 => decide (2 * r ≥ d)
  | 1 => decide (2 * r > d) || (decide (2 * r = d) && n % 2 = 1)
  | 2 => false
  | _ => decide (u < r * 65536 / d)

/-- m × 2^e in units of 2^q, rounded (R138). A value far below one unit has f = 0 and rounds to 0 in every mode. -/
def roundUnits (mode u m : Nat) (e q : Int) : Nat :=
  if q ≤ e then m <<< (e - q).toNat
  else if (q - e) > (Nat.log2 m : Int) + 18 then 0
  else
    let d := 1 <<< (q - e).toNat
    let n := m / d
    if roundsUp mode u n (m % d) d then n + 1 else n

/-- The unit in which a format holds a magnitude near m × 2^e: its binade's, or the subnormals'. -/
def unitOf (c m : Nat) (e : Int) : Int :=
  if isIntFmt c then 0 else max (e + Nat.log2 m) (1 - fmtBias c) - manBits c

/-- The magnitude code of a rounded magnitude; it may lie above MAXF. -/
def magCode (c n : Nat) (q : Int) : Nat :=
  if isIntFmt c then n else ((q + manBits c + fmtBias c).toNat <<< manBits c) + n - 2 ^ manBits c

/-- The sign applied to a magnitude code. -/
def signed (c mag : Nat) (neg : Bool) : Nat :=
  if isIntFmt c then (if neg then (2 ^ elemBits c - mag) % 2 ^ elemBits c else mag) else mag + signBit c neg

/-- What an overflowing or infinite magnitude is written as: the infinity or MAXF (R141, R143). -/
def bigCode (c : Nat) (neg toInf : Bool) : Nat := signed c (if hasInf c && toInf then infCode c else maxCode c) neg

/-- Rounding a value once into format `c` (R137 to R143): the code written and its health category (R149). -/
def roundTo (c mode u : Nat) (v : FVal) : Nat × Nat :=
  match v with
  | .nan => (nanCode c, 3)
  | .inf neg => (bigCode c neg true, 3)
  | .fin neg m e =>
    if m = 0 then (signed c 0 neg, 0)
    else
      let q := unitOf c m e
      let mag := magCode c (roundUnits mode u m e q) q
      if mag > maxCode c then (bigCode c neg (decide (mode ≠ 2)), 3)
      else (signed c mag neg, if mag = 0 then 2 else if !isIntFmt c && mag < 2 ^ manBits c then 1 else 0)

/-- v × 2^k, exactly. -/
def FVal.scale (v : FVal) (k : Int) : FVal :=
  match v with
  | .fin n m e => .fin n m (e + k)
  | x => x

/-- −v. -/
def FVal.neg (v : FVal) : FVal :=
  match v with
  | .nan => .nan
  | .inf n => .inf (!n)
  | .fin n m e => .fin (!n) m e

/-- |v|. -/
def FVal.abs (v : FVal) : FVal :=
  match v with
  | .nan => .nan
  | .inf _ => .inf false
  | .fin _ m e => .fin false m e

/-- Whether a value is a zero of either sign. -/
def FVal.isZero (v : FVal) : Bool :=
  match v with
  | .fin _ m _ => m = 0
  | _ => false

/-- Whether a value is finite. -/
def FVal.isFin (v : FVal) : Bool :=
  match v with
  | .fin _ _ _ => true
  | _ => false

/-- The integer sm × 2^(e − lo) of a signed magnitude. -/
def shiftSigned (neg : Bool) (m : Nat) (k : Nat) : Int := if neg then -((m <<< k : Nat) : Int) else ((m <<< k : Nat) : Int)

/-- Exact sum. A sum of zeros of unlike sign, and an exact cancellation, is +0 (IEEE 754, nearest). -/
def FVal.add (a b : FVal) : FVal :=
  match a, b with
  | .nan, _ => .nan
  | _, .nan => .nan
  | .inf x, .inf y => if x = y then .inf x else .nan
  | .inf x, _ => .inf x
  | _, .inf y => .inf y
  | .fin n1 m1 e1, .fin n2 m2 e2 =>
    if m1 = 0 ∧ m2 = 0 then .fin (n1 && n2) 0 e1
    else if m1 = 0 then .fin n2 m2 e2
    else if m2 = 0 then .fin n1 m1 e1
    else
      let lo := min e1 e2
      let s := shiftSigned n1 m1 (e1 - lo).toNat + shiftSigned n2 m2 (e2 - lo).toNat
      .fin (decide (s < 0)) s.natAbs lo

/-- Exact difference. -/
def FVal.sub (a b : FVal) : FVal := a.add b.neg

/-- Exact product; ∞ × 0 is NaN. -/
def FVal.mul (a b : FVal) : FVal :=
  match a, b with
  | .nan, _ => .nan
  | _, .nan => .nan
  | .inf x, .inf y => .inf (x != y)
  | .inf x, .fin n m _ => if m = 0 then .nan else .inf (x != n)
  | .fin n m _, .inf y => if m = 0 then .nan else .inf (n != y)
  | .fin n1 m1 e1, .fin n2 m2 e2 => .fin (n1 != n2) (m1 * m2) (e1 + e2)

/-- A quotient of naturals to 96 bits with a sticky last bit: every rounding of it is that of the exact quotient. -/
def quotSticky (a b : Nat) : Nat × Int :=
  let k := 96 + Nat.log2 b
  let q := (a <<< k) / b
  (2 * q + (if (a <<< k) % b = 0 then 0 else 1), -(k : Int) - 1)

/-- Quotient, as IEEE 754 gives it. -/
def FVal.div (a b : FVal) : FVal :=
  match a, b with
  | .nan, _ => .nan
  | _, .nan => .nan
  | .inf _, .inf _ => .nan
  | .inf x, .fin n _ _ => .inf (x != n)
  | .fin n _ _, .inf y => .fin (n != y) 0 0
  | .fin n1 m1 e1, .fin n2 m2 e2 =>
    if m2 = 0 then (if m1 = 0 then .nan else .inf (n1 != n2))
    else
      let r := quotSticky m1 m2
      .fin (n1 != n2) r.1 (e1 - e2 + r.2)

/-- Integer square root, by `fuel` bits from the top. -/
def isqrtFrom : Nat → Nat → Nat → Nat
  | 0, _, r => r
  | k + 1, n, r => if (r + 2 ^ k) * (r + 2 ^ k) ≤ n then isqrtFrom k n (r + 2 ^ k) else isqrtFrom k n r

/-- ⌊√n⌋. -/
def isqrt (n : Nat) : Nat := isqrtFrom (Nat.log2 n / 2 + 1) n 0

/-- Square root, as IEEE 754 gives it, to at least 96 bits with a sticky last bit. -/
def FVal.sqrt (a : FVal) : FVal :=
  match a with
  | .nan => .nan
  | .inf n => if n then .nan else .inf false
  | .fin n m e =>
    if m = 0 then .fin n 0 0
    else if n then .nan
    else
      let m2 := if e % 2 = 0 then m else 2 * m
      let e2 := if e % 2 = 0 then e else e - 1
      let big := m2 <<< 192
      let r := isqrt big
      .fin false (2 * r + (if r * r = big then 0 else 1)) (e2 / 2 - 97)

/-- The FP32 value of a word. -/
def f32 (w : Nat) : FVal := decodeElem 0 (w % 2 ^ 32)

/-- Rounds to FP32, ties to even (R57); NaN is 0x7FC0_0000 (R58). -/
def toF32 (v : FVal) : Nat := (roundTo 0 1 0 v).1

/-- Rounds to FP32 and takes the value. -/
def r32 (v : FVal) : FVal := f32 (toF32 v)

/-- FP32 sum of words, ties to even. -/
def fadd (a b : Nat) : Nat := toF32 ((f32 a).add (f32 b))

/-- FP32 difference. -/
def fsub (a b : Nat) : Nat := toF32 ((f32 a).sub (f32 b))

/-- FP32 product. -/
def fmul (a b : Nat) : Nat := toF32 ((f32 a).mul (f32 b))

/-- FP32 quotient. -/
def fdiv (a b : Nat) : Nat := toF32 ((f32 a).div (f32 b))

/-- FP32 square root. -/
def fsqrt (a : Nat) : Nat := toF32 (f32 a).sqrt

/-- An exact natural number. -/
def FVal.ofNat (n : Nat) : FVal := .fin false n 0

/-- Order of two values that are not NaN; −0 lies below +0 (R175). -/
def FVal.lt (a b : FVal) : Bool :=
  match a, b with
  | .nan, _ => false
  | _, .nan => false
  | .inf x, .inf y => x && !y
  | .inf x, _ => x
  | _, .inf y => !y
  | .fin n1 m1 e1, .fin n2 m2 e2 =>
    if m1 = 0 ∧ m2 = 0 then n1 && !n2
    else
      let lo := min e1 e2
      decide (shiftSigned n1 m1 (e1 - lo).toNat < shiftSigned n2 m2 (e2 - lo).toNat)

/-- Whether FP32 word bits are a NaN. -/
def isNaN32 (w : Nat) : Bool := f32 w = .nan

/-- Whether FP32 word bits are an infinity. -/
def isInf32 (w : Nat) : Bool :=
  match f32 w with
  | .inf _ => true
  | _ => false

/-- x truncated toward zero to 12 significant bits (R55); infinities and NaN stay. -/
def hi12 (v : FVal) : FVal :=
  match v with
  | .fin n m e =>
    let k := Nat.log2 m + 1 - 12
    .fin n ((m >>> k) <<< k) e
  | x => x

/-- Bytes that `n` elements of a format occupy; a row must fill whole bytes (R102, R131). -/
def rowBytes (c n : Nat) : Nat := (elemBits c * n + 7) / 8

/-- Whether `n` elements fill whole bytes (R102, R131). -/
def wholeBytes (c n : Nat) : Bool := decide (elemBits c * n % 8 = 0)

/-- Element `j` of packed bytes (R131). -/
def elemAt (c : Nat) (bs : List Byte) (j : Nat) : Nat :=
  let b := elemBits c * j
  bitsOf (leNat (slice bs (b / 8) 5)) (b % 8) (elemBits c)

/-- The little-endian number of element codes packed from bit 0 (R131). -/
def packNat (w : Nat) : List Nat → Nat
  | [] => 0
  | c :: cs => c % 2 ^ w + packNat w cs <<< w

/-- Groups of at most `n` items. -/
def chunks {α : Type} (n : Nat) : Nat → List α → List (List α)
  | 0, _ => []
  | k + 1, l => if l.isEmpty then [] else l.take n :: chunks n k (l.drop n)

/-- Packs element codes into bytes, least significant first (R131). -/
def packElems (c : Nat) (codes : List Nat) : List Byte :=
  ((chunks 4 codes.length codes).map (fun g => leBytes ((elemBits c * g.length + 7) / 8) (packNat (elemBits c) g))).flatten

/-- The codes of the first `n` elements of packed bytes: eight bytes' worth of elements at a time. -/
def unpackElems (c n : Nat) (bs : List Byte) : List Nat := (List.range n).map (elemAt c bs)

/-- The factor 2^(E − 127) of a scale byte, as an exponent (R132). -/
def scaleExp (e : Nat) : Int := (e : Int) - 127

/-- Exponent k of R133: the smallest integer with a ≤ MAXF × 2^k, for a = m × 2^e > 0, evaluated exactly. -/
def scaleK (c m : Nat) (e : Int) : Int :=
  match decodeElem c (maxCode c) with
  | .fin _ mm me =>
    -- a ≤ mm·2^(me+k): compare leading positions, then significands
    let k0 := (e + Nat.log2 m) - (me + Nat.log2 mm)
    let lm := Nat.log2 m
    let lmm := Nat.log2 mm
    if m <<< lmm ≤ mm <<< lm then k0 else k0 + 1
  | _ => 0

/-- The scale byte computed for a row's finite magnitudes (R133, R134). -/
def computeScale (c : Nat) (adj : Int) (vals : List FVal) : Nat :=
  let big := vals.foldl (fun a v => if v.isFin && a.lt v.abs then v.abs else a) (.fin false 0 0)
  let e : Int := match big with
    | .fin _ m e => if m = 0 then 127 + adj else 127 + scaleK c m e + adj
    | _ => 127 + adj
  if e < 0 then 0 else if e > 0xFE then 0xFE else e.toNat

end Sys2Proof.Machine
end

