-- ==== Sys2Proof/Machine/Operands.lean ====
section
/-! DEFINITION. The words of a tile command (R99 to R104): fields of W0, operand words, shape words, and the checks that
R102, R103 and R117 make of them. -/

namespace Sys2Proof.Machine

open Sys2Proof

/-! ## Fields of W0 (R99) -/

/-- OPCODE. -/
def Cmd.opcode (c : Cmd) : Nat := fld c.w0 0 8
/-- CVER. -/
def Cmd.cver (c : Cmd) : Nat := fld c.w0 8 4
/-- FMT_A. -/
def Cmd.fmtA (c : Cmd) : Nat := fld c.w0 12 4
/-- FMT_B. -/
def Cmd.fmtB (c : Cmd) : Nat := fld c.w0 16 4
/-- FMT_D. -/
def Cmd.fmtD (c : Cmd) : Nat := fld c.w0 20 4
/-- RND. -/
def Cmd.rnd (c : Cmd) : Nat := fld c.w0 24 2
/-- FORM: true is the shallow form. -/
def Cmd.shallow (c : Cmd) : Bool := bitAt c.w0.toNat 26
/-- ACC: true is ADD. -/
def Cmd.acc (c : Cmd) : Bool := bitAt c.w0.toNat 27
/-- Bit `i` of FLAGS. -/
def Cmd.flag (c : Cmd) (i : Nat) : Bool := bitAt c.w0.toNat (28 + i)
/-- FLAGS. -/
def Cmd.flags (c : Cmd) : Nat := fld c.w0 28 4
/-- WAIT_CTR. -/
def Cmd.waitCtr (c : Cmd) : Nat := fld c.w0 32 6
/-- WAIT_EN. -/
def Cmd.waitEn (c : Cmd) : Bool := bitAt c.w0.toNat 38
/-- SIG_CTR. -/
def Cmd.sigCtr (c : Cmd) : Nat := fld c.w0 40 6
/-- SIG_EN. -/
def Cmd.sigEn (c : Cmd) : Bool := bitAt c.w0.toNat 46
/-- WAIT_VAL. -/
def Cmd.waitVal (c : Cmd) : Nat := fld c.w0 48 16

/-- The command that 32 bytes spell (R99). -/
def cmdOfBytes (bs : List Byte) : Cmd :=
  { w0 := BitVec.ofNat 64 (leNat (slice bs 0 8)), w1 := BitVec.ofNat 64 (leNat (slice bs 8 8)),
    w2 := BitVec.ofNat 64 (leNat (slice bs 16 8)), w3 := BitVec.ofNat 64 (leNat (slice bs 24 8)) }

/-- The command in eight staging words (R87). -/
def cmdOfStaging (m : List (Nat × W32)) : Cmd :=
  let w (i : Nat) : W64 := BitVec.ofNat 64 ((mget 0 m (2 * i)).toNat + (mget 0 m (2 * i + 1)).toNat * 2 ^ 32)
  { w0 := w 0, w1 := w 1, w2 := w 2, w3 := w 3 }

/-! ## Operand words (R100) and shape words (R101) -/

/-- An operand word. -/
structure Operand where
  addr : Nat
  space : Nat
  hint : Nat
  last : Bool
  xtra : Nat
deriving DecidableEq, Repr

/-- Reads an operand word. -/
def operand (w : W64) : Operand :=
  { addr := fld w 0 48, space := fld w 48 2, hint := (if fld w 50 2 = 3 then 0 else fld w 50 2), last := bitAt w.toNat 52,
    xtra := fld w 53 11 }

/-- Cell-store offset of an operand in SPACE 0 or 3. -/
def Operand.off (o : Operand) : Nat := o.addr % 2 ^ 22

/-- Deep row number of an operand in SPACE 1. -/
def Operand.accRow (o : Operand) : Nat := o.addr % 1024

/-- Logical cell of an operand in SPACE 3. -/
def Operand.cell (o : Operand) : Nat := bitsOf o.addr 22 7

/-- A shape word. -/
structure Shape where
  rows : Nat
  elems : Nat
  srcPitch : Nat
  dstPitch : Nat
deriving DecidableEq, Repr

/-- Reads a shape word. -/
def shape (w : W64) : Shape := { rows := fld w 0 11, elems := fld w 16 16, srcPitch := fld w 32 16, dstPitch := fld w 48 16 }

/-- Distance between rows: the pitch in 16-byte units, or packed (R101). -/
def rowStep (pitch rb : Nat) : Nat := if pitch = 0 then rb else pitch * 16

/-- Bytes from the first byte of the first row to the last byte of the last row. -/
def rowsExtent (rows step rb : Nat) : Nat := (rows - 1) * step + rb

/-- Bytes of a core's data memory (R43, R118). -/
def storeSize (k : Nat) : Nat := if isCell k then 2 ^ 22 else if isEngine k then 16384 else 65536

/-- Whether a format code is reserved (R127). -/
def fmtReserved (f : Nat) : Bool := decide (9 < f)

/-- Rows or elements outside their range (R101, R117). -/
def shapeBad (sh : Shape) : Bool := sh.rows = 0 || decide (1024 < sh.rows) || sh.elems = 0

/-- A cell-store operand of rows that R102 or R117 refuses. -/
def storeBad (k off rows step rb : Nat) : Bool :=
  decide (off % 16 ≠ 0) || decide (step < rb) || decide (storeSize k < off + rowsExtent rows step rb)

/-- An accumulator operand that R102 refuses, formats apart: row width, and rows past the buffer. -/
def accBad (row rows elems : Nat) : Bool :=
  (decide (elems ≠ 128) && decide (elems ≠ 512)) || decide (1024 < row + rows * (elems / 128))

/-- The status of an accumulator operand's format (R102). -/
def accFmt (f : Nat) : Nat := chk (decide (f ≠ 0) && decide (f ≠ 8)) St.formatInvalid

/-- Cell-store offset of a slot (R103). -/
def slotOff (slot : Nat) : Nat := slot * 4096

/-- A slot number above 0x3FF (R103). -/
def slotBad (slot : Nat) : Bool := decide (0x3FF < slot)

/-- Deep rows of the accumulator that rows of `elems` words starting at deep row `row` occupy: first and count. -/
def accSpan (row rows elems : Nat) : Nat × Nat := (row, rows * (elems / 128))

end Sys2Proof.Machine
end

