-- ==== Sys2Proof/Machine/Cell.lean ====
section
/-! DEFINITION. Cells, stream engines and collective sequencers (chapter 3): their stores with SEC-DED (R47), health counts,
streams, issue (R90 to R95), completion (R96, R97, R114) and counters. -/

namespace Sys2Proof.Machine

open Sys2Proof

/-! ## Events of a core -/

/-- Source kind of a core: 2 cell, 6 stream engine, 7 collective sequencer (R493). -/
def coreKind (k : Nat) : Nat := if isCell k then 2 else if isEngine k then 6 else 7

/-- Number of a core among its kind. -/
def coreIndex (k : Nat) : Nat := if isCell k then k else if isEngine k then k - 128 else k - 160

/-- A core's event (R77, R126). -/
def State.coreEvent (s : State) (k low strm status addr : Nat) : State :=
  s.raise { ev (0x0800 + low) 1 (coreIndex k) (coreKind k) with
    ward := (s.wardOfCore k).getD 0xFF, source2 := strm, status := status, addr := addr }

/-! ## The store of a core (R43 to R47) -/

/-- Key of a byte of a core's data memory. -/
def csKey (k off : Nat) : Nat := k * 2 ^ 22 + off

/-- Bytes of a core's data memory. -/
def State.csBytes (s : State) (k off n : Nat) : List Byte := bytesAt s.mem.cstore (csKey k off) n

/-- Whether a 64-byte line of a core's store is poisoned. -/
def State.csLineBad (s : State) (k line : Nat) : Bool := nmem s.mem.cpoison (k * 65536 + line)

/-- Whether a byte range touches a poisoned line. -/
def State.csBad (s : State) (k off n : Nat) : Bool := (linesOf off n).any (s.csLineBad k)

/-- Poisons a line: its contents are lost (R47, R548). -/
def State.csPoison (s : State) (k line : Nat) : State :=
  { s with mem := { s.mem with
      cstore := zeroBytes s.mem.cstore (csKey k (line * 64)) 64
      cpoison := nput s.mem.cpoison (k * 65536 + line) true } }

/-- Writes bytes; a line that the write covers whole is no longer poisoned (R47). Rows that a command writes one by one count as so many
writes, packed rows written at once as one (log entry 84). -/
def State.csWrite (s : State) (k off : Nat) (bs : List Byte) : State :=
  { s with mem := { s.mem with
      cstore := putBytes s.mem.cstore (csKey k off) bs
      cpoison := (linesOf off bs.length).foldl (fun p line =>
        if off ≤ line * 64 ∧ line * 64 + 64 ≤ off + bs.length then nput p (k * 65536 + line) false else p) s.mem.cpoison } }

/-- Writes rows at a step; packed rows are one write. -/
def State.csWriteRows (s : State) (k off step : Nat) (rows : List (List Byte)) : State :=
  if rows.all (fun r => r.length = step) then s.csWrite k off rows.flatten
  else (List.range rows.length).foldl (fun s i => s.csWrite k (off + i * step) (rows.getD i [])) s

/-- Key of the physical cell on which a logical cell runs (R31, R77). -/
def State.physKey (s : State) (k : Nat) : Nat := (k / 64) * 72 + (k / 8 % 8) * 9 + s.physCol (k / 64) (k / 8 % 8) (k % 8)

/-- Counts a parity or CSTORE_UE event for the physical cell (R77): the times of the last 17. -/
def State.parityNote (s : State) (k : Nat) : State :=
  { s with clk := { s.clk with parity := mmod [] s.clk.parity (s.physKey k) (fun l => (s.now :: l).take 17) } }

/-- One SEC-DED error that a read meets in a 64-bit word of a cell store (R47): corrected, or the line is poisoned. Every double error is
counted (R81); CSTORE_UE is raised, and counted for the physical cell, by the one that poisons a line (R77). -/
def State.csError (s : State) (k word : Nat) (double : Bool) : State :=
  if double then
    let t := s.bump (R.CELL_STORE_ECC k) F.CELL_STORE_ECC_UNCORRECTED 1
    if s.csLineBad k (word / 8) then t
    else ((t.csPoison k (word / 8)).parityNote k).coreEvent k 0x24 0 0 (word * 8)
  else (s.bump (R.CELL_STORE_ECC k) F.CELL_STORE_ECC_CORRECTED 1).coreEvent k 0x23 0 0 (word * 8)

/-- The errors that a command's reads meet: those whose word lies in a range it reads (offset, bytes). -/
def State.csScan (s : State) (k : Nat) (ranges : List (Nat × Nat)) (errs : List (Nat × Bool)) : State :=
  if isCell k then
    errs.foldl (fun s e =>
      if ranges.any (fun r => decide (e.1 * 8 < r.1 + r.2 ∧ r.1 < e.1 * 8 + 8)) then s.csError k e.1 e.2 else s) s
  else s

/-- The ranges of rows. -/
def rowRanges (off rows step rb : Nat) : List (Nat × Nat) := (List.range rows).map (fun i => (off + i * step, rb))

/-! ## The accumulator buffer (R60) -/

/-- An accumulator word. -/
def State.accWord (s : State) (k w : Nat) : W32 := mget 0 s.mem.acc (k * 131072 + w)

/-- Writes accumulator words from word `w`. -/
def State.accPut (s : State) (k w : Nat) : List W32 → State
  | [] => s
  | v :: vs => ({ s with mem := { s.mem with acc := mset 0 s.mem.acc (k * 131072 + w) v } }).accPut k (w + 1) vs

/-! ## Health counts (R149 to R156) -/

/-- Adds `n` elements of a category to a ward's totals (R153, R156). -/
def State.countWard (s : State) (w f c n : Nat) : State := s.bump (R.MGMT_FH_W w f c) F.MGMT_FH_W_COUNT n

/-- Adds `n` elements of a category of a format to a core's page and to the totals of ward `w` (R152, R153). -/
def State.count (s : State) (k w f c n : Nat) : State :=
  if n = 0 then s
  else
    let s := if isCell k then s.addF (R.HALF_FH (k / 64) (k % 64) f c) F.HALF_FH_COUNT n else s
    if w < 8 then s.countWard w f c n else s

/-- Counts a list of categories (R149). -/
def State.countAll (s : State) (k w f : Nat) (cats : List Nat) : State :=
  (List.range 4).foldl (fun s c => s.count k w f c (cats.count c)) s

/-- Restarts a cell's page of health counters (R152). -/
def State.zeroFh (s : State) (k : Nat) : State :=
  if isCell k then
    (List.range 40).foldl (fun s i => s.setReg (R.HALF_FH (k / 64) (k % 64) (i / 4) (i % 4)) 0) s
  else s

/-! ## Streams and units -/

/-- Stream `n` of a core: 0 foreground, 1 fill. -/
def Core.stream (c : Core) (n : Nat) : Stream := if n = 0 then c.strm0 else c.strm1

/-- Replaces a stream. -/
def Core.setStream (c : Core) (n : Nat) (x : Stream) : Core := if n = 0 then { c with strm0 := x } else { c with strm1 := x }

/-- The unit that executes an opcode (R104): 0 ARRAY, 1 VPORT, 2 CVT, 3 SFU, 4 VEC, 5 MESH, 6 issue, 7 the collective
steps. -/
def cmdUnit (op : Nat) : Nat :=
  match op with
  | 0x01 | 0x02 => 0
  | 0x10 | 0x11 | 0x12 => 1
  | 0x18 | 0x19 => 2
  | 0x20 => 3
  | 0x28 | 0x30 | 0x38 | 0x40 => 4
  | 0x60 | 0x61 => 5
  | 0x50 | 0x51 | 0x52 => 6
  | _ => 7

/-- The opcodes a core accepts (R104, R118). Codes 0x6C to 0x6F are reserved. -/
def accepts (k op : Nat) : Bool :=
  if isCell k then op ∈ [0x01, 0x02, 0x10, 0x11, 0x18, 0x19, 0x20, 0x28, 0x30, 0x38, 0x40, 0x50, 0x51, 0x52, 0x60, 0x61]
  else if isEngine k then op ∈ [0x10, 0x11, 0x12, 0x50, 0x51, 0x52, 0x60, 0x61]
  else op ∈ [0x50, 0x51, 0x52, 0x60, 0x61, 0x68, 0x69, 0x6A, 0x6B]

/-- Entries of a stream's queue (R90, R118). -/
def queueDepth (k : Nat) : Nat := if isEngine k then 32 else 64

/-- Retired count of a stream (R89), unbounded; software sees it modulo 2^32. -/
def Core.retired (c : Core) (n : Nat) : Nat :=
  let st := c.stream n
  let open_ := (c.issued.filter (fun e => e.strm = n)).map (·.seq) ++ st.queue.map (·.seq)
  open_.foldl min st.nextSeq

/-- A stream is idle: its queue is empty and none of its commands executes (R125). One that waits in its unit's queue, or whose latency
still runs, counts as executing here (log entry 31). -/
def Core.streamIdle (c : Core) (n : Nat) : Bool := (c.stream n).queue.isEmpty && !(c.issued.any (fun e => e.strm = n))

/-- Both streams idle and the core halted: the elapsed counter stops (R121). -/
def Core.settle (c : Core) (now : Nat) : Core :=
  if c.elapsedRun && c.halted && c.streamIdle 0 && c.streamIdle 1 then
    { c with elapsedRun := false, elapsed := now - c.elapsedStart }
  else c

/-- CELL_PROG_ELAPSED (R121). -/
def Core.elapsedNow (c : Core) (now : Nat) : Nat := if c.elapsedRun then now - c.elapsedStart else c.elapsed

/-- Whether a command still occupies its unit. -/
def Phase.open (p : Phase) : Bool :=
  match p with
  | .done _ => false
  | .flying => false
  | _ => true

/-- Whether a unit executes a command: one that it has taken and not yet executed to its last cycle (R116, R121; log entry 17). 6 stands for
any unit, which is what TIER_ENG_BUSY counts for a stream engine (R216). -/
def Core.unitBusy (c : Core) (u : Nat) : Bool :=
  c.issued.any (fun e => (u = 6 || e.unit = u) && e.phase ≠ .queued && e.phase.open)

/-- Whether the array has a pass or a weight load in flight or waiting, in the array or in its unit's queue (R67). -/
def Core.arrayWork (c : Core) : Bool := c.issued.any (fun e => e.unit = 0 && e.phase.open)

/-- Activity level A (R67): four columns a cycle toward 128 or 0; held while a grant is awaited (R401). -/
def Core.level (c : Core) (now : Nat) : Nat :=
  let d := 4 * (now - c.actSince)
  if c.arrayWork then (if c.wantGrant then c.actBase else min 128 (c.actBase + d)) else c.actBase - d

/-- Cycles for which a unit has executed (R121). -/
def Core.busyNow (c : Core) (now u : Nat) : Nat :=
  mget 0 c.busy u + (let b := mget 0 c.busySince u; if b = 0 then 0 else now + 1 - b)

/-- Replaces the issued commands, keeping the busy counters (R121) and the activity level (R67). `slope` is PWR_DROOP_CTRL.MODE:
a rise then needs a start grant (R401). -/
def Core.withIssued (c : Core) (now : Nat) (slope : Bool) (l : List Issued) : Core :=
  let c' := { c with issued := l }
  let c' :=
    if c.arrayWork = c'.arrayWork then c'
    else { c' with actBase := c.level now, actSince := now, wantGrant := c'.arrayWork && slope && decide (c.level now < 128) }
  (List.range 7).foldl (fun (x : Core) u =>
    if c.unitBusy u = x.unitBusy u then x
    else if x.unitBusy u then { x with busySince := mset 0 x.busySince u (now + 1) }
    else { x with busy := mset 0 x.busy u (c.busyNow now u), busySince := mset 0 x.busySince u 0 }) c'

/-- Whether array starts need grants (R401). -/
def State.slope (s : State) : Bool := decide (s.rf R.PWR_DROOP_CTRL F.PWR_DROOP_CTRL_MODE = 1)

/-- Replaces a core's issued commands. -/
def State.setIssued (s : State) (k : Nat) (l : List Issued) : State :=
  s.modCore k (fun c => c.withIssued (s.ck k) s.slope l)

/-- Changes the phase of the issued command `ord`. -/
def State.setPhase (s : State) (k ord : Nat) (p : Phase) : State :=
  s.setIssued k ((s.core k).issued.map (fun e => if e.ord = ord then { e with phase := p } else e))

/-- Whether a status stops a stream (R96, R97). -/
def badStatus (st : Nat) : Bool := st ≠ St.ok && st ≠ St.unset

/-- What CELL_STREAM_FAULT_x records of the first failing command (R96, R125). -/
def faultWord (e : Issued) (st : Nat) : W64 :=
  setFld (setFld (setFld 0 0 32 e.seq) 32 8 e.cmd.opcode) 40 8 st

/-- A command's SIG (R99, R113). -/
def State.sig (s : State) (k : Nat) (c : Cmd) : State := if c.sigEn then s.addCtr k c.sigCtr 1 else s

/-- A flushing stream whose last issued command is gone returns to RUN with zeroed numbers (R96). -/
def Core.flushDone (c : Core) (n : Nat) : Core :=
  if (c.stream n).state = .flushing && !(c.issued.any (fun e => e.strm = n)) then
    c.setStream n { c.stream n with state := .run, fault := 0, nextSeq := 0 }
  else c

/-- The issued command `ord` of core `k` completes with a status (R96, R97, R114). -/
def State.complete (s : State) (k ord st : Nat) : State :=
  match (s.core k).issued.find? (fun e => e.ord = ord) with
  | none => s
  | some e =>
    let s := s.setIssued k ((s.core k).issued.filter (fun e => e.ord ≠ ord))
    let s := if st = St.unset then s.modCore k (fun c => { c with unset := satAdd 32 c.unset 1 }) else s
    let x := (s.core k).stream e.strm
    let s :=
      if !badStatus st then s.sig k e.cmd
      else match x.state with
        | .run =>
          (s.modCore k (fun c => c.setStream e.strm { x with state := .stopped, fault := faultWord e st })).coreEvent k 0x02
            e.strm st 0
        | .stopped =>
          s.modCore k (fun c => c.setStream e.strm { x with fault := setFld x.fault 48 16 (satAdd 16 (fld x.fault 48 16) 1) })
        | .flushing => s
    s.modCore k (fun c => (c.flushDone e.strm).settle (s.ck k))

/-! ## Issue (R91 to R95) -/

/-- Whether the W0 wait of a command is met (R91, R112). -/
def State.waitMet (s : State) (k : Nat) (c : Cmd) : Bool := !c.waitEn || reached (s.ctr k c.waitCtr) c.waitVal

/-- Whether a wait pair is met: [5:0] counter, [6] enable, [31:16] target (R104). -/
def State.pairMet (s : State) (k p : Nat) : Bool := !bitAt p 6 || reached (s.ctr k (p % 64)) (bitsOf p 16 16)

/-- Whether the condition of a SYNC (R111) or WAIT (R104) command holds; other commands have none. -/
def State.condMet (s : State) (k strm : Nat) (c : Cmd) : Bool :=
  if c.opcode = 0x50 then
    !((s.core k).issued.any (fun e => c.flag 0 || e.strm = strm))
  else if c.opcode = 0x51 then
    s.pairMet k (fld c.w1 0 32) && s.pairMet k (fld c.w1 32 32) && s.pairMet k (fld c.w2 0 32)
  else true

/-- Commands in a unit's queue (R90): issued to it and not yet executed to the end. -/
def Core.inUnit (c : Core) (u : Nat) : List Issued :=
  c.issued.filter (fun e => e.unit = u && e.phase.open)

/-- Deep rows of the accumulator that a command reads through the vector unit: first and count (R61). -/
def Cmd.accReads (c : Cmd) : Nat × Nat :=
  let o := operand c.w1
  let sh := shape c.w3
  if (c.opcode ∈ [0x18, 0x20, 0x28, 0x30]) && o.space = 1 then
    accSpan o.accRow (if c.opcode = 0x20 && c.flag 0 then 2 * sh.rows else sh.rows) sh.elems
  else (0, 0)

/-- Deep rows that a pass writes (R60). -/
def Cmd.accWrites (c : Cmd) : Nat × Nat :=
  if c.opcode = 0x01 || c.opcode = 0x02 then
    ((operand c.w2).xtra % 1024, fld c.w3 0 11 * (if c.shallow then 4 else 1))
  else (0, 0)

/-- Whether two row ranges meet. -/
def spansMeet (a b : Nat × Nat) : Bool := decide (a.1 < b.1 + b.2 ∧ b.1 < a.1 + a.2)

/-- Whether the accumulator interlock (R61) holds command `e`: an earlier issued command writes rows it reads, or reads rows it
writes. -/
def Core.interlocked (c : Core) (e : Issued) : Bool :=
  c.issued.any (fun f => decide (f.ord < e.ord) &&
    f.phase.open &&
    (spansMeet f.cmd.accWrites e.cmd.accReads || spansMeet f.cmd.accReads e.cmd.accWrites))

/-- Whether a unit's oldest command is held on data or on a peer (R92); a pass that waits only for a start grant (R401) is not. -/
def Core.unitHeld (c : Core) (u : Nat) : Bool :=
  match c.inUnit u with
  | [] => false
  | e :: _ =>
    match e.phase with
    | .held => true
    | .queued => c.interlocked e
    | .pass p => (p.stage = 1 && !c.wantGrant) || (p.stage = 2 && c.interlocked e)
    | _ => false

/-- Whether the head of a stream meets its wait and its unit has room (R91), fill rules apart. -/
def State.headReady (s : State) (k strm : Nat) : Bool :=
  let c := s.core k
  match (c.stream strm).queue with
  | [] => false
  | q :: _ =>
    (c.stream strm).state = .run && s.waitMet k q.cmd && s.condMet k strm q.cmd &&
      decide ((c.inUnit (cmdUnit q.cmd.opcode)).length < 8)

/-- Whether a stream head may issue now (R91 to R95): only while the main clocks run (R30, R444). -/
def State.canIssue (s : State) (k strm : Nat) : Bool :=
  let c := s.core k
  if !s.clk.on then false
  else if strm = 0 then s.headReady k 0
  else
    s.headReady k 1 && c.fillEnable && !s.headReady k 0 &&
      (match c.strm0.queue with
        | [] => true
        | q :: _ =>
          c.strm0.state = .stopped || !s.waitMet k q.cmd || !s.condMet k 0 q.cmd ||
            (decide (8 ≤ (c.inUnit (cmdUnit q.cmd.opcode)).length) && c.unitHeld (cmdUnit q.cmd.opcode))) &&
      (match c.strm1.queue with
        | [] => false
        | q :: _ => !(c.issued.any (fun e => e.strm = 1 && e.unit = cmdUnit q.cmd.opcode)))

/-- A command as issued, with what is sampled at issue: the ward (R153), the conversion seed and SCALE_ADJ (R140, R317), HALF_SFN_FTZ
(R169), and whether the user table it names is valid (R171, R172). -/
def State.issueOf (s : State) (k strm : Nat) (q : QCmd) : Issued :=
  let h := k / 64
  let i := k % 64
  let t := (operand q.cmd.w1).xtra % 16
  { cmd := q.cmd, seq := q.seq, strm := strm, ord := (s.core k).nextOrd, unit := cmdUnit q.cmd.opcode,
    ward := (s.wardOfCore k).getD 0xFF,
    seed := if isCell k then (s.reg (R.HALF_CVT_SEED h i)).toNat else if isColl k then (s.reg (R.XPORT_CVT_SEED (k - 160))).toNat else 0,
    adj := if isCell k then sext 4 (s.rf (R.HALF_CVT_CTRL h i) F.HALF_CVT_CTRL_SCALE_ADJ)
      else if isColl k then sext 4 (s.rf (R.XPORT_CVT_CTRL (k - 160)) F.XPORT_CVT_CTRL_SCALE_ADJ) else 0,
    ftz := if isCell k then s.reg (R.HALF_SFN_FTZ h i) else 0,
    tableOk := t < 12 || (isCell k && s.rf (R.HALF_SFN_TDESC h i (t - 12)) F.HALF_SFN_TDESC_VALID = 1 &&
      !s.mgt.sfnClear.any (fun w => w.cell = k && w.tbl + 12 = t)),
    phase := .queued }

/-- COMMAND_ISSUE (R91): the head of a stream issues into its unit's queue. -/
def execCommandIssue (core strm : Nat) (s : State) : Host.Outcome State Fault Refusal :=
  .next (
    if s.canIssue core strm then
      match ((s.core core).stream strm).queue with
      | [] => s
      | q :: rest =>
        let e := s.issueOf core strm q
        let s := s.modCore core (fun c => { c.setStream strm { c.stream strm with queue := rest } with nextOrd := c.nextOrd + 1 })
        s.setIssued core ((s.core core).issued ++ [e])
    else s)

/-- COMMAND_COMPLETE (R114): the oldest executed command of a unit completes; nothing completes while the clocks stand (R30, R407). -/
def execCommandComplete (core unit : Nat) (s : State) : Host.Outcome State Fault Refusal :=
  .next (if !s.clk.on then s else
    match (s.core core).issued.find? (fun e => e.unit = unit && (match e.phase with | .done _ => true | _ => false)) with
    | some e =>
      match e.phase with
      | .done st => s.complete core e.ord st
      | _ => s
    | none => s)

/-- Whether a pass has started: its weights are in the front registers. -/
def Phase.started (p : Phase) : Bool :=
  match p with
  | .pass p => p.stage = 3
  | _ => false

/-- The command that a unit executes next, when it has this opcode: its oldest that is not yet executed to the end, while the clocks run
(R30). In the array, passes that have started do not hold back the next: its weights load into the back registers while they run
(R50), but a pass that loads or is loaded and not swapped in does (R51). -/
def State.front (s : State) (k op : Nat) : Option Issued :=
  if s.clk.on then
    match ((s.core k).inUnit (cmdUnit op)).dropWhile (fun e => e.phase.started) with
    | [] => none
    | e :: _ => if e.cmd.opcode = op && e.phase = .queued then some e else none
  else none

/-- Executes the front command of an opcode: `f` gives the state and the status it ends with. -/
def State.runFront (s : State) (k op : Nat) (f : Issued → State × Nat) : State :=
  match s.front k op with
  | some e => let r := f e; r.1.setPhase k e.ord (.done r.2)
  | none => s

/-- As `runFront`, for a command that the accumulator interlock may hold (R61). -/
def State.runVec (s : State) (k op : Nat) (f : Issued → State × Nat) : State :=
  match s.front k op with
  | some e => if (s.core k).interlocked e then s else let r := f e; r.1.setPhase k e.ord (.done r.2)
  | none => s

/-- SYNC (R111). -/
def execSync (core : Nat) (s : State) : Host.Outcome State Fault Refusal :=
  .next (s.runFront core 0x50 (fun _ => (s, St.ok)))

/-- WAIT (R104): its conditions were met when it issued. -/
def execWait (core : Nat) (s : State) : Host.Outcome State Fault Refusal :=
  .next (s.runFront core 0x51 (fun _ => (s, St.ok)))

/-! ## Stream control (R95, R96) -/

/-- Resumes a STOPPED stream (R96). -/
def State.resume (s : State) (k n : Nat) : State :=
  s.modCore k (fun c =>
    if (c.stream n).state = .stopped then c.setStream n { c.stream n with state := .run, fault := 0 } else c)

/-- Flushes a stream in RUN or STOPPED (R96); with nothing issued it is back in RUN at once. -/
def State.flush (s : State) (k n : Nat) : State :=
  s.modCore k (fun c =>
    if (c.stream n).state = .flushing then c
    else ((c.setStream n { c.stream n with queue := [], state := .flushing }).flushDone n).settle (s.ck k))

/-- FG_RESUME (R96). -/
def ctlFgResume (who : Requester) (core : Nat) (s : State) : Host.Outcome State Fault Refusal :=
  .next (s.ctlDo who (R.CELL_STREAM_CTRL core) (chk (!isCell core) St.bounds) (fun s => s.resume core 0))

/-- FG_FLUSH (R96). -/
def ctlFgFlush (who : Requester) (core : Nat) (s : State) : Host.Outcome State Fault Refusal :=
  .next (s.ctlDo who (R.CELL_STREAM_CTRL core) (chk (!isCell core) St.bounds) (fun s => s.flush core 0))

/-- FILL_RESUME (R96). -/
def ctlFillResume (who : Requester) (core : Nat) (s : State) : Host.Outcome State Fault Refusal :=
  .next (s.ctlDo who (R.CELL_STREAM_CTRL core) (chk (!isCell core) St.bounds) (fun s => s.resume core 1))

/-- FILL_FLUSH (R96). -/
def ctlFillFlush (who : Requester) (core : Nat) (s : State) : Host.Outcome State Fault Refusal :=
  .next (s.ctlDo who (R.CELL_STREAM_CTRL core) (chk (!isCell core) St.bounds) (fun s => s.flush core 1))

/-- FILL_ENABLE (R95). -/
def ctlFillEnableWrite (who : Requester) (core : Nat) (en : Bool) (s : State) : Host.Outcome State Fault Refusal :=
  .next (s.ctlDo who (R.CELL_STREAM_CTRL core) (chk (!isCell core) St.bounds)
    (fun s => s.modCore core (fun c => { c with fillEnable := en })))

/-- Control-space offset of counter `n` of a core (R118, R122). -/
def ctrAddr (k n : Nat) : Nat :=
  if isCell k then R.CELL_SYNC_CTR k n
  else if isEngine k then (0x11 + 0x40 * ((k - 128) / 16)) * 0x1000000 + 0x80_0000 + (k - 128) % 16 * 0x1_0000 + 0xC000 + 8 * n
  else 0x18 * 0x1000000 + 0x80_0000 + (k - 160) * 0x4_0000 + 0x3_0000 + 8 * n

/-- SYNC_CTR_WRITE (R113): a control-space write of a counter. -/
def ctlSyncCtrWrite (who : Requester) (core ctr val : Nat) (s : State) : Host.Outcome State Fault Refusal :=
  .next (s.ctlDo who (ctrAddr core ctr) St.ok (fun s => s.setCtr core ctr val))

/-! ## SIGNAL, SEND to a cell and the mesh (R41, R114, R115, R117) -/

/-- Status of a SIGNAL's or SEND's target core for a sender (R41, R115, R117). -/
def State.targetChk (s : State) (k target : Nat) : Nat :=
  worst (chk (isCell target && s.absent target) St.bounds)
    (chk (!(isCell target && s.absent target) && (s.wardOfCore target ≠ s.wardOfCore k || s.wardOfCore k = none)) St.wardFault)

/-- The core that TKIND and TARGET name (R115). -/
def targetCore (kind target : Nat) : Nat :=
  if kind = 0 then target else if kind = 1 then 128 + target % 32 else 160 + target % 8

/-- Adds to a counter of a target, or of every present cell of ward `w` (R115, R414). -/
def State.signalTo (s : State) (w kind target ctr amount : Nat) (allWard : Bool) : State :=
  if allWard && kind = 0 then
    (List.range 128).foldl (fun s c => if s.wardOfCore c = some w then s.addCtr c ctr amount else s) s
  else s.addCtr (targetCore kind target) ctr amount

/-- The status that a SIGNAL's checks give (R115). -/
def State.signalChk (s : State) (core : Nat) (w : W64) : Nat :=
  let kind := fld w 39 2
  if kind = 3 then St.bounds
  else if bitAt w.toNat 41 && kind = 0 then chk (s.wardOfCore core = none) St.wardFault
  else s.targetChk core (targetCore kind (fld w 32 7))

/-- SIGNAL (R115). One that its checks end does so at once (R116); a fenced signal otherwise waits for the earlier commands of its
stream. -/
def execSignal (core : Nat) (s : State) : Host.Outcome State Fault Refusal :=
  .next (
    match s.front core 0x52 with
    | none => s
    | some e =>
      let w := e.cmd.w1
      let st := s.signalChk core w
      if st ≠ St.ok then s.setPhase core e.ord (.done st)
      else if bitAt w.toNat 42 && (s.core core).issued.any (fun f => f.strm = e.strm && decide (f.ord < e.ord)) then s
      else
        (s.signalTo ((s.wardOfCore core).getD 0xFF) (fld w 39 2) (fld w 32 7) (fld w 16 6) (fld w 0 16) (bitAt w.toNat 41)).setPhase core
          e.ord (.done St.ok))

/-- Whether a cell takes mesh packets: present, and not stopped by R40 (which makes it absent). -/
def State.takesMesh (s : State) (k : Nat) : Bool := !s.absent k

/-- MESH_PACKET_ARRIVE (R41, R114): the packet is written at its destination and its counter incremented after the data, or it
is discarded and the sender's command ends ABORTED. -/
def execMeshPacketArrive (idx : Nat) (s : State) : Host.Outcome State Fault Refusal :=
  .next (if !s.clk.on then s else
    match s.mesh[idx]? with
    | none => s
    | some p =>
      let s := { s with mesh := s.mesh.eraseIdx idx }
      if s.takesMesh p.dst then
        let s := s.csWrite p.dst p.off p.data
        let s := p.bad.foldl (fun s r => (linesOf (p.off + r.1) r.2).foldl (fun s l => s.csPoison p.dst l) s) s
        let s := match p.ctr with
          | some c => s.addCtr p.dst c 1
          | none => s
        s.setPhase p.src p.ord (.done p.status)
      else s.setPhase p.src p.ord (.done St.aborted))

end Sys2Proof.Machine
end

