-- ==== Sys2Proof/Machine/Flags.lean ====
section
/-! DEFINITION. The status flags that an operation sets from the values it writes: INT_WRAP, FP_NAN and FP_INF of
CELL_ARRAY_STATUS (R58, R59). -/

namespace Sys2Proof.Machine

open Sys2Proof

/-- What a pass's writes set: a wrapped addition, a NaN written, an infinity written. -/
structure PassFlags where
  wrap : Bool := false
  nan : Bool := false
  inf : Bool := false
deriving DecidableEq, Repr

/-- Flags of one floating-point word written (R58). -/
def PassFlags.word (f : PassFlags) (w : Nat) : PassFlags := { f with nan := f.nan || isNaN32 w, inf := f.inf || isInf32 w }

/-- Whether the two's complement sum of two 32-bit words wraps (R59). -/
def sumWraps (a b : Nat) : Bool :=
  let r := sext 32 a + sext 32 b
  decide (r < -(2 ^ 31)) || decide ((2 ^ 31 : Int) ≤ r)

/-- Sets a W1C status bit of the array. -/
def State.arrayFlag (s : State) (k : Nat) (f : Fld) (b : Bool) : State := if b then s.setF (R.CELL_ARRAY_STATUS k) f 1 else s

/-- Sets the flags of a pass. -/
def State.passFlags (s : State) (k : Nat) (f : PassFlags) : State :=
  ((s.arrayFlag k F.CELL_ARRAY_STATUS_INT_WRAP f.wrap).arrayFlag k F.CELL_ARRAY_STATUS_FP_NAN f.nan).arrayFlag k
    F.CELL_ARRAY_STATUS_FP_INF f.inf

end Sys2Proof.Machine
end

