-- ==== Sys2Proof/Machine/Array.lean ====
section
/-! DEFINITION. The matrix array (chapter 2): MATMUL and CONV passes, weight loading, sums, scales and the accumulator. -/

namespace Sys2Proof.Machine

open Sys2Proof

/-! ## Operand pairs and shapes of a pass (R52, R54) -/

/-- The rate of an operand pair. -/
inductive PairKind where
  | two | one | half | full
deriving DecidableEq, Repr

/-- FP6 and FP4. -/
def isFp64 (f : Nat) : Bool := f = 5 || f = 6 || f = 7

/-- FP8. -/
def isFp8 (f : Nat) : Bool := f = 3 || f = 4

/-- The pairs of R52; none is FORMAT_INVALID (R53). -/
def pairOf (a b : Nat) : Option PairKind :=
  if isFp64 a && isFp64 b then some .two
  else if (isFp8 a || isFp64 a) && (isFp8 b || isFp64 b) then some .one
  else if (a = 1 && b = 1) || (a = 2 && b = 2) then some .half
  else if a = 0 && b = 0 then some .full
  else if a = 9 && b = 9 then some .two
  else if isIntFmt a && isIntFmt b then some .one
  else none

/-- Reduction depth (R54). -/
def pairDepth (p : PairKind) (shallow : Bool) : Nat :=
  match p, shallow with
  | .two, false => 256
  | .two, true => 64
  | _, false => 128
  | _, true => 32

/-- Width (R54). -/
def formWidth (shallow : Bool) : Nat := if shallow then 512 else 128

/-! ## Elements from the store -/

/-- Whether element `j` of packed elements at a byte offset lies on a poisoned line. -/
def State.elemBad (s : State) (k off fmt j : Nat) : Bool :=
  let b := elemBits fmt * j
  s.csBad k (off + b / 8) ((b % 8 + elemBits fmt + 7) / 8)

/-- `n` element codes from a byte offset with their poison; an element of a poisoned line is taken as zero (R546, R148). -/
def State.csElems (s : State) (k off fmt n : Nat) : List (Nat × Bool) :=
  let bs := s.csBytes k off (rowBytes fmt n)
  if s.csBad k off (rowBytes fmt n) then
    (List.range n).map (fun j => if s.elemBad k off fmt j then (0, true) else (elemAt fmt bs j, false))
  else (unpackElems fmt n bs).map (fun c => (c, false))

/-! ## Convolution (R70 to R74) -/

/-- The fields of a convolution descriptor (R70). -/
structure ConvDesc where
  ver : Nat
  layout : Nat
  n : Nat
  h : Nat
  w : Nat
  c : Nat
  kh : Nat
  kw : Nat
  sh : Nat
  sw : Nat
  dh : Nat
  dw : Nat
  pt : Nat
  pb : Nat
  pl : Nat
  pr : Nat
  base : Nat
  pix : Nat
  row : Nat
  img : Nat
deriving DecidableEq, Repr

/-- Reads a convolution descriptor. -/
def convDesc (bs : List Byte) : ConvDesc :=
  let f (word lsb w : Nat) : Nat := bitsOf (leNat (slice bs (8 * word) 8)) lsb w
  { ver := f 0 0 8, layout := f 0 8 4, n := f 0 16 16, h := f 0 32 16, w := f 0 48 16,
    c := f 1 0 16, kh := f 1 16 8, kw := f 1 24 8, sh := f 1 32 8, sw := f 1 40 8, dh := f 1 48 8, dw := f 1 56 8,
    pt := f 2 0 8, pb := f 2 8 8, pl := f 2 16 8, pr := f 2 24 8,
    base := f 3 0 22, pix := f 3 32 16, row := f 4 0 24, img := f 4 24 24 }

/-- Output size along one axis (R71); 0 where it would be less than 1. -/
def convOut (size p0 p1 dil k stride : Nat) : Nat :=
  if size + p0 + p1 < dil * (k - 1) + 1 then 0 else (size + p0 + p1 - dil * (k - 1) - 1) / stride + 1

/-- OH. -/
def ConvDesc.oh (d : ConvDesc) : Nat := convOut d.h d.pt d.pb d.dh d.kh d.sh

/-- OW. -/
def ConvDesc.ow (d : ConvDesc) : Nat := convOut d.w d.pl d.pr d.dw d.kw d.sw

/-- Reduction length K. -/
def ConvDesc.k (d : ConvDesc) : Nat := d.kh * d.kw * d.c

/-- The cases of R74, for activation format `fmt`. -/
def ConvDesc.bad (d : ConvDesc) (fmt mStart mCount kStart depth : Nat) : Bool :=
  decide (d.ver ≠ 1) || decide (d.layout ≠ 0) ||
  [d.n, d.h, d.w, d.c, d.kh, d.kw, d.sh, d.sw, d.dh, d.dw].any (fun x => x = 0) ||
  d.oh = 0 || d.ow = 0 || decide (d.pix * 8 < d.c * elemBits fmt) ||
  decide (d.n * d.oh * d.ow < mStart + mCount) || decide (d.k ≤ kStart) || decide (kStart % depth ≠ 0) ||
  decide (0x400000 < d.base + (d.n - 1) * d.img + (d.h - 1) * d.row + (d.w - 1) * d.pix + rowBytes fmt d.c)

/-- Where element (m, k) of the activation matrix lies: the byte offset of its pixel and its channel, or none for padding
(R72). -/
def ConvDesc.elem (d : ConvDesc) (m k : Nat) : Option (Nat × Nat) :=
  let n := m / (d.oh * d.ow)
  let oh := m / d.ow % d.oh
  let ow := m % d.ow
  let c := k % d.c
  let kw := k / d.c % d.kw
  let kh := k / d.c / d.kw
  let ih : Int := (oh * d.sh + kh * d.dh : Nat) - (d.pt : Int)
  let iw : Int := (ow * d.sw + kw * d.dw : Nat) - (d.pl : Int)
  if 0 ≤ ih ∧ ih < d.h ∧ 0 ≤ iw ∧ iw < d.w then some (d.base + n * d.img + ih.toNat * d.row + iw.toNat * d.pix, c) else none

/-! ## Sums (R48, R55, R57 to R59) -/

/-- One PE's addition (R57). -/
def macStep (acc : Nat) (p : FVal) : Nat := toF32 ((f32 acc).add p)

/-- Sum down a column; at 2 MAC per cycle two products are added exactly first (R57). -/
def dotFp (two : Bool) : List (FVal × FVal) → Nat → Nat
  | [], acc => acc
  | [x], acc => macStep acc (if two then (x.1.mul x.2).add (.fin false 0 0) else x.1.mul x.2)
  | x :: y :: r, acc =>
    if two then dotFp two r (macStep acc ((x.1.mul x.2).add (y.1.mul y.2))) else dotFp two (y :: r) (macStep acc (x.1.mul x.2))

/-- Sum of an integer column, modulo 2^32 (R59). -/
def dotInt (l : List (Int × Int)) : Nat := wrapInt 32 (l.foldl (fun a x => a + x.1 * x.2) 0)

/-- One of the four products of R55: `wl` and `al` choose the low parts; a special operand leaves only hi × hi. -/
def splitPair (wl al : Bool) (w a : FVal) : FVal × FVal :=
  if !w.isFin || !a.isFin then (if wl || al then (.fin false 0 0, .fin false 0 0) else (a, w))
  else (if al then a.sub (hi12 a) else hi12 a, if wl then w.sub (hi12 w) else hi12 w)

/-- A floating-point output element: zeros beyond the reduction rows used add +0.0 (R105). -/
def elemFp (two : Bool) (depth : Nat) (l : List (FVal × FVal)) : Nat :=
  let r := dotFp two l 0
  if l.length < depth then macStep r (.fin false 0 0) else r

/-- Rows of a list of codes. -/
def rowsOf (width : Nat) : Nat → List Nat → List (List Nat)
  | 0, _ => []
  | n + 1, l => l.take width :: rowsOf width n (l.drop width)

/-- Column `j` of rows. -/
def columnOf (rows : List (List Nat)) (j : Nat) : List Nat := rows.map (fun r => r.getD j 0)

/-- The results of one sub-pass: for every activation row and output column (R48, R65). -/
def subPass (fmtA fmtB depth width : Nat) (part : Option (Bool × Bool)) (acts wrows : List (List Nat)) : List Nat :=
  let two := depth = 256 || depth = 64
  let cols := (List.range width).map (columnOf wrows)
  if isIntFmt fmtA then
    (acts.map (fun a => cols.map (fun w =>
      dotInt (List.zip (a.map (sext (elemBits fmtA))) (w.map (sext (elemBits fmtB))))))).flatten
  else
    let av := acts.map (fun a => a.map (decodeElem fmtA))
    let wv := cols.map (fun w => w.map (decodeElem fmtB))
    (av.map (fun a => wv.map (fun w =>
      elemFp two depth (match part with
        | none => List.zip a w
        | some p => List.zipWith (fun x y => splitPair p.1 p.2 y x) a w)))).flatten

/-- What a scale byte does to a result: multiplies it, makes it NaN, or (from a poisoned line) makes it zero (R105, R545). -/
inductive ScaleUse where
  | none | mul (e : Nat) | bad
deriving DecidableEq, Repr

/-- A result after its two scales (R105). -/
def scaleResult (a b : ScaleUse) (w : Nat) : Nat :=
  match a, b with
  | .bad, _ => 0
  | _, .bad => 0
  | .none, .none => w
  | _, _ =>
    let f (x : ScaleUse) : Option Int := match x with
      | .mul e => if e = 0xFF then Option.none else some (scaleExp e)
      | _ => some 0
    match f a, f b with
    | some x, some y => toF32 ((f32 w).scale (x + y))
    | _, _ => 0x7FC00000

/-! ## The row MATMUL / CONV: checks and the start of the weight load -/

/-- A fresh pass whose weights load. -/
def newPass (c : Cmd) (depth rows kUsed : Nat) (desc : List Byte) (poison : Bool) : Pass :=
  { stage := 1, shallow := c.shallow, fmtA := c.fmtA, fmtB := c.fmtB, depth := depth, width := formWidth c.shallow,
    rows := rows, kUsed := kUsed, accRow := (operand c.w2).xtra % 1024, add := c.acc, desc := desc, wtile := [], sub := [],
    poison := poison }

/-- Checks that MATMUL and CONV share: pair, weight tile, rows and accumulator rows (R53, R60, R105). -/
def passChk (k : Nat) (c : Cmd) (rows kUsed : Nat) : Nat :=
  let w := operand c.w2
  worst (chk (pairOf c.fmtA c.fmtB = none) St.formatInvalid)
    (chk (decide (w.space ≠ 0) || decide (w.off % 64 ≠ 0) || rows = 0 || decide ((if c.shallow then 256 else 1024) < rows) ||
      decide (storeSize k < w.off + kUsed * rowBytes c.fmtB (formWidth c.shallow)) ||
      decide (1024 < w.xtra % 1024 + rows * (if c.shallow then 4 else 1)) || (c.shallow && decide (w.xtra % 4 ≠ 0))) St.bounds)

/-- Depth of a command's pass; 128 where the pair is invalid. -/
def Cmd.depth (c : Cmd) : Nat := ((pairOf c.fmtA c.fmtB).map (fun p => pairDepth p c.shallow)).getD 128

/-- The checks of a MATMUL (R102, R105, R117). -/
def matmulChk (k : Nat) (c : Cmd) : Nat :=
  let a := operand c.w1
  let sh := shape c.w3
  let rb := rowBytes c.fmtA sh.elems
  let scaled := c.flag 0 || c.flag 1
  worst (passChk k c sh.rows sh.elems)
    (worst (chk (scaled && isIntFmt c.fmtA && isIntFmt c.fmtB) St.formatInvalid)
      (chk (shapeBad sh || decide (c.depth < sh.elems) || decide (a.space ≠ 0) || !wholeBytes c.fmtA sh.elems ||
        storeBad k a.off sh.rows (rowStep sh.srcPitch rb) rb || (scaled && slotBad a.xtra)) St.bounds))

/-- MATMUL (R105): the checks; then the weights begin to load. -/
def execMatmul (core : Nat) (errs : List (Nat × Bool)) (s : State) : Host.Outcome State Fault Refusal :=
  .next (
    match s.front core 0x01 with
    | none => s
    | some e =>
      let c := e.cmd
      let st := matmulChk core c
      if st ≠ St.ok then s.setPhase core e.ord (.done st)
      else
        let sh := shape c.w3
        let a := operand c.w1
        let rb := rowBytes c.fmtA sh.elems
        let ranges := rowRanges a.off sh.rows (rowStep sh.srcPitch rb) rb ++
          [((operand c.w2).off, sh.elems * rowBytes c.fmtB (formWidth c.shallow))] ++
          (if c.flag 0 then [(slotOff a.xtra, sh.rows)] else []) ++
          (if c.flag 1 then [(slotOff a.xtra + 1024, formWidth c.shallow)] else [])
        (s.csScan core ranges errs).setPhase core e.ord (.pass (newPass c c.depth sh.rows sh.elems [] false)))

/-- First reduction index, first row and rows of a CONV (R73, R104). -/
def Cmd.conv (c : Cmd) : Nat × Nat × Nat := (fld c.w1 32 32, fld c.w3 16 32, fld c.w3 0 11)

/-- The offset of a descriptor in W1 (R104). -/
def Cmd.descOff (c : Cmd) : Nat := fld c.w1 0 22

/-- CONV (R106): the checks of R74; then the weights begin to load. -/
def execConv (core : Nat) (errs : List (Nat × Bool)) (s : State) : Host.Outcome State Fault Refusal :=
  .next (
    match s.front core 0x02 with
    | none => s
    | some e =>
      let c := e.cmd
      let (kStart, mStart, mCount) := c.conv
      if c.descOff % 64 ≠ 0 then s.setPhase core e.ord (.done (worst (chk (pairOf c.fmtA c.fmtB = none) St.formatInvalid) St.bounds))
      -- R53: of an invalid pair nothing is read, the descriptor included
      else if pairOf c.fmtA c.fmtB = none then s.setPhase core e.ord (.done (passChk core c mCount 0))
      else
        let s := s.csScan core [(c.descOff, 64)] errs
        if s.csBad core c.descOff 64 then s.setPhase core e.ord (.done (worst (passChk core c mCount 0) St.poison))
        else
          let desc := s.csBytes core c.descOff 64
          let d := convDesc desc
          let kUsed := min c.depth (d.k - kStart)
          let st := worst (passChk core c mCount kUsed) (chk (d.bad c.fmtA mStart mCount kStart c.depth) St.bounds)
          if st ≠ St.ok then s.setPhase core e.ord (.done st)
          else
            let ranges := ((List.range mCount).map (fun m => (List.range kUsed).filterMap (fun i =>
                (d.elem (mStart + m) (kStart + i)).map (fun p =>
                  (p.1 + p.2 * elemBits c.fmtA / 8, (p.2 * elemBits c.fmtA % 8 + elemBits c.fmtA + 7) / 8))))).flatten ++
              [((operand c.w2).off, kUsed * rowBytes c.fmtB (formWidth c.shallow))]
            (s.csScan core ranges errs).setPhase core e.ord (.pass (newPass c c.depth mCount kUsed desc false)))

/-! ## The stages of a pass -/

/-- The oldest pass in a stage. -/
def Core.passIn (c : Core) (stage : Nat) : Option (Issued × Pass) :=
  c.issued.findSome? (fun e => match e.phase with
    | .pass p => if p.stage = stage then some (e, p) else none
    | _ => none)

/-- Whether a pass issued before `ord` is still in the array. -/
def Core.earlierPass (c : Core) (ord : Nat) : Bool :=
  c.issued.any (fun e => decide (e.ord < ord) && (match e.phase with | .pass _ => true | _ => false))

/-- The form of the pass before `ord` (R66). -/
def Core.formBefore (c : Core) (ord : Nat) : Bool :=
  ((c.issued.filterMap (fun e => match e.phase with
    | .pass p => if e.ord < ord then some p.shallow else none
    | _ => none)).getLast?).getD c.lastShallow

/-- WEIGHT_LOAD_DONE (R50, R51): the weight tile is in the back registers; at most one such buffer waits, and a change of form
loads only after every earlier pass is written (R66). -/
def execWeightLoadDone (core : Nat) (s : State) : Host.Outcome State Fault Refusal :=
  .next (if !s.clk.on then s else
    let c := s.core core
    match c.passIn 1 with
    | none => s
    | some (e, p) =>
      if (c.passIn 2).isSome || c.wantGrant || (c.formBefore e.ord != p.shallow && c.earlierPass e.ord) then s
      else
        let rb := rowBytes p.fmtB p.width
        let w := (operand e.cmd.w2).off
        let els := ((List.range p.kUsed).map (fun i => s.csElems core (w + i * rb) p.fmtB p.width)).flatten
        -- R67: a column loads only while it is enabled, so that all are once the last has loaded
        (s.modCore core (fun c => { c with actBase := 128, actSince := s.ck core })).setPhase core e.ord (.pass { p with
          stage := 2, wtile := els.map (·.1), poison := p.poison || els.any (·.2) }))

/-- The activation rows of a pass with their poison (R72, R105). -/
def State.actRows (s : State) (k : Nat) (c : Cmd) (p : Pass) : List (List (Nat × Bool)) :=
  if c.opcode = 0x02 then
    let d := convDesc p.desc
    let (kStart, mStart, _) := c.conv
    (List.range p.rows).map (fun m => (List.range p.kUsed).map (fun i =>
      match d.elem (mStart + m) (kStart + i) with
      | none => (0, false)
      | some (off, ch) =>
        if s.elemBad k off p.fmtA ch then (0, true)
        else
          let b := elemBits p.fmtA * ch
          (bitsOf (leNat (s.csBytes k (off + b / 8) 5)) (b % 8) (elemBits p.fmtA), false)))
  else
    let a := operand c.w1
    let rb := rowBytes p.fmtA p.kUsed
    let step := rowStep (shape c.w3).srcPitch rb
    (List.range p.rows).map (fun m => s.csElems k (a.off + m * step) p.fmtA p.kUsed)

/-- The use of scale byte `i` of a slot, when its flag is set (R105, R545). -/
def State.scaleUse (s : State) (k : Nat) (on : Bool) (slot i : Nat) : ScaleUse :=
  if on then (if s.csBad k (slotOff slot + i) 1 then .bad else .mul ((s.csBytes k (slotOff slot + i) 1).headD 0).toNat) else .none

/-- The results of a pass, sub-pass by sub-pass, scaled; and whether anything came from a poisoned line. -/
def State.passResults (s : State) (k : Nat) (c : Cmd) (p : Pass) : List (List Nat) × Bool :=
  let acts := s.actRows k c p
  let a := acts.map (fun r => r.map (·.1))
  let w := rowsOf p.width p.kUsed p.wtile
  let matm := c.opcode = 0x01
  let slot := (operand c.w1).xtra
  let sa := (List.range p.rows).map (s.scaleUse k (matm && c.flag 0) slot)
  let sb := (List.range p.width).map (fun j => s.scaleUse k (matm && c.flag 1) slot (1024 + j))
  let parts : List (Option (Bool × Bool)) :=
    if p.fmtA = 0 then [some (false, false), some (false, true), some (true, false), some (true, true)] else [none]
  let scale (l : List Nat) : List Nat :=
    if matm && (c.flag 0 || c.flag 1) then
      ((List.zip sa (rowsOf p.width p.rows l)).map (fun r => List.zipWith (fun b w => scaleResult r.1 b w) sb r.2)).flatten
    else l
  (parts.map (fun q => scale (subPass p.fmtA p.fmtB p.depth p.width q a w)),
    acts.any (fun r => r.any (·.2)) || sa.any (· = .bad) || sb.any (· = .bad))

/-- PASS_START (R51, R61, R66, R76): the weights are swapped in and the rows enter. A weight register with bad parity aborts
the pass. -/
def execPassStart (core : Nat) (wparity : Bool) (s : State) : Host.Outcome State Fault Refusal :=
  .next (if !s.clk.on then s else
    let c := s.core core
    match c.passIn 2 with
    | none => s
    | some (e, p) =>
      if c.interlocked e || c.wantGrant || (c.formBefore e.ord != p.shallow && c.earlierPass e.ord) then s
      else
        let s := s.modCore core (fun c => { c with lastShallow := p.shallow })
        if wparity then
          let s := ((s.arrayFlag core F.CELL_ARRAY_STATUS_WPARITY true).parityNote core).coreEvent core 0x21 e.strm St.aborted 0
          s.setPhase core e.ord (.pass { p with stage := 3, sub := [] })
        else
          let r := s.passResults core e.cmd p
          s.setPhase core e.ord (.pass { p with stage := 3, sub := r.1, poison := p.poison || r.2 }))

/-- A sub-pass written into the accumulator: stored, or added under R57 or R59. -/
def writeSub (int add : Bool) (old new : List Nat) (f : PassFlags) : List Nat × PassFlags :=
  let out := if add then List.zipWith (fun o n => if int then (o + n) % 2 ^ 32 else fadd o n) old new else new
  (out, if int then { f with wrap := f.wrap || (add && (List.zip old new).any (fun x => sumWraps x.1 x.2)) }
    else out.foldl PassFlags.word f)

/-- All sub-passes of a pass, the first in the pass's mode and the others added (R56). -/
def writeSubs (int add : Bool) : List (List Nat) → List Nat → PassFlags → List Nat × PassFlags
  | [], old, f => (old, f)
  | x :: xs, old, f =>
    let r := writeSub int add old x f
    writeSubs int true xs r.1 r.2

/-- The accumulator rows that an aborted pass writes hold unspecified values (R76). -/
def State.accFree (s : State) (k w n : Nat) : State :=
  (s.accPut k w ((List.range n).map (fun i => (Config.freeWord (s.free + i)).setWidth 32))).drew n

/-- MACs of a pass (R80). -/
def Pass.macs (p : Pass) : Nat := p.rows * p.kUsed * p.width

/-- PASS_DONE (R49, R57 to R60, R76, R80): the last row of the oldest pass is written. -/
def execPassDone (core : Nat) (aparity : Bool) (s : State) : Host.Outcome State Fault Refusal :=
  .next (if !s.clk.on then s else
    match (s.core core).passIn 3 with
    | none => s
    | some (e, p) =>
      let base := p.accRow * 128
      let n := p.rows * p.width
      let reads := p.add || p.fmtA = 0
      let abort (s : State) : State :=
        let s := (s.accFree core base n).addF (R.CELL_ARRAY_MACS core) F.CELL_ARRAY_MACS_MACS (s.freeW.toNat % (p.macs + 1))
        (s.drew 1).setPhase core e.ord (.done St.aborted)
      if p.sub = [] then abort s
      else if aparity && reads then
        abort (((s.arrayFlag core F.CELL_ARRAY_STATUS_APARITY true).parityNote core).coreEvent core 0x22 e.strm St.aborted 0)
      else
        let old := (List.range n).map (fun i => (s.accWord core (base + i)).toNat)
        let r := writeSubs (isIntFmt p.fmtA) p.add p.sub old {}
        let s := (s.accPut core base (r.1.map (BitVec.ofNat 32))).passFlags core r.2
        let s := s.addF (R.CELL_ARRAY_MACS core) F.CELL_ARRAY_MACS_MACS p.macs
        s.setPhase core e.ord (.done (if p.poison then St.poison else St.ok)))

end Sys2Proof.Machine
end

