-- ==== Sys2Proof/Machine/Philox.lean ====
section
/-! DEFINITION. Philox-4x32-10 (R110, R139). The spec names the generator and not its constants: the multipliers and key
increments are those of its published definition (PRESUMED, log entry 7). -/

namespace Sys2Proof.Machine

/-- Four 32-bit words of counter or output. -/
structure Quad where
  w0 : Nat
  w1 : Nat
  w2 : Nat
  w3 : Nat
deriving DecidableEq, Repr

/-- One round. -/
def philoxRound (k0 k1 : Nat) (c : Quad) : Quad :=
  let p0 := 0xD2511F53 * c.w0
  let p1 := 0xCD9E8D57 * c.w2
  ⟨Nat.xor (Nat.xor (p1 / 2 ^ 32) c.w1) k0, p1 % 2 ^ 32, Nat.xor (Nat.xor (p0 / 2 ^ 32) c.w3) k1, p0 % 2 ^ 32⟩

/-- `n` rounds, the key stepping after each. -/
def philoxRounds : Nat → Nat → Nat → Quad → Quad
  | 0, _, _, c => c
  | n + 1, k0, k1, c =>
    philoxRounds n ((k0 + 0x9E3779B9) % 2 ^ 32) ((k1 + 0xBB67AE85) % 2 ^ 32) (philoxRound k0 k1 c)

/-- Philox-4x32-10 of a 64-bit key (bits [31:0] are key word 0) and a counter. -/
def philox (key : Nat) (c : Quad) : Quad := philoxRounds 10 (key % 2 ^ 32) (key / 2 ^ 32 % 2 ^ 32) c

/-- Output word `i`. -/
def Quad.word (q : Quad) (i : Nat) : Nat :=
  match i with
  | 0 => q.w0
  | 1 => q.w1
  | 2 => q.w2
  | _ => q.w3

/-- The 16 random bits of element `e` in rounding mode 3 (R139). -/
def roundingBits (seed seq point strm e : Nat) : Nat :=
  let q := philox seed ⟨e / 8 % 2 ^ 32, seq % 2 ^ 32, point + 2 ^ 16 * strm, 0x5352⟩
  let i := e % 8
  if i % 2 = 0 then q.word (i / 2) % 65536 else q.word (i / 2) / 65536

/-- Word of RNG element `e` (R110): the counter words are the element index, 0, MBATCH and LAYER. -/
def rngWord (key layer mbatch e : Nat) : Nat := (philox key ⟨e / 4 % 2 ^ 32, 0, mbatch, layer⟩).word (e % 4)

end Sys2Proof.Machine
end

