-- ==== Sys2Proof/Machine/Sfn.lean ====
section
/-! DEFINITION. The function evaluator (R160 to R169): exact function values of the shipped tables to hundreds of bits, user
tables step by step, and the one rounding into FMT_D with the freedom R166 and R167 leave. Where the spec allows several results,
Config.choose picks one by the operands alone (R62, log entry 85). -/

namespace Sys2Proof.Machine

/-- Fraction bits of the evaluation. -/
def fxP : Nat := 640

/-- 1.0 in fixed point. -/
def fxOne : Int := ((2 ^ fxP : Nat) : Int)

/-- A product of fixed-point numbers. -/
def fxMul (a b : Int) : Int := a * b / fxOne

/-- A finite value in fixed point; every FP32 value is held exactly. -/
def toFx (v : FVal) : Int :=
  match v with
  | .fin n m e => shiftSigned n m (e + fxP).toNat
  | _ => 0

/-- A fixed-point number as a value; `exact` false adds the sticky bit of an irrational value. -/
def ofFx (i : Int) (exact : Bool) : FVal := .fin (decide (i < 0)) (2 * i.natAbs + (if exact then 0 else 1)) (-(fxP : Int) - 1)

/-- Σ t·z2^j / (2(k+j)+1), the odd series of atanh and (with z2 < 0) of atan. -/
def oddSeries : Nat → Nat → Int → Int → Int
  | 0, _, _, _ => 0
  | n + 1, k, t, z2 => t / (2 * k + 1 : Nat) + oddSeries n (k + 1) (fxMul t z2) z2

/-- ln 2. -/
def fxLn2 : Int := let z := fxOne / 3; 2 * oddSeries 210 0 z (fxMul z z)

/-- atan(1/n). -/
def fxAtanInv (n : Nat) : Int := let z := fxOne / (n : Int); oddSeries 150 0 z (-(fxMul z z))

/-- π. -/
def fxPi : Int := 16 * fxAtanInv 5 - 4 * fxAtanInv 239

/-- Σ t·r^j/(k+1)…(k+j): the exponential series. -/
def expSeries : Nat → Nat → Int → Int → Int
  | 0, _, _, _ => 0
  | n + 1, k, t, r => t + expSeries n (k + 1) (fxMul t r / (k + 1 : Nat)) r

/-- e^y as mantissa in [1, 2) and power of two. -/
def fxExp (y : Int) : Int × Int :=
  let n := y / fxLn2
  (expSeries 150 0 fxOne (y - n * fxLn2), n)

/-- ln of a positive value. -/
def fxLn (m : Nat) (e : Int) : Int :=
  let l := Nat.log2 m
  let x : Int := ((m <<< (fxP - l) : Nat) : Int)
  let z := (x - fxOne) * fxOne / (x + fxOne)
  2 * oddSeries 210 0 z (fxMul z z) + (e + l) * fxLn2

/-- Σ of the alternating series of sine (k = 1) or cosine (k = 0): t − t·a²/((k+1)(k+2)) + …. -/
def trigSeries : Nat → Nat → Int → Int → Int
  | 0, _, _, _ => 0
  | n + 1, k, t, a2 => t + trigSeries n (k + 2) (-(fxMul t a2 / ((k + 1) * (k + 2) : Nat))) a2

/-- sin (shift 0) or cos (shift 1) of x by quarter turns. -/
def fxTrig (x : Int) (shift : Int) : Int :=
  let turns := x * fxOne * 2 / fxPi   -- x / (π/2)
  let q := turns / fxOne
  let a := fxMul (turns - q * fxOne) fxPi / 2
  let a2 := fxMul a a
  match (q + shift) % 4 with
  | 0 => trigSeries 80 1 a a2
  | 1 => trigSeries 80 0 fxOne a2
  | 2 => -(trigSeries 80 1 a a2)
  | _ => -(trigSeries 80 0 fxOne a2)

/-- Σ (−1)^n x^(2n+1)/(2^n n! (2n+1)), the series of the normal distribution function. -/
def phiSeries : Nat → Nat → Int → Int → Int
  | 0, _, _, _ => 0
  | n + 1, k, t, x2 => t / (2 * k + 1 : Nat) + phiSeries n (k + 1) (-(fxMul t x2 / (2 * (k + 1) : Nat))) x2

/-- Square root in fixed point. -/
def fxSqrt (i : Int) : Int := (isqrt (i.natAbs * 2 ^ fxP) : Nat)

/-- Φ(x) = 1/2 + series/√(2π). -/
def fxPhi (x : Int) : Int := fxOne / 2 + phiSeries 700 0 x (fxMul x x) * fxOne / fxSqrt (2 * fxPi)

/-- e^x as a value. -/
def expVal (x : FVal) : FVal :=
  if x.isZero then .fin false 1 0
  else let r := fxExp (toFx x); .fin false (2 * r.1.toNat + 1) (r.2 - fxP - 1)

/-- 1/(1 + e^(−x)) times `num`, for finite x ≠ 0. -/
def logistic (x num : Int) : Int :=
  let r := fxExp (-x)
  let ex : Int := if r.2 ≥ 0 then r.1 * ((2 ^ r.2.toNat : Nat) : Int) else r.1 / ((2 ^ (-r.2).toNat : Nat) : Int)
  num * fxOne / (fxOne + ex)

/-- 2^20 and 16 as bounds. -/
def absGe (x : FVal) (k : Nat) : Bool := !(x.abs.lt (.fin false (2 ^ k) 0))

/-- The value of a shipped table 1 to 11 at x (R163 to R166): the exact function with its special cases and tails. `fw`
is the free value of tables 6 and 7 at |x| ≥ 2^20, and of the sign of f(−0) = 0, which the rules leave open. -/
def shippedValue (t : Nat) (x : FVal) (fw : Nat) : FVal :=
  match x with
  | .nan => .nan
  | .inf n =>
    match t with
    | 1 | 2 => if n then .fin false 0 0 else .inf false
    | 3 => if n then .nan else .inf false
    | 4 => .fin n 0 0
    | 5 => if n then .nan else .fin false 0 0
    | 6 | 7 => .nan
    | 8 | 9 => if n then .fin false 0 0 else .inf false
    | 10 => if n then .fin false 0 0 else .fin false 1 0
    | _ => .fin n 1 0
  | .fin n m e =>
    match t with
    | 1 => expVal x
    | 2 =>
      let y := toFx x
      let k := y / fxOne
      let f := y - k * fxOne
      if f = 0 then .fin false 1 k
      else .fin false (2 * (expSeries 150 0 fxOne (fxMul f fxLn2)).toNat + 1) (k - fxP - 1)
    | 3 =>
      if m = 0 then .inf true else if n then .nan
      else if (x.sub (.fin false 1 0)).isZero then .fin false 0 0
      else ofFx (fxLn m e) false
    | 4 => if m = 0 then .inf n else (FVal.fin n 1 0).div (.fin false m e)
    | 5 =>
      if m = 0 then .inf false else if n then .nan
      else
        let m2 := if e % 2 = 0 then m else 2 * m
        let e2 := if e % 2 = 0 then e else e - 1
        let q := 2 ^ 400 / m2
        let r := isqrt q
        .fin false (2 * r + (if m2 * r * r = 2 ^ 400 then 0 else 1)) (-(e2 / 2) - 201)
    | 6 | 7 =>
      if absGe x 20 then
        (let c := fw / 2 % 0x3F80_0001
          if c = 0 then .fin (fw % 2 = 1) 1 (-200) else decodeElem 0 (c + (if fw % 2 = 1 then 0x8000_0000 else 0)))
      else if m = 0 then .fin (t = 6 && n && fw % 2 = 1) (if t = 6 then 0 else 1) 0
      else ofFx (fxTrig (toFx x) (if t = 6 then 0 else 1)) false
    | 8 =>
      if m = 0 then .fin (n && fw % 2 = 1) 0 0
      else if absGe x 4 && !n then x else if x.lt (.fin true 16 0) then .fin false 0 0
      else ofFx (fxMul (toFx x) (fxPhi (toFx x))) false
    | 9 =>
      if m = 0 then .fin (n && fw % 2 = 1) 0 0
      else if absGe x 4 && !n then x else if x.lt (.fin true 16 0) then .fin false 0 0
      else ofFx (logistic (toFx x) (toFx x)) false
    | 10 =>
      if m = 0 then .fin false 1 (-1)
      else if absGe x 4 && !n then .fin false 1 0 else if x.lt (.fin true 16 0) then .fin false 0 0
      else ofFx (logistic (toFx x) fxOne) false
    | _ =>
      if m = 0 then .fin n 0 0
      else if absGe x 4 then .fin n 1 0
      else
        let y := 2 * toFx x.abs
        let r := fxExp y
        let ex : Int := r.1 * ((2 ^ r.2.toNat : Nat) : Int)
        (ofFx ((ex - fxOne) * fxOne / (ex + fxOne)) false).scale 0 |> fun v => if n then v.neg else v

/-- A user table's constants (R163, R164, R180), sampled when the SFN issues (R172). -/
structure UserTable where
  reduction : Nat
  combine : Nat
  symmetry : Nat
  log2w : Int
  xmin : Nat
  k : Nat
  loA : Nat
  loB : Nat
  hiA : Nat
  hiB : Nat
deriving DecidableEq, Repr

/-- Whether the spec fixes the internal value of a shipped table (R164) or bounds it no further than [−1, 1] (R166): the tails of tables
8 to 11, and tables 6 and 7 at |x| ≥ 2^20. Such a value is rounded once and has no slack. -/
def shippedFixed (t : Nat) (x : FVal) : Bool :=
  (decide (t = 6 ∨ t = 7) && absGe x 20) ||
  (decide (8 ≤ t) && (if t = 11 then absGe x 4 else x.lt (.fin true 16 0) || !(x.lt (.fin false 16 0))))

/-- The odd part of a value needs at most 34 bits (R160: internal significands of at least 34 bits hold it). -/
def fits34 (v : FVal) : Bool :=
  match v with
  | .fin _ m _ => m = 0 || decide (m >>> (Nat.log2 m + 1 - 34) <<< (Nat.log2 m + 1 - 34) = m)
  | _ => true

/-- Floor of a finite value scaled by 2^k. -/
def floorScaled (v : FVal) (k : Int) : Int :=
  match v with
  | .fin n m e =>
    let s := e + k
    if s ≥ 0 then shiftSigned n m s.toNat
    else (if n then -(m : Int) else (m : Int)) / ((2 ^ (-s).toNat : Nat) : Int)
  | _ => 0

/-- A value as an internal significand of at least 34 bits holds it (R160): itself where 34 bits do, else itself or a neighbour of the
width that the hardware has, on a side that the spec does not state (log entry 85). -/
def hold (v : FVal) : FVal :=
  match v with
  | .fin n m e =>
    if fits34 v then v
    else
      let k := Nat.log2 m + 1 - (34 + Config.sfnExtra)
      if (m >>> k) <<< k = m then v
      else .fin n ((m >>> k) + Config.choose [1, b2n n, m, e.toNat, (-e).toNat] % 2) (e + k)
  | x => x

/-- p(t) of a segment (R160 step 5). -/
def polyEval (c : Nat → Nat) (t : FVal) : FVal :=
  let mac (a : FVal) (j : Nat) : FVal := hold ((hold (a.mul t)).add (f32 (c j)))
  mac (mac (mac (f32 (c 3)) 2) 1) 0

/-- The internal value of a user table (R160, R163, R164). `coef i j` is c_j of segment i. -/
def userValue (u : UserTable) (coef : Nat → Nat → Nat) (x0 : FVal) : FVal :=
  let negX : Bool := match x0 with | .fin n _ _ => n | .inf n => n | .nan => false
  let x := if u.symmetry = 1 || u.symmetry = 2 then x0.abs else x0
  let fin (r : FVal) : FVal := if u.symmetry = 1 && negX then r.neg else r
  match x with
  | .nan => .nan
  | _ =>
    match u.reduction with
    | 0 =>
      let d := x.sub (f32 u.xmin)
      match d with
      | .nan => .nan
      | _ =>
        let below : Bool := match d with | .fin n m _ => n && m ≠ 0 | .inf n => n | .nan => false
        let tail (a b : Nat) : FVal := if (f32 a).isZero then f32 b else ((f32 a).mul x).add (f32 b)
        if below then fin (tail u.loA u.loB)
        else if !d.isFin || decide (floorScaled d (8 - u.log2w) ≥ 256) then fin (tail u.hiA u.hiB)
        else
          let z := d.scale (8 - u.log2w)
          let i := (floorScaled z 0).toNat
          fin (polyEval (coef i) (hold (z.sub (FVal.ofNat i))))
    | 1 =>
      let y := x.mul (f32 u.k)
      match y with
      | .nan => .nan
      | .inf n => fin (if n then .fin false 0 0 else .inf false)
      | .fin _ _ _ =>
        let n := floorScaled y 0
        let f := y.sub (.fin (decide (n < 0)) n.natAbs 0)
        let i := (floorScaled f 8).toNat
        fin ((polyEval (coef i) (hold ((f.scale 8).sub (FVal.ofNat i)))).scale n)
    | 2 =>
      match x with
      | .nan => .nan
      | .inf n => fin (if n then .nan else if u.combine = 0 then .inf false else .fin false 0 0)
      | .fin n m e0 =>
        if m = 0 then fin (if u.combine = 0 then .inf true else .inf false)
        else if n then .nan
        else
          let l := Nat.log2 m
          let e := e0 + l
          if u.combine = 2 then
            let k := e / 2
            let mm : FVal := .fin false m (-(l : Int) + (e - 2 * k))
            let below2 := decide (e - 2 * k = 0)
            let z := if below2 then (mm.sub (FVal.ofNat 1)).scale 7 else ((mm.sub (FVal.ofNat 2)).scale 6).add (FVal.ofNat 128)
            let i := (floorScaled z 0).toNat
            fin ((polyEval (coef i) (z.sub (FVal.ofNat i))).scale (-k))
          else
            let z := ((FVal.fin false m (-(l : Int))).sub (FVal.ofNat 1)).scale 8
            let i := (floorScaled z 0).toNat
            let p := polyEval (coef i) (z.sub (FVal.ofNat i))
            fin (if u.combine = 0 then hold (p.add ((FVal.fin (decide (e < 0)) e.natAbs 0).mul (f32 u.k))) else p.scale (-e))
    | _ =>
      let y := x.mul (f32 u.k)
      match y with
      | .fin _ _ _ =>
        let n := floorScaled y 0
        let f := y.sub (.fin (decide (n < 0)) n.natAbs 0)
        let i := (floorScaled f 8).toNat
        fin (polyEval (coef i) (hold ((f.scale 8).sub (FVal.ofNat i))))
      | _ => .nan

/-- How far a result may lie from the exact value: rounded by the mode, one of the bracketing pair, or within 2 or 3 ulp
(R166, R167). -/
inductive Slack where
  | exact | bracket | ulps (n : Nat)
deriving DecidableEq, Repr

/-- The magnitude that a code stands for, codes above MAXF going on with the exponent. -/
def magVal (c mag : Nat) : FVal :=
  if mag < 2 ^ manBits c then .fin false mag (1 - fmtBias c - manBits c)
  else .fin false (2 ^ manBits c + mag % 2 ^ manBits c) ((mag / 2 ^ manBits c : Nat) - fmtBias c - manBits c)

/-- Whether a magnitude code, negative on the other side of zero, lies within `n` units 2^q of the magnitude `v`. -/
def nearMag (c n : Nat) (q : Int) (v : FVal) (mag : Int) : Bool :=
  let x := if mag < 0 then (magVal c mag.natAbs).neg else magVal c mag.natAbs
  !((FVal.fin false n q).lt (x.sub v).abs)

/-- The magnitude codes that R166 and R167 allow for an exact magnitude ±m × 2^e that is not zero: the pair that brackets it, or all
within 2 or 3 ulp. -/
def allowedMags (c n m : Nat) (e : Int) : List Int :=
  let q := unitOf c m e
  let lo := magCode c (roundUnits 2 0 m e q) q
  let v : FVal := .fin false m e
  if n = 0 then (if ((magVal c lo).sub v).isZero then [(lo : Int)] else [(lo : Int), lo + 1])
  else ((List.range (3 * n + 2)).map (fun i => (lo : Int) + i - 2 * n)).filter (nearMag c n q v)

/-- One rounding into FMT_D under the freedom of R166 and R167: code and category. -/
def roundFree (c mode u : Nat) (sl : Slack) (fw : Nat) (v : FVal) : Nat × Nat :=
  match sl, v with
  | .exact, _ => roundTo c mode u v
  | _, .fin neg m e =>
    if m = 0 then roundTo c mode u v
    else
      let l := allowedMags c (match sl with | .ulps n => n | _ => 0) m e
      let mag : Int := (l[fw % l.length]?).getD 0
      let neg' := if mag < 0 then !neg else neg
      let mg := mag.natAbs
      if mg > maxCode c then (bigCode c neg' (decide (mode ≠ 2)), 3)
      else (signed c mg neg', if mg = 0 then 2 else if mg < 2 ^ manBits c then 1 else 0)
  | _, _ => roundTo c mode u v

/-- The flush of R169: a non-zero result below the threshold becomes a zero of its sign, counted ZERO. -/
def flushed (c : Nat) (custom : Bool) (thresh : Nat) (r : Nat × Nat) : Nat × Nat :=
  match decodeElem c r.1 with
  | .fin n m e =>
    let th : FVal := if custom then f32 thresh else .fin false 1 (1 - fmtBias c)
    if m ≠ 0 && (FVal.fin false m e).lt th then (signed c 0 n, 2) else r
  | _ => r

/-- What an SFN command fixes for all its elements. -/
structure SfnSetup where
  table : Nat
  rowvMode : Nat
  gate : Bool
  fmtD : Nat
  rnd : Nat
  user : UserTable
  custom : Bool
  thresh : Nat
deriving DecidableEq, Repr

/-- One element of an SFN (R109, R160 to R169): x or g, the row's v, the gate's u and the 16 bits of rounding mode 3. Code and category. -/
def sfnElem (p : SfnSetup) (coef : Nat → Nat → Nat) (x v g : FVal) (u : Nat) : Nat × Nat :=
  let x' := if p.rowvMode = 1 then r32 (x.sub v) else x
  let fac (f : FVal) : FVal :=
    let f := if p.rowvMode = 2 then f.mul v else f
    if p.gate then f.mul g else f
  let isProd := p.rowvMode = 2 || p.gate
  let r :=
    if p.table = 0 then roundTo p.fmtD p.rnd u (fac x')
    else if p.table ≤ 11 then
      let sl : Slack :=
        if shippedFixed p.table x' then .exact
        else if p.fmtD = 0 then .ulps (if isProd then 3 else 2)
        else if isProd || p.rnd ≥ 2 then .bracket else .exact
      let key := [p.table, toF32 x']
      let all := key ++ [p.fmtD, p.rnd, u] ++ (if p.rowvMode = 2 then [2, toF32 v] else []) ++ (if p.gate then [3, toF32 g] else [])
      roundFree p.fmtD p.rnd u sl (Config.choose (3 :: all)) (fac (shippedValue p.table x' (Config.choose (2 :: key))))
    else roundTo p.fmtD p.rnd u (fac (userValue p.user coef x'))
  flushed p.fmtD p.custom p.thresh r

/-- The `rsqrt` of table 5 into FP32 (R176): within 2 ulp. -/
def rsqrt32 (w : Nat) : Nat :=
  (roundFree 0 1 0 (.ulps 2) (Config.choose [3, 5, toF32 (f32 w), 0, 1, 0]) (shippedValue 5 (f32 w) 0)).1

/-- 1 / (1 − β^n) rounded once to FP32 (R267); +∞ when β^n is exactly 1. -/
def biasCorrection (beta n : Nat) : Nat :=
  match f32 beta with
  | .nan => nanCode 0
  | .inf neg => if neg && n % 2 = 1 then 0 else 0x8000_0000
  | .fin neg m e =>
    if m = 0 then 0x3F80_0000
    else
      let odd := neg && n % 2 = 1
      if (FVal.sub (.fin false m e) (FVal.ofNat 1)).isZero then
        (if odd then 0x3F00_0000 else 0x7F80_0000)
      else
        let r := fxExp ((n : Int) * fxLn m e)
        -- β^n = r.1·2^(r.2 − P); 1 − β^n in units of 2^−Q
        if r.2 > 400 then signed 0 0 (!odd)
        else
          let p : Int := if r.2 ≥ 0 then r.1 * ((2 ^ r.2.toNat : Nat) : Int) else r.1 / ((2 ^ (min (-r.2).toNat (2 * fxP)) : Nat) : Int)
          let d := if odd then fxOne + p else fxOne - p
          let k := fxOne * fxOne / d
          toF32 (ofFx k false)

end Sys2Proof.Machine
end

