-- ==== Sys2Proof/Machine/Vector.lean ====
section
/-! DEFINITION. The conversion, special-function and vector units (R108 to R110, R127 to R180): QUANT, DEQUANT, SFN, NORM,
REDUCE and RNG, row by row. -/

namespace Sys2Proof.Machine

open Sys2Proof

/-! ## Rows of a source operand -/

/-- Where a row-wise command writes its rows. -/
structure Dest where
  off : Nat
  step : Nat
  rb : Nat
deriving DecidableEq, Repr

/-- Whether a byte lies in one of the first `n` destination rows (R146, R162). -/
def Dest.covers (d : Dest) (n b : Nat) : Bool :=
  decide (d.off ≤ b) && decide (0 < d.step) && decide ((b - d.off) / d.step < n) && decide ((b - d.off) % d.step < d.rb)

/-- The values of source row `r` with their poison, read when `before` destination rows are written. An element that those
rows have overwritten is a free value (R146, R162). -/
def State.srcRow (s : State) (k : Nat) (o : Operand) (fmt elems step r before : Nat) (d : Dest) : List (FVal × Bool) :=
  if o.space = 1 then
    (List.range elems).map (fun j =>
      let w := (s.accWord k (o.accRow * 128 + r * elems + j)).toNat
      (if fmt = 8 then .fin (decide (sext 32 w < 0)) (sext 32 w).natAbs 0 else f32 w, false))
  else
    let base := o.off + r * step
    (List.zip (List.range elems) (s.csElems k base fmt elems)).map (fun e =>
      let b0 := base + elemBits fmt * e.1 / 8
      let b1 := base + (elemBits fmt * e.1 + elemBits fmt - 1) / 8
      if d.covers before b0 || d.covers before b1 then
        (decodeElem fmt ((Config.freeWord (s.free + e.1)).toNat % 2 ^ elemBits fmt), false)
      else (decodeElem fmt e.2.1, e.2.2))

/-- The checks of a row-wise source in SPACE 0 or 1 (R101, R102, R117), formats apart. -/
def srcBad (k : Nat) (o : Operand) (fmt rows elems pitch : Nat) : Bool :=
  match o.space with
  | 0 => let rb := rowBytes fmt elems
         !wholeBytes fmt elems || storeBad k o.off rows (rowStep pitch rb) rb
  | 1 => accBad o.accRow rows elems
  | _ => true

/-- The checks of a row-wise destination in SPACE 0. -/
def destBad (k : Nat) (o : Operand) (fmt rows elems pitch : Nat) : Bool :=
  let rb := rowBytes fmt elems
  decide (o.space ≠ 0) || !wholeBytes fmt elems || storeBad k o.off rows (rowStep pitch rb) rb

/-- The destination of a command whose rows have `elems` elements in `fmt`. -/
def destOf (o : Operand) (fmt elems pitch : Nat) : Dest :=
  { off := o.off, step := rowStep pitch (rowBytes fmt elems), rb := rowBytes fmt elems }

/-- Ranges that the rows of a source read in the store. -/
def srcRanges (o : Operand) (fmt rows elems pitch : Nat) : List (Nat × Nat) :=
  if o.space = 0 then rowRanges o.off rows (rowStep pitch (rowBytes fmt elems)) (rowBytes fmt elems) else []

/-- What a row gives: its element codes, the categories counted, and the status it contributes. -/
structure RowOut where
  codes : List Nat
  cats : List Nat
  status : Nat
deriving DecidableEq, Repr

/-- The point number of a core in R139. -/
def pointOf (k : Nat) : Nat := if isCell k then k else 0x100 + (k - 160)

/-- The 16 random bits of element `e` of a command (R139). -/
def Issued.bits (e : Issued) (k i : Nat) : Nat := roundingBits e.seed e.seq (pointOf k) e.strm i

/-- The scale byte that means no valid scale (R132). -/
def noScale : Nat := 0xFF

/-- Runs a row-wise command: for each row `f` gives the row from the state and further writes; the row is written and
counted, and its free values are used up. -/
def State.runRows (s : State) (k : Nat) (e : Issued) (fmtD rows elems : Nat) (d : Dest)
    (f : State → Nat → State × RowOut) : State × Nat :=
  (List.range rows).foldl (fun (a : State × Nat) r =>
    let x := f a.1 r
    let s := x.1.csWrite k (d.off + r * d.step) (packElems fmtD x.2.codes)
    ((s.countAll k e.ward fmtD x.2.cats).drew (4 * elems + 4), worst a.2 x.2.status)) (s, St.ok)

/-! ## QUANT and DEQUANT (R108, R132 to R148) -/

/-- One row converted at a scale: `sc` none without a scale; the exponent applied is `sign` × (E − 127). An element of a poisoned line is
written as zero and not counted (R148) even in a row whose scale is 0xFF (R136): the model's choice, as the spec ranks neither rule
(log entry 45). -/
def convertRow (e : Issued) (k fmtD rnd r elems : Nat) (down : Bool) (sc : ScaleUse) (vals : List (FVal × Bool)) : RowOut :=
  let outs := (List.zip (List.range elems) vals).map (fun x =>
    let v := x.2.1
    if x.2.2 || sc = .bad then (0, 4)
    else
      match sc with
      | .mul b =>
        if b = noScale then (nanCode fmtD, 3)
        else roundTo fmtD rnd (if rnd = 3 then e.bits k (r * elems + x.1) else 0) (v.scale (if down then -(scaleExp b) else scaleExp b))
      | _ => roundTo fmtD rnd (if rnd = 3 then e.bits k (r * elems + x.1) else 0) v)
  { codes := outs.map (·.1), cats := (outs.map (·.2)).filter (fun c => decide (c < 4)),
    status := if outs.any (fun o => o.2 = 4) then St.poison else St.ok }

/-- The checks of a QUANT (R102, R117, R144, R145). -/
def quantChk (k : Nat) (c : Cmd) : Nat :=
  let a := operand c.w1
  let d := operand c.w2
  let sh := shape c.w3
  worst (chk (fmtReserved c.fmtA || fmtReserved c.fmtD || (a.space = 1 && decide (accFmt c.fmtA ≠ St.ok))) St.formatInvalid)
    (chk (shapeBad sh || srcBad k a c.fmtA sh.rows sh.elems sh.srcPitch || destBad k d c.fmtD sh.rows sh.elems sh.dstPitch ||
      (c.flag 0 && slotBad d.xtra) ||
      (c.flag 0 && !c.flag 1 && decide (131072 < (if a.space = 1 then 4 * sh.elems else rowBytes c.fmtA sh.elems)))) St.bounds)

/-- The effect of a QUANT. Where the slot of its scales overlaps its destination or source rows, byte `r` of it is read or written after
the rows before `r` have been written: the model's choice, as R146 speaks of elements only (log entry 34). -/
def State.quant (s : State) (k : Nat) (errs : List (Nat × Bool)) (e : Issued) : State × Nat :=
  let c := e.cmd
  let st := quantChk k c
  if st ≠ St.ok then (s, st)
  else
    let a := operand c.w1
    let o := operand c.w2
    let sh := shape c.w3
    let given := c.flag 0 && c.flag 1
    let s := s.csScan k (srcRanges a c.fmtA sh.rows sh.elems sh.srcPitch ++
      (if given then [(slotOff o.xtra, sh.rows)] else [])) errs
    let d := destOf o c.fmtD sh.elems sh.dstPitch
    let step := rowStep sh.srcPitch (rowBytes c.fmtA sh.elems)
    s.runRows k e c.fmtD sh.rows sh.elems d (fun s r =>
      let vals := s.srcRow k a c.fmtA sh.elems step r r d
      if c.flag 0 && !c.flag 1 then
        let b := computeScale c.fmtD e.adj ((vals.filter (fun v => !v.2)).map (·.1))
        (s.csWrite k (slotOff o.xtra + r) [BitVec.ofNat 8 b], convertRow e k c.fmtD c.rnd r sh.elems true (.mul b) vals)
      else (s, convertRow e k c.fmtD c.rnd r sh.elems true (s.scaleUse k given o.xtra r) vals))

/-- QUANT (R108). -/
def execQuant (core : Nat) (errs : List (Nat × Bool)) (s : State) : Host.Outcome State Fault Refusal :=
  .next (s.runVec core 0x18 (s.quant core errs))

/-- The checks of a DEQUANT (R144). -/
def dequantChk (k : Nat) (c : Cmd) : Nat :=
  let a := operand c.w1
  let d := operand c.w2
  let sh := shape c.w3
  worst (chk (decide (c.fmtA < 3) || fmtReserved c.fmtA || decide (2 < c.fmtD)) St.formatInvalid)
    (chk (shapeBad sh || decide (a.space ≠ 0) || srcBad k a c.fmtA sh.rows sh.elems sh.srcPitch ||
      destBad k d c.fmtD sh.rows sh.elems sh.dstPitch || (c.flag 0 && slotBad a.xtra)) St.bounds)

/-- The effect of a DEQUANT: always ties to even. -/
def State.dequant (s : State) (k : Nat) (errs : List (Nat × Bool)) (e : Issued) : State × Nat :=
  let c := e.cmd
  let st := dequantChk k c
  if st ≠ St.ok then (s, st)
  else
    let a := operand c.w1
    let sh := shape c.w3
    let s := s.csScan k (srcRanges a c.fmtA sh.rows sh.elems sh.srcPitch ++
      (if c.flag 0 then [(slotOff a.xtra, sh.rows)] else [])) errs
    let d := destOf (operand c.w2) c.fmtD sh.elems sh.dstPitch
    s.runRows k e c.fmtD sh.rows sh.elems d (fun s r =>
      (s, convertRow e k c.fmtD 1 r sh.elems false (s.scaleUse k (c.flag 0) a.xtra r)
        (s.srcRow k a c.fmtA sh.elems (rowStep sh.srcPitch (rowBytes c.fmtA sh.elems)) r r d)))

/-- DEQUANT (R108). -/
def execDequant (core : Nat) (errs : List (Nat × Bool)) (s : State) : Host.Outcome State Fault Refusal :=
  .next (s.runVec core 0x19 (s.dequant core errs))

/-! ## SFN (R109, R160 to R169, R172, R178) -/

/-- Formats of SFN and NORM (R161). -/
def sfnFmtBad (c : Cmd) (space : Nat) : Bool := decide (4 < c.fmtA) || decide (4 < c.fmtD) || (space = 1 && decide (c.fmtA ≠ 0))

/-- ROWV_MODE. -/
def Cmd.rowvMode (c : Cmd) : Nat := fld c.w0 29 2

/-- The checks of an SFN (R117, R161, R172). -/
def sfnChk (k : Nat) (e : Issued) : Nat :=
  let c := e.cmd
  let a := operand c.w1
  let d := operand c.w2
  let sh := shape c.w3
  let rows := if c.flag 0 then 2 * sh.rows else sh.rows
  worst (chk (sfnFmtBad c a.space) St.formatInvalid)
    (chk (shapeBad sh || srcBad k a c.fmtA rows sh.elems sh.srcPitch || destBad k d c.fmtD sh.rows sh.elems sh.dstPitch ||
      decide (c.rowvMode = 3) || (decide (c.rowvMode ≠ 0) && slotBad d.xtra) || !e.tableOk) St.bounds)

/-- The user table `t` (12–15) of a cell (R170, R180). -/
def State.userTable (s : State) (k t : Nat) : UserTable :=
  let h := k / 64
  let i := k % 64
  let n := t - 12
  { reduction := s.rf (R.HALF_SFN_TDESC h i n) F.HALF_SFN_TDESC_REDUCTION,
    combine := s.rf (R.HALF_SFN_TDESC h i n) F.HALF_SFN_TDESC_COMBINE,
    symmetry := s.rf (R.HALF_SFN_TDESC h i n) F.HALF_SFN_TDESC_SYMMETRY,
    log2w := sext 8 (s.rf (R.HALF_SFN_TDESC h i n) F.HALF_SFN_TDESC_LOG2W),
    xmin := s.rf (R.HALF_SFN_TRANGE h i n) F.HALF_SFN_TRANGE_XMIN, k := s.rf (R.HALF_SFN_TRANGE h i n) F.HALF_SFN_TRANGE_K,
    loA := s.rf (R.HALF_SFN_TLO h i n) F.HALF_SFN_TLO_LO_A, loB := s.rf (R.HALF_SFN_TLO h i n) F.HALF_SFN_TLO_LO_B,
    hiA := s.rf (R.HALF_SFN_THI h i n) F.HALF_SFN_THI_HI_A, hiB := s.rf (R.HALF_SFN_THI h i n) F.HALF_SFN_THI_HI_B }

/-- Coefficient c_j of segment `seg` of a user table. -/
def State.userCoef (s : State) (k t seg j : Nat) : Nat :=
  let h := k / 64
  let i := k % 64
  let n := t - 12
  match j with
  | 0 => s.rf (R.HALF_SFN_COEF_LO h i n seg) F.HALF_SFN_COEF_LO_C0
  | 1 => s.rf (R.HALF_SFN_COEF_LO h i n seg) F.HALF_SFN_COEF_LO_C1
  | 2 => s.rf (R.HALF_SFN_COEF_HI h i n seg) F.HALF_SFN_COEF_HI_C2
  | _ => s.rf (R.HALF_SFN_COEF_HI h i n seg) F.HALF_SFN_COEF_HI_C3

/-- An FP32 word of a core's store, with its poison; a free word where the destination overlaps it (R162). -/
def State.paramWord (s : State) (k off : Nat) (d : Dest) (rows fw : Nat) : Nat × Bool :=
  if (List.range 4).any (fun i => d.covers rows (off + i)) then (fw % 2 ^ 32, false)
  else (leNat (s.csBytes k off 4), s.csBad k off 4)

/-- The effect of an SFN. -/
def State.sfn (s : State) (k : Nat) (errs : List (Nat × Bool)) (e : Issued) : State × Nat :=
  let c := e.cmd
  let st := sfnChk k e
  if st ≠ St.ok then (s, st)
  else
    let a := operand c.w1
    let o := operand c.w2
    let sh := shape c.w3
    let table := a.xtra % 16
    let gate := c.flag 0
    let s := s.csScan k (srcRanges a c.fmtA (if gate then 2 * sh.rows else sh.rows) sh.elems sh.srcPitch ++
      (if c.rowvMode ≠ 0 then [(slotOff o.xtra, 4 * sh.rows)] else [])) errs
    let d := destOf o c.fmtD sh.elems sh.dstPitch
    let step := rowStep sh.srcPitch (rowBytes c.fmtA sh.elems)
    let setup : SfnSetup :=
      { table := table, rowvMode := c.rowvMode, gate := gate, fmtD := c.fmtD, rnd := c.rnd,
        user := s.userTable k table, custom := bitAt e.ftz.toNat 32, thresh := e.ftz.toNat % 2 ^ 32 }
    s.runRows k e c.fmtD sh.rows sh.elems d (fun s r =>
      let xs := s.srcRow k a c.fmtA sh.elems step r r d
      let us := if gate then (s.drew sh.elems).srcRow k a c.fmtA sh.elems step (sh.rows + r) r d else xs
      let v := if c.rowvMode = 0 then (0, false)
        else s.paramWord k (slotOff o.xtra + 4 * r) d sh.rows (Config.freeWord (s.free + 3 * sh.elems)).toNat
      if v.2 || xs.any (·.2) || us.any (·.2) then
        (s, { codes := List.replicate sh.elems 0, cats := [], status := St.poison })
      else
        let outs := (List.zip (List.range sh.elems) (List.zip xs us)).map (fun x =>
          sfnElem setup (s.userCoef k table) x.2.1.1 (f32 v.1) x.2.2.1
            (if c.rnd = 3 then e.bits k (r * sh.elems + x.1) else 0))
        (s, { codes := outs.map (·.1), cats := outs.map (·.2), status := St.ok }))

/-- SFN (R109). -/
def execSfn (core : Nat) (errs : List (Nat × Bool)) (s : State) : Host.Outcome State Fault Refusal :=
  .next (s.runVec core 0x20 (s.sfn core errs))

/-! ## Row sums (R174) -/

/-- Combines adjacent results, an absent one passing the other (R174). -/
def pairUp (f : Nat → Nat → Nat) : List (Option Nat) → List (Option Nat)
  | a :: b :: l =>
    (match a, b with
      | some x, some y => some (f x y)
      | some x, none => some x
      | none, y => y) :: pairUp f l
  | l => l

/-- `n` levels of the tree. -/
def treeLevels (f : Nat → Nat → Nat) : Nat → List (Option Nat) → List (Option Nat)
  | 0, l => l
  | n + 1, l => treeLevels f n (pairUp f l)

/-- The sum of a row in the order of R174: lanes of stride 128, then a tree of seven levels. `first` makes a lane's first
term, `add` adds a further element, `join` combines results. -/
def laneSum {α : Type} (first : α → Nat) (add : Nat → α → Nat) (join : Nat → Nat → Nat) (l : List α) : Nat :=
  let groups := chunks 128 l.length l
  let lanes := groups.foldl (fun (acc : List (Option Nat)) g =>
    (List.range 128).map (fun j =>
      match acc.getD j none, g[j]? with
      | none, some x => some (first x)
      | some v, some x => some (add v x)
      | v, none => v)) (List.replicate 128 none)
  ((treeLevels join 7 lanes).headD none).getD 0

/-- FP32 sum of a row. -/
def rowSum (l : List FVal) : Nat := laneSum toF32 (fun v x => toF32 ((f32 v).add x)) fadd l

/-- FP32 sum of squares of a row: each square exact, added with one rounding. -/
def rowSumSq (l : List FVal) : Nat := laneSum (fun x => toF32 (x.mul x)) (fun v x => toF32 ((f32 v).add (x.mul x))) fadd l

/-! ## NORM (R176 to R178) -/

/-- PARAM_OFF (R104). -/
def Cmd.paramOff (c : Cmd) : Nat := (operand c.w1).xtra + (operand c.w2).xtra * 2048

/-- The checks of a NORM before its header is read (R117, R161, R177). -/
def normChk (k : Nat) (c : Cmd) : Nat :=
  let a := operand c.w1
  let sh := shape c.w3
  worst (chk (sfnFmtBad c a.space) St.formatInvalid)
    (chk (shapeBad sh || srcBad k a c.fmtA sh.rows sh.elems sh.srcPitch ||
      destBad k (operand c.w2) c.fmtD sh.rows sh.elems sh.dstPitch || decide (c.paramOff % 16 ≠ 0) ||
      decide (2 ^ 22 < c.paramOff + 16 + 4 * sh.elems * (if c.flag 1 then 2 else 1))) St.bounds)

/-- max(0, x) of R176. -/
def clamp0 (x : Nat) : Nat := if isNaN32 x then 0x7FC00000 else if (f32 x).lt (.fin false 0 0) then 0 else x

/-- The effect of a NORM. A command whose format alone is bad still has its header checked: BOUNDS ranks first (R14, R177). -/
def State.norm (s : State) (k : Nat) (errs : List (Nat × Bool)) (e : Issued) : State × Nat :=
  let c := e.cmd
  let st := normChk k c
  if st ≠ St.ok ∧ st ≠ St.formatInvalid then (s, st)
  else
    let a := operand c.w1
    let sh := shape c.w3
    let n := sh.elems
    let p := c.paramOff
    let rms := c.flag 0
    let affine := c.flag 1
    let s := s.csScan k [(p, 16)] errs
    if s.csBad k p 16 then (s, worst st St.poison)
    else
      let hd := leNat (s.csBytes k p 8)
      let slot := bitsOf hd 8 10
      if bitsOf hd 0 8 ≠ 1 ∨ 0x3FE < slot then (s, St.bounds)
      else if st ≠ St.ok then (s, st)
      else
        let s := s.csScan k (srcRanges a c.fmtA sh.rows n sh.srcPitch ++ (if affine then [(p + 16, 8 * n)] else [])) errs
        let d := destOf (operand c.w2) c.fmtD n sh.dstPitch
        let step := rowStep sh.srcPitch (rowBytes c.fmtA n)
        let nF := toF32 (FVal.ofNat n)
        let eps := s.rf (R.CELL_VEC_EPS k) F.CELL_VEC_EPS_EPS
        s.runRows k e c.fmtD sh.rows n d (fun s r =>
          let xs := s.srcRow k a c.fmtA n step r r d
          let fw (i : Nat) : Nat := (Config.freeWord (s.free + n + i)).toNat
          let par (off dflt f0 : Nat) : List (Nat × Bool) :=
            if affine then (List.range n).map (fun j => s.paramWord k (off + 4 * j) d sh.rows (fw (f0 + j)))
            else List.replicate n (dflt, false)
          let gam := par (p + 16) 0x3F800000 0
          let bet := par (p + 16 + 4 * n) 0 n
          let bad := xs.any (·.2)
          let vs := xs.map (·.1)
          let mu := if rms then 0 else fdiv (rowSum vs) nF
          let q := fdiv (rowSumSq vs) nF
          let var := if rms then q else clamp0 (fsub q (fmul mu mu))
          let rstd := rsqrt32 (fadd var eps)
          let stat (x i : Nat) : List Byte := leBytes 4 (if bad then fw (2 * n + 1 + i) else x)
          let s := if bitAt hd 18 then
              (s.csWrite k (slotOff slot + 4 * r) (stat mu 0)).csWrite k (slotOff (slot + 1) + 4 * r) (stat rstd 1) else s
          if bad then (s, { codes := List.replicate n 0, cats := [], status := St.poison })
          else
            let outs := (List.zip (List.range n) (List.zip vs (List.zip gam bet))).map (fun x =>
              let g := x.2.2.1
              let b := x.2.2.2
              if g.2 || b.2 then (0, 4)
              else
                let t := if rms then toF32 (x.2.1.mul (f32 rstd)) else fmul (toF32 (x.2.1.sub (f32 mu))) rstd
                roundTo c.fmtD c.rnd (if c.rnd = 3 then e.bits k (r * n + x.1) else 0) (((f32 t).mul (f32 g.1)).add (f32 b.1)))
            (s, { codes := outs.map (·.1), cats := (outs.map (·.2)).filter (fun c => decide (c < 4)),
                  status := if outs.any (fun o => o.2 = 4) then St.poison else St.ok }))

/-- NORM (R176). -/
def execNorm (core : Nat) (errs : List (Nat × Bool)) (s : State) : Host.Outcome State Fault Refusal :=
  .next (s.runVec core 0x28 (s.norm core errs))

/-! ## REDUCE (R174, R175, R178) -/

/-- OP of a REDUCE. -/
def Cmd.redOp (c : Cmd) : Nat := fld c.w0 28 3

/-- The checks of a REDUCE. -/
def reduceChk (k : Nat) (c : Cmd) : Nat :=
  let a := operand c.w1
  let d := operand c.w2
  let sh := shape c.w3
  let n := if c.flag 3 then sh.elems else sh.rows
  worst (chk (fmtReserved c.fmtA || (a.space = 1 && decide (accFmt c.fmtA ≠ St.ok)) ||
      decide (c.fmtD ≠ (if isIntFmt c.fmtA then 8 else 0))) St.formatInvalid)
    (chk (shapeBad sh || srcBad k a c.fmtA sh.rows sh.elems sh.srcPitch || decide (4 < c.redOp) || decide (d.space ≠ 0) ||
      storeBad k d.off 1 (4 * n) (4 * n)) St.bounds)

/-- The integer of a value. -/
def FVal.toInt (v : FVal) : Int :=
  match v with
  | .fin n m e => shiftSigned n m e.toNat
  | _ => 0

/-- The larger under R175; NaN wins. -/
def fmax (a b : FVal) : FVal := if a = .nan || b = .nan then .nan else if a.lt b then b else a

/-- One result of a REDUCE, over a group in order; `tree` adds by lanes (AXIS 0). The largest magnitude of an INT32 group that is 2^31 has
no INT32 word, and the spec states none (log entry 85). -/
def reduceGroup (op : Nat) (int tree : Bool) (l : List FVal) : Nat :=
  if int then
    let xs := l.map FVal.toInt
    match op with
    | 0 => wrapInt 32 xs.sum
    | 1 => wrapInt 32 (xs.map (fun x => x * x)).sum
    | 2 => wrapInt 32 (xs.tail.foldl max (xs.headD 0))
    | 3 => wrapInt 32 (xs.tail.foldl min (xs.headD 0))
    | _ =>
      let m := xs.foldl (fun a x => max a x.natAbs) 0
      if m = 2 ^ 31 then Config.choose [4] % 2 ^ 32 else m
  else
    match op with
    | 0 => if tree then rowSum l else l.tail.foldl (fun a x => toF32 ((f32 a).add x)) (toF32 (l.headD .nan))
    | 1 =>
      if tree then rowSumSq l
      else l.tail.foldl (fun a x => toF32 ((f32 a).add (x.mul x))) (toF32 ((l.headD .nan).mul (l.headD .nan)))
    | 2 => toF32 (l.foldl fmax (l.headD .nan))
    | 3 => toF32 (l.foldl (fun a b => (fmax a.neg b.neg).neg) (l.headD .nan))
    | _ => toF32 (l.foldl (fun a b => fmax a b.abs) (l.headD .nan).abs)

/-- The effect of a REDUCE: every source element is read, then the results are written as consecutive words. -/
def State.reduce (s : State) (k : Nat) (errs : List (Nat × Bool)) (e : Issued) : State × Nat :=
  let c := e.cmd
  let st := reduceChk k c
  if st ≠ St.ok then (s, st)
  else
    let a := operand c.w1
    let sh := shape c.w3
    let s := s.csScan k (srcRanges a c.fmtA sh.rows sh.elems sh.srcPitch) errs
    let none_ : Dest := { off := 0, step := 0, rb := 0 }
    let rows := (List.range sh.rows).map (fun r =>
      s.srcRow k a c.fmtA sh.elems (rowStep sh.srcPitch (rowBytes c.fmtA sh.elems)) r 0 none_)
    let groups := if c.flag 3 then (List.range sh.elems).map (fun j => rows.map (fun r => r.getD j (.nan, false))) else rows
    let outs := (List.zip (List.range groups.length) groups).map (fun g =>
      if g.2.any (·.2) then (0, true)
      else (reduceGroup c.redOp (isIntFmt c.fmtA) (!c.flag 3) (g.2.map (·.1)), false))
    let s := s.csWrite k (operand c.w2).off (outs.map (fun o => leBytes 4 o.1)).flatten
    (s, if outs.any (·.2) then St.poison else St.ok)

/-- REDUCE (R175). -/
def execReduce (core : Nat) (errs : List (Nat × Bool)) (s : State) : Host.Outcome State Fault Refusal :=
  .next (s.runVec core 0x30 (s.reduce core errs))

/-! ## RNG (R110) -/

/-- Bytes that an RNG command writes. -/
def rngBytes (mode items : Nat) : Nat := if mode = 2 then (items + 7) / 8 else 4 * items

/-- Bits packed least significant first. -/
def packBits (l : List Bool) : List Byte :=
  (chunks 8 l.length l).map (fun g => BitVec.ofNat 8 (packNat 1 (g.map b2n)))

/-- The effect of an RNG command. -/
def State.rng (s : State) (k : Nat) (e : Issued) : State × Nat :=
  let c := e.cmd
  let off := fld c.w2 0 22
  let rows := fld c.w3 0 11
  let elems := fld c.w3 16 16
  let mode := fld c.w0 28 2
  if mode = 3 ∨ rows = 0 ∨ 1024 < rows ∨ elems = 0 ∨ off % 16 ≠ 0 ∨ 2 ^ 22 < off + rngBytes mode (rows * elems) then (s, St.bounds)
  else
    let words := (List.range (rows * elems)).map (fun i =>
      rngWord c.w1.toNat (fld c.w3 32 16) (fld c.w3 48 16) (fld c.w2 32 32 + i))
    let keep := s.rf (R.CELL_RNG_THRESH k) F.CELL_RNG_THRESH_KEEP
    let bytes :=
      match mode with
      | 0 => (words.map (leBytes 4)).flatten
      | 1 => (words.map (fun w => leBytes 4 (roundTo 0 2 0 (.fin false w (-32))).1)).flatten
      | _ => packBits (words.map (fun w => decide (w < keep)))
    (s.csWrite k off bytes, St.ok)

/-- RNG (R110). -/
def execRng (core : Nat) (s : State) : Host.Outcome State Fault Refusal :=
  .next (s.runVec core 0x38 (s.rng core))

end Sys2Proof.Machine
end

