-- ==== Sys2Proof/Machine/Optimiser.lean ====
section
/-! DEFINITION. OPT_UPDATE (R265 to R269): momentum SGD and Adam over a chunk of parameters. -/

namespace Sys2Proof.Machine

open Sys2Proof

/-- The descriptor of R265. -/
structure OptDesc where
  ver : Nat
  direct : Bool
  m32 : Bool
  wscaleEn : Bool
  gscaleEn : Bool
  wfmt : Nat
  gfmt : Nat
  gslot : Nat
  wslot : Nat
  srow : Nat
  wOff : Nat
  workOff : Nat
  gOff : Nat
  mOff : Nat
  vOff : Nat
  step : Nat
  lr : Nat
  beta1 : Nat
  beta2 : Nat
  eps : Nat
  wd : Nat
  gmul : Nat
deriving DecidableEq, Repr

/-- Reads the descriptor. -/
def optDesc (bs : List Byte) : OptDesc :=
  let f (word lsb w : Nat) : Nat := bitsOf (leNat (slice bs (8 * word) 8)) lsb w
  { ver := f 0 0 8, direct := f 0 8 1 = 1, m32 := f 0 9 1 = 1, wscaleEn := f 0 10 1 = 1, gscaleEn := f 0 11 1 = 1,
    wfmt := f 0 12 4, gfmt := f 0 16 4, gslot := f 0 20 10, wslot := f 0 30 10, srow := f 0 48 16,
    wOff := f 1 0 22, workOff := f 1 32 22, gOff := f 2 0 22, mOff := f 2 32 22, vOff := f 3 0 22, step := f 3 32 32,
    lr := f 4 0 32, beta1 := f 4 32 32, beta2 := f 5 0 32, eps := f 5 32 32, wd := f 6 0 32, gmul := f 6 32 32 }

/-- Format of the moments. -/
def OptDesc.mfmt (d : OptDesc) : Nat := if d.m32 then 0 else 1

/-- Format of the elements at W_OFF: FP32 masters or the short weights. -/
def OptDesc.w0fmt (d : OptDesc) : Nat := if d.direct then d.wfmt else 0

/-- Rows of an enabled scale. -/
def OptDesc.rows (d : OptDesc) (n : Nat) : Nat := if d.srow = 0 then 0 else n / d.srow

/-- The areas that the operands occupy, scale vectors included: offset and bytes. -/
def OptDesc.areas (d : OptDesc) (adam : Bool) (n : Nat) : List (Nat × Nat) :=
  [(d.wOff, rowBytes d.w0fmt n), (d.gOff, rowBytes d.gfmt n), (d.mOff, rowBytes d.mfmt n)] ++
  (if adam then [(d.vOff, rowBytes d.mfmt n)] else []) ++ (if d.direct then [] else [(d.workOff, rowBytes d.wfmt n)]) ++
  (if d.gscaleEn then [(slotOff d.gslot, d.rows n)] else []) ++ (if d.wscaleEn then [(slotOff d.wslot, d.rows n)] else [])

/-- The checks of R266. -/
def OptDesc.chk (d : OptDesc) (adam : Bool) (n : Nat) : Nat :=
  let scaleBad := decide (d.srow = 0) || decide (n % d.srow ≠ 0) || decide (4096 < d.rows n) || decide (131072 < 4 * d.srow)
  worst (Machine.chk (!(d.gfmt ∈ [0, 1, 3]) || !(decide (1 ≤ d.wfmt ∧ d.wfmt ≤ (if d.direct then 4 else 7))) ||
      (d.wscaleEn && decide (d.wfmt ≤ 2)) || (d.gscaleEn && decide (d.gfmt ≠ 3))) St.formatInvalid)
    (Machine.chk (decide (d.ver ≠ 1) || (adam && d.step = 0) || ((d.wscaleEn || d.gscaleEn) && scaleBad) ||
      !wholeBytes d.wfmt n ||
      (d.areas adam n).any (fun a => decide (a.1 % 16 ≠ 0) || decide (2 ^ 22 < a.1 + a.2))) St.bounds)

/-- Whether a byte lies in two of the areas (R266). -/
def inTwo (areas : List (Nat × Nat)) (b : Nat) : Bool :=
  decide (2 ≤ (areas.filter (fun a => decide (a.1 ≤ b ∧ b < a.1 + a.2))).length)

/-- Whether any areas overlap. -/
def areasMeet : List (Nat × Nat) → Bool
  | [] => false
  | a :: l => l.any (spansMeet a) || areasMeet l

/-- Elements of an operand area with their poison. An element in an overlap of areas is a free value (R266): `f0` is where
its draws begin. -/
def State.optElems (s : State) (k off fmt n : Nat) (areas : List (Nat × Nat)) (f0 : Nat) : List (Nat × Bool) :=
  let l := s.csElems k off fmt n
  if areasMeet areas then
    (List.zip (List.range n) l).map (fun e =>
      if inTwo areas (off + elemBits fmt * e.1 / 8) || inTwo areas (off + (elemBits fmt * e.1 + elemBits fmt - 1) / 8) then
        ((Config.freeWord (f0 + e.1)).toNat % 2 ^ elemBits fmt, false) else e.2)
  else l

/-- A value with a row's scale applied exactly; 0xFF gives NaN (R267). -/
def widen (v : FVal) (sc : ScaleUse) : FVal :=
  match sc with
  | .mul b => if b = noScale then .nan else v.scale (scaleExp b)
  | _ => v

/-- What one element gives: the new master or weight value, the moments' codes and their categories. -/
structure OptOut where
  w : Nat
  m : Nat × Nat
  v : Nat × Nat
deriving DecidableEq, Repr

/-- One element (R267); g, w are widened values, m, v moment codes; c1, c2 the corrections of Adam. -/
def optElem (d : OptDesc) (adam : Bool) (c1 c2 : Nat) (g w m v : FVal) : OptOut :=
  let one := 0x3F800000
  let g := toF32 ((f32 d.gmul).mul g)
  let store (x : Nat) : Nat × Nat := roundTo d.mfmt 1 0 (f32 x)
  let val (x : Nat × Nat) : FVal := decodeElem d.mfmt x.1
  let bm := toF32 ((f32 d.beta1).mul m)
  let m' := store (if adam then fadd bm (fmul (fsub one d.beta1) g) else fadd bm g)
  let v' := if adam then
      store (fadd (toF32 ((f32 d.beta2).mul v)) (fmul (fsub one d.beta2) (fmul g g))) else (0, 0)
  let u := if adam then
      toF32 ((f32 (toF32 ((val m').mul (f32 c1)))).div (f32 (fadd (fsqrt (toF32 ((val v').mul (f32 c2)))) d.eps)))
    else toF32 (val m')
  let dec := fmul d.lr (fadd u (toF32 ((f32 d.wd).mul w)))
  { w := toF32 (w.sub (f32 dec)), m := m', v := v' }

/-- Writes the element codes that are given, leaving the others as they are: whole runs of four-element groups in one write. -/
def State.putRuns (s : State) (k off fmt : Nat) (codes : List (Option Nat)) : State :=
  if codes.all Option.isSome then s.csWrite k off (packElems fmt (codes.filterMap id))
  else
    let gb := rowBytes fmt 4
    let flushRun (s : State) (start : Nat) (run : List Byte) : State := if run.isEmpty then s else s.csWrite k start run
    let r := (List.zip (List.range codes.length) (chunks 4 codes.length codes)).foldl
      (fun (acc : State × Nat × List Byte) g =>
        let at_ := off + g.1 * gb
        if g.2.all Option.isSome then
          let bs := packElems fmt (g.2.filterMap id)
          (acc.1, if acc.2.2.isEmpty then at_ else acc.2.1, acc.2.2 ++ bs)
        else
          let s := flushRun acc.1 acc.2.1 acc.2.2
          if g.2.any Option.isSome then
            let n := g.2.length
            let old := unpackElems fmt n (s.csBytes k at_ (rowBytes fmt n))
            (s.csWrite k at_ (packElems fmt ((List.zip old g.2).map (fun x => x.2.getD x.1))), 0, [])
          else (s, 0, [])) (s, 0, [])
    flushRun r.1 r.2.1 r.2.2

/-- The effect of an OPT_UPDATE. -/
def State.optUpdate (s : State) (k : Nat) (errs : List (Nat × Bool)) (e : Issued) : State × Nat :=
  let c := e.cmd
  let n := fld c.w3 0 24
  let adam := c.flag 0
  if c.descOff % 64 ≠ 0 ∨ n = 0 ∨ 4194304 < n then (s, St.bounds)
  else
    let s := s.csScan k [(c.descOff, 64)] errs
    if s.csBad k c.descOff 64 then (s, St.poison)
    else
      let d := optDesc (s.csBytes k c.descOff 64)
      let st := d.chk adam n
      if st ≠ St.ok then (s, st)
      else
        let areas := d.areas adam n
        let reads := [(d.wOff, rowBytes d.w0fmt n), (d.gOff, rowBytes d.gfmt n), (d.mOff, rowBytes d.mfmt n)] ++
          (if adam then [(d.vOff, rowBytes d.mfmt n)] else []) ++
          (if d.gscaleEn then [(slotOff d.gslot, d.rows n)] else []) ++
          (if d.wscaleEn && d.direct then [(slotOff d.wslot, d.rows n)] else [])
        let s := s.csScan k reads errs
        let gs := s.optElems k d.gOff d.gfmt n areas s.free
        let ws := s.optElems k d.wOff d.w0fmt n areas (s.free + n)
        let ms := s.optElems k d.mOff d.mfmt n areas (s.free + 2 * n)
        let vs := if adam then s.optElems k d.vOff d.mfmt n areas (s.free + 3 * n) else ms
        let c1 := if adam then biasCorrection d.beta1 d.step else 0
        let c2 := if adam then biasCorrection d.beta2 d.step else 0
        let useOf (on : Bool) (slot i : Nat) : ScaleUse :=
          if on && areasMeet areas && inTwo areas (slotOff slot + i / d.srow) then
            .mul ((Config.freeWord (s.free + 4 * n + i / d.srow)).toNat % 256)
          else s.scaleUse k on slot (i / d.srow)
        let outs : List (Option OptOut) := (List.zip (List.range n) (List.zip (List.zip gs ws) (List.zip ms vs))).map (fun x =>
          let sg := useOf d.gscaleEn d.gslot x.1
          let sw := useOf (d.wscaleEn && d.direct) d.wslot x.1
          let g := x.2.1.1
          let w := x.2.1.2
          let m := x.2.2.1
          let v := x.2.2.2
          if g.2 || w.2 || m.2 || v.2 || sg = .bad || sw = .bad then none
          else some (optElem d adam c1 c2 (widen (decodeElem d.gfmt g.1) sg) (widen (decodeElem d.w0fmt w.1) sw)
            (decodeElem d.mfmt m.1) (decodeElem d.mfmt v.1)))
        -- row scales of the working copy or the short weights
        let scales : List (Option Nat) := if d.wscaleEn then
            (chunks d.srow n outs).map (fun row =>
              let vals := row.filterMap (fun o => o.map (fun x => f32 x.w))
              if vals.isEmpty then none else some (computeScale d.wfmt e.adj vals))
          else []
        let rnd := if d.direct then 3 else c.rnd
        let short : List (Option (Nat × Nat)) := (List.zip (List.range n) outs).map (fun x =>
          x.2.map (fun o =>
            let sh : Int := if d.wscaleEn then -(scaleExp (((scales.getD (x.1 / d.srow) none)).getD 127)) else 0
            roundTo d.wfmt rnd (if rnd = 3 then e.bits k x.1 else 0) ((f32 o.w).scale sh)))
        let master : List (Option (Nat × Nat)) := outs.map (fun o => o.map (fun x => roundTo 0 1 0 (f32 x.w)))
        let moms := outs.map (fun o => o.map (·.m))
        let vels := outs.map (fun o => o.map (·.v))
        let put (s : State) (off fmt : Nat) (l : List (Option (Nat × Nat))) : State :=
          (s.putRuns k off fmt (l.map (fun o => o.map (·.1)))).countAll k e.ward fmt (l.filterMap (fun o => o.map (·.2)))
        let s := put s d.mOff d.mfmt moms
        let s := if adam then put s d.vOff d.mfmt vels else s
        let s := if d.direct then put s d.wOff d.wfmt short else put (put s d.wOff 0 master) d.workOff d.wfmt short
        let s := (List.zip (List.range scales.length) scales).foldl (fun s x => match x.2 with
          | some b => s.csWrite k (slotOff d.wslot + x.1) [BitVec.ofNat 8 b]
          | none => s) s
        -- bytes in an overlap hold unspecified values
        let s := if areasMeet areas then
            (List.range areas.length).foldl (fun s i =>
              match areas[i]? with
              | none => s
              | some a => (List.range a.2).foldl (fun s j =>
                  if inTwo areas (a.1 + j) then s.csWrite k (a.1 + j) [(Config.freeWord (s.free + 5 * n + a.1 + j)).setWidth 8] else s) s) s
          else s
        (s.drew (5 * n + 2 ^ 22), if outs.all Option.isSome then St.ok else St.poison)

/-- OPT_UPDATE (R267). -/
def execOptUpdate (core : Nat) (errs : List (Nat × Bool)) (s : State) : Host.Outcome State Fault Refusal :=
  .next (s.runVec core 0x40 (s.optUpdate core errs))

end Sys2Proof.Machine
end

