-- ==== Sys2Proof/Machine/Hbm.lean ====
section
/-! DEFINITION. External memory (chapter 7): regions, home lines, the memory-side cache, memory-side arithmetic,
temperature, patrol, refresh and retraining. -/

namespace Sys2Proof.Machine

open Sys2Proof

/-! ## Events and counts of a controller -/

/-- An event of stack `st` (R252). -/
def State.memEvent (s : State) (st low cls off status : Nat) : State :=
  s.raise { ev (halfCode (0x1000 + low) (st / 4)) cls st 3 with addr := off, status := status }

/-- Records the last failing line (MEM_ERR_ADDR). -/
def State.memErr (s : State) (st off status : Nat) : State :=
  (s.setF (R.MEM_ERR_ADDR st) F.MEM_ERR_ADDR_OFFSET off).setF (R.MEM_ERR_ADDR st) F.MEM_ERR_ADDR_STATUS status

/-! ## Bandwidth regulators (R206) -/

/-- The regulator register of a stack and ward. -/
def bwReg (st w : Nat) : Nat := R.TIER_BWREG (st / 4) (st % 4) w

/-- Sixteenths of a token that a ward's bucket is short of its depth: RATE ÷ 8 tokens flow in each CK_MEM cycle, half of that
at HOT (R246). -/
def State.deficit (s : State) (st w : Nat) : Nat :=
  let d := mget (0, 0) s.mem.bucket (st * 8 + w)
  let rate := s.rf (bwReg st w) F.TIER_BWREG_RATE * (if s.thermLevel st = 2 then 1 else 2)
  d.1 - meshCycles (s.now - d.2) * rate

/-- Whether a ward's bucket holds a token. -/
def State.hasToken (s : State) (st w : Nat) : Bool :=
  decide (s.deficit st w + 16 ≤ 16 * s.rf (bwReg st w) F.TIER_BWREG_DEPTH)

/-- Whether a request of an owner's slice may proceed: it holds a token, or borrows capacity that nothing else claims. -/
def State.mayGo (s : State) (st owner : Nat) : Bool :=
  decide (8 ≤ owner) || s.hasToken st owner || s.rf (bwReg st owner) F.TIER_BWREG_BORROW = 1

/-- Sets what a bucket is short of its depth, as of now. -/
def State.setBucket (s : State) (st w d : Nat) : State :=
  { s with mem := { s.mem with bucket := mset (0, 0) s.mem.bucket (st * 8 + w) (d, s.now) } }

/-- Served requests use their tokens, as far as the bucket holds them. -/
def State.spendN (s : State) (st owner n : Nat) : State :=
  let k := min n ((16 * s.rf (bwReg st owner) F.TIER_BWREG_DEPTH - s.deficit st owner) / 16)
  if owner < 8 && k ≠ 0 then s.setBucket st owner (s.deficit st owner + 16 * k) else s

/-- `n` line requests for the line's slice reach its controller (R206). -/
def State.charge (s : State) (line n : Nat) : State := s.spendN (homeStack (line * 64)) (s.owner (line * 64)) n

/-- Brings the buckets of a stack up to now, at the rate in force until now (R246). -/
def State.settleBuckets (s : State) (st : Nat) : State :=
  (List.range 8).foldl (fun s w => s.setBucket st w (s.deficit st w)) s

/-! ## Regions -/

/-- The 16 blocks whose 64 KiB lie in region `r` of stack `st` (R22, R233), by block number. -/
def regionBlocks (key : Nat) : List Nat :=
  (List.range 16).map (fun i => stackAddr (key / 65536) ((key % 65536) * 2 ^ 20 + i * 65536) / 65536)

/-- The 32 region keys of a 32 MiB slice: four in each stack (R233). -/
def sliceRegions (slice : Nat) : List Nat :=
  (List.range 32).map (fun i => (i / 4) * 65536 + slice * 4 + i % 4)

/-- A block in the layer store. -/
def State.blk (s : State) (b : Nat) : Option Blk := mget none s.mem.blocks b

/-- Replaces a block's entry. -/
def State.setBlk (s : State) (b : Nat) (x : Option Blk) : State :=
  { s with mem := { s.mem with blocks := mset none s.mem.blocks b x } }

/-- A region enters CLEARING (R234): frames holding its blocks change UNSET marks to OK with zero data in the same
step (R236). -/
def State.enterClearing (s : State) (key rate : Nat) (urgent : Bool) : State :=
  let r := s.region key
  let s := s.setRegion key { r with st := 1, rate := rate, urgent := urgent }
  let bs := regionBlocks key
  { s with mem := { s.mem with
      fmarks := s.mem.fmarks.filter (fun e => !(e.2 = .unset && bs.contains (e.1 / 1024))) } }

/-- The last line of a clearing is written: the region is SET (R234). -/
def State.finishClearing (s : State) (key : Nat) : State :=
  s.setRegion key { s.region key with st := 2, rate := 0, urgent := false }

/-- A region that a write reaches is cleared first (R230); the clearing's time passes within the step (log entry 9). -/
def State.ensureSet (s : State) (key : Nat) : State :=
  match (s.region key).st with
  | 0 => (s.enterClearing key 16 true).finishClearing key
  | 1 => s.finishClearing key
  | _ => s

/-- Starts the fill of a block in a way (R186) and advances the way pointer (R184). -/
def State.startFill (s : State) (h w b cls tag way : Nat) : State :=
  let s := s.setBlk b (some { way := way, st := .filling, ward := w, cls := cls, tag := tag, dirty := [] })
  { s with mem := { s.mem with wayPtr := mset 0 s.mem.wayPtr h ((way + 1) % 16) } }

/-- Nothing waits for the frame of `v`. -/
def State.noDue (s : State) (v : Nat) : State := { s with mem := { s.mem with due := mset none s.mem.due v none } }

/-- The frame of a victim is free: the fill that waits for it starts (R196), unless its block has meanwhile got a frame, changed
hands or been fenced. -/
def State.startDue (s : State) (v : Nat) : State :=
  match mget none s.mem.due v with
  | none => s
  | some d =>
    if (s.blk d.block).isNone && s.owner (d.block * 65536) = d.ward && !s.fenced (d.block * 65536) then
      (s.noDue v).startFill d.half d.ward d.block d.cls d.tag d.way
    else s.noDue v

/-- Fills of a block that wait are given up. -/
def State.dropDue (s : State) (b : Nat) : State :=
  { s with mem := { s.mem with due := s.mem.due.filter (fun e => e.2.map (·.block) ≠ some b) } }

/-- A block's content is discarded with its frame and its lines in the memory-side cache. -/
def State.dropBlock (s : State) (b : Nat) : State :=
  { s with mem := { s.mem with
      hbm := zeroBytes s.mem.hbm (b * 65536) 65536
      marks := meraseRange s.mem.marks (b * 1024) 1024
      cache := meraseRange s.mem.cache (b * 1024) 1024
      blocks := mset none s.mem.blocks b none
      frame := zeroBytes s.mem.frame (b * 65536) 65536
      fmarks := meraseRange s.mem.fmarks (b * 1024) 1024 } }

/-- The content of a region is discarded: its lines leave the memory-side cache, frames of its blocks go without
write-back, and its data is gone (R237). A fill that waited for such a frame starts. -/
def State.dropRegion (s : State) (key : Nat) : State :=
  (regionBlocks key).foldl State.startDue
    ((regionBlocks key).foldl (fun s b => (s.dropDue b).dropBlock b) s)

/-- A region no longer queues for urgent clearing. -/
def State.unqueue (s : State) (key : Nat) : State :=
  let k := s.stack (key / 65536)
  if k.urgentQ.contains (key % 65536) then
    s.setStack (key / 65536) { k with urgentQ := k.urgentQ.filter (fun r => r ≠ key % 65536) }
  else s

/-- A reset of a region to UNSET (R237), keeping its owner. -/
def State.resetRegion (s : State) (key : Nat) : State :=
  ((s.dropRegion key).unqueue key).setRegion key { owner := (s.region key).owner }

/-- A change of owner resets the region first (R238). -/
def State.setOwner (s : State) (key owner : Nat) : State :=
  ((s.dropRegion key).unqueue key).setRegion key { owner := owner }

/-- Every region of a slice gets a new owner (R238, R415). -/
def State.setSliceOwner (s : State) (slice owner : Nat) : State :=
  (sliceRegions slice).foldl (fun s k => s.setOwner k owner) s

/-- Owner of a 32 MiB slice. -/
def State.sliceOwner (s : State) (slice : Nat) : Nat := (s.region (slice * 4)).owner

/-! ## Home lines (R229 to R232) -/

/-- Mark of a home line. -/
def State.mark (s : State) (line : Nat) : Mark := mget .ok s.mem.marks line

/-- Sets the mark of a home line. -/
def State.setMark (s : State) (line : Nat) (m : Mark) : State :=
  { s with mem := { s.mem with marks := mset .ok s.mem.marks line m } }

/-- The 64 bytes of a home line in DRAM. -/
def State.dramLine (s : State) (line : Nat) : List Byte := bytesAt s.mem.hbm (line * 64) 64

/-- Writes a home line in DRAM: a full line, which clears poison (R231). -/
def State.dramPut (s : State) (line : Nat) (data : List Byte) : State :=
  ({ s with mem := { s.mem with hbm := putBytes s.mem.hbm (line * 64) (padTo 64 data) } }).setMark line .ok

/-- Poisons a home line (R231): zero data, sticky until a full-line write. -/
def State.dramPoison (s : State) (line : Nat) : State :=
  ({ s with mem := { s.mem with hbm := zeroBytes s.mem.hbm (line * 64) 64 } }).setMark line .poison

/-- The status that a mark gives a read. -/
def Mark.status : Mark → Nat
  | .ok => St.ok
  | .unset => St.unset
  | .poison => St.poison
  | .tagFail => St.tagFail

/-- Steps 2 to 5 of R229 on the stored line: data, mark, and the state with its corrections, marks, counts and events. -/
def State.dramRead (s : State) (line : Nat) (f : LineFault) : State × List Byte × Mark :=
  let st := homeStack (line * 64)
  let off := stackOff (line * 64)
  if s.mark line = .poison then (s, zeros 64, .poison)
  else if f = .uncorrectable then
    let s := (((s.dramPoison line).bump (R.MEM_ECC_COUNT st) F.MEM_ECC_COUNT_UNCORRECTED 1).memErr st off St.poison)
    (s.memEvent st 0x02 1 off St.poison, zeros 64, .poison)
  else
    let s := if f = .corrected then
        (s.bump (R.MEM_ECC_COUNT st) F.MEM_ECC_COUNT_CORRECTED 1).memEvent st 0x01 1 off 0 else s
    if f = .tagBad || s.mark line = .tagFail then
      let s := ((s.setMark line .tagFail).bump (R.MEM_ECC_COUNT st) F.MEM_ECC_COUNT_TAG_FAILS 1).memErr st off St.tagFail
      (s.memEvent st 0x03 1 off St.tagFail, zeros 64, .tagFail)
    else (s, s.dramLine line, .ok)

/-! ## The memory-side cache (R203 to R205, R232) -/

/-- A cache line, if present. -/
def State.cline (s : State) (line : Nat) : Option CLine := (s.mem.cache.find? (fun e => e.1 = line)).map (·.2)

/-- Puts a line into the cache with the newest stamp. -/
def State.cput (s : State) (line : Nat) (c : CLine) : State :=
  { s with mem := { s.mem with cache := minsert line { c with stamp := s.mem.stamp } s.mem.cache, stamp := s.mem.stamp + 1 } }

/-- Drops a line from the cache. -/
def State.cdrop (s : State) (line : Nat) : State := { s with mem := { s.mem with cache := merase line s.mem.cache } }

/-- Writes a dirty cache line home (a full-line write, R232). -/
def State.cwriteHome (s : State) (line : Nat) (c : CLine) : State :=
  if c.dirty then (if c.mark = .poison then s.dramPoison line else s.dramPut line c.data) else s

/-- The line that replacement takes: one allocated under hint 2 first, then the least recently used (R203). -/
def victim (l : List (Nat × CLine)) : Option (Nat × CLine) :=
  l.foldl (fun best e =>
    match best with
    | none => some e
    | some b =>
      if (e.2.hint2 && !b.2.hint2) || (e.2.hint2 = b.2.hint2 && decide (e.2.stamp < b.2.stamp)) then some e else some b) none

/-- Makes room in the 64 MiB cache of a stack (1,048,576 lines). -/
def State.croom (s : State) (st : Nat) : State :=
  let mine := s.mem.cache.filter (fun e => homeStack (e.1 * 64) = st)
  if mine.length < 1048576 then s
  else match victim mine with
    | some e => (s.cwriteHome e.1 e.2).cdrop e.1
    | none => s

/-- A read of a home line (R203, R229). -/
def State.homeRead (s : State) (line hint : Nat) (last : Bool) (f : LineFault) : State × List Byte × Nat :=
  match (s.region (regionKey (line * 64))).st with
  | 0 => (s, zeros 64, St.unset)
  | 1 => (s, zeros 64, St.ok)
  | _ =>
    match s.cline line with
    | some c =>
      let data := if c.mark = .ok then c.data else zeros 64
      let s := if hint = 2 && last then s.cdrop line else s.cput line c
      (s, data, c.mark.status)
    | none =>
      let (s, data, m) := s.dramRead line f
      if hint = 1 || (hint = 2 && !last) then
        ((s.croom (homeStack (line * 64))).cput line { data := data, dirty := false, hint2 := hint = 2, mark := m }, data, m.status)
      else (s, data, m.status)

/-- What a request that touches neither the cache's order nor its contents reads at home: a fill's line, a read during FILLING, or a
repair of a frame (R187, R194): data and mark. -/
def State.homeView (s : State) (line : Nat) (f : LineFault) : State × List Byte × Mark :=
  match (s.region (regionKey (line * 64))).st with
  | 0 => (s, zeros 64, .unset)
  | 1 => (s, zeros 64, .ok)
  | _ =>
    match s.cline line with
    | some c => (s, if c.mark = .ok then c.data else zeros 64, c.mark)
    | none => s.dramRead line f

/-- The finding of the next home read that carries none of its own. -/
def State.nextFind (s : State) : LineFault := s.mem.finds.headD .good

/-- The finding of the next frame read that carries none of its own. -/
def State.nextEcc (s : State) : Ecc := s.mem.eccs.headD .ok

/-- After `n` home reads. -/
def State.tookFinds (s : State) (n : Nat) : State := { s with mem := { s.mem with finds := s.mem.finds.drop n } }

/-- After a frame read. -/
def State.tookEcc (s : State) : State := { s with mem := { s.mem with eccs := s.mem.eccs.tail } }

/-- Stores a whole line at home through the cache (R203). -/
def State.homePut (s : State) (line hint : Nat) (data : List Byte) : State :=
  match s.cline line with
  | some c => s.cput line { c with data := data, dirty := true, mark := .ok }
  | none =>
    if hint = 1 || hint = 2 then
      (s.croom (homeStack (line * 64))).cput line { data := data, dirty := true, hint2 := hint = 2, mark := .ok }
    else s.dramPut line data

/-- Poisons a line at home, in the cache where it is present. -/
def State.homePoison (s : State) (line : Nat) : State :=
  match s.cline line with
  | some c => s.cput line { c with data := zeros 64, dirty := true, mark := .poison }
  | none => s.dramPoison line

/-- The line that a partial write or a memory-side operation merges into (R230): the data, or the status that prevents it. -/
def State.homeMerge (s : State) (line : Nat) (f : LineFault) : State × Except Nat (List Byte) :=
  let (s, data, m) := match s.cline line with
    | some c => (s, c.data, c.mark)
    | none => s.dramRead line f
  match m with
  | .poison => (s, .error St.poison)
  | .tagFail => (s.homePoison line, .error St.tagFail)
  | _ => (s, .ok data)

/-- A write of a home line in a region that is SET (R230). -/
def State.homeWrite (s : State) (line hint off : Nat) (data : List Byte) (f : LineFault) : State × Nat :=
  if off = 0 ∧ 64 ≤ data.length then (s.homePut line hint (data.take 64), St.ok)
  else
    match s.homeMerge line f with
    | (s, .error st) => (s, st)
    | (s, .ok old) => (s.homePut line hint (overlay old off data), St.ok)

/-! ## Memory-side arithmetic (R240 to R244) -/

/-- Bytes of one element of an operation. -/
def msoSize : Nat → Nat
  | 0 => 4 | 1 => 2 | 2 => 4 | 3 => 8 | 4 => 4 | 5 => 8 | _ => 0

/-- Whether R241 refuses an operation. -/
def msoBad (off : Nat) (op : W64) (operand : List Byte) : Bool :=
  let o := fld op 0 4
  let n := fld op 5 5 + 1
  let sz := msoSize o
  decide (5 < o) || decide (off % sz ≠ 0) || decide (64 < off + n * sz) || (decide (4 ≤ o) && decide (n ≠ 1)) ||
    decide (operand.length < n * sz * (if 4 ≤ o then 2 else 1))

/-- One element combined (R242). -/
def msoElem (o : Nat) (x y z : Nat) : Nat :=
  match o with
  | 0 => fadd x y
  | 1 => (roundTo 1 1 0 ((decodeElem 1 x).add (decodeElem 1 y))).1
  | 2 => (x + y) % 2 ^ 32
  | 3 => (x + y) % 2 ^ 64
  | _ => if x = y then z else x

/-- The line after an operation, and the old values of the elements touched (R241, R242). -/
def msoApply (old : List Byte) (off : Nat) (op : W64) (operand : List Byte) : List Byte × List Byte :=
  let o := fld op 0 4
  let n := fld op 5 5 + 1
  let sz := msoSize o
  let elems := (List.range n).map (fun i =>
    leBytes sz (msoElem o (leNat (slice old (off + i * sz) sz)) (leNat (slice operand (i * sz) sz))
      (leNat (slice operand (sz + i * sz) sz))))
  (overlay old off elems.flatten, slice old off (n * sz))

/-- A memory-side operation on a home line of a SET region (R230, R244): the line is allocated dirty in the cache. Answers
the old values when FETCH asks for them or the operation is a CAS. -/
def State.homeMso (s : State) (line off : Nat) (op : W64) (operand : List Byte) (f : LineFault) : State × List Byte × Nat :=
  if msoBad off op operand then (s, [], St.bounds)
  else
    match s.homeMerge line f with
    | (s, .error st) => (s, [], st)
    | (s, .ok old) =>
      let (new, was) := msoApply old off op operand
      (s.homePut line 1 new, if bitAt op.toNat 4 || 4 ≤ fld op 0 4 then was else [], St.ok)

/-! ## Waiting requests -/

/-- A request joins those that wait (R209, R235). -/
def State.wait (s : State) (w : WaitAcc) : State := { s with mem := { s.mem with waiting := s.mem.waiting ++ [w] } }

/-- The pseudo-channel of a line (R220). -/
def pcOf (line : Nat) : Nat := stackOff (line * 64) / 64 % 64

/-- The bank of a line, numbered within its stack (R219, R220). -/
def bankOf (line : Nat) : Nat :=
  let o := stackOff (line * 64)
  pcOf line * 64 + Nat.xor (bitsOf o 16 6) (bitsOf o 22 6)

/-- Whether the pseudo-channel of a line is out of service for retraining (R223). -/
def State.pcOut (s : State) (line : Nat) : Bool := (s.stack (homeStack (line * 64))).retrain = some (pcOf line)

/-- Urgent clearing in progress in a stack (R235: at most one). -/
def State.urgentBusy (s : State) (st : Nat) : Bool :=
  s.mem.regions.any (fun e => e.1 / 65536 = st && e.2.st = 1 && e.2.urgent)

/-- A write reaches an UNSET region: urgent clearing starts, or queues behind the one in progress (rate 0, R235). -/
def State.startUrgent (s : State) (key : Nat) : State :=
  if (s.region key).st = 0 then
    let st := key / 65536
    let k := s.stack st
    if s.urgentBusy st then
      (if k.urgentQ.contains (key % 65536) then s else s.setStack st { k with urgentQ := k.urgentQ ++ [key % 65536] })
    else s.enterClearing key 16 true
  else s

end Sys2Proof.Machine
end

