-- ==== Sys2Proof/Machine/Tier.lean ====
section
/-! DEFINITION. Memory tiers (chapter 6): blocks and frames, the served access to one line of the unified range, and whole
ranges as the commands read and write them. -/

namespace Sys2Proof.Machine

open Sys2Proof

/-! ## Blocks and frames -/

/-- Set number of a block (R182). -/
def setOf (b : Nat) : Nat := bitsOf b 3 8 * 4 + b % 4

/-- Home half of a block. -/
def blkHalf (b : Nat) : Nat := homeHalf (b * 65536)

/-- Region of a block. -/
def blkRegion (b : Nat) : Nat := regionKey (b * 65536)

/-- A block is fixed while a registered region holds any of its bytes (R190), and in the shared window always (R366). -/
def State.fixed (s : State) (b : Nat) : Bool :=
  s.owner (b * 65536) = 9 ||
  s.xport.regions.any (fun e => match e.2 with
    | some r => decide (r.base < (b + 1) * 65536 ∧ b * 65536 < r.base + r.len)
    | none => false)

/-- Mark of a frame line. -/
def State.fmark (s : State) (line : Nat) : Mark := mget .ok s.mem.fmarks line

/-- Sets the mark of a frame line. -/
def State.setFmark (s : State) (line : Nat) (m : Mark) : State :=
  { s with mem := { s.mem with fmarks := mset .ok s.mem.fmarks line m } }

/-- Bytes of a frame line. -/
def State.frameLine (s : State) (line : Nat) : List Byte := bytesAt s.mem.frame (line * 64) 64

/-- Writes bytes of a frame line. -/
def State.framePut (s : State) (line : Nat) (data : List Byte) : State :=
  { s with mem := { s.mem with frame := putBytes s.mem.frame (line * 64) (padTo 64 data) } }

/-- Releases a frame: the block is HOME again and the frame's content goes. -/
def State.releaseBlk (s : State) (b : Nat) : State :=
  { (s.setBlk b none) with mem := { (s.setBlk b none).mem with
      frame := zeroBytes s.mem.frame (b * 65536) 65536
      fmarks := meraseRange s.mem.fmarks (b * 1024) 1024 } }

/-- Marks a frame line dirty; a CLEAN block becomes DIRTY (R186). -/
def State.markDirty (s : State) (b : Nat) (x : Blk) (line : Nat) : State :=
  s.setBlk b (some { x with dirty := nput x.dirty (line % 1024) true, st := if x.st = .clean then .dirty else x.st })

/-- Adds to the cycles in which a mover of a half moved data: 512 bytes in each CK_MESH cycle (R200, R214, R215; log entry 16). -/
def State.moverCycles (s : State) (h lines : Nat) : State :=
  { s with mem := { s.mem with moverBusy := mmod 0 s.mem.moverBusy h (fun n => (n + ceilDiv lines 8) % 2 ^ 64) } }

/-- The lines of a block that a fill finds in DRAM other than sound (R192, R229), with what is found: those whose tag failed before,
and those that the next findings name; a line that the memory-side cache holds is not read from DRAM (R205). -/
def State.fillReads (s : State) (b : Nat) : List (Nat × LineFault) :=
  if s.mem.finds.isEmpty then
    (s.mem.marks.filter (fun e => e.1 / 1024 = b && e.2 = .tagFail && (s.cline e.1).isNone)).map (fun e => (e.1, LineFault.good))
  else
    (((List.range 1024).map (fun i => (b * 1024 + i, s.mem.finds.getD i .good))).filter (fun e =>
      (s.cline e.1).isNone && (e.2 ≠ .good || s.mark e.1 = .tagFail)))

/-- The block's memory copied to its frame with its marks, each line read as R229 reads it. -/
def State.copyFrame (s : State) (b : Nat) : State :=
  let s := ((s.fillReads b).foldl (fun s e => (s.dramRead e.1 e.2).1) s).tookFinds 1024
  { s with mem := { s.mem with
      frame := mcopyRange s.mem.hbm s.mem.frame (b * 65536) 65536
      fmarks := mcopyRange s.mem.marks s.mem.fmarks (b * 1024) 1024 } }

/-- A line that the memory-side cache holds goes to the frame (R205): a dirty one makes its line of the frame dirty and leaves the cache, a
clean one counts as used. -/
def State.takeDirty (s : State) (b : Nat) (x : Blk) (e : Nat × CLine) : State :=
  let s := (s.framePut e.1 (if e.2.mark = .ok then e.2.data else zeros 64)).setFmark e.1 e.2.mark
  if e.2.dirty then
    (s.cdrop e.1).setBlk b (some { (s.blk b).getD x with dirty := nput ((s.blk b).getD x).dirty (e.1 % 1024) true })
  else s.cput e.1 e.2

/-- The copy of a block into its frame (R192, R205): bytes and marks of home; a region never written marks every line
UNSET; a line dirty in the memory-side cache supplies the fill, is dropped there and is dirty in the frame. -/
def State.fillCopy (s : State) (b : Nat) (x : Blk) : State :=
  match (s.region (blkRegion b)).st with
  | 0 =>
    let ms : List (Nat × Mark) := (List.range 1024).map (fun i => (b * 1024 + i, Mark.unset))
    { s with mem := { s.mem with
        frame := zeroBytes s.mem.frame (b * 65536) 65536
        fmarks := mcopyRange ms s.mem.fmarks (b * 1024) 1024 } }
  | 1 =>
    { s with mem := { s.mem with
        frame := zeroBytes s.mem.frame (b * 65536) 65536
        fmarks := meraseRange s.mem.fmarks (b * 1024) 1024 } }
  | _ =>
    (s.mem.cache.filter (fun e => e.1 / 1024 = b)).foldl (fun s e => s.takeDirty b x e) (s.copyFrame b)

/-- The last line of a fill is copied (R186): CLEAN, or DIRTY when a line came dirty from the cache. -/
def State.finishFill (s : State) (b : Nat) : State :=
  match s.blk b with
  | some x =>
    if x.st = .filling then
      let s := ((s.charge (b * 1024) 1024).fillCopy b x).moverCycles (blkHalf b) 1024
      match s.blk b with
      | some y => s.setBlk b (some { y with st := if y.dirty.isEmpty then .clean else .dirty })
      | none => s
    else s
  | none => s

/-- Write-back of a block's dirty lines (R193, R205): full lines through the cache; a poisoned line poisons its home line. -/
def State.writeBack (s : State) (b : Nat) (x : Blk) : State :=
  if x.dirty.isEmpty then s
  else
    let s := ((s.charge (b * 1024) x.dirty.length).moverCycles (blkHalf b) x.dirty.length).ensureSet (blkRegion b)
    x.dirty.foldl (fun s e =>
      let line := b * 1024 + e.1
      if s.fmark line = .poison then s.homePoison line else s.homePut line 0 (s.frameLine line)) s

/-- The last dirty line is written home (R186); a fill that waited for the frame starts (R196). -/
def State.finishDrain (s : State) (b : Nat) : State :=
  match s.blk b with
  | some x =>
    match x.st with
    | .drainRelease => ((s.writeBack b x).releaseBlk b).startDue b
    | .drainKeep => (s.writeBack b x).setBlk b (some { x with st := .clean, dirty := [] })
    | _ => s
  | none => s

/-- Ends whatever keeps a block FILLING or DRAINING; in a fenced stack nothing does (R247). -/
def State.settle (s : State) (b : Nat) : State :=
  if s.fenced (b * 65536) then s
  else match s.blk b with
  | some x =>
    match x.st with
    | .filling => s.finishFill b
    | .drainKeep => s.finishDrain b
    | .drainRelease => s.finishDrain b
    | _ => s
  | none => s

/-- An evict of a settled block (R186): CLEAN goes home at once, DIRTY starts draining. -/
def State.evict (s : State) (b : Nat) : State :=
  match s.blk b with
  | some x =>
    match x.st with
    | .clean => s.releaseBlk b
    | .dirty => s.setBlk b (some { x with st := .drainRelease })
    | _ => s
  | none => s

/-- A clean operation (R186): DIRTY starts draining and keeps its frame. -/
def State.cleanBlk (s : State) (b : Nat) : State :=
  match s.blk b with
  | some x => if x.st = .dirty then s.setBlk b (some { x with st := .drainKeep }) else s
  | none => s

/-- The layer counter of ward `w`'s walker in a half (R198). -/
def State.layerCtr (s : State) (h w : Nat) : Nat :=
  s.ctr (128 + 16 * h + s.rf (R.TIER_WALK_CTRL h w) F.TIER_WALK_CTRL_LC_ENGINE) (s.rf (R.TIER_WALK_CTRL h w) F.TIER_WALK_CTRL_LC_CTR)

/-- How far a layer tag lies behind the layer counter, biased so that older tags are larger. -/
def tagAge (c tag : Nat) : Nat := (c + 65536 + 0x8000 - tag % 65536) % 65536

/-- What a fill finds in its set (R196): a free way, a frame to take first (a CLEAN or DIRTY block), or nothing. -/
inductive FrameFind where
  | free (way : Nat)
  | take (b : Nat) (way : Nat)
  | none
deriving DecidableEq, Repr

/-- Blocks in the layer store of a half and set. -/
def State.inSet (s : State) (h st : Nat) : List (Nat × Blk) :=
  s.mem.blocks.filterMap (fun e => match e.2 with
    | some x => if blkHalf e.1 = h && setOf e.1 = st then some (e.1, x) else none
    | none => none)

/-- Distance of a way from the way pointer. -/
def wayDist (ptr way : Nat) : Nat := (way + 16 - ptr % 16) % 16

/-- The best candidate by age, equal ages from the way pointer onward (R184, R196). -/
def oldest (ptr c : Nat) (l : List (Nat × Blk)) : Option (Nat × Blk) :=
  l.foldl (fun best e =>
    match best with
    | none => some e
    | some b =>
      if tagAge c b.2.tag < tagAge c e.2.tag ||
          (tagAge c b.2.tag = tagAge c e.2.tag && decide (wayDist ptr e.2.way < wayDist ptr b.2.way)) then some e else some b) none

/-- The frame a fill of ward `w` may take (R195, R196). -/
def State.findFrame (s : State) (h w b cls : Nat) : FrameFind :=
  let ways := s.rf (R.TIER_WARD_WAYS h w) F.TIER_WARD_WAYS_WAYS
  let ptr := mget 0 s.mem.wayPtr h
  let here := (s.inSet h (setOf b)).filter (fun e => bitAt ways e.2.way)
  let free := (List.range 16).map (fun i => (ptr + i) % 16) |>.filter (fun k => bitAt ways k && !(here.any (fun e => e.2.way = k)))
  match free with
  | k :: _ => .free k
  | [] =>
    let c := s.layerCtr h w
    let idle := here.filter (fun e => (e.2.st = .clean || e.2.st = .dirty) && !(s.fixed e.1))
    match oldest ptr c (idle.filter (fun e => e.2.cls = 0 && reached c (e.2.tag + 1))) with
    | some e => .take e.1 e.2.way
    | none =>
      if cls = 1 || cls = 2 then
        match oldest ptr c (idle.filter (fun e => e.2.cls = 1)) with
        | some e => .take e.1 e.2.way
        | none => .none
      else .none

/-- What became of a migration of one block. -/
inductive MigRes where
  | started | present | skipped | draining | noFrame
deriving DecidableEq, Repr

/-- A fill that waits for the frame of `v` (R196). -/
def State.setDue (s : State) (v : Nat) (d : FillDue) : State := { s with mem := { s.mem with due := mset none s.mem.due v (some d) } }

/-- The victim for whose frame a block waits. -/
def State.dueOf (s : State) (b : Nat) : Option (Nat × FillDue) :=
  s.mem.due.findSome? (fun e => match e.2 with
    | some d => if d.block = b then some (e.1, d) else none
    | none => none)

/-- A migration of one block (R181, R186, R190, R195, R196). A DIRTY victim drains, and the fill waits for its frame. -/
def State.migrate (s : State) (h w b cls tag : Nat) : State × MigRes :=
  if blkHalf b ≠ h || s.fixed b || s.fenced (b * 65536) then (s, .skipped)
  else
    let s := s.settle b
    match s.blk b, s.dueOf b with
    | some x, _ => (s.setBlk b (some { x with cls := cls, tag := tag }), .present)
    | none, some (v, d) => (s.setDue v { d with cls := cls, tag := tag }, .draining)
    | none, none =>
      match s.findFrame h w b cls with
      | .free k => (s.startFill h w b cls tag k, .started)
      | .take v k =>
        match s.blk v with
        | some x =>
          if x.st = .clean then ((s.releaseBlk v).startFill h w b cls tag k, .started)
          else ((s.evict v).setDue v { block := b, half := h, ward := w, cls := cls, tag := tag, way := k }, .draining)
        | none => (s, .noFrame)
      | .none => (s, .noFrame)

/-! ## One line access (R187 to R194) -/

/-- A read of a frame line with what its SEC-DED code finds (R192, R194). -/
def State.frameRead (s : State) (b : Nat) (x : Blk) (line : Nat) (ecc : Ecc) : State × List Byte × Nat :=
  let h := blkHalf b
  let rec0 := ev (halfCode 0x1102 h) 1 h 1
  let out (s : State) : State × List Byte × Nat :=
    (s, if s.fmark line = .ok then s.frameLine line else zeros 64, (s.fmark line).status)
  match ecc with
  | .ok => out s
  | .single => out (s.raise { rec0 with addr := line * 64 })
  | .double =>
    let s := s.raise { rec0 with code := halfCode 0x1103 h, addr := line * 64 }
    if nmem x.dirty (line % 1024) then
      out ((s.framePut line (zeros 64)).setFmark line .poison)
    else
      let r := ((s.charge line 1).tookFinds 1).homeView line s.nextFind
      out ((r.1.framePut line r.2.1).setFmark line r.2.2)

/-- A write into a frame (R192): the rules of R230 with the recorded mark in place of the home state. Part of a line is read first
(R194). -/
def State.frameWrite (s : State) (b : Nat) (x : Blk) (line off : Nat) (data : List Byte) (ecc : Ecc) : State × Nat :=
  if off = 0 ∧ 64 ≤ data.length then (((s.framePut line data).setFmark line .ok).markDirty b x line, St.ok)
  else
    let s := (s.frameRead b x line ecc).1
    match s.fmark line with
    | .poison => (s, St.poison)
    | .tagFail => (((s.framePut line (zeros 64)).setFmark line .poison).markDirty b x line, St.tagFail)
    | .unset => (((s.framePut line (overlay (zeros 64) off data)).setFmark line .ok).markDirty b x line, St.ok)
    | .ok => ((s.framePut line (overlay (s.frameLine line) off data)).markDirty b x line, St.ok)

/-- A write to a frame's line that is marked UNSET clears its region first (R230, R236): the state, and whether the write waits for
an urgent clearing that runs before. -/
def State.frameUnset (s : State) (line : Nat) (force : Bool) : State × Bool :=
  let key := regionKey (line * 64)
  if s.fmark line ≠ .unset then (s, false)
  else if force then (s.ensureSet key, false)
  else (s.startUrgent key, decide (((s.startUrgent key).region key).st = 0))

/-- The answer to a line access: the state, data, status, or that it waits. -/
structure LineRes where
  s : State
  data : List Byte := []
  status : Nat := 0
  waits : Bool := false

/-- An access to a fenced stack (R247): the spec states no data for such a read, so its bytes are free. -/
def State.fencedRes (s : State) (acc : LineAccess) : LineRes :=
  match acc with
  | .read _ _ => { s := s.drew 8, data := s.freeBytes 64, status := St.thermalAbort }
  | _ => { s := s, status := St.thermalAbort }

/-- An access served at home (R187, R206, R229, R230, R244). Where `force` holds, what the access waits for passes within the
step; otherwise it waits. -/
def State.serveHome (s : State) (line : Nat) (acc : LineAccess) (f : LineFault) (force : Bool) : LineRes :=
  let key := regionKey (line * 64)
  match acc with
  | .read hint last =>
    let (s, d, st) := (s.charge line 1).homeRead line hint last f
    { s := s, data := d, status := st }
  | .write hint off data =>
    if !force && (s.region key).st ≠ 2 then { s := s.startUrgent key, waits := true }
    else
      let (s, st) := ((s.charge line 1).ensureSet key).homeWrite line hint off data f
      { s := s, status := st }
  | .atomic off op operand =>
    if msoBad off op operand then { s := s, status := St.bounds }
    else if !force && (s.region key).st ≠ 2 then { s := s.startUrgent key, waits := true }
    else
      let (s, d, st) := ((s.charge line 1).ensureSet key).homeMso line off op operand f
      { s := s, data := d, status := st }

/-- A line that the host may hold is snooped back before a requester of the module accesses it (R366). -/
def State.backInvalidate (s : State) (line : Nat) : State :=
  if s.mem.snoop.contains line then { s with mem := { s.mem with snoop := s.mem.snoop.filter (fun l => l ≠ line) } } else s

/-- A write to a line of a block that holds its frame (R187, R192). -/
def State.serveFrame (s : State) (b : Nat) (x : Blk) (line off : Nat) (data : List Byte) (ecc : Ecc) (force : Bool) : LineRes :=
  let u := s.frameUnset line force
  if u.2 then { s := u.1, waits := true }
  else
    let r := u.1.frameWrite b x line off data ecc
    { s := r.1, status := r.2 }

/-- A memory-side operation that ends with BOUNDS wherever its line lies (R191, R241); BOUNDS ranks before a fence (R14). -/
def State.opBad (s : State) (line : Nat) (acc : LineAccess) : Bool :=
  match acc with
  | .atomic off op operand =>
    msoBad off op operand || (s.fixed (line / 1024) &&
      (match s.blk (line / 1024) with
        | some x => x.st = .clean || x.st = .dirty
        | none => false))
  | _ => false

/-- A line access to the unified range by the block's state (R187, R191, R247). -/
def State.serve (s : State) (line : Nat) (acc : LineAccess) (ecc : Ecc) (f : LineFault) (force : Bool) : LineRes :=
  let b := line / 1024
  if s.opBad line acc then { s := s, status := St.bounds }
  else if s.fenced (line * 64) then
    s.fencedRes acc
  else
    match s.blk b with
    | none => (s.backInvalidate line).serveHome line acc f force
    | some x =>
      match acc, x.st with
      | .read _ _, .filling =>
        -- served at home; the cache ignores the hint (chapter 6, the memory-side cache)
        let r := (s.charge line 1).homeView line f
        { s := r.1, data := r.2.1, status := r.2.2.status }
      | .read _ _, _ =>
        let (s, d, st) := s.frameRead b x line ecc
        { s := s, data := d, status := st }
      | .write _ off data, .clean => s.serveFrame b x line off data ecc force
      | .write _ off data, .dirty => s.serveFrame b x line off data ecc force
      | .write hint off data, _ =>
        if !force then { s := s, waits := true }
        else
          match (s.settle b).blk b with
          | none => (s.settle b).serveHome line (.write hint off data) f true
          | some y => (s.settle b).serveFrame b y line off data ecc true
      | .atomic off op operand, st =>
        if force then
          if (s.settle b).opBad line (.atomic off op operand) then { s := s.settle b, status := St.bounds }
          else (((s.settle b).evict b).finishDrain b).serveHome line (.atomic off op operand) f true
        else if st = .clean then (s.releaseBlk b).serveHome line (.atomic off op operand) f false
        else { s := s.evict b, waits := true }

/-- A request as it was made: at the controller itself, or by the block's state. -/
def State.serveAs (s : State) (w : WaitAcc) (force : Bool) : LineRes :=
  if w.home then
    if s.opBad w.line w.acc then { s := s, status := St.bounds }
    else if s.fenced (w.line * 64) then s.fencedRes w.acc
    else s.serveHome w.line w.acc w.fault force
  else s.serve w.line w.acc w.ecc w.fault force

/-- What still waits for a line is served, in order of arrival, before a later command reaches that line (R209; log entry 9). -/
def State.passWaiting (s : State) (line : Nat) : State :=
  (s.mem.waiting.filter (fun w => w.line = line)).foldl (fun s w => (s.serveAs w true).s)
    { s with mem := { s.mem with waiting := s.mem.waiting.filter (fun w => w.line ≠ line) } }

/-- Whether an access reads the line as it stands. -/
def readsLine : LineAccess → Bool
  | .write _ off data => !(off = 0 && decide (64 ≤ data.length))
  | _ => true

/-- Whether an access is served from a frame. -/
def State.inFrame (s : State) (line : Nat) : Bool :=
  match s.blk (line / 1024) with
  | some x => x.st ≠ .filling
  | none => false

/-- One line access of a command: what waits for the line comes first; findings are the next ones (log entry 10). -/
def State.serveNext (s : State) (line : Nat) (acc : LineAccess) : LineRes :=
  let s := s.passWaiting line
  if !readsLine acc then s.serve line acc .ok .good true
  else if s.inFrame line then s.tookEcc.serve line acc s.nextEcc .good true
  else (s.tookFinds 1).serve line acc .ok s.nextFind true

/-! ## Whole ranges, as commands and packets read and write them (R189: line by line) -/

/-- A read of `n` bytes of the unified range: data and the first status under R14. -/
def State.uRead (s : State) (a n hint : Nat) (last : Bool) : State × List Byte × Nat :=
  (linesOf a n).foldl (fun (acc : State × List Byte × Nat) line =>
    let r := acc.1.serveNext line (.read hint last)
    let lo := if line * 64 < a then a - line * 64 else 0
    let hi := min 64 (a + n - line * 64)
    (r.s, acc.2.1 ++ slice (padTo 64 r.data) lo (hi - lo), worst acc.2.2 r.status)) (s, [], St.ok)

/-- A write of bytes to the unified range. -/
def State.uWrite (s : State) (a hint : Nat) (data : List Byte) : State × Nat :=
  (linesOf a data.length).foldl (fun (acc : State × Nat) line =>
    let lo := if line * 64 < a then a - line * 64 else 0
    let hi := min 64 (a + data.length - line * 64)
    let r := acc.1.serveNext line (.write hint lo (slice data (line * 64 + lo - a) (hi - lo)))
    (r.s, worst acc.2 r.status)) (s, St.ok)

/-- Poisons one line of the unified range, in its frame or at home (R548, R231). -/
def State.uPoison (s : State) (line : Nat) : State :=
  let s := (s.passWaiting line).settle (line / 1024)
  if s.fenced (line * 64) then s
  else match s.blk (line / 1024) with
  | some x => ((s.framePut line (zeros 64)).setFmark line .poison).markDirty (line / 1024) x line
  | none => (s.ensureSet (regionKey (line * 64))).homePoison line

/-- An atomic on the unified range. -/
def State.uAtomic (s : State) (a : Nat) (op : W64) (operand : List Byte) : State × List Byte × Nat :=
  let r := s.serveNext (a / 64) (.atomic (a % 64) op operand)
  (r.s, r.data, r.status)

/-- Whether every byte of a unified range has this owner. -/
def State.ownedBy (s : State) (a n owner : Nat) : Bool :=
  decide (a + n ≤ 2 ^ 39) && (List.range ((a + n - 1) / 2 ^ 25 - a / 2 ^ 25 + 1)).all (fun i => s.sliceOwner (a / 2 ^ 25 + i) = owner)

/-! ## The host window through the device cache (R363, R364) -/

/-- Whether requests to the host window are served (R364). -/
def State.hostReady (s : State) : Bool := decide (s.rf R.HOST_LINK_STATUS F.HOST_LINK_STATUS_SPEED ≠ 0) && s.mem.hostCfg

/-- Host physical address of a host-window address (R363). -/
def State.hostPhys (s : State) (a : Nat) : Nat :=
  s.rf R.HOST_HW_BASE F.HOST_HW_BASE_BASE * 2 ^ 30 + (a - hostWindowBase)

/-- A device-cache line, if present. -/
def State.dline (s : State) (line : Nat) : Option CLine := (s.mem.dcache.find? (fun e => e.1 = line)).map (·.2)

/-- Puts a device-cache line, making room in the 8 MiB (the least recently used line goes, a dirty one to host memory). -/
def State.dput (s : State) (line : Nat) (c : CLine) : State :=
  let s := if s.mem.dcache.length < 131072 || (s.dline line).isSome then s
    else match victim s.mem.dcache with
      | some e =>
        let s := if e.2.dirty then
            { s with mem := { s.mem with host := putBytes s.mem.host (s.hostPhys (e.1 * 64)) e.2.data } } else s
        { s with mem := { s.mem with dcache := merase e.1 s.mem.dcache } }
      | none => s
  { s with mem := { s.mem with dcache := minsert line { c with stamp := s.mem.stamp } s.mem.dcache, stamp := s.mem.stamp + 1 } }

/-- The 64 bytes of a host-window line as the module sees them. -/
def State.hostLine (s : State) (line : Nat) : List Byte :=
  match s.dline line with
  | some c => c.data
  | none => bytesAt s.mem.host (s.hostPhys (line * 64)) 64

/-- A read of the host window. -/
def State.hRead (s : State) (a n : Nat) : State × List Byte × Nat :=
  if !s.hostReady then (s, zeros n, St.aborted)
  else
    (linesOf a n).foldl (fun (acc : State × List Byte × Nat) line =>
      let d := acc.1.hostLine line
      let c := (acc.1.dline line).getD { data := d }
      let lo := if line * 64 < a then a - line * 64 else 0
      let hi := min 64 (a + n - line * 64)
      (acc.1.dput line c, acc.2.1 ++ slice d lo (hi - lo), acc.2.2)) (s, [], St.ok)

/-- A write of the host window: the lines become dirty in the device cache. -/
def State.hWrite (s : State) (a : Nat) (data : List Byte) : State × Nat :=
  if !s.hostReady then (s, St.aborted)
  else
    ((linesOf a data.length).foldl (fun (s : State) line =>
      let lo := if line * 64 < a then a - line * 64 else 0
      let hi := min 64 (a + data.length - line * 64)
      s.dput line { data := overlay (s.hostLine line) lo (slice data (line * 64 + lo - a) (hi - lo)), dirty := true }) s, St.ok)

/-! ## Device addresses as a ward's requesters reach them (R26) -/

/-- Whether a host-window range lies in a region that the ward has registered (R26, R363). -/
def State.hostRegistered (s : State) (w a n : Nat) : Bool :=
  s.xport.regions.any (fun e => match e.2 with
    | some r => r.ward = w && r.phase ≠ 0 && decide (r.base ≤ a ∧ a + n ≤ r.base + r.len)
    | none => false)

/-- The checks of a ward's access to `n` bytes at a device address, before any data moves (R14, R19, R21, R26, R117). -/
def State.devCheck (s : State) (w : Option Nat) (a n : Nat) : Nat :=
  match spaceOfRange a n with
  | .unified =>
    match w with
    | some w => if s.ownedBy a n w then St.ok else St.wardFault
    | none => St.wardFault
  | .host =>
    match w with
    | some w => if s.hostRegistered w a n then St.ok else St.wardFault
    | none => St.wardFault
  | _ => St.bounds

/-- A read of `n` bytes at a checked device address. -/
def State.devRead (s : State) (a n hint : Nat) (last : Bool) : State × List Byte × Nat :=
  match spaceOf a with
  | .unified => s.uRead a n hint last
  | .host => s.hRead a n
  | _ => (s, zeros n, St.bounds)

/-- A write at a checked device address. -/
def State.devWrite (s : State) (a hint : Nat) (data : List Byte) : State × Nat :=
  match spaceOf a with
  | .unified => s.uWrite a hint data
  | .host => s.hWrite a data
  | _ => (s, St.bounds)

end Sys2Proof.Machine
end

