-- ==== Sys2Proof/Machine/Move.lean ====
section
/-! DEFINITION. Moves: LOAD, STORE, GATHER and SEND to a cell (R107, R114, R117, R119, R211, R212, R548). -/

namespace Sys2Proof.Machine

open Sys2Proof

/-- Bytes read from an operand, which of them come from poisoned cell-store lines (offset, length), and the status. -/
structure ReadRes where
  s : State
  data : List Byte
  bad : List (Nat × Nat)
  status : Nat

/-- The core whose store an operand names: its own in SPACE 0, a cell's in SPACE 3. -/
def storeOf (k : Nat) (o : Operand) : Nat := if o.space = 3 then o.cell else k

/-- Checks of an operand that a move may name in one of `spaces`, for rows of `rb` bytes at a step (R26, R41, R100, R102, R117,
R119). A device address is held to the ward's memory whatever else is wrong with the operand (R14); of an operand without a byte, its
first address is. -/
def State.moveChk (s : State) (k : Nat) (spaces : List Nat) (o : Operand) (rows step rb : Nat) : Nat :=
  worst (chk (!spaces.contains o.space) St.bounds)
    (if o.space = 2 then
      worst (chk (decide (o.addr % 16 ≠ 0) || decide (step < rb)) St.bounds)
        (worstOf ((List.range (max 1 rows)).map (fun r => s.devCheck (s.wardOfCore k) (o.addr + r * step) (max 1 rb))))
    else if spaces.contains o.space then
      worst (chk (storeBad (storeOf k o) o.off rows step rb) St.bounds) (if o.space = 3 then s.targetChk k o.cell else St.ok)
    else St.ok)

/-- The parts of a byte range of a store that lie on poisoned lines, relative to its start. -/
def State.badParts (s : State) (k off n : Nat) : List (Nat × Nat) :=
  (linesOf off n).filterMap (fun l =>
    if s.csLineBad k l then
      let lo := max (l * 64) off
      let hi := min (l * 64 + 64) (off + n)
      some (lo - off, hi - lo)
    else none)

/-- Reads `n` bytes of an operand from byte `at_` of it. -/
def State.readSide (s : State) (k : Nat) (o : Operand) (at_ n : Nat) : ReadRes :=
  if o.space = 2 then
    let r := s.devRead (o.addr + at_) n o.hint o.last
    { s := r.1, data := r.2.1, bad := [], status := r.2.2 }
  else
    let c := storeOf k o
    let bad := s.badParts c (o.off + at_) n
    { s := s, data := s.csBytes c (o.off + at_) n, bad := bad, status := if bad.isEmpty then St.ok else St.poison }

/-- Whether a line receives a byte of a bad part (address, bytes). -/
def badLine (bad : List (Nat × Nat)) (line : Nat) : Bool :=
  bad.any (fun p => decide (p.1 < line * 64 + 64 ∧ line * 64 < p.1 + p.2))

/-- Writes bytes at a device address. `bad` are the addresses where the command puts bytes of a poisoned line: a line of the host window
that would receive one of them is not written (R548). -/
def State.devPut (s : State) (a hint : Nat) (data : List Byte) (bad : List (Nat × Nat)) : State × Nat :=
  if bad.isEmpty || spaceOf a ≠ .host then s.devWrite a hint data
  else
    (linesOf a data.length).foldl (fun (acc : State × Nat) line =>
      if badLine bad line then acc
      else
        let lo := max (line * 64) a
        let hi := min (line * 64 + 64) (a + data.length)
        let r := acc.1.hWrite lo (slice data (lo - a) (hi - lo))
        (r.1, worst acc.2 r.2)) (s, St.ok)

/-- Writes bytes to an operand from byte `at_` of it; `bad` as for devPut. -/
def State.writeSide (s : State) (k : Nat) (o : Operand) (at_ : Nat) (data : List Byte) (bad : List (Nat × Nat)) : State × Nat :=
  if o.space = 2 then s.devPut (o.addr + at_) o.hint data bad
  else (s.csWrite (storeOf k o) (o.off + at_) data, St.ok)

/-- The lines of an operand that have received bytes of a poisoned line are poisoned: of a core's store, and of the unified range
(R548). -/
def State.poisonSide (s : State) (k : Nat) (o : Operand) (bad : List (Nat × Nat)) : State :=
  let lines := (bad.map (fun p => linesOf p.1 p.2)).flatten
  if o.space = 2 then (if spaceOf o.addr = .host then s else lines.foldl State.uPoison s)
  else lines.foldl (fun s l => s.csPoison (storeOf k o) l) s

/-- Rows as single spans: packed rows are one span. -/
def spansOf (rows step rb : Nat) : List (Nat × Nat) :=
  if step = rb then [(0, rows * rb)] else (List.range rows).map (fun r => (r * step, rb))

/-- Re-bases bad parts into the row `r` of `rb` bytes of a packed buffer. -/
def cutParts (lo n : Nat) (bad : List (Nat × Nat)) : List (Nat × Nat) :=
  bad.filterMap (fun p =>
    let a := max p.1 lo
    let b := min (p.1 + p.2) (lo + n)
    if a < b then some (a - lo, b - a) else none)

/-- Where the bad parts of a packed buffer go, when it is laid out in these spans from an address. -/
def badSpans (base : Nat) (bad : List (Nat × Nat)) : List (Nat × Nat) → Nat → List (Nat × Nat)
  | [], _ => []
  | sp :: l, at_ => (cutParts at_ sp.2 bad).map (fun p => (base + sp.1 + p.1, p.2)) ++ badSpans base bad l (at_ + sp.2)

/-- The address of an operand's first byte in its memory. -/
def Operand.base (o : Operand) : Nat := if o.space = 2 then o.addr else o.off

/-- Copies rows from one operand to another (R107, R548). The whole source is read before a byte is written (log entry 36). -/
def State.copyRows (s : State) (k : Nat) (src dst : Operand) (rows sstep dstep rb : Nat) : State × Nat :=
  let r := (spansOf rows sstep rb).foldl (fun (acc : ReadRes) sp =>
    let x := acc.s.readSide k src sp.1 sp.2
    { s := x.s, data := acc.data ++ x.data, bad := acc.bad ++ x.bad.map (fun p => (p.1 + acc.data.length, p.2)),
      status := worst acc.status x.status }) { s := s, data := [], bad := [], status := St.ok }
  let bad := badSpans dst.base r.bad (spansOf rows dstep rb) 0
  let w := (List.foldl (fun (acc : (State × Nat) × Nat) sp =>
    let w := acc.1.1.writeSide k dst sp.1 (slice r.data acc.2 sp.2) bad
    ((w.1, worst acc.1.2 w.2), acc.2 + sp.2)) ((r.s, r.status), 0) (spansOf rows dstep rb)).1
  (w.1.poisonSide k dst bad, w.2)

/-- A LOAD or STORE with the spaces its two operands may name. -/
def State.loadStore (s : State) (k : Nat) (errs : List (Nat × Bool)) (srcs dsts : List Nat) (e : Issued) : State × Nat :=
  let c := e.cmd
  let a := operand c.w1
  let d := operand c.w2
  let sh := shape c.w3
  let rb := rowBytes c.fmtA sh.elems
  let ss := rowStep sh.srcPitch rb
  let ds := rowStep sh.dstPitch rb
  let st := worst (worst (chk (fmtReserved c.fmtA) St.formatInvalid) (chk (shapeBad sh || !wholeBytes c.fmtA sh.elems) St.bounds))
    (worst (s.moveChk k srcs a sh.rows ss rb) (s.moveChk k dsts d sh.rows ds rb))
  if st ≠ St.ok then (s, st)
  else
    let s := if a.space = 2 then s else s.csScan (storeOf k a) (rowRanges a.off sh.rows ss rb) errs
    s.copyRows k a d sh.rows ss ds rb

/-- LOAD (R107, R119). -/
def execLoad (core : Nat) (errs : List (Nat × Bool)) (s : State) : Host.Outcome State Fault Refusal :=
  .next (s.runFront core 0x10
    (s.loadStore core errs (if isCell core then [2] else [0, 2, 3]) (if isCell core then [0] else [0, 2, 3])))

/-- STORE (R107, R119). -/
def execStore (core : Nat) (errs : List (Nat × Bool)) (s : State) : Host.Outcome State Fault Refusal :=
  .next (s.runFront core 0x11
    (s.loadStore core errs (if isCell core then [0] else [0, 2, 3]) (if isCell core then [2] else [0, 2, 3])))

/-- The smallest power of two that is at least `n`. -/
def pow2Above (n : Nat) : Nat := if n ≤ 1 then 1 else 2 ^ (log2 (n - 1) + 1)

/-- Whether an address of a GATHER list breaks R211 for rows of `rb` bytes. -/
def gatherBad (a rb : Nat) : Bool :=
  decide (2 ^ 48 ≤ a) || decide (4096 < rb) || decide (a % min 16 (pow2Above rb) ≠ 0) ||
    (if rb ≤ 64 then decide (64 < a % 64 + rb) else decide (a % 64 ≠ 0))

/-- The effect of a GATHER. -/
def State.gather (s : State) (k : Nat) (e : Issued) : State × Nat :=
  let c := e.cmd
  let a := operand c.w1
  let d := operand c.w2
  let sh := shape c.w3
  let rb := rowBytes c.fmtA sh.elems
  let st := worst (worst (chk (fmtReserved c.fmtA) St.formatInvalid)
      (chk (shapeBad sh || !wholeBytes c.fmtA sh.elems || decide (4096 < rb)) St.bounds))
    (worst (s.moveChk k [2] a 1 (8 * sh.rows) (8 * sh.rows)) (s.moveChk k [2, 3] d 1 (sh.rows * rb) (sh.rows * rb)))
  if st ≠ St.ok then (s, st)
  else
    let l := s.devRead a.addr (8 * sh.rows) a.hint a.last
    if l.2.2 ≠ St.ok ∧ l.2.2 ≠ St.unset then (l.1, l.2.2)
    else
      let s := l.1
      let addrs := (List.range sh.rows).map (fun i => leNat (slice l.2.1 (8 * i) 8))
      let st := worst (chk (addrs.any (fun x => gatherBad x rb)) St.bounds)
        (worstOf (addrs.map (fun x => s.devCheck (s.wardOfCore k) x rb)))
      if st ≠ St.ok then (s, st)
      else
        let r := addrs.foldl (fun (acc : State × List Byte × Nat) x =>
          let y := acc.1.devRead x rb 0 false
          let data := if y.2.2 ∈ [St.poison, St.tagFail, St.unset] then zeros rb else y.2.1
          (y.1, acc.2.1 ++ data, worst acc.2.2 y.2.2)) (s, [], l.2.2)
        let w := r.1.writeSide k d 0 r.2.1 []
        (w.1, worst r.2.2 w.2)

/-- GATHER (R211). -/
def execGather (core : Nat) (s : State) : Host.Outcome State Fault Refusal :=
  .next (s.runFront core 0x12 (s.gather core))

/-! ## SEND to a cell (R104, R114, R117) -/

/-- DKIND of a SEND. -/
def Cmd.dkind (c : Cmd) : Nat := fld c.w2 56 2

/-- LENGTH of a SEND. -/
def Cmd.length (c : Cmd) : Nat := fld c.w3 0 32

/-- The checks of a SEND that goes to no queue (R117, R119). Only a cell has a mesh port: the spec says of stream engines that DKIND 0 gives
BOUNDS, and the model answers a collective sequencer alike (log entry 36). -/
def State.sendChk (s : State) (k : Nat) (c : Cmd) : Nat :=
  let dst := fld c.w2 22 7
  let off := fld c.w2 0 22
  let n := c.length
  worst (chk (!isCell k || decide (c.dkind ≠ 0) || decide (n % 16 ≠ 0) || decide (off % 16 ≠ 0) || decide (2 ^ 22 < off + n)) St.bounds)
    (worst (if c.dkind = 0 then s.targetChk k dst else St.ok) (s.moveChk k [0, 2] (operand c.w1) 1 n n))

/-- SEND to a cell (R114): the data leaves as a mesh packet; the command ends when it has landed. A SEND with DKIND 1 is
SEND_QUEUE's. -/
def execSend (core : Nat) (errs : List (Nat × Bool)) (s : State) : Host.Outcome State Fault Refusal :=
  .next (
    match s.front core 0x60 with
    | none => s
    | some e =>
      let c := e.cmd
      if c.dkind = 1 then s
      else
        let st := s.sendChk core c
        if st ≠ St.ok then s.setPhase core e.ord (.done st)
        else
          let o := operand c.w1
          let s := if o.space = 0 then s.csScan core [(o.off, c.length)] errs else s
          let r := s.readSide core o 0 c.length
          let p : MeshPkt :=
            { src := core, ord := e.ord, dst := fld c.w2 22 7, off := fld c.w2 0 22, data := r.data, bad := r.bad,
              ctr := if bitAt c.w2.toNat 35 then some (fld c.w2 29 6) else none, status := r.status }
          ({ r.s with mesh := r.s.mesh ++ [p] }).setPhase core e.ord .flying)

end Sys2Proof.Machine
end

