-- ==== Sys2Proof/Machine/Sha.lean ====
section
/-! DEFINITION. SHA-384 and what rests on it (R422, R426, R454, R465): the standards FIPS 180-4, RFC 2104 and RFC 5869 that the rules cite. -/

namespace Sys2Proof.Machine

open Sys2Proof

/-- The largest number below 2^`n` whose `k`-th power is at most `v`. -/
def rootOf (k v n : Nat) : Nat :=
  (List.range n).foldl (fun r i => if (r + 2 ^ (n - 1 - i)) ^ k ≤ v then r + 2 ^ (n - 1 - i) else r) 0

/-- The first 80 prime numbers. -/
def shaPrimes : List Nat :=
  ((List.range 410).filter (fun p => decide (2 ≤ p) && (List.range p).all (fun d => decide (d < 2) || decide (p % d ≠ 0)))).take 80

/-- The constants of the rounds: the first 64 bits of the fractions of the cube roots of the primes. -/
def shaK : List W64 := shaPrimes.map (fun p => BitVec.ofNat 64 (rootOf 3 (p * 2 ^ 192) 68))

/-- The initial value of SHA-384: those of the square roots of the ninth to sixteenth primes. -/
def sha384Init : List W64 := ((shaPrimes.drop 8).take 8).map (fun p => BitVec.ofNat 64 (rootOf 2 (p * 2 ^ 128) 68))

/-- Rotation to the right. -/
def rotr (x : W64) (n : Nat) : W64 := x.rotateRight n

/-- The message schedule of a block: its 16 words and 64 more. -/
def shaSchedule (block : List Byte) : List W64 :=
  let w0 := (List.range 16).map (fun i => BitVec.ofNat 64 (beNat (slice block (8 * i) 8)))
  ((List.range 64).foldl (fun (w : List W64) _ =>
    -- the newest word stands first
    let a := w.getD 1 0
    let b := w.getD 14 0
    let s1 := rotr a 19 ^^^ rotr a 61 ^^^ (a >>> 6)
    let s0 := rotr b 1 ^^^ rotr b 8 ^^^ (b >>> 7)
    (s1 + w.getD 6 0 + s0 + w.getD 15 0) :: w) w0.reverse).reverse

/-- One round: the eight working words after it. -/
def shaRound (v : List W64) (kw : W64 × W64) : List W64 :=
  let g (i : Nat) : W64 := v.getD i 0
  let t1 := g 7 + (rotr (g 4) 14 ^^^ rotr (g 4) 18 ^^^ rotr (g 4) 41) + ((g 4 &&& g 5) ^^^ (~~~(g 4) &&& g 6)) + kw.1 + kw.2
  let t2 := (rotr (g 0) 28 ^^^ rotr (g 0) 34 ^^^ rotr (g 0) 39) + ((g 0 &&& g 1) ^^^ (g 0 &&& g 2) ^^^ (g 1 &&& g 2))
  [t1 + t2, g 0, g 1, g 2, g 3 + t1, g 4, g 5, g 6]

/-- A block of 128 bytes is taken in. -/
def shaBlock (h : List W64) (block : List Byte) : List W64 :=
  let v := (shaK.zip (shaSchedule block)).foldl shaRound h
  (h.zip v).map (fun e => e.1 + e.2)

/-- The message with its padding and length. -/
def shaPad (m : List Byte) : List Byte := m ++ [0x80] ++ zeros ((239 - m.length % 128) % 128) ++ beBytes 16 (8 * m.length)

/-- SHA-384: 48 bytes. -/
def sha384 (m : List Byte) : List Byte :=
  let p := shaPad m
  let h := (List.range (p.length / 128)).foldl (fun h i => shaBlock h (slice p (128 * i) 128)) sha384Init
  ((h.map (fun x => beBytes 8 x.toNat)).flatten).take 48

/-- HMAC-SHA-384. -/
def hmac384 (key m : List Byte) : List Byte :=
  let k := padTo 128 (if 128 < key.length then sha384 key else key)
  sha384 (k.map (fun x => x ^^^ 0x5C) ++ sha384 (k.map (fun x => x ^^^ 0x36) ++ m))

/-- `n` bytes of the expansion of HKDF-SHA-384 from a pseudorandom key. -/
def hkdfExpand (prk info : List Byte) (n : Nat) : List Byte :=
  ((List.range ((n + 47) / 48)).foldl (fun (t : List Byte × List Byte) i =>
    let b := hmac384 prk (t.2 ++ info ++ leBytes 1 (i + 1))
    (t.1 ++ b, b)) ([], [])).1.take n

/-- HKDF-SHA-384, of which at most 48 bytes are taken: input keying material, salt and info string. -/
def hkdf384 (ikm salt info : List Byte) : List Byte := hmac384 (hmac384 salt ikm) (info ++ [1])

end Sys2Proof.Machine
end

