-- ==== Sys2Proof/Machine/Aes.lean ====
section
/-! DEFINITION. AES-256 and its modes that the rules cite: XTS (R226, IEEE 1619), CMAC (R227, SP 800-38B) and GCM (R277, R426, R431). -/

namespace Sys2Proof.Machine

open Sys2Proof

/-- The product in GF(2^8) with field polynomial x^8 + x^4 + x^3 + x + 1, over `n` bits of the first factor. -/
def gf8Mul : Nat → Nat → Nat → Nat
  | 0, _, _ => 0
  | n + 1, a, b =>
    let r := gf8Mul n (a / 2) (if 2 * b < 256 then 2 * b else Nat.xor (2 * b) 0x11B)
    if a % 2 = 1 then Nat.xor b r else r

/-- The inverse in GF(2^8), which is the 254th power; of 0 it is 0. -/
def gf8Inv (x : Nat) : Nat :=
  ((List.range 7).foldl (fun (e : Nat × Nat) _ => (gf8Mul 8 e.1 (gf8Mul 8 e.2 e.2), gf8Mul 8 e.2 e.2)) (1, x)).1

/-- The S-box. -/
def aesSbox (x : Nat) : Nat :=
  let b := gf8Inv x
  (List.range 5).foldl (fun r i => Nat.xor r (b * 2 ^ i % 256 + b * 2 ^ i / 256)) 0x63

/-- The S-box as a table. -/
def aesTable : Array Nat := ((List.range 256).map aesSbox).toArray

/-- A byte through the S-box. -/
def aesSub (x : Byte) : Byte := BitVec.ofNat 8 (aesTable.getD x.toNat 0)

/-- Two byte lists added in GF(2). -/
def xorBytes (a b : List Byte) : List Byte := List.zipWith (· ^^^ ·) a b

/-- The 60 words of the key schedule of a 32-byte key. -/
def aesKeys (key : List Byte) : List (List Byte) :=
  let first := (List.range 8).map (fun i => slice (padTo 32 key) (4 * i) 4)
  (List.range 52).foldl (fun ws j =>
    let t := ws.getD (j + 7) []
    let t := if j % 8 = 0 then xorBytes ((t.drop 1 ++ t.take 1).map aesSub) [BitVec.ofNat 8 (2 ^ (j / 8)), 0, 0, 0]
      else if j % 8 = 4 then t.map aesSub else t
    ws ++ [xorBytes (ws.getD j []) t]) first

/-- A round key. -/
def roundKey (ws : List (List Byte)) (r : Nat) : List Byte := ((ws.drop (4 * r)).take 4).flatten

/-- SubBytes and ShiftRows. -/
def aesShift (s : List Byte) : List Byte := (List.range 16).map (fun i => aesSub (s.getD ((i + 4 * (i % 4)) % 16) 0))

/-- MixColumns. -/
def aesMix (s : List Byte) : List Byte :=
  (List.range 16).map (fun i =>
    let a (k : Nat) : Nat := (s.getD (i / 4 * 4 + (i + k) % 4) 0).toNat
    BitVec.ofNat 8 (Nat.xor (Nat.xor (gf8Mul 8 2 (a 0)) (gf8Mul 8 3 (a 1))) (Nat.xor (a 2) (a 3))))

/-- AES-256 of one block of 16 bytes under a key schedule. -/
def aesBlock (ws : List (List Byte)) (b : List Byte) : List Byte :=
  let s := (List.range 13).foldl (fun s r => xorBytes (aesMix (aesShift s)) (roundKey ws (r + 1))) (xorBytes b (roundKey ws 0))
  xorBytes (aesShift s) (roundKey ws 14)

/-- The product with the primitive element of GF(2^128), as XTS and CMAC use it: `v` of 128 bits. -/
def gf128Dbl (v : Nat) : Nat := if 2 * v < 2 ^ 128 then 2 * v else Nat.xor (2 * v - 2 ^ 128) 0x87

/-- AES-256-XTS: the key pair (64 bytes, the data key first), the tweak, and whole blocks of data (R226). -/
def xtsEncrypt (keys : List Byte) (tweak : Nat) (data : List Byte) : List Byte :=
  let k := aesKeys (keys.take 32)
  let t0 := leNat (aesBlock (aesKeys (keys.drop 32)) (leBytes 16 tweak))
  ((List.range (data.length / 16)).foldl (fun (acc : List Byte × Nat) j =>
    let t := leBytes 16 acc.2
    (acc.1 ++ xorBytes (aesBlock k (xorBytes (slice data (16 * j) 16) t)) t, gf128Dbl acc.2)) ([], t0)).1

/-- AES-256-CMAC of a message that is not empty (R227). -/
def cmac (key m : List Byte) : List Byte :=
  let k := aesKeys key
  let k1 := gf128Dbl (beNat (aesBlock k (zeros 16)))
  let n := ceilDiv m.length 16
  let last := m.drop (16 * (n - 1))
  let last := if last.length = 16 then xorBytes last (beBytes 16 k1) else xorBytes (padTo 16 (last ++ [0x80])) (beBytes 16 (gf128Dbl k1))
  let x := (List.range (n - 1)).foldl (fun x i => aesBlock k (xorBytes x (slice m (16 * i) 16))) (zeros 16)
  aesBlock k (xorBytes x last)

/-- The product of GHASH: bit 127 of a number is the first bit of its block. -/
def ghashMul (x y : Nat) : Nat :=
  ((List.range 128).foldl (fun (e : Nat × Nat) i =>
    (if x.testBit (127 - i) then Nat.xor e.1 e.2 else e.1, if e.2 % 2 = 1 then Nat.xor (e.2 / 2) (0xE1 * 2 ^ 120) else e.2 / 2)) (0, y)).1

/-- GHASH of whole blocks. -/
def ghash (h : Nat) (m : List Byte) : Nat :=
  (List.range (ceilDiv m.length 16)).foldl (fun y i => ghashMul (Nat.xor y (beNat (padTo 16 (slice m (16 * i) 16)))) h) 0

/-- A byte list filled up with zeros to whole blocks. -/
def padBlocks (m : List Byte) : List Byte := padTo (ceilDiv m.length 16 * 16) m

/-- The key stream of GCM over a message: counter values from 2 on, after the 96-bit IV. -/
def gcmStream (k : List (List Byte)) (iv m : List Byte) : List Byte :=
  xorBytes m ((List.range (ceilDiv m.length 16)).map (fun i => aesBlock k (padTo 12 iv ++ beBytes 4 (i + 2)))).flatten

/-- The tag of GCM. -/
def gcmTag (k : List (List Byte)) (iv aad c : List Byte) : List Byte :=
  let h := beNat (aesBlock k (zeros 16))
  let y := ghash h (padBlocks aad ++ padBlocks c ++ beBytes 8 (8 * aad.length) ++ beBytes 8 (8 * c.length))
  xorBytes (beBytes 16 y) (aesBlock k (padTo 12 iv ++ beBytes 4 1))

/-- AES-256-GCM sealing: key, 96-bit IV, additional data, plaintext; ciphertext and tag. -/
def gcmSeal (key iv aad m : List Byte) : List Byte × List Byte :=
  let k := aesKeys key
  let c := gcmStream k iv m
  (c, gcmTag k iv aad c)

/-- AES-256-GCM opening: the plaintext, or none when the tag fails. -/
def gcmOpen (key iv aad c tag : List Byte) : Option (List Byte) :=
  let k := aesKeys key
  if gcmTag k iv aad c = tag then some (gcmStream k iv c) else none

end Sys2Proof.Machine
end

