-- ==== Sys2Proof/Machine/P384.lean ====
section
/-! DEFINITION. The curve P-384 as the rules use it: ECDSA verification (R424, R427, R465, R523), public keys and ECDH with HKDF-SHA-384
(R426, R435); the standards FIPS 186-5, SP 800-186 and SP 800-56A. -/

namespace Sys2Proof.Machine

open Sys2Proof

/-- The field prime. -/
def p384P : Nat := 2 ^ 384 - 2 ^ 128 - 2 ^ 96 + 2 ^ 32 - 1

/-- The order of the group. -/
def p384N : Nat := 0xFFFFFFFFFFFFFFFFFFFFFFFFFFFFFFFFFFFFFFFFFFFFFFFFC7634D81F4372DDF581A0DB248B0A77AECEC196ACCC52973

/-- The coefficient b of y² = x³ − 3x + b. -/
def p384B : Nat := 0xB3312FA7E23EE7E4988E056BE3F82D19181D9C6EFE8141120314088F5013875AC656398D8A2ED19D2A85C8EDD3EC2AEF

/-- The base point. -/
def p384G : Nat × Nat :=
  (0xAA87CA22BE8B05378EB1C71EF320AD746E1D3B628BA79B9859F741E082542A385502F25DBF55296C3A545E3872760AB7,
    0x3617DE4A96262C6F5D9E98BF9292DC29F8F41DBD289A147CE9DA3113B5F0B8C00A60B1CE1D7E819D7A431D7C90EA0E5F)

/-- `a` to the power `e` modulo `m`, `e` below 2^384. -/
def powMod (a e m : Nat) : Nat :=
  (List.range 384).foldl (fun r i => let q := r * r % m
    if e.testBit (383 - i) then q * a % m else q) (1 % m)

/-- The inverse modulo a prime. -/
def invMod (a m : Nat) : Nat := powMod a (m - 2) m

/-- A difference modulo `m`. -/
def subMod (a b m : Nat) : Nat := (a + m - b % m) % m

/-- The sum of two points; none is the point at infinity. -/
def ecAdd : Option (Nat × Nat) → Option (Nat × Nat) → Option (Nat × Nat)
  | none, q => q
  | p, none => p
  | some (x1, y1), some (x2, y2) =>
    if x1 = x2 ∧ (y1 + y2) % p384P = 0 then none
    else
      let l := if x1 = x2 then subMod (3 * x1 * x1) 3 p384P * invMod (2 * y1 % p384P) p384P % p384P
        else subMod y2 y1 p384P * invMod (subMod x2 x1 p384P) p384P % p384P
      let x := subMod (subMod (l * l) x1 p384P) x2 p384P
      some (x, subMod (l * subMod x1 x p384P) y1 p384P)

/-- A multiple of a point, by a factor below 2^384. -/
def ecMul (k : Nat) (p : Option (Nat × Nat)) : Option (Nat × Nat) :=
  (List.range 384).foldl (fun r i => let q := ecAdd r r
    if k.testBit (383 - i) then ecAdd q p else q) none

/-- The point that 97 bytes name: 0x04 and the coordinates, most significant byte first; none off the curve. -/
def p384Point (bs : List Byte) : Option (Nat × Nat) :=
  let x := beNat (slice bs 1 48)
  let y := beNat (slice bs 49 48)
  if slice bs 0 1 = [4] ∧ x < p384P ∧ y < p384P ∧ y * y % p384P = subMod (x * x * x + p384B) (3 * x) p384P then some (x, y) else none

/-- Whether 97 bytes name a point of the curve (R426). -/
def p384OnCurve (bs : List Byte) : Bool := (p384Point bs).isSome

/-- The public key of a private key, uncompressed. -/
def p384Public (d : Nat) : List Byte :=
  match ecMul d (some p384G) with
  | some (x, y) => [4] ++ beBytes 48 x ++ beBytes 48 y
  | none => zeros 97

/-- ECDSA verification: public key, digest, signature r ‖ s. -/
def ecdsaVerify (key digest sig : List Byte) : Bool :=
  match p384Point key with
  | none => false
  | some q =>
    let r := beNat (slice sig 0 48)
    let t := beNat (slice sig 48 48)
    let w := invMod t p384N
    decide (sig.length = 96 ∧ 0 < r ∧ r < p384N ∧ 0 < t ∧ t < p384N) &&
      (match ecAdd (ecMul (beNat (digest.take 48) * w % p384N) (some p384G)) (ecMul (r * w % p384N) (some q)) with
        | some (x, _) => decide (x % p384N = r)
        | none => false)

/-- The bytes of text, one each. -/
def asciiBytes (t : List Char) : List Byte := t.map (fun c => BitVec.ofNat 8 c.toNat)

/-- ECDSA signing r ‖ s: private key, digest and the number drawn for the signature. -/
def ecdsaSign (d : Nat) (digest : List Byte) (k : Nat) : List Byte :=
  let k := 1 + k % (p384N - 1)
  let r := (match ecMul k (some p384G) with
    | some (x, _) => x
    | none => 0) % p384N
  let t := invMod k p384N * (beNat (digest.take 48) + r * d) % p384N
  beBytes 48 r ++ beBytes 48 t

/-! ## Identity (R419) -/

/-- A key derived from the identity seed in the fuses, reduced modulo the order of the group. -/
def seedKey (more info : List Byte) : Nat :=
  beNat (hkdfExpand (hmac384 [] (leBytes 32 (Config.factory 1 0) ++ more)) info Config.keyLength) % p384N

/-- The identity key IDK. -/
def identityKey : Nat := seedKey [] (asciiBytes ['I', 'D', 'K'])

/-- The serial digest: the first 8 bytes of the digest of IDK's public key. -/
def ownSerial : Nat := leNat ((sha384 (p384Public identityKey)).take 8)

/-- ECDH and HKDF-SHA-384 (R426, R435): private key, peer's public key, salt and info; the first 32 bytes. -/
def ecdhHkdf (d : Nat) (peer salt info : List Byte) : List Byte :=
  let z := match ecMul d (p384Point peer) with
    | some (x, _) => beBytes 48 x
    | none => zeros 48
  (hkdf384 z salt info).take 32

end Sys2Proof.Machine
end

