-- ==== Sys2Proof/Machine/Lines.lean ====
section
/-! DEFINITION. Requests for single lines: who may make them (R26, R367, R429), how they are served or wait (R187, R206 to R209,
R223, R235), and the controllers' own work: clearing (R234 to R236), refresh (R222), the patrol (R239) and retraining (R223,
R470). -/

namespace Sys2Proof.Machine

open Sys2Proof

/-! ## Serving and waiting -/

/-- Whether an access reaches the home line's controller as things stand. -/
def State.goesHome (s : State) (w : WaitAcc) : Bool :=
  w.home ||
    (match s.blk (w.line / 1024) with
      | none => true
      | some x =>
        match w.acc, x.st with
        | .read _ _, .filling => true
        | .atomic _ _ _, .clean => !s.fixed (w.line / 1024)
        | _, _ => false)

/-- A line access now: it is served, or must wait (R206, R209, R223, R235). -/
def State.tryLine (s : State) (w : WaitAcc) : LineRes :=
  let st := homeStack (w.line * 64)
  let own := s.owner (w.line * 64)
  if s.goesHome w && !s.fenced (w.line * 64) && !s.opBad w.line w.acc && (s.pcOut w.line || !s.mayGo st own) then
    { s := s, waits := true }
  else s.serveAs w false

/-- Whether an access of the same requester to the same line waits already (R209: those stay in order). -/
def State.behind (s : State) (w : WaitAcc) : Bool := s.mem.waiting.any (fun x => x.who = w.who && x.line = w.line)

/-- Whether a requester stalls: all its 4,096 places are taken (R209). -/
def State.stalls (s : State) (who : Requester) : Bool := decide (4096 ≤ (s.mem.waiting.filter (fun x => x.who = who)).length)

/-- A line access arrives: it is answered, or joins those that wait. One of a requester that stalls is not issued yet. -/
def State.lineAccess (s : State) (w : WaitAcc) : State :=
  if s.stalls w.who then s.wait { w with stalled := true }
  else if s.behind w then s.wait { w with stalled := false }
  else
    let r := s.tryLine w
    if r.waits then r.s.wait { w with stalled := false } else r.s.answer r.status 0 r.data

/-- Waiting accesses that `p` names are tried again, in arrival order; one that stalled is issued once its requester has a place. -/
def State.retry (s : State) (p : WaitAcc → Bool) : State :=
  s.mem.waiting.foldl (fun s w => if p w || w.stalled then s.lineAccess w else s.wait w)
    { s with mem := { s.mem with waiting := [] } }

/-- The status of R26 for a line of the unified range, before its content matters. -/
def State.lineChk (s : State) (who : Requester) (line : Nat) : Nat :=
  let own := s.owner (line * 64)
  if 2 ^ 33 ≤ line then St.bounds
  else if own = 15 then St.wardFault
  else match who with
    | .host => chk (own ≠ 9 || s.rf R.HOST_LINK_STATUS F.HOST_LINK_STATUS_CXL ≠ 1) St.bounds
    | .xport =>
      chk (!(s.xport.regions.any (fun e => match e.2 with
        | some r => decide (r.base ≤ line * 64 ∧ line * 64 + 64 ≤ r.base + r.len)
        | none => false))) St.bounds
    | .core k => chk (s.wardOfCore k ≠ some own) St.wardFault
    | _ => chk (s.locked own) St.wardFault

/-- BLOCK_ACCESS (R187): one line access of the unified range by the block's state. Diagnostic access to a LOCKED ward's slices is
refused and logged (R429). -/
def execBlockAccess (who : Requester) (line : Nat) (acc : LineAccess) (ecc : Ecc) (s : State) :
    Host.Outcome State Fault Refusal :=
  .next (if !s.clk.on then s else
    let st := s.lineChk who line
    if st = St.ok then
      if s.inFrame line || !readsLine acc then s.lineAccess { who := who, line := line, acc := acc, ecc := ecc }
      else (s.tookFinds 1).lineAccess { who := who, line := line, acc := acc, ecc := ecc, fault := s.nextFind }
    else
      let own := s.owner (line * 64)
      let diag := match who with
        | .mc => true
        | .hc _ => true
        | _ => false
      (if diag && line < 2 ^ 33 && own < 8 && s.locked own then s.lockedRefused own else s).answer st)

/-- A requester's place in the turn of R208. -/
def turnOf : Requester → Nat
  | .host => 0
  | .mc => 1
  | .hc h => 2 + h
  | .xport => 4
  | .core k => 8 + k

/-- Whether no earlier access of the same requester to the same line waits (R209). -/
def State.firstOf (s : State) (w : WaitAcc) : Bool := s.mem.waiting.find? (fun x => x.who = w.who && x.line = w.line) = some w

/-- The waiting access that the next free slot of a bank goes to (R208): the first of the requester that follows, in turn, the
one served last, among those that could proceed. -/
def State.slotWinner (s : State) (st bank : Nat) : Option WaitAcc :=
  let last := mget 0 s.mem.bankLast (st * 4096 + bank)
  let l := s.mem.waiting.filter (fun w =>
    homeStack (w.line * 64) = st && bankOf w.line = bank && !w.stalled && s.firstOf w && s.goesHome w && !(s.tryLine w).waits)
  l.foldl (fun best w =>
    match best with
    | none => some w
    | some b =>
      if (turnOf w.who + 4096 - last) % 4096 < (turnOf b.who + 4096 - last) % 4096 then some w else some b) none

/-- Removes the first waiting access equal to `w`. -/
def State.unwait (s : State) (w : WaitAcc) : State := { s with mem := { s.mem with waiting := s.mem.waiting.erase w } }

/-- The requester that a bank has served last (R208). -/
def State.setBankLast (s : State) (st bank : Nat) (who : Requester) : State :=
  { s with mem := { s.mem with bankLast := mset 0 s.mem.bankLast (st * 4096 + bank) (turnOf who + 1) } }

/-- A slot goes to a waiting access: it is served, and a place of its requester is free for one that stalled (R208, R209). -/
def State.grant (s : State) (st bank : Nat) (w : WaitAcc) : State :=
  let r := (s.unwait w).tryLine w
  ((r.s.retry (fun _ => false)).answer r.status 0 r.data).setBankLast st bank w.who

/-- BANK_SLOT_GRANT (R208). -/
def execBankSlotGrant (stack bank : Nat) (s : State) : Host.Outcome State Fault Refusal :=
  .next (if !s.clk.on then s else
    match s.slotWinner stack bank with
    | none => s
    | some w => s.grant stack bank w)

/-! ## The controllers' line service (R229, R230, R244) -/

/-- A request at a controller: a region whose owner is none is reached by no requester (R228). -/
def State.ctrlAccess (s : State) (w : WaitAcc) : State :=
  if s.owner (w.line * 64) = 15 then s.answer (worst St.wardFault (chk (s.opBad w.line w.acc) St.bounds)) else s.lineAccess w

/-- HBM_LINE_READ (R229). -/
def execHbmLineRead (line : Nat) (fault : LineFault) (s : State) : Host.Outcome State Fault Refusal :=
  .next (if !s.clk.on then s else s.ctrlAccess { who := .mc, line := line, acc := .read 0 false, home := true, fault := fault })

/-- HBM_LINE_WRITE (R230): a write to a region that is not SET waits for its clearing. -/
def execHbmLineWrite (line off : Nat) (data : List Byte) (fault : LineFault) (s : State) : Host.Outcome State Fault Refusal :=
  .next (if !s.clk.on then s else s.ctrlAccess { who := .mc, line := line, acc := .write 0 off data, home := true, fault := fault })

/-- MSO_OPERATION (R244, R187, R191): on a block in the layer store the rules of R187 and R191 come first. -/
def execMsoOperation (line off : Nat) (op : W64) (operand : List Byte) (fault : LineFault) (s : State) :
    Host.Outcome State Fault Refusal :=
  .next (if !s.clk.on then s else s.ctrlAccess { who := .mc, line := line, acc := .atomic off op operand, fault := fault })

/-! ## Clearing (R234 to R236) -/

/-- The next urgent clearing of a stack starts (R235): that of the first region in the queue that is still UNSET. -/
def State.nextUrgent (s : State) (st : Nat) : State :=
  let k := s.stack st
  match k.urgentQ.dropWhile (fun r => (s.region (st * 65536 + r)).st ≠ 0) with
  | [] => s.setStack st { k with urgentQ := [] }
  | r :: rest => (s.setStack st { k with urgentQ := rest }).enterClearing (st * 65536 + r) 16 true

/-- Urgent clearings that queue go on where none is in progress. -/
def State.pumpUrgent (s : State) (st : Nat) : State :=
  if s.urgentBusy st || (s.stack st).urgentQ.isEmpty then s else s.nextUrgent st

/-- What waits for some regions goes on, where it may still reach them (R26); what is queued then clears. -/
def State.readmit (s : State) (keys : List Nat) : State :=
  let t := s.mem.waiting.foldl (fun s w =>
    let st := if w.home then St.ok else s.lineChk w.who w.line
    if !keys.contains (regionKey (w.line * 64)) then s.wait w
    else if st = St.ok then s.lineAccess w
    else s.answer st) { s with mem := { s.mem with waiting := [] } }
  (List.range 8).foldl State.pumpUrgent t

/-- Clearings in progress among some regions end, and what waited for them is served (R234, R237). -/
def State.endClearings (s : State) (keys : List Nat) : State :=
  keys.foldl (fun s k =>
    if (s.region k).st = 1 then (s.finishClearing k).retry (fun w => regionKey (w.line * 64) = k) else s) s

/-- CLEARING_DONE (R234): the region is SET, what waited for it proceeds in arrival order, and the next urgent clearing starts.
Background clearing pauses while an urgent one runs (R235). The same goes on where another command has found the clearing's time
passed within its own step (log entry 9). -/
def execClearingDone (stack region : Nat) (s : State) : Host.Outcome State Fault Refusal :=
  .next (if !s.clk.on then s else
    let key := stack * 65536 + region
    let r := s.region key
    let go (s : State) : State := s.retry (fun w => regionKey (w.line * 64) = key)
    if r.st = 1 && s.thermLevel stack ≠ 3 && (r.urgent || !s.urgentBusy stack) then
      let s := go (s.finishClearing key)
      if r.urgent then s.nextUrgent stack else s
    else if r.st = 2 then (go s).pumpUrgent stack
    else s)

/-- CLEAR_RATE as it acts: 17 to 31 act as 16. -/
def State.clearRate (s : State) (st : Nat) : Nat := min 16 (s.rf (R.MEM_SCRUB_CTRL st) F.MEM_SCRUB_CTRL_CLEAR_RATE)

/-- The region that the background clearer takes next (R235). -/
def State.bgRegion (s : State) (st : Nat) : Option Nat :=
  let l := (s.mem.regions.filter (fun e => e.1 / 65536 = st && e.2.st = 0 && e.2.owner ≠ 15)).map (fun e => e.1 % 65536)
  match l.filter (fun r => decide ((s.stack st).bgNext ≤ r)) with
  | r :: _ => some r
  | [] => l.head?

/-- BG_CLEAR_START (R235). -/
def execBgClearStart (stack : Nat) (s : State) : Host.Outcome State Fault Refusal :=
  .next (if !s.clk.on then s else
    if s.rf (R.MEM_SCRUB_CTRL stack) F.MEM_SCRUB_CTRL_BG_CLEAR_EN = 1 && s.clearRate stack ≠ 0 && s.thermLevel stack ≠ 3 &&
        !(s.mem.regions.any (fun e => e.1 / 65536 = stack && e.2.st = 1)) then
      match s.bgRegion stack with
      | none => s
      | some r =>
        (s.enterClearing (stack * 65536 + r) (s.clearRate stack) false).setStack stack
          { s.stack stack with bgNext := (r + 1) % 65536 }
    else s)

/-! ## Region commands (R237) -/

/-- MEM_REGION_CMD_STATUS after a command starts or ends. -/
def State.regionStatus (s : State) (st busy status done : Nat) : State :=
  let a := R.MEM_REGION_CMD_STATUS st
  ((s.setF a F.MEM_REGION_CMD_STATUS_BUSY busy).setF a F.MEM_REGION_CMD_STATUS_STATUS status).setF a
    F.MEM_REGION_CMD_STATUS_DONE done

/-- Keys of a range of regions. -/
def regionRange (st first count : Nat) : List Nat := (List.range count).map (fun i => st * 65536 + first + i)

/-- A range of regions takes in a block of a registered region (R190, R237). -/
def State.rangeFixed (s : State) (st first count : Nat) : Bool :=
  (regionRange st first count).any (fun k => (regionBlocks k).any s.fixed)

/-- Wards whose slices a range of regions touches and that are LOCKED (R429). -/
def State.rangeLocked (s : State) (st first count : Nat) : Option Nat :=
  (List.range 8).find? (fun w => s.locked w && (regionRange st first count).any (fun k => (s.region k).owner = w))

/-- A reset of a range: clearings in progress end first, with what waited for them; then the regions are UNSET, and what waits for one
of them still starts its clearing again. -/
def State.resetRange (s : State) (st first count : Nat) : State :=
  let s := s.endClearings (regionRange st first count)
  let s := (regionRange st first count).foldl (fun s k => s.resetRegion k) s
  let s := s.retry (fun w =>
    let k := regionKey (w.line * 64)
    decide (st * 65536 + first ≤ k ∧ k < st * 65536 + first + count))
  s.pumpUrgent st

/-- A GO of MEM_REGION_CMD. -/
def State.regionCmd (s : State) (who : Requester) (op st first count : Nat) : State × Nat :=
  if who ≠ .mc then (s, St.wardFault)
  else if (s.stack st).cmd.isSome then (s, St.ok)
  else if count = 0 ∨ 65536 < first + count then (s.regionStatus st 0 St.bounds 0, St.ok)
  else match s.rangeLocked st first count with
    | some w => (s.lockedRefused w, St.wardFault)
    | none =>
      let start (s : State) : State :=
        (s.regionStatus st 1 St.ok 0).setStack st { s.stack st with cmd := some { op := op, first := first, count := count } }
      if op = 0 then
        if s.rangeFixed st first count then (s.regionStatus st 0 St.bounds 0, St.ok)
        else (start (s.resetRange st first count), St.ok)
      else (start ((regionRange st first count).foldl (fun s k => s.startUrgent k) s), St.ok)

/-- A write of MEM_REGION_CMD with GO through control space: the module controller's alone (R237). -/
def State.regionWrite (s : State) (who : Requester) (op st first count : Nat) : State :=
  let a := R.MEM_REGION_CMD st
  let c := s.reach who a
  if c = St.ok then
    let r := s.regionCmd who op st first count
    r.1.ctlEnd who a r.2
  else s.ctlEnd who a (worst c (chk (who ≠ .mc) St.wardFault))

/-- REGION_RESET (R237). -/
def ctlRegionReset (who : Requester) (stack first count : Nat) (s : State) : Host.Outcome State Fault Refusal :=
  .next (s.regionWrite who 0 stack first count)

/-- REGION_CLEAR_NOW (R237). -/
def ctlRegionClearNow (who : Requester) (stack first count : Nat) (s : State) : Host.Outcome State Fault Refusal :=
  .next (s.regionWrite who 1 stack first count)

/-- Whether the clear-now of a stack still has a region to clear. -/
def State.toClear (s : State) (stack k : Nat) : Bool :=
  ((s.region k).st = 1 && (s.region k).urgent) || (s.stack stack).urgentQ.contains (k % 65536)

/-- REGION_CMD_DONE (R237): a clear-now ends when no region of its range is still to be cleared by it. -/
def execRegionCmdDone (stack : Nat) (s : State) : Host.Outcome State Fault Refusal :=
  .next (if !s.clk.on then s else
    match (s.stack stack).cmd with
    | none => s
    | some c =>
      if (regionRange stack c.first c.count).any (s.toClear stack) then s
      else (s.regionStatus stack 0 St.ok c.count).setStack stack { s.stack stack with cmd := none })

/-! ## Refresh and patrol -/

/-- REFRESH (R222): one per-bank refresh. In self-refresh the stack refreshes itself (R218). -/
def execRefresh (stack _pc _bank : Nat) (s : State) : Host.Outcome State Fault Refusal :=
  .next (if !s.clk.on then s else
    let k := s.stack stack
    if k.selfRefresh then s else s.setStack stack { k with refreshes := k.refreshes + 1 })

/-- REFRESH_MANAGEMENT_REQUEST (R218): the controller honours it. -/
def execRefreshManagementRequest (stack : Nat) (s : State) : Host.Outcome State Fault Refusal :=
  .next (if !s.clk.on then s else s.setStack stack { s.stack stack with rfm := (s.stack stack).rfm + 1 })

/-- The line index O[35:6] that the patrol comes to from `pos`: in this region if it is SET, else at the first SET region after
it. -/
def State.patrolLine (s : State) (st pos : Nat) : Option Nat :=
  if (s.region (st * 65536 + pos / 16384)).st = 2 then some pos
  else
    let l := (s.mem.regions.filter (fun e => e.1 / 65536 = st && e.2.st = 2)).map (fun e => e.1 % 65536)
    match l.filter (fun r => decide (pos / 16384 < r)) with
    | r :: _ => some (r * 16384)
    | [] => l.head?.map (· * 16384)

/-- The stack's on-die corrections are read once per patrol period (R218, R252); how many there are is a free value. -/
def State.readOdecc (s : State) (st : Nat) : State :=
  let n := s.freeW.toNat % 2 ^ 32
  let s := s.drew 1
  if n = 0 then s else (s.bump (R.MEM_ODECC_COUNT st) F.MEM_ODECC_COUNT_CORRECTED n).memEvent st 0x0A 1 0 0

/-- PATROL_READ (R239): one line of a SET region, unless it is in the memory-side cache. -/
def execPatrolRead (stack : Nat) (fault : LineFault) (s : State) : Host.Outcome State Fault Refusal :=
  .next (if !s.clk.on then s else
    let a := R.MEM_SCRUB_STATUS stack
    let pos := s.rf a F.MEM_SCRUB_STATUS_PATROL_POS
    if s.rf (R.MEM_SCRUB_CTRL stack) F.MEM_SCRUB_CTRL_PATROL_EN = 1 && s.thermLevel stack ≠ 3 then
      match s.patrolLine stack pos with
      | none => s
      | some p =>
        let line := stackAddr stack (p * 64) / 64
        let s := if (s.cline line).isSome then s else (s.dramRead line fault).1
        let s := s.setF a F.MEM_SCRUB_STATUS_PATROL_POS ((p + 1) % 2 ^ 30)
        if p < pos ∨ p + 1 = 2 ^ 30 then s.readOdecc stack else s
    else s)

/-! ## Retraining (R223, R470) -/

/-- Takes a pseudo-channel out of service. -/
def State.startRetrain (s : State) (st pc : Nat) : State :=
  (s.setF (R.MEM_PC_ONLINE st) F.MEM_PC_ONLINE_ONLINE
    (s.rf (R.MEM_PC_ONLINE st) F.MEM_PC_ONLINE_ONLINE - (if bitAt (s.rf (R.MEM_PC_ONLINE st) F.MEM_PC_ONLINE_ONLINE) pc then 2 ^ pc else 0))).setStack st
    { s.stack st with retrain := some pc }

/-- A RETRAIN written to MEM_PC_CTRL: ignored while another is in progress at the controller, and waiting for one of the
schedule's. -/
def State.manualRetrain (s : State) (st pc : Nat) : State :=
  if s.mem.schedOn then { s with mem := { s.mem with retrainQ := s.mem.retrainQ ++ [(st, pc)] } }
  else if (s.stack st).retrain.isSome then s
  else s.startRetrain st pc

/-- PC_RETRAIN_START (R223). -/
def ctlPcRetrainStart (who : Requester) (stack pc : Nat) (s : State) : Host.Outcome State Fault Refusal :=
  .next (s.ctlDo who (R.MEM_PC_CTRL stack) St.ok (fun s => s.manualRetrain stack pc))

/-- Manual retrainings that waited start, at most one in each stack. -/
def State.drainRetrainQ (s : State) : State :=
  let l := s.mem.retrainQ
  l.foldl (fun s e => s.manualRetrain e.1 e.2) { s with mem := { s.mem with retrainQ := [], schedOn := false, schedAt := s.now } }

/-- The result of a retraining (R470): at the third failure in succession of a pseudo-channel, alarm RETRAIN_FAIL. -/
def State.retrainResult (s : State) (st pc : Nat) (ok : Bool) : State :=
  let k := s.stack st
  let n := if ok then 0 else mget 0 k.retrainFails pc + 1
  let s := s.setStack st { k with retrain := none, retrainFails := mset 0 k.retrainFails pc n }
  if n = 3 then s.raise { ev 0x380A 0 st 3 with source2 := pc } else s

/-- PC_RETRAIN_DONE (R223, R470): the pseudo-channel returns to service, on its new values or, after a failure, on its former
ones; log event PC_RETRAIN reports it. -/
def execPcRetrainDone (stack : Nat) (ok : Bool) (s : State) : Host.Outcome State Fault Refusal :=
  .next (if !s.clk.on then s else
    match (s.stack stack).retrain with
    | none => s
    | some pc =>
      let on := s.rf (R.MEM_PC_ONLINE stack) F.MEM_PC_ONLINE_ONLINE
      let s := s.setF (R.MEM_PC_ONLINE stack) F.MEM_PC_ONLINE_ONLINE (Nat.lor on (2 ^ pc))
      let s := s.raise { ev (halfCode 0x1004 (stack / 4)) 1 stack 3 with source2 := pc }
      let s := s.retrainResult stack pc ok
      if s.mem.schedOn then s.drainRetrainQ else s)

/-- PC_RETRAIN_SCHEDULE (R470): the next pseudo-channel, in order of stack and number, of a stack that is NORMAL; at least 10 ms lie
between two retrainings. -/
def execPcRetrainSchedule (s : State) : Host.Outcome State Fault Refusal :=
  .next (if !s.clk.on then s else
    if s.rf R.CFG_LIVE_CTRL F.CFG_LIVE_CTRL_RETRAIN_EN = 1 && !s.evt.mcDown &&
        !((List.range 8).any (fun st => (s.stack st).retrain.isSome)) && (s.mem.schedAt = 0 || decide (s.mem.schedAt + 18000000 ≤ s.now)) then
      match ((List.range 512).map (fun i => (s.mem.retrainPos + i) % 512)).find? (fun p => s.thermLevel (p / 64) = 0) with
      | none => s
      | some p =>
        let s := s.startRetrain (p / 64) (p % 64)
        { s with mem := { s.mem with schedOn := true, retrainPos := (p + 1) % 512 } }
    else s)

end Sys2Proof.Machine
end

