-- ==== Sys2Proof/Machine/RegFile.lean ====
section
/-! DEFINITION. What a register access does to the fields of a word by their access types (R5, R8). `lo` and `hi` bound the bits that
the access reaches: all 64, or one half for a sequencer core (R84). -/

namespace Sys2Proof.Machine

open Sys2Proof

/-- The fields of the register at an offset; none where no register lies (R25). -/
def fieldsAt (a : Nat) : List FieldDef :=
  match regDef a with
  | some d => d.fields
  | none => []

/-- Whether a field lies wholly in bits [hi−1:lo]. -/
def FieldDef.within (f : FieldDef) (lo hi : Nat) : Bool := decide (lo ≤ f.lsb ∧ f.lsb + f.width ≤ hi)

/-- A word after a write: RW fields take values of their range (R5), W1C bits clear where 1 is written; all else stays. -/
def writeFields (fs : List FieldDef) (old v : W64) (lo hi : Nat) : W64 :=
  fs.foldl (fun w f =>
    let x := fld v f.lsb f.width
    if !f.within lo hi then w
    else match f.acc with
      | .rw => if f.takes x then setFld w f.lsb f.width x else w
      | .w1c => if x = 0 then w else setFld w f.lsb f.width (Nat.land (fld w f.lsb f.width) (2 ^ f.width - 1 - x))
      | _ => w) old

/-- A word after a read: RC fields clear (R8). -/
def clearRc (fs : List FieldDef) (w : W64) (lo hi : Nat) : W64 :=
  fs.foldl (fun w f => if f.acc = .rc ∧ f.within lo hi then setFld w f.lsb f.width 0 else w) w

/-- Whether a register has a field of an access type. -/
def hasAcc (a : Nat) (t : Acc) : Bool := (fieldsAt a).any (fun f => f.acc = t)

/-- The plain write of a register. -/
def State.plainWrite (s : State) (a : Nat) (v : W64) (lo hi : Nat) : State :=
  s.setReg a (writeFields (fieldsAt a) (s.reg a) v lo hi)

end Sys2Proof.Machine
end

