-- ==== Sys2Proof/Machine/CellRegs.lean ====
section
/-! DEFINITION. The registers of a CELL sub-window (R122 to R125, R78 to R81), and starting and halting a core (R85, R86,
R120, R121). -/

namespace Sys2Proof.Machine

open Sys2Proof

/-- Number of a stream state. -/
def StreamState.code : StreamState → Nat
  | .run => 0
  | .stopped => 1
  | .flushing => 2

/-- CELL_SEQ_STATUS (R124). -/
def Core.statusWord (c : Core) : W64 :=
  BitVec.ofNat 64 (b2n c.halted + 2 * b2n c.trapped + 4 * b2n (c.stall ≠ .none) + c.pc * 2 ^ 32)

/-- CELL_STREAM_STATUS (R125). -/
def Core.streamWord (c : Core) : W64 :=
  BitVec.ofNat 64 (c.strm0.state.code + c.strm0.queue.length * 2 ^ 8 + c.strm1.state.code * 2 ^ 16 +
    c.strm1.queue.length * 2 ^ 24 + b2n (c.streamIdle 0) * 2 ^ 32 + b2n (c.streamIdle 1) * 2 ^ 33)

/-- What a CELL sub-window register reads, before any clearing. CELL_SEQ_PC reads the current PC while the core is halted, and the PC of
the last start while it runs (log entry 31). -/
def State.cellView (s : State) (k off : Nat) : W64 :=
  let c := s.core k
  if off = 0x108 then c.statusWord
  else if off = 0x110 then BitVec.ofNat 64 (if c.halted then c.pc else c.startPc)
  else if off = 0x118 then c.seqFault
  else if off = 0x200 then BitVec.ofNat 64 (b2n c.fillEnable * 2 ^ 16)
  else if off = 0x208 then c.streamWord
  else if off = 0x210 then c.strm0.fault
  else if off = 0x218 then c.strm1.fault
  else if off = 0x220 then BitVec.ofNat 64 c.unset
  else if off = 0x300 then BitVec.ofNat 64 (c.elapsedNow (s.ck k))
  else if 0x308 ≤ off ∧ off ≤ 0x330 then BitVec.ofNat 64 (c.busyNow (s.ck k) ((off - 0x308) / 8))
  else if 0x800 ≤ off ∧ off < 0xA00 then BitVec.ofNat 64 (s.ctr k ((off - 0x800) / 8))
  else if off = 0x1008 then
    setFld (setFld (s.reg (R.CELL_ARRAY_STATUS k)) 0 1 (b2n c.lastShallow)) 8 8 (c.level (s.ck k))
  else if 0x10000 ≤ off then BitVec.ofNat 64 (leNat (bytesAt s.mem.imem (k * 65536 + (off - 0x10000)) 8))
  else s.reg (0x8000000 + k * 0x20000 + off)

/-- A read of bits [hi−1:lo] of a CELL register clears the RC fields there. -/
def State.cellClear (s : State) (k off lo hi : Nat) : State :=
  if off = 0x220 then (if lo = 0 then s.modCore k (fun c => { c with unset := 0 }) else s)
  else
    let a := 0x8000000 + k * 0x20000 + off
    s.setReg a (clearRc (fieldsAt a) (s.reg a) lo hi)

/-- RUN written with 1 (R85, R121, R124): a halted core starts at its PC, and elapsed time and health page restart. -/
def State.startCore (s : State) (k : Nat) : State :=
  let c := s.core k
  if c.halted then
    (s.setCore k
      { c with
        halted := false, trapped := false, stall := .none, startPc := c.pc, elapsedRun := true, elapsedStart := s.ck k
        elapsed := 0 }).zeroFh k
  else s.setCore k { c with trapped := false }

/-- RUN written with 0 (R86): the core halts; an instruction it is stalled in is abandoned, the PC pointing at it. -/
def State.haltCore (s : State) (k : Nat) : State :=
  s.modCore k (fun c => { c with halted := true, stall := .none }.settle (s.ck k))

/-- Records RUN and TRAP_HALT as last written. -/
def State.setSeqCtrl (s : State) (k : Nat) (run trapHalt : Bool) : State :=
  let s := if isCell k then
      (s.setF (R.CELL_SEQ_CTRL k) F.CELL_SEQ_CTRL_RUN (b2n run)).setF (R.CELL_SEQ_CTRL k) F.CELL_SEQ_CTRL_TRAP_HALT (b2n trapHalt)
    else s
  s.modCore k (fun c => { c with trapHalt := trapHalt })

/-- A write of a core's RUN and TRAP_HALT. -/
def State.writeSeqCtrl (s : State) (k : Nat) (run trapHalt : Bool) : State :=
  let s := s.setSeqCtrl k run trapHalt
  if run then s.startCore k else s.haltCore k

/-- A write to CELL_STREAM_CTRL (R95, R96): resumes before flushes. -/
def State.writeStreamCtrl (s : State) (k : Nat) (v : W64) : State :=
  let b (i : Nat) : Bool := bitAt v.toNat i
  let s := if b 0 then s.resume k 0 else s
  let s := if b 1 then s.flush k 0 else s
  let s := if b 8 then s.resume k 1 else s
  let s := if b 9 then s.flush k 1 else s
  s.modCore k (fun c => { c with fillEnable := b 16 })

/-- Whether R429 refuses a write to this CELL offset in a LOCKED ward: instruction memory and CELL_SEQ_PC. -/
def lockedCellOff (off : Nat) : Bool := off = 0x110 || decide (0x10000 ≤ off)

/-- The status of a write to instruction memory (R120). -/
def State.imemChk (s : State) (k : Nat) : Nat := chk (!(s.core k).halted) St.bounds

/-- Instruction memory written. -/
def State.imemPut (s : State) (k off : Nat) (bs : List Byte) : State :=
  { s with mem := { s.mem with imem := putBytes s.mem.imem (k * 65536 + off) bs } }

/-- A write to bits [hi−1:lo] of a CELL register: the status and the effect. -/
def State.cellWrite (s : State) (k off : Nat) (v : W64) (lo hi : Nat) : State × Nat :=
  if off = 0x100 then (if lo = 0 then s.writeSeqCtrl k (bitAt v.toNat 0) (bitAt v.toNat 1) else s, St.ok)
  else if off = 0x110 then
    (if lo = 0 && (s.core k).halted then
        s.modCore k (fun c => { c with pc := v.toNat % 2 ^ 32, startPc := v.toNat % 2 ^ 32 }) else s, St.ok)
  else if off = 0x200 then (if lo = 0 then s.writeStreamCtrl k v else s, St.ok)
  else if 0x800 ≤ off ∧ off < 0xA00 then (if lo = 0 then s.setCtr k ((off - 0x800) / 8) (v.toNat % 65536) else s, St.ok)
  else if 0x10000 ≤ off then
    if s.imemChk k = St.ok then
      (s.imemPut k (off - 0x10000 + lo / 8) (slice (leBytes 8 v.toNat) (lo / 8) ((hi - lo) / 8)), St.ok)
    else (s, s.imemChk k)
  else (s.plainWrite (0x8000000 + k * 0x20000 + off) v lo hi, St.ok)

/-- Control-space offset by which software reaches a core's RUN: CELL_SEQ_CTRL of a cell; for an engine or sequencer, whose
register the spec does not place, its program memory's offset (log entry 13). -/
def seqAddr (k : Nat) : Nat :=
  if isCell k then R.CELL_SEQ_CTRL k
  else if isEngine k then (0x11 + 0x40 * ((k - 128) / 16)) * 0x1000000 + 0x80_0000 + (k - 128) % 16 * 0x1_0000
  else 0x18 * 0x1000000 + 0x80_0000 + (k - 160) * 0x4_0000

/-- The status of starting a core: an engine that belongs to no ward does not start (R413), nor a core of a ward that is being released
(R438, R439). -/
def State.runChk (s : State) (k : Nat) : Nat :=
  chk (match s.wardOfCore k with
    | some w => s.wardState w = 4
    | none => !isCell k) St.wardFault

/-- SEQ_HALT (R86). -/
def ctlSeqHalt (who : Requester) (core : Nat) (trapHalt : Bool) (s : State) : Host.Outcome State Fault Refusal :=
  .next (s.ctlDo who (seqAddr core) St.ok (fun s => s.writeSeqCtrl core false trapHalt))

/-- Bytes of a core's instruction memory (R118, R122). -/
def imemSize (k : Nat) : Nat := if isEngine k then 32768 else 65536

/-- Control-space offset of instruction memory byte `off` of a core. -/
def imemAddr (k off : Nat) : Nat := if isCell k then 0x8000000 + k * 0x20000 + 0x10000 + off else seqAddr k + off

/-- Whether a LOCKED ward refuses this requester a write to core `k`'s program (R429). -/
def State.lockRefuses (s : State) (who : Requester) (k : Nat) : Bool :=
  lockable who && (match s.wardOfCore k with | some w => s.locked w | none => false)

/-- IMEM_WRITE (R120, R429): 8 bytes of instruction memory. -/
def ctlImemWrite (who : Requester) (core off : Nat) (val : W64) (s : State) : Host.Outcome State Fault Refusal :=
  .next (
    let a := imemAddr core off
    if s.reach who a = St.ok && s.lockRefuses who core then
      (s.lockedRefused ((s.wardOfCore core).getD 0)).ctlEnd who a St.wardFault
    else s.ctlDo who a (worst (chk (decide (off % 8 ≠ 0) || decide (imemSize core < off + 8)) St.bounds) (s.imemChk core))
      (fun s => s.imemPut core off (leBytes 8 val.toNat)))

end Sys2Proof.Machine
end

