-- ==== Sys2Proof/Machine/PortOps.lean ====
section
/-! DEFINITION. What every use of an Ethernet port shares (chapter 10): its registers and counters (R351), the frames handed to it
(R333, R336), the receive buffer and its flow control (R334, R339), and the wake condition of lane parking (R348). -/

namespace Sys2Proof.Machine

open Sys2Proof

/-- A port. -/
def State.port (s : State) (p : Nat) : Port := mget {} s.ports p

/-- Replaces a port. -/
def State.setPort (s : State) (p : Nat) (x : Port) : State := { s with ports := mset {} s.ports p x }

/-- A field of PORT_CFG. -/
def State.portCfg (s : State) (p : Nat) (f : Fld) : Nat := s.rf (R.PORT_CFG p) f

/-- A field of PORT_STATUS. -/
def State.portSt (s : State) (p : Nat) (f : Fld) : Nat := s.rf (R.PORT_STATUS p) f

/-- Sets a field of PORT_STATUS. -/
def State.setPortSt (s : State) (p : Nat) (f : Fld) (x : Nat) : State := s.setF (R.PORT_STATUS p) f x

/-- A port's event (R357). -/
def State.portEvent (s : State) (p low cls src2 addr : Nat) : State :=
  s.raise { ev (halfCode (0x1900 + low) (p / 8)) cls p 4 with source2 := src2, addr := addr }

/-- Adds to a 48-bit counter that rolls over; a change of bit 47 raises CTR_HALF with the counter's offset (R351). -/
def State.portCount (s : State) (p a n : Nat) : State :=
  let old := fld (s.reg a) 0 48
  let s := s.setReg a (setFld (s.reg a) 0 48 (old + n))
  if bitAt old 47 = bitAt ((old + n) % 2 ^ 48) 47 then s else s.portEvent p 6 1 0 (a - (R.PORT_CAPS p - 8))

/-- A receive counter. -/
def State.rxCount (s : State) (p n v : Nat) : State := s.portCount p (R.PORT_RX_COUNTER p n) v

/-- A transmit counter. -/
def State.txCount (s : State) (p n v : Nat) : State := s.portCount p (R.PORT_TX_COUNTER p n) v

/-- A physical counter. -/
def State.phyCount (s : State) (p n v : Nat) : State := s.portCount p (R.PORT_PHY_COUNTER p n) v

/-- The 802.1Q tag of what a port sends (R336). -/
def State.vlanTag (s : State) (p : Nat) : Option (Nat × Nat) :=
  if s.portCfg p F.PORT_CFG_VLAN_EN = 1 then some (s.portCfg p F.PORT_CFG_VID, s.portCfg p F.PORT_CFG_PCP) else none

/-- A frame of `n` bytes of payload behind the Ethernet header, as a port sends it: at least 64 bytes with its FCS. -/
def State.frameOf (s : State) (p n : Nat) (cast : CastKind) (kind : FrameKind) : Frame :=
  { len := max 64 (18 + (if (s.vlanTag p).isSome then 4 else 0) + n), tag := s.vlanTag p, cast := cast, kind := kind }

/-- A frame joins those handed to a port. -/
def State.pushFrame (s : State) (p : Nat) (f : TxFrame) : State :=
  s.setPort p { s.port p with txq := (s.port p).txq ++ [f] }

/-- Bytes of the frames handed to a port and not yet sent. -/
def State.txFill (s : State) (p : Nat) : Nat := ((s.port p).txq.map (fun f => f.frame.len)).foldl (· + ·) 0

/-! ## Bytes for the energy model (R403) -/

/-- Payload and header bytes of a packet. -/
def packetBytes (p : Packet) : Nat := 48 + p.payload.length

/-- Bytes of a port join those of a ward, 15 for none (R405). -/
def State.useBytes (s : State) (p w n : Nat) : State :=
  { s with pwr := { s.pwr with portBytes := mset 0 s.pwr.portBytes (p * 16 + w) (mget 0 s.pwr.portBytes (p * 16 + w) + n) } }

/-- Bytes of a port that had no ward are a ward's (R353, R405). -/
def State.giveBytes (s : State) (p w n : Nat) : State :=
  let m := min n (mget 0 s.pwr.portBytes (p * 16 + 15))
  { s with pwr := { s.pwr with portBytes := mset 0 s.pwr.portBytes (p * 16 + 15) (mget 0 s.pwr.portBytes (p * 16 + 15) - m) } }.useBytes p w m

/-! ## Lane parking (R346 to R348) -/

/-- Group address of LLDP and of parking frames (R307, R347). -/
def nearestBridge : Nat := 0x0180C200000E

/-- The 8 bytes of a parking frame's payload (R347); the frame is padded to 64 bytes. -/
def parkBytes (typ seq : Nat) : List Byte :=
  [0x4A, 0x4B, 0x4E, BitVec.ofNat 8 typ, 0x01, 0x00, BitVec.ofNat 8 (seq / 256), BitVec.ofNat 8 seq]

/-- A parking frame as a port hands it to its MAC (R347). -/
def State.parkTx (s : State) (p typ seq : Nat) : TxFrame :=
  { frame := s.frameOf p 8 .multicast (.parking typ (seq % 65536)), ward := none, dst := nearestBridge, etype := 0x88B5,
    bytes := parkBytes typ seq }

/-- Sends a parking frame (R347). -/
def State.parkFrame (s : State) (p typ seq : Nat) : State := s.pushFrame p (s.parkTx p typ seq)

/-- PARK_STATE: 0 FULL, 1 PARKING, 2 PARKED, 3 WAKING. -/
def State.parkState (s : State) (p : Nat) : Nat := s.portSt p F.PORT_STATUS_PARK_STATE

/-- A change of the parking state; PARK_CHANGE on entering PARKED or FULL (R357). -/
def State.setPark (s : State) (p st : Nat) : State :=
  let old := s.parkState p
  let s := s.setPortSt p F.PORT_STATUS_PARK_STATE st
  if (st = 0 || st = 2) && old ≠ st then s.portEvent p 7 2 st 0 else s

/-- Back to FULL: the low-window count restarts. -/
def State.parkFull (s : State) (p : Nat) : State :=
  (s.setPort p { s.port p with lowWindows := 0, reqSeq := none, lanesIdle := false, lanesLocked := true, wakes := 0,
                               wakeAcked := false, missRun := [], capKept := false }).setPark p 0

/-- Both directions move to lanes 0–3 (R348). -/
def State.parkNow (s : State) (p : Nat) : State :=
  ((s.setPort p { s.port p with lanesIdle := true, lanesLocked := false, reqSeq := none, missRun := [] }).setPark p 2).phyCount
    p 14 1

/-- Lanes 4–7 leave idle. -/
def State.wakeLanes (s : State) (p : Nat) : State :=
  ((s.setPort p { s.port p with lanesIdle := false, lanesLocked := false, wakeAcked := false }).setPark p 3).phyCount p 15 1

/-- The wake condition (R348). -/
def State.wakeCond (s : State) (p : Nat) : Bool :=
  decide (s.rf (R.PORT_PARK p) F.PORT_PARK_WAKE_KIB * 1024 < s.txFill p) || (s.port p).wakeOwed.isSome

/-- A WAKE to answer is answered at once where the lanes are locked. -/
def State.answerWake (s : State) (p : Nat) : State :=
  match (s.port p).wakeOwed with
  | some q => (s.setPort p { s.port p with wakeOwed := none }).parkFrame p 6 q
  | none => s

/-- A parked port starts to wake (R348): WAKE on lanes 0–3, and lanes 4–7 leave idle. -/
def State.startWake (s : State) (p : Nat) : State :=
  let q := (s.port p).parkSeq
  let s := s.setPort p { s.port p with parkSeq := (q + 1) % 65536, reqSeq := some q, wakes := 1 }
  (s.wakeLanes p).parkFrame p 5 q

/-- What the wake condition does in PARKING and PARKED (R348). -/
def State.parkCheck (s : State) (p : Nat) : State :=
  if !s.wakeCond p then s
  else match s.parkState p with
    | 1 => (s.parkFull p).answerWake p
    | 2 => s.startWake p
    | _ => s

/-- A latch takes PARK_EN away (R348): PARK_CAP goes once the port is FULL, to which a parked port must first wake. -/
def State.dropCap (s : State) (p : Nat) : State :=
  match s.parkState p with
  | 0 => s
  | 1 => s.parkFull p
  | 2 => (s.setPort p { s.port p with capKept := true }).startWake p
  | _ => s.setPort p { s.port p with capKept := true }

/-- Hands a frame to a port. -/
def State.handFrame (s : State) (p : Nat) (f : TxFrame) : State := (s.pushFrame p f).parkCheck p

/-! ## The receive buffer (R334, R339) -/

/-- Bytes in the receive buffer. -/
def State.rxFill (s : State) (p : Nat) : Nat := ((s.port p).rxq.map (fun f => f.len)).foldl (· + ·) 0

/-- The 20 bytes of a PFC frame (IEEE 802.1Qbb): opcode, the enabled priorities, and the quanta of each. -/
def pfcBytes (pcp quanta : Nat) : List Byte :=
  [0x01, 0x01, 0x00, BitVec.ofNat 8 (2 ^ pcp)] ++
    ((List.range 8).map (fun i => if i = pcp then [BitVec.ofNat 8 (quanta / 256), BitVec.ofNat 8 quanta] else [0x00, 0x00])).flatten

/-- A PFC frame for priority PCP as a port hands it to its MAC (R339). -/
def State.pfcTx (s : State) (p quanta : Nat) : TxFrame :=
  { frame := s.frameOf p 46 .multicast (.pfc (2 ^ s.portCfg p F.PORT_CFG_PCP) quanta), ward := none, dst := 0x0180C2000001, etype := 0x8808,
    bytes := pfcBytes (s.portCfg p F.PORT_CFG_PCP) quanta }

/-- Sends a PFC frame (R339). -/
def State.pfcFrame (s : State) (p quanta : Nat) : State := s.pushFrame p (s.pfcTx p quanta)

/-- The fill after a change: RX_FILL, and the pausing or resuming PFC frame it calls for (R339). -/
def State.pfcCheck (s : State) (p : Nat) : State :=
  let n := s.rxFill p
  let s := s.setPortSt p F.PORT_STATUS_RX_FILL (min 1024 (n / 1024))
  if s.portCfg p F.PORT_CFG_PFC_EN = 1 then
    if s.portSt p F.PORT_STATUS_XOFF_SENT = 0 then
      if s.rf (R.PORT_PFC p) F.PORT_PFC_XOFF_KIB * 1024 ≤ n then (s.setPortSt p F.PORT_STATUS_XOFF_SENT 1).pfcFrame p 0xFFFF else s
    else if n < s.rf (R.PORT_PFC p) F.PORT_PFC_XON_KIB * 1024 then (s.setPortSt p F.PORT_STATUS_XOFF_SENT 0).pfcFrame p 0 else s
  else s.setPortSt p F.PORT_STATUS_XOFF_SENT 0

/-- The IP and UDP headers of a frame that carries this packet with this checksum verdict and this mark. -/
def headFor (rx : RxInfo) (pkt : Packet) (f : Frame) : Option IpHead :=
  match f.kind with
  | .sirri ip q => if q = pkt ∧ ip.csumOk = rx.csumOk ∧ (ip.ecn = 3) = (rx.ce = true) then some ip else none
  | _ => none

/-- The transport takes a packet from the receive buffer (R334): the state after it, and the packet's IP and UDP headers; none where no
frame there carries it. -/
def State.takeRx (s : State) (rx : RxInfo) (pkt : Packet) : Option (State × IpHead) :=
  let q := (s.port rx.port).rxq
  match q.findIdx? (fun f => (headFor rx pkt f).isSome) with
  | none => none
  | some i =>
    (q[i]?.bind (headFor rx pkt)).map (fun ip =>
      ((s.setPort rx.port { s.port rx.port with rxq := q.eraseIdx i }).pfcCheck rx.port, ip))

end Sys2Proof.Machine
end

