-- ==== Sys2Proof/Machine/Xport.lean ====
section
/-! DEFINITION. The transport's sending side (chapter 9): queue contexts (R297), routes (R311 to R313), packets (R276, R277), link
keys (R436, R437), messages and their completion (R281 to R291, R301), and coordinated abort (R321, R322). A packet's payload
stands here in the clear; ENC, KEY_ID and the header fields fix its encryption (R436). -/

namespace Sys2Proof.Machine

open Sys2Proof

/-! ## Interrupts -/

/-- An MSI-X vector is to be raised, no more often than once every `minUs` (R380, R500). -/
def State.irq (s : State) (v minUs : Nat) : State :=
  if s.evt.holdOff.any (fun e => e.1 = v) then
    { s with evt := { s.evt with holdOff := s.evt.holdOff.map (fun e => if e.1 = v then (v, true) else e) } }
  else
    { s with evt := { s.evt with
        msix := s.evt.msix ++ [v]
        holdOff := if minUs = 0 then s.evt.holdOff else s.evt.holdOff ++ [(v, false)] } }

/-! ## Queue contexts (R297) -/

/-- Changes the transport's state. -/
def State.modX (s : State) (f : Xport → Xport) : State := { s with xport := f s.xport }

/-- The context that 64 bytes hold. -/
def ctxOfBytes (bs : List Byte) : Ctx :=
  let w (i : Nat) : W64 := BitVec.ofNat 64 (leNat (slice bs (8 * i) 8))
  { w0 := w 0, w1 := w 1, w2 := w 2, w3 := w 3, w4 := w 4, w5 := w 5, w6 := w 6, w7 := w 7 }

/-- The 64 bytes of a context. -/
def Ctx.bytes (c : Ctx) : List Byte :=
  ([c.w0, c.w1, c.w2, c.w3, c.w4, c.w5, c.w6, c.w7].map (fun w => leBytes 8 w.toNat)).flatten

/-- TYPE: 0 HOST, 1 CELL, 2 COLL. -/
def Ctx.typ (c : Ctx) : Nat := fld c.w0 4 4
/-- WARD. -/
def Ctx.ward (c : Ctx) : Nat := fld c.w0 8 3
/-- ENABLE. -/
def Ctx.enable (c : Ctx) : Bool := bitAt c.w0.toNat 11
/-- STRICT. -/
def Ctx.strict (c : Ctx) : Bool := bitAt c.w0.toNat 12
/-- ERROR. -/
def Ctx.error (c : Ctx) : Bool := bitAt c.w0.toNat 13
/-- DST_DEV. -/
def Ctx.dstDev (c : Ctx) : Nat := fld c.w0 16 16
/-- DST_QUEUE. -/
def Ctx.dstQueue (c : Ctx) : Nat := fld c.w0 32 20
/-- RING_BASE. -/
def Ctx.ringBase (c : Ctx) : Nat := fld c.w1 0 48
/-- RING_LOG2. -/
def Ctx.ringLog2 (c : Ctx) : Nat := fld c.w1 48 5
/-- PROD. -/
def Ctx.prod (c : Ctx) : Nat := fld c.w2 0 32
/-- CONS. -/
def Ctx.cons (c : Ctx) : Nat := fld c.w2 32 32
/-- CQ_BASE. -/
def Ctx.cqBase (c : Ctx) : Nat := fld c.w3 0 48
/-- CQ_LOG2. -/
def Ctx.cqLog2 (c : Ctx) : Nat := fld c.w3 48 5
/-- CQ_PROD. -/
def Ctx.cqProd (c : Ctx) : Nat := fld c.w4 0 32
/-- CQ_CONS. -/
def Ctx.cqCons (c : Ctx) : Nat := fld c.w4 32 32
/-- MSG_TIMEOUT in µs; 0 acts as 100 units. -/
def Ctx.timeoutUs (c : Ctx) : Nat := (if fld c.w6 48 16 = 0 then 100 else fld c.w6 48 16) * 100
/-- Whether the completion ring is full (R300). -/
def Ctx.cqFull (c : Ctx) : Bool := decide (2 ^ c.cqLog2 ≤ (c.cqProd + 2 ^ 32 - c.cqCons) % 2 ^ 32)

/-- Device address of a context. -/
def State.ctxAddr (s : State) (q : Nat) : Nat := s.rf R.XPORT_STATE_BASE F.XPORT_STATE_BASE_BASE + 64 * q

/-- A context in the cache. -/
def State.ctxCached (s : State) (q : Nat) : Option Ctx := (s.xport.ctxCache.find? (fun e => e.1 = q)).map (·.2)

/-- Puts a context at the head of the cache of 16,384. -/
def State.ctxKeep (s : State) (q : Nat) (c : Ctx) : State :=
  s.modX (fun x => { x with ctxCache := ((q, c) :: x.ctxCache.filter (fun e => e.1 ≠ q)).take 16384 })

/-- Brings a context into the cache: a miss reads it from the module's memory, and a read that fails raises CTX_FAULT (R326). -/
def State.ctxLoad (s : State) (q : Nat) : State × Nat :=
  match s.ctxCached q with
  | some c => (s.ctxKeep q c, St.ok)
  | none =>
    let r := s.uRead (s.ctxAddr q) 64 0 false
    if r.2.2 = St.ok ∨ r.2.2 = St.unset then (r.1.ctxKeep q (ctxOfBytes r.2.1), St.ok)
    else (r.1.raise { ev 0x1808 1 0 0 with status := r.2.2, addr := s.ctxAddr q }, r.2.2)

/-- The context of a queue that `ctxLoad` has brought in; a context that could not be read is out of service. -/
def State.ctx (s : State) (q : Nat) : Ctx := (s.ctxCached q).getD {}

/-- Writes a context, in the cache and through to memory. -/
def State.ctxPut (s : State) (q : Nat) (c : Ctx) : State := ((s.ctxKeep q c).uWrite (s.ctxAddr q) 0 c.bytes).1

/-- Signals a target under a ward (R115, R293, R297): kind, target, counter, whole ward. A target outside the ward takes
nothing. -/
def State.wardSignal (s : State) (w kind target ctr : Nat) (all : Bool) : State :=
  if (all && kind = 0) || (kind ≠ 3 && s.wardOfCore (targetCore kind target) = some w) then
    s.signalTo w kind target ctr 1 all
  else s

/-- The context's signal (R297, R301). -/
def State.ctxSignal (s : State) (q : Nat) : State :=
  let w := (s.ctx q).w7
  if bitAt w.toNat 6 then s.wardSignal (s.ctx q).ward (fld w 14 2) (fld w 7 7) (fld w 0 6) (bitAt w.toNat 16) else s

/-- A completion of a queue joins those that wait for its ring (R300, R301). -/
def State.queueDone (s : State) (q : Nat) (e : CqE) : State :=
  s.modX (fun x => { x with cqWait := mmod [] x.cqWait q (· ++ [e]) })

/-! ## Device number and routes (R278, R311 to R313) -/

/-- The module's device number. -/
def State.dev (s : State) : Nat := s.rf R.XPORT_CFG F.XPORT_CFG_DEVNUM

/-- The transport is in service. -/
def State.xportOn (s : State) : Bool := s.dev ≠ 0xFFFF && s.rf R.XPORT_CFG F.XPORT_CFG_ENABLE = 1

/-- P, the payload size (R277). -/
def State.psize (s : State) : Nat := 1024 * 2 ^ s.rf R.XPORT_CFG F.XPORT_CFG_PAYLOAD

/-- Number of the valid route of a destination (R311). -/
def State.routeOf (s : State) (d : Nat) : Option Nat :=
  let b := s.rf R.XPORT_ROUTE_BASE F.XPORT_ROUTE_BASE_BASE
  if b ≤ d ∧ d < b + 4096 ∧ s.rf (R.XPORT_ROUTE (d - b)) F.XPORT_ROUTE_VALID = 1 then some (d - b) else none

/-- Whether a port carries Sirri traffic: in the routes (R341, R342) and not kept from it by R310. -/
def State.portIn (s : State) (p : Nat) : Bool := s.rf (R.PORT_STATUS p) F.PORT_STATUS_USABLE = 1 && !nmem s.xport.conflict p

/-- The usable ports of route `i` (R311). -/
def State.routePorts (s : State) (i : Nat) : List Nat :=
  (List.range 16).filter (fun p => bitAt (s.rf (R.XPORT_ROUTE i) F.XPORT_ROUTE_PORTS) p &&
    !bitAt (s.rf (R.XPORT_ROUTE i) F.XPORT_ROUTE_DOWN) p && s.portIn p)

/-- The first usable port at or after `from_`. -/
def nextPort (ports : List Nat) (from_ : Nat) : Option Nat :=
  ((List.range 16).map (fun i => (from_ + i) % 16)).find? ports.contains

/-- The port of the next copy to a destination: the memory fabric (16) to this module itself (R280). -/
def State.portTo (s : State) (d from_ : Nat) : Option Nat :=
  if d = s.dev then some 16
  else match s.routeOf d with
    | some i => nextPort (s.routePorts i) from_
    | none => none

/-- Destinations whose valid route has a usable port. -/
def State.reachable (s : State) : List Nat :=
  (s.regs.filterMap (fun e =>
    if R.XPORT_ROUTE 0 ≤ e.1 ∧ e.1 ≤ R.XPORT_ROUTE 4095 then
      let i := (e.1 - R.XPORT_ROUTE 0) / 8
      if s.rf (R.XPORT_ROUTE i) F.XPORT_ROUTE_VALID = 1 && !(s.routePorts i).isEmpty then
        some (s.rf R.XPORT_ROUTE_BASE F.XPORT_ROUTE_BASE_BASE + i) else none
    else none))

/-- NO_ROUTE for every destination that had a usable port and has none now (R313). -/
def State.noRoutes (s : State) (before : List Nat) : State :=
  let now := s.reachable
  (before.filter (fun d => !now.contains d && (s.routeOf d).isSome)).foldl (fun s d => s.raise { ev 0x1803 0 0 0 with source2 := d }) s

/-- A change of what ports are usable, with NO_ROUTE where it leaves a route none. -/
def State.rerouted (s : State) (f : State → State) : State := (f s).noRoutes s.reachable

/-! ## Frames and packets -/

/-- The IP address that a port's prefix forms with a device number (R279). -/
def State.ipAddr (s : State) (p d : Nat) : Nat :=
  let pre := s.rf (R.XPORT_ADDR p) F.XPORT_ADDR_PREFIX
  if s.rf R.XPORT_CFG F.XPORT_CFG_IPV = 1 then pre * 2 ^ 64 + d else (pre + d) % 2 ^ 32

/-- The entropy value of a packet (R312). -/
def State.entropy (s : State) (pkt : Packet) : Nat :=
  match s.routeOf pkt.dstDev with
  | some i => (pkt.msgId + pkt.pktIndex + 7 * pkt.xmit) % 2 ^ s.rf (R.XPORT_ROUTE i) F.XPORT_ROUTE_ENT_LOG2
  | none => 0

/-- The IP and UDP headers of a packet that a port sends (R275, R279, R336): ECT(0), and a checksum that the module computes. -/
def State.ipHead (s : State) (p : Nat) (pkt : Packet) : IpHead :=
  { v6 := s.rf R.XPORT_CFG F.XPORT_CFG_IPV = 1, src := s.ipAddr p s.dev, dst := s.ipAddr p pkt.dstDev,
    dscp := s.portCfg p F.PORT_CFG_DSCP, ecn := 2, srcPort := 0xC000 + s.entropy pkt, dstPort := s.rf R.XPORT_CFG F.XPORT_CFG_UDP_PORT,
    csumOk := true }

/-- Bytes of a Sirri datagram with its IP header (R275 to R277). -/
def State.sirriLen (s : State) (pkt : Packet) : Nat :=
  (if s.rf R.XPORT_CFG F.XPORT_CFG_IPV = 1 then 40 else 20) + 8 + 48 + pkt.payload.length + (if pkt.enc then 16 else 0)

/-- Sends a packet on a port, or on the module's own memory fabric (16). A module without a device number sends none (R278). -/
def State.sendPkt (s : State) (p : Nat) (pkt : Packet) (ward : Option Nat) : State :=
  if s.dev = 0xFFFF then s
  else if p = 16 then s.modX (fun x => { x with loop := x.loop ++ [pkt] })
  else s.handFrame p { frame := s.frameOf p (s.sirriLen pkt) .unicast (.sirri (s.ipHead p pkt) pkt), ward := ward,
                       etype := if s.rf R.XPORT_CFG F.XPORT_CFG_IPV = 1 then 0x86DD else 0x0800 }

/-- Counts a dropped packet (R275). -/
def State.dropPkt (s : State) : State := s.bump R.XPORT_DROP_COUNT F.XPORT_DROP_COUNT_COUNT 1

/-- A packet with every field zero but VER and the device numbers. -/
def State.pkt0 (s : State) (typ dst : Nat) : Packet :=
  { ver := 1, typ := typ, last := false, slow := false, ece := false, enc := false, coll := false, srcDev := s.dev, dstDev := dst,
    dstQueue := 0, srcQueue := 0, msgId := 0, pktIndex := 0, xmit := 0, ctrlOp := 0, regionKey := 0, accessKey := 0,
    keyId := 0, offset := 0, msgLen := 0, status := 0, collId := 0, payload := [] }

/-! ## Link keys (R435 to R437) -/

/-- Link key entry `j` is valid. -/
def State.linkValid (s : State) (j : Nat) : Bool := s.rf (R.SEC_LINK j) F.SEC_LINK_VALID = 1

/-- The entry under which ward `w` sends to a peer: valid and not spent. -/
def State.linkFor (s : State) (w peer : Nat) : Option Nat :=
  (s.xport.linkAt.map (·.1)).find? (fun j => s.linkValid j && s.rf (R.SEC_LINK j) F.SEC_LINK_WARD = w &&
    s.rf (R.SEC_LINK j) F.SEC_LINK_PEER = peer && s.rf (R.SEC_LINK j) F.SEC_LINK_SPENT = 0)

/-- Entries are spent 2^31 messages after their installation, and their keys destroyed (R418, R437). -/
def State.spendLinks (s : State) : State :=
  s.xport.linkAt.foldl (fun s e =>
    if s.linkValid e.1 && s.rf (R.SEC_LINK e.1) F.SEC_LINK_SPENT = 0 && decide (2 ^ 31 ≤ s.xport.nextMsg + 1 - e.2) then
      let w := s.rf (R.SEC_LINK e.1) F.SEC_LINK_WARD
      let s := { s with sec := { s.sec with linkKeys := merase e.1 s.sec.linkKeys } }
      (s.setF (R.SEC_LINK e.1) F.SEC_LINK_SPENT 1).raise { ev 0x3008 1 w 5 with ward := w, source2 := s.rf (R.SEC_LINK e.1) F.SEC_LINK_KEY_ID }
    else s) s

/-- A packet that a ward sends, encrypted under its entry where the ward is LOCKED; none without an entry (R437). -/
def State.sealPkt (s : State) (w : Nat) (pkt : Packet) : Option Packet :=
  if s.locked w && pkt.dstDev ≠ s.dev then
    (s.linkFor w pkt.dstDev).map (fun j => { pkt with enc := true, keyId := s.rf (R.SEC_LINK j) F.SEC_LINK_KEY_ID })
  else some pkt

/-! ## Messages -/

/-- What is known of packet `i`. -/
def Msg.pkt (m : Msg) (i : Nat) : PktSt := mget {} m.pkts i

/-- Replaces what is known of packet `i`. -/
def Msg.setPkt (m : Msg) (i : Nat) (p : PktSt) : Msg := { m with pkts := mset {} m.pkts i p }

/-- Packets in flight (R291). -/
def Msg.inflight (m : Msg) : Nat :=
  (m.pkts.filter (fun e => e.2.acked = none && !e.2.copies.isEmpty && !e.2.held)).length

/-- Replaces an outstanding message. -/
def State.putMsg (s : State) (m : Msg) : State :=
  s.modX (fun x => { x with msgs := x.msgs.map (fun n => if n.id = m.id then m else n) })

/-- An outstanding message. -/
def State.msg (s : State) (id : Nat) : Option Msg := s.xport.msgs.find? (fun m => m.id = id)

/-- A message not yet started. -/
def newMsg (kind : Nat) (origin : Origin) (q w dst dstQ len loc : Nat) : Msg :=
  { id := 0, kind := kind, origin := origin, queue := q, ward := w, dst := dst, dstQueue := dstQ, len := len, loc := loc,
    fetch := true, data := [], rkey := 0, akey := 0, off := 0, psize := 0, npkts := 0, pkts := [], cwnd := 0, run := 0, lastEce := 0,
    slow := false, ptr := 0, got := [], rounds := 0, strict := false, st := 0, cut := none, coll := none, ctl := 0, start := 0 }

/-- A collective. -/
def State.coll (s : State) (q : Nat) : Coll := mget {} s.xport.colls q

/-- Replaces a collective. -/
def State.setColl (s : State) (q : Nat) (c : Coll) : State := s.modX (fun x => { x with colls := mset {} x.colls q c })

/-- A stack of a mask sends slow notices (R246, R320). -/
def State.slowMask (s : State) (mask : Nat) : Bool :=
  (List.range 8).any (fun st => bitAt mask st && s.rf (R.MEM_THERM_STATUS st) F.MEM_THERM_STATUS_SLOW = 1)

/-- The collective that a sequencer's packets belong to (R319). -/
def State.collOf (s : State) (k : Nat) : Option Nat := if isColl k && (s.coll (k - 160)).isOpen then some (k - 160) else none

/-- Sequencer and COLL_ID of the collective whose packets a message's are: the one that its sequencer has open when it sends them (R319),
or the one that a CTRL ABORT ends (R321). -/
def State.collIn (s : State) (m : Msg) : Option (Nat × Nat) :=
  match m.origin with
  | .abort q id => some (q, id)
  | .cmd k _ => (s.collOf k).map (fun q => (q, (s.coll q).id))
  | .desc _ _ _ _ => none

/-- Packet `i` of a message as its copy `xmit` (R276, R277, R319 to R321). -/
def State.msgPkt (s : State) (m : Msg) (i xmit : Nat) : Packet :=
  let p := s.pkt0 (if m.kind = 7 then 7 else m.kind) m.dst
  let p := { p with dstQueue := m.dstQueue, srcQueue := m.queue, msgId := m.id % 2 ^ 32, pktIndex := i, xmit := xmit % 16,
                    regionKey := m.rkey, accessKey := m.akey, offset := m.off, msgLen := m.len }
  let p := match s.collIn m with
    | some (q, id) => { p with coll := true, collId := id, slow := (s.coll q).id = id && s.slowMask (s.coll q).mask }
    | none => p
  match m.kind with
  | 4 => { p with payload := m.data }
  | 7 => { p with ctrlOp := 3, status := m.ctl }
  | 1 => p
  | _ => { p with last := decide (i + 1 = m.npkts), payload := slice m.data (i * m.psize) m.psize }

/-- Sends one copy of packet `i` on the first usable port from `from_`; none when there is none (R284) or no key (R437). -/
def State.copyOut (s : State) (m : Msg) (i xmit from_ : Nat) (pkt : Packet) (counted : Bool) : Except Nat (State × Msg) :=
  match s.portTo m.dst from_ with
  | none => .error St.peerUnreachable
  | some p =>
    match s.sealPkt m.ward pkt with
    | none => .error St.keyDenied
    | some pkt =>
      let k := m.pkt i
      let k := { k with copies := { xmit := xmit, port := p } :: k.copies, sends := if counted then k.sends + 1 else k.sends, held := false }
      .ok (s.sendPkt p pkt (some m.ward), { m.setPkt i k with ptr := (p + 1) % 16 })

/-- A message with what it takes from the transport as it starts (R281, R282, R291, R312). -/
def State.readyMsg (s : State) (m : Msg) : Msg :=
  { m with id := s.xport.nextMsg, psize := s.psize, npkts := if m.kind = 4 then 1 else max 1 (ceilDiv m.len s.psize),
           retryMax := s.rf R.XPORT_TIMING F.XPORT_TIMING_RETRY_MAX, maxWin := s.rf R.XPORT_CC F.XPORT_CC_MAX_WIN,
           cwnd := s.rf R.XPORT_CC F.XPORT_CC_INIT_WIN, ptr := s.xport.nextMsg % 16, start := s.now }

/-- MSG_FAIL for a message that ends with one of three statuses (R326). -/
def State.msgFail (s : State) (m : Msg) (st : Nat) : State :=
  if st = St.retryExhausted || st = St.peerUnreachable || st = St.timeout then
    s.raise { ev 0x1804 1 0 0 with ward := m.ward, source2 := m.dst, status := st }
  else s

/-- The MSG_ID of a message is taken; link keys may be spent by it (R437). -/
def State.nextId (s : State) : State := (s.modX (fun x => { x with nextMsg := x.nextMsg + 1 })).spendLinks

/-- Why a message cannot be sent at all: no transport or route (R278, R311), or no link key (R437). -/
def State.noWay (s : State) (m : Msg) : Nat :=
  if !s.xportOn || (m.dst ≠ s.dev && (s.routeOf m.dst).isNone) then St.peerUnreachable
  else if s.locked m.ward && m.dst ≠ s.dev && (s.linkFor m.ward m.dst).isNone then St.keyDenied
  else St.ok

/-- A CTRL ABORT starts. -/
def State.launchAbort (s : State) (m : Msg) : State :=
  let m := s.readyMsg m
  let s := s.nextId
  if s.noWay m ≠ St.ok then s.msgFail m (s.noWay m)
  else match s.copyOut m 0 0 m.ptr (s.msgPkt m 0 0) true with
    | .ok (s, m) => s.modX (fun x => { x with msgs := x.msgs ++ [m] })
    | .error e => s.msgFail m e

/-- A CTRL ABORT to one member, as a message of one packet (R321); it too needs a message context (R281). -/
def State.sendAbort (s : State) (q : Nat) (c : Coll) (dst dstQ st : Nat) : State :=
  let m := { newMsg 7 (.abort q c.id) 0 ((s.wardOfCore (160 + q)).getD 0xFF) dst dstQ 0 0 with ctl := st }
  if 16384 ≤ s.xport.msgs.length then s.modX (fun x => { x with waitMsgs := x.waitMsgs ++ [m] }) else s.launchAbort m

/-- An abort reaches a collective (R322): the first ends its messages; later ones are ranked under R14. -/
def State.noteAbort (s : State) (q st : Nat) : State :=
  let c := s.coll q
  match c.abort with
  | some old => s.setColl q { c with abort := some (worst old st) }
  | none =>
    (s.setColl q { c with abort := some st }).modX (fun x => { x with
      msgs := x.msgs.filter (fun m => m.coll ≠ some q)
      waitMsgs := x.waitMsgs.filter (fun m => m.coll ≠ some q) })

/-- A collective is aborted here (R321): CTRL ABORT to every member. -/
def State.abortColl (s : State) (q st : Nat) : State :=
  let c := s.coll q
  if !c.isOpen || c.abort.isSome then s
  else
    let s := s.raise { ev 0x1806 1 q 7 with ward := (s.wardOfCore (160 + q)).getD 0xFF, status := st, source2 := c.id }
    (c.members.foldl (fun s e => s.sendAbort q c e.1 e.2 st) s).noteAbort q st

/-- Fails the collectives that depend on a stack that has been fenced (R247, R321). -/
def State.fenceColls (s : State) (st : Nat) : State :=
  (List.range 8).foldl (fun s q => if bitAt (s.coll q).mask st then s.abortColl q St.thermalAbort else s) s

/-- Whether a core's collective is being aborted, so that its commands end with the window (R322). -/
def State.aborting (s : State) (k : Nat) : Bool := isColl k && (s.coll (k - 160)).isOpen && (s.coll (k - 160)).abort.isSome

/-- The elements that a command has rounded are counted as it completes; with four statuses it counts nothing (R151). -/
def State.tallyUp (s : State) (k : Nat) (e : Issued) (st : Nat) : State :=
  if st = St.wardFault || st = St.bounds || st = St.keyDenied || st = St.formatInvalid then s
  else e.tally.foldl (fun s t => s.countAll k e.ward t.1 t.2) s

/-- The command that sent a message has executed to the end. -/
def State.cmdDone (s : State) (k ord st : Nat) : State :=
  let s := match (s.core k).issued.find? (fun e => e.ord = ord) with
    | some e => s.tallyUp k e st
    | none => s
  s.setPhase k ord (.done st)

/-- A message's completion reaches its queue or command (R301); the commands of a collective that is being aborted end with the window
(R322). -/
def State.deliverDone (s : State) (m : Msg) (st : Nat) : State :=
  match m.origin with
  | .desc tag op cq sig =>
    s.queueDone m.queue { status := st, op := op, tag := tag, bytes := if badStatus st then 0 else m.len, src := 0, cq := cq, sig := sig }
  | .cmd k ord => if s.aborting k then s else (s.ctxSignal m.queue).cmdDone k ord st
  | .abort _ _ => s

/-- The context of a message's queue is brought in; a CTRL ABORT has none. -/
def State.loadFor (s : State) (m : Msg) : State :=
  match m.origin with
  | .abort _ _ => s
  | _ => (s.ctxLoad m.queue).1

/-- A message ends (R284, R289, R290, R301, R326). A collective whose message ends for want of its peer is aborted first, so that the
command ends with the others (R321, R322). -/
def State.finishMsg (s : State) (m : Msg) (st : Nat) : State :=
  let st := worst st m.st
  let s := (s.modX (fun x => { x with msgs := x.msgs.filter (fun n => n.id ≠ m.id) })).loadFor m
  let s := if m.strict && badStatus st then s.ctxPut m.queue { s.ctx m.queue with w0 := setFld (s.ctx m.queue).w0 13 1 1 } else s
  let s := s.msgFail m st
  let s := match m.coll with
    | some q => if st = St.retryExhausted || st = St.peerUnreachable then s.abortColl q st else s
    | none => s
  s.deliverDone m st

/-- First packet that is sent only as LAST (R285); an ATOMIC or CTRL ABORT has none. -/
def Msg.lastIdx (m : Msg) : Nat := if m.kind = 0 || m.kind = 3 then m.npkts - 1 else m.npkts

/-- What sending a part of a message leaves: the state, the message, and the status with which it ends, if it does. -/
abbrev Sent := State × Msg × Option Nat

/-- Sends first copies while the window allows (R291): `fuel` packets from `i`. R548 ends the message at the first packet that would
carry a byte of a poisoned line; those before it have gone. -/
def State.pumpFrom (s : State) (m : Msg) : Nat → Nat → Sent
  | 0, _ => (s, m, none)
  | fuel + 1, i =>
    if m.lastIdx ≤ i then (s, m, none)
    else if m.cut.any (fun c => decide (c ≤ i)) then (s, m, some St.poison)
    else if (m.pkt i).sends ≠ 0 then s.pumpFrom m fuel (i + 1)
    else if m.cwnd ≤ m.inflight then (s, m, none)
    else match s.copyOut m i 0 m.ptr (s.msgPkt m i 0) true with
      | .error e => (s, m, some e)
      | .ok (s', m') => State.pumpFrom s' m' fuel (i + 1)

/-- Whether the LAST packet may go (R285): all others acknowledged, and where a packet was sent more than once, LIFE passed. -/
def Msg.lastReady (m : Msg) (lifePassed : Bool) : Bool :=
  (m.kind = 0 || m.kind = 3) && (m.pkt (m.npkts - 1)).sends = 0 &&
    (List.range (m.npkts - 1)).all (fun i => (m.pkt i).acked.isSome) &&
    (lifePassed || !(m.pkts.any (fun e => decide (1 < e.2.copies.length))))

/-- What one copy leaves. -/
def sentOf (s : State) (m : Msg) : Except Nat (State × Msg) → Sent
  | .ok (s', m') => (s', m', none)
  | .error e => (s, m, some e)

/-- Sends the LAST packet when R285 allows it; R548 ends the message there if the packet carries a byte of a poisoned line. -/
def State.tryLast (s : State) (m : Msg) (lifePassed : Bool) : Sent :=
  if m.lastReady lifePassed then
    if m.cut.isSome then (s, m, some St.poison)
    else sentOf s m (s.copyOut m (m.npkts - 1) 0 m.ptr (s.msgPkt m (m.npkts - 1) 0) true)
  else (s, m, none)

/-- The message goes on with what has been sent, or ends. -/
def settleSent (r : Sent) : State :=
  match r.2.2 with
  | none => r.1.putMsg r.2.1
  | some e => r.1.finishMsg r.2.1 e

/-- Missing packets of a READ as ranges: first index and count. -/
def Msg.missing (m : Msg) : List (Nat × Nat) :=
  ((List.range m.npkts).foldl (fun (acc : List (Nat × Nat)) i =>
    if nmem m.got i then acc
    else match acc with
      | (a, n) :: rest => if a + n = i then (a, n + 1) :: rest else (i, 1) :: acc
      | [] => [(i, 1)]) []).reverse

/-- A READ_REQ for each range of packets that is still missing (R283), with a higher XMIT each time (R436). -/
def State.readRound (s : State) (m : Msg) : Sent :=
  let r := m.missing.foldl (fun (acc : Sent) g =>
    match acc with
    | (s, m, some e) => (s, m, some e)
    | (s, m, none) =>
      let pkt := { s.msgPkt m g.1 m.rounds with msgLen := min ((g.1 + g.2) * m.psize) m.len - g.1 * m.psize }
      sentOf s m (s.copyOut m 0 m.rounds m.ptr pkt false)) (s, m, none)
  (r.1, { r.2.1 with rounds := m.rounds + 1 }, r.2.2)

/-- Sends what the message may send now, or ends it. -/
def State.pump (s : State) (m : Msg) : State :=
  settleSent (if m.kind = 1 then (if m.rounds = 0 then s.readRound m else (s, m, none))
    else match s.pumpFrom m m.npkts 0 with
      | (s, m, none) => State.tryLast s m false
      | r => r)

/-- The data that a message carries, read where it lies when the message starts. -/
def State.fetchData (s : State) (m : Msg) : State × Msg :=
  if !m.fetch || m.kind = 1 then (s, m)
  else
    let r := s.devRead m.loc (if m.kind = 4 then min m.len 64 else m.len) m.hint false
    (r.1, { m with data := m.data ++ r.2.1, st := worst m.st r.2.2 })

/-- A message takes a context and starts (R281, R282, R291, R311, R312). -/
def State.beginMsg (s : State) (m : Msg) : State :=
  let m := s.readyMsg m
  let s := (s.modX (fun x => { x with msgs := x.msgs ++ [m] })).nextId
  let s := match m.origin with
    | .cmd k ord => s.setPhase k ord .flying
    | _ => s
  if s.noWay m ≠ St.ok then s.finishMsg m (s.noWay m)
  else
    let (s, m) := s.fetchData m
    if m.st = St.thermalAbort || statusRank m.st < 4 then s.finishMsg m m.st else s.pump m

/-- Whether a message may start now (R281, R295, R297). -/
def State.mayBegin (s : State) (m : Msg) : Bool :=
  decide (s.xport.msgs.length < 16384) &&
    (!m.strict || (!(s.ctx m.queue).error && !(s.xport.msgs.any (fun n => n.queue = m.queue && n.kind ≠ 7))))

/-- Longest message at the present P (R282). -/
def State.maxMsg (s : State) : Nat := min (2 ^ 20 * s.psize) (2 ^ 32 - 16)

/-- A message is submitted: refused beyond the limit of R282, started, or waiting for a context. -/
def State.submit (s : State) (m : Msg) : State :=
  let m := { m with strict := (s.ctx m.queue).strict }
  if s.maxMsg < m.len then s.deliverDone m St.bounds
  else if s.mayBegin m && !(s.xport.waitMsgs.any (fun n => n.queue = m.queue)) then s.beginMsg m
  else
    let s := match m.origin with
      | .cmd k ord => s.setPhase k ord .held
      | _ => s
    s.modX (fun x => { x with waitMsgs := x.waitMsgs ++ [m] })

end Sys2Proof.Machine
end

