-- ==== Sys2Proof/Machine/EvtOps.lean ====
section
/-! DEFINITION. Event records as they leave the module (R493, R496), the hold-up store's energy (R537 to R539), and the pages of the
incident log (R502, R503). -/

namespace Sys2Proof.Machine

open Sys2Proof

/-- The 32 bytes of a record (R493). -/
def EvRec.bytes (r : EvRec) : List Byte :=
  leBytes 8 (r.code % 2 ^ 16 + r.cls % 4 * 2 ^ 16 + b2n r.summary * 2 ^ 18 + 2 ^ 20 + r.count % 2 ^ 32 * 2 ^ 32) ++
    leBytes 8 r.time ++
    leBytes 8 (r.source % 2 ^ 16 + r.srcKind % 256 * 2 ^ 16 + r.ward % 256 * 2 ^ 24 + r.source2 % 2 ^ 16 * 2 ^ 32 +
      r.status % 256 * 2 ^ 48) ++
    leBytes 8 (r.addr % 2 ^ 48 + r.seq % 2 ^ 16 * 2 ^ 48)

/-- A queue in the order of delivery: alarms, then summaries, then logs and traces (R496). -/
def ordered (l : List EvRec) : List EvRec :=
  l.filter (fun r => r.cls = 0) ++ l.filter (fun r => r.cls = 1 && r.summary) ++
    l.filter (fun r => r.cls ≠ 0 && !(r.cls = 1 && r.summary))

/-- The first `n` records that a path delivers. -/
def State.nextRecs (s : State) (p n : Nat) : List EvRec := (ordered (s.path p).queue).take n

/-- Removes records from a path's queue. -/
def State.dropRecs (s : State) (p : Nat) (l : List EvRec) : State :=
  let q := s.path p
  s.setPath p { q with queue := q.queue.filter (fun r => !(l.any (fun x => x.seq = r.seq))) }

/-! ## The hold-up store (R537 to R539) -/

/-- E_V in mJ for a capacitance in mF and a bank voltage in mV, rounded down. -/
def energyV (cm v : Nat) : Nat := cm * (v * v - 4000000) / 2000000

/-- E_Q in mJ for a capacitance in mF and a charge in mC, rounded down. -/
def energyQ (cm q : Nat) : Nat := (q * q - 4 * cm * cm) / (2 * cm)

/-- The gauge is in fault (R538). -/
def State.gaugeFault (s : State) : Bool := s.sup.disagree || decide (s.nv.cm < 1050)

/-- The bank's voltage and charge counter now. No command carries them: they are free values (the current integrated since the
counter was last set is the second one's free part). -/
def State.bankV (s : State) : Nat := s.freeW.toNat % 5051

/-- The charge counter now, in mC. -/
def State.bankQ (s : State) : Nat := (s.nv.charge + (Config.freeWord (s.free + 1)).toNat) % 16384

/-- Whether the hold-up store covers a cost in mJ: out of the trusted energy, or, for the final page, of the estimates themselves
(R539). -/
def State.covers (s : State) (cost : Nat) (final : Bool) : Bool :=
  !s.gaugeFault &&
    decide (cost + (if final then 0 else 300) ≤ min (energyV s.nv.cm s.bankV) (energyQ s.nv.cm s.bankQ))

/-! ## The incident log (R502 to R504) -/

/-- Pages in the incident log's ring. -/
def logPages : Nat := 131072

/-- The ring after page `pos` has been programmed: on entering a block the next one is erased ahead. -/
def agePages (pages : List (Nat × Nat × List EvRec)) (pos : Nat) : List (Nat × Nat × List EvRec) :=
  if pos % 64 = 0 then pages.filter (fun e => e.1 / 64 ≠ (pos / 64 + 1) % 2048) else pages

/-- EVT_NAND_POS of a ring. -/
def State.showPages (s : State) : State :=
  let newest := ((s.evt.pages.getLast?).map (·.1)).getD 0
  let oldest := ((s.evt.pages.head?).map (·.1)).getD 0
  (s.setF R.EVT_NAND_POS F.EVT_NAND_POS_NEWEST newest).setF R.EVT_NAND_POS F.EVT_NAND_POS_OLDEST oldest

/-- A NAND operation joins those to be done. -/
def State.nandPush (s : State) (op : NandOp) : State := { s with mgt := { s.mgt with nandOps := s.mgt.nandOps ++ [op] } }

/-- A read of a logical block: 50,000 of them since its erase call for a refresh (R452). -/
def State.noteRead (s : State) (b : Nat) : State :=
  let n := mget 0 s.nv.reads b + 1
  let s := { s with nv := { s.nv with reads := mset 0 s.nv.reads b n } }
  if n = 50000 then s.nandPush (.refresh b) else s

/-- Physical block of a logical block (R449). -/
def State.physBlock (s : State) (b : Nat) : Nat := ((s.nv.map.find? (fun e => e.1 = b)).map (·.2)).getD b

/-- An erase of a logical block: its count, and the reads start again. A block that the factory marked bad is never erased (R450). -/
def State.eraseBlock (s : State) (b : Nat) : State :=
  let p := s.physBlock b
  if nmem s.nv.factoryBad p then s
  else
  let n := mget 0 s.nv.erases p + 1
  let s := { s with nv := { s.nv with erases := mset 0 s.nv.erases p n, reads := mset 0 s.nv.reads b 0 } }
  s.setF R.CFG_NAND_STATUS F.CFG_NAND_STATUS_MAX_ERASE (max n (s.rf R.CFG_NAND_STATUS F.CFG_NAND_STATUS_MAX_ERASE))

/-- One page of records is programmed into the incident log. -/
def State.putPage (s : State) : State :=
  let recs := s.nextRecs 2 64
  let pos := s.evt.pagePos
  let s := s.dropRecs 2 recs
  let s := { s with evt := { s.evt with
    pages := agePages (s.evt.pages.filter (fun e => e.1 ≠ pos)) pos ++ [(pos, s.nv.starts, recs)]
    pagePos := (pos + 1) % logPages
    pageSeq := s.evt.pageSeq + 1
    deferred := false
    pageAt := some s.now
    alarmPages := if recs.any (fun r => r.cls = 0) then s.evt.alarmPages.filter (fun t => decide (s.now < t + 108000000000)) ++ [s.now]
      else s.evt.alarmPages } }
  let s := if pos % 64 = 0 then s.eraseBlock (1672 + (pos / 64 + 1) % 2048) else s
  (s.nandPush (.page (1672 + pos / 64))).showPages

/-- A page that waits for energy: NAND_LOG_DEFERRED, once. -/
def State.deferPage (s : State) : State :=
  if s.evt.deferred then s
  else { s with evt := { s.evt with deferred := true } }.raise (ev 0x3F02 1 0 0)

/-- The final page of a power-down (R503, R534). -/
def State.finalPage (s : State) : State :=
  let ok := s.covers 60 true && !s.evt.mcDown && !(s.nextRecs 2 64).isEmpty
  let s := s.drew 2
  if ok then s.putPage else s

end Sys2Proof.Machine
end

