-- ==== Sys2Proof/Machine/SupplyOps.lean ====
section
/-! DEFINITION. The sequencer of the rails (R526 to R535), what every power-down does (R528), and the last fault record (R476). -/

namespace Sys2Proof.Machine

open Sys2Proof

/-- Changes the power train's state. -/
def State.modSup (s : State) (f : Sup → Sup) : State := { s with sup := f s.sup }

/-- Rails of power-up, in the order in which they are enabled; those of one step together (R527). -/
def upOrder : List (List Nat) := [[2], [3, 4], [10], [5], [6], [7], [8], [9], [11]]

/-- Rails of the normal order (R529). -/
def normalOrder : List Nat := [11, 9, 8, 7, 6, 5, 10, 4, 3, 2]

/-- Rails that each step of the emergency order disables (R530). -/
def emergencyOrder : List (List Nat) := [[11, 9, 8], [7], [6], [5], [10, 4, 3], [2]]

/-- Every rail that a sequence switches. -/
def allRails : List Nat := [2, 3, 4, 5, 6, 7, 8, 9, 10, 11]

/-- Rails disabled: no longer enabled, no longer in regulation. -/
def Sup.disable (x : Sup) (l : List Nat) : Sup :=
  { x with enabled := l.foldl (fun m r => nput m r false) x.enabled, inReg := l.foldl (fun m r => nput m r false) x.inReg }

/-- Rails enabled. -/
def Sup.enable (x : Sup) (l : List Nat) : Sup := { x with enabled := l.foldl (fun m r => nput m r true) x.enabled }

/-- The first step of power-up whose rails are not enabled yet. -/
def Sup.nextUp (x : Sup) : Option (List Nat) := upOrder.find? (fun l => !(l.all (nmem x.enabled)))

/-- Every enabled rail is in regulation. -/
def Sup.settled (x : Sup) : Bool := allRails.all (fun r => !nmem x.enabled r || nmem x.inReg r)

/-- Power-up goes on: the next rails are enabled once those before are in regulation (R527). -/
def Sup.advance (x : Sup) : Sup :=
  if x.settled then (match x.nextUp with | some l => x.enable l | none => x) else x

/-- Whether anything but the standby domain keeps the rails off (R385, R408, R445, R533). -/
def State.barred (s : State) : Bool :=
  s.sup.trip || s.sup.deadbolt || s.sup.stuck || s.rf R.MGMT_STAGE F.MGMT_STAGE_HALTED = 1

/-- Power-up starts when nothing stands against it (R527, R528): the input in range for its time, EN, and the restart condition of
the last power-down; and stage 0 of the cold start is behind. -/
def State.tryStart (s : State) : State :=
  let x := s.sup
  if x.seq = .off && x.inRange && x.ready && x.en && x.standby && !x.needOv && !x.bootDue && !x.retryDue && !s.barred then
    { s with sup := { x with seq := .up, retried := false }.enable [2] }
  else s

/-- The last rail of a power-down is off: any start from here is a cold start (R528, R535); a RESTART brings it by itself. -/
def Sup.finish (x : Sup) : Sup := { x with seq := .off, enabled := [], inReg := [], falling := none, step := 0, bootDue := x.bootDue || !x.retryDue }

/-- The next rail of the normal order, or the end (R529). -/
def Sup.nextDown (x : Sup) : Sup :=
  match normalOrder.find? (nmem x.enabled) with
  | some r => { x.disable [r] with falling := some r }
  | none => x.finish

/-- What every trigger does within 1 µs (R528): PWRGD deasserts and the main clocks stop; the host link is down with them, the module's
keys are gone (R418), and no NAND operation starts after the one in progress (R534). -/
def State.dropGood (s : State) : State :=
  let s := (s.setF R.HOST_LINK_STATUS F.HOST_LINK_STATUS_SPEED 0).setF R.HOST_LINK_STATUS F.HOST_LINK_STATUS_WIDTH 0
  let s := { s with clk := { s.clk with on := false }, sec := { s.sec with moduleKeys := 0 }, mgt := { s.mgt with nandOps := s.mgt.nandOps.take 1 } }
  s.modSup (fun x => { x with pwrgd := false })

/-- A power-down begins, unless one runs already: the time of its trigger. -/
def Sup.downNow (x : Sup) (now : Nat) : Sup := { x with downAt := now }

/-- The normal order starts; in a power-down that runs already nothing changes. -/
def State.downNormal (s : State) : State :=
  match s.sup.seq with
  | .up | .on => s.dropGood.modSup (fun x => { x.downNow s.now with seq := .normal }.nextDown)
  | _ => s

/-- The emergency order starts, or takes over from the normal order (R530, R531). -/
def State.downEmergency (s : State) : State :=
  match s.sup.seq with
  | .up | .on => s.dropGood.modSup (fun x => { x.downNow s.now with seq := .emergency, step := 0, falling := none })
  | .normal => s.dropGood.modSup (fun x => { x with seq := .emergency, step := 0, falling := none })
  | _ => s

/-! ## The last fault record of the field tag (R476) -/

/-- CRC-32 (IEEE 802.3, reflected), one bit at a time. -/
def crcBits : Nat → Nat → Nat
  | 0, c => c
  | n + 1, c => crcBits n (if c % 2 = 1 then Nat.xor (c / 2) 0xEDB88320 else c / 2)

/-- CRC-32 of bytes. -/
def crc32 (bs : List Byte) : Nat := Nat.xor (bs.foldl (fun c b => crcBits 8 (Nat.xor c b.toNat)) 0xFFFFFFFF) 0xFFFFFFFF

/-- Writes bytes of the tag's memory. -/
def State.tagPut (s : State) (a : Nat) (bs : List Byte) : State := { s with nv := { s.nv with tag := putBytes s.nv.tag a bs } }

/-- Powered seconds since manufacture, which State.reset stands at (log entry 18). -/
def State.uptime (s : State) : Nat := s.now / 1800000000

/-- VERSION of the running image. -/
def State.fwVersion (s : State) : W64 := s.reg (R.MGMT_FW_VERSION (s.rf R.MGMT_FW_STATUS F.MGMT_FW_STATUS_RUN_SLOT))

/-- Bytes 0 to 59 of a record. -/
def State.faultBytes (s : State) (seq cause value source : Nat) : List Byte :=
  leBytes 4 seq ++ leBytes 2 cause ++ leBytes 1 (s.rf R.MGMT_STAGE F.MGMT_STAGE_STAGE) ++ leBytes 1 source ++ leBytes 8 s.uptime ++
    leBytes 2 value ++ leBytes 8 s.fwVersion.toNat ++ zeros 34

/-- Writes the last fault record, into the slot that does not hold the newest; a repeat of its cause at most once in 10 s. -/
def State.faultRecord (s : State) (cause value source : Nat) : State :=
  let m := s.mgt
  if m.recSeq ≠ 0 && m.recCause = cause && s.now < m.recAt + 18000000000 then s
  else
    let slot := 1 - m.recSlot
    let body := s.faultBytes (m.recSeq + 1) cause value source
    let s := s.tagPut (0x540 + 64 * slot) (body ++ leBytes 4 (crc32 body))
    { s with mgt := { m with recSlot := slot, recSeq := m.recSeq + 1, recCause := cause, recAt := s.now } }

/-! ## Trips (R385, R407, R528) -/

/-- PWR_TRIP. -/
def State.setTrip (s : State) (cause value source : Nat) : State :=
  ((s.setF R.PWR_TRIP F.PWR_TRIP_CAUSE cause).setF R.PWR_TRIP F.PWR_TRIP_VALUE value).setF R.PWR_TRIP F.PWR_TRIP_SOURCE source

/-- Back in stage 0 until the trip is cleared (R385). -/
def State.toStage0 (s : State) : State := s.setF R.MGMT_STAGE F.MGMT_STAGE_STAGE 0

/-- An over-current trip, or a rail that leaves regulation while running (R385, R528): alarm OCP_TRIP, the record, the emergency
order, and stage 0. -/
def State.ocp (s : State) (value source : Nat) : State :=
  let s := (s.setTrip 1 value source).raise { ev 0x2804 0 0 0 with addr := value }
  let s := s.faultRecord 0x2804 value source
  (s.downEmergency.toStage0).modSup (fun x => { x with trip := true })

/-- The deadbolt (R407): clocks stop, rails drop, and the cause goes to the incident log and the field tag. -/
def State.deadbolt (s : State) (cause value source : Nat) : State :=
  if s.sup.standby && !s.sup.deadbolt then
    let s := ((s.setTrip cause value source).raise { ev 0x280C 0 source 0 with addr := value }).faultRecord 0x280C value source
    (s.downEmergency.modSup (fun x => { x with deadbolt := true })).finalPage
  else s

end Sys2Proof.Machine
end

