-- ==== Sys2Proof/Machine/PowerOps.lean ====
section
/-! DEFINITION. The ladder (R388), what sets a cell's level (R394, R487), neighbours (R395), dividers (R391) and shares (R386). -/

namespace Sys2Proof.Machine

open Sys2Proof

/-- Changes the governor's state. -/
def State.modPwr (s : State) (f : Pwr → Pwr) : State := { s with pwr := f s.pwr }

/-- What is set for a cell. -/
def State.cellPwr (s : State) (k : Nat) : CellPwr := mget {} s.pwr.cells k

/-- Changes what is set for a cell. -/
def State.modCell (s : State) (k : Nat) (f : CellPwr → CellPwr) : State :=
  s.modPwr (fun x => { x with cells := mset {} x.cells k (f (s.cellPwr k)) })

/-- A PWR event (R411). -/
def State.pwrEvent (s : State) (low cls src kind src2 : Nat) : State :=
  s.raise { ev (0x2800 + low) cls src kind with source2 := src2 }

/-- A cell's divider changes (R391): its cycles up to now are counted at the old one. -/
def State.setDiv (s : State) (k d : Nat) : State :=
  (s.modCell k (fun c => { c with cycBase := s.ck k, cycSince := s.now })).setF (R.PWR_CELL k) F.PWR_CELL_DIV d

/-! ## The ladder -/

/-- Divider code of a level (R388): 0 ÷4, 1 ÷5, 2 ÷6. -/
def levelDiv (n : Nat) : Nat := if n < 2 then 0 else if n < 4 then 1 else 2

/-- Set point of a cell's supply at a divider code, in mV (R389). -/
def setPointMv (d : Nat) : Nat := if d = 0 then 750 else if d = 1 then 700 else 650

/-- Relative power of a level in thousandths (R388). -/
def relPower : List Nat := [1000, 885, 711, 631, 521, 463, 406, 348, 290, 233, 175]

/-- The level one divider step slower; ÷6 has none. -/
def slower (n : Nat) : Nat := if n < 2 then 2 else if n < 4 then 4 else n

/-- A cell's effective level, its divider and its readings (R410). -/
def State.cellLevel (s : State) (k : Nat) : Nat := s.rf (R.PWR_CELL k) F.PWR_CELL_LEVEL

/-- Present divider. -/
def State.cellDiv (s : State) (k : Nat) : Nat := s.rf (R.PWR_CELL k) F.PWR_CELL_DIV

/-- Level of ward `w` in half `h` (R392). -/
def State.wardLevel (s : State) (h w : Nat) : Nat := s.rf (R.PWR_WARD_LEVEL h) (F.PWR_WARD_LEVEL_LEVEL w)

/-- Sets it. -/
def State.setWardLevel (s : State) (h w n : Nat) : State := s.setF (R.PWR_WARD_LEVEL h) (F.PWR_WARD_LEVEL_LEVEL w) n

/-- SHARE of ward `w` in half `h`. -/
def State.share (s : State) (h w : Nat) : Nat := s.rf (R.PWR_WARD_SHARE h) (F.PWR_WARD_SHARE_SHARE w)

/-- Set point of a cell's supply (R389, R391): its divider's, and while it settles for a step up that of the faster one. -/
def State.setPoint (s : State) (k : Nat) : Nat :=
  setPointMv (if (s.cellPwr k).settle = .up then s.cellDiv k - 1 else s.cellDiv k)

/-- Supply of a cell for the energy model (R403): its 1 µs average, or its set point where none has been taken. -/
def State.supplyMv (s : State) (k : Nat) : Nat :=
  let v := s.rf (R.PWR_CELL k) F.PWR_CELL_VOLT_MV
  if v = 0 then s.setPoint k else v

/-! ## Neighbours (R395) -/

/-- Physical positions beside (r, p). -/
def besides (r p : Nat) : List (Nat × Nat) :=
  (if 0 < p then [(r, p - 1)] else []) ++ (if p < 8 then [(r, p + 1)] else []) ++ (if 0 < r then [(r - 1, p)] else []) ++
    (if r < 7 then [(r + 1, p)] else [])

/-- Whether a core is stopped: halted with both streams idle (R469). -/
def Core.stopped (c : Core) : Bool := c.halted && c.streamIdle 0 && c.streamIdle 1

/-- Power state of the module (R374). -/
def State.pstate (s : State) : Nat := s.rf R.HOST_PM_STATUS F.HOST_PM_STATUS_STATE

/-- Whether a cell works: present, not stopped, and not in P1 or P2 (R394). -/
def State.working (s : State) (k : Nat) : Bool := !s.absent k && !(s.core k).stopped && s.pstate = 0

/-- The working cells beside a cell. -/
def State.beside (s : State) (k : Nat) : List Nat :=
  let h := k / 64
  let r := k / 8 % 8
  ((besides r (s.physCol h r (k % 8))).filterMap (fun e => s.logicalOn h e.1 e.2)).filter s.working

/-! ## Levels (R394) -/

/-- Level that a cell's ward sets. -/
def State.fromWard (s : State) (k : Nat) : Nat :=
  match s.wardOfCore k with
  | none => 10
  | some w => if s.share (k / 64) w = 0 then 10 else s.wardLevel (k / 64) w

/-- Level of a clamp, or of a half without a lease (R384, R487). -/
def State.fromClamp (s : State) (k : Nat) : Nat :=
  if s.rf R.PWR_STATUS F.PWR_STATUS_CLAMP = 1 || s.role (k / 64) = 2 then 10 else 0

/-- Level set for temperature (R406). -/
def State.fromHeat (s : State) (k : Nat) : Nat :=
  let c := s.cellPwr k
  if c.crit then 10 else max c.heat c.ls

/-- Level of the supply and temperature bounds that step the cell (R397). -/
def State.fromBounds (s : State) (k : Nat) : Nat :=
  (s.pwr.bounds.filter (fun x => x.cell = k)).foldl (fun n x => max n x.level) 0

/-- The level before the clock bound. -/
def State.baseLevel (s : State) (k : Nat) : Nat :=
  max (max (s.fromWard k) (s.fromClamp k)) (max (max (s.fromHeat k) (s.fromBounds k)) (s.cellPwr k).droop)

/-- Level of the clock bound: beside a working cell at ÷6 a working cell runs at ÷5 or slower (R397). -/
def State.fromClock (s : State) (k : Nat) : Nat :=
  if s.working k && (s.beside k).any (fun j => decide (4 ≤ s.baseLevel j)) then 2 else 0

/-- Bits of CAUSE: the sources whose level is the effective one. -/
def State.causes (s : State) (k n : Nat) : Nat :=
  if n = 0 then 0
  else b2n (s.fromWard k = n) + 2 * b2n (s.fromBounds k = n || s.fromClock k = n) + 4 * b2n (s.fromHeat k = n) +
    8 * b2n ((s.cellPwr k).droop = n) + 16 * b2n (s.fromClamp k = n)

/-- A cell takes its level (R391): a slower divider at once, one step; a faster one once the supply has settled. An absent cell holds
no level. -/
def State.takeLevel (s : State) (k n cause : Nat) : State :=
  let a := R.PWR_CELL k
  let s := (s.setF a F.PWR_CELL_LEVEL n).setF a F.PWR_CELL_CAUSE cause
  let d := s.cellDiv k
  if d < levelDiv n then
    if (s.cellPwr k).settle = .down then s else (s.setDiv k (d + 1)).modCell k (fun c => { c with settle := .down })
  else if levelDiv n < d && (s.cellPwr k).settle = .no && !nmem s.evt.hcDown (k / 64) then s.modCell k (fun c => { c with settle := .up })
  else s

/-- Level and causes of a cell now. -/
def State.wantLevel (s : State) (k : Nat) : Nat × Nat :=
  if s.absent k then (0, 0)
  else
    let n := max (s.baseLevel k) (s.fromClock k)
    (n, s.causes k n)

/-- Every cell of a half takes its level; while its controller restarts, none steps up (R468). -/
def State.relevel (s : State) (h : Nat) : State :=
  ((List.range 64).map (fun i => (h * 64 + i, s.wantLevel (h * 64 + i)))).foldl (fun t e =>
    if nmem t.evt.hcDown h && decide (e.2.1 < t.cellLevel e.1) then t else t.takeLevel e.1 e.2.1 e.2.2) s

/-- Both halves. -/
def State.relevelAll (s : State) : State := (s.relevel 0).relevel 1

/-- A latch has taken the module from `s` to `t`. Where it has switched slope limiting off (R401), arrays that wait for a start grant rise
from now. -/
def State.endGrants (s t : State) : State :=
  if s.slope && !t.slope then
    { t with cores := t.cores.map (fun e =>
      if e.2.wantGrant then (e.1, { e.2 with wantGrant := false, actSince := t.ck e.1 }) else e) }
  else t

/-! ## The cap -/

/-- CAP_EFF_W (R406). -/
def State.refreshCap (s : State) : State :=
  s.setF R.PWR_STATUS F.PWR_STATUS_CAP_EFF_W
    (if s.pwr.pinLost then 1200 else max 1200 (s.rf R.PWR_CAP F.PWR_CAP_CAP_W - 50 * s.pwr.coolExcess))

/-- The effective cap in W. -/
def State.capEff (s : State) : Nat := s.rf R.PWR_STATUS F.PWR_STATUS_CAP_EFF_W

/-- 256 times the compute budget B in W (R386), at least 0. -/
def State.budget (s : State) : Nat :=
  s.capEff * s.rf R.PWR_CAP F.PWR_CAP_EFF - 256 * (s.rf R.PWR_CAP F.PWR_CAP_RESERVE_W + s.rf R.PWR_CAP F.PWR_CAP_FIXED_W)

/-- HALF_h of PWR_CAP_SHARE. -/
def State.halfShare (s : State) (h : Nat) : Nat :=
  s.rf R.PWR_CAP_SHARE (if h = 0 then F.PWR_CAP_SHARE_HALF0 else F.PWR_CAP_SHARE_HALF1)

/-- Whether the ward's modelled power over the last 10 µs, corrected and scaled by num ÷ den, fits within its share of the half (R386,
R392, R404). -/
def State.fits (s : State) (h w num den : Nat) : Bool :=
  decide (mget 0 s.pwr.spent (h * 8 + w) * s.rf R.PWR_STATUS F.PWR_STATUS_CORR * num * 256 * 255 * 256 ≤
    10 * 2 ^ 32 * 128 * s.budget * s.halfShare h * s.share h w * den)

/-- Whether a half leads (R482), and whether it has the other's acknowledgement. -/
def State.leads (s : State) (h : Nat) : Bool := s.role h = 0

end Sys2Proof.Machine
end

