-- ==== Sys2Proof/Machine/SfnRegs.lean ====
section
/-! DEFINITION. Writes to the user tables of the special-function unit (R170 to R173, R180). -/

namespace Sys2Proof.Machine

open Sys2Proof

/-- Control-space offset of a cell's table page. -/
def sfnPage (k : Nat) : Nat := R.HALF_SFN_COEF_LO (k / 64) (k % 64) 0 0

/-- The table (0–3 for 12–15) that an offset in a page belongs to. -/
def tableOf (off : Nat) : Option Nat :=
  if off < 0x4000 then some (off / 0x1000)
  else if 0x8000 ≤ off ∧ off < 0x8100 then some ((off - 0x8000) / 0x40)
  else none

/-- Whether an offset is a descriptor's. -/
def isTdesc (off : Nat) : Bool := decide (0x8000 ≤ off ∧ off < 0x8100) && off % 0x40 = 0

/-- The descriptor of table `t` of a cell. -/
def State.tdesc (s : State) (k t : Nat) : W64 := s.reg (R.HALF_SFN_TDESC (k / 64) (k % 64) t)

/-- VALID of a table. -/
def State.tableValid (s : State) (k t : Nat) : Bool := bitAt (s.tdesc k t).toNat 32

/-- An issued SFN of the cell names the table, and found it valid. -/
def State.sfnNames (s : State) (k t : Nat) : Bool :=
  (s.core k).issued.any (fun e => e.cmd.opcode = 0x20 && e.tableOk && (operand e.cmd.w1).xtra % 16 = 12 + t)

/-- A descriptor with a reserved COMBINE, SYMMETRY or LOG2W. -/
def tdescReserved (v : W64) : Bool :=
  fld v 10 2 = 3 || fld v 12 2 = 3 || (let w := fld v 16 8
    decide (64 ≤ w ∧ w < 192))

/-- A descriptor with only its reduction fields. -/
def tdescFields (v : W64) : Nat := fld v 8 6 + fld v 16 8 * 64

/-- The status of a write to a cell's page (R171): coefficients and constants of a valid table are fixed, and so are its reduction
fields; VALID is not set over a reserved value. -/
def State.sfnChk (s : State) (k off : Nat) (v : W64) : Nat :=
  match tableOf off with
  | none => St.ok
  | some t =>
    chk (if isTdesc off then
        if s.tableValid k t then tdescFields v ≠ tdescFields (s.tdesc k t) else bitAt v.toNat 32 && tdescReserved v
      else s.tableValid k t && (decide (off < 0x4000) || decide (off % 0x40 < 0x20))) St.bounds

/-- Whether a write that is allowed clears VALID of a table that an issued SFN names. -/
def State.sfnWaits (s : State) (k off : Nat) (v : W64) : Bool :=
  match tableOf off with
  | some t => isTdesc off && s.tableValid k t && !bitAt v.toNat 32 && s.sfnNames k t
  | none => false

/-- An allowed write at an offset of the pages of some cells. Clearing VALID waits until no issued SFN names the table, and the write
completes with the last of its cells (R171). -/
def State.sfnPut (s : State) (who : Requester) (a : Nat) (cells : List Nat) (off : Nat) (v : W64) : State :=
  let wait := cells.filter (fun k => s.sfnWaits k off v)
  let t := (cells.filter (fun k => !s.sfnWaits k off v)).foldl (fun t k => t.plainWrite (sfnPage k + off) v 0 64) s
  if wait.isEmpty then t.ctlEnd who a St.ok
  else
    { t with mgt := { t.mgt with
      sfnClear := t.mgt.sfnClear ++ wait.map (fun k => { cell := k, tbl := (off - 0x8000) / 0x40, who := who, off := a, val := v }) } }

/-- A write to the table pages of some cells: after the shared checks and `own`, in every cell or in none. -/
def State.sfnDo (s : State) (who : Requester) (a own : Nat) (cells : List Nat) (off : Nat) (v : W64) : State :=
  let st := worst (s.reach who a) own
  if st = St.ok then s.sfnPut who a cells off v else s.ctlEnd who a st

/-- A write to a cell's table page. -/
def State.sfnWrite (s : State) (who : Requester) (k off : Nat) (v : W64) : State :=
  s.sfnDo who (sfnPage k + off) (worst (chk (decide (off % 8 ≠ 0) || decide (0x10000 ≤ off)) St.bounds) (s.sfnChk k off v)) [k] off v

/-- SFN_TABLE_WRITE (R171). -/
def ctlSfnTableWrite (who : Requester) (cell off : Nat) (val : W64) (s : State) : Host.Outcome State Fault Refusal :=
  .next (s.sfnWrite who cell off val)

/-- SFN_TDESC_WRITE (R171). -/
def ctlSfnTdescWrite (who : Requester) (cell tbl : Nat) (val : W64) (s : State) : Host.Outcome State Fault Refusal :=
  .next (s.sfnWrite who cell (0x8000 + 0x40 * tbl) val)

/-- Waiting writes that end: those of `p`; a write with no cell left completes with a status. -/
def State.sfnRelease (s : State) (p : SfnClear → Bool) (st : Nat) : State :=
  let rest := s.mgt.sfnClear.filter (fun w => !p w)
  (s.mgt.sfnClear.filter p).foldl (fun s w =>
    if rest.any (fun x => x.who = w.who && x.off = w.off) then s else s.ctlEnd w.who w.off st)
    { s with mgt := { s.mgt with sfnClear := rest } }

/-- SFN_VALID_CLEAR_DONE (R171): no issued SFN names the table any more, and the descriptors written take effect. -/
def execSfnValidClearDone (cell tbl : Nat) (s : State) : Host.Outcome State Fault Refusal :=
  .next (if !s.clk.on then s else
    if s.sfnNames cell tbl then s
    else
      ((s.mgt.sfnClear.filter (fun w => w.cell = cell && w.tbl = tbl)).foldl
        (fun s w => s.plainWrite (R.HALF_SFN_TDESC (cell / 64) (cell % 64) tbl) w.val 0 64) s).sfnRelease
          (fun w => w.cell = cell && w.tbl = tbl) St.ok)

/-- Cells of HALF_SFN_BCAST_MASK. -/
def State.bcastCells (s : State) (h : Nat) : List Nat :=
  (bitList 64 (s.rf (R.HALF_SFN_BCAST_MASK h) F.HALF_SFN_BCAST_MASK_MASK)).map (h * 64 + ·)

/-- Control-space offset of a half's broadcast page. -/
def bcastPage (h : Nat) : Nat := 0x1440000 + h * 0x40000000

/-- A write to the broadcast page (R173): every cell of the mask, or none. -/
def State.bcastWrite (s : State) (who : Requester) (h off : Nat) (v : W64) : State :=
  if off = 0xF000 then s.ctlDo who (bcastPage h + off) St.ok (fun s => s.plainWrite (R.HALF_SFN_BCAST_MASK h) v 0 64)
  else if 0x9000 ≤ off then s.ctlDo who (bcastPage h + off) (chk (decide (off % 8 ≠ 0) || decide (0x10000 ≤ off)) St.bounds) (fun s => s)
  else
    s.sfnDo who (bcastPage h + off)
      (chk (decide (off % 8 ≠ 0) || (s.bcastCells h).any (fun k => s.absent k || s.sfnChk k off v ≠ St.ok)) St.bounds)
      (s.bcastCells h) off v

/-- SFN_BCAST_WRITE (R173). -/
def ctlSfnBcastWrite (who : Requester) (half off : Nat) (val : W64) (s : State) : Host.Outcome State Fault Refusal :=
  .next (s.bcastWrite who half off val)

end Sys2Proof.Machine
end

