-- ==== Sys2Proof/Machine/PState.lean ====
section
/-! DEFINITION. A cell's reset (R39), and leaving the power states P1 to P3 (R374 to R376). -/

namespace Sys2Proof.Machine

open Sys2Proof

/-! ## A cell's reset (R39, R152, R172) -/

/-- A core's messages and mesh packets are no longer its own: nothing of them is waited for. -/
def State.forget (s : State) (k : Nat) : State :=
  let mine (m : Msg) : Bool := match m.origin with
    | .cmd c _ => c = k
    | _ => false
  { s.modX (fun x => { x with msgs := x.msgs.filter (fun m => !mine m), waitMsgs := x.waitMsgs.filter (fun m => !mine m) }) with
    mesh := s.mesh.filter (fun p => p.src ≠ k) }

/-- The memories of a core read zero: cell store and poison, instruction memory, accumulators. -/
def State.zeroCore (s : State) (k : Nat) : State :=
  { s with mem := { s.mem with
      cstore := zeroBytes s.mem.cstore (k * 2 ^ 22) (2 ^ 22)
      cpoison := meraseRange s.mem.cpoison (k * 65536) 65536
      imem := zeroBytes s.mem.imem (k * 65536) 65536
      acc := meraseRange s.mem.acc (k * 131072) 131072 } }

/-- Registers of an offset range at their reset values. -/
def State.resetRegs (s : State) (a n : Nat) : State := { s with regs := meraseRange s.regs a n }

/-- A logical cell starts from reset (R39, R152, R172): core, streams, counters, memories, and its register pages. -/
def State.resetCell (s : State) (k : Nat) : State :=
  let s := (s.forget k).zeroCore k
  let s := s.resetRegs (0x8000000 + k * 0x20000) 0x20000
  let s := s.resetRegs (R.HALF_CVT_CTRL (k / 64) (k % 64)) 0x1000
  let s := (s.resetRegs (R.HALF_SFN_COEF_LO (k / 64) (k % 64) 0 0) 0x10000).sfnRelease (fun w => w.cell = k) St.ok
  s.setCore k { cycAdd := (2 ^ 64 - s.ck k % 2 ^ 64) % 2 ^ 64 }

/-! ## Power states -/

/-- Wake times of P0 to P4 in µs (R374). -/
def wakeUs : List Nat := [0, 2, 50, 2000, 200000]

/-- The present state, 0 to 4. -/
def State.setPstate (s : State) (n : Nat) : State := s.setF R.HOST_PM_STATUS F.HOST_PM_STATUS_STATE n

/-- Trace PSTATE_CHANGE. -/
def State.pstateEvent (s : State) : State := s.raise (ev 0x2006 2 0 0)

/-- A parked port starts to wake (R348). -/
def State.wakePort (s : State) (p : Nat) : State := if s.parkState p = 2 then s.startWake p else s

/-- HBM enters or leaves self-refresh (R218, R375). -/
def State.selfRefresh (s : State) (b : Bool) : State :=
  (List.range 8).foldl (fun s st => s.setStack st { s.stack st with selfRefresh := b }) s

/-- An entry into a deeper state that is in progress is abandoned (R376). -/
def State.abandon (s : State) : State :=
  match s.mgt.entering with
  | none => s
  | some _ => { s with mgt := { s.mgt with entering := none } }.setF R.HOST_PM_STATUS F.HOST_PM_STATUS_ENTERING 0

/-- The module leaves one of P1 to P3 for the shallower state `q` (R374): out of P3 HBM and the parked ports wake, out of P2 every cell
starts from reset. -/
def State.shallower (s : State) (q : Nat) : State :=
  let p := s.pstate
  let s := s.setPstate q
  let s := if p = 3 then (List.range 16).foldl (fun s i => s.wakePort i) (s.selfRefresh false) else s
  let s := if 2 ≤ p ∧ q < 2 then (List.range 128).foldl (fun s k => s.resetCell k) s else s
  s.relevelAll.pstateEvent

/-- A wake event in P1 to P3 (R376), or during an entry: P0. -/
def State.rouse (s : State) : State :=
  let s := s.abandon
  if 1 ≤ s.pstate ∧ s.pstate ≤ 3 then s.shallower 0 else s

/-- No wake is due: the module is in P0 and enters no deeper state. -/
def State.awake (s : State) : Bool := s.pstate = 0 && s.mgt.entering.isNone

/-- SEQ_RUN (R85): a core that starts ends the entry condition of P1 to P3, so the module wakes first (R374, R376), and
the neighbour bounds hold from its start on (R395). -/
def ctlSeqRun (who : Requester) (core : Nat) (trapHalt : Bool) (s : State) : Host.Outcome State Fault Refusal :=
  .next (s.ctlDo who (seqAddr core) (s.runChk core)
    (fun s => if (s.core core).halted then
        let s := s.rouse.writeSeqCtrl core true trapHalt
        if isCell core then s.relevel (core / 64) else s
      else s.writeSeqCtrl core true trapHalt))

end Sys2Proof.Machine
end

