-- ==== Sys2Proof/Machine/XportRx.lean ====
section
/-! DEFINITION. The transport's receiving side and its timers (R283 to R294, R311 to R314, R322, R437): data packets, answers, the
duplicate filter, receive assembly and probes. -/

namespace Sys2Proof.Machine

open Sys2Proof

/-! ## Acceptance -/

/-- A packet that no receiver knows (R276): VER, TYPE or CTRL_OP. -/
def pktReserved (p : Packet) : Bool := decide (p.ver ≠ 1) || decide (7 < p.typ) || (p.typ = 7 && (p.ctrlOp = 0 || decide (3 < p.ctrlOp)))

/-- The link key entry that a packet names (R436). -/
def State.linkNamed (s : State) (pkt : Packet) : Option Nat :=
  (s.xport.linkAt.map (·.1)).find? (fun j => s.linkValid j && s.rf (R.SEC_LINK j) F.SEC_LINK_KEY_ID = pkt.keyId)

/-- Whether a packet is for this module: its device number, and on a port the port's own IP address (R279). -/
def State.forMe (s : State) (rx : RxInfo) (pkt : Packet) (ip : Option IpHead) : Bool :=
  pkt.dstDev = s.dev && (match ip with
    | none => true
    | some h => h.v6 = decide (s.rf R.XPORT_CFG F.XPORT_CFG_IPV = 1) && h.dst = s.ipAddr rx.port s.dev)

/-- Whether a packet of this TYPE needs memory (R375). -/
def needsMemory (pkt : Packet) : Bool := pkt.typ = 0 || pkt.typ = 1 || pkt.typ = 3 || pkt.typ = 4

/-- In power state P3 a packet that needs memory is answered with NOT_READY (R375). -/
def State.asleep (s : State) : Bool := s.pstate = 3

/-- Whether the transport goes on with a packet that has been taken from its port or the memory fabric, or drops it (R275 to R279,
R310). -/
def State.rxJudge (s : State) (rx : RxInfo) (pkt : Packet) (ip : Option IpHead) : State × Bool :=
  if !s.xportOn then (s, false)
  else if !rx.csumOk then (s.dropPkt, false)
  else if !s.forMe rx pkt ip || (rx.port ≠ 16 && nmem s.xport.conflict rx.port) then (s, false)
  else if pktReserved pkt || (pkt.enc && (!rx.tagOk || (s.linkNamed pkt).isNone)) then (s.dropPkt, false)
  else (s, true)

/-- A packet that has been taken wakes the module (R376): before it is handled, or in P3, where it needs memory, once it has been
answered (R375). -/
def State.rxTaken (s : State) (rx : RxInfo) (pkt : Packet) (ip : Option IpHead) : State × Bool :=
  if s.asleep && needsMemory pkt then
    match s.rxJudge rx pkt ip with
    | (s, true) => (s, true)
    | (s, false) => (s.rouse, false)
  else s.rouse.rxJudge rx pkt ip

/-- Acceptance of a received packet (R275 to R280, R310). A packet on a port is one that waits in its receive buffer, a packet on the
memory fabric one that the module has sent itself. -/
def State.rxGate (s : State) (rx : RxInfo) (pkt : Packet) (mine : Bool) : State × Bool :=
  if !mine && !(pktReserved pkt) then (s, false)
  else if rx.port = 16 then
    if s.xport.loop.contains pkt then (s.modX (fun x => { x with loop := x.loop.erase pkt })).rxTaken rx pkt none else (s, false)
  else match s.takeRx rx pkt with
    | some (s, ip) => s.rxTaken rx pkt (some ip)
    | none => (s, false)

/-- Whether a ward takes a packet (R437). -/
def State.wardTakes (s : State) (w : Nat) (rx : RxInfo) (pkt : Packet) : Bool :=
  if rx.port = 16 then
    s.wardOfQueue pkt.srcQueue = some w ||
      (!s.locked w && (match s.wardOfQueue pkt.srcQueue with | some v => !s.locked v | none => true))
  else !s.locked w ||
    (pkt.enc && (match s.linkNamed pkt with
      | some j => s.rf (R.SEC_LINK j) F.SEC_LINK_WARD = w && s.rf (R.SEC_LINK j) F.SEC_LINK_PEER = pkt.srcDev
      | none => false))

/-- Charges a received packet to a ward (R353). -/
def State.chargeRx (s : State) (p w n : Nat) : State :=
  if p < 16 && w < 8 then
    ((s.giveBytes p w (48 + n)).bump (R.PORT_WARD_COUNTER p w 2) F.PORT_WARD_COUNTER_COUNT n).bump (R.PORT_WARD_COUNTER p w 3) F.PORT_WARD_COUNTER_COUNT 1
  else s

/-! ## Answers -/

/-- An answer to a packet on behalf of a ward: type, and the header as `f` changes it. -/
def State.answerPkt (s : State) (pkt : Packet) (typ : Nat) (w : Nat) (f : Packet → Packet) : Packet :=
  f { s.pkt0 typ pkt.srcDev with
      dstQueue := pkt.srcQueue, srcQueue := pkt.dstQueue, msgId := pkt.msgId, xmit := pkt.xmit, pktIndex := pkt.pktIndex,
      enc := pkt.enc && s.locked w, keyId := if pkt.enc && s.locked w then pkt.keyId else 0 }

/-- Sends an answer on the port of arrival, or on the next usable one of the way back. -/
def State.sendBack (s : State) (port : Nat) (a : Packet) (w : Nat) : State :=
  let p := if port = 16 then some 16 else if s.portIn port then some port else s.portTo a.dstDev port
  match p with
  | some p => s.sendPkt p a (some w)
  | none => s

/-- Key of a message at its receiver. -/
def msgKey (src id : Nat) : Nat := src * 2 ^ 32 + id

/-- Stores the answer of a non-idempotent packet (R287). -/
def State.store (s : State) (pkt a : Packet) (w : Nat) : State :=
  if pkt.last || pkt.typ = 4 then
    s.modX (fun x => { x with filter := x.filter.map (fun e =>
      if e.1 = msgKey pkt.srcDev pkt.msgId then (e.1, some (a, w)) else e) })
  else s

/-- Answers a packet with a NAK (R289, R292). NOT_READY and BUSY leave no filter entry: nothing was executed. -/
def State.nak (s : State) (rx : RxInfo) (pkt : Packet) (w st : Nat) : State :=
  let a := s.answerPkt pkt 6 w (fun a => { a with status := st })
  let s := if st = 0x81 then s.bump R.XPORT_BUSY_COUNT F.XPORT_BUSY_COUNT_COUNT 1 else s
  let s := if 0x80 ≤ st then s.modX (fun x => { x with filter := x.filter.filter (fun e => e.1 ≠ msgKey pkt.srcDev pkt.msgId) })
    else s.store pkt a w
  s.sendBack rx.port a w

/-- An ACK of one packet. -/
def State.ackOf (s : State) (rx : RxInfo) (pkt : Packet) (w : Nat) (slow : Bool) (data : List Byte) : Packet :=
  s.answerPkt pkt 5 w (fun a => { a with msgLen := 1, ece := rx.ce, slow := slow, payload := data })

/-- Answers a packet with an ACK. -/
def State.ack (s : State) (rx : RxInfo) (pkt : Packet) (w : Nat) (slow : Bool) (data : List Byte) : State :=
  let a := s.ackOf rx pkt w slow data
  (s.store pkt a w).sendBack rx.port a w

/-- ACK maps over rising indices: (first index, map) with at most 32 indices each (R276, R283). -/
def ackMaps (idxs : List Nat) : List (Nat × Nat) :=
  (idxs.foldl (fun (acc : List (Nat × Nat)) i =>
    match acc with
    | (b, m) :: rest => if i < b + 32 then (b, m + 2 ^ (i - b)) :: rest else (i, 1) :: acc
    | [] => [(i, 1)]) []).reverse

/-- Inserts an index into a rising list, once. -/
def insertIdx (i : Nat) : List Nat → List Nat
  | [] => [i]
  | j :: l => if i < j then i :: j :: l else if i = j then j :: l else j :: insertIdx i l

/-- The coalesced ACK of a message is sent (R283). -/
def State.flushAck (s : State) (key : Nat) : State :=
  match s.xport.coal.find? (fun e => e.1 = key) with
  | none => s
  | some (_, c) =>
    let s := s.modX (fun x => { x with coal := x.coal.filter (fun e => e.1 ≠ key) })
    (ackMaps c.idxs).foldl (fun s g =>
      s.sendBack c.port (s.answerPkt c.pkt 5 c.ward (fun a =>
        { a with pktIndex := g.1, msgLen := g.2, xmit := 0, ece := c.ece, slow := c.slow })) c.ward) s

/-- Acknowledges a WRITE or SEND packet (R283): first copies are coalesced, a LAST packet or a later copy is answered at once. -/
def State.ackData (s : State) (rx : RxInfo) (pkt : Packet) (w : Nat) (slow : Bool) : State :=
  let key := msgKey pkt.srcDev pkt.msgId
  if pkt.last then (s.flushAck key).ack rx pkt w slow []
  else if pkt.xmit ≠ 0 then s.ack rx pkt w slow []
  else
    let c := match s.xport.coal.find? (fun e => e.1 = key) with
      | some (_, c) => { c with idxs := insertIdx pkt.pktIndex c.idxs, ece := c.ece || rx.ce, slow := c.slow || slow }
      | none => { pkt := pkt, port := rx.port, ward := w, idxs := [pkt.pktIndex], ece := rx.ce, slow := slow : Coal }
    let s := s.modX (fun x => { x with coal := x.coal.filter (fun e => e.1 ≠ key) ++ [(key, c)] })
    if 32 ≤ c.idxs.length then s.flushAck key else s

/-- ACK_COALESCE_TIMEOUT (R283). -/
def execAckCoalesceTimeout (srcDev msgId : Nat) (s : State) : Host.Outcome State Fault Refusal :=
  .next (if !s.clk.on then s else s.flushAck (msgKey srcDev msgId))

/-! ## The duplicate filter (R287) -/

/-- What the filter says to a non-idempotent packet: none to execute it (an entry is made), else the state after the answer. -/
def State.filterStep (s : State) (rx : RxInfo) (pkt : Packet) (w : Nat) : State × Bool :=
  match s.xport.filter.find? (fun e => e.1 = msgKey pkt.srcDev pkt.msgId) with
  | some (_, some (a, w)) => ((s.chargeRx rx.port w pkt.payload.length).sendBack rx.port { a with xmit := pkt.xmit } w, true)
  | some (_, none) => (s, true)
  | none =>
    if 65536 ≤ s.xport.filter.length then ((s.raise (ev 0x1805 1 0 0)).nak rx pkt w 0x81, true)
    else (s.modX (fun x => { x with filter := x.filter ++ [(msgKey pkt.srcDev pkt.msgId, none)] }), false)

/-- FILTER_ENTRY_EXPIRE (R287): the entry goes, and with it a refused message's assembly entry. -/
def execFilterEntryExpire (srcDev msgId : Nat) (s : State) : Host.Outcome State Fault Refusal :=
  .next (if !s.clk.on then s else s.modX (fun x => { x with
    filter := x.filter.filter (fun e => e.1 ≠ msgKey srcDev msgId)
    asm := x.asm.filter (fun e => e.1 ≠ msgKey srcDev msgId || e.2.buf.isSome) }))

/-! ## Collectives at the receiver -/

/-- The sequencer whose collective, open or last, has an ID. -/
def State.collSeq (s : State) (id : Nat) (p : Coll → Bool) : Option Nat :=
  (List.range 8).find? (fun q => (s.coll q).id = id && p (s.coll q))

/-- Packets of a collective that has been aborted here are dropped (R321, R322). -/
def State.collDrops (s : State) (pkt : Packet) : Bool := pkt.coll && (s.collSeq pkt.collId (fun c => c.abort.isSome)).isSome

/-- The status of the aborted table for a packet (R292, R322). -/
def State.collAborted (s : State) (pkt : Packet) : Nat :=
  if pkt.coll then
    match s.xport.aborted.find? (fun e => e.1 = pkt.collId) with
    | some e => e.2
    | none => St.ok
  else St.ok

/-- The present µs of the block's clock. -/
def State.us (s : State) : Nat := s.now / cyclesPerUs

/-- A slow notice moves the deadline of an open collective (R320). -/
def State.slowDeadline (s : State) (q : Nat) : State :=
  let c := s.coll q
  s.setColl q { c with deadline := max c.deadline (s.us + c.timeout * s.rf R.XPORT_TIMING F.XPORT_TIMING_SLOW_MULT) }

/-- The slow notice of a received packet. -/
def State.noteSlow (s : State) (pkt : Packet) : State :=
  if pkt.coll && pkt.slow then
    match s.collSeq pkt.collId (fun c => c.isOpen) with
    | some q => s.slowDeadline q
    | none => s
  else s

/-- Whether the ACK of a packet that lands in these bytes carries SLOW (R246, R320): it lands in a stack that is SLOW. -/
def State.landsSlow (s : State) (a n : Nat) : Bool :=
  spaceOf a = .unified && (linesOf a n).any (fun l => s.rf (R.MEM_THERM_STATUS (homeStack (l * 64))) F.MEM_THERM_STATUS_SLOW = 1)

/-! ## Regions (R292, R304 to R306) -/

/-- A region by its INDEX. -/
def State.xregion (s : State) (i : Nat) : Option XRegion := mget none s.xport.regions i

/-- The registered region that a region key and an access key name. -/
def State.regionByKey (s : State) (key access : Nat) : Option XRegion :=
  match s.xregion (key % 65536) with
  | some r => if mget 0 s.xport.gens (key % 65536) = key / 65536 && r.access = access && r.phase = 1 then some r else none
  | none => none

/-- The checks of R292 on a packet that names a region, in their order up to the memory operation: `n` bytes from `off`; `bad` adds to
the check of the range. -/
def State.regionChk (s : State) (rx : RxInfo) (pkt : Packet) (perm bad : XRegion → Bool) (off n : Nat) : Nat × Option XRegion :=
  match s.regionByKey pkt.regionKey pkt.accessKey with
  | none => (St.keyDenied, none)
  | some r =>
    if !s.wardTakes r.ward rx pkt || !perm r then (St.keyDenied, some r)
    else if bad r || decide (r.len < off + n) then (St.bounds, some r)
    else (s.collAborted pkt, some r)

/-- The region's signal and NOTIFY entry for a LAST packet or a flag (R293, R378), with the ACK that follows the entry. -/
def State.regionSignal (s : State) (r : XRegion) (bytes src : Nat) (ack : Option (Nat × Packet × Nat)) : State × Bool :=
  let s := if bitAt r.sig.toNat 6 then s.wardSignal r.ward (fld r.sig 14 2) (fld r.sig 7 7) (fld r.sig 0 6) (bitAt r.sig.toNat 16) else s
  if bitAt r.sig.toNat 37 then
    ((s.queueDone (fld r.sig 17 20) { status := St.ok, op := 1, tag := 0, bytes := bytes, src := src, cq := true, sig := true, ack := ack }),
      true)
  else (s, false)

/-! ## WRITE, READ_REQ and ATOMIC -/

/-- A packet that needs memory in P3: the packet is not executed, and the module starts to wake (R375, R376). -/
def State.dozing (s : State) (rx : RxInfo) (pkt : Packet) : State :=
  (if s.collDrops pkt then s.dropPkt else s.nak rx pkt 0xFF 0x80).rouse

/-- A WRITE packet that has passed acceptance. -/
def State.landWrite (s : State) (rx : RxInfo) (pkt : Packet) : State :=
  let at_ := pkt.pktIndex * s.psize
  let (st, r) := s.regionChk rx pkt (·.permWrite) (fun _ => decide (pkt.msgLen < at_ + pkt.payload.length)) pkt.offset pkt.msgLen
  let w := (r.map (·.ward)).getD 0xFF
  match r with
  | none => s.nak rx pkt w st
  | some r =>
    let s := s.chargeRx rx.port w pkt.payload.length
    if st ≠ St.ok then s.nak rx pkt w st
    else
      let a := r.base + pkt.offset + at_
      let slow := s.landsSlow a pkt.payload.length
      let x := s.devWrite a 0 pkt.payload
      if x.2 ≠ St.ok then x.1.nak rx pkt w x.2
      else if pkt.last then
        let s := x.1.flushAck (msgKey pkt.srcDev pkt.msgId)
        let ak := s.ackOf rx pkt w slow []
        let y := s.regionSignal r pkt.msgLen pkt.srcDev (some (rx.port, ak, w))
        if y.2 then y.1 else y.1.ack rx pkt w slow []
      else x.1.ackData rx pkt w slow

/-- RX_WRITE (R292, R293): also the row on which a packet of a reserved kind is dropped (R276). -/
def execRxWrite (rx : RxInfo) (pkt : Packet) (s : State) : Host.Outcome State Fault Refusal :=
  .next (if !s.clk.on then s else
    match s.rxGate rx pkt (pkt.typ = 0) with
    | (s, false) => s
    | (s, true) =>
      if s.asleep then s.dozing rx pkt
      else if s.collDrops pkt then s.dropPkt
      else
        let s := s.noteSlow pkt
        let f := if pkt.last then s.filterStep rx pkt 0xFF else (s, false)
        if f.2 then f.1
        else if f.1.maxMsg < pkt.msgLen then f.1.nak rx pkt 0xFF St.bounds
        else f.1.landWrite rx pkt)

/-- The READ_RESP packets that answer a READ_REQ: the state, and the status that prevents it. -/
def State.readOut (s : State) (rx : RxInfo) (pkt : Packet) (w a : Nat) : State × Nat :=
  (List.range (ceilDiv pkt.msgLen s.psize)).foldl (fun (acc : State × Nat) i =>
    if acc.2 ≠ St.ok then acc
    else
      let n := min s.psize (pkt.msgLen - i * s.psize)
      let x := acc.1.devRead (a + i * s.psize) n 0 false
      if badStatus x.2.2 then (x.1, x.2.2)
      else
        let slow := x.1.landsSlow (a + i * s.psize) n
        (x.1.sendBack rx.port (x.1.answerPkt pkt 2 w (fun p =>
          { p with pktIndex := pkt.pktIndex + i, msgLen := pkt.msgLen, coll := pkt.coll, collId := pkt.collId, slow := slow,
                   payload := x.2.1 })) w, St.ok)) (s, St.ok)

/-- RX_READ_REQ (R277, R292). -/
def execRxReadReq (rx : RxInfo) (pkt : Packet) (s : State) : Host.Outcome State Fault Refusal :=
  .next (if !s.clk.on then s else
    match s.rxGate rx pkt (pkt.typ = 1) with
    | (s, false) => s
    | (s, true) =>
      if s.asleep then s.dozing rx pkt
      else if s.collDrops pkt then s.dropPkt
      else if s.maxMsg < pkt.msgLen then s.nak rx pkt 0xFF St.bounds
      else
        let s := s.noteSlow pkt
        let off := pkt.offset + pkt.pktIndex * s.psize
        match s.regionChk rx pkt (·.permRead) (fun _ => false) off pkt.msgLen with
        | (st, none) => s.nak rx pkt 0xFF st
        | (st, some r) =>
          let s := s.chargeRx rx.port r.ward 0
          if st ≠ St.ok then s.nak rx pkt r.ward st
          else
            let x := s.readOut rx pkt r.ward (r.base + off)
            if x.2 = St.ok then x.1 else x.1.nak rx pkt r.ward x.2)

/-- What R241 refuses of an ATOMIC packet on a region. -/
def atomicBad (pkt : Packet) (op : W64) (arg : List Byte) (r : XRegion) : Bool :=
  let a := r.base + pkt.offset
  decide (pkt.payload.length < 8) || spaceOf a ≠ .unified || msoBad (a % 64) op arg

/-- RX_ATOMIC (R277, R287, R292): executed once through the duplicate filter. -/
def execRxAtomic (rx : RxInfo) (pkt : Packet) (s : State) : Host.Outcome State Fault Refusal :=
  .next (if !s.clk.on then s else
    match s.rxGate rx pkt (pkt.typ = 4) with
    | (s, false) => s
    | (s, true) =>
      if s.asleep then s.dozing rx pkt
      else if s.collDrops pkt then s.dropPkt
      else
        let s := s.noteSlow pkt
        let f := s.filterStep rx pkt 0xFF
        if f.2 then f.1
        else if f.1.maxMsg < pkt.msgLen then f.1.nak rx pkt 0xFF St.bounds
        else
          let s := f.1
          let op := BitVec.ofNat 64 (leNat (pkt.payload.take 8))
          let arg := pkt.payload.drop 8
          match s.regionChk rx pkt (·.permAtomic) (atomicBad pkt op arg) pkt.offset pkt.msgLen with
          | (st, none) => s.nak rx pkt 0xFF st
          | (st, some r) =>
            let s := s.chargeRx rx.port r.ward pkt.payload.length
            let a := r.base + pkt.offset
            if st ≠ St.ok then s.nak rx pkt r.ward st
            else
              let slow := s.landsSlow a 1
              let x := s.uAtomic a op arg
              if x.2.2 = St.ok then x.1.ack rx pkt r.ward slow (x.2.1.take 64) else x.1.nak rx pkt r.ward x.2.2)

/-! ## SEND and receive buffers (R294, R301, R302) -/

/-- The receive record of a RECV (R117). -/
def recvRecord (len st src : Nat) : List Byte := leBytes 8 (len % 2 ^ 32 + st * 2 ^ 32 + src * 2 ^ 48)

/-- A receive buffer completes (R294, R301). -/
def State.bufDone (s : State) (q : Nat) (b : RecvBuf) (st len src : Nat) : State :=
  match b.origin with
  | .desc tag op cq sig =>
    s.queueDone q { status := st, op := op, tag := tag, bytes := len, src := src, cq := cq, sig := sig }
  | .cmd k ord =>
    match (s.core k).issued.find? (fun e => e.ord = ord) with
    | none => s
    | some e =>
      let s := s.csWrite k (fld e.cmd.w2 20 22) (recvRecord len st src)
      if s.aborting k then s else ((s.ctxLoad q).1.ctxSignal q).setPhase k ord (.done st)
  | .abort _ _ => s

/-- Writes data into a receive buffer. -/
def State.bufWrite (s : State) (b : RecvBuf) (off : Nat) (data : List Byte) : State × Nat :=
  match b.core with
  | some k => (s.csWrite k (b.addr + off) data, St.ok)
  | none => s.devWrite (b.addr + off) b.hint data

/-- A refused message: its buffer completes, and later packets of it are answered alike. -/
def State.killAsm (s : State) (rx : RxInfo) (pkt : Packet) (b : RecvBuf) (st : Nat) : State :=
  let key := msgKey pkt.srcDev pkt.msgId
  let s := s.modX (fun x => { x with asm := x.asm.map (fun e => if e.1 = key then (key, { e.2 with buf := none, st := st }) else e) })
  (s.bufDone pkt.dstQueue b st 0 pkt.srcDev).nak rx pkt b.ward st

/-- A SEND packet bound to a buffer. -/
def State.landSend (s : State) (rx : RxInfo) (pkt : Packet) (b : RecvBuf) : State :=
  let off := pkt.pktIndex * s.psize
  if b.cap < off + pkt.payload.length ∨ b.cap < pkt.msgLen then s.killAsm rx pkt b St.bounds
  else
    let slow := match b.core with
      | some _ => false
      | none => s.landsSlow (b.addr + off) pkt.payload.length
    let x := s.bufWrite b off pkt.payload
    if badStatus x.2 then x.1.killAsm rx pkt b x.2
    else if pkt.last then
      let s := x.1.modX (fun y => { y with asm := y.asm.filter (fun e => e.1 ≠ msgKey pkt.srcDev pkt.msgId) })
      (s.bufDone pkt.dstQueue b St.ok pkt.msgLen pkt.srcDev).ackData rx pkt b.ward slow
    else x.1.ackData rx pkt b.ward slow

/-- Binds a message to the oldest posted buffer of its queue (R294): the entry, or the NAK reason. -/
def State.bindSend (s : State) (pkt : Packet) : State × Except Nat Asm :=
  let key := msgKey pkt.srcDev pkt.msgId
  match s.xport.asm.find? (fun e => e.1 = key) with
  | some e => (s, .ok e.2)
  | none =>
    match mget [] s.xport.posted pkt.dstQueue with
    | [] => (s, .error 0x80)
    | b :: rest =>
      if 4096 ≤ s.xport.asm.length then (s, .error 0x81)
      else
        let a : Asm := { queue := pkt.dstQueue, buf := some b, st := St.ok }
        (s.modX (fun x => { x with posted := mset [] x.posted pkt.dstQueue rest, asm := x.asm ++ [(key, a)] }), .ok a)

/-- RX_SEND (R294). -/
def execRxSend (rx : RxInfo) (pkt : Packet) (s : State) : Host.Outcome State Fault Refusal :=
  .next (if !s.clk.on then s else
    match s.rxGate rx pkt (pkt.typ = 3) with
    | (s, false) => s
    | (s, true) =>
      if s.asleep then s.dozing rx pkt
      else if s.collDrops pkt then s.dropPkt
      else
        let s := (s.noteSlow pkt).ctxLoad pkt.dstQueue |>.1
        let w := (s.ctx pkt.dstQueue).ward
        let f := if pkt.last then s.filterStep rx pkt w else (s, false)
        if f.2 then f.1
        else
        let s := f.1.chargeRx rx.port w pkt.payload.length
        if !s.wardTakes w rx pkt then s.nak rx pkt w St.keyDenied
        else if s.maxMsg < pkt.msgLen then s.nak rx pkt w St.bounds
        else if s.collAborted pkt ≠ St.ok then s.nak rx pkt w (s.collAborted pkt)
        else
          match s.bindSend pkt with
          | (s, .error st) => s.nak rx pkt w st
          | (s, .ok a) =>
            match a.buf with
            | none => s.nak rx pkt w a.st
            | some b => s.landSend rx pkt b)

/-- RECV_TIMEOUT (R117): the oldest RECV of a core that has a TIMEOUT and whose message has not begun to arrive completes with
TIMEOUT. No message gives the record its source number, so that is a free value (log entry 3). -/
def execRecvTimeout (core : Nat) (s : State) : Host.Outcome State Fault Refusal :=
  .next (if !s.clk.on then s else
    match (s.core core).issued.find? (fun e => e.cmd.opcode = 0x61 && e.phase = .held && fld e.cmd.w3 32 16 ≠ 0 &&
        (mget [] s.xport.posted (fld e.cmd.w2 0 20)).any (fun b => b.origin = .cmd core e.ord)) with
    | none => s
    | some e =>
      let q := fld e.cmd.w2 0 20
      let l := mget [] s.xport.posted q
      let s := s.modX (fun x => { x with posted := mset [] x.posted q (l.filter (fun b => b.origin ≠ .cmd core e.ord)) })
      match l.find? (fun b => b.origin = .cmd core e.ord) with
      | some b => (s.drew 1).bufDone q b St.timeout 0 (s.freeW.toNat % 65536)
      | none => s)

/-! ## Answers to the module's own messages -/

/-- The message that an answer is for: of the right destination, and encrypted where its ward is LOCKED (R437). -/
def State.answered (s : State) (rx : RxInfo) (pkt : Packet) : Option Msg :=
  s.xport.msgs.find? (fun m => m.id % 2 ^ 32 = pkt.msgId && m.dst = pkt.srcDev && (rx.port = 16 || s.wardTakes m.ward rx pkt))

/-- Charges an answer to the ward of its message (R353). -/
def State.answerIn (s : State) (rx : RxInfo) (m : Msg) (n : Nat) : State := s.chargeRx rx.port m.ward n

/-- Marks one packet acknowledged by the copy `xmit` (R285, R291). -/
def Msg.ackOne (m : Msg) (i xmit maxWin : Nat) (ece : Bool) : Msg :=
  let k := m.pkt i
  if m.npkts ≤ i || k.acked.isSome || k.copies.isEmpty then m
  else
    let x := match k.copies.find? (fun c => c.xmit % 16 = xmit) with
      | some c => c.xmit
      | none => ((k.copies.head?.map (·.xmit)).getD 0)
    let m := m.setPkt i { k with acked := some x, held := false }
    if ece then m
    else if m.cwnd ≤ m.run + 1 then { m with run := 0, cwnd := min maxWin (m.cwnd + 1) } else { m with run := m.run + 1 }

/-- The copy of packet `i` that an ACK names by XMIT; the latest where it names none. -/
def Msg.ackedCopy (m : Msg) (i xmit : Nat) : Option Copy :=
  match (m.pkt i).copies.find? (fun c => c.xmit % 16 = xmit) with
  | some c => some c
  | none => (m.pkt i).copies.head?

/-- The port that an acknowledged copy used has no successive timeouts (R313). -/
def State.clearMiss (s : State) (m : Msg) (i xmit : Nat) : State :=
  match m.ackedCopy i xmit with
  | some c => s.modX (fun x => { x with misses := mset 0 x.misses (m.dst * 16 + c.port) 0 })
  | none => s

/-- Packets that an ACK map acknowledges (R276): those of a message that have been sent and not yet acknowledged. -/
def Msg.ackSet (m : Msg) (pkt : Packet) : List Nat :=
  ((List.range 32).filter (bitAt pkt.msgLen) |>.map (· + pkt.pktIndex)).filter (fun i =>
    decide (i < m.npkts) && (m.pkt i).acked.isNone && !(m.pkt i).copies.isEmpty)

/-- The packets of an ACK map are acknowledged (R276, R285, R291, R313). -/
def State.ackMarks (s : State) (m : Msg) (pkt : Packet) (ece : Bool) : State × Msg :=
  let new := m.ackSet pkt
  (new.foldl (fun s i => s.clearMiss m i pkt.xmit) s, new.foldl (fun m i => m.ackOne i pkt.xmit m.maxWin ece) m)

/-- A SLOW packet received for an open collective: of its messages, or of its ID (R320). -/
def State.slowFor (s : State) (m : Msg) (pkt : Packet) : State :=
  match m.coll with
  | some q => if pkt.slow && (s.coll q).isOpen then s.slowDeadline q else s
  | none => s

/-- What an ACK says of congestion and of a slow peer (R284, R291). -/
def Msg.hear (m : Msg) (pkt : Packet) (now : Nat) : Msg :=
  let m := { m with slow := m.slow || pkt.slow }
  if pkt.ece && (m.lastEce = 0 || decide (4 * cyclesPerUs ≤ now + 1 - m.lastEce)) then
    { m with cwnd := max 1 (m.cwnd / 2), lastEce := now + 1 }
  else m

/-- An ACK for a message (R276, R284, R285, R291, R301). -/
def State.ackIn (s : State) (m : Msg) (pkt : Packet) : State :=
  let m := m.hear pkt s.now
  let new := m.ackSet pkt
  let (s, m) := (s.slowFor m pkt).ackMarks m pkt pkt.ece
  if m.kind = 4 && !new.isEmpty then
    if pkt.payload.isEmpty then s.finishMsg m St.ok
    else
      let x := s.devWrite (m.loc + 64) m.hint pkt.payload
      x.1.finishMsg m x.2
  else if (m.kind = 7 && !new.isEmpty) || new.contains (m.npkts - 1) then s.finishMsg m St.ok
  else (s.putMsg m).pump m

/-- RX_ACK (R291). -/
def execRxAck (rx : RxInfo) (pkt : Packet) (s : State) : Host.Outcome State Fault Refusal :=
  .next (if !s.clk.on then s else
    match s.rxGate rx pkt (pkt.typ = 5) with
    | (s, false) => s
    | (s, true) =>
      match s.answered rx pkt with
      | none => s
      | some m => if m.kind = 1 then s else (s.answerIn rx m 0).ackIn m pkt)

/-- NOT_READY or BUSY (R276, R289): the packets of the NAK's map are acknowledged, and the packet that it names waits to be sent again. -/
def State.nakHold (s : State) (m : Msg) (pkt : Packet) : State :=
  let (s, m) := if m.kind = 1 then (s, m) else s.ackMarks m pkt false
  let i := if m.kind = 1 then 0 else pkt.pktIndex
  let k := m.pkt i
  if m.npkts ≤ i ∨ k.acked.isSome then s.putMsg m else s.putMsg (m.setPkt i { k with held := true })

/-- RX_NAK (R289). -/
def execRxNak (rx : RxInfo) (pkt : Packet) (s : State) : Host.Outcome State Fault Refusal :=
  .next (if !s.clk.on then s else
    match s.rxGate rx pkt (pkt.typ = 6) with
    | (s, false) => s
    | (s, true) =>
      match s.answered rx pkt with
      | none => s
      | some m =>
        let s := s.answerIn rx m 0
        if pkt.status = 0x80 ∨ pkt.status = 0x81 then s.nakHold m pkt
        else s.finishMsg m (if 1 ≤ pkt.status ∧ pkt.status ≤ 0x0C then pkt.status else St.aborted))

/-- RX_READ_RESP (R283, R301): the data is written locally; the READ completes when every byte has landed. -/
def execRxReadResp (rx : RxInfo) (pkt : Packet) (s : State) : Host.Outcome State Fault Refusal :=
  .next (if !s.clk.on then s else
    match s.rxGate rx pkt (pkt.typ = 2) with
    | (s, false) => s
    | (s, true) =>
      match s.answered rx pkt with
      | none => s
      | some m =>
        if m.kind ≠ 1 || decide (m.npkts ≤ pkt.pktIndex) || nmem m.got pkt.pktIndex then s
        else
          let s := (s.answerIn rx m pkt.payload.length).noteSlow pkt
          let s := s.clearMiss m 0 pkt.xmit
          let x := s.devWrite (m.loc + pkt.pktIndex * m.psize) m.hint (pkt.payload.take (m.len - pkt.pktIndex * m.psize))
          let m := { m with got := nput m.got pkt.pktIndex true, st := worst m.st x.2, slow := m.slow || pkt.slow }
          if m.missing.isEmpty then x.1.finishMsg m St.ok else x.1.putMsg m)

/-! ## Timers of messages -/

/-- Two successive timeouts on a port mark it down for a destination (R313). -/
def State.missOn (s : State) (d p : Nat) : State :=
  if p = 16 then s
  else
    let n := mget 0 s.xport.misses (d * 16 + p) + 1
    let s := s.modX (fun x => { x with misses := mset 0 x.misses (d * 16 + p) (if 2 ≤ n then 0 else n) })
    match s.routeOf d with
    | some i =>
      let down := s.rf (R.XPORT_ROUTE i) F.XPORT_ROUTE_DOWN
      if 2 ≤ n && !bitAt down p then
        (s.raise { ev 0x1801 1 p 4 with source2 := d }).rerouted (fun s => s.setF (R.XPORT_ROUTE i) F.XPORT_ROUTE_DOWN (down + 2 ^ p))
      else s
    | none => s

/-- What a retransmission timeout of the copy on port `p` leaves of the window and the port (R291, R313). -/
def State.timedOut (s : State) (m : Msg) (p : Nat) : State × Msg := (s.missOn m.dst p, { m with cwnd := max 1 (m.cwnd / 2), run := 0 })

/-- Copies of a packet sent again are counted (R325). -/
def countAgain (n : Nat) (r : Sent) : Sent := (r.1.bump R.XPORT_RETX_COUNT F.XPORT_RETX_COUNT_COUNT n, r.2)

/-- Another copy of packet `i`, with XMIT one higher, on the next usable port after that of its last copy `c` (R284, R289). -/
def State.copyAgain (s : State) (m : Msg) (i : Nat) (c : Copy) (counted : Bool) : Sent :=
  match s.copyOut m i (c.xmit + 1) ((c.port + 1) % 16) (s.msgPkt m i (c.xmit + 1)) counted with
  | .ok (s, m) => countAgain 1 (s, m, none)
  | .error e => (s, m, some e)

/-- Another round of READ_REQs (R283). -/
def State.roundAgain (s : State) (m : Msg) : Sent :=
  let r := s.readRound m
  countAgain ((r.2.1.pkt 0).copies.length - (m.pkt 0).copies.length) r

/-- RETX_TIMEOUT (R284, R291, R313): a packet's RTO has passed without an ACK. -/
def execRetxTimeout (msg pkt : Nat) (s : State) : Host.Outcome State Fault Refusal :=
  .next (if !s.clk.on then s else
    match s.msg msg with
    | none => s
    | some m =>
      let k := m.pkt (if m.kind = 1 then 0 else pkt)
      match k.copies with
      | [] => s
      | c :: _ =>
        if !s.xportOn || k.acked.isSome || k.held then s
        else
          let (s, m) := s.timedOut m c.port
          if m.retryMax + 1 ≤ (if m.kind = 1 then m.rounds - m.spare else k.sends) then s.finishMsg m St.retryExhausted
          else settleSent (if m.kind = 1 then s.roundAgain m else s.copyAgain m pkt c true))

/-- NAK_RETRY_TIMER (R289): the packet is sent again without counting a retry. -/
def execNakRetryTimer (msg pkt : Nat) (s : State) : Host.Outcome State Fault Refusal :=
  .next (if !s.clk.on then s else
    match s.msg msg with
    | none => s
    | some m =>
      let k := m.pkt pkt
      match k.copies with
      | [] => s
      | c :: _ =>
        if !s.xportOn || !k.held then s
        else
          let m := m.setPkt pkt { k with held := false }
          settleSent (if m.kind = 1 then s.roundAgain { m with spare := m.spare + 1 } else s.copyAgain m pkt c false))

/-- LAST_PACKET_SEND (R285). -/
def execLastPacketSend (msg : Nat) (lifePassed : Bool) (s : State) : Host.Outcome State Fault Refusal :=
  .next (if !s.clk.on then s else
    match s.msg msg with
    | none => s
    | some m => if s.xportOn then settleSent (s.tryLast m lifePassed) else s)

/-- MSG_TIMEOUT (R290): a message that waits on NOT_READY or BUSY ends with TIMEOUT once the MSG_TIMEOUT of its queue's context has
passed since it started. -/
def execMsgTimeout (msg : Nat) (s : State) : Host.Outcome State Fault Refusal :=
  .next (if !s.clk.on then s else
    match s.msg msg with
    | none => s
    | some m =>
      let s := s.loadFor m
      if m.pkts.any (fun e => e.2.held) && decide ((s.ctx m.queue).timeoutUs * cyclesPerUs ≤ s.now - m.start) then s.finishMsg m St.timeout
      else s)

/-- MSG_CONTEXT_GRANT (R281, R295): the first waiting message that may start takes a free context. -/
def execMsgContextGrant (s : State) : Host.Outcome State Fault Refusal :=
  .next (if !s.clk.on then s else
    match s.xport.waitMsgs.find? (fun m => (s.loadFor m).mayBegin m) with
    | none => s
    | some m => ((s.loadFor m).modX (fun x => { x with waitMsgs := x.waitMsgs.erase m })).beginMsg m)

/-! ## Probes (R313) -/

/-- PROBE_TIMER: a CTRL PROBE on every port marked down for a destination. -/
def execProbeTimer (s : State) : Host.Outcome State Fault Refusal :=
  .next (if !s.clk.on then s else
    if !s.xportOn then s
    else
      s.regs.foldl (fun s e =>
        if R.XPORT_ROUTE 0 ≤ e.1 ∧ e.1 ≤ R.XPORT_ROUTE 4095 then
          let i := (e.1 - R.XPORT_ROUTE 0) / 8
          let d := s.rf R.XPORT_ROUTE_BASE F.XPORT_ROUTE_BASE_BASE + i
          ((List.range 16).filter (fun p => bitAt (s.rf (R.XPORT_ROUTE i) F.XPORT_ROUTE_DOWN) p && s.portIn p)).foldl
            (fun s p => s.sendPkt p { s.pkt0 7 d with ctrlOp := 1 } none) s
        else s) s)

/-- RX_PROBE: answered with PROBE_ECHO. -/
def execRxProbe (rx : RxInfo) (pkt : Packet) (s : State) : Host.Outcome State Fault Refusal :=
  .next (if !s.clk.on then s else
    match s.rxGate rx pkt (pkt.typ = 7 && pkt.ctrlOp = 1) with
    | (s, false) => s
    | (s, true) => s.sendBack rx.port { s.pkt0 7 pkt.srcDev with ctrlOp := 2 } 0xFF)

/-- RX_PROBE_ECHO: the port's DOWN bit for the destination clears, with PATH_UP. -/
def execRxProbeEcho (rx : RxInfo) (pkt : Packet) (s : State) : Host.Outcome State Fault Refusal :=
  .next (if !s.clk.on then s else
    match s.rxGate rx pkt (pkt.typ = 7 && pkt.ctrlOp = 2) with
    | (s, false) => s
    | (s, true) =>
      match s.routeOf pkt.srcDev with
      | none => s
      | some i =>
        let down := s.rf (R.XPORT_ROUTE i) F.XPORT_ROUTE_DOWN
        if rx.port < 16 && bitAt down rx.port then
          (s.setF (R.XPORT_ROUTE i) F.XPORT_ROUTE_DOWN (down - 2 ^ rx.port)).raise { ev 0x1802 1 rx.port 4 with source2 := pkt.srcDev }
        else s)

/-! ## Aborts received (R322) -/

/-- An ABORT of a collective that is not open here is kept for 100 ms; a full table gives up its oldest entry. -/
def State.keepAbort (s : State) (id st : Nat) : State :=
  if s.xport.aborted.any (fun e => e.1 = id) then
    s.modX (fun x => { x with aborted := x.aborted.map (fun e => if e.1 = id then (id, worst e.2 st) else e) })
  else
    match s.xport.aborted with
    | old :: rest =>
      if s.xport.aborted.length < 256 then s.modX (fun x => { x with aborted := x.aborted ++ [(id, st)] })
      else (s.modX (fun x => { x with aborted := rest ++ [(id, st)] })).raise { ev 0x1809 1 0 0 with source2 := old.1 }
    | [] => s.modX (fun x => { x with aborted := [(id, st)] })

/-- RX_CTRL_ABORT (R322): acknowledged, and noted by the member's collective or kept in the aborted table. -/
def execRxCtrlAbort (rx : RxInfo) (pkt : Packet) (s : State) : Host.Outcome State Fault Refusal :=
  .next (if !s.clk.on then s else
    match s.rxGate rx pkt (pkt.typ = 7 && pkt.ctrlOp = 3) with
    | (s, false) => s
    | (s, true) =>
      let st := if 1 ≤ pkt.status ∧ pkt.status ≤ 0x0C then pkt.status else St.aborted
      match s.collSeq pkt.collId (fun c => c.isOpen) with
      | some q =>
        let w := (s.wardOfCore (160 + q)).getD 0xFF
        if s.wardTakes w rx pkt || rx.port = 16 then (s.noteAbort q st).ack rx pkt w false [] else s
      | none =>
        let s := if (s.collSeq pkt.collId (fun c => c.abort.isSome)).isSome then s else s.keepAbort pkt.collId st
        s.ack rx pkt 0xFF false [])

/-- ABORT_TABLE_EXPIRE (R322). -/
def execAbortTableExpire (collId : Nat) (s : State) : Host.Outcome State Fault Refusal :=
  .next (if !s.clk.on then s else s.modX (fun x => { x with aborted := x.aborted.filter (fun e => e.1 ≠ collId) }))

end Sys2Proof.Machine
end

