-- ==== Sys2Proof/Machine/XportCmds.lean ====
section
/-! DEFINITION. What software asks of the transport (R297 to R306): queue contexts, doorbells, descriptors, completion entries,
regions and keys, and the commands that cells and engines send through queues (R302). -/

namespace Sys2Proof.Machine

open Sys2Proof

/-! ## Queue contexts (R297) -/

/-- XPORT_CTX_STATUS after a command. -/
def State.ctxStatus (s : State) (st : Nat) : State :=
  (s.setF R.XPORT_CTX_STATUS F.XPORT_CTX_STATUS_BUSY 0).setF R.XPORT_CTX_STATUS F.XPORT_CTX_STATUS_STATUS st

/-- The context that the data registers hold; what is written to a reserved field is ignored (R5). -/
def State.ctxData (s : State) : Ctx :=
  let w (i : Nat) : W64 := s.reg (R.XPORT_CTX_DATA i)
  { w0 := w 0 &&& 0x000FFFFFFFFF3FFF, w1 := w 1 &&& 0x001FFFFFFFFFFFFF, w2 := w 2, w3 := w 3 &&& 0x001FFFFFFFFFFFFF, w4 := w 4, w5 := w 5,
    w6 := w 6, w7 := w 7 &&& 0x3FFFF }

/-- The context shown in the data registers. -/
def State.showCtx (s : State) (c : Ctx) : State :=
  (List.zip (List.range 8) [c.w0, c.w1, c.w2, c.w3, c.w4, c.w5, c.w6, c.w7]).foldl
    (fun s e => s.setReg (R.XPORT_CTX_DATA e.1) e.2) s

/-- CTX_CMD_READ (R297). -/
def ctlCtxCmdRead (who : Requester) (queue : Nat) (s : State) : Host.Outcome State Fault Refusal :=
  .next (s.ctlDo who R.XPORT_CTX_CMD St.ok (fun s =>
    let r := s.ctxLoad queue
    if r.2 = St.ok then (r.1.showCtx (r.1.ctx queue)).ctxStatus St.ok else r.1.ctxStatus r.2))

/-- Whether a ring may lie at an address: in the ward's slices, or in the host window (R297), of which the module reaches what the ward has
registered (R26, R363). -/
def State.ringChk (s : State) (w a n : Nat) : Nat :=
  match spaceOfRange a n with
  | .unified => chk (!s.ownedBy a n w) St.wardFault
  | .host => chk (!s.hostRegistered w a n) St.bounds
  | _ => St.bounds

/-- The signal target of a context lies in its ward (R297). -/
def Ctx.sigChk (c : Ctx) (s : State) : Nat :=
  let w := c.w7
  if !bitAt w.toNat 6 then St.ok
  else if fld w 14 2 = 3 then St.bounds
  else if bitAt w.toNat 16 && fld w 14 2 = 0 then St.ok
  else chk (s.wardOfCore (targetCore (fld w 14 2) (fld w 7 7)) ≠ some c.ward) St.wardFault

/-- The checks of a context that is put into service: VER, TYPE, and the rings it uses. -/
def Ctx.enableChk (c : Ctx) (s : State) : Nat :=
  let ring := c.typ = 0
  worst
    (chk (fld c.w0 0 4 ≠ 1 || decide (2 < c.typ) || (ring && (decide (c.ringLog2 < 4) || decide (16 < c.ringLog2) ||
      decide (c.ringBase % 64 ≠ 0))) || (ring && (decide (c.cqLog2 < 4) || decide (20 < c.cqLog2))) || decide (c.cqBase % 16 ≠ 0)) St.bounds)
    (if ring && decide (c.ringLog2 ≤ 16) && decide (c.cqLog2 ≤ 20) then
      worst (s.ringChk c.ward c.ringBase (64 * 2 ^ c.ringLog2)) (s.ringChk c.ward c.cqBase (16 * 2 ^ c.cqLog2)) else St.ok)

/-- The status of a context write over `old` (R297, R442). -/
def State.ctxWriteChk (s : State) (q : Nat) (old new : Ctx) : Nat :=
  worst (chk (old.enable && new ≠ { old with w0 := setFld old.w0 11 1 0 }) St.bounds)
    (worst (chk (s.wardOfQueue q ≠ some new.ward) St.wardFault)
      (worst (new.sigChk s) (if new.enable then new.enableChk s else St.ok)))

/-- A context written from the data registers; enabling clears ERROR. -/
def State.ctxWrite (s : State) (q : Nat) : State :=
  let r := s.ctxLoad q
  if r.2 ≠ St.ok then r.1.ctxStatus r.2
  else
    let old := r.1.ctx q
    let new := r.1.ctxData
    let st := r.1.ctxWriteChk q old new
    if st ≠ St.ok then r.1.ctxStatus st
    else
      let new := if new.enable then { new with w0 := setFld new.w0 13 1 0 } else new
      let x := (r.1.ctxKeep q new).uWrite (r.1.ctxAddr q) 0 new.bytes
      x.1.ctxStatus x.2

/-- CTX_CMD_WRITE (R297): refused for a context of a LOCKED ward's queues (R429). -/
def ctlCtxCmdWrite (who : Requester) (queue : Nat) (s : State) : Host.Outcome State Fault Refusal :=
  .next (
    match s.wardOfQueue queue with
    | some w =>
      if s.reach who R.XPORT_CTX_CMD = St.ok && lockable who && s.locked w then
        (s.lockedRefused w).ctlEnd who R.XPORT_CTX_CMD St.wardFault
      else s.ctlDo who R.XPORT_CTX_CMD St.ok (fun s => s.ctxWrite queue)
    | none => s.ctlDo who R.XPORT_CTX_CMD St.ok (fun s => s.ctxWrite queue))

/-! ## Doorbells (R299, R300, R369) -/

/-- A doorbell for a queue in service of TYPE HOST; any other has no effect and raises CTX_FAULT, which a context that cannot be read
has raised already. -/
def State.bell (s : State) (q : Nat) (f : Ctx → Ctx) : State :=
  let r := s.ctxLoad q
  let s := r.1
  if r.2 ≠ St.ok then s
  else if (s.ctx q).enable && (s.ctx q).typ = 0 then s.ctxPut q (f (s.ctx q))
  else s.raise { ev 0x1808 1 0 0 with addr := q }

/-- PROD set. -/
def State.bellProd (s : State) (q v : Nat) : State := s.bell q (fun c => { c with w2 := setFld c.w2 0 32 v })

/-- CQ_CONS set. -/
def State.bellCq (s : State) (q v : Nat) : State := s.bell q (fun c => { c with w4 := setFld c.w4 32 32 v })

/-- XPORT_DOORBELL (R299). -/
def ctlXportDoorbell (who : Requester) (queue prod : Nat) (s : State) : Host.Outcome State Fault Refusal :=
  .next (s.ctlDo who R.XPORT_DOORBELL St.ok (fun s => s.bellProd queue prod))

/-- XPORT_CQ_DOORBELL (R300). -/
def ctlXportCqDoorbell (who : Requester) (queue cons : Nat) (s : State) : Host.Outcome State Fault Refusal :=
  .next (s.ctlDo who R.XPORT_CQ_DOORBELL St.ok (fun s => s.bellCq queue cons))

/-! ## Descriptors (R299) -/

/-- A descriptor. -/
structure Desc where
  w0 : W64
  w1 : W64
  w2 : W64
  w3 : W64
  w4 : W64
  w5 : W64
  w6 : W64
deriving DecidableEq, Repr

/-- The descriptor that 64 bytes hold. -/
def descOf (bs : List Byte) : Desc :=
  let w (i : Nat) : W64 := BitVec.ofNat 64 (leNat (slice bs (8 * i) 8))
  { w0 := w 0, w1 := w 1, w2 := w 2, w3 := w 3, w4 := w 4, w5 := w 5, w6 := w 6 }

/-- OP. -/
def Desc.op (d : Desc) : Nat := fld d.w0 0 8
/-- LOCAL_ADDR. -/
def Desc.loc (d : Desc) : Nat := fld d.w1 0 48
/-- HINT (R100). -/
def Desc.hint (d : Desc) : Nat := if fld d.w1 48 2 = 3 then 0 else fld d.w1 48 2
/-- LENGTH. -/
def Desc.len (d : Desc) : Nat := fld d.w2 0 32

/-- The status that keeps a descriptor from being any of R299's: a bad OP, DVER or LENGTH. -/
def Desc.bad (d : Desc) : Bool :=
  d.op = 0 || decide (5 < d.op) || decide (fld d.w0 8 4 ≠ 1) || d.len = 0 || decide (d.len % 16 ≠ 0)

/-- Whether a HOST queue takes a descriptor now (R281, R299, R300). -/
def State.descReady (s : State) (q : Nat) : Bool :=
  let c := s.ctx q
  c.enable && c.typ = 0 && decide (c.prod ≠ c.cons) && !c.cqFull &&
    !(s.xport.waitMsgs.any (fun m => m.queue = q))

/-- The descriptor at CONS and the status of reading it. -/
def State.descNext (s : State) (q : Nat) : State × Desc × Nat :=
  let c := s.ctx q
  let a := c.ringBase + 64 * (c.cons % 2 ^ c.ringLog2)
  let k := s.ringChk c.ward a 64
  if k ≠ St.ok then (s, descOf [], k)
  else
    let r := s.devRead a 64 0 false
    (r.1, descOf r.2.1, if r.2.2 = St.unset then St.ok else r.2.2)

/-- CONS advances past the descriptor. -/
def State.descTaken (s : State) (q : Nat) : State :=
  let c := s.ctx q
  s.ctxPut q { c with w2 := setFld c.w2 32 32 (c.cons + 1) }

/-- Where a descriptor's completion goes. -/
def Desc.origin (d : Desc) : Origin := .desc (fld d.w0 32 32) d.op (bitAt d.w0.toNat 12) (bitAt d.w0.toNat 13)

/-- A descriptor that fails completes with a status. -/
def State.descFail (s : State) (q : Nat) (d : Desc) (st : Nat) : State :=
  s.queueDone q { status := st, op := d.op, tag := fld d.w0 32 32, bytes := 0, src := 0, cq := bitAt d.w0.toNat 12,
                  sig := bitAt d.w0.toNat 13 }

/-- The queue's next descriptor, when `p` says that it is the kind asked for: it is taken and `f` runs it. -/
def State.descRun (s : State) (q : Nat) (p : Desc → Nat → Bool) (f : State → Desc → Nat → State) : State :=
  let s := (s.ctxLoad q).1
  if s.descReady q then
    match s.descNext q with
    | (s', d, st) => if p d st then f (s'.descTaken q) d st else s
  else s

/-- A message that a descriptor starts. -/
def State.descMsg (s : State) (q : Nat) (d : Desc) (kind : Nat) : Msg :=
  let c := s.ctx q
  let ovr := bitAt d.w5.toNat 36
  { newMsg kind d.origin q c.ward (if ovr then fld d.w5 0 16 else c.dstDev) (if ovr then fld d.w5 16 20 else c.dstQueue) d.len d.loc with
    hint := d.hint, rkey := fld d.w4 0 32, akey := fld d.w4 32 32, off := fld d.w3 0 48 }

/-- A LOCAL_ADDR outside the queue's ward. -/
def State.localBad (s : State) (q a n : Nat) : Bool := s.devCheck (some (s.ctx q).ward) a n ≠ St.ok

/-- Runs a descriptor of one OP whose data is local: WARD_FAULT outside the ward, else `f`. -/
def State.descDo (s : State) (q op : Nat) (f : State → Desc → State) : State :=
  s.descRun q (fun d st => st = St.ok && !d.bad && d.op = op) (fun s d _ =>
    if s.localBad q d.loc d.len then s.descFail q d St.wardFault else f s d)

/-- DESC_WRITE (R299). -/
def execDescWrite (queue : Nat) (s : State) : Host.Outcome State Fault Refusal :=
  .next (if !s.clk.on then s else s.descDo queue 1 (fun s d => s.submit (s.descMsg queue d 0)))

/-- DESC_READ (R299). -/
def execDescRead (queue : Nat) (s : State) : Host.Outcome State Fault Refusal :=
  .next (if !s.clk.on then s else s.descDo queue 2 (fun s d => s.submit (s.descMsg queue d 1)))

/-- DESC_SEND (R299). -/
def execDescSend (queue : Nat) (s : State) : Host.Outcome State Fault Refusal :=
  .next (if !s.clk.on then s else s.descDo queue 3 (fun s d => s.submit (s.descMsg queue d 3)))

/-- Whether a memory-side operation returns old values, and how many bytes of them (R240, R242). -/
def fetchBytes (op : W64) : Nat := if bitAt op.toNat 4 || 4 ≤ fld op 0 4 then (fld op 5 5 + 1) * msoSize (fld op 0 4) else 0

/-- DESC_ATOMIC (R299): the operation word goes before the operand; FETCH results land at LOCAL_ADDR + 64. -/
def execDescAtomic (queue : Nat) (s : State) : Host.Outcome State Fault Refusal :=
  .next (if !s.clk.on then s else s.descDo queue 4 (fun s d =>
    let n := fetchBytes d.w6
    if n ≠ 0 && s.localBad queue (d.loc + 64) n then s.descFail queue d St.wardFault
    else s.submit { s.descMsg queue d 4 with data := leBytes 8 d.w6.toNat }))

/-- DESC_RECV (R299): a receive buffer is posted. -/
def execDescRecv (queue : Nat) (s : State) : Host.Outcome State Fault Refusal :=
  .next (if !s.clk.on then s else s.descDo queue 5 (fun s d =>
    let b : RecvBuf := { origin := d.origin, core := none, addr := d.loc, cap := d.len, ward := (s.ctx queue).ward, hint := d.hint }
    s.modX (fun x => { x with posted := mmod [] x.posted queue (· ++ [b]) })))

/-- The status of a descriptor that is none of R299's (R14): BOUNDS, WARD_FAULT where its LOCAL_ADDR lies outside the ward as well, or
the status with which the ring could not be read. -/
def State.badDescSt (s : State) (q : Nat) (d : Desc) (st : Nat) : Nat :=
  if st = St.ok then worst St.bounds (chk (s.localBad q d.loc (max 1 d.len)) St.wardFault) else worst St.bounds st

/-- DESC_INVALID (R299). -/
def execDescInvalid (queue : Nat) (s : State) : Host.Outcome State Fault Refusal :=
  .next (if !s.clk.on then s else s.descRun queue (fun d st => st ≠ St.ok || d.bad) (fun s d st => s.descFail queue d (s.badDescSt queue d st)))

/-! ## Completion entries (R300, R301) -/

/-- The 16 bytes of a completion entry. -/
def CqE.bytesOf (e : CqE) (phase : Bool) : List Byte :=
  leBytes 8 (e.tag + e.status * 2 ^ 32 + e.op * 2 ^ 40 + e.src * 2 ^ 48) ++ leBytes 8 (e.bytes % 2 ^ 32 + b2n phase * 2 ^ 63)

/-- PHASE of the next entry: 1 on the first pass and alternating. -/
def Ctx.phase (c : Ctx) : Bool := c.cqProd / 2 ^ c.cqLog2 % 2 = 0

/-- An entry written to its ring, and CQ_PROD advanced. -/
def State.cqWrite (s : State) (q : Nat) (e : CqE) : State :=
  let c := s.ctx q
  let a := c.cqBase + 16 * (c.cqProd % 2 ^ c.cqLog2)
  let s := if s.ringChk c.ward a 16 = St.ok then (s.devWrite a 0 (e.bytesOf c.phase)).1 else s
  s.ctxPut q { c with w4 := setFld c.w4 0 32 (c.cqProd + 1) }

/-- The interrupts of a queue's completion entries (R380). -/
def State.cqIrq (s : State) (q : Nat) : State :=
  (List.range 63).foldl (fun s i =>
    let a := R.HOST_CQIRQ (i + 1)
    if s.rf a F.HOST_CQIRQ_EN = 1 && s.rf a F.HOST_CQIRQ_QUEUE = q then s.irq (i + 1) (s.rf a F.HOST_CQIRQ_MIN_US) else s) s

/-- The ACK that follows a NOTIFY entry (R293). -/
def State.cqAck (s : State) (e : CqE) : State :=
  match e.ack with
  | none => s
  | some (port, a, w) =>
    let key := msgKey a.dstDev a.msgId
    (s.modX (fun x => { x with filter := x.filter.map (fun f => if f.1 = key then (key, some (a, w)) else f) })).sendBack port a w

/-- CQ_ENTRY_WRITE (R300, R301): the oldest completion of a queue: entry, signal, interrupt, and the ACK that waited for it. -/
def execCqEntryWrite (queue : Nat) (s : State) : Host.Outcome State Fault Refusal :=
  .next (if !s.clk.on then s else
    match mget [] s.xport.cqWait queue with
    | [] => s
    | e :: rest =>
      let s' := (s.ctxLoad queue).1
      if (s'.ctx queue).cqFull then s
      else
        let s := s'.modX (fun x => { x with cqWait := mset [] x.cqWait queue rest })
        let s := if e.cq then s.cqWrite queue e else s
        let s := if e.sig then s.ctxSignal queue else s
        let s := if e.cq then s.cqIrq queue else s
        s.cqAck e)

/-! ## Regions and keys (R303 to R306) -/

/-- XPORT_REG_STATUS. -/
def State.regStatus (s : State) (busy st : Nat) : State :=
  (s.setF R.XPORT_REG_STATUS F.XPORT_REG_STATUS_BUSY busy).setF R.XPORT_REG_STATUS F.XPORT_REG_STATUS_STATUS st

/-- The first number that is no key of a map, from `n`. -/
def firstGap : List (Nat × Nat) → Nat → Nat
  | [], n => n
  | (k, _) :: m, n => if k = n then firstGap m (n + 1) else n

/-- The free, unretired region entry of lowest GEN, and of lowest INDEX among equals (R305). -/
def State.freeRegion (s : State) : Option Nat :=
  let g := firstGap s.xport.gens 0
  if g < 65536 then some g
  else
    (s.xport.gens.foldl (fun (best : Option (Nat × Nat)) e =>
      if e.2 < 0xFFFF && (s.xregion e.1).isNone then
        match best with
        | none => some e
        | some b => if e.2 < b.2 then some e else some b
      else best) none).map (·.1)

/-- The checks of a registration's range (R303, R413): every slice it touches is the ward's. -/
def State.regionChkReg (s : State) (w a n : Nat) : Nat :=
  worst (chk (decide (a % 4096 ≠ 0) || decide (n % 4096 ≠ 0) || n = 0 || decide (2 ^ 39 < n)) St.bounds)
    (if n = 0 || decide (2 ^ 39 < n) then St.ok
      else match spaceOfRange a n with
        | .unified =>
          let owners := (List.range ((a + n - 1) / 2 ^ 25 - a / 2 ^ 25 + 1)).map (fun i => s.sliceOwner (a / 2 ^ 25 + i))
          chk (owners.any (fun o => o ≠ w)) St.wardFault
        | .host => St.ok
        | _ => St.bounds)

/-- A registration starts, or ends at once with a status (R303 to R305, R417). -/
def State.regStart (s : State) (w : Nat) (pw pr pa : Bool) : State :=
  if s.xport.regBusy.isSome then s
  else
    let a := s.rf R.XPORT_REG_ADDR F.XPORT_REG_ADDR_ADDR
    let n := s.rf R.XPORT_REG_LEN F.XPORT_REG_LEN_LEN
    let st := worst (chk (s.wardState w ≠ 1 && s.wardState w ≠ 2) St.wardFault)
      (worst (s.regionChkReg w a n)
        (worst (chk s.freeRegion.isNone St.bounds) (chk (s.rf R.SEC_STATUS F.SEC_STATUS_RNG_OK ≠ 1) St.keyDenied)))
    match s.freeRegion with
    | none => s.regStatus 0 st
    | some i =>
      if st ≠ St.ok then s.regStatus 0 st
      else
        let (k, s) := s.random
        let r : XRegion := { base := a, len := n, ward := w, permWrite := pw, permRead := pr, permAtomic := pa,
                             sig := s.reg R.XPORT_REG_SIG, access := k.toNat % 2 ^ 32, phase := 0 }
        (s.modX (fun x => { x with
          regions := mset none x.regions i (some r)
          gens := mset 0 x.gens i (mget 0 x.gens i + 1)
          regBusy := some i })).regStatus 1 St.ok

/-- REGION_REGISTER (R303): refused for a LOCKED ward (R429). -/
def ctlRegionRegister (who : Requester) (ward : Nat) (permWrite permRead permAtomic : Bool) (s : State) :
    Host.Outcome State Fault Refusal :=
  .next (
    if s.reach who R.XPORT_REG_CTRL = St.ok && lockable who && s.locked ward then
      (s.lockedRefused ward).ctlEnd who R.XPORT_REG_CTRL St.wardFault
    else s.ctlDo who R.XPORT_REG_CTRL St.ok (fun s => s.regStart ward permWrite permRead permAtomic))

/-- A deregistration starts: no packet naming the region is accepted any more (R306). -/
def State.regStop (s : State) (w : Nat) : State :=
  if s.xport.regBusy.isSome then s
  else
    let key := s.rf R.XPORT_REG_KEY F.XPORT_REG_KEY_REGION_KEY
    let i := key % 65536
    match s.xregion i with
    | some r =>
      if mget 0 s.xport.gens i ≠ key / 65536 then s.regStatus 0 St.bounds
      else if r.ward ≠ w then s.regStatus 0 St.wardFault
      else (s.modX (fun x => { x with regions := mset none x.regions i (some { r with phase := 2 }), regBusy := some i })).regStatus 1 St.ok
    | none => s.regStatus 0 St.bounds

/-- REGION_DEREGISTER (R306). -/
def ctlRegionDeregister (who : Requester) (ward : Nat) (s : State) : Host.Outcome State Fault Refusal :=
  .next (s.ctlDo who R.XPORT_REG_CTRL St.ok (fun s => s.regStop ward))

/-- Whether a block of a range is FILLING or DRAINING (R190). -/
def State.rangeMoving (s : State) (a n : Nat) : Bool :=
  s.mem.blocks.any (fun e => match e.2 with
    | some x => decide (a < (e.1 + 1) * 65536 ∧ e.1 * 65536 < a + n) &&
        (x.st = .filling || x.st = .drainKeep || x.st = .drainRelease)
    | none => false)

/-- REG_CMD_DONE (R304, R306). -/
def execRegCmdDone (s : State) : Host.Outcome State Fault Refusal :=
  .next (if !s.clk.on then s else
    match s.xport.regBusy with
    | none => s
    | some i =>
      match s.xregion i with
      | none => (s.modX (fun x => { x with regBusy := none })).regStatus 0 St.wardFault
      | some r =>
        if r.phase = 0 then
          if s.rangeMoving r.base r.len then s
          else
            let s := s.modX (fun x => { x with regions := mset none x.regions i (some { r with phase := 1 }), regBusy := none })
            ((s.setF R.XPORT_REG_KEY F.XPORT_REG_KEY_REGION_KEY (mget 0 s.xport.gens i * 65536 + i)).setF R.XPORT_REG_KEY
              F.XPORT_REG_KEY_ACCESS_KEY r.access).regStatus 0 St.ok
        else (s.modX (fun x => { x with regions := mset none x.regions i none, regBusy := none })).regStatus 0 St.ok)

/-! ## SEND and RECV through queues (R302, R117, R548) -/

/-- The queue of a command: of the command's own ward, of the core's kind, in service. -/
def State.queueChk (s : State) (k q : Nat) : State × Nat :=
  let r := s.ctxLoad q
  let c := r.1.ctx q
  let w := r.1.wardOfCore k
  (r.1, worst r.2 (worst (chk (w.isNone || r.1.wardOfQueue q ≠ w || (c.enable && some c.ward ≠ w)) St.wardFault)
    (chk (!c.enable || c.typ ≠ (if isColl k then 2 else 1)) St.bounds)))

/-- A WRITE through a queue's own region at a byte offset from REMOTE_BASE, or a SEND to its destination queue. -/
def State.queueMsg (s : State) (k ord q kind len loc off : Nat) : Msg :=
  let c := s.ctx q
  { newMsg kind (.cmd k ord) q c.ward c.dstDev c.dstQueue len loc with
    rkey := fld c.w5 0 32, akey := fld c.w5 32 32, off := (fld c.w6 0 48 + off) % 2 ^ 48, coll := s.collOf k }

/-- First packet that carries a byte of the bad parts (R548). -/
def cutOf (p : Nat) (bad : List (Nat × Nat)) : Option Nat :=
  bad.foldl (fun a b => some (match a with | some i => min i (b.1 / p) | none => b.1 / p)) none

/-- SEND_QUEUE (R302): a SEND with DKIND 1. -/
def execSendQueue (core : Nat) (errs : List (Nat × Bool)) (s : State) : Host.Outcome State Fault Refusal :=
  .next (
    match s.front core 0x60 with
    | none => s
    | some e =>
      let c := e.cmd
      if c.dkind ≠ 1 || s.aborting core then s
      else
        let q := fld c.w2 36 20
        let o := operand c.w1
        let n := c.length
        let x := s.queueChk core q
        let st := worst (chk (decide (n % 16 ≠ 0)) St.bounds) (worst (s.moveChk core [0, 2] o 1 n n) x.2)
        let s := x.1
        if st ≠ St.ok then s.setPhase core e.ord (.done st)
        else
          let two := bitAt (s.ctx q).w7.toNat 17
          let m := { s.queueMsg core e.ord q (if two then 3 else 0) n o.addr (if two then 0 else fld c.w2 0 22 * 64) with hint := o.hint }
          if o.space = 2 then s.submit m
          else
            let s := s.csScan core [(o.off, n)] errs
            let r := s.readSide core o 0 n
            r.s.submit { m with data := r.data, fetch := false, cut := cutOf s.psize r.bad })

/-- The buffer that a RECV names. -/
def recvBuf (k ord w : Nat) (o : Operand) (cap : Nat) : RecvBuf :=
  { origin := .cmd k ord, core := if o.space = 0 then some k else none, addr := if o.space = 0 then o.off else o.addr, cap := cap, ward := w, hint := o.hint }

/-- RECV (R302): the buffer is posted and the command is held until a message fills it. A refused RECV writes its record too
(R117), with a free source number; where its record is to go is itself misaligned or outside the store, it writes none (log entry 36). -/
def execRecv (core : Nat) (s : State) : Host.Outcome State Fault Refusal :=
  .next (
    match s.front core 0x61 with
    | none => s
    | some e =>
      if s.aborting core then s
      else
        let c := e.cmd
        let q := fld c.w2 0 20
        let rec_ := fld c.w2 20 22
        let cap := fld c.w3 0 32
        let o := operand c.w1
        let x := s.queueChk core q
        let recBad := decide (rec_ % 8 ≠ 0) || decide (storeSize core < rec_ + 8)
        let st := worst (chk recBad St.bounds) (worst (s.moveChk core [0, 2] o 1 cap cap) x.2)
        let s := x.1
        if st ≠ St.ok then
          let s := if recBad then s else (s.drew 1).csWrite core rec_ (recvRecord 0 st (s.freeW.toNat % 65536))
          s.setPhase core e.ord (.done st)
        else
          let b := recvBuf core e.ord ((s.wardOfCore core).getD 0xFF) o cap
          (s.modX (fun y => { y with posted := mmod [] y.posted q (· ++ [b]) })).setPhase core e.ord .held)

end Sys2Proof.Machine
end

