-- ==== Sys2Proof/Machine/Coll.lean ====
section
/-! DEFINITION. Collectives (R261, R316 to R322): the step opcodes of the collective sequencers, deadlines and aborts. -/

namespace Sys2Proof.Machine

open Sys2Proof

/-- Core number of sequencer `q`. -/
def seqCore (q : Nat) : Nat := 160 + q

/-- XPORT_COLL_STATUS of a sequencer: OPEN and COLL_ID. -/
def State.collStatus (s : State) (q open_ id : Nat) : State :=
  (s.setF (R.XPORT_COLL_STATUS q) F.XPORT_COLL_STATUS_OPEN open_).setF (R.XPORT_COLL_STATUS q) F.XPORT_COLL_STATUS_COLL_ID id

/-- Executes the front step of a sequencer whose collective is not being aborted. -/
def State.runStep (s : State) (k op : Nat) (f : Issued → State) : State :=
  if s.aborting k then s
  else match s.front k op with
    | some e => f e
    | none => s

/-! ## CQSEND (R261, R317) -/

/-- Bytes at a device address in 16-byte units, each with whether it was unusable, and the status. -/
def State.readUnits (s : State) (a n : Nat) : State × List (List Byte × Bool) × Nat :=
  (List.range (n / 16)).foldl (fun (acc : State × List (List Byte × Bool) × Nat) i =>
    let r := acc.1.devRead (a + 16 * i) 16 0 false
    (r.1, acc.2.1 ++ [(r.2.1, badStatus r.2.2)], worst acc.2.2 r.2.2)) (s, [], St.ok)

/-- The elements of units of 16 bytes, with whether their unit was unusable. -/
def unitElems (fmt : Nat) (us : List (List Byte × Bool)) : List (FVal × Bool) :=
  (us.map (fun u => (unpackElems fmt (128 / elemBits fmt) u.1).map (fun c => (decodeElem fmt c, u.2)))).flatten

/-- One row: element codes, its scale byte, the new error codes, and the categories of both. -/
structure CqRow where
  codes : List Nat
  scale : Nat
  errs : List Nat
  cats : List Nat
  errCats : List Nat
deriving DecidableEq, Repr

/-- The value of a quantised element, of which R261 takes the new error term. Where `q` has overflowed into an infinity it is the largest
finite one: the excess over it is what the rule says goes into the error term and returns (log entry 45). -/
def heldValue (fmtD code : Nat) : FVal :=
  match decodeElem fmtD code with
  | .inf neg => decodeElem fmtD (bigCode fmtD neg false)
  | v => v

/-- A row quantised with or without an error term (R154, R261); `terms` are the error values, and an element of an unusable line is
written as zero and not counted (R148). Its new error term is +0 and counts NORM, which the spec leaves open (log entry 45). -/
def cqRow (e : Issued) (k fmtD r : Nat) (terms : Option (List (FVal × Bool))) (g : List (FVal × Bool)) : CqRow :=
  let t : List (FVal × Bool) := match terms with
    | none => g
    | some l => (List.zip g l).map (fun (x : (FVal × Bool) × (FVal × Bool)) => (r32 (x.1.1.add x.2.1), x.1.2 || x.2.2))
  let sc := computeScale fmtD e.adj ((t.filter (fun v => !v.2)).map (·.1))
  let row := convertRow e k fmtD e.cmd.rnd r 128 true (.mul sc) t
  let errs : List (Nat × Nat) := match terms with
    | none => []
    | some _ => (List.zip t row.codes).map (fun (x : (FVal × Bool) × Nat) =>
        if x.1.2 || !x.1.1.isFin then (0, 0)
        else roundTo 2 2 0 (x.1.1.sub ((heldValue fmtD x.2).scale (scaleExp sc))))
  { codes := row.codes, scale := sc, errs := errs.map (·.1), cats := row.cats, errCats := errs.map (·.2) }

/-- The checks of a CQSEND (R14, R100, R102, R117, R316): every condition is looked at, and R14 ranks them. -/
def State.cqsendChk (s : State) (k : Nat) (c : Cmd) : Nat :=
  let o := operand c.w1
  let rows := fld c.w2 42 11
  let w := s.wardOfCore k
  let err := fld c.w3 0 48
  let en := bitAt c.w3.toNat 48
  worst (chk (decide (1 < c.fmtA) || decide (c.fmtD < 3) || decide (7 < c.fmtD)) St.formatInvalid)
    (worst (chk (rows = 0 || decide (1024 < rows) || decide (o.space ≠ 2) || decide (o.addr % 16 ≠ 0) || (en && decide (err % 16 ≠ 0)))
        St.bounds)
      (worst (if o.space = 2 then s.devCheck w o.addr (max 1 (rows * rowBytes c.fmtA 128)) else St.ok)
        (if en then s.devCheck w err (max 1 (rows * 512)) else St.ok)))

/-- What the rows of a CQSEND give: element bytes and scale bytes to be sent, the status, and the categories of `q` and of the error
terms. -/
structure CqOut where
  data : List Byte := []
  scales : List Byte := []
  st : Nat := St.ok
  cats : List Nat := []
  errCats : List Nat := []
deriving DecidableEq, Repr

/-- Bytes filled up to `n` with bytes that the spec does not state (R317). -/
def State.fillUp (s : State) (n : Nat) (bs : List Byte) : State × List Byte :=
  (s.drew (ceilDiv (n - bs.length) 8), bs ++ s.freeBytes (n - bs.length))

/-- One row of a CQSEND: read, quantised, its error terms written, and its 128 element bytes joined to the payload. -/
def State.cqStep (s : State) (k : Nat) (e : Issued) (acc : CqOut) (i : Nat) : State × CqOut :=
  let c := e.cmd
  let rows := fld c.w2 42 11
  let rb := rowBytes c.fmtA 128
  let base := fld c.w3 0 48
  let par := b2n (bitAt c.w3.toNat 49)
  let en := bitAt c.w3.toNat 48
  let g := s.readUnits ((operand c.w1).addr + i * rb) rb
  let t := if en then
      (let x := g.1.readUnits (base + par * rows * 256 + i * 256) 256
       (x.1, some (unitElems 2 x.2.1), worst g.2.2 x.2.2))
    else (g.1, none, g.2.2)
  let row := cqRow e k c.fmtD i t.2.1 (unitElems c.fmtA g.2.1)
  let w := if en then t.1.devWrite (base + (1 - par) * rows * 256 + i * 256) 0 (packElems 2 row.errs) else (t.1, St.ok)
  let p := w.1.fillUp 128 (packElems c.fmtD row.codes)
  (p.1, { data := acc.data ++ p.2, scales := acc.scales ++ [BitVec.ofNat 8 row.scale], st := worst acc.st (worst t.2.2 w.2),
          cats := acc.cats ++ row.cats, errCats := if en then acc.errCats ++ row.errCats else [] })

/-- The rows of a CQSEND in order (R317): ROWS × 128 element bytes, ROWS scale bytes, and padding to a multiple of 16. A row of a format
narrower than a byte fills the first of its 128 bytes; the rest, and the padding, are free (log entry 45). -/
def State.cqRows (s : State) (k : Nat) (e : Issued) : State × List Byte × CqOut :=
  let r := (List.range (fld e.cmd.w2 42 11)).foldl (fun (acc : State × CqOut) i => acc.1.cqStep k e acc.2 i) (s, {})
  let data := r.2.data ++ r.2.scales
  let p := r.1.fillUp (alignUp data.length 16) data
  (p.1, p.2, r.2)

/-- The elements that a command has rounded, by format and category: counted when it completes (R151). -/
def State.setTally (s : State) (k ord : Nat) (l : List (Nat × List Nat)) : State :=
  s.setIssued k ((s.core k).issued.map (fun e => if e.ord = ord then { e with tally := l } else e))

/-- CQSEND (R317): the quantised rows leave as one WRITE through a COLL queue. -/
def execCqsend (core : Nat) (s : State) : Host.Outcome State Fault Refusal :=
  .next (s.runStep core 0x68 (fun e =>
    let c := e.cmd
    let q := fld c.w2 0 20
    let x := s.queueChk core q
    let st := worst (x.1.cqsendChk core c) x.2
    if st ≠ St.ok then x.1.setPhase core e.ord (.done st)
    else
      let r := x.1.cqRows core e
      let t := r.1.setTally core e.ord [(c.fmtD, r.2.2.cats), (2, r.2.2.errCats)]
      if r.2.2.st = St.thermalAbort || statusRank r.2.2.st < 4 then t.cmdDone core e.ord r.2.2.st
      else
        t.submit { t.queueMsg core e.ord q 0 r.2.1.length 0 (fld c.w2 20 22 * 64) with
          data := r.2.1, fetch := false, st := r.2.2.st }))

/-! ## CADD (R318) -/

/-- Bytes of a CADD's landing buffer: 128 for each row as CQSEND sends it, then its scale bytes (R317, log entry 45). -/
def landingBytes (rows : Nat) : Nat := rows * 129

/-- The checks of a CADD (R14): every condition is looked at, and R14 ranks them. -/
def State.caddChk (s : State) (k : Nat) (c : Cmd) : Nat :=
  let a := operand c.w1
  let d := operand c.w2
  let rows := fld c.w3 0 11
  let w := s.wardOfCore k
  worst (chk (decide (c.fmtA < 3) || decide (7 < c.fmtA) || decide (1 < c.fmtD)) St.formatInvalid)
    (worst (chk (rows = 0 || decide (1024 < rows) || decide (a.space ≠ 2) || decide (d.space ≠ 2) || decide (a.addr % 16 ≠ 0) ||
        decide (d.addr % 64 ≠ 0) || (c.acc && d.space = 2 && spaceOf d.addr ≠ .unified)) St.bounds)
      (worst (if a.space = 2 then s.devCheck w a.addr (max 1 (landingBytes rows)) else St.ok)
        (if d.space = 2 then s.devCheck w d.addr (max 1 (rows * rowBytes c.fmtD 128)) else St.ok)))

/-- A whole-line ADD of the format: ADD_F32 of 16 elements or ADD_BF16 of 32. -/
def caddOp (fmtD : Nat) : W64 := if fmtD = 0 then BitVec.ofNat 64 (15 * 32) else BitVec.ofNat 64 (1 + 31 * 32)

/-- One landed element widened with its row's scale (R318): its code in FMT_D, and its category where widening it has rounded it, as R150
counts roundings only. An unusable element is zero and not counted (R148, R545). -/
def caddElem (fmtD sc : Nat) (v : FVal × Bool) : Nat × Option Nat :=
  if v.2 then (0, none)
  else if sc = noScale then (nanCode fmtD, some 3)
  else
    let x := v.1.scale (scaleExp sc)
    let r := roundTo fmtD 1 0 x
    (r.1, if x.isFin && !((x.sub (decodeElem fmtD r.1)).isZero) then some r.2 else none)

/-- Row `i` of a CADD read and widened: its bytes in FMT_D, the status, and the categories of what was rounded. -/
def State.caddRow (s : State) (c : Cmd) (i : Nat) : State × List Byte × Nat × List Nat :=
  let a := (operand c.w1).addr
  let x := s.readUnits (a + i * 128) (rowBytes c.fmtA 128)
  let y := x.1.devRead (a + fld c.w3 0 11 * 128 + i) 1 0 false
  let es := (unitElems c.fmtA x.2.1).map (fun v => caddElem c.fmtD (leNat y.2.1) (v.1, v.2 || badStatus y.2.2))
  (y.1, packElems c.fmtD (es.map (·.1)), worst x.2.2 y.2.2, es.filterMap (·.2))

/-- The rows of a CADD written or added at home in order, and the categories of what was rounded. -/
def State.caddRows (s : State) (c : Cmd) : State × Nat × List Nat :=
  let d := (operand c.w2).addr
  let db := rowBytes c.fmtD 128
  (List.range (fld c.w3 0 11)).foldl (fun (acc : State × Nat × List Nat) i =>
    let x := acc.1.caddRow c i
    let st := worst acc.2.1 x.2.2.1
    let w := if c.acc then
        (List.range (db / 64)).foldl (fun (b : State × Nat) j =>
          let z := b.1.uAtomic (d + i * db + j * 64) (caddOp c.fmtD) (slice x.2.1 (j * 64) 64)
          (z.1, worst b.2 z.2.2)) (x.1, St.ok)
      else x.1.devWrite (d + i * db) 0 x.2.1
    (w.1, worst st w.2, acc.2.2 ++ x.2.2.2)) (s, St.ok, [])

/-- CADD (R318): one at a time, each after the previous one has completed. -/
def execCadd (core : Nat) (s : State) : Host.Outcome State Fault Refusal :=
  .next (s.runStep core 0x69 (fun e =>
    if (s.core core).issued.any (fun f => f.cmd.opcode = 0x69 && decide (f.ord < e.ord)) then s
    else
      let st := s.caddChk core e.cmd
      if st ≠ St.ok then s.setPhase core e.ord (.done st)
      else
        let r := s.caddRows e.cmd
        (r.1.setTally core e.ord [(e.cmd.fmtD, r.2.2)]).cmdDone core e.ord r.2.1))

/-! ## CBEGIN and CEND (R319) -/

/-- The member list: device number and COLL queue of each. -/
def memberList (n : Nat) (bs : List Byte) : List (Nat × Nat) :=
  (List.range n).map (fun i =>
    let v := leNat (slice bs (8 * i) 8)
    (bitsOf v 0 16, bitsOf v 16 20))

/-- CBEGIN (R319, R320, R322): the status of the aborted table, BOUNDS while a collective is open or for a field outside its range, or
the collective opens. -/
def execCbegin (core : Nat) (s : State) : Host.Outcome State Fault Refusal :=
  .next (s.runStep core 0x6A (fun e =>
    let c := e.cmd
    let q := core - 160
    let id := fld c.w1 0 16
    let mask := fld c.w1 16 8
    let n := fld c.w1 24 13
    let off := fld c.w2 0 16
    let tmo := fld c.w2 32 16
    let bad := (s.coll q).isOpen || n = 0 || decide (4096 < n) || tmo = 0 || decide (off % 8 ≠ 0) || decide (65536 < off + 8 * n)
    if bad then s.setPhase core e.ord (.done St.bounds)
    else match s.xport.aborted.find? (fun a => a.1 = id) with
      | some a => s.setPhase core e.ord (.done a.2)
      | none =>
        let x : Coll := { isOpen := true, id := id, members := memberList n (s.csBytes core off (8 * n)), mask := mask, timeout := tmo,
                          deadline := s.us + tmo, abort := none }
        let s := ((s.setColl q x).collStatus q 1 id).setPhase core e.ord (.done St.ok)
        let s := if s.slowMask mask then s.slowDeadline q else s
        if (List.range 8).any (fun i => bitAt mask i && s.thermLevel i = 3) then s.abortColl q St.thermalAbort else s))

/-- CEND (R319): it ends when every earlier command of the collective has completed. -/
def execCend (core : Nat) (s : State) : Host.Outcome State Fault Refusal :=
  .next (s.runStep core 0x6B (fun e =>
    if (s.core core).issued.any (fun f => decide (f.ord < e.ord)) then s
    else
      let q := core - 160
      let c := s.coll q
      if !c.isOpen || c.id ≠ fld e.cmd.w1 0 16 then s.setPhase core e.ord (.done St.bounds)
      else ((s.setColl q { c with isOpen := false }).collStatus q 0 c.id).setPhase core e.ord (.done St.ok)))

/-! ## Aborts (R321, R322) -/

/-- COLL_DEADLINE (R320, R321): a deadline that has passed aborts its collective with TIMEOUT. -/
def execCollDeadline (seq : Nat) (s : State) : Host.Outcome State Fault Refusal :=
  .next (if !s.clk.on then s else if (s.coll seq).isOpen && decide ((s.coll seq).deadline ≤ s.us) then s.abortColl seq St.timeout else s)

/-- COLL_ABORT_WRITE (R321). -/
def ctlCollAbortWrite (who : Requester) (seq : Nat) (s : State) : Host.Outcome State Fault Refusal :=
  .next (s.ctlDo who (R.XPORT_COLL_CTRL seq) St.ok (fun s => s.abortColl seq St.aborted))

/-- A RECV that the abort ends gives up its buffer and writes its record (R117). -/
def State.dropRecv (s : State) (k : Nat) (e : Issued) (st : Nat) : State :=
  if e.cmd.opcode = 0x61 && e.phase = .held then
    let q := fld e.cmd.w2 0 20
    let s := s.modX (fun x => { x with
      posted := mmod [] x.posted q (fun l => l.filter (fun b => b.origin ≠ .cmd k e.ord))
      asm := x.asm.map (fun a => if a.2.buf.any (fun b => b.origin = .cmd k e.ord) then (a.1, { a.2 with buf := none, st := st }) else a) })
    (s.drew 1).csWrite k (fld e.cmd.w2 20 22) (recvRecord 0 st (s.freeW.toNat % 65536))
  else s

/-- The queued head of a sequencer's stream, if any, completes with the status of an abort, and the stream is STOPPED (R96, R322). -/
def State.abortHead (s : State) (k st : Nat) : State :=
  let x := (s.core k).strm0
  let fault (op seq : Nat) : W64 := setFld (setFld (setFld 0 0 32 seq) 32 8 op) 40 8 st
  match x.state, x.queue with
  | .flushing, _ => s
  | .run, q :: rest =>
    (s.modCore k (fun c => { c with strm0 := { x with queue := rest, state := .stopped, fault := fault q.cmd.opcode q.seq } })).coreEvent k
      0x02 0 st 0
  | .run, [] => (s.modCore k (fun c => { c with strm0 := { x with state := .stopped, fault := fault 0 0 } })).coreEvent k 0x02 0 st 0
  | .stopped, q :: rest =>
    if s.waitMet k q.cmd && s.condMet k 0 q.cmd then s
    else s.modCore k (fun c => { c with strm0 := { x with queue := rest,
                                                          fault := setFld x.fault 48 16 (satAdd 16 (fld x.fault 48 16) 1) } })
  | .stopped, [] => s

/-- One issued command of an aborted collective ends with the abort's status; what it has rounded is counted unless that has been done. -/
def State.abortCmd (s : State) (k st : Nat) (e : Issued) : State :=
  let s := s.dropRecv k e st
  (match e.phase with
    | .done _ => s
    | _ => s.tallyUp k e st).complete k e.ord st

/-- ABORT_WINDOW_EXPIRY (R322): every command of the collective completes with the status that ranks first, a WAIT that holds the stream's
head among them; the stream stops, and the collective is closed. Packets of it are dropped until the next CBEGIN. -/
def execAbortWindowExpiry (seq : Nat) (s : State) : Host.Outcome State Fault Refusal :=
  .next (if !s.clk.on then s else
    let c := s.coll seq
    match c.isOpen, c.abort with
    | true, some st =>
      let k := seqCore seq
      let s := ((s.core k).issued.foldl (fun s e => s.abortCmd k st e) s).abortHead k st
      ((s.setColl seq { c with isOpen := false }).collStatus seq 0 c.id).setF (R.XPORT_COLL_STATUS seq) F.XPORT_COLL_STATUS_STATUS st
    | _, _ => s)

end Sys2Proof.Machine
end

