-- ==== Sys2Proof/Machine/Reset.lean ====
section
/-! DEFINITION. Stopping and resetting cells (R39, R40, R416), and the two kinds of restart (R444, R446). -/

namespace Sys2Proof.Machine

open Sys2Proof

/-! ## Cells -/

/-- Every command that a core has issued and that is not complete ends with a status, a RECV giving up its buffer (R40, R117). -/
def State.endAll (s : State) (k st : Nat) : State :=
  (s.core k).issued.foldl (fun s e => (s.dropRecv k e st).complete k e.ord st) s

/-- The line accesses that wait and of which `p` holds end with a status: none of them has been served. -/
def State.endAccesses (s : State) (p : WaitAcc → Bool) (st : Nat) : State :=
  if s.mem.waiting.any p then
    { s with mem := { s.mem with waiting := s.mem.waiting.filter (fun w => !p w) } }.answer st
  else s

/-- A core is stopped at once (R40, R416): it halts, what it has issued and its line accesses that wait end ABORTED, and what it has queued
is gone. -/
def State.stopCore (s : State) (k : Nat) : State :=
  let s := (((s.haltCore k).endAll k St.aborted).forget k).endAccesses (fun w => w.who = .core k) St.aborted
  s.modCore k (fun c =>
    ({ c with strm0 := { c.strm0 with queue := [] }, strm1 := { c.strm1 with queue := [] } }).settle (s.ck k))

/-- Present cells of a ward (R414). -/
def State.wardCells (s : State) (w : Nat) : List Nat := (List.range 128).filter (fun k => s.wardOfCore k = some w)

/-- SEC_WARD_STATE.CELLS of every ward (R414, R442). -/
def State.countCells (s : State) : State :=
  (List.range 8).foldl (fun s w => s.setF (R.SEC_WARD_STATE w) F.SEC_WARD_STATE_CELLS (s.wardCells w).length) s

/-- A logical cell becomes absent because its physical cell failed (R40). -/
def State.loseCell (s : State) (k : Nat) : State :=
  let s := s.stopCore k
  let f := s.rf (R.HALF_CELL_ABSENT (k / 64)) F.HALF_CELL_ABSENT_ABSENT
  let s := (s.setF (R.HALF_CELL_ABSENT (k / 64)) F.HALF_CELL_ABSENT_ABSENT (Nat.lor f (2 ^ (k % 64)))).countCells
  s.raise (ev (halfCode 0x0110 (k / 64)) 0 k 2)

/-- A physical cell is marked faulty (R37, R40). Before stage 1 no logical cell runs yet: R459 adjusts the map (R445). -/
def State.failCell (s : State) (h r p : Nat) : State :=
  if s.faulty h r p then s
  else
    let s := s.markFaulty h r p
    if s.rf R.MGMT_STAGE F.MGMT_STAGE_STAGE = 0 then s
    else match s.logicalOn h r p with
    | some k => if s.absent k then s else s.loseCell k
    | none => s

/-- CELL_CHECK_FAIL (R37, R40). -/
def execCellCheckFail (half row col : Nat) (s : State) : Host.Outcome State Fault Refusal := .next (s.failCell half row col)

/-- Whether more than 16 events have arisen on a physical cell within a second (R77): the last 17 of them. -/
def State.parityRate (s : State) (h r p : Nat) : Bool :=
  let l := mget [] s.clk.parity (h * 72 + r * 9 + p)
  decide (17 ≤ l.length) && decide ((l[0]?).getD 0 - (l[16]?).getD 0 ≤ 1800000000)

/-- PARITY_RATE_LIMIT (R40, R77). -/
def execParityRateLimit (half row col : Nat) (s : State) : Host.Outcome State Fault Refusal :=
  .next (if s.parityRate half row col then s.failCell half row col else s)

/-! ## The reference (R30) -/

/-- REF_LOCK_LOST (R30): the PLL holds its frequency. -/
def execRefLockLost (s : State) : Host.Outcome State Fault Refusal := .next { s with clk := { s.clk with lock := false } }

/-- Registers that a warm restart keeps (R446): firmware and NAND state, the tag's, the host link, and DEBUG until the next cold
start (R523). -/
def warmKept (a : Nat) : Bool :=
  (decide (R.MGMT_FW_STATUS ≤ a ∧ a ≤ R.MGMT_FW_OPSTATUS)) || a ∈ [R.CFG_PERSIST, R.CFG_NAND_STATUS, R.CFG_NAND_ECC, R.TAG_STATUS, R.TAG_DATA,
    R.HOST_LINK_STATUS, R.EVT_NAND_POS]

/-- The module restarts from stage 1 (R446): everything that the module controller does not keep is as after power-up. -/
def State.warmRestart (s : State) : State :=
  let debug := s.rf R.SEC_STATUS F.SEC_STATUS_DEBUG
  let t : State := { State.reset with
    pending := s.pending, now := s.now, free := s.free, rnd := s.rnd, resp := s.resp
    regs := s.regs.filter (fun e => warmKept e.1)
    clk := { State.reset.clk with coldStart := s.clk.coldStart, restartAt := s.now }
    evt := { s.evt with holdOff := [], returned := [], hcDown := [] }
    mem := { State.reset.mem with host := s.mem.host, hostCfg := s.mem.hostCfg, cfgSpace := s.mem.cfgSpace }
    sup := s.sup, jtag := s.jtag, nv := s.nv
    mgt := { State.reset.mgt with
      stageFrom := s.now, nandOps := s.mgt.nandOps, writing := s.mgt.writing, digestAt := s.mgt.digestAt, digestDue := s.mgt.digestDue
      recSlot := s.mgt.recSlot, recSeq := s.mgt.recSeq, recCause := s.mgt.recCause, recAt := s.mgt.recAt, tagLock := s.mgt.tagLock
      tagHeld := s.mgt.tagHeld, tagOp := s.mgt.tagOp, fwOp := s.mgt.fwOp, boot := s.mgt.boot, commitDue := s.mgt.commitDue
      wakeHeld := s.mgt.wakeHeld
      mboxDue := s.mgt.mboxDue, fallback := s.mgt.fallback, live := s.mgt.live }
    sec := { State.reset.sec with nextKey := s.sec.nextKey } }
  (t.setF R.SEC_STATUS F.SEC_STATUS_DEBUG debug).setF R.MGMT_STAGE F.MGMT_STAGE_WARM 1

/-- REF_LOCK_REGAINED (R30): within the holdover nothing is affected; after it a warm restart. -/
def execRefLockRegained (s : State) : Host.Outcome State Fault Refusal :=
  .next (
    if s.clk.lock then s
    else if s.clk.lost then s.warmRestart
    else { s with clk := { s.clk with lock := true } })

/-- HINGE_SUBLINK_DOWN (R18, R491): packets are replayed on the other sublinks, or cross through a neighbour column; both halves see
it. The event names the half whose controller leads the sublink map. -/
def execHingeSublinkDown (sublink : Nat) (s : State) : Host.Outcome State Fault Refusal :=
  .next (
    if nmem s.clk.sublinks sublink then s
    else
      let s := { s with clk := { s.clk with sublinks := nput s.clk.sublinks sublink true } }
      let n := s.clk.sublinks.length
      let s := (s.setF (R.HALF_LEAD_COUNT 0) F.HALF_LEAD_COUNT_SUBLINKS_DOWN n).setF (R.HALF_LEAD_COUNT 1) F.HALF_LEAD_COUNT_SUBLINKS_DOWN n
      let h := if s.leads 0 then 0 else if s.leads 1 then 1 else 0
      s.raise { ev (halfCode 0x0124 h) 1 h 1 with source2 := sublink })

/-! ## Cold starts (R444) -/

/-- A cold start begins: what outlives the power stays, and everything else is as after power-up reset. The input and EN are what
they are. -/
def State.coldStart (s : State) : State :=
  { State.reset with
    pending := s.pending, now := s.now, free := s.free, rnd := s.rnd, resp := s.resp
    clk := { State.reset.clk with coldStart := s.now, restartAt := s.now }
    evt := { State.reset.evt with pages := s.evt.pages, pageSeq := s.evt.pageSeq, pagePos := s.evt.pagePos }
    mem := { State.reset.mem with host := s.mem.host }
    sup := { s.sup with inRange := true, standby := true, bootDue := false, auto := false, retryDue := false, retried := false, l12 := false, notBefore := 0 }
    nv := { s.nv with starts := s.nv.starts + 1 }
    mgt := { State.reset.mgt with
      stageFrom := s.now, recSlot := s.mgt.recSlot, recSeq := s.mgt.recSeq, recCause := s.mgt.recCause, recAt := s.mgt.recAt
      mboxDue := s.mgt.mboxDue, digestAt := s.mgt.digestAt }
    sec := { State.reset.sec with nextKey := s.sec.nextKey } }

end Sys2Proof.Machine
end

