-- ==== Sys2Proof/Machine/SecOps.lean ====
section
/-! DEFINITION. What the SEC block does to a ward's state (chapter 13): states (R416), keys (R417, R418), slices (R415), the stopping
of a ward (R416, R438), unseal jobs (R432, R433), and what release and its power gating leave (R438, R439). -/

namespace Sys2Proof.Machine

open Sys2Proof

/-- Changes the SEC block's state. -/
def State.modSec (s : State) (f : Sec → Sec) : State := { s with sec := f s.sec }

/-- What a ward holds. -/
def State.ward (s : State) (w : Nat) : Ward := mget {} s.sec.wards w

/-- Replaces what a ward holds. -/
def State.setWard (s : State) (w : Nat) (x : Ward) : State := s.modSec (fun c => { c with wards := mset {} c.wards w x })

/-- The random source is healthy (R417). -/
def State.rngOk (s : State) : Bool := s.rf R.SEC_STATUS F.SEC_STATUS_RNG_OK = 1

/-- The module is a blank (R420). -/
def State.isBlank (s : State) : Bool := s.rf R.SEC_STATUS F.SEC_STATUS_BLANK = 1

/-- The boundary-scan port is unlocked (R430). -/
def State.debugOn (s : State) : Bool := s.rf R.SEC_STATUS F.SEC_STATUS_DEBUG = 1

/-- STATE of a ward, with its LOCKED bit in SEC_STATUS (R442). -/
def State.setWardState (s : State) (w n : Nat) : State :=
  let l := s.rf R.SEC_STATUS F.SEC_STATUS_LOCKED
  let l := if n = 2 then Nat.lor l (2 ^ w) else Nat.land l (255 - 2 ^ w)
  (s.setF (R.SEC_WARD_STATE w) F.SEC_WARD_STATE_STATE n).setF R.SEC_STATUS F.SEC_STATUS_LOCKED l

/-- A SEC event; its record names the ward (R443). -/
def State.wardEvent (s : State) (low cls w : Nat) : State := s.raise { ev (0x3000 + low) cls w 5 with ward := w }

/-- The module controller answers requests: its domain is up and it runs (R468, R519). -/
def State.mcUp (s : State) : Bool := s.sup.standby && !s.evt.mcDown

/-- Cores of a ward: its present cells, its engines and its sequencers. -/
def State.wardCores (s : State) (w : Nat) : List Nat := (List.range 168).filter (fun k => s.wardOfCore k = some w)

/-! ## Slices (R415) -/

/-- Slices whose owner is ward `w`, lowest first. -/
def State.slicesOf (s : State) (w : Nat) : List Nat :=
  (s.mem.regions.filter (fun e => decide (e.1 < 65536) && e.1 % 4 = 0 && e.2.owner = w)).map (fun e => e.1 / 4)

/-- SEC_WARD_STATE.SLICES of every ward. -/
def State.countSlices (s : State) : State :=
  (List.range 8).foldl (fun s w => s.setF (R.SEC_WARD_STATE w) F.SEC_WARD_STATE_SLICES (s.slicesOf w).length) s

/-- Slices are reset to UNSET, as R237 resets a region, and get an owner (R238, R415). -/
def State.giveSlices (s : State) (l : List Nat) (owner : Nat) : State :=
  let keys := (l.map sliceRegions).flatten
  ((l.foldl (fun s n => s.setSliceOwner n owner) (s.endClearings keys)).readmit keys).countSlices

/-! ## Queues -/

/-- Queues whose context may differ from zero: in the cache, or with a byte listed in the state area's memory. -/
def State.listedQueues (s : State) : List Nat :=
  let base := s.rf R.XPORT_STATE_BASE F.XPORT_STATE_BASE_BASE
  let at_ (a : Nat) : List Nat := if base ≤ a ∧ a < base + 2 ^ 26 then [(a - base) / 64] else []
  ((s.xport.ctxCache.map (·.1)) ++ (s.mem.hbm.map (fun c => at_ c.1)).flatten ++ (s.mem.cache.map (fun c => at_ (c.1 * 64))).flatten).dedup

/-- What a queue has in flight ends ABORTED: its messages, those that wait, and its posted buffers. -/
def State.endQueue (s : State) (q : Nat) : State :=
  let s := (s.xport.msgs.filter (fun m => m.queue = q && m.kind ≠ 7)).foldl (fun s m => s.finishMsg m St.aborted) s
  let l := s.xport.waitMsgs.filter (fun m => m.queue = q)
  let s := s.modX (fun x => { x with waitMsgs := x.waitMsgs.filter (fun m => m.queue ≠ q) })
  let s := l.foldl (fun s m => s.deliverDone m St.aborted) s
  let bufs := mget [] s.xport.posted q ++ (s.xport.asm.filter (fun e => e.2.queue = q)).filterMap (fun e => e.2.buf)
  let s := s.modX (fun x => { x with
    posted := mset [] x.posted q []
    asm := x.asm.map (fun e => if e.2.queue = q then (e.1, { e.2 with buf := none, st := St.aborted }) else e) })
  bufs.foldl (fun s b => match b.origin with
    | .desc tag op cq sig => s.queueDone q { status := St.aborted, op := op, tag := tag, bytes := 0, src := 0, cq := cq, sig := sig }
    | _ => s) s

/-- A queue is disabled, and what it has in flight ends ABORTED (R373, R416, R438). -/
def State.killQueue (s : State) (q : Nat) : State :=
  let s := (s.ctxLoad q).1
  (s.ctxPut q { s.ctx q with w0 := setFld (s.ctx q).w0 11 1 0 }).endQueue q

/-- Every enabled queue with a property is disabled. -/
def State.killQueues (s : State) (p : Nat → Ctx → Bool) : State :=
  s.listedQueues.foldl (fun s q =>
    let t := (s.ctxLoad q).1
    if (t.ctx q).enable && p q (t.ctx q) then t.killQueue q else s) s

/-! ## The unseal engine's contexts (R432 to R434) -/

/-- An unseal context. -/
def State.uctx (s : State) (c : Nat) : UCtx := mget {} s.sec.uctx c

/-- Replaces one. -/
def State.setUctx (s : State) (c : Nat) (x : UCtx) : State := s.modSec (fun y => { y with uctx := mset {} y.uctx c x })

/-- Whether UNSEAL_RING has bound a context: every ring has a RING_LOG2 of 2 or more. -/
def State.bound (s : State) (c : Nat) : Bool := decide (2 ≤ s.rf (R.SEC_UNS_RING c) F.SEC_UNS_RING_RING_LOG2)

/-- Ward of a bound context. -/
def State.uctxWard (s : State) (c : Nat) : Nat := s.rf (R.SEC_UNS_CTL c) F.SEC_UNS_CTL_WARD

/-- Contexts bound to a ward. -/
def State.uctxsOf (s : State) (w : Nat) : List Nat := (List.range 64).filter (fun c => s.bound c && s.uctxWard c = w)

/-- Ring header of a context. -/
def State.uringBase (s : State) (c : Nat) : Nat := s.rf (R.SEC_UNS_RING c) F.SEC_UNS_RING_BASE

/-- Descriptors in a context's ring. -/
def State.uringSize (s : State) (c : Nat) : Nat := 2 ^ s.rf (R.SEC_UNS_RING c) F.SEC_UNS_RING_RING_LOG2

/-- The descriptor at a count. -/
def State.udescAddr (s : State) (c n : Nat) : Nat := s.uringBase c + 64 + 64 * (n % s.uringSize c)

/-- Word `i` of a job's descriptor. -/
def UJob.w (j : UJob) (i : Nat) : W64 := (j.words[i]?).getD 0

/-- LENGTH of a job. -/
def UJob.len (j : UJob) : Nat := fld (j.w 4) 0 36

/-- Bytes in a segment. -/
def segBytes : Nat := 2 ^ 20

/-- A job completes (R433): word 7 with STATUS and SEGS_DONE, then CONS, then the ring's signal. -/
def State.endJob (s : State) (c : Nat) (j : UJob) (st segs : Nat) : State :=
  let x := s.uctx c
  let a := s.udescAddr c j.index
  let w7 := setFld (setFld (j.w 7) 0 8 st) 8 32 segs
  let s := (s.devWrite (a + 56) 0 (leBytes 8 w7.toNat)).1
  let cons := (x.cons + 1) % 2 ^ 32
  let s := (s.devWrite (s.uringBase c + 4) 0 (leBytes 4 cons)).1
  let s := (s.setUctx c { x with cons := cons, job := none, abort := false }).setF (R.SEC_UNS_CTL c) F.SEC_UNS_CTL_BUSY 0
  if bitAt (j.w 0).toNat 14 then
    let ctl := R.SEC_UNS_CTL c
    s.wardSignal (s.uctxWard c) (s.rf ctl F.SEC_UNS_CTL_SIG_TKIND) (s.rf ctl F.SEC_UNS_CTL_SIG_TARGET) (s.rf ctl F.SEC_UNS_CTL_SIG_CTR)
      (s.rf ctl F.SEC_UNS_CTL_SIG_ALLWARD = 1)
  else s

/-- Segments of a job that are whole at `moved` bytes. -/
def UJob.segs (j : UJob) : Nat := if j.moved = j.len then ceilDiv j.moved segBytes else j.moved / segBytes

/-- The job in progress, if any, ends ABORTED. -/
def State.abortJob (s : State) (c : Nat) : State :=
  match (s.uctx c).job with
  | some j => s.endJob c j St.aborted j.segs
  | none => s

/-- The job in progress ends ABORTED at the next chunk boundary (R432, R434). -/
def State.markAbort (s : State) (c : Nat) : State := s.setUctx c { s.uctx c with abort := (s.uctx c).job.isSome }

/-! ## Stopping, faulting and releasing a ward -/

/-- A ward stops (R416, R438): its cores' commands end ABORTED, its unseal jobs end ABORTED at the next chunk boundary, and its queues
are disabled. -/
def State.stopWard (s : State) (w : Nat) : State :=
  let s := (s.wardCores w).foldl (fun s k => s.stopCore k) s
  let s := (s.uctxsOf w).foldl (fun s c => s.markAbort c) s
  s.killQueues (fun q c => c.ward = w && s.wardOfQueue q = some w)

/-- A ward enters FAULT (R416). -/
def State.faultWard (s : State) (w : Nat) : State := ((s.stopWard w).setWardState w 3).wardEvent 0x04 0 w

/-- A measured item changes, or the boundary-scan port is unlocked, which index 4 of R422 measures: every OPEN or LOCKED ward enters
FAULT (R416, R430). -/
def State.faultWards (s : State) : State :=
  (List.range 8).foldl (fun s w => if s.wardState w = 1 || s.wardState w = 2 then s.faultWard w else s) s

/-- Key slots, link entries and unseal contexts of a ward are zeroed, and its keys destroyed (R418, R438). -/
def State.dropKeys (s : State) (w : Nat) : State :=
  let s := (List.range 64).foldl (fun s k =>
    if s.rf (R.SEC_KEYSLOT k) F.SEC_KEYSLOT_VALID = 1 && s.rf (R.SEC_KEYSLOT k) F.SEC_KEYSLOT_WARD = w then
      (s.setReg (R.SEC_KEYSLOT k) 0).modSec (fun c => { c with weightKeys := merase k c.weightKeys })
    else s) s
  let s := (List.range 256).foldl (fun s j =>
    if s.linkValid j && s.rf (R.SEC_LINK j) F.SEC_LINK_WARD = w then
      ((s.setReg (R.SEC_LINK j) 0).modSec (fun c => { c with linkKeys := merase j c.linkKeys })).modX (fun x =>
        { x with linkAt := x.linkAt.filter (fun e => e.1 ≠ j) })
    else s) s
  let s := (s.uctxsOf w).foldl (fun s c =>
    ((s.setReg (R.SEC_UNS_RING c) 0).setReg (R.SEC_UNS_CTL c) 0).setUctx c {}) s
  s.setWard w { s.ward w with keys := 0, nonce := [], session := 0, policy := [] }

/-- The ward's registrations go, and its lines leave the device cache (R306, R438). -/
def State.dropRegions (s : State) (w : Nat) : State :=
  let mine := s.xport.regions.filterMap (fun e => match e.2 with
    | some r => if r.ward = w then some r else none
    | none => none)
  let s := s.modX (fun x => { x with regions := x.regions.filter (fun e => match e.2 with
    | some r => r.ward ≠ w
    | none => true) })
  let inside (line : Nat) : Bool := mine.any (fun r => decide (r.base ≤ line * 64 ∧ line * 64 < r.base + r.len))
  { s with mem := { s.mem with dcache := s.mem.dcache.filter (fun e => !inside e.1) } }

/-- The steps of R438 up to the power gating. -/
def State.releaseWard (s : State) (w : Nat) : State :=
  let s := (s.setWardState w 4).stopWard w
  let s := (s.uctxsOf w).foldl (fun s c => s.abortJob c) s
  let s := s.dropKeys w
  let s := ((s.wardCores w).filter (fun k => !isCell k)).foldl (fun s k => s.zeroCore k) s
  let s := (s.dropRegions w).giveSlices (s.slicesOf w) 15
  s.setWard w { s.ward w with gating := true, gated := s.rf (R.SEC_WARD_RES w) F.SEC_WARD_RES_GROUPS }

/-- Ward totals (R155) and port ward counters (R353) of a ward are zeroed. -/
def State.zeroTotals (s : State) (w : Nat) : State :=
  let s := (List.range 10).foldl (fun s f => (List.range 4).foldl (fun s c => s.setReg (R.MGMT_FH_W w f c) 0) s) s
  (List.range 16).foldl (fun s p => (List.range 4).foldl (fun s i => s.setReg (R.PORT_WARD_COUNTER p w i) 0) s) s

/-- The gating is verified (R438, R439): the cells' on-chip state is gone, the totals are zero, and the ward is FREE. -/
def State.freeWard (s : State) (w : Nat) : State :=
  let s := (s.wardCells w).foldl (fun s k => s.resetCell k) s
  let s := ((s.zeroTotals w).setReg (R.SEC_WARD_RES w) 0).setReg (R.SEC_WARD_ENG w) 0
  let s := ((s.setWard w {}).setWardState w 0).countCells
  s.wardEvent 0x03 1 w

end Sys2Proof.Machine
end

