-- ==== Sys2Proof/Machine/Spdm.lean ====
section
/-! DEFINITION. The SPDM responder (R419 to R422) and the boundary-scan port (R430, R522, R523). Response codes, error codes and the
bytes of a response are the cited standard's (log entry 24): the answer's value is the code, and `Config.spdmBytes` stands for the
layout. -/

namespace Sys2Proof.Machine

open Sys2Proof

/-- An SPDM response. -/
def State.spdm (s : State) (code : Nat) (parts : List (List Byte)) : State :=
  s.answer St.ok (BitVec.ofNat 64 code) (Config.spdmBytes code parts)

/-- An SPDM error response: ERROR with its error code above it. -/
def State.spdmError (s : State) (err : Nat) : State :=
  s.answer St.ok (BitVec.ofNat 64 (0x7F + err * 256)) (Config.spdmBytes 0x7F [leBytes 1 err])

/-- An SPDM request reaches the module controller, or nobody (R421); before stage 1 and while that controller restarts the answer is
ResponseNotReady (R444, R468). -/
def State.spdmDo (s : State) (f : State → State) : State :=
  if !s.sup.standby then s
  else if s.evt.mcDown || s.rf R.MGMT_STAGE F.MGMT_STAGE_STAGE = 0 then s.spdmError 0x42
  else f s

/-- A request that follows the negotiation of algorithms: before it UnexpectedRequest. -/
def State.spdmAfter (s : State) (f : State → State) : State :=
  s.spdmDo (fun s => if s.sec.negotiated then f s else s.spdmError 0x04)

/-- A digest signed with a key, under a number of six draws (R417). -/
def State.signed (s : State) (key : Nat) (digest : List Byte) : List Byte := ecdsaSign key digest (leNat (s.randomBytes 6))

/-- A response signed with the alias key of this start (R419). -/
def State.spdmSigned (s : State) (code : Nat) (parts : List (List Byte)) : State :=
  (s.drawn 6).spdm code (parts ++ [s.signed s.sec.alias_ (sha384 (Config.spdmBytes code parts))])

/-- GET_VERSION: a new connection; versions 1.2 and 1.3 (R421). -/
def execSpdmGetVersion (s : State) : Host.Outcome State Fault Refusal :=
  .next (s.spdmDo (fun s => (s.modSec (fun x => { x with negotiated := false })).spdm 0x04 [[0x12, 0x13]]))

/-- GET_CAPABILITIES. -/
def execSpdmGetCapabilities (req : SpdmReq) (s : State) : Host.Outcome State Fault Refusal := .next (s.spdmDo (fun s => s.spdm 0x61 [req.nonce]))

/-- NEGOTIATE_ALGORITHMS: the module offers one suite (R421). -/
def execSpdmNegotiateAlgorithms (req : SpdmReq) (s : State) : Host.Outcome State Fault Refusal :=
  .next (s.spdmDo (fun s => (s.modSec (fun x => { x with negotiated := true })).spdm 0x63 [req.nonce]))

/-- The certificate chain of slot 0 (R419): the stored chain and the alias certificate. -/
def State.chain (s : State) : List Byte := Config.certChain ++ s.sec.aliasCert

/-- GET_DIGESTS. -/
def execSpdmGetDigests (s : State) : Host.Outcome State Fault Refusal :=
  .next (s.spdmAfter (fun s => s.spdm 0x01 [sha384 s.chain]))

/-- A request that a blank does not support, for slot 0 alone (R420, R421). -/
def State.spdmIdentity (s : State) (slot : Nat) (f : State → State) : State :=
  s.spdmAfter (fun s => if s.isBlank then s.spdmError 0x07 else if slot ≠ 0 then s.spdmError 0x01 else f s)

/-- GET_CERTIFICATE. -/
def execSpdmGetCertificate (slot offset length : Nat) (s : State) : Host.Outcome State Fault Refusal :=
  .next (s.spdmIdentity slot (fun s => s.spdm 0x02 [slice s.chain offset length]))

/-! ## Measurements (R422) -/

/-- The image that runs, as its header describes it. -/
def State.runImage (s : State) : Option Image := if s.rf R.MGMT_FW_STATUS F.MGMT_FW_STATUS_RUN_SLOT = 0 then s.nv.image0 else s.nv.image1

/-- The ward record in raw form. -/
def State.wardRecord (s : State) (w : Nat) : List Byte :=
  let x := s.ward w
  let slots := (List.range 64).filter (fun k =>
    s.rf (R.SEC_KEYSLOT k) F.SEC_KEYSLOT_VALID = 1 && s.rf (R.SEC_KEYSLOT k) F.SEC_KEYSLOT_WARD = w)
  Config.measured [[s.wardState w], s.wardCells w, [(s.reg (R.SEC_WARD_RES w)).toNat], [(s.reg (R.SEC_WARD_ENG w)).toNat],
      s.slicesOf w, [(s.reg (R.SEC_WARD_SEQ w)).toNat], slots]
    [x.nonce, if x.session = 0 then [] else p384Public (Config.privateKey x.session), if x.policy.isEmpty then [] else sha384 x.policy]

/-- A measurement block: its digest, and for a ward record its raw form; none for an index that names no block. -/
def State.measurement (s : State) (i : Nat) (raw : Bool) : Option (List Byte) :=
  if i = 1 then some (leBytes 48 (Config.factory 6 0))
  else if i = 2 then some ((s.runImage.map (·.mcDigest)).getD [])
  else if i = 3 then some ((s.runImage.map (·.hcDigest)).getD [])
  else if i = 4 then
    some (sha384 (Config.measured [[(s.reg R.HOST_CS_ALLOW_LO).toNat], [(s.reg R.HOST_CS_ALLOW_HI).toNat], [b2n s.debugOn]] []))
  else if 0x10 ≤ i ∧ i ≤ 0x17 then some (if raw then s.wardRecord (i - 0x10) else sha384 (s.wardRecord (i - 0x10)))
  else none

/-- Every block that GET_MEASUREMENTS returns for an index: 0 asks for their number, 0xFF for all of them. -/
def State.blocks (s : State) (i : Nat) (raw : Bool) : Option (List (List Byte)) :=
  if i = 0 then some [[12]]
  else if i = 0xFF then some (([1, 2, 3, 4] ++ (List.range 8).map (0x10 + ·)).filterMap (fun j => s.measurement j raw))
  else (s.measurement i raw).map (fun b => [b])

/-- GET_MEASUREMENTS: a blank answers without a signature (R420). -/
def execSpdmGetMeasurements (index : Nat) (sig raw : Bool) (req : SpdmReq) (s : State) : Host.Outcome State Fault Refusal :=
  .next (s.spdmAfter (fun s =>
    match s.blocks index raw with
    | none => s.spdmError 0x01
    | some l =>
      let nonce := s.randomBytes 4
      let s := s.drawn 4
      if sig && !s.isBlank then s.spdmSigned 0x60 (l ++ [nonce, req.nonce]) else s.spdm 0x60 (l ++ [nonce])))

/-- CHALLENGE. -/
def execSpdmChallenge (slot : Nat) (req : SpdmReq) (s : State) : Host.Outcome State Fault Refusal :=
  .next (s.spdmIdentity slot (fun s =>
    let nonce := s.randomBytes 4
    let s := s.drawn 4
    s.spdmSigned 0x03 [sha384 s.chain, nonce, req.nonce]))

/-! ## Sessions: up to four (R421) -/

/-- A session. -/
def State.session (s : State) (id : Nat) : Option Session := s.sec.sessions.find? (fun x => x.id = id)

/-- KEY_EXCHANGE: a session opens; a fifth is refused with SessionLimitExceeded. It needs a fresh key: while the random source is not
healthy it is KEY_DENIED (R417), in an ERROR response Unspecified. -/
def execSpdmKeyExchange (slot session : Nat) (req : SpdmReq) (s : State) : Host.Outcome State Fault Refusal :=
  .next (s.spdmIdentity slot (fun s =>
    if 4 ≤ s.sec.sessions.length then s.spdmError 0x0A
    else if (s.session session).isSome then s.spdmError 0x01
    else if !s.rngOk then s.answer St.keyDenied (BitVec.ofNat 64 0x057F) (Config.spdmBytes 0x7F [leBytes 1 0x05])
    else
      let h := s.sec.nextKey
      let nonce := s.randomBytes 4
      let s := (s.drawn 4).modSec (fun x => { x with nextKey := h + 1, sessions := x.sessions ++ [{ id := session, finished := false }] })
      s.spdmSigned 0x64 [nonce, p384Public (Config.privateKey h), req.nonce]))

/-- Changes a session, or InvalidSession where there is none. -/
def State.inSession (s : State) (id : Nat) (f : State → Session → State) : State :=
  s.spdmAfter (fun s => match s.session id with
    | some x => f s x
    | none => s.spdmError 0x02)

/-- Replaces a session. -/
def State.putSession (s : State) (x : Session) : State :=
  s.modSec (fun c => { c with sessions := c.sessions.map (fun y => if y.id = x.id then x else y) })

/-- Ends a session. -/
def State.dropSession (s : State) (id : Nat) : State := s.modSec (fun c => { c with sessions := c.sessions.filter (fun y => y.id ≠ id) })

/-- FINISH: the handshake completes, or with a MAC that does not verify ends the session with DecryptError. -/
def execSpdmFinish (session : Nat) (macOk : Bool) (s : State) : Host.Outcome State Fault Refusal :=
  .next (s.inSession session (fun s x =>
    if macOk then (s.putSession { x with finished := true }).spdm 0x65 [] else (s.dropSession session).spdmError 0x06))

/-- HEARTBEAT. -/
def execSpdmHeartbeat (session : Nat) (s : State) : Host.Outcome State Fault Refusal :=
  .next (s.inSession session (fun s x => if x.finished then s.spdm 0x68 [] else s.spdmError 0x04))

/-- KEY_UPDATE: new session keys; operation 3 verifies them. -/
def execSpdmKeyUpdate (session op : Nat) (s : State) : Host.Outcome State Fault Refusal :=
  .next (s.inSession session (fun s x =>
    if !x.finished then s.spdmError 0x04
    else if op = 1 ∨ op = 2 then (s.putSession { x with keyGen := x.keyGen + 1 }).spdm 0x69 [leBytes 1 op]
    else if op = 3 then s.spdm 0x69 [leBytes 1 op]
    else s.spdmError 0x01))

/-- END_SESSION. -/
def execSpdmEndSession (session : Nat) (s : State) : Host.Outcome State Fault Refusal :=
  .next (s.inSession session (fun s _ => (s.dropSession session).spdm 0x6C []))

/-! ## The boundary-scan port (R522, R523) -/

/-- Any ward is LOCKED. -/
def State.anyLocked (s : State) : Bool := (List.range 8).any s.locked

/-- Selects an instruction; while a ward is LOCKED some codes select BYPASS (R430, R522). -/
def State.jtagSelect (s : State) (code : Nat) (open_ : Bool) : State :=
  { s with jtag := { s.jtag with ir := if open_ || !s.anyLocked then code else 0xFF } }

/-- BYPASS. -/
def execJtagBypass (s : State) : Host.Outcome State Fault Refusal := .next (s.jtagSelect 0xFF true)

/-- IDCODE. -/
def execJtagIdcode (s : State) : Host.Outcome State Fault Refusal :=
  .next ((s.jtagSelect 0x01 true).answer St.ok 0x101286B7)

/-- SAMPLE/PRELOAD: the boundary register takes its new contents; what it sampled of the pins is free. -/
def execJtagSamplePreload (preload : List Bool) (s : State) : Host.Outcome State Fault Refusal :=
  .next (
    let t := { s.jtagSelect 0x02 true with jtag := { ir := 0x02, cells := preload } }
    (t.drew (ceilDiv preload.length 64)).answer St.ok 0 (s.freeBytes (ceilDiv preload.length 8)))

/-- EXTEST: the boundary register drives the row B outputs. -/
def execJtagExtest (s : State) : Host.Outcome State Fault Refusal := .next (s.jtagSelect 0x00 true)

/-- CLAMP. -/
def execJtagClamp (s : State) : Host.Outcome State Fault Refusal := .next (s.jtagSelect 0x05 false)

/-- HIGHZ. -/
def execJtagHighz (s : State) : Host.Outcome State Fault Refusal := .next (s.jtagSelect 0x06 false)

/-- The Kenaris debug key (R523). -/
def debugKey : List Byte := leBytes 97 (Config.factory 7 0)

/-- The 48-byte challenge that the next UNLOCK gives. -/
def State.challenge (s : State) : List Byte := s.randomBytes 6

/-- UNLOCK: a response that verifies sets DEBUG until the next cold start, and OPEN wards enter FAULT (R416, R430; with a LOCKED ward the port does not take UNLOCK). -/
def execJtagUnlock (response : List Byte) (s : State) : Host.Outcome State Fault Refusal :=
  .next (
    let t := (s.jtagSelect 0x80 false).drawn 6
    if s.anyLocked then s.jtagSelect 0x80 false
    else if ecdsaVerify debugKey s.challenge response then
      ((t.setF R.SEC_STATUS F.SEC_STATUS_DEBUG 1).faultWards).answer St.ok 0 s.challenge
    else t.answer St.ok 0 s.challenge)

end Sys2Proof.Machine
end

