-- ==== Sys2Proof/Machine/Sec.lean ====
section
/-! DEFINITION. The ward requests (R413 to R438), the power gating of a released ward (R439), the random source (R417), and the unseal
engine at work (R431 to R434). -/

namespace Sys2Proof.Machine

open Sys2Proof

/-- A ward request is an SPDM request (R423): it reaches the module controller, or nobody, and from stage 1 on it has its effect. -/
def State.request (s : State) (f : State → State) : State := s.spdmDo f

/-- A status that stands in the way, or the effect. -/
def State.unless (s : State) (st : Nat) (f : State → State) : State := if st = St.ok then f s else s.answer st

/-! ## WARD_OPEN (R413, R416) -/

/-- Whether another ward, or this one, already holds what a WARD_OPEN names. -/
def State.taken (s : State) (groups streams colls qbase qcount : Nat) : Bool :=
  (List.range 8).any (fun w => s.holds w &&
    (Nat.land (s.rf (R.SEC_WARD_RES w) F.SEC_WARD_RES_GROUPS) groups ≠ 0 ||
      Nat.land (s.rf (R.SEC_WARD_ENG w) F.SEC_WARD_ENG_STREAM) streams ≠ 0 ||
      Nat.land (s.rf (R.SEC_WARD_ENG w) F.SEC_WARD_ENG_COLL) colls ≠ 0 ||
      decide (0 < qcount ∧ 0 < s.rf (R.SEC_WARD_RES w) F.SEC_WARD_RES_QCOUNT ∧
        qbase < s.rf (R.SEC_WARD_RES w) F.SEC_WARD_RES_QBASE + s.rf (R.SEC_WARD_RES w) F.SEC_WARD_RES_QCOUNT ∧
        s.rf (R.SEC_WARD_RES w) F.SEC_WARD_RES_QBASE < qbase + qcount)))

/-- A ward opens: resources, keys, nonce, SEQ (R416, R418). -/
def State.openWard (s : State) (w groups streams colls qbase qcount : Nat) : State :=
  let res := R.SEC_WARD_RES w
  let s := s.setReg res (BitVec.ofNat 64 (groups % 256 + qbase % 256 * 2 ^ 8 + qcount % 512 * 2 ^ 16))
  let s := s.setReg (R.SEC_WARD_ENG w) (BitVec.ofNat 64 (streams % 2 ^ 32 + colls % 256 * 2 ^ 32))
  let h := s.sec.nextKey
  let nonce := s.randomBytes 4
  let s := (s.drawn 4).modSec (fun x => { x with nextKey := h + 2 })
  let s := s.setWard w { keys := h, session := h + 1, nonce := nonce }
  let s := ((s.setReg (R.SEC_WARD_SEQ w) 0).setWardState w 1).countCells
  (s.wardEvent 0x01 1 w).answer St.ok 0 (nonce ++ padTo 97 (p384Public (Config.privateKey (h + 1))))

/-- WARD_OPEN (R413, R416, R417). -/
def execWardOpen (ward groups streamMask collMask qbase qcount : Nat) (s : State) : Host.Outcome State Fault Refusal :=
  .next (s.request (fun s =>
    s.unless (worstOf [chk (decide (7 < ward)) St.bounds, chk (decide (ward ≤ 7) && s.wardState ward ≠ 0) St.wardFault,
        chk (s.taken groups streamMask collMask qbase qcount || decide (256 < qbase + qcount)) St.bounds, chk (!s.rngOk) St.keyDenied])
      (fun s => s.openWard ward groups streamMask collMask qbase qcount)))

/-! ## SLICE_ASSIGN (R415) -/

/-- Whether a slice holds a fixed block (R190, R415). -/
def State.sliceFixed (s : State) (n : Nat) : Bool :=
  s.xport.regions.any (fun e => match e.2 with
    | some r => decide (r.base < (n + 1) * 2 ^ 25 ∧ n * 2 ^ 25 < r.base + r.len)
    | none => false)

/-- The status of a SLICE_ASSIGN (R14, R415); of a range that runs past the last slice, the slices that exist are looked at. -/
def State.sliceChk (s : State) (first count target : Nat) : Nat :=
  let bad := decide (count = 0) || decide (16384 < first + count) || decide (7 < target ∧ target ≠ 0xFF)
  let l := ((List.range (min count 16384)).map (first + ·)).filter (fun n => decide (n < 16384))
  let owners := l.map s.sliceOwner
  worstOf [chk (bad || owners.any (fun o => o = 8 || o = 9) || l.any s.sliceFixed) St.bounds,
    chk (owners.any (fun o => decide (o < 8) && (s.wardState o = 2 || s.wardState o = 3)) ||
      (decide (target < 8) && (s.wardState target = 0 || s.wardState target = 4))) St.wardFault]

/-- LOCKED_REFUSED for each LOCKED ward from which slices would be taken (R429). -/
def State.slicesRefused (s : State) (first count : Nat) : State :=
  (List.range 8).foldl (fun s w =>
    if s.locked w && (s.slicesOf w).any (fun n => decide (first ≤ n ∧ n < first + count)) then s.lockedRefused w else s) s

/-- SLICE_ASSIGN (R415): the request's ward byte has no meaning for it. -/
def execSliceAssign (_wardByte first count target : Nat) (s : State) : Host.Outcome State Fault Refusal :=
  .next (s.request (fun s =>
    let st := s.sliceChk first count target
    if st = St.wardFault then (s.slicesRefused first count).answer st
    else s.unless st (fun s =>
      (s.giveSlices ((List.range count).map (first + ·)) (if target = 0xFF then 15 else target)).answer St.ok)))

/-! ## SET_POLICY (R416, R430, R432) -/

/-- SET_POLICY: the policy key is stored, the ward locks, and its unseal rings in the shared window are disabled. -/
def execSetPolicy (ward : Nat) (key : List Byte) (s : State) : Host.Outcome State Fault Refusal :=
  .next (s.request (fun s =>
    s.unless (worstOf [chk (decide (7 < ward) || decide (key.length < 97)) St.bounds, chk (decide (ward ≤ 7) && s.wardState ward ≠ 1) St.wardFault,
        chk (s.isBlank || s.debugOn) St.keyDenied]) (fun s =>
      let s := (s.setWard ward { s.ward ward with policy := key.take 97 }).setWardState ward 2
      let shared := (s.uctxsOf ward).filter (fun c => s.ownedBy (s.uringBase c) 64 9)
      let s := shared.foldl (fun s c => (s.setF (R.SEC_UNS_CTL c) F.SEC_UNS_CTL_EN 0).markAbort c) s
      (s.wardEvent 0x02 1 ward).answer St.ok)))

/-! ## INSTALL_KEY (R425, R426) -/

/-- The weight key that a blob opens to under the ward's session key and nonce; none when the tag fails. -/
def State.openBlob (s : State) (w : Nat) (blob : List Byte) : Option (List Byte) :=
  let kek := ecdhHkdf (Config.privateKey (s.ward w).session) (slice blob 8 97) (s.ward w).nonce (slice blob 0 4)
  gcmOpen kek (slice blob 112 12) (slice blob 0 8) (slice blob 128 32) (slice blob 160 16)

/-- Byte `i` of a request. -/
def byteOf (bs : List Byte) (i : Nat) : Nat := leNat (slice bs i 1)

/-- The failures that R426 names: BOUNDS for VER, KIND or a slot that does not exist, KEY_DENIED for the rest. -/
def State.blobChk (s : State) (w : Nat) (blob : List Byte) : Nat :=
  let slot := byteOf blob 3
  let held := decide (slot < 64) && s.rf (R.SEC_KEYSLOT slot) F.SEC_KEYSLOT_VALID = 1 && s.rf (R.SEC_KEYSLOT slot) F.SEC_KEYSLOT_WARD ≠ w
  worst (chk (byteOf blob 0 ≠ 1 || byteOf blob 1 ≠ 1 || decide (63 < slot)) St.bounds)
    (chk (!p384OnCurve (slice blob 8 97) || byteOf blob 2 ≠ w || held || (s.openBlob w blob).isNone) St.keyDenied)

/-- INSTALL_KEY. -/
def execInstallKey (ward : Nat) (blob : List Byte) (s : State) : Host.Outcome State Fault Refusal :=
  .next (s.request (fun s =>
    s.unless (worstOf [chk (decide (7 < ward) || decide (blob.length < 256)) St.bounds,
        chk (decide (ward ≤ 7) && s.wardState ward ≠ 1 && s.wardState ward ≠ 2) St.wardFault, chk s.isBlank St.keyDenied]) (fun s =>
      let st := s.blobChk ward blob
      if st ≠ St.ok then (s.wardEvent 0x05 1 ward).answer st
      else
        let slot := byteOf blob 3
        let s := s.modSec (fun x => { x with weightKeys := minsert slot ((s.openBlob ward blob).getD []) x.weightKeys })
        (s.setReg (R.SEC_KEYSLOT slot) (BitVec.ofNat 64 (ward + 8))).answer St.ok)))

/-! ## Signed requests of a LOCKED ward (R424) -/

/-- Whether a request for a ward may go on: a LOCKED ward's must be signed under its policy key with a higher SEQ. -/
def State.signedOk (s : State) (code w : Nat) (payload : List Byte) (auth : Option SignedReq) : Bool :=
  if !s.locked w then true
  else match auth with
    | none => false
    | some a => decide ((s.reg (R.SEC_WARD_SEQ w)).toNat < a.seq % 2 ^ 64) &&
        ecdsaVerify (s.ward w).policy
          (sha384 (leBytes 1 code ++ leBytes 1 w ++ leBytes 8 a.seq ++ (s.ward w).nonce ++ payload)) a.sig

/-- An accepted signed request stores its SEQ. -/
def State.storeSeq (s : State) (w : Nat) (auth : Option SignedReq) : State :=
  match auth with
  | some a => if s.locked w then s.setReg (R.SEC_WARD_SEQ w) (BitVec.ofNat 64 a.seq) else s
  | none => s

/-! ## LINK_KEY (R435) -/

/-- The first link entry not in use. -/
def State.freeLink (s : State) : Option Nat := (List.range 256).find? (fun j => !s.linkValid j)

/-- A link key: the two open nonces are salted in the order of the device numbers. -/
def State.linkKeyOf (s : State) (w keyId peer : Nat) (pub nonce : List Byte) : List Byte :=
  let salt := if s.dev ≤ peer then (s.ward w).nonce ++ nonce else nonce ++ (s.ward w).nonce
  ecdhHkdf (Config.privateKey (s.ward w).session) pub salt (leBytes 2 keyId)

/-- LINK_KEY. -/
def execLinkKey (ward keyId peer : Nat) (peerPub peerNonce : List Byte) (auth : Option SignedReq) (s : State) :
    Host.Outcome State Fault Refusal :=
  .next (s.request (fun s =>
    let payload := leBytes 2 keyId ++ leBytes 2 peer ++ peerPub.take 97 ++ peerNonce.take 32
    let used := (List.range 256).any (fun j => s.linkValid j && s.rf (R.SEC_LINK j) F.SEC_LINK_KEY_ID = keyId % 65536)
    s.unless (worstOf [chk (decide (7 < ward) || decide (peerPub.length < 97) || decide (peerNonce.length < 32)) St.bounds,
        chk (decide (ward ≤ 7) && s.wardState ward ≠ 1 && s.wardState ward ≠ 2) St.wardFault,
        chk (!s.signedOk 0x06 ward payload auth) St.keyDenied, chk (used || s.freeLink.isNone) St.bounds]) (fun s =>
      let j := s.freeLink.getD 0
      let key := s.linkKeyOf ward keyId (peer % 65536) (peerPub.take 97) (peerNonce.take 32)
      let s := s.storeSeq ward auth
      let s := s.setReg (R.SEC_LINK j) (BitVec.ofNat 64 (keyId % 2 ^ 16 + peer % 2 ^ 16 * 2 ^ 16 + ward * 2 ^ 32 + 2 ^ 35))
      let s := s.modSec (fun x => { x with linkKeys := minsert j key x.linkKeys })
      (s.modX (fun x => { x with linkAt := x.linkAt.filter (fun e => e.1 ≠ j) ++ [(j, x.nextMsg + 1)] })).answer St.ok)))

/-! ## UNSEAL_RING (R432) -/

/-- Bytes of a ring: its header and its descriptors. -/
def uringBytes (log2 : Nat) : Nat := 64 + 64 * 2 ^ log2

/-- Where a ward's ring may lie: in its slices, or while it is OPEN in the shared window. -/
def State.uringOk (s : State) (w base log2 : Nat) : Bool :=
  s.ownedBy base (uringBytes log2) w || (!s.locked w && s.ownedBy base (uringBytes log2) 9)

/-- UNSEAL_RING: a job in progress on the context ends first; polling starts at count 0. -/
def execUnsealRing (ward ctx base log2 sigCtr sigTkind sigTarget sigAllward : Nat) (auth : Option SignedReq) (s : State) :
    Host.Outcome State Fault Refusal :=
  .next (s.request (fun s =>
    let payload := leBytes 1 ctx ++ leBytes 8 base ++ leBytes 1 log2 ++ leBytes 1 sigCtr ++ leBytes 1 sigTkind ++ leBytes 1 sigTarget ++
      leBytes 1 sigAllward
    let badField := decide (63 < ctx) || base % 64 ≠ 0 || decide (log2 < 2) || decide (12 < log2) || decide (63 < sigCtr) ||
      decide (3 < sigTkind) || decide (127 < sigTarget) || decide (1 < sigAllward)
    s.unless (worstOf [chk (decide (7 < ward) || badField) St.bounds,
        chk (decide (ward ≤ 7) && s.wardState ward ≠ 1 && s.wardState ward ≠ 2) St.wardFault,
        chk (!s.signedOk 0x07 ward payload auth) St.keyDenied,
        chk (!badField && ((s.bound ctx && s.uctxWard ctx ≠ ward) || !s.uringOk ward base log2)) St.wardFault]) (fun s =>
      let s := (s.storeSeq ward auth).abortJob ctx
      let s := s.setReg (R.SEC_UNS_RING ctx) (BitVec.ofNat 64 (base + log2 * 2 ^ 48))
      let s := s.setReg (R.SEC_UNS_CTL ctx)
        (BitVec.ofNat 64 (ward + 8 + sigCtr * 2 ^ 4 + sigTarget * 2 ^ 10 + sigTkind * 2 ^ 17 + sigAllward * 2 ^ 19))
      (s.setUctx ctx {}).answer St.ok)))

/-! ## Release (R438, R439) -/

/-- WARD_RELEASE. -/
def execWardRelease (ward : Nat) (s : State) : Host.Outcome State Fault Refusal :=
  .next (s.request (fun s =>
    s.unless (worst (chk (decide (7 < ward)) St.bounds)
        (chk (decide (ward ≤ 7) && s.wardState ward ≠ 1 && s.wardState ward ≠ 2 && s.wardState ward ≠ 3) St.wardFault)) (fun s =>
      (s.releaseWard ward).answer St.ok)))

/-- WARD_GATE_VERIFIED. -/
def execWardGateVerified (ward : Nat) (s : State) : Host.Outcome State Fault Refusal :=
  .next (if s.wardState ward = 4 && (s.ward ward).gating then s.freeWard ward else s)

/-- GATE_FAIL_TIMEOUT: GATE_FAIL, the ward stays RELEASING, and its cells that are not verified are faulty (R40). -/
def execGateFailTimeout (ward : Nat) (cells : List Nat) (s : State) : Host.Outcome State Fault Refusal :=
  .next (
    if s.wardState ward = 4 && (s.ward ward).gating then
      let l := (s.wardCells ward).filter cells.contains
      l.foldl (fun s k => s.failCell (k / 64) (k / 8 % 8) (s.physCol (k / 64) (k / 8 % 8) (k % 8))) (s.wardEvent 0x0B 0 ward)
    else s)

/-! ## Requests that name nothing (R423) -/

/-- Bytes of payload that a request code needs. -/
def payloadLen : Nat → Option Nat
  | 0x01 => some 9
  | 0x02 => some 5
  | 0x03 => some 97
  | 0x04 => some 256
  | 0x05 => some 12
  | 0x06 => some 133
  | 0x07 => some 14
  | 0x08 => some 0
  | _ => none

/-- WARD_REQUEST_UNKNOWN: BOUNDS for an unlisted code, a ward above 7 where the request names one, or a short payload. -/
def execWardRequestUnknown (code ward : Nat) (payload : List Byte) (s : State) : Host.Outcome State Fault Refusal :=
  .next (s.request (fun s =>
    match payloadLen code with
    | none => s.answer St.bounds
    | some n => if (decide (7 < ward) && code ≠ 0x02) || decide (payload.length < n) then s.answer St.bounds else s))

/-! ## The random source (R417) -/

/-- RNG_HEALTH_FAIL. -/
def execRngHealthFail (s : State) : Host.Outcome State Fault Refusal :=
  .next (((s.modSec (fun x => { x with rngBad := true })).setF R.SEC_STATUS F.SEC_STATUS_RNG_OK 0).raise (ev 0x300A 0 0 0))

/-- RNG_HEALTH_PASS. -/
def execRngHealthPass (s : State) : Host.Outcome State Fault Refusal :=
  .next ((s.modSec (fun x => { x with rngBad := false })).setF R.SEC_STATUS F.SEC_STATUS_RNG_OK 1)

/-! ## The unseal engine (R431 to R434) -/

/-- SRC or TAGS lies in the ward's slices or in its registered host-window regions. -/
def State.unsealSrc (s : State) (w a n : Nat) : Bool := s.devCheck (some w) a n = St.ok

/-- The checks of a job (R433). -/
def State.jobChk (s : State) (w : Nat) (j : UJob) : Nat :=
  let src := fld (j.w 1) 0 48
  let dst := fld (j.w 2) 0 48
  let tags := fld (j.w 3) 0 48
  let n := j.len
  let slot := fld (j.w 0) 8 6
  let lenBad := n = 0 || n % 64 ≠ 0
  worstOf [chk (!lenBad && (!s.ownedBy dst n w || !s.unsealSrc w src n || !s.unsealSrc w tags (16 * ceilDiv n segBytes))) St.wardFault,
    chk (fld (j.w 0) 0 8 ≠ 1 || src % 64 ≠ 0 || dst % 64 ≠ 0 || tags % 16 ≠ 0 || lenBad) St.bounds,
    chk (s.rf (R.SEC_KEYSLOT slot) F.SEC_KEYSLOT_VALID ≠ 1 || s.rf (R.SEC_KEYSLOT slot) F.SEC_KEYSLOT_WARD ≠ w) St.keyDenied]

/-- The engine reads descriptors of a context until one passes its checks: `fuel` of them. -/
def State.nextJob (s : State) (c : Nat) : Nat → State
  | 0 => s
  | fuel + 1 =>
    let x := s.uctx c
    if x.prod = x.cons || x.job.isSome then s
    else
      let r := s.devRead (s.udescAddr c x.cons) 64 0 false
      let s := r.1
      let j : UJob := { words := (List.range 8).map (fun i => BitVec.ofNat 64 (leNat (slice r.2.1 (8 * i) 8))), index := x.cons, moved := 0,
                        plain := none }
      let st := worst (if badStatus r.2.2 then r.2.2 else St.ok) (s.jobChk (s.uctxWard c) j)
      if st = St.ok then (s.setUctx c { x with job := some j }).setF (R.SEC_UNS_CTL c) F.SEC_UNS_CTL_BUSY 1
      else State.nextJob (s.endJob c j st 0) c fuel

/-- Whether the engine takes jobs from a context: enabled, of an OPEN or LOCKED ward. -/
def State.polled (s : State) (c : Nat) : Bool :=
  s.bound c && s.rf (R.SEC_UNS_CTL c) F.SEC_UNS_CTL_EN = 1 && (s.wardState (s.uctxWard c) = 1 || s.wardState (s.uctxWard c) = 2)

/-- UNSEAL_POLL (R432): PROD of every enabled ring, and the checks of new jobs. -/
def execUnsealPoll (s : State) : Host.Outcome State Fault Refusal :=
  .next (
    if !s.clk.on then s
    else (List.range 64).foldl (fun s c =>
      if s.polled c then
        let r := s.devRead (s.uringBase c) 4 0 false
        let s := r.1.setUctx c { r.1.uctx c with prod := if badStatus r.2.2 then (r.1.uctx c).prod else leNat r.2.1 }
        s.nextJob c 4096
      else s) s)

/-- The next context with a job, from the one whose turn it is. -/
def State.nextCtx (s : State) : Option Nat :=
  ((List.range 64).map (fun i => (s.sec.turn + i) % 64)).find? (fun c => (s.uctx c).job.isSome)

/-- Segment that byte `moved` of a job begins or lies in: its index, offset in the job and length. -/
def UJob.segment (j : UJob) : Nat × Nat × Nat :=
  let i := j.moved / segBytes
  (fld (j.w 0) 32 32 + i, i * segBytes, min segBytes (j.len - i * segBytes))

/-- Opens the segment at whose first byte a job stands (R431): the plaintext, none when the tag fails, and the status of the source
reads. -/
def State.openSeg (s : State) (j : UJob) : State × Option (List Byte) × Nat :=
  let (i, off, n) := j.segment
  let c := s.devRead (fld (j.w 1) 0 48 + off) n 0 false
  let t := c.1.devRead (fld (j.w 3) 0 48 + 16 * (off / segBytes)) 16 0 false
  let key := mget [] t.1.sec.weightKeys (fld (j.w 0) 8 6)
  let iv := leBytes 8 (j.w 5).toNat ++ leBytes 4 i
  let aad := leBytes 8 (j.w 6).toNat ++ leBytes 4 i ++ leBytes 4 n
  (t.1, gcmOpen key iv aad c.2.1 t.2.1, worst (if badStatus c.2.2 then c.2.2 else St.ok) (if badStatus t.2.2 then t.2.2 else St.ok))

/-- The bytes of one chunk written: the plaintext, or free bytes where the tag will fail. -/
def State.chunkOut (s : State) (j : UJob) (off k : Nat) : State :=
  match j.plain with
  | some p => (s.uWrite (fld (j.w 2) 0 48 + j.moved) 0 (padTo k (slice p (j.moved - off) k))).1
  | none => ((s.drew 512).uWrite (fld (j.w 2) 0 48 + j.moved) 0 (s.freeBytes k)).1

/-- Moves one chunk of a job whose segment is open: full-line writes of the plaintext; of a segment whose tag fails the spec states no
data before its zeros. -/
def State.moveChunk (s : State) (c : Nat) (j : UJob) : State :=
  let (_, off, n) := j.segment
  let k := min 4096 (off + n - j.moved)
  let s := s.chunkOut j off k
  let j := { j with moved := j.moved + k }
  if j.moved < off + n then s.setUctx c { s.uctx c with job := some j }
  else match j.plain with
    | none =>
      let s := (s.uWrite (fld (j.w 2) 0 48 + off) 0 (zeros n)).1
      (s.wardEvent 0x07 1 (s.uctxWard c)).endJob c j St.tagFail (off / segBytes)
    | some _ =>
      let j := { j with plain := none }
      if j.len ≤ j.moved then s.endJob c j St.ok j.segs else s.setUctx c { s.uctx c with job := some j }

/-- UNSEAL_CHUNK (R433, R434): one chunk of the context whose turn it is; then the turn passes on. -/
def execUnsealChunk (s : State) : Host.Outcome State Fault Refusal :=
  .next (
    if !s.clk.on then s
    else match s.nextCtx with
    | none => s
    | some c =>
      let s := s.modSec (fun x => { x with turn := (c + 1) % 64 })
      match (s.uctx c).job with
      | none => s
      | some j =>
        if (s.uctx c).abort then s.endJob c j St.aborted j.segs
        else
          let s := if j.moved % segBytes ≠ 0 then s.moveChunk c j
            else
              let r := s.openSeg j
              if r.2.2 ≠ St.ok then r.1.endJob c j r.2.2 j.segs else r.1.moveChunk c { j with plain := r.2.1 }
          if s.polled c then s.nextJob c 4096 else s)

end Sys2Proof.Machine
end

