-- ==== Sys2Proof/Machine/Evt.lean ====
section
/-! DEFINITION. The outer event paths at work: queues refilled (R497, R498), the host ring (R500), the sideband (R501), the incident
log (R502 to R504), and interrupt hold-off (R380, R500). -/

namespace Sys2Proof.Machine

open Sys2Proof

/-- ALARM_DEQUEUE (R496, R497): the oldest waiting key enters the queue. -/
def execAlarmDequeue (path : Nat) (s : State) : Host.Outcome State Fault Refusal :=
  .next (
    let q := s.path path
    match q.alarms with
    | [] => s
    | r :: rest =>
      if s.pathTakes path 0 && decide (0 < s.pathFree path) then
        (s.setPath path { q with alarms := rest }).enqueue path { r with summary := decide (1 < r.count) }
      else s)

/-- SUMMARY_DEQUEUE (R498): the oldest summary enters the queue above the alarm reserve. -/
def execSummaryDequeue (path : Nat) (s : State) : Host.Outcome State Fault Refusal :=
  .next (
    let q := s.path path
    match q.sums with
    | [] => s
    | r :: rest =>
      if s.pathTakes path 1 && decide (alarmReserve path < s.pathFree path) then
        (s.setPath path { q with sums := rest }).enqueue path r
      else s)

/-! ## The host ring -/

/-- Entries of the host ring. -/
def State.ringSize (s : State) : Nat := 2 ^ s.rf R.EVT_HOST_BASE F.EVT_HOST_BASE_LOG2

/-- Whether the host ring is full. -/
def State.ringFull (s : State) : Bool :=
  decide (s.ringSize ≤ (s.rf R.EVT_HOST_PROD F.EVT_HOST_PROD_PROD + 2 ^ 32 - s.rf R.EVT_HOST_CONS F.EVT_HOST_CONS_CONS) % 2 ^ 32)

/-- Address of the host ring's next entry. -/
def State.ringEntry (s : State) : Nat :=
  s.rf R.EVT_HOST_BASE F.EVT_HOST_BASE_BASE + 32 * (s.rf R.EVT_HOST_PROD F.EVT_HOST_PROD_PROD % s.ringSize)

/-- Whether the ring's next entry can be written: in service, room, and an entry in the shared window. -/
def State.ringReady (s : State) : Bool :=
  !s.evt.mcDown && s.rf R.EVT_CTRL F.EVT_CTRL_HOST_EN = 1 && !s.ringFull && s.ownedBy s.ringEntry 32 9

/-- Whether the ring has become full since another state: the time counts from now (R500). -/
def State.noteFull (s before : State) : State :=
  if s.ringFull && !before.ringFull then { s with evt := { s.evt with fullAt := s.now } } else s

/-- HOST_RING_WRITE (R370, R500): the record is visible before PROD advances; then vector 0. -/
def execHostRingWrite (s : State) : Host.Outcome State Fault Refusal :=
  .next (
    match s.nextRecs 0 1 with
    | [] => s
    | r :: _ =>
      if s.ringReady then
        let a := s.ringEntry
        let s := ((s.dropRecs 0 [r]).addF R.EVT_HOST_PROD F.EVT_HOST_PROD_PROD 1).noteFull s
        let s := { s with evt := { s.evt with stalled := false } }
        ((s.uWrite a 0 r.bytes).1).irq 0 (s.rf R.EVT_CTRL F.EVT_CTRL_IRQ_MIN_US)
      else s)

/-- HOST_RING_STALL (R500): a log to the other paths, once while the ring stays full, after 1 s. -/
def execHostRingStall (s : State) : Host.Outcome State Fault Refusal :=
  .next (
    if s.rf R.EVT_CTRL F.EVT_CTRL_HOST_EN = 1 && s.ringFull && !s.evt.stalled && decide (s.evt.fullAt + 1800000000 ≤ s.now) then
      let s := { s with evt := { s.evt with stalled := true } }
      let r := { ev 0x3F01 1 0 0 with time := s.ns }
      (s.logTo 1 r).logTo 2 r
    else s)

/-- IRQ_MIN_EXPIRY (R380, R500): the hold-off of a vector ends; an interrupt that waited for it is raised and holds off in turn. -/
def execIrqMinExpiry (vector : Nat) (s : State) : Host.Outcome State Fault Refusal :=
  .next (
    match s.evt.holdOff.find? (fun e => e.1 = vector) with
    | none => s
    | some (_, false) => { s with evt := { s.evt with holdOff := s.evt.holdOff.filter (fun e => e.1 ≠ vector) } }
    | some (_, true) =>
      { s with evt := { s.evt with
          msix := s.evt.msix ++ [vector]
          holdOff := s.evt.holdOff.map (fun e => if e.1 = vector then (vector, false) else e) } })

/-! ## The sideband -/

/-- Whether the module controller answers at sideband address 0x52 (R468, R519, R523). -/
def State.sideband (s : State) : Bool := s.sup.standby && !s.evt.mcDown && !(s.jtag.ir ∈ [0x00, 0x05, 0x06])

/-- A request to sideband address 0x52: not acknowledged while its domain is down or the boundary register drives the pins (R519, R523);
while the module controller restarts, the not-ready status of the protocol (R468). -/
def State.sbDo (s : State) (f : State → State) : State :=
  if s.sideband then f s
  else if s.sup.standby && s.evt.mcDown && !(s.jtag.ir ∈ [0x00, 0x05, 0x06]) then s.answer Config.notReady
  else s

/-- GET_EVENTS (R501): the count and up to 8 of the oldest records. -/
def execGetEvents (s : State) : Host.Outcome State Fault Refusal :=
  .next (s.sbDo (fun s =>
    let l := s.nextRecs 1 8
    let n := (s.path 1).queue.length
    let s := { s with evt := { s.evt with
      returned := s.evt.returned ++ (l.map (fun r : EvRec => r.seq)).filter (fun n => !(s.evt.returned.contains n)) } }
    s.answer St.ok (BitVec.ofNat 64 n) ((l.map EvRec.bytes).flatten)))

/-- SEQs of the returned records of a queue up to the one with a given SEQ, in the order of delivery (R501); empty where no returned
record carries it. -/
def ackedSeqs (queue : List EvRec) (returned : List Nat) (seq : Nat) : List Nat :=
  let l := ((ordered queue).map EvRec.seq).filter (fun n => returned.contains n)
  match l.findIdx? (· = seq) with
  | none => []
  | some i => l.take (i + 1)

/-- ACK_EVENTS (R501): removes every returned record up to a SEQ. -/
def execAckEvents (seq : Nat) (s : State) : Host.Outcome State Fault Refusal :=
  .next (s.sbDo (fun s =>
    let q := s.path 1
    let gone := ackedSeqs q.queue s.evt.returned seq
    if gone.isEmpty then s.answer St.bounds
    else
      let s := s.setPath 1 { q with queue := q.queue.filter (fun r => !(gone.contains r.seq)) }
      { s with evt := { s.evt with returned := s.evt.returned.filter (fun n => !(gone.contains n)) } }.answer St.ok))

/-! ## The incident log -/

/-- Whether a page of the log is due (R502): 64 records wait, the first for 10 s or an alarm for 100 ms. -/
def State.pageDue (s : State) : Bool :=
  let q := (s.path 2).queue
  decide (64 ≤ q.length) || q.any (fun r => decide (r.time + 10000000000 ≤ s.ns) || (r.cls = 0 && decide (r.time + 100000000 ≤ s.ns)))

/-- Whether the rate at which pages are programmed allows one (R502): one a second, and of pages with alarms ten a minute. -/
def State.pageAllowed (s : State) : Bool :=
  if (s.nextRecs 2 64).any (fun r => r.cls = 0) then decide ((s.evt.alarmPages.filter (fun t => decide (s.now < t + 108000000000))).length < 10)
  else match s.evt.pageAt with
    | some t => decide (t + 1800000000 ≤ s.now)
    | none => true

/-- INCIDENT_PAGE_PROGRAM (R502, R503): a page of waiting records, when one is due and the energy covers it. -/
def execIncidentPageProgram (s : State) : Host.Outcome State Fault Refusal :=
  .next (
    if s.evt.mcDown || s.sup.seq = .normal || s.sup.seq = .emergency || (s.nextRecs 2 64).isEmpty || !s.pageDue || !s.pageAllowed then s
    else
      let ok := s.covers 60 false
      let s := s.drew 2
      if ok then s.putPage else s.deferPage)

/-- The 2,048 bytes of a page: its records, and all ones where nothing was programmed. -/
def pageBytes (l : List EvRec) : List Byte :=
  ((l.map EvRec.bytes).flatten ++ List.replicate (2048 - 32 * l.length) 0xFF).take 2048

/-- EVT_NAND_READ (R504): one page into EVT_NAND_DATA. -/
def ctlEvtNandRead (who : Requester) (page : Nat) (readable : Bool) (s : State) : Host.Outcome State Fault Refusal :=
  .next (s.ctlDo who R.EVT_NAND_READ St.ok (fun s =>
    let s := (s.setF R.EVT_NAND_READ F.EVT_NAND_READ_PAGE (page % 2 ^ 17)).noteRead (1672 + page % 2 ^ 17 / 64)
    if readable then
      let bs := pageBytes (((s.evt.pages.find? (fun e => e.1 = page % 2 ^ 17)).map (·.2.2)).getD [])
      let s := (List.range 256).foldl (fun s i => s.setReg (R.EVT_NAND_DATA i) (BitVec.ofNat 64 (leNat (slice bs (8 * i) 8)))) s
      s.setF R.EVT_NAND_READ F.EVT_NAND_READ_STATUS St.ok
    else
      (s.setF R.EVT_NAND_READ F.EVT_NAND_READ_STATUS St.poison).bump R.CFG_NAND_ECC F.CFG_NAND_ECC_UNREADABLE 1
        |>.raise (ev 0x3807 1 0 0)))

end Sys2Proof.Machine
end

