-- ==== Sys2Proof/Machine/Crypt.lean ====
section
/-! DEFINITION. Stored and wire forms: the line code, encryption and tag of a memory line (R224 to R228), the Sirri header (R276) and a
sealed packet (R277, R436). The machine itself keeps plain data (log entry 26); these say what DRAM and the wire hold for it. -/

namespace Sys2Proof.Machine

open Sys2Proof

/-! ## The line code (R225) -/

/-- The product in GF(2^16) with field polynomial x^16 + x^12 + x^3 + x + 1, over `n` bits of the first factor. -/
def gfMul : Nat → Nat → Nat → Nat
  | 0, _, _ => 0
  | n + 1, a, b =>
    let r := gfMul n (a / 2) (let d := 2 * b
      if d < 65536 then d else Nat.xor d 0x1100B)
    if a % 2 = 1 then Nat.xor b r else r

/-- Coefficients of the generator (x − 1)(x − α)(x − α²): x², x and 1, with α = 2. -/
def genPoly : Nat × Nat × Nat := (7, 14, 8)

/-- One step of the division by the generator: the remainder (x², x, 1) after one more symbol. -/
def codeStep (r : Nat × Nat × Nat) (m : Nat) : Nat × Nat × Nat :=
  let q := Nat.xor r.1 m
  (Nat.xor r.2.1 (gfMul 16 genPoly.1 q), Nat.xor r.2.2 (gfMul 16 genPoly.2.1 q), gfMul 16 genPoly.2.2 q)

/-- The message symbols m0 to m33 of a stored line and its tag. -/
def codeSymbols (data : List Byte) (tag : Nat) : List Nat :=
  (List.range 32).map (fun i => leNat (slice data (2 * i) 2)) ++ [tag % 65536, tag / 65536 % 65536]

/-- CHECK (R224, R225). -/
def lineCheck (data : List Byte) (tag : Nat) : Nat :=
  let r := (codeSymbols data tag).foldl codeStep (0, 0, 0)
  r.1 * 2 ^ 32 + r.2.1 * 2 ^ 16 + r.2.2

/-! ## Stored lines (R224, R226 to R228) -/

/-- A key that exists: handle 0 stands for none (R418). -/
def liveKey (h : Nat) : Option Nat := if h = 0 then none else some h

/-- Handle of the keys of an owner: a ward's, the module's, the shared tag key's; none for unowned memory or destroyed keys. -/
def State.ownerKeys (s : State) (owner : Nat) : Option Nat :=
  if owner < 8 then liveKey (mget {} s.sec.wards owner).keys
  else if owner = 8 then liveKey s.sec.moduleKeys
  else if owner = 9 then (liveKey s.sec.moduleKeys).map (· + 2 ^ 64)
  else none

/-- What DRAM holds of a line: its data, encrypted but for the shared window's, and TAG and CHECK. -/
structure StoredLine where
  data : List Byte
  tag : Nat
  check : Nat
deriving DecidableEq, Repr

/-- The stored form of a poisoned line (R231): zero data, zero TAG and the check of that content with the poison pattern. -/
def poisonForm : StoredLine := { data := zeros 64, tag := 0, check := Nat.xor (lineCheck (zeros 64) 0) 0x5A5A5A5A5A5A }

/-- The stored form of a line of plain data under an owner's keys, by line number (R224 to R228). -/
def sealLine (keys owner line : Nat) (plain : List Byte) : StoredLine :=
  let data := if owner = 9 then plain else xtsEncrypt (padTo 64 (Config.keyBytes keys 0)) (line * 64) plain
  let tag := leNat ((cmac (padTo 32 (Config.keyBytes keys 1)) (data ++ leBytes 8 (line * 64))).take 4)
  { data := data, tag := tag, check := lineCheck data tag }

/-- The stored form of a home line, by line number; none in unowned memory and in a region that is not SET. -/
def State.storedLine (s : State) (line : Nat) : Option StoredLine :=
  let owner := s.owner (line * 64)
  if (s.region (regionKey (line * 64))).st ≠ 2 then none
  else (s.ownerKeys owner).map (fun k =>
    if s.mark line = .poison then poisonForm else sealLine k owner line (s.dramLine line))

/-- The mark by which the decoder knows a poisoned line, before any correction (R231). -/
def StoredLine.poisoned (x : StoredLine) : Bool := x = poisonForm

/-! ## The Sirri header (R276) and sealed packets (R277, R436) -/

/-- A word, most significant byte first. -/
def be32 (v : Nat) : List Byte := (leBytes 4 (v % 2 ^ 32)).reverse

/-- The 48 bytes of a packet's header. -/
def headerBytes (p : Packet) : List Byte :=
  let bit (b : Bool) (i : Nat) : Nat := b2n b * 2 ^ i
  [p.ver % 16 * 2 ^ 28 + p.typ % 16 * 2 ^ 24 + bit p.last 23 + bit p.slow 22 + bit p.ece 21 + bit p.enc 20 + bit p.coll 19 + p.payload.length,
    p.srcDev % 65536 * 65536 + p.dstDev % 65536, p.dstQueue % 2 ^ 20 * 4096, p.srcQueue % 2 ^ 20 * 4096, p.msgId,
    p.pktIndex % 2 ^ 20 * 4096 + p.xmit % 16 * 256 + p.ctrlOp % 256, p.regionKey, p.accessKey,
    p.keyId % 65536 * 65536 + p.offset / 2 ^ 32 % 65536, p.offset, p.msgLen, p.status % 256 * 2 ^ 24 + p.collId % 65536 * 256].flatMap be32

/-- The 96-bit IV of a sealed packet (R436), most significant byte first. -/
def packetIv (p : Packet) : List Byte :=
  (leBytes 12 ((((p.srcDev % 2 ^ 16 * 2 ^ 4 + p.typ % 16) * 2 ^ 4 + p.xmit % 16) * 2 ^ 32 + p.msgId % 2 ^ 32) * 2 ^ 40 +
    p.pktIndex % 2 ^ 20 * 2 ^ 20)).reverse

/-- Header, payload and tag of a packet as they leave a port: with ENC = 1 sealed under the link key, the header being the additional
data. -/
def wireBytes (key : List Byte) (p : Packet) : List Byte :=
  if p.enc then
    let c := gcmSeal key (packetIv p) (headerBytes p) p.payload
    headerBytes p ++ c.1 ++ c.2
  else headerBytes p ++ p.payload

/-! ## The UDP datagram (R275) -/

/-- Sum of the 16-bit words of some bytes, most significant byte first. -/
def sum16 : List Byte → Nat
  | [] => 0
  | [a] => a.toNat * 256
  | a :: b :: l => a.toNat * 256 + b.toNat + sum16 l

/-- The Internet checksum of a sum of words: its end-around-carry sum's complement, all ones for zero. -/
def onesSum (n : Nat) : Nat :=
  let fold (x : Nat) : Nat := x % 65536 + x / 65536
  let r := 65535 - fold (fold (fold n))
  if r = 0 then 65535 else r

/-- The UDP datagram of a packet: ports, length, the checksum over the pseudo-header, the header and the data, and the data. -/
def udpBytes (ip : IpHead) (data : List Byte) : List Byte :=
  let n := 8 + data.length
  let pseudo := if ip.v6 then beBytes 16 ip.src ++ beBytes 16 ip.dst ++ beBytes 4 n ++ beBytes 4 17
    else beBytes 4 ip.src ++ beBytes 4 ip.dst ++ beBytes 2 17 ++ beBytes 2 n
  let head := beBytes 2 ip.srcPort ++ beBytes 2 ip.dstPort ++ beBytes 2 n
  head ++ beBytes 2 (onesSum (sum16 (pseudo ++ head ++ [0, 0] ++ data))) ++ data

end Sys2Proof.Machine
end

