-- ==== Sys2Proof/Machine/Ports.lean ====
section
/-! DEFINITION. Frames sent and received (R333 to R338, R351 to R353), flow control (R339, R340), link state (R341 to R344) and lane
parking (R346 to R350). -/

namespace Sys2Proof.Machine

open Sys2Proof

/-! ## Links -/

/-- MODE (R327). -/
def State.portMode (s : State) (p : Nat) : Nat := s.portCfg p F.PORT_CFG_MODE

/-- The link bit of a sub-port: A for the whole port in mode 1. -/
def linkFld (sub : Nat) : Fld := if sub = 0 then F.PORT_STATUS_LINK_A else F.PORT_STATUS_LINK_B

/-- A sub-port that the mode has (R329). -/
def State.hasSub (s : State) (p sub : Nat) : Bool := s.portMode p = 1 && sub = 0 || (s.portMode p = 2 && decide (sub < 2))

/-- Whether a sub-port's link is up. -/
def State.linkUp (s : State) (p sub : Nat) : Bool := s.hasSub p sub && s.portSt p (linkFld sub) = 1

/-- Whether a link waits for LINKUP_HOLD_MS. -/
def Port.holding (x : Port) (sub : Nat) : Bool := if sub = 0 then x.holdA else x.holdB

/-- Sets that. -/
def Port.setHold (x : Port) (sub : Nat) (b : Bool) : Port := if sub = 0 then { x with holdA := b } else { x with holdB := b }

/-- Whether a port belongs in the routes (R329, R340 to R344). -/
def State.portGood (s : State) (p : Nat) : Bool :=
  ((s.linkUp p 0 && !(s.port p).holdA) || (s.linkUp p 1 && !(s.port p).holdB)) && s.portSt p F.PORT_STATUS_STORM = 0 &&
    s.rf (R.PORT_LINK_CTRL p) F.PORT_LINK_CTRL_LOOPBACK = 0 && !(s.port p).retiming

/-- Whether a frame carries a Sirri packet. -/
def TxFrame.sirri (f : TxFrame) : Option Packet :=
  match f.frame.kind with
  | .sirri _ pkt => some pkt
  | _ => none

/-- The copy of a packet that a port did not send is recorded with the port that sends it. -/
def Msg.movePort (m : Msg) (pkt : Packet) (p q : Nat) : Msg :=
  let k := m.pkt pkt.pktIndex
  if m.id % 2 ^ 32 = pkt.msgId && m.dst = pkt.dstDev then
    m.setPkt pkt.pktIndex { k with copies := k.copies.map (fun c => if c.port = p && c.xmit % 16 = pkt.xmit then { c with port := q } else c) }
  else m

/-- A frame that a port did not send goes to another usable port of its route (R314); without one it is lost, and R284 ends its
message. -/
def State.respray (s : State) (p : Nat) (f : TxFrame) : State :=
  match f.sirri with
  | none => s
  | some pkt =>
    match s.portTo pkt.dstDev ((p + 1) % 16) with
    | none => s
    | some q =>
      let s := s.modX (fun x => { x with msgs := x.msgs.map (fun m => m.movePort pkt p q) })
      s.sendPkt q pkt f.ward

/-- The frames that a port has not sent return to the transport (R314, R341). -/
def State.returnFrames (s : State) (p : Nat) : State :=
  let l := (s.port p).txq
  l.foldl (fun s f => s.respray p f) (s.setPort p { s.port p with txq := l.filter (fun f => f.sirri.isNone) })

/-- USABLE after a change of what it depends on: a port that leaves the routes returns its frames. -/
def State.refreshPort (s : State) (p : Nat) : State :=
  let good := s.portGood p
  let was := s.portSt p F.PORT_STATUS_USABLE = 1
  if good = was then s
  else
    let s := s.rerouted (fun s => s.setPortSt p F.PORT_STATUS_USABLE (b2n good))
    if good then s else s.returnFrames p

/-- Lanes of a sub-port. -/
def State.laneMask (s : State) (p sub : Nat) : Nat := if s.portMode p = 1 then 0xFF else if sub = 0 then 0x0F else 0xF0

/-- A link goes down (R341). -/
def State.linkFail (s : State) (p sub : Nat) (lane : Option Nat) (align : Bool) : State :=
  let ok := s.portSt p F.PORT_STATUS_LANE_OK
  let ok := match lane with
    | some l => if bitAt ok l then ok - 2 ^ l else ok
    | none => ok
  let s := (s.setPortSt p (linkFld sub) 0).setPortSt p F.PORT_STATUS_LANE_OK ok
  let s := s.setPort p ((s.port p).setHold sub false)
  let s := s.phyCount p 12 1
  let s := if align then s.phyCount p 13 1 else s
  let s := s.parkFull p
  let s := s.refreshPort p
  let s := s.portEvent p 1 0 sub 0
  match lane with
  | some l => s.portEvent p 3 1 l 0
  | none => s

/-- LINK_DOWN (R341): a lane or PCS fault; a frame partly received is dropped and counted. -/
def execLinkDown (port sub : Nat) (lane : Option Nat) (fault : PcsFault) (s : State) : Host.Outcome State Fault Refusal :=
  .next (
    if s.linkUp port sub then (if fault.fragment then s.rxCount port 17 1 else s).linkFail port sub lane fault.alignLoss else s)

/-- LINK_ALIGNED (R342): the link is up and waits for LINKUP_HOLD_MS. Ports are dark before stage 3 and in P4 (R342, R375). -/
def execLinkAligned (port sub : Nat) (s : State) : Host.Outcome State Fault Refusal :=
  .next (
    if s.hasSub port sub && !s.linkUp port sub && s.rf R.HOST_PM_STATUS F.HOST_PM_STATUS_STATE ≠ 4 &&
        decide (3 ≤ s.rf R.MGMT_STAGE F.MGMT_STAGE_STAGE) then
      let m := s.laneMask port sub
      let s := (s.setPortSt port (linkFld sub) 1).setPortSt port F.PORT_STATUS_LANE_OK (Nat.lor (s.portSt port F.PORT_STATUS_LANE_OK) m)
      s.setPort port { (s.port port).setHold sub true with retiming := false }
    else s)

/-- LINKUP_HOLD_EXPIRY (R342): LINK_UP where the link rejoins the routes. -/
def execLinkupHoldExpiry (port sub : Nat) (s : State) : Host.Outcome State Fault Refusal :=
  .next (
    if s.linkUp port sub && (s.port port).holding sub then
      let s := (s.setPort port ((s.port port).setHold sub false)).refreshPort port
      if s.portSt port F.PORT_STATUS_USABLE = 1 then s.portEvent port 2 1 sub 0 else s
    else s)

/-- Symbols corrected on all lanes. -/
def fecSymbols (c : FecCounts) : Nat := c.lanes.foldl (· + ·) 0

/-- The FEC counts of a second join the physical counters (R351, R356). -/
def State.countFec (s : State) (p : Nat) (c : FecCounts) : State :=
  let s := (((s.phyCount p 0 c.words).phyCount p 1 c.corrected).phyCount p 2 c.uncorrectable).phyCount p 3 (fecSymbols c)
  (List.range 8).foldl (fun s l => s.phyCount p (4 + l) (c.lanes.getD l 0)) s

/-- FEC_DEGRADE (R343): the FEC counts of a second, and the event where its corrected symbols exceed the threshold. -/
def execFecDegrade (port : Nat) (counts : FecCounts) (s : State) : Host.Outcome State Fault Refusal :=
  .next (
    let s := s.countFec port counts
    if s.rf (R.PORT_FEC_THRESH port) F.PORT_FEC_THRESH_DEGRADE < fecSymbols counts then s.portEvent port 4 1 0 0 else s)

/-- Every lane is adapted again (R344). -/
def State.retime (s : State) (p : Nat) : State :=
  let s := (s.setPortSt p F.PORT_STATUS_LINK_A 0).setPortSt p F.PORT_STATUS_LINK_B 0
  ((s.setPort p { s.port p with retiming := true, holdA := false, holdB := false }).parkFull p).refreshPort p

/-- RETIME (R344). -/
def ctlRetime (who : Requester) (port : Nat) (s : State) : Host.Outcome State Fault Refusal :=
  .next (s.ctlDo who (R.PORT_LINK_CTRL port) St.ok (fun s => if s.portMode port = 0 then s else s.retime port))

/-! ## Frames received -/

/-- Index of a size class among counters 5 to 13 (R356). -/
def sizeClass (n : Nat) : Nat :=
  if n ≤ 64 then 5 else if n ≤ 127 then 6 else if n ≤ 255 then 7 else if n ≤ 511 then 8 else if n ≤ 1023 then 9
  else if n ≤ 1518 then 10 else if n ≤ 2047 then 11 else if n ≤ 4095 then 12 else 13

/-- Index of the counter of a destination class. -/
def castClass : CastKind → Nat
  | .unicast => 2
  | .multicast => 3
  | .broadcast => 4

/-- Counts a good frame received (R352, R356), and its bytes for the energy model, which have no ward yet (R403). -/
def State.countRx (s : State) (p : Nat) (f : Frame) : State :=
  let s := s.useBytes p 15 (match f.kind with
    | .sirri _ pkt => packetBytes pkt
    | _ => f.len)
  (((s.rxCount p 0 f.len).rxCount p 1 1).rxCount p (castClass f.cast) 1).rxCount p (sizeClass f.len) 1

/-- Whether the port takes a frame's tag (R336). -/
def State.tagOk (s : State) (p : Nat) (f : Frame) : Bool :=
  match f.tag with
  | none => true
  | some (vid, _) => if s.portCfg p F.PORT_CFG_VLAN_EN = 1 then vid = s.portCfg p F.PORT_CFG_VID else vid = 0

/-- PARK_CAP (R346): while a latch has taken PARK_EN away it holds until the port is FULL (R348). -/
def State.parkCap (s : State) (p : Nat) : Bool := (s.portCfg p F.PORT_CFG_PARK_EN = 1 || (s.port p).capKept) && s.portMode p = 1

/-- Parking is negotiated (R346). -/
def State.parkOk (s : State) (p : Nat) : Bool := s.parkCap p && s.portSt p F.PORT_STATUS_PEER_PARK = 1

/-- A good frame of a kind that the port handles: a Sirri packet, which is a datagram to UDP_PORT (R275), waits in the receive buffer for
the transport, and the others have rows of their own. -/
def State.acceptFrame (s : State) (p : Nat) (f : Frame) : State :=
  match f.kind with
  | .sirri ip _ =>
    if ip.dstPort ≠ s.rf R.XPORT_CFG F.XPORT_CFG_UDP_PORT then s.rxCount p 21 1
    else
    let s := if ip.ecn = 3 then s.rxCount p 22 1 else s
    if 1048576 < s.rxFill p + f.len then s.rxCount p 20 1
    else (s.setPort p { s.port p with rxq := (s.port p).rxq ++ [f] }).pfcCheck p
  | .other => s.rxCount p 21 1
  | .parking _ _ => if s.parkOk p then s else s.rxCount p 21 1
  | _ => s

/-- Whether a frame carries a Sirri packet. -/
def carriesSirri (f : Frame) : Bool :=
  match f.kind with
  | .sirri _ _ => true
  | _ => false

/-- PORT_FRAME_RX (R275, R334, R336, R337, R356): a packet whose frame has a bad FCS is counted by the transport too. -/
def execPortFrameRx (port sub : Nat) (frame : Frame) (fcsOk : Bool) (s : State) : Host.Outcome State Fault Refusal :=
  .next (
    if !s.linkUp port sub then s
    else if !fcsOk then (if carriesSirri frame then s.dropPkt else s).rxCount port 14 1
    else if frame.len < 64 then s.rxCount port 15 1
    else if s.portCfg port F.PORT_CFG_MAX_FRAME < frame.len then s.rxCount port 16 1
    else
      let s := s.countRx port frame
      if s.tagOk port frame then s.acceptFrame port frame else s.rxCount port 21 1)

/-! ## Frames sent -/

/-- Whether a frame may go on a sub-port now: Sirri frames not while PFC pauses them (R339). -/
def State.mayGoOut (s : State) (p sub : Nat) (f : TxFrame) : Bool :=
  (match f.sub with
    | some x => x = sub
    | none => !(s.linkUp p 0 && s.linkUp p 1) || (s.port p).turn = sub) &&
  (f.sirri.isNone || s.portSt p F.PORT_STATUS_TX_PAUSED = 0)

/-- The frames that are whole in the 256 KiB transmit buffer (R333). -/
def buffered : Nat → List TxFrame → List TxFrame
  | _, [] => []
  | n, f :: l => if n + f.frame.len ≤ 262144 then f :: buffered (n + f.frame.len) l else []

/-- Bytes that a packet is charged with (R353): an ACK or NAK counts with none. -/
def chargedBytes (p : Packet) : Nat := if p.typ = 5 || p.typ = 6 then 0 else p.payload.length

/-- Counts a frame sent, and charges its packet to its ward (R353). -/
def State.countTx (s : State) (p : Nat) (f : TxFrame) : State :=
  let n := f.frame.len
  let s := (((s.txCount p 0 n).txCount p 1 1).txCount p (castClass f.frame.cast) 1).txCount p (sizeClass n) 1
  let s := match f.frame.kind with
    | .pfc _ _ => s.txCount p 14 1
    | _ => s
  let s := s.useBytes p (match f.ward with
    | some w => if w < 8 then w else 15
    | none => 15) (match f.sirri with
    | some pkt => packetBytes pkt
    | none => n)
  match f.sirri, f.ward with
  | some pkt, some w =>
    if w < 8 then
      (s.bump (R.PORT_WARD_COUNTER p w 0) F.PORT_WARD_COUNTER_COUNT (chargedBytes pkt)).bump (R.PORT_WARD_COUNTER p w 1)
        F.PORT_WARD_COUNTER_COUNT 1
    else s
  | _, _ => s

/-- Next-hop MAC address of a sub-port (R279, R329). -/
def State.nextHop (s : State) (p sub : Nat) : Nat :=
  if sub = 0 then s.rf (R.XPORT_NEXTHOP p) F.XPORT_NEXTHOP_MAC else s.rf (R.PORT_NEXTHOP_B p) F.PORT_NEXTHOP_B_MAC

/-- Bytes of a packet as they leave a port (R276, R277, R436): sealed under the link key that it names. -/
def State.pktBytes (s : State) (pkt : Packet) : List Byte :=
  let key := ((s.xport.linkAt.map (·.1)).find? (fun j => s.linkValid j && s.rf (R.SEC_LINK j) F.SEC_LINK_KEY_ID = pkt.keyId)).map
    (fun j => mget [] s.sec.linkKeys j)
  wireBytes (key.getD []) pkt

/-- A frame as it is on the fibre: unicast frames go to the sub-port's next hop (R279), and a Sirri frame's datagram is laid out. -/
def State.sentFrame (s : State) (p sub : Nat) (f : TxFrame) : TxFrame :=
  { f with
    dst := if f.frame.cast = .unicast then s.nextHop p sub else f.dst
    bytes := match f.frame.kind with
      | .sirri ip pkt => udpBytes ip (s.pktBytes pkt)
      | _ => f.bytes }

/-- PORT_FRAME_TX (R329, R333, R336, R339): the first frame in the buffer that may go on the sub-port. -/
def execPortFrameTx (port sub : Nat) (s : State) : Host.Outcome State Fault Refusal :=
  .next (
    if !s.linkUp port sub then s
    else
      match (buffered 0 (s.port port).txq).findIdx? (s.mayGoOut port sub) with
      | none => s
      | some i =>
        match (s.port port).txq[i]? with
        | none => s
        | some f =>
          let x := s.port port
          let s := s.setPort port { x with
            txq := x.txq.eraseIdx i, wire := some (s.sentFrame port sub f, sub), turn := if f.sub.isNone then 1 - sub else x.turn }
          s.countTx port f)

/-! ## ARP, neighbour discovery and echo (R337) -/

/-- Whether a target is the port's own address (R279). -/
def State.ownAddr (s : State) (p : Nat) (v6 : Bool) (target : Nat) : Bool :=
  s.dev ≠ 0xFFFF && decide (s.rf R.XPORT_CFG F.XPORT_CFG_IPV = b2n v6) && target = s.ipAddr p s.dev

/-- MAC address of a sub-port (R337, R355). -/
def State.macOf (s : State) (p sub : Nat) : Nat := (s.rf (R.PORT_MAC p) F.PORT_MAC_MAC + sub) % 2 ^ 48

/-- ARP_ND_REQUEST: the answer carries the sub-port's MAC address; a request for another address is none of the port's frames. -/
def execArpNdRequest (port sub : Nat) (v6 : Bool) (target peerMac : Nat) (s : State) : Host.Outcome State Fault Refusal :=
  .next (
    if s.linkUp port sub && s.ownAddr port v6 target then
      s.handFrame port { frame := s.frameOf port (if v6 then 72 else 28) .unicast .arpNd, ward := none, sub := some sub,
                         etype := if v6 then 0x86DD else 0x0806,
                         bytes := (leBytes 6 peerMac).reverse ++ (leBytes 6 (s.macOf port sub)).reverse }
    else if s.linkUp port sub then s.rxCount port 21 1 else s)

/-- ICMP_ECHO: at most 1,000 answers per second and port; a request to another address is none of the port's frames. -/
def execIcmpEcho (port sub : Nat) (v6 : Bool) (target : Nat) (data : List Byte) (s : State) : Host.Outcome State Fault Refusal :=
  .next (
    if s.linkUp port sub && s.ownAddr port v6 target then
      let x := s.port port
      let x := if x.echoAt + 1000000 * cyclesPerUs ≤ s.now || x.echoes = 0 then { x with echoes := 0, echoAt := s.now } else x
      if 1000 ≤ x.echoes then s.setPort port x
      else
        (s.setPort port { x with echoes := x.echoes + 1 }).handFrame port
          { frame := s.frameOf port ((if v6 then 48 else 28) + data.length) .unicast .echo, ward := none, sub := some sub,
            etype := if v6 then 0x86DD else 0x0800, bytes := data }
    else if s.linkUp port sub then s.rxCount port 21 1 else s)

/-! ## Flow control (R337, R339, R340) -/

/-- RX_PFC (R339). -/
def execRxPfc (port sub prios quanta : Nat) (s : State) : Host.Outcome State Fault Refusal :=
  .next (
    if !s.linkUp port sub then s
    else
      let s := s.rxCount port 18 1
      if s.portCfg port F.PORT_CFG_PFC_EN = 1 && bitAt prios (s.portCfg port F.PORT_CFG_PCP) then
        let paused := s.portSt port F.PORT_STATUS_TX_PAUSED = 1
        if quanta = 0 then
          if paused then (s.setPortSt port F.PORT_STATUS_TX_PAUSED 0).txCount port 15 ((s.now - (s.port port).pausedAt) / cyclesPerUs)
          else s
        else if paused then s
        else (s.setPort port { s.port port with pausedAt := s.now }).setPortSt port F.PORT_STATUS_TX_PAUSED 1
      else s)

/-- PFC_PAUSE_EXPIRY (R339). -/
def execPfcPauseExpiry (port pausedUs : Nat) (s : State) : Host.Outcome State Fault Refusal :=
  .next (
    if s.portSt port F.PORT_STATUS_TX_PAUSED = 1 then (s.setPortSt port F.PORT_STATUS_TX_PAUSED 0).txCount port 15 pausedUs else s)

/-- RX_PAUSE (R337): counted and ignored. -/
def execRxPause (port sub : Nat) (s : State) : Host.Outcome State Fault Refusal :=
  .next (if s.linkUp port sub then s.rxCount port 19 1 else s)

/-- PFC_REFRESH (R339). -/
def execPfcRefresh (port : Nat) (s : State) : Host.Outcome State Fault Refusal :=
  .next (
    if s.portSt port F.PORT_STATUS_XOFF_SENT = 1 && decide (s.rf (R.PORT_PFC port) F.PORT_PFC_XON_KIB * 1024 ≤ s.rxFill port) then
      s.pfcFrame port 0xFFFF
    else s)

/-- PFC_STORM (R340). -/
def execPfcStorm (port : Nat) (s : State) : Host.Outcome State Fault Refusal :=
  .next (
    if s.portSt port F.PORT_STATUS_TX_PAUSED = 1 && s.portSt port F.PORT_STATUS_STORM = 0 then
      ((s.setPortSt port F.PORT_STATUS_STORM 1).refreshPort port).portEvent port 5 0 0 0
    else s)

/-- PFC_STORM_END (R340). -/
def execPfcStormEnd (port : Nat) (s : State) : Host.Outcome State Fault Refusal :=
  .next (
    if s.portSt port F.PORT_STATUS_STORM = 1 then (s.setPortSt port F.PORT_STATUS_STORM 0).refreshPort port else s)

/-! ## Lane parking (R348, R349) -/

/-- Whether a window's traffic is low: each direction below THRESH ÷ 256 × 10 MB. -/
def State.lowTraffic (s : State) (p sent received : Nat) : Bool :=
  let t := s.rf (R.PORT_PARK p) F.PORT_PARK_THRESH * 10000000
  decide (sent * 256 < t) && decide (received * 256 < t)

/-- A port in FULL asks its peer to park (R348). -/
def State.askPark (s : State) (p : Nat) : State :=
  let q := (s.port p).parkSeq
  let s := s.setPort p { s.port p with parkSeq := (q + 1) % 65536, reqSeq := some q }
  ((s.setPark p 1).parkFrame p 1 q).parkCheck p

/-- PARK_WINDOW: HOLD_MS of low windows in FULL send PARK_REQ. -/
def execParkWindow (port sent received : Nat) (s : State) : Host.Outcome State Fault Refusal :=
  .next (
    let low := s.lowTraffic port sent received
    let x := s.port port
    let n := if low then x.lowWindows + 1 else 0
    let s := s.setPort port { x with lowWindows := n, lastLow := low }
    if s.parkState port = 0 && s.parkOk port && s.linkUp port 0 && decide (s.rf (R.PORT_PARK port) F.PORT_PARK_HOLD_MS * 10 ≤ n) then
      s.askPark port
    else s.parkCheck port)

/-- A parking frame is handled only where parking is negotiated and the link is up (R337, R346). -/
def State.parkRx (s : State) (p : Nat) (f : State → State) : State := if s.parkOk p && s.linkUp p 0 then f s else s

/-- PARK_REQ. -/
def execParkReq (port seq : Nat) (s : State) : Host.Outcome State Fault Refusal :=
  .next (s.parkRx port (fun s =>
    match s.parkState port with
    | 0 =>
      if (s.port port).lastLow && !s.wakeCond port then (s.setPark port 1).parkFrame port 2 seq else s.parkFrame port 3 seq
    | 1 =>
      match (s.port port).reqSeq with
      | some q => (s.parkFrame port 4 q).parkNow port
      | none => s
    | _ => s))

/-- PARK_ACK: PARK_GO, and the port is PARKED. -/
def execParkAck (port seq : Nat) (s : State) : Host.Outcome State Fault Refusal :=
  .next (s.parkRx port (fun s =>
    if s.parkState port = 1 && (s.port port).reqSeq = some seq then (s.parkFrame port 4 seq).parkNow port else s))

/-- PARK_NAK. -/
def execParkNak (port seq : Nat) (s : State) : Host.Outcome State Fault Refusal :=
  .next (s.parkRx port (fun s =>
    if s.parkState port = 1 && (s.port port).reqSeq = some seq then s.parkFull port else s))

/-- PARK_GO. -/
def execParkGo (port _seq : Nat) (s : State) : Host.Outcome State Fault Refusal :=
  .next (s.parkRx port (fun s => if s.parkState port = 1 then s.parkNow port else s))

/-- PARK_ANSWER_TIMEOUT. -/
def execParkAnswerTimeout (port : Nat) (s : State) : Host.Outcome State Fault Refusal :=
  .next (if s.parkState port = 1 then s.parkFull port else s)

/-- WAKE: a WAKE to answer, which is a wake condition. -/
def execWake (port seq : Nat) (s : State) : Host.Outcome State Fault Refusal :=
  .next (s.parkRx port (fun s =>
    let s := s.setPort port { s.port port with wakeOwed := some seq }
    match s.parkState port with
    | 0 => s.answerWake port
    | 1 => s.parkCheck port
    | 2 => s.wakeLanes port
    | _ => if (s.port port).lanesLocked then (s.answerWake port).parkFull port else s))

/-- LANES_LOCKED: WAKE_ACK is sent where a WAKE waits, and both directions return to eight lanes. -/
def execLanesLocked (port : Nat) (s : State) : Host.Outcome State Fault Refusal :=
  .next (
    if s.parkState port = 3 then
      let x := s.port port
      let s := s.setPort port { x with lanesLocked := true }
      if x.wakeOwed.isSome then (s.answerWake port).parkFull port
      else if x.wakeAcked then s.parkFull port else s
    else s)

/-- WAKE_ACK. -/
def execWakeAck (port seq : Nat) (s : State) : Host.Outcome State Fault Refusal :=
  .next (s.parkRx port (fun s =>
    let x := s.port port
    if s.parkState port = 3 && x.reqSeq = some seq then
      if x.lanesLocked then s.parkFull port else s.setPort port { x with wakeAcked := true }
    else s))

/-- WAKE_TIMEOUT: WAKE again, and after the third the link goes down. -/
def execWakeTimeout (port : Nat) (s : State) : Host.Outcome State Fault Refusal :=
  .next (
    let x := s.port port
    if s.parkState port = 3 && !x.wakeAcked then
      match x.reqSeq with
      | some q =>
        if 3 ≤ x.wakes then s.linkFail port 0 none false
        else (s.setPort port { x with wakes := x.wakes + 1 }).parkFrame port 5 q
      | none => s
    else s)

/-- Successive refreshes missed, after one more: `missed` has bit l set for each parked lane l that missed it. -/
def missUpdate (run : List (Nat × Nat)) (missed : Nat) : List (Nat × Nat) :=
  [4, 5, 6, 7].foldl (fun r l => if bitAt missed l then mset 0 r l (mget 0 run l + 1) else mset 0 r l 0) run

/-- PARK_REFRESH (R349): a lane that misses three successive refreshes has failed. -/
def execParkRefresh (port missed : Nat) (s : State) : Host.Outcome State Fault Refusal :=
  .next (
    if s.parkState port = 2 then
      let n := ([4, 5, 6, 7].filter (bitAt missed)).length
      let run := missUpdate (s.port port).missRun missed
      let s := (s.setPort port { s.port port with missRun := run }).phyCount port 16 n
      match [4, 5, 6, 7].find? (fun l => decide (3 ≤ mget 0 run l)) with
      | some l => s.linkFail port 0 (some l) false
      | none => s
    else s)

end Sys2Proof.Machine
end

