-- ==== Sys2Proof/Machine/CfgOps.lean ====
section
/-! DEFINITION. Configuration values: TXN fields, what a latch is validated against (R38, R183, R207, R288, R291, R298, R335, R339, R365,
R386, R401, R462, R487), and what new values set going (R39, R298, R344, R365, R463). -/

namespace Sys2Proof.Machine

open Sys2Proof

/-- TXN fields of the register at an offset (R8). -/
def txnFields (a : Nat) : List FieldDef := (fieldsAt a).filter (fun f => f.acc = .txn)

/-- A word with the TXN fields of another. -/
def mergeTxn (a : Nat) (old v : W64) : W64 := (txnFields a).foldl (fun w f => setFld w f.lsb f.width (fld v f.lsb f.width)) old

/-- The TXN fields of a word, every other bit zero. -/
def txnOnly (a : Nat) (v : W64) : W64 := mergeTxn a 0 v

/-- The module with the values of a list in effect. -/
def State.withTxn (s : State) (l : List (Nat × W64)) : State := l.foldl (fun s e => s.setReg e.1 (mergeTxn e.1 (s.reg e.1) e.2)) s

/-! ## What breaks a latch: `s` is the module before it, `t` with its values in effect -/

/-- SUBST of row `r`. -/
def State.subst (s : State) (h r : Nat) : Nat := s.rf (R.HALF_CELL_MAP h) (F.HALF_CELL_MAP_SUBST r)

/-- A value that its register table does not list (R462). -/
def outOfRange (a : Nat) (v : W64) : Bool :=
  (txnFields a).any (fun f => !f.takes (fld v f.lsb f.width))

/-- A logical cell counts as stopped (R469). -/
def State.cellStopped (s : State) (k : Nat) : Bool := s.absent k || (s.core k).stopped

/-- Whether a logical cell moves to another physical cell. -/
def moves (s t : State) (k : Nat) : Bool := s.physCol (k / 64) (k / 8 % 8) (k % 8) ≠ t.physCol (k / 64) (k / 8 % 8) (k % 8)

/-- R38 for one half. At a start the last of its cases does not reject: R459 adjusts the map. -/
def mapRule (s t : State) (h : Nat) (starting : Bool) : List Nat :=
  let map := R.HALF_CELL_MAP h
  let abs := R.HALF_CELL_ABSENT h
  let rows := (List.range 8).any (fun r => decide (8 ≤ t.subst h r ∧ t.subst h r < 15) ||
    (!starting && decide (t.subst h r < 8) && t.faulty h r 8))
  let cells := (List.range 64).map (fun i => h * 64 + i)
  let moved := cells.any (fun k => moves s t k && !s.cellStopped k)
  let gone := cells.any (fun k => t.absent k && !s.absent k && !s.cellStopped k)
  let onBad := !starting && cells.any (fun k => !t.absent k && t.faulty h (k / 8 % 8) (t.physCol h (k / 8 % 8) (k % 8)))
  (if rows || moved then [map] else []) ++ (if gone then [abs] else []) ++
    (if onBad then [if s.reg abs ≠ t.reg abs then abs else map] else [])

/-- WAYS of ward `w` in a half. -/
def State.waysOf (s : State) (h w : Nat) : Nat := s.rf (R.TIER_WARD_WAYS h w) F.TIER_WARD_WAYS_WAYS

/-- R183 for one half: no way in two wards, none taken while a frame of it is in use, and none given while a release gates it (R439). -/
def waysRule (s t : State) (h : Nat) : List Nat :=
  ((List.range 8).map (fun w =>
    let others := (List.range 8).filter (fun v => v ≠ w)
    let overlap := others.any (fun v => Nat.land (t.waysOf h w) (t.waysOf h v) ≠ 0)
    let used := s.mem.blocks.any (fun e => match e.2 with
      | some x => blkHalf e.1 = h && bitAt (s.waysOf h w) x.way && !bitAt (t.waysOf h w) x.way
      | none => false)
    let gated := others.any (fun v => s.wardState v = 4 && Nat.land (s.waysOf h v) (t.waysOf h w) ≠ 0)
    if overlap || used || gated then [R.TIER_WARD_WAYS h w] else [])).flatten

/-- R207 for one controller. -/
def rateRule (t : State) (st : Nat) : List Nat :=
  if 256 < ((List.range 8).map (fun w => t.rf (bwReg st w) F.TIER_BWREG_RATE)).foldl (· + ·) 0 then
    (List.range 8).map (bwReg st)
  else []

/-- Base and length of the shared window. -/
def State.shw (s : State) : Nat × Nat := (s.rf R.HOST_SHW F.HOST_SHW_BASE_32M, s.rf R.HOST_SHW F.HOST_SHW_SIZE_32M)

/-- Slices of the shared window. -/
def State.shwSlices (s : State) : List Nat := (List.range s.shw.2).map (s.shw.1 + ·)

/-- Base of the transport's state area. -/
def State.stateBase (s : State) : Nat := s.rf R.XPORT_STATE_BASE F.XPORT_STATE_BASE_BASE

/-- Slices of the state area. -/
def State.areaSlices (s : State) : List Nat := (List.range 4).map (s.stateBase / 2 ^ 25 + ·)

/-- XPORT_CFG.ENABLE. -/
def State.xportEn (s : State) : Bool := s.rf R.XPORT_CFG F.XPORT_CFG_ENABLE = 1

/-- The transport's rules: R462 of XPORT_CFG, R288, R291, R298. -/
def xportRule (s t : State) : List Nat :=
  let cfg (f : Fld) : Bool := s.rf R.XPORT_CFG f ≠ t.rf R.XPORT_CFG f
  let tm (f : Fld) : Nat := t.rf R.XPORT_TIMING f
  let (b, n) := t.shw
  let base := t.stateBase
  let meets := decide (0 < n ∧ base / 2 ^ 25 < b + n ∧ b < base / 2 ^ 25 + 4)
  (if s.xportEn && t.xportEn && (cfg F.XPORT_CFG_DEVNUM || cfg F.XPORT_CFG_IPV || cfg F.XPORT_CFG_PAYLOAD || cfg F.XPORT_CFG_UDP_PORT) then
    [R.XPORT_CFG] else []) ++
  (if tm F.XPORT_TIMING_FILTER_AGE <
      tm F.XPORT_TIMING_RETRY_MAX * tm F.XPORT_TIMING_RTO * tm F.XPORT_TIMING_SLOW_MULT + tm F.XPORT_TIMING_LIFE then [R.XPORT_TIMING] else []) ++
  (if t.rf R.XPORT_CC F.XPORT_CC_MAX_WIN < t.rf R.XPORT_CC F.XPORT_CC_INIT_WIN then [R.XPORT_CC] else []) ++
  (if base % 2 ^ 25 ≠ 0 || decide (2 ^ 39 < base + 2 ^ 27) || meets || t.areaSlices.any (fun i => decide (s.sliceOwner i < 8)) ||
      (s.stateBase ≠ base && (s.xportEn || t.xportEn)) then [R.XPORT_STATE_BASE] else [])

/-- The largest Sirri frame that XPORT_CFG makes possible on a port (R335). -/
def State.largestFrame (s : State) (p : Nat) : Nat :=
  s.psize + 48 + 8 + (if s.rf R.XPORT_CFG F.XPORT_CFG_IPV = 1 then 40 else 20) + 16 + 18 + (if s.portCfg p F.PORT_CFG_VLAN_EN = 1 then 4 else 0)

/-- R335 and R339 for one port. -/
def portRule (t : State) (p : Nat) : List Nat :=
  let m := t.portCfg p F.PORT_CFG_MAX_FRAME
  (if m < 1518 || 9216 < m || m < t.largestFrame p || (t.portCfg p F.PORT_CFG_PFC_EN = 1 && t.portCfg p F.PORT_CFG_VLAN_EN = 0) then [R.PORT_CFG p]
    else []) ++
  (if t.rf (R.PORT_PFC p) F.PORT_PFC_XOFF_KIB ≤ t.rf (R.PORT_PFC p) F.PORT_PFC_XON_KIB then [R.PORT_PFC p] else [])

/-- R365. A window that leaves the unified range is no window. -/
def hostRule (s t : State) : List Nat :=
  if (s.reg R.HOST_SHW ≠ t.reg R.HOST_SHW && s.mem.hdm.isSome) || decide (2048 < t.shw.2) || decide (16384 < t.shw.1 + t.shw.2) ||
      t.shwSlices.any (fun i => decide (s.sliceOwner i < 8)) then [R.HOST_SHW] else []

/-- R383, R386 and R401. -/
def pwrRule (t : State) : List Nat :=
  let cap (f : Fld) : Nat := t.rf R.PWR_CAP f
  (if cap F.PWR_CAP_CAP_W < 1200 || 2200 < cap F.PWR_CAP_CAP_W ||
      cap F.PWR_CAP_CAP_W * cap F.PWR_CAP_EFF < 256 * (400 + cap F.PWR_CAP_RESERVE_W + cap F.PWR_CAP_FIXED_W) then [R.PWR_CAP] else []) ++
  (if 256 < t.halfShare 0 + t.halfShare 1 then [R.PWR_CAP_SHARE] else []) ++
  ((List.range 2).map (fun h =>
    if 255 < ((List.range 8).map (t.share h)).foldl (· + ·) 0 then [R.PWR_WARD_SHARE h] else [])).flatten ++
  (if t.rf R.PWR_DROOP_CTRL F.PWR_DROOP_CTRL_EMERG_MV ≤ t.rf R.PWR_DROOP_CTRL F.PWR_DROOP_CTRL_STRETCH_MV then [R.PWR_DROOP_CTRL] else [])

/-- The half to which a register's block belongs, if it is a block of a half (R23). -/
def halfOfAddr (a : Nat) : Option Nat := if windowOf a % 0x40 ∈ [0x01, 0x10, 0x11, 0x19] then some (windowOf a / 0x40 % 2) else none

/-- Whether R487 keeps a half's blocks out of a latch: the half is SAFE, or the other one leads without acknowledgement. -/
def State.halfBarred (s : State) (h : Nat) : Bool :=
  s.role h = 2 || (s.role (1 - h) = 0 && s.rf (R.HALF_LEAD_STATUS (1 - h)) F.HALF_LEAD_STATUS_NO_ACK = 1)

/-- Registers whose values break a rule, for a latch of a list of values. -/
def State.latchFails (s : State) (l : List (Nat × W64)) (starting : Bool) : List Nat :=
  let t := s.withTxn l
  (l.filter (fun e => outOfRange e.1 e.2 || (!starting && (match halfOfAddr e.1 with
    | some h => s.halfBarred h
    | none => false)))).map (·.1) ++
  mapRule s t 0 starting ++ mapRule s t 1 starting ++ waysRule s t 0 ++ waysRule s t 1 ++ ((List.range 8).map (rateRule t)).flatten ++
  xportRule s t ++ ((List.range 16).map (portRule t)).flatten ++ hostRule s t ++ pwrRule t

/-- The lowest of some addresses. -/
def lowest (l : List Nat) : Nat := l.foldl min (l.headD 0)

/-! ## What new values set going -/

/-- Cells that moved, or whose ABSENT bit went, start from reset (R39). -/
def State.startCells (s t : State) : State :=
  ((List.range 128).foldl (fun u k => if moves s t k || (s.absent k && !t.absent k) then u.resetCell k else u) t).countCells

/-- Urgent clearing of every region of some slices (R237). -/
def State.clearSlices (s : State) (l : List Nat) : State :=
  ((l.map sliceRegions).flatten).foldl (fun s k => s.startUrgent k) s

/-- Slices change hands: some are freed and others get an owner, each reset first (R237, R238). -/
def State.passSlices (t : State) (free take : List Nat) (owner : Nat) : State :=
  let keys := ((free ++ take).map sliceRegions).flatten
  let u := free.foldl (fun u i => u.setSliceOwner i 15) (t.endClearings keys)
  (take.foldl (fun u i => u.setSliceOwner i owner) u).readmit keys

/-- The state area has moved (R298). -/
def State.moveArea (s t : State) : State :=
  if s.stateBase = t.stateBase then t
  else
    let u := t.passSlices (s.areaSlices.filter (fun i => t.sliceOwner i = 8)) t.areaSlices 8
    (u.clearSlices t.areaSlices).modX (fun x => { x with ctxCache := [] })

/-- The shared window has changed (R365). -/
def State.moveWindow (s t : State) : State :=
  if s.reg R.HOST_SHW = t.reg R.HOST_SHW then t
  else t.passSlices (s.shwSlices.filter (fun i => !t.shwSlices.contains i)) (t.shwSlices.filter (fun i => !s.shwSlices.contains i)) 9

/-- Dirty lines of the device cache go to host memory, and the cache is empty. -/
def State.flushDevice (s : State) : State :=
  let s := s.mem.dcache.foldl (fun s e =>
    if e.2.dirty then { s with mem := { s.mem with host := putBytes s.mem.host (s.hostPhys (e.1 * 64)) e.2.data } } else s) s
  { s with mem := { s.mem with dcache := [] } }

/-- A port's new values: MODE, VLAN_EN or MAX_FRAME restarts its link (R463), and in MODE 0 its lanes are dark (R327); without PARK_EN it
returns to FULL (R348). -/
def State.restartPort (s t : State) (p : Nat) (u : State) : State :=
  let changed (f : Fld) : Bool := s.portCfg p f ≠ t.portCfg p f
  if changed F.PORT_CFG_MODE || changed F.PORT_CFG_VLAN_EN || changed F.PORT_CFG_MAX_FRAME then
    (if t.portCfg p F.PORT_CFG_MODE = 0 then (u.retime p).setPortSt p F.PORT_STATUS_LANE_OK 0 else u.retime p)
  else
    let u := if changed F.PORT_CFG_PARK_EN && t.portCfg p F.PORT_CFG_PARK_EN = 0 then u.dropCap p else u
    if s.reg (R.PORT_CFG p) ≠ t.reg (R.PORT_CFG p) || s.reg (R.PORT_PFC p) ≠ t.reg (R.PORT_PFC p) then u.pfcCheck p else u

/-- A regulator's new values (R206): the bucket keeps the tokens it has gained by now, up to its new depth. -/
def State.rebucket (s t : State) (i : Nat) (u : State) : State :=
  let a := bwReg (i / 8) (i % 8)
  if s.reg a = t.reg a then u
  else
    let tokens := 16 * s.rf a F.TIER_BWREG_DEPTH - s.deficit (i / 8) (i % 8)
    u.setBucket (i / 8) (i % 8) (16 * t.rf a F.TIER_BWREG_DEPTH - tokens)

/-- What new values set going, beyond the device cache. -/
def State.takeTxn (s : State) (l : List (Nat × W64)) : State :=
  let t := s.withTxn l
  let u := s.moveWindow (s.moveArea (s.startCells t))
  let u := (List.range 16).foldl (fun u p => s.restartPort t p u) u
  let u := (List.range 64).foldl (fun u i => s.rebucket t i u) u
  (s.endGrants u.refreshCap.relevelAll).noRoutes s.reachable

/-- Values take effect (R463). -/
def State.putTxn (s : State) (l : List (Nat × W64)) : State :=
  if s.rf R.HOST_HW_BASE F.HOST_HW_BASE_BASE = (s.withTxn l).rf R.HOST_HW_BASE F.HOST_HW_BASE_BASE then s.takeTxn l
  else s.flushDevice.takeTxn l

end Sys2Proof.Machine
end

