-- ==== Sys2Proof/Machine/Nand.lean ====
section
/-! DEFINITION. The NAND at work (R447 to R452), commits of the configuration (R453 to R457), the boot record (R449, R456), and
configuration transactions (R460 to R464). -/

namespace Sys2Proof.Machine

open Sys2Proof

/-- Changes the module controller's state. -/
def State.modMgt (s : State) (f : Mgt → Mgt) : State := { s with mgt := f s.mgt }

/-- Changes non-volatile state. -/
def State.modNv (s : State) (f : Nv → Nv) : State := { s with nv := f s.nv }

/-- Whether the next cold start makes a switch of the boot record (R447). -/
def State.setSwitchDue (s : State) (b : Bool) : State := s.modNv (fun x => { x with switchDue := b })

/-- The NAND can be used: its domain is up, its controller runs, and the boundary register does not drive its pins (R523). -/
def State.nandUp (s : State) : Bool := s.mcUp && !(s.jtag.ir ∈ [0x00, 0x05, 0x06])

/-- NAND operations may start: no power-down runs or has ended without a new start (R534). -/
def State.nandFree (s : State) : Bool :=
  match s.sup.seq with
  | .normal | .emergency => false
  | .off => !s.sup.bootDue
  | _ => true

/-! ## Blocks (R449, R450) -/

/-- A physical block is good. -/
def State.goodBlock (s : State) (p : Nat) : Bool := !nmem s.nv.factoryBad p && !nmem s.nv.retired p

/-- Reserve blocks not in use. -/
def State.reserve (s : State) : List Nat :=
  ((List.range 376).map (3720 + ·)).filter (fun p => s.goodBlock p && !(s.nv.map.any (fun e => e.2 = p)))

/-- The reserve block with the lowest erase count. -/
def State.bestReserve (s : State) : Option Nat :=
  s.reserve.foldl (fun b p => match b with
    | some q => if mget 0 s.nv.erases p < mget 0 s.nv.erases q then some p else b
    | none => some p) none

/-- CFG_NAND_STATUS. -/
def State.showNand (s : State) : State :=
  (s.setF R.CFG_NAND_STATUS F.CFG_NAND_STATUS_RESERVE_LEFT s.reserve.length).setF R.CFG_NAND_STATUS F.CFG_NAND_STATUS_RETIRED s.nv.retired.length

/-- A logical block's physical block is retired (R450): its valid pages move to the reserve. -/
def State.retireBlock (s : State) (b : Nat) : State :=
  let best := s.bestReserve
  let s := s.modNv (fun n => { n with
    retired := nput n.retired (s.physBlock b) true
    map := match best with
      | some q => n.map.filter (fun e => e.1 ≠ b) ++ [(b, q)]
      | none => n.map.filter (fun e => e.1 ≠ b) })
  let s := s.showNand.raise { ev 0x3808 1 0 0 with addr := b }
  if s.reserve.length < 16 then s.raise (ev 0x3809 0 0 0) else s

/-- Corrected bits are counted; 5 or more in a sector call for a refresh (R452). -/
def State.noteCorrected (s : State) (b bits : Nat) : State :=
  let s := s.bump R.CFG_NAND_ECC F.CFG_NAND_ECC_CORRECTED bits
  if 5 ≤ bits then s.nandPush (.refresh b) else s

/-- An unreadable page (R448). -/
def State.noteUnreadable (s : State) : State :=
  (s.bump R.CFG_NAND_ECC F.CFG_NAND_ECC_UNREADABLE 1).raise (ev 0x3807 1 0 0)

/-! ## Snapshots (R453 to R457) -/

/-- First logical block of a snapshot slot. -/
def slotBlock (slot : Nat) : Nat := if slot = 0 then 648 else 1160

/-- The snapshot in a slot. -/
def State.snap (s : State) (slot : Nat) : Option Snap := if slot = 0 then s.nv.snap0 else s.nv.snap1

/-- SEQ of a slot's snapshot, 0 without one. -/
def State.snapSeq (s : State) (slot : Nat) : Nat := ((s.snap slot).map (·.seq)).getD 0

/-- The slot that does not hold the newest snapshot. -/
def State.nextSlot (s : State) : Nat := if s.snapSeq 0 ≤ s.snapSeq 1 then 0 else 1

/-- Next page of a slot's ring. -/
def State.ringPos (s : State) (slot : Nat) : Nat := if slot = 0 then s.nv.ring0 else s.nv.ring1

/-- Sets it. -/
def State.setRingPos (s : State) (slot n : Nat) : State :=
  s.modNv (fun x => if slot = 0 then { x with ring0 := n % 32768 } else { x with ring1 := n % 32768 })

/-- Good blocks of a slot's ring (R457). -/
def State.ringGood (s : State) (slot : Nat) : Nat :=
  ((List.range 512).filter (fun i => s.goodBlock (s.physBlock (slotBlock slot + i)))).length

/-- Pages of a snapshot (R454). -/
def snapPages (n : Nat) : Nat := ceilDiv (128 + 16 * n) 2048 + 1

/-- Entries as a snapshot stores them (R454). -/
def entryBytes (l : List (Nat × W64)) : List Byte :=
  (l.map (fun e => leBytes 8 (controlBase + e.1) ++ leBytes 8 e.2.toNat)).flatten

/-- A snapshot's pages as the NAND holds them (R454): header, entries, and the commit page. -/
def Snap.pages (x : Snap) : List Byte :=
  let body := entryBytes x.entries
  let head (count : Nat) : List Byte :=
    leBytes 4 0x4B4E4346 ++ leBytes 1 1 ++ leBytes 1 1 ++ zeros 2 ++ leBytes 8 x.seq ++ leBytes 4 count ++ zeros 12 ++ sha384 body ++ zeros 48
  let tail := leBytes 4 0x4B4E4346 ++ zeros 4 ++ leBytes 8 x.seq ++ zeros 16 ++ sha384 body
  padTo (2048 * (snapPages x.entries.length - 1)) (head x.entries.length ++ body) ++ padTo 2048 tail

/-- The blocks of a slot's ring in which a snapshot lies, first one first. -/
def Snap.blocks (x : Snap) (slot : Nat) : List Nat :=
  (List.range (ceilDiv (x.page % 64 + snapPages x.entries.length) 64)).map (fun i =>
    slotBlock slot + (x.page / 64 + i) % 512)

/-- The configuration in effect as a snapshot holds it (R453). -/
def State.snapshot (s : State) : List (Nat × W64) :=
  s.regs.filterMap (fun e =>
    let v := txnOnly e.1 e.2
    if (txnFields e.1).isEmpty || v = txnOnly e.1 (regReset e.1) then none else some (e.1, v))

/-- A commit is in progress. -/
def State.committing (s : State) : Bool := s.mgt.nandOps.any (fun o => match o with
  | .commit _ _ => true
  | _ => false)

/-- CFG_PERSIST.STATE. -/
def State.setPersist (s : State) (n : Nat) : State := s.setF R.CFG_PERSIST F.CFG_PERSIST_STATE n

/-- The first page of a slot's ring at or after a block's beginning that lies in a good block: `fuel` blocks are looked at. -/
def State.skipBad (s : State) (slot pos : Nat) : Nat → Nat
  | 0 => pos
  | fuel + 1 =>
    if pos % 64 = 0 && !s.goodBlock (s.physBlock (slotBlock slot + pos / 64 % 512)) then s.skipBad slot ((pos + 64) % 32768) fuel else pos

/-- The page of a slot's ring that is written next. -/
def State.ringNext (s : State) (slot : Nat) : Nat := s.skipBad slot (s.ringPos slot) 512

/-- Pages are taken from a slot's ring, blocks being erased as the ring enters them (R451). -/
def State.takePages (s : State) (slot : Nat) : Nat → State
  | 0 => s
  | n + 1 =>
    let pos := s.ringNext slot
    let s := if pos % 64 = 0 then s.eraseBlock (slotBlock slot + pos / 64) else s
    (s.setRingPos slot (pos + 1)).takePages slot n

/-- A snapshot's pages are written from the ring's next one on. -/
def State.writeSnap (s : State) (slot : Nat) : State :=
  (s.modMgt (fun m => { m with writePage := s.ringNext slot })).takePages slot (snapPages s.mgt.writing.length)

/-- A commit is abandoned (R457). -/
def State.abandonCommit (s : State) : State :=
  ((s.modMgt (fun m => { m with writing := [] })).setPersist 4).raise (ev 0x3806 0 0 0)

/-- A commit starts (R453, R455); in a ring of fewer than 64 good blocks every commit fails (R457). -/
def State.startCommit (s : State) : State :=
  let slot := s.nextSlot
  let s := s.modMgt (fun m => { m with commitDue := false, writing := s.snapshot })
  if s.ringGood slot < 64 then s.abandonCommit
  else ((s.writeSnap slot).nandPush (.commit slot 0)).setPersist 1

/-- A commit that is due starts when the hold-up store covers it, or is deferred (R456, R539). -/
def State.tryCommit (s : State) : State :=
  if !s.mgt.commitDue || s.committing || s.evt.mcDown || !s.nandFree then s
  else
    let ok := s.covers 500 false
    let s := s.drew 2
    if ok then s.startCommit
    else if s.rf R.CFG_PERSIST F.CFG_PERSIST_STATE = 3 then s
    else (s.setPersist 3).raise (ev 0x3805 1 0 0)

/-- A commit is requested (R464). -/
def State.requestCommit (s : State) : State :=
  let s := s.modMgt (fun m => { m with commitDue := true })
  if s.committing then s.setPersist 2 else s

/-- The commit in progress is read back (R455). -/
def State.commitDone (s : State) (slot : Nat) : State :=
  let seq := max (s.snapSeq 0) (s.snapSeq 1) + 1
  let x : Snap := { seq := seq, entries := s.mgt.writing, page := s.mgt.writePage }
  let s := s.modNv (fun n => if slot = 0 then { n with snap0 := some x } else { n with snap1 := some x })
  let s := s.modMgt (fun m => { m with writing := [], digestDue := true })
  ((s.setF R.CFG_PERSIST F.CFG_PERSIST_SEQ seq).setPersist 0).raise (ev 0x3804 2 0 0) |>.tryCommit

/-- The whole snapshot is written again, from the next block of the ring; after three failures the commit is abandoned (R457). -/
def State.commitFailed (s : State) (slot fails : Nat) : State :=
  if 3 ≤ fails + 1 || s.ringGood slot < 64 then s.abandonCommit
  else
    let s := (s.setRingPos slot (((s.ringPos slot + 63) / 64) * 64)).writeSnap slot
    s.modMgt (fun m => { m with nandOps := .commit slot (fails + 1) :: m.nandOps })

/-! ## The boot record (R449, R456) -/

/-- MGMT_FW_STATUS shows what the boot record holds or is about to hold (R480). -/
def State.showBoot (s : State) (active a b tries : Nat) : State :=
  let r := R.MGMT_FW_STATUS
  (((s.setF r F.MGMT_FW_STATUS_ACTIVE_SLOT active).setF r F.MGMT_FW_STATUS_SLOT0_STATE a).setF r F.MGMT_FW_STATUS_SLOT1_STATE b).setF r
    F.MGMT_FW_STATUS_TRIES tries

/-- The boot record as last set: ACTIVE, the two slot states, TRIES. -/
def State.bootRec (s : State) : Nat × Nat × Nat × Nat := s.mgt.boot.getD (s.nv.active, s.nv.slot0, s.nv.slot1, s.nv.tries)

/-- The boot record changes, at once or when the hold-up store covers the update (R456, R539). -/
def State.putBoot (s : State) (active a b tries : Nat) : State :=
  let ok := s.covers 50 false
  let s := (s.drew 2).showBoot active a b tries
  if ok then (s.modNv (fun n => { n with active := active, slot0 := a, slot1 := b, tries := tries })).modMgt (fun m => { m with boot := none })
  else s.modMgt (fun m => { m with boot := some (active, a, b, tries) })

/-- A deferred boot record is written once the energy is there. -/
def State.flushBoot (s : State) : State :=
  match s.mgt.boot with
  | some (a, b, c, d) => s.putBoot a b c d
  | none => s

/-- COMMIT_START (R456). -/
def execCommitStart (s : State) : Host.Outcome State Fault Refusal := .next (if s.nandUp && s.nandFree then s.flushBoot.tryCommit else s)

/-! ## NAND operations that end (R447, R448, R450, R452) -/

/-- A snapshot whose page cannot be read no longer counts as sound (R455). -/
def State.unsound (s : State) (b : Nat) : State :=
  s.modNv (fun n =>
    if 648 ≤ b ∧ b < 1160 then { n with snap0 := n.snap0.map (fun x => { x with sound := false }) }
    else if 1160 ≤ b ∧ b < 1672 then { n with snap1 := n.snap1.map (fun x => { x with sound := false }) }
    else n)

/-! ## Refreshes (R452) -/

/-- First logical block and number of blocks of the partition that holds a block (R449). -/
def partitionOf (b : Nat) : Nat × Nat :=
  if b < 8 then (0, 8) else if b < 264 then (8, 256) else if b < 520 then (264, 256) else if b < 648 then (520, 128)
  else if b < 1160 then (648, 512) else if b < 1672 then (1160, 512) else if b < 3720 then (1672, 2048) else (3720, 376)

/-- Blocks at the beginning of a partition that hold data: an image's, by its length; of the factory records (factory item 10). -/
def State.dataBlocks (s : State) (first : Nat) : Nat :=
  if first = 8 then ceilDiv ((s.nv.image0.map (·.len)).getD 0) 131072
  else if first = 264 then ceilDiv ((s.nv.image1.map (·.len)).getD 0) 131072
  else Config.factory 10 0 % 128

/-- The block without data with the lowest erase count of a partition that is no ring. -/
def State.spareOf (s : State) (b : Nat) : Nat :=
  let p := partitionOf b
  (((List.range p.2).drop (s.dataBlocks p.1)).map (p.1 + ·)).foldl (fun best c =>
    if s.goodBlock (s.physBlock c) && c ≠ b &&
        (best = b || decide (mget 0 s.nv.erases (s.physBlock c) < mget 0 s.nv.erases (s.physBlock best))) then c else best) b

/-- The next block that a ring of `n` pages from a logical block on enters, not block `b` itself. -/
def ringTarget (first n pos b : Nat) : Nat :=
  let t := (pos + 63) / 64 % (n / 64)
  if first + t = b then (t + 1) % (n / 64) else t

/-- The block to which a refresh copies a block's pages: of the same partition, where there is one to erase. -/
def State.refreshTo (s : State) (b : Nat) : Nat :=
  let p := partitionOf b
  if p.1 = 648 then 648 + ringTarget 648 32768 s.nv.ring0 b
  else if p.1 = 1160 then 1160 + ringTarget 1160 32768 s.nv.ring1 b
  else if p.1 = 1672 then 1672 + ringTarget 1672 logPages s.evt.pagePos b
  else if p.1 = 0 ∨ p.1 = 3720 then b
  else s.spareOf b

/-- The map: block `b`'s pages lie where block `t` lay, and the other way round. -/
def State.swapBlocks (s : State) (b t : Nat) : State :=
  let x := s.physBlock b
  let y := s.physBlock t
  if b = t then s
  else s.modNv (fun n => { n with
    map := n.map.filter (fun e => e.1 ≠ b && e.1 ≠ t) ++ [(b, y), (t, x)], reads := mset 0 n.reads b 0 })

/-- A ring's write position moves past block `t`. -/
def State.passBlock (s : State) (t : Nat) : State :=
  let p := partitionOf t
  let next := (t - p.1 + 1) * 64
  if p.1 = 648 then s.setRingPos 0 next
  else if p.1 = 1160 then s.setRingPos 1 next
  else if p.1 = 1672 then
    let after := (t - 1672 + 1) % 2048
    let s := { s with evt := { s.evt with
      pages := s.evt.pages.filter (fun e => e.1 / 64 ≠ t - 1672 && e.1 / 64 ≠ after), pagePos := next % logPages } }
    (s.eraseBlock (1672 + after)).showPages
  else s

/-- A refresh of a block: its pages are copied to a freshly erased block of the same partition, and the map follows. -/
def State.refreshed (s : State) (b : Nat) : State :=
  let t := s.refreshTo b
  let s := (s.eraseBlock t).swapBlocks b t
  if t = b then s else s.passBlock t

/-- How one operation ends. -/
def State.nandEnd (s : State) (op : NandOp) (res : NandResult) : State :=
  match op with
  | .commit slot fails =>
    let b := slotBlock slot + (s.ringPos slot + 32767) % 32768 / 64
    match res with
    | .ok => s.commitDone slot
    | .corrected n => (s.noteCorrected b n).commitDone slot
    | .opFailed => (s.retireBlock b).commitFailed slot fails
    | .unreadable => s.noteUnreadable.commitFailed slot fails
  | .read b =>
    match res with
    | .corrected n => (s.noteRead b).noteCorrected b n
    | .unreadable => ((s.noteRead b).noteUnreadable).unsound b
    | _ => s.noteRead b
  | .refresh b =>
    match res with
    | .ok => s.refreshed b
    | .corrected n =>
      let s := (s.refreshed b).bump R.CFG_NAND_ECC F.CFG_NAND_ECC_CORRECTED n
      if 7 ≤ n then s.retireBlock b else s
    | .opFailed => (s.retireBlock (s.refreshTo b)).nandPush (.refresh b)
    | .unreadable => s.noteUnreadable.unsound b
  | .page b =>
    match res with
    | .opFailed => s.retireBlock b
    | .corrected n => s.noteCorrected b n
    | .unreadable => s.noteUnreadable
    | .ok => s

/-- NAND_OP_DONE: the operation in progress ends; a refresh needs its energy (R539). -/
def execNandOpDone (res : NandResult) (s : State) : Host.Outcome State Fault Refusal :=
  .next (
    if !s.nandUp then s
    else match s.mgt.nandOps with
    | [] => s
    | .refresh b :: rest =>
      if s.covers 250 false then ((s.drew 2).modMgt (fun m => { m with nandOps := rest })).nandEnd (.refresh b) res else s.drew 2
    | op :: rest => (s.modMgt (fun m => { m with nandOps := rest })).nandEnd op res)

/-- NAND_PATROL (R452): a page is read. -/
def execNandPatrol (page corrected : Nat) (s : State) : Host.Outcome State Fault Refusal :=
  .next (if s.nandUp && s.nandFree then (s.noteRead (page / 64)).noteCorrected (page / 64) corrected else s)

/-! ## Transactions (R460 to R464) -/

/-- A field of CFG_TXN_STATUS. -/
def State.txn (s : State) (f : Fld) : Nat := s.rf R.CFG_TXN_STATUS f

/-- Sets it. -/
def State.setTxn (s : State) (f : Fld) (x : Nat) : State := s.setF R.CFG_TXN_STATUS f x

/-- OWNER code of a requester that may own a transaction. -/
def ownerOf : Requester → Option Nat
  | .host => some 0
  | .mc => some 1
  | _ => none

/-- Whether a requester owns the transaction. -/
def State.owns (s : State) (who : Requester) : Bool := ownerOf who = some (s.txn F.CFG_TXN_STATUS_OWNER)

/-- The transaction ends: IDLE, nothing staged. -/
def State.endTxn (s : State) : State :=
  (((s.setTxn F.CFG_TXN_STATUS_STATE 0).setTxn F.CFG_TXN_STATUS_OVERFLOW 0).setTxn F.CFG_TXN_STATUS_STAGED 0).modMgt (fun m =>
    { m with staged := [], overAddr := 0 })

/-- TXN_BEGIN. -/
def ctlTxnBegin (who : Requester) (s : State) : Host.Outcome State Fault Refusal :=
  .next (s.ctlDo who R.CFG_TXN_CTRL (chk (s.txn F.CFG_TXN_STATUS_STATE ≠ 0 || (ownerOf who).isNone) St.bounds) (fun s =>
    let s := s.endTxn
    let s := (s.setTxn F.CFG_TXN_STATUS_STATE 1).setTxn F.CFG_TXN_STATUS_OWNER ((ownerOf who).getD 0)
    (s.addF R.CFG_TXN_STATUS F.CFG_TXN_STATUS_TXN_ID 1).modMgt (fun m => { m with touched := s.now })))

/-- Stages a value (R460, R461): the state and the status of the write. -/
def State.stage (s : State) (who : Requester) (a : Nat) (v : W64) : State × Nat :=
  if s.txn F.CFG_TXN_STATUS_STATE ≠ 1 || !s.owns who then (s, St.bounds)
  else if s.mgt.staged.any (fun e => e.1 = a) || decide (s.mgt.staged.length < 8192) then
    let l := minsert a (txnOnly a v) s.mgt.staged
    ((s.modMgt (fun m => { m with staged := l, touched := s.now })).setTxn F.CFG_TXN_STATUS_STAGED l.length, St.ok)
  else if s.txn F.CFG_TXN_STATUS_OVERFLOW = 1 then (s, St.bounds)
  else ((s.modMgt (fun m => { m with overAddr := a })).setTxn F.CFG_TXN_STATUS_OVERFLOW 1, St.bounds)

/-- A write to a register with TXN fields. -/
def State.txnWrite (s : State) (who : Requester) (a : Nat) (v : W64) : State :=
  let c := worst (s.reach who a) (chk (a % 8 ≠ 0) St.bounds)
  if c ≠ St.ok then s.ctlEnd who a c
  else if (txnFields a).isEmpty then s.ctlEnd who a St.ok
  else
    let r := s.stage who a v
    r.1.ctlEnd who a r.2

/-- TXN_FIELD_WRITE (R9, R460, R461); an address without a TXN field stages nothing (R8, R25). -/
def ctlTxnFieldWrite (who : Requester) (addr : Nat) (val : W64) (s : State) : Host.Outcome State Fault Refusal :=
  .next (s.txnWrite who addr val)

/-- A latch is rejected: FAIL_ADDR is a device address (R461, R462). -/
def State.rejectLatch (s : State) (a : Nat) : State :=
  ((s.setTxn F.CFG_TXN_STATUS_STATUS St.bounds).setF R.CFG_TXN_FAIL F.CFG_TXN_FAIL_ADDR (controlBase + a)).raise
    { ev 0x3802 1 0 0 with addr := controlBase + a }

/-- TXN_LATCH (R460 to R462): rejected, or accepted and waiting for T_L. -/
def ctlTxnLatch (who : Requester) (persist : Bool) (s : State) : Host.Outcome State Fault Refusal :=
  .next (s.ctlDo who R.CFG_TXN_CTRL (chk (s.txn F.CFG_TXN_STATUS_STATE ≠ 1 || !s.owns who) St.bounds) (fun s =>
    if s.txn F.CFG_TXN_STATUS_OVERFLOW = 1 then s.rejectLatch s.mgt.overAddr
    else
      let l := s.latchFails s.mgt.staged false
      if l.isEmpty then
        (s.setTxn F.CFG_TXN_STATUS_STATE 2).modMgt (fun m => { m with accepted := some m.staged, persist := persist })
      else s.rejectLatch (lowest l)))

/-- LATCH_EFFECT (R463, R464): at T_L the values take effect, and a commit is requested where the latch asked for one. -/
def execLatchEffect (s : State) : Host.Outcome State Fault Refusal :=
  .next (
    match s.mgt.accepted with
    | none => s
    | some l =>
      let persist := s.mgt.persist
      let s := (s.endTxn.modMgt (fun m => { m with accepted := none, persist := false })).setTxn F.CFG_TXN_STATUS_STATUS St.ok
      let s := (s.putTxn l).raise (ev 0x3801 2 0 0)
      if persist then s.requestCommit else s)

/-- TXN_ROLLBACK. -/
def ctlTxnRollback (who : Requester) (s : State) : Host.Outcome State Fault Refusal :=
  .next (s.ctlDo who R.CFG_TXN_CTRL (chk (s.txn F.CFG_TXN_STATUS_STATE ≠ 1 || !s.owns who) St.bounds) State.endTxn)

/-- TXN_TIMEOUT: an open transaction that has not been touched for TIMEOUT_S; 0 acts as 1. -/
def execTxnTimeout (s : State) : Host.Outcome State Fault Refusal :=
  .next (
    if s.txn F.CFG_TXN_STATUS_STATE = 1 && decide (s.mgt.touched + max 1 (s.rf R.CFG_TXN_CTRL F.CFG_TXN_CTRL_TIMEOUT_S) * 1800000000 ≤ s.now) then
      s.endTxn.raise (ev 0x3803 1 0 0)
    else s)

end Sys2Proof.Machine
end

