-- ==== Sys2Proof/Machine/Lead.lean ====
section
/-! DEFINITION. Leadership and the lease (R482 to R489), the watch over controllers, and their restarts (R468, R488). -/

namespace Sys2Proof.Machine

open Sys2Proof

/-- A half controller runs: from stage 1, and not while it restarts (R444, R488). -/
def State.hcUp (s : State) (h : Nat) : Bool := decide (1 ≤ s.rf R.MGMT_STAGE F.MGMT_STAGE_STAGE) && !nmem s.evt.hcDown h

/-- Epoch E of a half. -/
def State.epoch (s : State) (h : Nat) : Nat := s.rf (R.HALF_LEAD_STATUS h) F.HALF_LEAD_STATUS_EPOCH

/-- Sets it. -/
def State.setEpoch (s : State) (h e : Nat) : State := s.setF (R.HALF_LEAD_STATUS h) F.HALF_LEAD_STATUS_EPOCH e

/-- Messages that a half sends (R484). -/
def State.hingeSend (s : State) (h : Nat) (l : List (Nat × Nat)) : State :=
  s.modMgt (fun m => { m with hinge := mset [] m.hinge h l })

/-- The time of a half's lease starts again. -/
def State.leaseNow (s : State) (h : Nat) : State := s.modMgt (fun m => { m with leaseAt := mset 0 m.leaseAt h s.now })

/-- The time of a half's role starts again. -/
def State.roleNow (s : State) (h : Nat) : State := s.modMgt (fun m => { m with roleAt := mset 0 m.roleAt h s.now })

/-- 2.5 ms have passed since a half took its role, and since it last accepted a LEASE or a LEASE_ACK. -/
def State.leaseOver (s : State) (h : Nat) : Bool := decide (max (mget 0 s.mgt.leaseAt h) (mget 0 s.mgt.roleAt h) + 4500000 ≤ s.now)

/-- Messages cross the hinge while one of its sublinks works (R484). -/
def State.hinged (s : State) : Bool := decide (s.clk.sublinks.length < 32)

/-- A half controller runs and a message of the other one reaches it. -/
def State.hears (s : State) (h : Nat) : Bool := s.hcUp h && s.hinged

/-- A half takes a role (R485): the change is counted, its cells' levels follow (R487), and a half that no longer leads has no NO_ACK. -/
def State.takeRole (s : State) (h role : Nat) : State :=
  let s := (s.setF (R.HALF_LEAD_STATUS h) F.HALF_LEAD_STATUS_ROLE role).setF (R.HALF_LEAD_STATUS h) F.HALF_LEAD_STATUS_NO_ACK 0
  ((s.bump (R.HALF_LEAD_COUNT h) F.HALF_LEAD_COUNT_CHANGES 1).roleNow h).relevel h

/-- A HALF event of a half. -/
def State.halfEvent (s : State) (low cls h : Nat) : State := s.raise (ev (halfCode (0x0100 + low) h) cls h 1)

/-- A change of role that the table names no alarm for. -/
def State.changeRole (s : State) (h role : Nat) : State := (s.takeRole h role).halfEvent 0x21 1 h

/-- LEASE_TX. -/
def execLeaseTx (half : Nat) (s : State) : Host.Outcome State Fault Refusal :=
  .next (if s.hcUp half && s.role half = 0 then s.hingeSend half [(0, s.epoch half)] else s)

/-- A half follows with a message's epoch. -/
def State.follow (s : State) (h e : Nat) : State := (s.setEpoch h e).changeRole h 1

/-- LEASE_RX. -/
def execLeaseRx (half epoch : Nat) (s : State) : Host.Outcome State Fault Refusal :=
  .next (
    if !s.hears half then s
    else
      let e := s.epoch half
      let r := s.role half
      if epoch < e then s.hingeSend half [(2, e)]
      else if r = 1 then ((s.setEpoch half epoch).leaseNow half).hingeSend half [(1, epoch)]
      else if r = 2 then ((s.follow half epoch).leaseNow half).hingeSend half [(1, epoch)]
      else if e < epoch then (s.follow half epoch).leaseNow half
      else s)

/-- LEASE_ACK_RX: the follow half has accepted the lease of this epoch. -/
def execLeaseAckRx (half epoch : Nat) (s : State) : Host.Outcome State Fault Refusal :=
  .next (
    if s.hears half && s.role half = 0 && s.epoch half = epoch then
      (s.setF (R.HALF_LEAD_STATUS half) F.HALF_LEAD_STATUS_NO_ACK 0).leaseNow half
    else s)

/-- LEASE_NAK_RX. -/
def execLeaseNakRx (half epoch : Nat) (s : State) : Host.Outcome State Fault Refusal :=
  .next (if s.hears half && s.role half = 0 && decide (s.epoch half < epoch) then s.follow half epoch else s)

/-- A half takes LEAD with an epoch and sends LEASE at once. -/
def State.takeLead (s : State) (h e : Nat) (first : List (Nat × Nat)) : State :=
  ((s.setEpoch h e).changeRole h 0).hingeSend h (first ++ [(0, e)])

/-- HANDOFF_RX. -/
def execHandoffRx (half epoch : Nat) (s : State) : Host.Outcome State Fault Refusal :=
  .next (
    if s.hears half && (s.role half = 1 || s.role half = 2) && decide (s.epoch half < epoch) then s.takeLead half epoch [(4, epoch)] else s)

/-- ACCEPT_RX. -/
def execAcceptRx (half epoch : Nat) (s : State) : Host.Outcome State Fault Refusal :=
  .next (
    if s.hears half && (s.role half = 0 || s.role half = 3) && decide (s.epoch half < epoch) then s.follow half epoch else s)

/-- LEASE_LAPSE: no accepted LEASE for 2.5 ms, or the hinge link down. -/
def execLeaseLapse (half : Nat) (s : State) : Host.Outcome State Fault Refusal :=
  .next (
    if s.hcUp half && s.role half = 1 && (s.leaseOver half || !s.hinged) then
      ((s.takeRole half 2).bump (R.HALF_LEAD_COUNT half) F.HALF_LEAD_COUNT_LAPSES 1).halfEvent 0x20 0 half
    else s)

/-- LEASE_NO_ACK: no LEASE_ACK for 2.5 ms. -/
def execLeaseNoAck (half : Nat) (s : State) : Host.Outcome State Fault Refusal :=
  .next (
    if s.hcUp half && s.role half = 0 && s.rf (R.HALF_LEAD_STATUS half) F.HALF_LEAD_STATUS_NO_ACK = 0 && s.leaseOver half then
      (s.setF (R.HALF_LEAD_STATUS half) F.HALF_LEAD_STATUS_NO_ACK 1).halfEvent 0x22 0 half
    else s)

/-- HANDOFF_STALL: no ACCEPT for 1 ms, and HANDOFF is sent again. -/
def execHandoffStall (half : Nat) (s : State) : Host.Outcome State Fault Refusal :=
  .next (
    if s.hcUp half && s.role half = 3 && decide (mget 0 s.mgt.roleAt half + 1800000 ≤ s.now) then
      ((s.roleNow half).hingeSend half [(3, s.epoch half + 1)]).halfEvent 0x23 0 half
    else s)

/-! ## Orders of the module controller (R486, R506) -/

/-- The order TAKE_LEAD reaches a half. -/
def State.orderTake (s : State) (h e : Nat) : State :=
  if s.hcUp h && s.role h ≠ 0 && decide (s.epoch h < e) then s.takeLead h e [] else s

/-- The order HAND_OFF reaches a half. -/
def State.orderHand (s : State) (h : Nat) : State :=
  if s.hcUp h && s.role h = 0 then (s.changeRole h 3).hingeSend h [(3, s.epoch h + 1)] else s

/-- ORDER_TAKE_LEAD. -/
def ctlOrderTakeLead (who : Requester) (half epoch : Nat) (s : State) : Host.Outcome State Fault Refusal :=
  .next (s.ctlDo who (R.HALF_LEAD_CTRL half) (chk (who ≠ .mc) St.wardFault) (fun s => s.orderTake half (epoch % 2 ^ 32)))

/-- ORDER_HAND_OFF. -/
def ctlOrderHandOff (who : Requester) (half : Nat) (s : State) : Host.Outcome State Fault Refusal :=
  .next (s.ctlDo who (R.HALF_LEAD_CTRL half) (chk (who ≠ .mc) St.wardFault) (fun s => s.orderHand half))

/-! ## Restarts (R468, R488, R489) -/

/-- A half controller's restart begins. -/
def State.hcRestart (s : State) (h : Nat) : State := { s with evt := { s.evt with hcDown := nput s.evt.hcDown h true } }

/-- The module controller's restart begins: an open transaction is rolled back (R468). -/
def State.mcRestart (s : State) : State := { s.endTxn with evt := { s.evt with mcDown := true } }

/-- The next restart of a live switch, once its condition holds: a half that leads first hands off. After the last one the strap's half
leads again (R489). -/
def State.advanceSwitch (s : State) : State :=
  if s.evt.mcDown then s
  else match s.mgt.switching with
  | .halfCtl h :: _ =>
    if nmem s.evt.hcDown h || s.role h = 3 then s
    else if s.role h = 0 then s.orderHand h
    else s.hcRestart h
  | .moduleCtl :: _ => s
  | [] => if s.mgt.live && s.role 1 = 0 && s.role 0 = 1 then s.orderHand 1 else s

/-- HC_STATUS_POLL: the module controller asks each half controller, and goes on with a switch. -/
def execHcStatusPoll (s : State) : Host.Outcome State Fault Refusal :=
  .next (
    if s.evt.mcDown then s
    else
      let n (h : Nat) : Nat := if s.hcUp h then 0 else mget 0 s.mgt.silent h + 1
      (s.modMgt (fun m => { m with silent := mset 0 (mset 0 m.silent 0 (n 0)) 1 (n 1) })).advanceSwitch)

/-- HC_HANG: TAKE_LEAD in the other half first when the silent one led; then the restart. -/
def execHcHang (half : Nat) (s : State) : Host.Outcome State Fault Refusal :=
  .next (
    if s.evt.mcDown || !s.hcUp half then s
    else
      let s := s.halfEvent 0x25 0 half
      let s := if s.role half = 0 then s.orderTake (1 - half) (max (s.epoch 0) (s.epoch 1) + 1) else s
      s.hcRestart half)

/-- MC_WATCHDOG. -/
def execMcWatchdog (s : State) : Host.Outcome State Fault Refusal := .next (if s.evt.mcDown || !s.sup.standby then s else s.mcRestart)

/-- CONTROLLER_RESTART_DONE: a half comes up as FOLLOW with epoch 0 and step-ups resume; the module controller's windows return, and
MC_RESTART follows a restart by the watchdog. -/
def execControllerRestartDone (which : Controller) (s : State) : Host.Outcome State Fault Refusal :=
  .next (
    match which with
    | .halfCtl h =>
      if nmem s.evt.hcDown h then
        let s := { s with evt := { s.evt with hcDown := nput s.evt.hcDown h false } }
        let s := s.modMgt (fun m => { m with switching := m.switching.filter (fun c => c ≠ .halfCtl h), silent := mset 0 m.silent h 0 })
        let s := if s.role h = 1 then (s.roleNow h).relevel h else s.changeRole h 1
        ((s.setEpoch h 0).deliver h).advanceSwitch
      else s
    | .moduleCtl =>
      if s.evt.mcDown then
        let s := { s with evt := { s.evt with mcDown := false } }
        let s := (s.deliver 0).deliver 1
        match s.mgt.switching with
        | .moduleCtl :: rest => (s.modMgt (fun m => { m with switching := rest })).advanceSwitch
        | _ => s.raise (ev 0x0011 0 0 0)
      else s)

end Sys2Proof.Machine
end

