-- ==== Sys2Proof/Machine/Fw.lean ====
section
/-! DEFINITION. Firmware images and the operations on them (R465 to R468). -/

namespace Sys2Proof.Machine

open Sys2Proof

/-! ## Images (R465, R466) -/

/-- The Kenaris firmware key. -/
def firmwareKey : List Byte := leBytes 97 (Config.factory 5 0)

/-- A little-endian field of an image's header. -/
def hdr (bs : List Byte) (off n : Nat) : Nat := leNat (slice bs off n)

/-- What a header says. -/
def imageOf (bs : List Byte) : Image :=
  { version := BitVec.ofNat 64 (hdr bs 16 8), svn := hdr bs 12 4, mcDigest := slice bs 40 48, hcDigest := slice bs 88 48,
    len := hdr bs 8 4 }

/-- A section, named by its offset and length at `at_` in the header, lies in the image and has the digest at `dig`. -/
def sectionOk (bs : List Byte) (at_ dig : Nat) : Bool :=
  let off := hdr bs at_ 4
  let len := hdr bs (at_ + 4) 4
  decide (off + len ≤ bs.length) && sha384 (slice bs off len) == slice bs dig 48

/-- The four checks of R466. -/
def imageOk (bs : List Byte) (fuse : Nat) : Bool :=
  hdr bs 0 4 = 0x4B4E4657 && hdr bs 4 1 = 1 &&
    ecdsaVerify firmwareKey (sha384 (slice bs 0 136)) (slice bs 136 96) &&
    sectionOk bs 24 40 && sectionOk bs 32 88 && decide (fuse ≤ hdr bs 12 4)

/-! ## The slots -/

/-- The slot that runs. -/
def State.runSlot (s : State) : Nat := s.rf R.MGMT_FW_STATUS F.MGMT_FW_STATUS_RUN_SLOT

/-- The other slot. -/
def State.otherSlot (s : State) : Nat := 1 - s.runSlot

/-- State of a slot: 0 EMPTY, 1 VALID, 2 TRIAL, 3 BAD. -/
def State.slotState (s : State) (n : Nat) : Nat := if n = 0 then s.bootRec.2.1 else s.bootRec.2.2.1

/-- The boot record with a slot's state, an ACTIVE slot and TRIES. -/
def State.setSlot (s : State) (n st active tries : Nat) : State :=
  let (_, a, b, _) := s.bootRec
  if n = 0 then s.putBoot active st b tries else s.putBoot active a st tries

/-- VERSION of a slot's image, 0 when EMPTY. -/
def State.showVersion (s : State) (n : Nat) : State :=
  let i := if n = 0 then s.nv.image0 else s.nv.image1
  s.setReg (R.MGMT_FW_VERSION n) ((i.map (·.version)).getD 0)

/-- Puts an image into a slot. -/
def State.putImage (s : State) (n : Nat) (i : Image) : State :=
  (s.modNv (fun x => if n = 0 then { x with image0 := some i } else { x with image1 := some i })).showVersion n

/-! ## The operations (R467) -/

/-- A field of MGMT_FW_OPSTATUS. -/
def State.setOp (s : State) (f : Fld) (x : Nat) : State := s.setF R.MGMT_FW_OPSTATUS f x

/-- The operation ends with a status. -/
def State.fwEnd (s : State) (st : Nat) : State :=
  ((s.setOp F.MGMT_FW_OPSTATUS_BUSY 0).setOp F.MGMT_FW_OPSTATUS_STATUS st).modMgt (fun m => { m with fwOp := none })

/-- A range lies in the shared window. -/
def State.inShared (s : State) (a n : Nat) : Bool := decide (s.shw.1 * 2 ^ 25 ≤ a ∧ a + n ≤ (s.shw.1 + s.shw.2) * 2 ^ 25)

/-- What an operation completes with before it does anything. -/
def State.fwChk (s : State) (op len addr : Nat) : Nat :=
  chk (match op with
    | 1 => decide (24 * 2 ^ 20 < len) || addr % 64 ≠ 0 || !s.inShared addr len
    | 2 => s.slotState s.otherSlot ≠ 1
    | 3 => s.slotState s.otherSlot ≠ 1 || s.rf R.MGMT_STAGE F.MGMT_STAGE_STAGE ≠ 4 || (List.range 8).any (fun w => s.wardState w = 4)
    | 4 => s.slotState s.runSlot ≠ 2
    | _ => addr % 64 ≠ 0 || !s.inShared addr len) St.bounds

/-- A live switch begins (R468): the other slot runs, the open transaction is rolled back, OPEN and LOCKED wards enter FAULT (R416, R430), and the
controllers restart in turn, the module controller first. -/
def State.beginSwitch (s : State) : State :=
  let n := s.otherSlot
  let s := s.setF R.MGMT_FW_STATUS F.MGMT_FW_STATUS_RUN_SLOT n
  let s := s.modMgt (fun m => { m with live := true, switching := [.moduleCtl, .halfCtl 1, .halfCtl 0] })
  ((s.raise (ev 0x0003 1 0 0)).faultWards).mcRestart

/-- SWITCH_LIVE takes place once no commit is in progress. -/
def State.trySwitch (s : State) : State :=
  match s.mgt.fwOp with
  | some o =>
    if o.op = 3 && !o.started && !s.committing then
      let from_ := s.runSlot
      let s := s.setSlot s.otherSlot 2 s.otherSlot 0
      (s.modMgt (fun m => { m with fwOp := some { o with started := true }, fallback := some from_ })).beginSwitch
    else s
  | none => s

/-- GO of MGMT_FW_CTRL: ignored while an operation is in progress. -/
def State.fwGo (s : State) (who : Requester) (op len : Nat) : State :=
  s.ctlDo who R.MGMT_FW_CTRL St.ok (fun s =>
    if s.rf R.MGMT_FW_OPSTATUS F.MGMT_FW_OPSTATUS_BUSY = 1 then s
    else
      let addr := s.rf R.MGMT_FW_ADDR F.MGMT_FW_ADDR_ADDR
      let s := s.setOp F.MGMT_FW_OPSTATUS_DONE_KIB 0
      let c := s.fwChk op len addr
      if c ≠ St.ok then s.fwEnd c
      else ((s.setOp F.MGMT_FW_OPSTATUS_BUSY 1).modMgt (fun m => { m with fwOp := some { op := op, len := len, addr := addr } })).trySwitch)

/-- FW_INSTALL. -/
def ctlFwInstall (who : Requester) (len : Nat) (s : State) : Host.Outcome State Fault Refusal := .next (s.fwGo who 1 len)

/-- FW_SWITCH_NEXT. -/
def ctlFwSwitchNext (who : Requester) (s : State) : Host.Outcome State Fault Refusal := .next (s.fwGo who 2 0)

/-- FW_SWITCH_LIVE. -/
def ctlFwSwitchLive (who : Requester) (s : State) : Host.Outcome State Fault Refusal := .next (s.fwGo who 3 0)

/-- FW_CONFIRM. -/
def ctlFwConfirm (who : Requester) (s : State) : Host.Outcome State Fault Refusal := .next (s.fwGo who 4 0)

/-- FW_INSTALL_CAL. -/
def ctlFwInstallCal (who : Requester) (len : Nat) (s : State) : Host.Outcome State Fault Refusal := .next (s.fwGo who 5 len)

/-- INSTALL: the slot not running is erased and written, and becomes VALID or BAD. A source that cannot be read gives its own status. -/
def State.install (s : State) (o : FwOp) : State :=
  let (s, bs, st) := s.uRead o.addr o.len 0 false
  let n := s.otherSlot
  let s := (List.range 256).foldl (fun s i => s.eraseBlock (8 + 256 * n + i)) s
  let ok := st = St.ok && imageOk bs s.nv.svnFuse
  let s := (s.putImage n (imageOf bs)).setOp F.MGMT_FW_OPSTATUS_DONE_KIB (o.len / 1024)
  let s := s.setSlot n (if ok then 1 else 3) s.bootRec.1 s.bootRec.2.2.2
  s.fwEnd (if ok then St.ok else if st = St.ok then St.tagFail else st)

/-- The coefficients of the calibration record in effect (R403): the one installed last, else the one made at manufacture. -/
def State.calCoef (s : State) (k : Nat) : W64 :=
  match s.nv.cal.find? (fun e => e.1 = k) with
  | some e => BitVec.ofNat 64 e.2.toNat
  | none => BitVec.ofNat 64 (Config.factory 3 k % 2 ^ 32)

/-- They are loaded. -/
def State.loadCal (s : State) : State := (List.range 9).foldl (fun s k => s.setReg (R.PWR_MODEL_COEF k) (s.calCoef k)) s

/-- INSTALL_CAL. -/
def State.installCal (s : State) (o : FwOp) : State :=
  let (s, bs, st) := s.uRead o.addr o.len 0 false
  let s := s.setOp F.MGMT_FW_OPSTATUS_DONE_KIB (o.len / 1024)
  if st ≠ St.ok then s.fwEnd st
  else match Config.calOpen firmwareKey bs with
    | none => s.fwEnd St.tagFail
    | some l =>
      let cal := (List.range 9).map (fun i => (i, (l[i]?).getD 0))
      ((s.modNv (fun n => { n with cal := cal })).loadCal).fwEnd St.ok

/-- CONFIRM: the running slot becomes VALID, and the fused counter rises to its SVN. -/
def State.confirm (s : State) : State :=
  let i := if s.runSlot = 0 then s.nv.image0 else s.nv.image1
  let fuse := max s.nv.svnFuse ((i.map (·.svn)).getD 0)
  let s := s.setSlot s.runSlot 1 s.bootRec.1 s.bootRec.2.2.2
  let s := (s.modNv (fun n => { n with svnFuse := fuse })).modMgt (fun m => { m with fallback := none })
  (s.setF R.MGMT_FW_STATUS F.MGMT_FW_STATUS_SVN_FUSE fuse).fwEnd St.ok

/-- What writes blocks of the NAND, where it can be used and the hold-up store covers a block (R534, R539); else it waits. -/
def State.ifCovered (s : State) (f : State → State) : State :=
  if !s.nandUp || !s.nandFree then s
  else if s.covers 250 false then f (s.drew 2)
  else s.drew 2

/-- FW_OP_DONE: the operation in progress has its effect; a live switch ends after the last of its restarts. -/
def execFwOpDone (s : State) : Host.Outcome State Fault Refusal :=
  .next (
    if !s.mcUp then s
    else match s.mgt.fwOp with
    | none => s
    | some o =>
      match o.op with
      | 1 => s.ifCovered (fun s => s.install o)
      | 2 =>
        (((s.setSlot s.otherSlot 2 s.otherSlot 0).setSwitchDue true).modMgt (fun m =>
          { m with fallback := some s.runSlot, live := false })).fwEnd St.ok
      | 3 =>
        if o.started then
          (if s.mgt.switching.isEmpty then (s.modMgt (fun m => { m with trialAt := s.now })).fwEnd St.ok else s)
        else s.trySwitch
      | 4 => s.confirm
      | _ => s.ifCovered (fun s => s.installCal o))

/-- FW_CONFIRM_TIMEOUT: a TRIAL image that has reached stage 4 and has not been confirmed within CONFIRM_MIN minutes goes back to the other
slot, in the way the module switched. -/
def execFwConfirmTimeout (s : State) : Host.Outcome State Fault Refusal :=
  .next (
    let n := s.otherSlot
    if s.mcUp && s.rf R.MGMT_STAGE F.MGMT_STAGE_STAGE = 4 && s.slotState s.runSlot = 2 && s.bootRec.1 = s.runSlot && s.slotState n = 1 &&
        decide (s.mgt.trialAt + s.rf R.MGMT_FW_STATUS F.MGMT_FW_STATUS_CONFIRM_MIN * 108000000000 ≤ s.now) then
      let live := s.mgt.live
      let s := s.setSlot n 1 n s.bootRec.2.2.2
      let s := (s.modMgt (fun m => { m with fallback := none })).raise (ev 0x0004 0 0 0)
      if live then s.beginSwitch else s.setSwitchDue true
    else s)

end Sys2Proof.Machine
end

