-- ==== Sys2Proof/Machine/HbmTherm.lean ====
section
/-! DEFINITION. Temperatures of the HBM stacks (R245 to R249). -/

namespace Sys2Proof.Machine

open Sys2Proof

/-- The level after a reading (R245): 0 NORMAL, 1 WARM, 2 HOT, 3 FENCED. -/
def thermNext (level t : Nat) : Nat :=
  if level = 3 then 3
  else if 105 ≤ t then 3
  else if 95 < t then 2
  else if level = 2 then (if 92 < t then 2 else if 82 < t then 1 else 0)
  else if 85 < t then 1
  else if level = 1 then (if 82 < t then 1 else 0)
  else 0

/-- The stack takes a level: SLOW is set at HOT alone, and a local slow notice moves the deadlines of the collectives that depend on
the stack (R246, R320). Tokens gained before keep the rate under which they were gained. -/
def State.setLevel (s : State) (st level : Nat) : State :=
  let a := R.MEM_THERM_STATUS st
  let s := if (s.thermLevel st = 2) = (level = 2) then s else s.settleBuckets st
  let s := (s.setF a F.MEM_THERM_STATUS_LEVEL level).setF a F.MEM_THERM_STATUS_SLOW (b2n (level = 2))
  if level = 2 then
    (List.range 8).foldl (fun s q => if (s.coll q).isOpen && bitAt (s.coll q).mask st then s.slowDeadline q else s) s
  else s

/-- What entering a level does (R246, R247). -/
def State.enterLevel (s : State) (st old new : Nat) : State :=
  let s := s.setLevel st new
  if old = new then s
  else match new with
    | 0 => s.memEvent st 0x08 1 0 0
    | 1 => s.memEvent st 0x05 1 0 0
    | 2 => s.memEvent st 0x06 0 0 0
    | _ => ((s.retry (fun w => homeStack (w.line * 64) = st)).fenceColls st).memEvent st 0x07 0 0 St.thermalAbort

/-- HBM_TEMP_READING (R245). -/
def execHbmTempReading (stack temp : Nat) (s : State) : Host.Outcome State Fault Refusal :=
  .next (
    let a := R.MEM_THERM_STATUS stack
    let s := (s.setF a F.MEM_THERM_STATUS_TEMP temp).setF a F.MEM_THERM_STATUS_VALID 1
    let s := s.setF a F.MEM_THERM_STATUS_PEAK (max temp (s.rf a F.MEM_THERM_STATUS_PEAK))
    let s := s.enterLevel stack (s.thermLevel stack) (thermNext (s.thermLevel stack) temp)
    if 115 ≤ temp then s.deadbolt 3 temp stack else s)

/-- HBM_TEMP_LOST (R249). -/
def execHbmTempLost (stack : Nat) (s : State) : Host.Outcome State Fault Refusal :=
  .next (
    let s := (s.setF (R.MEM_THERM_STATUS stack) F.MEM_THERM_STATUS_VALID 0).memEvent stack 0x09 0 0 0
    if s.thermLevel stack = 3 then s else s.enterLevel stack (s.thermLevel stack) 2)

/-- UNFENCE (R248). -/
def ctlUnfence (who : Requester) (stack : Nat) (s : State) : Host.Outcome State Fault Refusal :=
  .next (s.ctlDo who (R.MEM_THERM_CTRL stack) St.ok (fun s =>
    let t := s.rf (R.MEM_THERM_STATUS stack) F.MEM_THERM_STATUS_TEMP
    if s.thermLevel stack = 3 && s.rf (R.MEM_THERM_STATUS stack) F.MEM_THERM_STATUS_VALID = 1 && decide (t ≤ 92) then
      s.enterLevel stack 3 (if 82 < t then 1 else 0)
    else s))

end Sys2Proof.Machine
end

