-- ==== Sys2Proof/Machine/Discovery.lean ====
section
/-! DEFINITION. Discovery and device numbers (R307 to R310, R346). -/

namespace Sys2Proof.Machine

open Sys2Proof

/-- The peers that LLDP has shown, by port; sub-port B's at 16 + port. -/
def State.peerList (s : State) : List (Nat × Peer) := s.xport.peers.filterMap (fun e => e.2.map (fun q => (e.1, q)))

/-- The better of two candidates: the lower priority, then the lower serial digest (R309). -/
def betterOf (a b : Nat × Nat) : Nat × Nat := if a.1 < b.1 || (a.1 = b.1 && a.2 ≤ b.2) then a else b

/-- The best candidate known: this module and the best that its peers advertise, of which ELECTION gives priority and serial digest (log
entry 50). -/
def State.bestCand (s : State) : Nat × Nat :=
  s.peerList.foldl (fun b e => betterOf b (e.2.prio, e.2.best)) (s.rf R.XPORT_ELECT F.XPORT_ELECT_PRIORITY, ownSerial)

/-- Leader assignment is in force (R308, R309). -/
def State.leaderMode (s : State) : Bool := s.rf R.XPORT_CFG F.XPORT_CFG_DEV_MODE = 1

/-- The module modes that assign. -/
def State.assignedTo (s : State) (serial : Nat) : Option Nat := (s.xport.assigned.find? (fun e => e.1 = serial)).map (·.2)

/-- A TLV of an LLDP frame: type, length and contents. -/
def tlv (typ : Nat) (bs : List Byte) : List Byte := [BitVec.ofNat 8 (2 * typ + bs.length / 256), BitVec.ofNat 8 bs.length] ++ bs

/-- A Kenaris TLV: type 127, the Kenaris identifier, subtype and contents (R307). -/
def kTlv (sub : Nat) (bs : List Byte) : List Byte := tlv 127 ([0x4A, 0x4B, 0x4E, BitVec.ofNat 8 sub] ++ bs)

/-- What an LLDP frame of a port carries: the mandatory TLVs (Chassis ID and Port ID of open contents, a TTL of 4 s, End) and those of
R307. -/
def State.lldpBytes (s : State) (p mode : Nat) : List Byte :=
  let flags := b2n (s.parkCap p) + 2 * s.portCfg p F.PORT_CFG_PFC_EN + 4 * s.portCfg p F.PORT_CFG_VLAN_EN
  let ident := kTlv 1 (beBytes 2 s.dev ++ beBytes 1 p ++ beBytes 1 1 ++ beBytes 8 ownSerial)
  let link := kTlv 2 (beBytes 1 1 ++ beBytes 1 mode ++ beBytes 1 flags ++ beBytes 1 (s.rf (R.PORT_PARK p) F.PORT_PARK_THRESH) ++
    beBytes 2 (s.portCfg p F.PORT_CFG_MAX_FRAME))
  let elect := kTlv 3 (beBytes 1 s.bestCand.1 ++ beBytes 8 ownSerial ++ beBytes 8 s.bestCand.2)
  let assign := match mget none s.xport.peers p with
    | some q =>
      if s.leaderMode && s.xport.leads then
        match s.assignedTo q.serial with
        | some d => kTlv 4 (beBytes 2 d ++ beBytes 8 (s.rf (R.XPORT_ADDR p) F.XPORT_ADDR_PREFIX))
        | none => []
      else []
    | none => []
  tlv 1 (Config.lldpId 1 p) ++ tlv 2 (Config.lldpId 2 p) ++ tlv 3 [0x00, 0x04] ++ ident ++ link ++ elect ++ assign ++ tlv 0 []

/-- An LLDP frame on one sub-port. -/
def State.lldpOut (s : State) (p sub mode : Nat) : State :=
  if s.linkUp p sub then
    let bs := s.lldpBytes p mode
    s.handFrame p { frame := s.frameOf p bs.length .multicast .lldp, ward := none, sub := some sub, dst := nearestBridge, etype := 0x88CC,
                      bytes := bs }
  else s

/-- LLDP_TX (R307): every second, on each link of the port. -/
def execLldpTx (port : Nat) (s : State) : Host.Outcome State Fault Refusal :=
  .next (if s.portMode port = 2 then (s.lldpOut port 0 2).lldpOut port 1 3 else s.lldpOut port 0 1)

/-- The next-hop MAC taken from the LLDP peer (R279, R325, R355). -/
def State.learnMac (s : State) (p mac : Nat) (b : Bool) : State :=
  if b then
    if s.rf (R.PORT_NEXTHOP_B p) F.PORT_NEXTHOP_B_LEARN = 1 then s.setF (R.PORT_NEXTHOP_B p) F.PORT_NEXTHOP_B_MAC mac else s
  else if s.rf (R.XPORT_NEXTHOP p) F.XPORT_NEXTHOP_LEARN = 1 then s.setF (R.XPORT_NEXTHOP p) F.XPORT_NEXTHOP_MAC mac else s

/-- DEVNUM_CONFLICT (R310): a neighbour with this module's number and another serial digest. -/
def State.noteConflict (s : State) (p : Nat) (i : Lldp) : State :=
  let bad := i.devnum = s.dev && s.dev ≠ 0xFFFF && i.serial ≠ ownSerial
  let was := nmem s.xport.conflict p
  let s := if bad = was then s else s.rerouted (fun s => s.modX (fun x => { x with conflict := nput x.conflict p bad }))
  if bad && !was then s.raise { ev 0x1807 0 p 4 with source2 := i.devnum } else s

/-- In a direct mesh the route to a neighbour is the ports that reach it (R309). -/
def State.meshRoute (s : State) (p d : Nat) : State :=
  let b := s.rf R.XPORT_ROUTE_BASE F.XPORT_ROUTE_BASE_BASE
  if d ≠ 0xFFFF && decide (b ≤ d) && decide (d < b + 4096) then
    let a := R.XPORT_ROUTE (d - b)
    let ports := if s.rf a F.XPORT_ROUTE_VALID = 1 then s.rf a F.XPORT_ROUTE_PORTS else 0
    (s.setF a F.XPORT_ROUTE_PORTS (Nat.lor ports (2 ^ p))).setF a F.XPORT_ROUTE_VALID 1
  else s

/-- A peer of generation 1 or higher is known, on sub-port B where `b` (R307, R346). -/
def State.notePeer (s : State) (p : Nat) (b : Bool) (i : Lldp) : State :=
  let q : Peer := { mac := i.mac, dev := i.devnum, port := i.portIndex, gen := i.generation, serial := i.serial, prio := i.prio,
                    best := i.bestSerial }
  let s := s.modX (fun x => { x with peers := mset none x.peers (if b then 16 + p else p) (some q) })
  let s := s.setPortSt p F.PORT_STATUS_PEER_PARK (b2n (bitAt i.linkFlags 0))
  s.noteConflict p i

/-- A latch of the module's own (R309): its values take effect unless a rule of validation refuses them (R462). -/
def State.ownLatch (s : State) (l : List (Nat × W64)) : State := if (s.latchFails l false).isEmpty then s.putTxn l else s

/-- XPORT_CFG with a device number, as a latch stages it. -/
def State.withDev (s : State) (d : Nat) : Nat × W64 :=
  (R.XPORT_CFG, setFld (s.reg R.XPORT_CFG) F.XPORT_CFG_DEVNUM.lsb F.XPORT_CFG_DEVNUM.width d)

/-- An assignment of the leader is applied through a latch of the module's own (R309). -/
def State.takeAssign (s : State) (p : Nat) (i : Lldp) : State :=
  match i.assignDev with
  | none => s
  | some d =>
    if s.leaderMode && i.serial = s.bestCand.2 && i.serial ≠ ownSerial then
      s.ownLatch [s.withDev d, (R.XPORT_ADDR p, BitVec.ofNat 64 i.assignPrefix)]
    else s

/-- LLDP_RX (R307, R309, R310, R346). -/
def execLldpRx (port : Nat) (info : Lldp) (s : State) : Host.Outcome State Fault Refusal :=
  .next (
    if !s.linkUp port info.sub then s
    else
      let s := s.learnMac port info.mac (info.sub = 1)
      if info.generation = 0 then s
      else
        let s := (s.notePeer port (info.sub = 1) info).takeAssign port info
        if s.leaderMode then s.meshRoute port info.devnum else s)

/-- Serial digests of the modules known, rising, each once. -/
def State.serials (s : State) : List Nat :=
  (s.peerList.foldl (fun (l : List (Nat × Bool)) e => nput l e.2.serial true) [(ownSerial, true)]).map (·.1)

/-- ELECTION_SETTLED (R309): the best candidate leads: it ranks the modules it knows, takes its own number, and gives each of its links
a distinct prefix, whose value the spec leaves open (log entry 3). -/
def execElectionSettled (s : State) : Host.Outcome State Fault Refusal :=
  .next (
    if !s.leaderMode then s
    else if s.bestCand.2 ≠ ownSerial then s.modX (fun x => { x with leads := false, assigned := [] })
    else
      let base := s.rf R.XPORT_ELECT F.XPORT_ELECT_ASSIGN_BASE
      let l := s.serials
      let ranks := (List.zip l (List.range l.length)).map (fun e => (e.1, (base + e.2) % 65536))
      let pre := s.freeW.toNat
      let s := (s.drew 1).modX (fun x => { x with leads := true, assigned := ranks })
      let links := s.peerList.map (fun e => (R.XPORT_ADDR (e.1 % 16), BitVec.ofNat 64 ((pre + e.1 % 16) % 2 ^ 64)))
      let s := s.ownLatch ((match s.assignedTo ownSerial with
        | some d => [s.withDev d]
        | none => []) ++ links)
      s.peerList.foldl (fun s e =>
        match s.assignedTo e.2.serial with
        | some d => s.meshRoute (e.1 % 16) d
        | none => s) s)

end Sys2Proof.Machine
end

