-- ==== Sys2Proof/Machine/Tag.lean ====
section
/-! DEFINITION. The field tag (R472 to R478, R480, R481): its memory, the field's commands, the wired port and its arbitration, the
mailbox, and the records that the module controller writes. -/

namespace Sys2Proof.Machine

open Sys2Proof

/-! ## The memory (R473) -/

/-- What the tag left the factory with: the capability container, the NDEF message and the asset data. -/
def tagFactory (a : Nat) : Byte := if a < 0x400 then BitVec.ofNat 8 (Config.factory 8 a) else 0

/-- One byte of the tag as it reads; its reserved end reads as zero. The memory holds how a byte differs from the factory's. -/
def State.tagByte (s : State) (a : Nat) : Byte :=
  if a < 0x400 then byteAt s.nv.tag a ^^^ tagFactory a else if a < 0x700 then byteAt s.nv.tag a else 0

/-- Bytes of the tag. -/
def State.tagBytes (s : State) (a : Nat) : Nat → List Byte
  | 0 => []
  | n + 1 => s.tagByte a :: s.tagBytes (a + 1) n

/-- A write of the tag's memory; what is written to the reserved end is not kept. -/
def State.tagWrite (s : State) (a : Nat) : List Byte → State
  | [] => s
  | b :: bs =>
    (if a < 0x400 then s.tagPut a [b ^^^ tagFactory a] else if a < 0x700 then s.tagPut a [b] else s).tagWrite (a + 1) bs

/-- Whether a wired master may write a range: the rack's management controller the asset note and the mailbox (R473). -/
def tagMayWrite (m : TagMaster) (a n : Nat) : Bool :=
  match m with
  | .mc => decide (a + n ≤ 0x2000)
  | .rack => decide ((0x400 ≤ a ∧ a + n ≤ 0x500) ∨ (0x600 ≤ a ∧ a + n ≤ 0x700))

/-! ## Field commands (R474, R475) -/

/-- A field command: busy while a wired lock runs (a wired access itself is one step). The answer's status is the error code. -/
def State.field (s : State) (f : State → State) : State := if s.mgt.tagLock.isSome then s.answer 0xA1 else f s

/-- The tag's identifier. -/
def tagUid : List Byte := leBytes 8 (Config.factory 9 0)

/-- TAG_INVENTORY. -/
def execTagInventory (s : State) : Host.Outcome State Fault Refusal := .next (s.field (fun s => s.answer 0 0 tagUid))

/-- The content of both system information answers: identifier, number of blocks, bytes in a block (R472). -/
def tagInfo : List Byte := tagUid ++ leBytes 2 2048 ++ leBytes 1 4

/-- TAG_GET_SYSTEM_INFO. -/
def execTagGetSystemInfo (s : State) : Host.Outcome State Fault Refusal := .next (s.field (fun s => s.answer 0 0 tagInfo))

/-- TAG_EXT_GET_SYSTEM_INFO. -/
def execTagExtGetSystemInfo (s : State) : Host.Outcome State Fault Refusal := .next (s.field (fun s => s.answer 0 0 tagInfo))

/-- A read of blocks; a block that the tag does not have is answered with the standard's 0x10. -/
def State.readBlocks (s : State) (first count : Nat) : State :=
  if 2048 < first + count then s.answer 0x10 else s.answer 0 0 (s.tagBytes (4 * first) (4 * count))

/-- TAG_READ_SINGLE_BLOCK. -/
def execTagReadSingleBlock (block : Nat) (s : State) : Host.Outcome State Fault Refusal := .next (s.field (fun s => s.readBlocks block 1))

/-- TAG_READ_MULTIPLE_BLOCKS: at most 32 blocks. -/
def execTagReadMultipleBlocks (first count : Nat) (s : State) : Host.Outcome State Fault Refusal :=
  .next (s.field (fun s => if count = 0 ∨ 32 < count then s.answer 0x01 else s.readBlocks first count))

/-- TAG_WRITE_SINGLE_BLOCK: the mailbox alone; the module controller sees it. -/
def execTagWriteSingleBlock (block : Nat) (data : List Byte) (s : State) : Host.Outcome State Fault Refusal :=
  .next (s.field (fun s =>
    if block < 384 ∨ 448 ≤ block then s.answer 0x12
    else
      let s := (s.tagWrite (4 * block) (padTo 4 data)).modMgt (fun m => { m with mboxDue := true })
      (if s.mcUp then s.bump R.TAG_STATUS F.TAG_STATUS_FIELD_WRITES 1 else s).answer 0))

/-- TAG_FIELD_UNSUPPORTED. -/
def execTagFieldUnsupported (_code : Nat) (s : State) : Host.Outcome State Fault Refusal := .next (s.field (fun s => s.answer 0x01))

/-! ## The wired port (R472, R475) -/

/-- A wired access is done; a multi-page write takes the lock, and its last page gives it up. -/
def State.wired (s : State) (r : TagReq) : State :=
  let lock := if r.lock && r.wr then some r.master else none
  let s := s.modMgt (fun m => { m with tagLock := lock, tagLockAt := if m.tagLock.isSome then m.tagLockAt else s.now })
  if r.wr then
    if tagMayWrite r.master r.addr r.data.length then (s.tagWrite r.addr r.data).answer St.ok else s.answer St.bounds
  else if r.addr + r.len ≤ 0x2000 then s.answer St.ok 0 (s.tagBytes r.addr r.len)
  else s.answer St.bounds

/-- A wired access arrives: while the other master's lock runs it is held by clock stretching. -/
def State.wiredIn (s : State) (r : TagReq) : State :=
  match s.mgt.tagLock with
  | some m => if m = r.master then s.wired r else s.modMgt (fun x => { x with tagHeld := x.tagHeld ++ [r] })
  | none => s.wired r

/-- What was held goes on, in order. -/
def State.unhold (s : State) : State :=
  s.mgt.tagHeld.foldl State.wiredIn (s.modMgt (fun m => { m with tagHeld := [] }))

/-- TAG_WIRED_ACCESS. -/
def execTagWiredAccess (master : TagMaster) (wr : Bool) (addr len : Nat) (data : List Byte) (lock : Bool) (s : State) :
    Host.Outcome State Fault Refusal :=
  .next (
    if master = .mc && !s.mcUp then s
    else
      let held := s.mgt.tagLock.isSome
      let s := s.wiredIn { master := master, wr := wr, addr := addr, len := len, data := data, lock := lock, since := s.now }
      if held && s.mgt.tagLock.isNone then
        let r := s.resp
        { s.unhold with resp := r }
      else s)

/-- TAG_WIRED_HOLD_TIMEOUT: the access that is held for 30 ms is NAKed. -/
def execTagWiredHoldTimeout (master : TagMaster) (s : State) : Host.Outcome State Fault Refusal :=
  .next (
    match s.mgt.tagHeld.find? (fun r => r.master = master && decide (r.since + 54000000 ≤ s.now)) with
    | some r => (s.modMgt (fun m => { m with tagHeld := m.tagHeld.erase r })).answer St.timeout
    | none => s)

/-- TAG_LOCK_TIMEOUT: the lock is released after 50 ms. -/
def execTagLockTimeout (s : State) : Host.Outcome State Fault Refusal :=
  .next (if s.mgt.tagLock.isSome && decide (s.mgt.tagLockAt + 90000000 ≤ s.now) then (s.modMgt (fun m => { m with tagLock := none })).unhold else s)

/-! ## TAG_ACCESS (R480) -/

/-- A field of TAG_STATUS. -/
def State.setTag (s : State) (f : Fld) (x : Nat) : State := s.setF R.TAG_STATUS f x

/-- GO of TAG_ACCESS: ignored while an operation is in progress; a write outside the asset note and the mailbox completes with BOUNDS. -/
def State.tagGo (s : State) (who : Requester) (wr : Bool) (addr : Nat) : State :=
  s.ctlDo who R.TAG_ACCESS St.ok (fun s =>
    if s.rf R.TAG_STATUS F.TAG_STATUS_BUSY = 1 then s
    else if addr % 8 ≠ 0 ∨ 0x2000 < addr + 8 then s.setTag F.TAG_STATUS_STATUS St.bounds
    else if wr && !tagMayWrite .rack addr 8 then s.setTag F.TAG_STATUS_STATUS St.bounds
    else (s.setTag F.TAG_STATUS_BUSY 1).modMgt (fun m => { m with tagOp := some (wr, addr) }))

/-- TAG_ACCESS_READ. -/
def ctlTagAccessRead (who : Requester) (addr : Nat) (s : State) : Host.Outcome State Fault Refusal := .next (s.tagGo who false addr)

/-- TAG_ACCESS_WRITE. -/
def ctlTagAccessWrite (who : Requester) (addr : Nat) (s : State) : Host.Outcome State Fault Refusal := .next (s.tagGo who true addr)

/-- TAG_ACCESS_DONE: the operation is done, unless the rack's lock keeps it waiting, or it is NAKed (R475). -/
def execTagAccessDone (nak : Bool) (s : State) : Host.Outcome State Fault Refusal :=
  .next (
    match s.mgt.tagOp with
    | none => s
    | some (wr, addr) =>
      if !s.mcUp || (!nak && s.mgt.tagLock = some .rack) then s
      else
        let s := (s.modMgt (fun m => { m with tagOp := none })).setTag F.TAG_STATUS_BUSY 0
        if nak then s.setTag F.TAG_STATUS_STATUS St.timeout
        else
          let s := s.setTag F.TAG_STATUS_STATUS St.ok
          if wr then s.tagWrite addr (leBytes 8 (s.reg R.TAG_DATA).toNat)
          else s.setReg R.TAG_DATA (BitVec.ofNat 64 (leNat (s.tagBytes addr 8))))

/-! ## The field mailbox (R478) -/

/-- A byte of the mailbox. -/
def State.mbox (s : State) (i : Nat) : Nat := (s.tagByte (0x600 + i)).toNat

/-- A mailbox command waits and the module controller can reach it. -/
def State.mboxReady (s : State) : Bool := s.mcUp && s.mgt.mboxDue && s.mgt.tagLock ≠ some .rack && s.mbox 1 ≠ 0

/-- A command has been handled: RESULT and SEQ, then CMD. -/
def State.mboxEnd (s : State) (result : Nat) : State :=
  let seq := (s.mbox 3 + 1) % 256
  let s := (s.tagWrite 0x602 (leBytes 1 result ++ leBytes 1 seq)).tagWrite 0x601 [0]
  (s.modMgt (fun m => { m with mboxDue := false })).raise (ev 0x3C01 1 0 0)

/-- MBOX_ASSET_NOTE. -/
def execMboxAssetNote (s : State) : Host.Outcome State Fault Refusal :=
  .next (if s.mboxReady && s.mbox 0 = 1 && s.mbox 1 = 1 then (s.tagWrite 0x400 (s.tagBytes 0x608 248)).mboxEnd St.ok else s)

/-- MBOX_SERVICE_MARK. -/
def execMboxServiceMark (s : State) : Host.Outcome State Fault Refusal :=
  .next (if s.mboxReady && s.mbox 0 = 1 && s.mbox 1 = 2 then (s.setTag F.TAG_STATUS_SERVICE_MARK 1).mboxEnd St.ok else s)

/-- MBOX_INVALID: a reserved CMD or VER. -/
def execMboxInvalid (s : State) : Host.Outcome State Fault Refusal :=
  .next (if s.mboxReady && (s.mbox 0 ≠ 1 || decide (2 < s.mbox 1)) then s.mboxEnd St.bounds else s)

/-! ## The configuration digest record (R477) -/

/-- The snapshot with the highest SEQ. -/
def State.newest (s : State) : Option Snap := if s.snapSeq 0 < s.snapSeq 1 then s.nv.snap1 else s.nv.snap0

/-- The record for a snapshot. -/
def State.digestRecord (s : State) (x : Snap) : List Byte :=
  let body := leBytes 8 x.seq ++ (sha384 (entryBytes x.entries)).take 32 ++ leBytes 8 s.fwVersion.toNat ++ zeros 12
  body ++ leBytes 4 (crc32 body)

/-- CONFIG_DIGEST_WRITE: after a commit, at most once in 60 s. -/
def execConfigDigestWrite (s : State) : Host.Outcome State Fault Refusal :=
  .next (
    match s.newest with
    | none => s
    | some x =>
      if s.mcUp && s.mgt.digestDue && (s.mgt.digestAt = 0 || decide (s.mgt.digestAt + 108000000000 ≤ s.now)) then
        (s.tagWrite 0x500 (s.digestRecord x)).modMgt (fun m => { m with digestDue := false, digestAt := s.now })
      else s)

/-- TAG_FAULT (R481). -/
def execTagFault (s : State) : Host.Outcome State Fault Refusal := .next (if s.mcUp then s.raise (ev 0x3C02 0 0 0) else s)

end Sys2Proof.Machine
end

