-- ==== Sys2Proof/Machine/Start.lean ====
section
/-! DEFINITION. Start-up: the boot ROM's choice of a slot (R466), the stages (R444), halts (R445), and the parts of the snapshot that
the stages apply (R455, R458, R459). -/

namespace Sys2Proof.Machine

open Sys2Proof

/-- A field of MGMT_STAGE. -/
def State.setStage (s : State) (f : Fld) (x : Nat) : State := s.setF R.MGMT_STAGE f x

/-- The stage reached. -/
def State.stageNow (s : State) : Nat := s.rf R.MGMT_STAGE F.MGMT_STAGE_STAGE

/-- A stage is reached: STAGE, T_MS from the event that the stage is timed from, and the log. From stage 4 on a TRIAL image is to be
confirmed (R467). -/
def State.reachStage (s : State) (n : Nat) : State :=
  let s := if n = 4 then s.modMgt (fun m => { m with trialAt := s.now }) else s
  ((s.setStage F.MGMT_STAGE_STAGE n).setStage F.MGMT_STAGE_T_MS ((s.now - s.mgt.stageFrom) / 1800000)).raise (ev 0x0001 1 0 0)

/-- The module halts in a stage (R445): alarm, and the last fault record. Its VALUE and SOURCE are not stated: free values. -/
def State.halt (s : State) (stage cause : Nat) : State :=
  let v := s.freeW.toNat
  let s := (((s.drew 1).setStage F.MGMT_STAGE_HALTED 1).setStage F.MGMT_STAGE_CAUSE cause).setStage F.MGMT_STAGE_STAGE stage
  (s.raise (ev 0x0002 0 0 0)).faultRecord 0x0002 (v % 65536) (v / 65536 % 256)

/-! ## Stage 0 (R444, R449, R452, R466, R480) -/

/-- The image in a slot. -/
def State.image (s : State) (n : Nat) : Option Image := if n = 0 then s.nv.image0 else s.nv.image1

/-- The boot ROM's checks of a slot: it is not EMPTY or BAD, not TRIAL with TRIES at 3, its image verifies (which the command says), and
its SVN is at least the fused counter. -/
def State.boots (s : State) (n : Nat) (ok : Bool) : Bool :=
  let st := s.slotState n
  ok && (st = 1 || (st = 2 && decide (s.bootRec.2.2.2 < 3))) &&
    (match s.image n with
      | some i => decide (s.nv.svnFuse ≤ i.svn)
      | none => false)

/-- A slot that fails is marked BAD; an EMPTY one stays EMPTY. -/
def State.markBad (s : State) (n : Nat) : State := if s.slotState n = 0 ∨ s.slotState n = 3 then s else s.setSlot n 3 s.bootRec.1 s.bootRec.2.2.2

/-- Registers that show the boot record, the images, the fuses and the NAND. -/
def State.loadFw (s : State) : State :=
  let (a, b, c, d) := s.bootRec
  let s := (s.showBoot a b c d).setF R.MGMT_FW_STATUS F.MGMT_FW_STATUS_SVN_FUSE s.nv.svnFuse
  let s := ((s.showVersion 0).showVersion 1).showNand
  let s := s.setF R.CFG_NAND_STATUS F.CFG_NAND_STATUS_MAX_ERASE ((s.nv.erases.map (·.2)).foldl max 0)
  (s.setF R.CFG_PERSIST F.CFG_PERSIST_SEQ (max (s.snapSeq 0) (s.snapSeq 1))).showPages

/-- The valid snapshot with the highest SEQ (R455), and its slot. -/
def State.bestSnap (s : State) : Option (Nat × Snap) :=
  let ok (n : Nat) : Option (Nat × Snap) := match s.snap n with
    | some x => if x.sound then some (n, x) else none
    | none => none
  match ok 0, ok 1 with
  | some a, some b => if a.2.seq < b.2.seq then some b else some a
  | some a, none => some a
  | none, b => b

/-- Reads of some blocks join what the NAND does. -/
def State.readBlocksOf (s : State) (l : List Nat) : State := l.foldl (fun s b => s.nandPush (.read b)) s

/-- A switch that waited for a cold start takes effect when its slot runs (R467). -/
def State.switched (s : State) (n : Nat) : State :=
  if s.nv.switchDue then
    let t := s.setSwitchDue false
    if n = s.bootRec.1 then t.raise (ev 0x0003 1 0 0) else t
  else s

/-- The module runs the image of a slot: a start in a TRIAL slot is counted, and the image and the valid snapshot are read (R452). -/
def State.runImageOf (s : State) (n : Nat) : State :=
  let s := (s.setF R.MGMT_FW_STATUS F.MGMT_FW_STATUS_RUN_SLOT n).switched n
  let s := if s.slotState n = 2 then
      (s.setSlot n 2 s.bootRec.1 (s.bootRec.2.2.2 + 1)).modMgt (fun m => { m with fallback := some (1 - n) })
    else s
  let s := s.readBlocksOf ((List.range (s.dataBlocks (8 + 256 * n))).map (8 + 256 * n + ·))
  let s := match s.bestSnap with
    | some e => s.readBlocksOf (e.2.blocks e.1)
    | none => s
  s.reachStage 0

/-- Stage 0: the ACTIVE slot, else the other one, else a halt. -/
def State.boot (s : State) (recordOk ok0 ok1 : Bool) : State :=
  if !recordOk then s.halt 0 1
  else
    let s := s.loadFw
    let a := s.nv.active
    let ok (n : Nat) : Bool := if n = 0 then ok0 else ok1
    if s.boots a (ok a) then s.runImageOf a
    else
      let s := s.markBad a
      if s.boots (1 - a) (ok (1 - a)) then s.runImageOf (1 - a) else (s.markBad (1 - a)).halt 0 2

/-- Whether a cold start begins: the standby domain comes up, or the restart condition of a finished power-down holds (R528, R535). -/
def State.coldDue (s : State) : Bool :=
  !s.sup.standby ||
    (s.sup.seq = .off && s.sup.bootDue && decide (s.sup.notBefore ≤ s.now) && s.sup.inRange && s.sup.ready && !s.sup.needOv && !s.barred && (s.sup.en || s.sup.auto))

/-- STANDBY_UP (R444, R445, R466): stage 0, and power-up where EN and the input already allow it (R527). -/
def execStandbyUp (bootRecordOk slot0Ok slot1Ok : Bool) (s : State) : Host.Outcome State Fault Refusal :=
  .next (if s.coldDue then (s.coldStart.boot bootRecordOk slot0Ok slot1Ok).tryStart else s)

/-! ## The snapshot's parts (R455, R458) -/

/-- Alarm STORE_FALLBACK. -/
def State.fallback (s : State) : State := s.raise (ev 0x380C 0 0 0)

/-- The stage that applies an entry. -/
def stageOf (a : Nat) : Nat :=
  let id := windowOf a
  if id ∈ [0x00, 0x38, 0x28, 0x01, 0x41] then 1
  else if id ∈ [0x10, 0x11, 0x50, 0x51] || a = R.XPORT_STATE_BASE then 2
  else 3

/-- The part of the snapshot that a stage applies: validated as a latch is, or left out with the alarm. -/
def State.applyPart (s : State) (stage : Nat) : State :=
  match s.bestSnap with
  | none => s
  | some (_, x) =>
    let l := x.entries.filter (fun e => stageOf e.1 = stage && !(txnFields e.1).isEmpty)
    if (s.latchFails l true).isEmpty then s.putTxn l else s.fallback

/-- Whether the newest snapshot cannot be used, or there is none (R445, R455). -/
def State.storeBad (s : State) : Bool :=
  match s.bestSnap with
  | none => true
  | some (_, x) => decide (x.seq < max (s.snapSeq 0) (s.snapSeq 1))

/-- CFG_PERSIST.SKIPPED, and the alarm for a store that fell back. -/
def State.openStore (s : State) : State :=
  let n := match s.bestSnap with
    | some (_, x) => (x.entries.filter (fun e => (txnFields e.1).isEmpty)).length
    | none => 0
  let s := s.setF R.CFG_PERSIST F.CFG_PERSIST_SKIPPED n
  if s.storeBad then s.fallback else s

/-! ## Stage 1 -/

/-- A row's map does not fit its faults (R459). -/
def State.rowMisfit (s : State) (h r : Nat) : Bool :=
  (decide (s.subst h r < 8) && s.faulty h r 8) ||
    (List.range 8).any (fun c => !s.absent (h * 64 + r * 8 + c) && s.faulty h r (s.physCol h r c))

/-- SUBST of a row. -/
def State.setSubst (s : State) (h r x : Nat) : State := s.setF (R.HALF_CELL_MAP h) (F.HALF_CELL_MAP_SUBST r) x

/-- A row is remapped: the lowest faulty column takes a good spare; other cells on faulty physical cells are absent. -/
def State.remapRow (s : State) (h r : Nat) : State :=
  if !s.rowMisfit h r then s
  else
    let s := if s.faulty h r 8 then s.setSubst h r 15
      else match (List.range 8).find? (s.faulty h r) with
        | some c => s.setSubst h r c
        | none => s
    let s := (List.range 8).foldl (fun s c =>
      if s.faulty h r (s.physCol h r c) then
        s.setF (R.HALF_CELL_ABSENT h) F.HALF_CELL_ABSENT_ABSENT
          (Nat.lor (s.rf (R.HALF_CELL_ABSENT h) F.HALF_CELL_ABSENT_ABSENT) (2 ^ (r * 8 + c)))
      else s) s
    s.raise (ev 0x380B 1 0 0)

/-- Faulty physical cells named by fuses (R37). -/
def State.loadFuses (s : State) : State :=
  s.nv.cellFuse.foldl (fun s e => (List.range 9).foldl (fun s p => if bitAt e.2 p then s.markFaulty (e.1 / 8) (e.1 % 8) p else s) s) s

/-- Roles at start (R483). -/
def State.startRoles (s : State) : State :=
  let s := (s.setF (R.HALF_LEAD_STATUS 0) F.HALF_LEAD_STATUS_ROLE 0).setF (R.HALF_LEAD_STATUS 1) F.HALF_LEAD_STATUS_ROLE 1
  let s := (s.setEpoch 0 1).setEpoch 1 0
  ((s.leaseNow 0).leaseNow 1).modMgt (fun m => { m with hinge := [], silent := [] })

/-- The alias key of a start: derived from the seed and the digests of measurements 1 to 3 (R419). -/
def State.aliasOf (s : State) : Nat :=
  seedKey (([1, 2, 3].map (fun i => padTo 48 ((s.measurement i false).getD []))).flatten) Config.aliasInfo

/-- The alias key and its certificate, signed with IDK (R419). -/
def State.makeAlias (s : State) : State :=
  let pub := p384Public s.aliasOf
  (s.drawn 6).modSec (fun x => { x with
    alias_ := s.aliasOf, aliasCert := Config.aliasCert pub (s.signed identityKey (sha384 (Config.aliasTbs pub))) })

/-- Stage 1: half controllers, leadership, cell checks and the map, identity, calibration and the governor. -/
def State.stage1 (s : State) : State :=
  let s := { s with clk := { s.clk with on := true, lost := false }, evt := { s.evt with hcDown := [] } }
  let s := ((s.deliver 0).deliver 1)
  let s := (s.startRoles.loadFuses.openStore).applyPart 1
  let s := ((List.range 16).foldl (fun s i => s.remapRow (i / 8) (i % 8)) s).countCells
  let s := (List.range 16).foldl (fun s p => s.setReg (R.PORT_MAC p) (BitVec.ofNat 64 (Config.factory 2 p % 2 ^ 48))) s
  let s := (s.setF R.SEC_STATUS F.SEC_STATUS_BLANK (b2n s.nv.blank)).setReg R.SEC_SERIAL (BitVec.ofNat 64 ownSerial)
  s.makeAlias.loadCal.relevelAll

/-! ## Stages 2 and 3 -/

/-- Stage 2, which a random source that is not healthy keeps from being reached: HBM, module keys, and the transport's state area owned and cleared (R298, R418, R444). -/
def State.stage2 (s : State) : State :=
  let s := s.setF R.SEC_STATUS F.SEC_STATUS_RNG_OK 1
  let s := s.modSec (fun x => { x with moduleKeys := x.nextKey, nextKey := x.nextKey + 1 })
  let s := (List.range 8).foldl (fun s st => s.setF (R.MEM_PC_ONLINE st) F.MEM_PC_ONLINE_ONLINE (2 ^ 64 - 1)) s
  let s := s.applyPart 2
  let s := s.areaSlices.foldl (fun s i => s.setSliceOwner i 8) s
  (s.areaSlices.map sliceRegions).flatten.foldl (fun s k => s.finishClearing k) s

/-- A link that was answering with retry status sends a Device Readiness Status message (R372). -/
def State.sayReady (s : State) : State :=
  if s.rf R.HOST_LINK_STATUS F.HOST_LINK_STATUS_SPEED ≠ 0 && s.rf R.HOST_LINK_STATUS F.HOST_LINK_STATUS_RRS = 1 then
    s.modMgt (fun m => { m with readySent := m.readySent + 1 })
  else s

/-- Stage 3: the host link leaves retry status, and the ports light (R372, R444). -/
def State.stage3 (s : State) : State := (s.applyPart 3).sayReady.setF R.HOST_LINK_STATUS F.HOST_LINK_STATUS_RRS 0

/-- What a stage brings. -/
def State.enterStage (s : State) (n : Nat) : State :=
  (match n with
    | 1 => s.stage1
    | 2 => s.stage2
    | 3 => s.stage3
    | _ => s).reachStage n

/-- The stage in which a cause halts the module, and the stages reached in which it can arise (R445). -/
def haltStage : Nat → Option (Nat × List Nat)
  | 3 => some (0, [0])
  | 4 => some (1, [0, 1])
  | 5 => some (2, [1, 2])
  | 6 => some (2, [1, 2])
  | _ => none

/-- STAGE_TIMEOUT (R445); cause 6 is the random source that has failed its test. The causes of stage 0 are found by STANDBY_UP itself. -/
def execStageTimeout (cause : Nat) (s : State) : Host.Outcome State Fault Refusal :=
  .next (
    match haltStage cause with
    | some (n, l) =>
      if s.mcUp && s.rf R.MGMT_STAGE F.MGMT_STAGE_HALTED = 0 && s.stageNow ∈ l && (cause ≠ 6 || s.sec.rngBad) then s.halt n cause else s
    | none => s)

end Sys2Proof.Machine
end

