-- ==== Sys2Proof/Machine/TierCmds.lean ====
section
/-! DEFINITION. Migration: fills and drains as they end (R186), the walkers and their schedules (R197 to R199, R216), and the
operations of TIER_OP_CTRL (R202). -/

namespace Sys2Proof.Machine

open Sys2Proof

/-! ## Fills and drains -/

/-- FILL_START (R181, R184, R186, R195, R196): a migration of one block for a ward that holds it. A victim that is DIRTY drains
first. -/
def execFillStart (half ward block cls tag : Nat) (s : State) : Host.Outcome State Fault Refusal :=
  .next (if !s.clk.on then s else
    if s.owner (block * 65536) = ward && decide (block < 2 ^ 23) && decide (cls < 3) then (s.migrate half ward block cls tag).1
    else s)

/-- What waits for a block is tried again. -/
def State.retryBlock (s : State) (b : Nat) : State := s.retry (fun w => w.line / 1024 = b)

/-! ## Ranges of blocks -/

/-- The checks of R199 on an object: BOUNDS for a reserved OP or CLASS, a misaligned base, no blocks (R197), or an object that
leaves the unified range; WARD_FAULT for a block outside the ward's slices. A reserved CLASS is refused with every OP. -/
def State.objectChk (s : State) (op cls base count ward : Nat) : Nat :=
  let inRange := decide (base + count * 65536 ≤ 2 ^ 39)
  worst (chk (op = 3 || cls = 3 || decide (base % 65536 ≠ 0) || count = 0 || !inRange) St.bounds)
    (if inRange && count ≠ 0 then chk (!s.ownedBy base (count * 65536) ward) St.wardFault else St.ok)

/-- A block that an operation passes over: of the other half, fixed (R190), or homed in a fenced stack (R247). -/
def State.passOver (s : State) (h b : Nat) : Bool := blkHalf b ≠ h || s.fixed b || s.fenced (b * 65536)

/-- A block that is FILLING or DRAINING. -/
def Blk.moves (x : Blk) : Bool := x.st = .filling || x.st = .drainKeep || x.st = .drainRelease

/-- Whether any of `count` blocks from `first` homed in half `h` is still FILLING or DRAINING, or waits for a victim's frame. -/
def State.moving (s : State) (h first count : Nat) : Bool :=
  s.mem.blocks.any (fun e => match e.2 with
    | some x => decide (first ≤ e.1 ∧ e.1 < first + count) && blkHalf e.1 = h && !s.fenced (e.1 * 65536) && x.moves
    | none => false) ||
  s.mem.due.any (fun e => match e.2 with
    | some d => decide (first ≤ d.block ∧ d.block < first + count) && d.half = h && !s.fenced (e.1 * 65536)
    | none => false)

/-- Movers of a half at work: one for each block that is FILLING or DRAINING (R200). -/
def State.movers (s : State) (h : Nat) : Nat :=
  (s.mem.blocks.filter (fun e => match e.2 with
    | some x => blkHalf e.1 = h && !s.fenced (e.1 * 65536) && x.moves
    | none => false)).length

/-! ## Walkers -/

/-- A walker's own state. -/
def State.walker (s : State) (h w : Nat) : Walker := mget {} s.mem.walkers (h * 8 + w)

/-- Replaces it. -/
def State.setWalker (s : State) (h w : Nat) (x : Walker) : State :=
  { s with mem := { s.mem with walkers := mset {} s.mem.walkers (h * 8 + w) x } }

/-- A field of TIER_WALK_CTRL. -/
def State.walkCtl (s : State) (h w : Nat) (f : Fld) : Nat := s.rf (R.TIER_WALK_CTRL h w) f

/-- A field of TIER_WALK_STATUS. -/
def State.walkSt (s : State) (h w : Nat) (f : Fld) : Nat := s.rf (R.TIER_WALK_STATUS h w) f

/-- Sets a field of TIER_WALK_STATUS. -/
def State.setWalkSt (s : State) (h w : Nat) (f : Fld) (x : Nat) : State := s.setF (R.TIER_WALK_STATUS h w) f x

/-- Address of the entry at POS. -/
def State.entryAddr (s : State) (h w : Nat) : Nat :=
  s.rf (R.TIER_WALK_BASE h w) F.TIER_WALK_BASE_BASE + 16 * s.walkSt h w F.TIER_WALK_STATUS_POS

/-- The walker stops with a status (R199). -/
def State.walkHalt (s : State) (h w st : Nat) : State :=
  (((s.setWalkSt h w F.TIER_WALK_STATUS_STOPPED 1).setWalkSt h w F.TIER_WALK_STATUS_RUNNING 0).setWalkSt h w
    F.TIER_WALK_STATUS_WAITING 0).setWalkSt h w F.TIER_WALK_STATUS_STATUS st

/-- As `walkHalt` on a failed entry, with event WALK_STOP (R217). -/
def State.walkStop (s : State) (h w st : Nat) : State :=
  ((s.walkHalt h w st).setWalker h w {}).raise
    { ev (halfCode 0x1101 h) 1 h 1 with ward := w, status := st, addr := s.entryAddr h w }

/-- The two words of the entry at POS, the status of reading them, and the state after the read. An entry outside the unified
range is BOUNDS (R216). -/
def State.readEntry (s : State) (h w : Nat) : State × W64 × W64 × Nat :=
  let a := s.entryAddr h w
  let c := worst (chk (decide (2 ^ 39 < a + 16)) St.bounds)
    (if a + 16 ≤ 2 ^ 39 then chk (!s.ownedBy a 16 w) St.wardFault else St.ok)
  if c ≠ St.ok then (s, 0, 0, c)
  else
    let r := s.uRead a 16 0 false
    (r.1, BitVec.ofNat 64 (leNat (slice r.2.1 0 8)), BitVec.ofNat 64 (leNat (slice r.2.1 8 8)),
      if r.2.2 = St.unset then St.ok else r.2.2)

/-- Whether the layer counter lets the walker start an entry of this LAYER (R198). -/
def State.layerReached (s : State) (h w layer : Nat) : Bool :=
  let l := layer + s.walkSt h w F.TIER_WALK_STATUS_PASS * s.rf (R.TIER_WALK_LEN h w) F.TIER_WALK_LEN_SPAN
  reached ((s.layerCtr h w + s.walkCtl h w F.TIER_WALK_CTRL_DISTANCE) % 65536) l

/-- STATUS.HELD (R198): running, between entries, and the layer counter is short of the entry at POS. -/
def State.walkHeld (s : State) (h w : Nat) : Bool :=
  s.walkSt h w F.TIER_WALK_STATUS_RUNNING = 1 && !(s.walker h w).active &&
    (match s.readEntry h w with
      | (_, w0, _, st) => st = St.ok && !s.layerReached h w (fld w0 48 16))

/-- What one turn of a walker ended with (R199, R200): a mover took a block, the blocks of the entry are all handled, or a block found no
frame. -/
inductive WalkRes where
  | moved | done | noFrame
deriving DecidableEq, Repr

/-- One turn of a walker (R199, R200) on the `n` blocks that remain from `b`: blocks that need no mover are passed, up to the first that
does or that finds no frame. The state, the next block, and how the turn ended. -/
def State.walkGo (s : State) (h w op cls tag : Nat) : Nat → Nat → State × Nat × WalkRes
  | 0, b => (s, b, .done)
  | n + 1, b =>
    if s.passOver h b then s.walkGo h w op cls tag n (b + 1)
    else if op = 0 then
      match s.migrate h w b cls tag with
      | (s', .noFrame) => (s', b, .noFrame)
      | (s', .draining) => (s', b + 1, .moved)
      | (s', .started) => (s', b + 1, .moved)
      | (s', _) => State.walkGo s' h w op cls tag n (b + 1)
    else
      let s := s.settle b
      let t := if op = 1 then s.evict b else s.cleanBlk b
      if ((t.blk b).map Blk.moves).getD false then (t, b + 1, .moved) else State.walkGo t h w op cls tag n (b + 1)

/-- The entry a walker is handling: OP, CLASS, LAYER, first block and COUNT (R197). -/
def Walker.op (x : Walker) : Nat := fld x.entry.w1 24 2
/-- CLASS. -/
def Walker.cls (x : Walker) : Nat := fld x.entry.w1 26 2
/-- LAYER. -/
def Walker.layer (x : Walker) : Nat := fld x.entry.w0 48 16
/-- First block. -/
def Walker.first (x : Walker) : Nat := fld x.entry.w0 16 32
/-- COUNT. -/
def Walker.count (x : Walker) : Nat := fld x.entry.w1 0 23

/-- The layer tag of an entry's blocks: its effective layer (R195, R198). -/
def State.walkTag (s : State) (h w : Nat) (x : Walker) : Nat :=
  (x.layer + s.walkSt h w F.TIER_WALK_STATUS_PASS * s.rf (R.TIER_WALK_LEN h w) F.TIER_WALK_LEN_SPAN) % 65536

/-- A walker takes its turn: it goes on from its next block. -/
def State.walkServe (s : State) (h w : Nat) : State :=
  let x := s.walker h w
  let r := s.walkGo h w x.op x.cls (s.walkTag h w x) (x.first + x.count - x.next) x.next
  (r.1.setWalker h w { x with next := r.2.1 }).setWalkSt h w F.TIER_WALK_STATUS_WAITING (b2n (r.2.2 = .noFrame))

/-- Whether a walker has a block for a mover: it handles an entry with blocks left, and waits for no frame. -/
def State.walkReady (s : State) (h w : Nat) : Bool :=
  s.walkSt h w F.TIER_WALK_STATUS_RUNNING = 1 && (s.walker h w).active && s.walkSt h w F.TIER_WALK_STATUS_WAITING = 0 &&
    decide ((s.walker h w).next < (s.walker h w).first + (s.walker h w).count)

/-- The ward whose walker takes mover work next: the walkers of a half take it in turn, one block at a time (R200). -/
def State.walkTurn (s : State) (h : Nat) : Option Nat :=
  ((List.range 8).map (fun i => (mget 0 s.mem.walkNext h + i) % 8)).find? (fun w => s.walkReady h w)

/-- Which ward's walker is next. -/
def State.setWalkNext (s : State) (h w : Nat) : State := { s with mem := { s.mem with walkNext := mset 0 s.mem.walkNext h w } }

/-- The walkers of a half take their turns while one of its 16 movers is free (R200). `n` bounds the turns: at most 16 start a move and at
most 8 end without one. -/
def State.walkTurns (s : State) (h : Nat) : Nat → State
  | 0 => s
  | n + 1 =>
    if 16 ≤ s.movers h then s
    else match s.walkTurn h with
      | none => s
      | some w =>
        ((s.walkServe h w).setWalkNext h ((w + 1) % 8)).walkTurns h n

/-- A walker that waited for a frame tries its block again, and the half's walkers go on. -/
def State.walkOn (s : State) (h w : Nat) : State := (s.walkServe h w).walkTurns h 32

/-- Whether an engine of a half runs a program of another ward than `w` (R216). -/
def State.foreignEngine (s : State) (h e w : Nat) : Bool :=
  !(s.core (128 + 16 * h + e)).halted &&
    (match s.wardOfCore (128 + 16 * h + e) with
      | some v => v ≠ w
      | none => false)

/-- Whether the walker is enabled and LC_ENGINE runs a program of another ward. -/
def State.walkForeign (s : State) (h w : Nat) : Bool :=
  s.walkCtl h w F.TIER_WALK_CTRL_ENABLE = 1 && s.foreignEngine h (s.walkCtl h w F.TIER_WALK_CTRL_LC_ENGINE) w

/-- The walker stops at once with WARD_FAULT (R216). -/
def State.walkRefuse (s : State) (h w : Nat) : State := (s.walkHalt h w St.wardFault).setWalker h w {}

/-- An ENABLE written with 1 while it is 0 (R198, R216). -/
def State.walkStart (s : State) (h w : Nat) : State :=
  let s := (s.setReg (R.TIER_WALK_STATUS h w) 0).setWalker h w {}
  if s.foreignEngine h (s.walkCtl h w F.TIER_WALK_CTRL_LC_ENGINE) w then s.walkRefuse h w
  else if s.rf (R.TIER_WALK_LEN h w) F.TIER_WALK_LEN_ENTRIES = 0 then s
  else s.setWalkSt h w F.TIER_WALK_STATUS_RUNNING 1

/-- An ENABLE of 1 written again, with RESUME: a foreign program on LC_ENGINE stops the walker; otherwise a stopped walker tries the entry
at POS again (R216). -/
def State.walkRetry (s : State) (h w : Nat) : State :=
  if s.walkForeign h w then s.walkRefuse h w
  else if s.walkSt h w F.TIER_WALK_STATUS_STOPPED = 1 && s.walkCtl h w F.TIER_WALK_CTRL_ENABLE = 1 then
    (((s.setWalkSt h w F.TIER_WALK_STATUS_STOPPED 0).setWalkSt h w F.TIER_WALK_STATUS_STATUS 0).setWalkSt h w
      F.TIER_WALK_STATUS_RUNNING 1)
  else s

/-- An ENABLE written with 0. -/
def State.walkOff (s : State) (h w : Nat) : State :=
  ((s.setF (R.TIER_WALK_CTRL h w) F.TIER_WALK_CTRL_ENABLE 0).setWalkSt h w F.TIER_WALK_STATUS_RUNNING 0).setWalkSt h w
    F.TIER_WALK_STATUS_WAITING 0

/-- A write of TIER_WALK_CTRL (R216). -/
def State.walkWrite (s : State) (h w : Nat) (v : W64) : State :=
  let a := R.TIER_WALK_CTRL h w
  if s.rf a F.TIER_WALK_CTRL_ENABLE = 1 then
    if bitAt v.toNat 0 then
      (if bitAt v.toNat 2 then s.walkRetry h w else if s.walkForeign h w then s.walkRefuse h w else s)
    else s.walkOff h w
  else
    let s := s.plainWrite a v 0 64
    if bitAt v.toNat 0 then s.walkStart h w else s

/-- WALK_ENABLE (R198): a write of TIER_WALK_CTRL with ENABLE = 1. -/
def ctlWalkEnable (who : Requester) (half ward : Nat) (val : W64) (s : State) : Host.Outcome State Fault Refusal :=
  .next (s.ctlDo who (R.TIER_WALK_CTRL half ward) St.ok (fun s => s.walkWrite half ward (setFld val 0 1 1)))

/-- WALK_DISABLE (R216). -/
def ctlWalkDisable (who : Requester) (half ward : Nat) (s : State) : Host.Outcome State Fault Refusal :=
  .next (s.ctlDo who (R.TIER_WALK_CTRL half ward) St.ok (fun s => s.walkOff half ward))

/-- WALK_RESUME (R216). -/
def ctlWalkResume (who : Requester) (half ward : Nat) (s : State) : Host.Outcome State Fault Refusal :=
  .next (s.ctlDo who (R.TIER_WALK_CTRL half ward) St.ok (fun s => s.walkRetry half ward))

/-- WALK_ENTRY_START (R198, R199): the entry at POS is checked once the layer counter reaches it, and its operation applied. -/
def execWalkEntryStart (half ward : Nat) (s : State) : Host.Outcome State Fault Refusal :=
  .next (if !s.clk.on then s else
    if s.walkSt half ward F.TIER_WALK_STATUS_RUNNING = 1 && !(s.walker half ward).active then
      match s.readEntry half ward with
      | (s', w0, w1, st) =>
        if st ≠ St.ok then s'.walkStop half ward st
        else if !s'.layerReached half ward (fld w0 48 16) then s'
        else
          let c := worst (chk (fld w1 32 4 ≠ 1) St.bounds)
            (s'.objectChk (fld w1 24 2) (fld w1 26 2) (fld w0 0 48) (fld w1 0 23) ward)
          if c ≠ St.ok then s'.walkStop half ward c
          else
            (s'.setWalker half ward { active := true, next := fld w0 16 32, entry := { w0 := w0, w1 := w1 } }).walkTurns half 32
    else s)

/-- WALK_FRAME_AVAILABLE (R199): a waiting walker tries its block again. -/
def execWalkFrameAvailable (half ward : Nat) (s : State) : Host.Outcome State Fault Refusal :=
  .next (if !s.clk.on then s else
    if s.walkSt half ward F.TIER_WALK_STATUS_RUNNING = 1 && (s.walker half ward).active &&
        s.walkSt half ward F.TIER_WALK_STATUS_WAITING = 1 then s.walkOn half ward
    else s)

/-- The signal of a completed entry (R199), under the ward rules of R115. -/
def State.walkSignal (s : State) (h w : Nat) : State :=
  let f (x : Fld) : Nat := s.walkCtl h w x
  let kind := f F.TIER_WALK_CTRL_SIG_TKIND
  let all := decide (f F.TIER_WALK_CTRL_SIG_ALLWARD = 1)
  let t := f F.TIER_WALK_CTRL_SIG_TARGET
  if f F.TIER_WALK_CTRL_SIG_EN = 1 && kind ≠ 3 && ((all && kind = 0) || s.wardOfCore (targetCore kind t) = some w) then
    s.signalTo w kind t (f F.TIER_WALK_CTRL_SIG_CTR) 1 all
  else s

/-- POS, PASS and RUNNING after an entry (R199). -/
def State.walkAdvance (s : State) (h w : Nat) : State :=
  let pos := s.walkSt h w F.TIER_WALK_STATUS_POS
  if pos + 1 < s.rf (R.TIER_WALK_LEN h w) F.TIER_WALK_LEN_ENTRIES then s.setWalkSt h w F.TIER_WALK_STATUS_POS (pos + 1)
  else
    let s := s.setWalkSt h w F.TIER_WALK_STATUS_POS 0
    if s.walkCtl h w F.TIER_WALK_CTRL_WRAP = 1 then
      s.setWalkSt h w F.TIER_WALK_STATUS_PASS (s.walkSt h w F.TIER_WALK_STATUS_PASS + 1)
    else s.setWalkSt h w F.TIER_WALK_STATUS_RUNNING 0

/-- WALK_ENTRY_DONE (R199): every block of the entry has been filled, skipped or found present. -/
def execWalkEntryDone (half ward : Nat) (s : State) : Host.Outcome State Fault Refusal :=
  .next (if !s.clk.on then s else
    let x := s.walker half ward
    if s.walkSt half ward F.TIER_WALK_STATUS_RUNNING = 1 && x.active && x.next = x.first + x.count &&
        !s.moving half x.first x.count then
      ((s.setWalker half ward {}).walkSignal half ward).walkAdvance half ward
    else s)

/-- A block's move has ended: what waited for it is tried again, and the mover takes the walkers' next block (R186, R200). -/
def State.afterMove (s : State) (b : Nat) : State := (s.retryBlock b).walkTurns (blkHalf b) 32

/-- FILL_DONE (R186): the block is CLEAN or DIRTY, and waiting accesses proceed under the new state, as they do where another command
has found the fill ended within its own step (log entry 9). In a fenced stack no fill ends (R247). -/
def execFillDone (block : Nat) (s : State) : Host.Outcome State Fault Refusal :=
  .next (if !s.clk.on then s else
    if s.fenced (block * 65536) then s
    else match s.blk block with
      | some x =>
        if x.st = .filling then (s.finishFill block).afterMove block
        else s.retryBlock block
      | none => s.retryBlock block)

/-- DRAIN_DONE (R186, R193, R247). -/
def execDrainDone (block : Nat) (s : State) : Host.Outcome State Fault Refusal :=
  .next (if !s.clk.on then s else
    if s.fenced (block * 65536) then s
    else match s.blk block with
      | some x =>
        if x.st = .drainKeep || x.st = .drainRelease then
          (s.finishDrain block).afterMove block
        else s.retryBlock block
      | none => s.retryBlock block)

/-! ## Operations outside the schedule (R202) -/

/-- TIER_OP_STATUS. -/
def State.opStatus (s : State) (h busy status done skipped : Nat) : State :=
  let a := R.TIER_OP_STATUS h
  (((s.setF a F.TIER_OP_STATUS_BUSY busy).setF a F.TIER_OP_STATUS_STATUS status).setF a F.TIER_OP_STATUS_DONE done).setF a
    F.TIER_OP_STATUS_SKIPPED skipped

/-- One block of an operation: whether it was skipped. -/
def State.opBlock (s : State) (h op cls w b : Nat) : State × Bool :=
  if s.passOver h b then (s, true)
  else if op = 0 then
    match s.migrate h w b cls 0 with
    | (s', .noFrame) => (s', true)
    | (s', .skipped) => (s', true)
    | (s', _) => (s', false)
  else
    let s := s.settle b
    (if op = 1 then s.evict b else s.cleanBlk b, false)

/-- The blocks of a range that are homed in a half. -/
def halfBlocks (h first count : Nat) : List Nat :=
  ((List.range count).map (fun i => first + i)).filter (fun b => blkHalf b = h)

/-- A GO of TIER_OP_CTRL (R202). -/
def State.tierOp (s : State) (h op count cls w : Nat) : State :=
  if (mget none s.mem.ops h).isSome then s
  else
    let base := s.rf (R.TIER_OP_ADDR h) F.TIER_OP_ADDR_ADDR
    let c := s.objectChk op cls base count w
    if c ≠ St.ok then s.opStatus h 0 c 0 0
    else
      let bs := halfBlocks h (base / 65536) count
      let r := bs.foldl (fun (acc : State × Nat) b =>
        let x := acc.1.opBlock h op cls w b
        (x.1, acc.2 + b2n x.2)) (s, 0)
      let s := r.1.opStatus h 1 0 bs.length r.2
      { s with mem := { s.mem with ops := mset none s.mem.ops h (some { op := op, first := base / 65536, count := count }) } }

/-- TIER_OP_MIGRATE (R202). -/
def ctlTierOpMigrate (who : Requester) (half count cls ward : Nat) (s : State) : Host.Outcome State Fault Refusal :=
  .next (s.ctlDo who (R.TIER_OP_CTRL half) St.ok (fun s => s.tierOp half 0 count cls ward))

/-- TIER_OP_EVICT (R202). -/
def ctlTierOpEvict (who : Requester) (half count ward : Nat) (s : State) : Host.Outcome State Fault Refusal :=
  .next (s.ctlDo who (R.TIER_OP_CTRL half) St.ok (fun s => s.tierOp half 1 count 0 ward))

/-- TIER_OP_CLEAN (R202). -/
def ctlTierOpClean (who : Requester) (half count ward : Nat) (s : State) : Host.Outcome State Fault Refusal :=
  .next (s.ctlDo who (R.TIER_OP_CTRL half) St.ok (fun s => s.tierOp half 2 count 0 ward))

/-- TIER_OP_DONE (R202): nothing of the range is FILLING or DRAINING any more. -/
def execTierOpDone (half : Nat) (s : State) : Host.Outcome State Fault Refusal :=
  .next (if !s.clk.on then s else
    match mget none s.mem.ops half with
    | none => s
    | some o =>
      if s.moving half o.first o.count then s
      else
        let s := s.setF (R.TIER_OP_STATUS half) F.TIER_OP_STATUS_BUSY 0
        { s with mem := { s.mem with ops := mset none s.mem.ops half none } })

/-- Occupancy of a ward in a half (TIER_WARD_OCC). -/
def State.wardOcc (s : State) (h w : Nat) : W64 :=
  let l := s.mem.blocks.filterMap (fun e => match e.2 with
    | some x => if blkHalf e.1 = h && x.ward = w then some x else none
    | none => none)
  BitVec.ofNat 64 (l.length + (l.filter (fun x => x.cls = 2)).length * 2 ^ 16 +
    (l.filter (fun x => x.st ≠ .filling && x.st ≠ .clean)).length * 2 ^ 32)

end Sys2Proof.Machine
end

