-- ==== Sys2Proof/Machine/Host.lean ====
section
/-! DEFINITION. The host link (chapter 11): configuration space, doorbells, the placement aperture, the shared window, snoops, link
resets, and the module's power states. -/

namespace Sys2Proof.Machine

open Sys2Proof

/-! ## Power states (R374 to R376) -/

/-- The module wakes (R376): from P4 by a warm restart. -/
def State.wake (s : State) : State := if s.pstate = 4 then s.warmRestart.pstateEvent else s.rouse

/-- No descriptor of an enabled HOST queue is unconsumed. -/
def State.ringsDry (s : State) : Bool :=
  s.listedQueues.all (fun q =>
    let c := (s.ctxLoad q).1.ctx q
    !(c.enable && c.typ = 0 && c.prod ≠ c.cons))

/-- The entry conditions of the states up to `p`. -/
def State.mayEnter (s : State) (p : Nat) : Bool :=
  let cores := (List.range 168).map s.core
  (cores.take 128).all (fun c => c.streamIdle 0 && c.streamIdle 1) && cores.all (fun c => c.halted || c.stall = .scWait) &&
  (decide (p < 2) || cores.all (fun c => c.halted)) &&
  (decide (p < 3) ||
    (s.xport.msgs.isEmpty && s.xport.waitMsgs.isEmpty && s.ringsDry && (List.range 8).all (fun q => !(s.coll q).isOpen) &&
      (List.range 2).all (fun h => (mget none s.mem.ops h).isNone) &&
      (List.range 2).all (fun h => (List.range 8).all (fun w => s.walkSt h w F.TIER_WALK_STATUS_RUNNING = 0 || s.walkHeld h w)) &&
      s.mem.regions.all (fun e => e.2.st ≠ 1))) &&
  (decide (p < 4) || s.rf R.XPORT_CFG F.XPORT_CFG_ENABLE = 0)

/-- Whether a state may be entered or kept (R374): the host's tolerance, MAX_STATE and the entry condition. -/
def State.pstateOk (s : State) (p : Nat) : Bool :=
  decide (p ≤ min 4 (s.rf R.HOST_PM_CTRL F.HOST_PM_CTRL_MAX_STATE)) && s.rf R.HOST_PM_TOL F.HOST_PM_TOL_TOL_US ≠ 0 &&
    decide ((wakeUs[p]?).getD 0 ≤ s.rf R.HOST_PM_TOL F.HOST_PM_TOL_TOL_US) && s.stageNow = 4 && s.clk.on && s.mayEnter p

/-- A port goes dark (R375). -/
def State.darkPort (s : State) (p : Nat) : State :=
  let s := ((s.setPortSt p F.PORT_STATUS_LINK_A 0).setPortSt p F.PORT_STATUS_LINK_B 0).setPortSt p F.PORT_STATUS_LANE_OK 0
  ((s.setPort p { s.port p with retiming := false, holdA := false, holdB := false }).parkFull p).refreshPort p

/-- In P3 a port whose parking is negotiated parks (R348, R375). -/
def State.parkPort (s : State) (p : Nat) : State := if s.parkState p = 0 && s.parkOk p && s.linkUp p 0 then s.askPark p else s

/-- Every ward that is in service is released (R416), the module's keys are destroyed (R418), and the ports go dark. -/
def State.enterP4 (s : State) : State :=
  let s := (List.range 8).foldl (fun s w => if 1 ≤ s.wardState w ∧ s.wardState w ≤ 3 then s.releaseWard w else s) s
  (List.range 16).foldl (fun s i => s.darkPort i) (s.modSec (fun x => { x with moduleKeys := 0 }))

/-- What entering a state does: from P3 on HBM is in self-refresh and the ports park. -/
def State.enterPstate (s : State) (p : Nat) : State :=
  let s := s.abandon.setPstate p
  let s := if 3 ≤ p then (List.range 16).foldl (fun s i => s.parkPort i) (s.selfRefresh true) else s
  (if p = 4 then s.enterP4 else s).relevelAll.pstateEvent

/-- PSTATE_ENTRY (R374): the entry condition has held for IDLE_US, which the command stands for. The entry is in progress until the block
next idles (log entry 54). -/
def execPstateEntry (pstate : Nat) (s : State) : Host.Outcome State Fault Refusal :=
  .next (
    if s.pstate < pstate && decide (pstate ≤ 4) && s.pstateOk pstate then
      { s with mgt := { s.mgt with entering := some pstate } }.setF R.HOST_PM_STATUS F.HOST_PM_STATUS_ENTERING 1
    else s)

/-- The deepest state up to `p` that may be kept. -/
def State.keeps (s : State) : Nat → Nat
  | 0 => 0
  | p + 1 => if s.pstateOk (p + 1) then p + 1 else s.keeps p

/-- The power state when the block idles (R374, R376): an entry in progress ends, and a state that may no longer be kept is left. -/
def State.settlePstate (s : State) : State :=
  match s.mgt.entering with
  | some p => if s.pstateOk p then s.enterPstate p else s.abandon
  | none =>
    if s.pstate = 0 ∨ s.pstateOk s.pstate then s
    else if s.pstate = 4 then s.wake
    else s.shallower (s.keeps (s.pstate - 1))

/-- What a step does on an empty queue (log entry 1): one cycle of the model's clock passes. -/
def idleTick (s : State) : State := { s.settlePstate with now := s.now + 1 }

/-- PSTATE_WAKE (R376). -/
def execPstateWake (s : State) : Host.Outcome State Fault Refusal := .next s.wake

/-- A host access that wakes the module (R376): it completes after P0 is reached, which from P4 is after the restart. A host whose link
is not served is answered with Unsupported Request (R372). -/
def State.hostWake (s : State) (i : Instr) (f : State → State) : State :=
  if !s.hostUp then s.answer St.bounds
  else if s.pstate = 4 then (s.modMgt (fun m => { m with wakeHeld := m.wakeHeld ++ [i] })).wake
  else f s.wake

/-- HOST_PM_TOL takes its value; a tolerance below the wake time of the present state wakes the module. -/
def State.setTol (s : State) (who : Requester) (val : W64) : State :=
  s.ctlDo who R.HOST_PM_TOL St.ok (fun s =>
    let s := s.plainWrite R.HOST_PM_TOL val 0 64
    if s.rf R.HOST_PM_TOL F.HOST_PM_TOL_TOL_US < (wakeUs[s.pstate]?).getD 0 then s.wake else s)

/-- PM_TOL_WRITE (R376): a host write to a BAR wakes the module in any case. -/
def execPmTolWrite (who : Requester) (val : W64) (s : State) : Host.Outcome State Fault Refusal :=
  .next (if who = .host then s.hostWake (.pmTolWrite who val) (fun s => s.setTol who val) else s.setTol who val)

/-! ## Configuration space (R359, R365, R372) -/

/-- The answer that stands for Request Retry Status. -/
def rrs : Nat := 0x100

/-- A configuration write. -/
def State.cfgWrite (s : State) (off : Nat) (val : W32) : State :=
  let s := { s with mem := { s.mem with cfgSpace := minsert (off / 4 * 4) val s.mem.cfgSpace, hostCfg := true } }
  match Config.hdmCtl off val with
  | none => s
  | some (false, _) => { s with mem := { s.mem with hdm := none, hdmError := false } }
  | some (true, n) =>
    if n = s.shw.2 then { s with mem := { s.mem with hdm := some n, hdmError := false } }
    else { s with mem := { s.mem with hdmError := true } }

/-- What was last written to a word of configuration space. -/
def State.cfgLast (s : State) (a : Nat) : Option W32 := (s.mem.cfgSpace.find? (fun e => e.1 = a)).map (·.2)

/-- PCI and extended capabilities and CXL DVSECs (R359), by the IDs of their standards: the extended ones from number 3 on, and each DVSEC
with its DVSEC ID. -/
def capIds : List (Nat × Option Nat) :=
  [(0x01, none), (0x10, none), (0x11, none),
   (0x0001, none), (0x0003, none), (0x0018, none), (0x001E, none), (0x0015, none), (0x0022, none), (0x0025, none), (0x0026, none),
   (0x002A, none), (0x0031, none), (0x0032, none), (0x002E, none),
   (0x0023, some 0), (0x0023, some 8), (0x0023, some 7), (0x0023, some 5)]

/-- Numbers in `capIds` of MSI-X, Device Serial Number, Resizable BAR and Readiness Time Reporting. -/
def capMsix : Nat := 2
def capDsn : Nat := 4
def capRebar : Nat := 7
def capRtr : Nat := 8

/-- Binary logarithm of BAR4's size in MiB: what the Resizable BAR control register holds, 16 GiB unless it was set (R360). -/
def State.bar4Log (s : State) : Nat :=
  match s.cfgLast (Config.capAt capRebar + 8) with
  | some v => let n := v.toNat / 2 ^ 8 % 64; if 10 ≤ n ∧ n ≤ 14 then n else 14
  | none => 14

/-- Placement slots that BAR4 holds (R360). -/
def State.slots (s : State) : Nat := 2 ^ (s.bar4Log - 10)

/-- A 64-bit BAR of 2^n bytes as it reads (R360): the address bits above its size as written, and its type bits. -/
def barWord (n typ : Nat) (v : W64) : W64 := BitVec.ofNat 64 (v.toNat / 2 ^ n * 2 ^ n + typ)

/-- The six BAR words from 0x10 on: BAR0 of 2 GiB, BAR2 of 128 MiB, BAR4 of its present size, prefetchable. -/
def State.barRead (s : State) (a : Nat) : W32 :=
  let i := (a - 0x10) / 8
  let w (x : Nat) : Nat := ((s.cfgLast x).map (·.toNat)).getD 0
  let v := BitVec.ofNat 64 (w (0x10 + 8 * i) + w (0x14 + 8 * i) * 2 ^ 32)
  let r := if i = 0 then barWord 31 0x4 v else if i = 1 then barWord 27 0x4 v else barWord (20 + s.bar4Log) 0xC v
  BitVec.ofNat 32 (r.toNat / 2 ^ (32 * ((a - 0x10) / 4 % 2)))

/-- A 32-bit word with a field replaced. -/
def setFld32 (w : W32) (lsb width x : Nat) : W32 := BitVec.ofNat 32 (setFld (BitVec.ofNat 64 w.toNat) lsb width x).toNat

/-- Words of the capabilities whose contents R358 to R360 and R372 give: `none` where the cited standards have them. -/
def State.capWord (s : State) (a : Nat) (old : W32) : Option W32 :=
  let dsn := Config.capAt capDsn
  let bar := Config.capAt capRebar
  if a = dsn + 4 then some (BitVec.ofNat 32 ownSerial)
  else if a = dsn + 8 then some (BitVec.ofNat 32 (ownSerial / 2 ^ 32))
  else if a = bar + 4 then some 0x0007C000
  else if a = bar + 8 then some (BitVec.ofNat 32 (4 + 1 * 2 ^ 5 + s.bar4Log * 2 ^ 8))
  else if a = Config.capAt capRtr + 4 then some (setFld32 old 0 12 (Config.readyCode 20000))
  else
    match capIds.zipIdx.find? (fun e => Config.capAt e.2 = a || (e.1.2.isSome && (Config.capAt e.2 + 4 = a || Config.capAt e.2 + 8 = a))) with
    | none => none
    | some ((id, dv), i) =>
      if a = Config.capAt i then
        let w := setFld32 old 0 (if i < 3 then 8 else 16) id
        some (if i = capMsix then setFld32 w 16 11 63 else w)
      else match dv with
        | none => none
        | some d => some (if a = Config.capAt i + 4 then setFld32 old 0 16 0x1E98 else setFld32 old 0 16 d)

/-- A word of configuration space (R359, R360, R372): what the rules state, and the rest as the cited standards have it. -/
def State.cfgRead (s : State) (off : Nat) : W32 :=
  let a := off / 4 * 4
  let old := Config.configWord a (s.cfgLast a) s.mem.hdmError
  if a = 0 then 0x01281F5B
  else if a = 8 then 0x12000000 + BitVec.ofNat 32 (fld (blockId 0x20) 24 8)
  else if 0x10 ≤ a ∧ a < 0x28 then s.barRead a
  else if a = 0x34 then setFld32 old 0 8 (Config.capAt 0)
  else (s.capWord a old).getD old

/-- HOST_CONFIG_REQUEST (R372). -/
def execHostConfigRequest (wr : Bool) (off : Nat) (val : W32) (s : State) : Host.Outcome State Fault Refusal :=
  .next (
    if s.rf R.HOST_LINK_STATUS F.HOST_LINK_STATUS_SPEED = 0 then s
    else if s.rf R.HOST_LINK_STATUS F.HOST_LINK_STATUS_RRS = 1 then s.answer rrs
    else if wr then (s.cfgWrite off val).answer St.ok
    else s.answer St.ok (BitVec.ofNat 64 (s.cfgRead off).toNat))

/-! ## BAR2: doorbells and flags (R368, R369, R378) -/

/-- A host access that ends with a status; HOST_ERR names the BAR or the window. -/
def State.barEnd (s : State) (src off st : Nat) : State := (if st = St.ok then s else s.hostErr off src st).answer st

/-- A write to a doorbell page. -/
def State.doorbell (s : State) (off size : Nat) (val : W64) : State :=
  if size ≠ 8 ∨ off % 8 ≠ 0 ∨ 0x800_0000 ≤ off then s.barEnd 1 off St.bounds
  else if 0x400_0000 ≤ off ∨ 0x400 ≤ off % 0x1000 then s.answer St.ok
  else
    let q := off / 0x1000 * 64 + off % 0x1000 / 0x10
    (if off % 0x10 = 0 then s.bellProd q (fld val 0 32) else s.bellCq q (fld val 0 32)).answer St.ok

/-- HOST_DOORBELL_PROD. -/
def execHostDoorbellProd (off size : Nat) (val : W64) (s : State) : Host.Outcome State Fault Refusal :=
  .next (s.hostWake (.hostDoorbellProd off size val) (fun s => s.doorbell off size val))

/-- HOST_DOORBELL_CQ. -/
def execHostDoorbellCq (off size : Nat) (val : W64) (s : State) : Host.Outcome State Fault Refusal :=
  .next (s.hostWake (.hostDoorbellCq off size val) (fun s => s.doorbell off size val))

/-- Whether a placement slot is in service. -/
def State.slotEn (s : State) (n : Nat) : Bool := s.rf (R.HOST_PLACE_CTL n) F.HOST_PLACE_CTL_EN = 1

/-- The region that a slot's keys name. -/
def State.slotRegion (s : State) (n : Nat) : Option XRegion :=
  s.regionByKey (s.rf (R.HOST_PLACE_KEY n) F.HOST_PLACE_KEY_REGION_KEY) (s.rf (R.HOST_PLACE_KEY n) F.HOST_PLACE_KEY_ACCESS_KEY)

/-- A flag write: posted writes are executed in order, so what it covers is visible. Its entry's length and source are not stated:
free values. -/
def State.placeFlag (s : State) (n size : Nat) : State :=
  let off := 0x400_0000 + 8 * n
  if size ≠ 8 then s.barEnd 1 off St.bounds
  else if s.slots ≤ n then s.answer St.ok
  else if !s.slotEn n then s.barEnd 1 off St.bounds
  else match s.slotRegion n with
    | none => s.barEnd 1 off St.keyDenied
    | some r => (((s.drew 1).regionSignal r (s.freeW.toNat % 2 ^ 32) (s.freeW.toNat / 2 ^ 32 % 65536) none).1).answer St.ok

/-- HOST_PLACE_FLAG. -/
def execHostPlaceFlag (slot : Nat) (write : PostedWrite) (s : State) : Host.Outcome State Fault Refusal :=
  .next (s.hostWake (.hostPlaceFlag slot write) (fun s => if !s.clk.on then s else s.placeFlag slot write.size))

/-! ## BAR4: the placement aperture (R362, R377) -/

/-- The checks of R292 on a placement write. -/
def State.placeChk (s : State) (n at_ len : Nat) : Nat × Option XRegion :=
  if s.slots ≤ n ∨ !s.slotEn n ∨ 2 ^ 30 < at_ + len then (St.bounds, none)
  else match s.slotRegion n with
    | none => (St.keyDenied, none)
    | some r =>
      let o := s.rf (R.HOST_PLACE_CTL n) F.HOST_PLACE_CTL_OFFSET * 4096 + at_
      if !r.permWrite then (St.keyDenied, none)
      else if r.len < o + len then (St.bounds, none)
      else (St.ok, some r)

/-- A placement write: one that ends with another status than OK has no effect (R362, R377). -/
def State.place (s : State) (off : Nat) (data : List Byte) : State :=
  let n := off / 2 ^ 30
  let (st, r) := s.placeChk n (off % 2 ^ 30) data.length
  match r with
  | none => s.barEnd 2 off st
  | some r =>
    let x := s.devWrite (r.base + s.rf (R.HOST_PLACE_CTL n) F.HOST_PLACE_CTL_OFFSET * 4096 + off % 2 ^ 30) 0 data
    (if x.2 = St.ok then x.1 else s).barEnd 2 off x.2

/-- HOST_BAR4_WRITE. -/
def execHostBar4Write (off : Nat) (data : List Byte) (s : State) : Host.Outcome State Fault Refusal :=
  .next (s.hostWake (.hostBar4Write off data) (fun s => if !s.clk.on then s else s.place off data))

/-- HOST_BAR4_READ (R362). -/
def execHostBar4Read (off : Nat) (s : State) : Host.Outcome State Fault Refusal :=
  .next (if s.hostUp then s.barEnd 2 off St.bounds else s.answer St.bounds)

/-! ## The shared window (R366, R367) -/

/-- A CXL.mem request that the HDM decoder takes. -/
def State.cxlTakes (s : State) (addr : Nat) : Bool :=
  s.hostUp && s.rf R.HOST_LINK_STATUS F.HOST_LINK_STATUS_CXL = 1 && s.mem.hdm.isSome && s.inShared addr 1

/-- The snoop filter notes a line that the host may now hold; when it is full the oldest entry goes first. -/
def State.noteHeld (s : State) (line : Nat) : State :=
  let l := s.mem.snoop.filter (fun x => x ≠ line) ++ [line]
  { s with mem := { s.mem with snoop := l.drop (l.length - 262144) } }

/-- The end of a CXL.mem request: a failing one is recorded. -/
def State.cxlEnd (s : State) (addr st : Nat) (data : List Byte) : State :=
  (if st = St.ok ∨ st = St.unset then s else s.hostErr (addr - s.shw.1 * 2 ^ 25) 3 st).answer st 0 data

/-- A line access of the host. -/
def State.cxlServe (s : State) (addr : Nat) (acc : LineAccess) (f : LineFault) : LineRes :=
  if s.fenced addr then s.fencedRes acc else s.serveHome (addr / 64) acc f true

/-- A CXL.mem read: an UNSET line gives zeros with a normal completion. -/
def State.cxlRead (s : State) (addr : Nat) (f : LineFault) : State :=
  let r := s.cxlServe addr (.read 0 false) f
  (r.s.noteHeld (addr / 64)).cxlEnd addr (if r.status = St.unset then St.ok else r.status) r.data

/-- Before stage 3 a request other than a configuration request is answered with Unsupported Request (R372). -/
def State.unready (s : State) : Bool :=
  decide (s.rf R.HOST_LINK_STATUS F.HOST_LINK_STATUS_SPEED ≠ 0) && decide (s.rf R.MGMT_STAGE F.MGMT_STAGE_STAGE < 3)

/-- CXL_MEM_READ. -/
def execCxlMemRead (addr : Nat) (fault : LineFault) (s : State) : Host.Outcome State Fault Refusal :=
  .next (if s.unready then s.answer St.bounds else if s.cxlTakes addr then s.hostWake (.cxlMemRead addr fault) (fun s => if !s.clk.on then s else s.cxlRead addr fault) else s)

/-- A CXL.mem write of bytes within a line. -/
def State.cxlWrite (s : State) (addr : Nat) (data : List Byte) (f : LineFault) : State :=
  let r := s.cxlServe addr (.write 0 (addr % 64) (data.take (64 - addr % 64))) f
  r.s.cxlEnd addr r.status []

/-- CXL_MEM_WRITE. -/
def execCxlMemWrite (addr : Nat) (data : List Byte) (fault : LineFault) (s : State) : Host.Outcome State Fault Refusal :=
  .next (if s.unready then s.answer St.bounds else if s.cxlTakes addr then s.hostWake (.cxlMemWrite addr data fault) (fun s => if !s.clk.on then s else s.cxlWrite addr data fault) else s)

/-! ## Snoops of the device cache (R363) -/

/-- A snooped line's dirty data goes to the host; an invalidated line leaves the device cache. -/
def State.snooped (s : State) (line : Nat) (kind : SnoopKind) : State :=
  match s.dline line with
  | none => s
  | some c =>
    let s := if c.dirty then { s with mem := { s.mem with host := putBytes s.mem.host (s.hostPhys (line * 64)) c.data } } else s
    match kind with
    | .current => s.dput line { c with dirty := false }
    | .invalidate => { s with mem := { s.mem with dcache := merase line s.mem.dcache } }

/-- HOST_SNOOP: the module answers with its data where it holds the line; the host's own new data follows an invalidation. -/
def execHostSnoop (line : Nat) (kind : SnoopKind) (hostData : Option (List Byte)) (s : State) : Host.Outcome State Fault Refusal :=
  .next (
    let bytes := ((s.dline line).map (·.data)).getD []
    let s := s.snooped line kind
    let s := match kind, hostData with
      | .invalidate, some d => { s with mem := { s.mem with host := putBytes s.mem.host (s.hostPhys (line * 64)) (padTo 64 d) } }
      | _, _ => s
    s.answer St.ok 0 bytes)

/-! ## The link (R358, R364, R372, R373) -/

/-- HOST_LINK_UP: a link in training comes up; below 64 GT/s or ×16 it is degraded. -/
def execHostLinkUp (speed width : Nat) (cxl : Bool) (s : State) : Host.Outcome State Fault Refusal :=
  .next (
    let r := R.HOST_LINK_STATUS
    if s.sup.pwrgd && !s.sup.perst && s.rf r F.HOST_LINK_STATUS_SPEED = 0 && (speed = 5 || speed = 6) && (width = 4 || width = 8 || width = 16) then
      let s := ((s.setF r F.HOST_LINK_STATUS_SPEED speed).setF r F.HOST_LINK_STATUS_WIDTH width).setF r F.HOST_LINK_STATUS_CXL (b2n cxl)
      let s := (s.modSup (fun x => { x with l12 := false })).raise (ev 0x2002 1 0 0)
      if speed = 6 && width = 16 then s else s.raise (ev 0x2003 1 0 0)
    else s)

/-- The link, the configuration space and the BAR assignments are reset; the device cache and the snoop filter are empty (R364). -/
def State.linkReset (s : State) : State :=
  let r := R.HOST_LINK_STATUS
  let up := s.rf r F.HOST_LINK_STATUS_SPEED ≠ 0
  let s := ((s.setF r F.HOST_LINK_STATUS_SPEED 0).setF r F.HOST_LINK_STATUS_WIDTH 0).setF r F.HOST_LINK_STATUS_CXL 0
  let s := { s with
    mem := { s.mem with dcache := [], hostCfg := false, cfgSpace := [], hdm := none, hdmError := false, snoop := [] }
    evt := { s.evt with msix := [] } }
  let s := if up then s.raise (ev 0x2001 0 0 0) else s
  s.raise (ev 0x2005 1 0 0)

/-- HOST_LINK_DOWN. -/
def execHostLinkDown (s : State) : Host.Outcome State Fault Refusal :=
  .next (if s.rf R.HOST_LINK_STATUS F.HOST_LINK_STATUS_SPEED ≠ 0 then s.linkReset else s)

/-- PERST_ASSERT. -/
def execPerstAssert (s : State) : Host.Outcome State Fault Refusal :=
  .next (
    let s := s.modSup (fun x => { x with perst := true })
    if s.sup.pwrgd then s.linkReset else s)

/-- PERST_DEASSERT: link training starts. -/
def execPerstDeassert (s : State) : Host.Outcome State Fault Refusal := .next (s.modSup (fun x => { x with perst := false }))

/-- HOT_RESET. -/
def execHotReset (s : State) : Host.Outcome State Fault Refusal :=
  .next (if s.rf R.HOST_LINK_STATUS F.HOST_LINK_STATUS_SPEED ≠ 0 then s.linkReset else s)

/-- A HOST queue at a Function Level Reset: ENABLE is 0, and its messages and posted buffers end without completion entries. -/
def State.flrQueue (s : State) (q : Nat) : State :=
  let s := s.ctxPut q { s.ctx q with w0 := setFld (s.ctx q).w0 11 1 0 }
  s.modX (fun x => { x with
    msgs := x.msgs.filter (fun m => m.queue ≠ q || m.kind = 7)
    waitMsgs := x.waitMsgs.filter (fun m => m.queue ≠ q)
    cqWait := mset [] x.cqWait q []
    posted := mset [] x.posted q []
    asm := x.asm.map (fun e => if e.2.queue = q then (e.1, { e.2 with buf := none, st := St.aborted }) else e) })

/-- FLR. -/
def execFlr (s : State) : Host.Outcome State Fault Refusal :=
  .next (
    if s.hostUp then
      let s := s.listedQueues.foldl (fun s q =>
        let t := (s.ctxLoad q).1
        if (t.ctx q).enable && (t.ctx q).typ = 0 then t.flrQueue q else s) s
      s.linkReset
    else s)

end Sys2Proof.Machine
end

