-- ==== Sys2Proof/Machine/Writes.lean ====
section
/-! DEFINITION. The rows that are writes of one control register: what the register does is its family's (`ctl…`); a host's write is a
BAR0 write, which wakes the module (R376). -/

namespace Sys2Proof.Machine

open Sys2Proof

/-- A control-space write by a requester. The host's wakes the module and completes once P0 is reached (R376), which from P4 is after
the restart; a host whose link is not served is answered with Unsupported Request (R372). -/
def State.byHost (s : State) (who : Requester) (i : Instr) (f : State → Host.Outcome State Fault Refusal) :
    Host.Outcome State Fault Refusal :=
  if who ≠ .host then f s
  else if !s.hostUp then .next (s.answer St.bounds)
  else if s.pstate = 4 then .next (s.modMgt (fun m => { m with wakeHeld := m.wakeHeld ++ [i] })).wake
  else f s.wake

/-- SEQ_RUN (R85). -/
def execSeqRun (who : Requester) (core : Nat) (trapHalt : Bool) (s : State) : Host.Outcome State Fault Refusal :=
  s.byHost who (.seqRun who core trapHalt) (fun s => ctlSeqRun who core trapHalt s)

/-- SEQ_HALT (R86). -/
def execSeqHalt (who : Requester) (core : Nat) (trapHalt : Bool) (s : State) : Host.Outcome State Fault Refusal :=
  s.byHost who (.seqHalt who core trapHalt) (fun s => ctlSeqHalt who core trapHalt s)

/-- FG_RESUME (R96). -/
def execFgResume (who : Requester) (core : Nat) (s : State) : Host.Outcome State Fault Refusal :=
  s.byHost who (.fgResume who core) (fun s => ctlFgResume who core s)

/-- FG_FLUSH (R96). -/
def execFgFlush (who : Requester) (core : Nat) (s : State) : Host.Outcome State Fault Refusal :=
  s.byHost who (.fgFlush who core) (fun s => ctlFgFlush who core s)

/-- FILL_RESUME (R96). -/
def execFillResume (who : Requester) (core : Nat) (s : State) : Host.Outcome State Fault Refusal :=
  s.byHost who (.fillResume who core) (fun s => ctlFillResume who core s)

/-- FILL_FLUSH (R96). -/
def execFillFlush (who : Requester) (core : Nat) (s : State) : Host.Outcome State Fault Refusal :=
  s.byHost who (.fillFlush who core) (fun s => ctlFillFlush who core s)

/-- FILL_ENABLE_WRITE (R95). -/
def execFillEnableWrite (who : Requester) (core : Nat) (en : Bool) (s : State) : Host.Outcome State Fault Refusal :=
  s.byHost who (.fillEnableWrite who core en) (fun s => ctlFillEnableWrite who core en s)

/-- SYNC_CTR_WRITE (R113). -/
def execSyncCtrWrite (who : Requester) (core ctr val : Nat) (s : State) : Host.Outcome State Fault Refusal :=
  s.byHost who (.syncCtrWrite who core ctr val) (fun s => ctlSyncCtrWrite who core ctr val s)

/-- IMEM_WRITE (R120). -/
def execImemWrite (who : Requester) (core off : Nat) (val : W64) (s : State) : Host.Outcome State Fault Refusal :=
  s.byHost who (.imemWrite who core off val) (fun s => ctlImemWrite who core off val s)

/-- SFN_TABLE_WRITE (R171). -/
def execSfnTableWrite (who : Requester) (cell off : Nat) (val : W64) (s : State) : Host.Outcome State Fault Refusal :=
  s.byHost who (.sfnTableWrite who cell off val) (fun s => ctlSfnTableWrite who cell off val s)

/-- SFN_TDESC_WRITE (R171). -/
def execSfnTdescWrite (who : Requester) (cell tbl : Nat) (val : W64) (s : State) : Host.Outcome State Fault Refusal :=
  s.byHost who (.sfnTdescWrite who cell tbl val) (fun s => ctlSfnTdescWrite who cell tbl val s)

/-- SFN_BCAST_WRITE (R173). -/
def execSfnBcastWrite (who : Requester) (half off : Nat) (val : W64) (s : State) : Host.Outcome State Fault Refusal :=
  s.byHost who (.sfnBcastWrite who half off val) (fun s => ctlSfnBcastWrite who half off val s)

/-- WALK_ENABLE (R198). -/
def execWalkEnable (who : Requester) (half ward : Nat) (val : W64) (s : State) : Host.Outcome State Fault Refusal :=
  s.byHost who (.walkEnable who half ward val) (fun s => ctlWalkEnable who half ward val s)

/-- WALK_DISABLE (R216). -/
def execWalkDisable (who : Requester) (half ward : Nat) (s : State) : Host.Outcome State Fault Refusal :=
  s.byHost who (.walkDisable who half ward) (fun s => ctlWalkDisable who half ward s)

/-- WALK_RESUME (R216). -/
def execWalkResume (who : Requester) (half ward : Nat) (s : State) : Host.Outcome State Fault Refusal :=
  s.byHost who (.walkResume who half ward) (fun s => ctlWalkResume who half ward s)

/-- TIER_OP_MIGRATE (R202). -/
def execTierOpMigrate (who : Requester) (half count cls ward : Nat) (s : State) : Host.Outcome State Fault Refusal :=
  s.byHost who (.tierOpMigrate who half count cls ward) (fun s => ctlTierOpMigrate who half count cls ward s)

/-- TIER_OP_EVICT (R202). -/
def execTierOpEvict (who : Requester) (half count ward : Nat) (s : State) : Host.Outcome State Fault Refusal :=
  s.byHost who (.tierOpEvict who half count ward) (fun s => ctlTierOpEvict who half count ward s)

/-- TIER_OP_CLEAN (R202). -/
def execTierOpClean (who : Requester) (half count ward : Nat) (s : State) : Host.Outcome State Fault Refusal :=
  s.byHost who (.tierOpClean who half count ward) (fun s => ctlTierOpClean who half count ward s)

/-- UNFENCE (R248). -/
def execUnfence (who : Requester) (stack : Nat) (s : State) : Host.Outcome State Fault Refusal :=
  s.byHost who (.unfence who stack) (fun s => ctlUnfence who stack s)

/-- PC_RETRAIN_START (R223). -/
def execPcRetrainStart (who : Requester) (stack pc : Nat) (s : State) : Host.Outcome State Fault Refusal :=
  s.byHost who (.pcRetrainStart who stack pc) (fun s => ctlPcRetrainStart who stack pc s)

/-- REGION_RESET (R237). -/
def execRegionReset (who : Requester) (stack first count : Nat) (s : State) : Host.Outcome State Fault Refusal :=
  s.byHost who (.regionReset who stack first count) (fun s => ctlRegionReset who stack first count s)

/-- REGION_CLEAR_NOW (R237). -/
def execRegionClearNow (who : Requester) (stack first count : Nat) (s : State) : Host.Outcome State Fault Refusal :=
  s.byHost who (.regionClearNow who stack first count) (fun s => ctlRegionClearNow who stack first count s)

/-- XPORT_DOORBELL (R299). -/
def execXportDoorbell (who : Requester) (queue prod : Nat) (s : State) : Host.Outcome State Fault Refusal :=
  s.byHost who (.xportDoorbell who queue prod) (fun s => ctlXportDoorbell who queue prod s)

/-- XPORT_CQ_DOORBELL (R300). -/
def execXportCqDoorbell (who : Requester) (queue cons : Nat) (s : State) : Host.Outcome State Fault Refusal :=
  s.byHost who (.xportCqDoorbell who queue cons) (fun s => ctlXportCqDoorbell who queue cons s)

/-- CTX_CMD_READ (R297). -/
def execCtxCmdRead (who : Requester) (queue : Nat) (s : State) : Host.Outcome State Fault Refusal :=
  s.byHost who (.ctxCmdRead who queue) (fun s => ctlCtxCmdRead who queue s)

/-- CTX_CMD_WRITE (R297). -/
def execCtxCmdWrite (who : Requester) (queue : Nat) (s : State) : Host.Outcome State Fault Refusal :=
  s.byHost who (.ctxCmdWrite who queue) (fun s => ctlCtxCmdWrite who queue s)

/-- REGION_REGISTER (R303). -/
def execRegionRegister (who : Requester) (ward : Nat) (permWrite permRead permAtomic : Bool) (s : State) :
    Host.Outcome State Fault Refusal :=
  s.byHost who (.regionRegister who ward permWrite permRead permAtomic) (fun s => ctlRegionRegister who ward permWrite permRead permAtomic s)

/-- REGION_DEREGISTER (R306). -/
def execRegionDeregister (who : Requester) (ward : Nat) (s : State) : Host.Outcome State Fault Refusal :=
  s.byHost who (.regionDeregister who ward) (fun s => ctlRegionDeregister who ward s)

/-- COLL_ABORT_WRITE (R321). -/
def execCollAbortWrite (who : Requester) (seq : Nat) (s : State) : Host.Outcome State Fault Refusal :=
  s.byHost who (.collAbortWrite who seq) (fun s => ctlCollAbortWrite who seq s)

/-- RETIME (R344). -/
def execRetime (who : Requester) (port : Nat) (s : State) : Host.Outcome State Fault Refusal :=
  s.byHost who (.retime who port) (fun s => ctlRetime who port s)

/-- TXN_BEGIN (R460). -/
def execTxnBegin (who : Requester) (s : State) : Host.Outcome State Fault Refusal :=
  s.byHost who (.txnBegin who) (fun s => ctlTxnBegin who s)

/-- TXN_FIELD_WRITE (R460). -/
def execTxnFieldWrite (who : Requester) (addr : Nat) (val : W64) (s : State) : Host.Outcome State Fault Refusal :=
  s.byHost who (.txnFieldWrite who addr val) (fun s => ctlTxnFieldWrite who addr val s)

/-- TXN_LATCH (R462). -/
def execTxnLatch (who : Requester) (persist : Bool) (s : State) : Host.Outcome State Fault Refusal :=
  s.byHost who (.txnLatch who persist) (fun s => ctlTxnLatch who persist s)

/-- TXN_ROLLBACK (R460). -/
def execTxnRollback (who : Requester) (s : State) : Host.Outcome State Fault Refusal :=
  s.byHost who (.txnRollback who) (fun s => ctlTxnRollback who s)

/-- FW_INSTALL (R467). -/
def execFwInstall (who : Requester) (len : Nat) (s : State) : Host.Outcome State Fault Refusal :=
  s.byHost who (.fwInstall who len) (fun s => ctlFwInstall who len s)

/-- FW_SWITCH_NEXT (R467). -/
def execFwSwitchNext (who : Requester) (s : State) : Host.Outcome State Fault Refusal :=
  s.byHost who (.fwSwitchNext who) (fun s => ctlFwSwitchNext who s)

/-- FW_SWITCH_LIVE (R468). -/
def execFwSwitchLive (who : Requester) (s : State) : Host.Outcome State Fault Refusal :=
  s.byHost who (.fwSwitchLive who) (fun s => ctlFwSwitchLive who s)

/-- FW_CONFIRM (R467). -/
def execFwConfirm (who : Requester) (s : State) : Host.Outcome State Fault Refusal :=
  s.byHost who (.fwConfirm who) (fun s => ctlFwConfirm who s)

/-- FW_INSTALL_CAL (R467). -/
def execFwInstallCal (who : Requester) (len : Nat) (s : State) : Host.Outcome State Fault Refusal :=
  s.byHost who (.fwInstallCal who len) (fun s => ctlFwInstallCal who len s)

/-- TAG_ACCESS_READ (R480). -/
def execTagAccessRead (who : Requester) (addr : Nat) (s : State) : Host.Outcome State Fault Refusal :=
  s.byHost who (.tagAccessRead who addr) (fun s => ctlTagAccessRead who addr s)

/-- TAG_ACCESS_WRITE (R480). -/
def execTagAccessWrite (who : Requester) (addr : Nat) (s : State) : Host.Outcome State Fault Refusal :=
  s.byHost who (.tagAccessWrite who addr) (fun s => ctlTagAccessWrite who addr s)

/-- ORDER_TAKE_LEAD (R486). -/
def execOrderTakeLead (who : Requester) (half epoch : Nat) (s : State) : Host.Outcome State Fault Refusal :=
  s.byHost who (.orderTakeLead who half epoch) (fun s => ctlOrderTakeLead who half epoch s)

/-- ORDER_HAND_OFF (R486). -/
def execOrderHandOff (who : Requester) (half : Nat) (s : State) : Host.Outcome State Fault Refusal :=
  s.byHost who (.orderHandOff who half) (fun s => ctlOrderHandOff who half s)

/-- EVT_NAND_READ (R504). -/
def execEvtNandRead (who : Requester) (page : Nat) (readable : Bool) (s : State) : Host.Outcome State Fault Refusal :=
  s.byHost who (.evtNandRead who page readable) (fun s => ctlEvtNandRead who page readable s)

end Sys2Proof.Machine
end

