-- ==== Sys2Proof/Machine/Hub.lean ====
section
/-! DEFINITION. Control space as a whole (R7, R8, R23 to R26): what every register reads, and what a write of any of them does. -/

namespace Sys2Proof.Machine

open Sys2Proof

/-- The state that a meaning answers. -/
def afterOf (s : State) : Host.Outcome State Fault Refusal → State
  | .next t => t
  | .fault _ => s
  | .refused _ => s

/-! ## Program memories of engines and sequencers (R118) -/

/-- What an offset in a program memory window is. -/
inductive ProgPart where
  | instr (off : Nat)
  | data (off : Nat)
  | counter (n : Nat)
  | hole
deriving DecidableEq, Repr

/-- The engine or sequencer whose program memory holds a control-space offset, and the place in it. -/
def progOf (a : Nat) : Option (Nat × ProgPart) :=
  let id := windowOf a
  let o := a % 0x1000000
  if id % 0x40 = 0x11 ∧ 0x80_0000 ≤ o ∧ o < 0x90_0000 then
    let x := o % 0x1_0000
    some (128 + 16 * (id / 0x40 % 2) + (o - 0x80_0000) / 0x1_0000,
      if x < 0x8000 then .instr x
      else if x < 0xC000 then .data (x - 0x8000)
      else if x < 0xC200 then .counter ((x - 0xC000) / 8)
      else .hole)
  else if id = 0x18 ∧ 0x80_0000 ≤ o ∧ o < 0xA0_0000 then
    let x := o % 0x4_0000
    some (160 + (o - 0x80_0000) / 0x4_0000,
      if x < 0x1_0000 then .instr x
      else if x < 0x2_0000 then .data (x - 0x1_0000)
      else if 0x3_0000 ≤ x ∧ x < 0x3_0200 then .counter ((x - 0x3_0000) / 8)
      else .hole)
  else none

/-! ## Reads -/

/-- Regions of a stack that have an owner and are UNSET. -/
def State.unsetOwned (s : State) (st : Nat) : Nat :=
  (s.mem.regions.filter (fun e => e.1 / 65536 = st && e.2.owner ≠ 15 && e.2.st = 0)).length

/-- What a register of a MEM sub-window reads. -/
def State.memView (s : State) (st a : Nat) : W64 :=
  let o := a % 0x400000
  if a = R.MEM_SCRUB_STATUS st then
    setFld (s.reg a) F.MEM_SCRUB_STATUS_UNSET_OWNED.lsb F.MEM_SCRUB_STATUS_UNSET_OWNED.width (s.unsetOwned st)
  else if 0x100000 ≤ o ∧ o < 0x180000 then
    let r := s.region (st * 65536 + (o - 0x100000) / 8)
    BitVec.ofNat 64 (r.st + r.owner * 16)
  else s.reg a

/-- What a register of a TIER window reads. -/
def State.tierView (s : State) (h a : Nat) : W64 :=
  let o := a % 0x1000000
  if 0x240 ≤ o ∧ o < 0x280 then s.wardOcc h ((o - 0x240) / 8)
  else if 0x400 ≤ o ∧ o < 0x480 then
    BitVec.ofNat 64 (meshCycles ((s.core (128 + 16 * h + (o - 0x400) / 8)).busyNow (s.ck (128 + 16 * h + (o - 0x400) / 8)) 6))
  else if o = 0x480 then BitVec.ofNat 64 (mget 0 s.mem.moverBusy h)
  else if 0x1000 ≤ o ∧ o < 0x1400 ∧ (o - 0x1000) % 0x80 = 0x18 then
    setFld (s.reg a) F.TIER_WALK_STATUS_HELD.lsb 1 (b2n (s.walkHeld h ((o - 0x1000) / 0x80)))
  else s.reg a

/-- µs since the last accepted LEASE or LEASE_ACK of a half. -/
def State.sinceUs (s : State) (h : Nat) : Nat := min 0xFFFF ((s.now - mget 0 s.mgt.leaseAt h) / cyclesPerUs)

/-- What PWR_CELL of a cell reads: one that is stopped, absent or in P1 or P2 holds no level (R394). -/
def State.cellPwrView (s : State) (k a : Nat) : W64 :=
  if s.working k then s.reg a else setFld (setFld (s.reg a) F.PWR_CELL_LEVEL.lsb 4 0) F.PWR_CELL_CAUSE.lsb 5 0

/-- What a control-space register reads, before any clearing (R8, R25). -/
def State.view (s : State) (a : Nat) : W64 :=
  let id := windowOf a
  let h := id / 0x40 % 2
  let o := a % 0x1000000
  match progOf a with
  | some (k, .instr x) => BitVec.ofNat 64 (leNat (bytesAt s.mem.imem (k * 65536 + x) 8))
  | some (k, .data x) => BitVec.ofNat 64 (leNat (s.csBytes k x 8))
  | some (k, .counter n) => BitVec.ofNat 64 (s.ctr k n)
  | some (_, .hole) => 0
  | none =>
    if id = 0x08 then s.cellView (o / 0x20000) (o % 0x20000)
    else if id % 0x40 = 0x10 then s.memView (h * 4 + o / 0x400000) a
    else if id % 0x40 = 0x11 then s.tierView h a
    else if id = 0x28 ∧ 0x1000 ≤ o ∧ o < 0x1400 then s.cellPwrView ((o - 0x1000) / 8) a
    else if a = R.HALF_LEAD_STATUS h then
      setFld (s.reg a) F.HALF_LEAD_STATUS_SINCE_US.lsb F.HALF_LEAD_STATUS_SINCE_US.width (s.sinceUs h)
    else if a = R.EVT_SB_STATUS then BitVec.ofNat 64 ((s.path 1).queue.length + b2n s.alert * 512)
    else s.reg a

/-- What a read clears (R8, R81, R155). -/
def State.readClear (s : State) (a : Nat) : State :=
  let o := a % 0x1000000
  if windowOf a = 0x08 then s.cellClear (o / 0x20000) (o % 0x20000) 0 64
  else s.setReg a (clearRc (fieldsAt a) (s.reg a) 0 64)

/-- The status of a read that passes the shared checks: data memory whose line is poisoned gives POISON (R47, R548). -/
def State.readChk (s : State) (a : Nat) : Nat :=
  match progOf a with
  | some (k, .data x) => chk (s.csBad k x 8) St.poison
  | _ => St.ok

/-- A 64-bit read of control space. -/
def State.ctlRead (s : State) (who : Requester) (a size : Nat) : State :=
  let st := worst (s.reach who a) (chk (size ≠ 8 || a % 8 ≠ 0) St.bounds)
  let st := if st = St.ok then s.readChk a else st
  if st = St.ok then (s.readClear a).ctlEnd who a St.ok (s.view a) else s.ctlEnd who a st

/-- RC_READ (R8): the value, and its RC fields cleared in the same access. A sequencer core's own accesses are 32 bits wide and are made by
its instructions (R84). -/
def execRcRead (who : Requester) (addr size : Nat) (s : State) : Host.Outcome State Fault Refusal :=
  .next (s.ctlRead who addr size)

/-! ## Writes: registers that do more than hold a value -/

/-- A plain write through control space. -/
def State.plainCtl (s : State) (who : Requester) (a : Nat) (v : W64) : State :=
  s.ctlDo who a St.ok (fun s => s.plainWrite a v 0 64)

/-- A write that has no effect. -/
def State.noEffect (s : State) (who : Requester) (a : Nat) : State := s.ctlDo who a St.ok (fun s => s)

/-- A write that R429 refuses for ward `w`, or the effect. -/
def State.unlessLocked (s : State) (who : Requester) (a w : Nat) (f : State → State) : State :=
  if s.reach who a = St.ok && lockable who && s.locked w then (s.lockedRefused w).ctlEnd who a St.wardFault else f s

/-- A write to a CELL sub-window (R120, R122, R429). -/
def State.cellCtl (s : State) (who : Requester) (k off : Nat) (v : W64) : State :=
  let a := 0x8000000 + k * 0x20000 + off
  let c := s.reach who a
  if c ≠ St.ok then s.ctlEnd who a c
  else if lockedCellOff off && s.lockRefuses who k then (s.lockedRefused ((s.wardOfCore k).getD 0)).ctlEnd who a St.wardFault
  else if off = 0x100 && bitAt v.toNat 0 && s.runChk k ≠ St.ok then s.ctlEnd who a (s.runChk k)
  else
    let r := s.cellWrite k off v 0 64
    r.1.ctlEnd who a r.2

/-- A write to a program memory (R118, R120, R429). -/
def State.progCtl (s : State) (who : Requester) (a k : Nat) (p : ProgPart) (v : W64) : State :=
  match p with
  | .instr x => afterOf s (ctlImemWrite who k x v s)
  | .data x =>
    if s.reach who a = St.ok && s.lockRefuses who k then
      (s.lockedRefused ((s.wardOfCore k).getD 0)).ctlEnd who a St.wardFault
    else s.ctlDo who a St.ok (fun s => s.csWrite k x (leBytes 8 v.toNat))
  | .counter n => afterOf s (ctlSyncCtrWrite who k n (v.toNat % 65536) s)
  | .hole => s.noEffect who a

/-- A write to the MGMT window (R467, R480). -/
def State.mgmtCtl (s : State) (who : Requester) (a : Nat) (v : W64) : State :=
  if a = R.MGMT_FW_CTRL then
    let op := fld v 25 3
    if bitAt v.toNat 28 && decide (1 ≤ op ∧ op ≤ 5) then s.fwGo who op (fld v 0 25) else s.noEffect who a
  else if a = R.MGMT_FW_ADDR then (if fld v 0 6 = 0 then s.plainCtl who a v else s.noEffect who a)
  else s.plainCtl who a v

/-- A write to HALF_LEAD_CTRL (R506). -/
def State.leadCtl (s : State) (who : Requester) (h : Nat) (v : W64) : State :=
  let a := R.HALF_LEAD_CTRL h
  if who ≠ .mc then s.ctlDo who a St.wardFault (fun s => s)
  else if !bitAt v.toNat 2 then s.noEffect who a
  else match fld v 0 2 with
    | 1 => afterOf s (ctlOrderTakeLead who h (fld v 32 32) s)
    | 2 => afterOf s (ctlOrderHandOff who h s)
    | _ => s.noEffect who a

/-- A write to a HALF window (R157, R170, R173, R506). -/
def State.halfCtl (s : State) (who : Requester) (h a : Nat) (v : W64) : State :=
  let o := a % 0x1000000
  if a = R.HALF_LEAD_CTRL h then s.leadCtl who h v
  else if 0x440000 ≤ o ∧ o < 0x450000 then s.bcastWrite who h (o - 0x440000) v
  else if 0x500000 ≤ o ∧ o < 0x900000 then s.sfnWrite who (h * 64 + (o - 0x500000) / 0x10000) ((o - 0x500000) % 0x10000) v
  else s.plainCtl who a v

/-- A write to a MEM sub-window (R223, R237, R248, R251). -/
def State.memCtl (s : State) (who : Requester) (st a : Nat) (v : W64) : State :=
  if a = R.MEM_REGION_CMD st then
    if bitAt v.toNat 63 then s.regionWrite who (fld v 33 1) st (fld v 0 16) (fld v 16 17)
    else if who = .mc then s.noEffect who a
    else s.ctlEnd who a (worst (s.reach who a) St.wardFault)
  else if a = R.MEM_PC_CTRL st then
    if bitAt v.toNat 8 then afterOf s (ctlPcRetrainStart who st (fld v 0 6) s) else s.noEffect who a
  else if a = R.MEM_THERM_CTRL st then
    if bitAt v.toNat 0 then afterOf s (ctlUnfence who st s) else s.noEffect who a
  else s.plainCtl who a v

/-- A write to a walker's registers (R216). -/
def State.walkCtlWrite (s : State) (who : Requester) (h w a : Nat) (v : W64) : State :=
  let enabled := s.walkCtl h w F.TIER_WALK_CTRL_ENABLE = 1
  if a = R.TIER_WALK_CTRL h w then s.ctlDo who a St.ok (fun s => s.walkWrite h w v)
  else if a = R.TIER_WALK_BASE h w then
    if enabled || fld v 0 4 ≠ 0 then s.noEffect who a else s.plainCtl who a v
  else if a = R.TIER_WALK_LEN h w then (if enabled then s.noEffect who a else s.plainCtl who a v)
  else s.noEffect who a

/-- A write to a TIER window (R202, R216). -/
def State.tierCtl (s : State) (who : Requester) (h a : Nat) (v : W64) : State :=
  let o := a % 0x1000000
  if a = R.TIER_OP_CTRL h then
    if !bitAt v.toNat 31 then s.noEffect who a
    else s.ctlDo who a St.ok (fun s => s.tierOp h (fld v 24 2) (fld v 0 23) (fld v 26 2) (fld v 28 3))
  else if a = R.TIER_OP_ADDR h then (if fld v 0 16 = 0 then s.plainCtl who a v else s.noEffect who a)
  else if 0x1000 ≤ o ∧ o < 0x1400 then s.walkCtlWrite who h ((o - 0x1000) / 0x80) a v
  else s.plainCtl who a v

/-- A write to the XPORT window (R297 to R306, R321, R325). -/
def State.xportCtl (s : State) (who : Requester) (a : Nat) (v : W64) : State :=
  let o := a % 0x1000000
  if a = R.XPORT_DOORBELL then afterOf s (ctlXportDoorbell who (fld v 0 20) (fld v 20 32) s)
  else if a = R.XPORT_CQ_DOORBELL then afterOf s (ctlXportCqDoorbell who (fld v 0 20) (fld v 20 32) s)
  else if a = R.XPORT_CTX_CMD then
    if !bitAt v.toNat 21 then s.noEffect who a
    else if bitAt v.toNat 20 then afterOf s (ctlCtxCmdWrite who (fld v 0 20) s)
    else afterOf s (ctlCtxCmdRead who (fld v 0 20) s)
  else if a = R.XPORT_REG_CTRL then
    if !bitAt v.toNat 0 then s.noEffect who a
    else if bitAt v.toNat 1 then afterOf s (ctlRegionDeregister who (fld v 2 3) s)
    else afterOf s (ctlRegionRegister who (fld v 2 3) (bitAt v.toNat 5) (bitAt v.toNat 6) (bitAt v.toNat 7) s)
  else if a = R.XPORT_REG_ADDR ∨ a = R.XPORT_REG_LEN then
    if fld v 0 12 = 0 then s.plainCtl who a v else s.noEffect who a
  else if 0x700 ≤ o ∧ o < 0x800 ∧ o % 0x20 = 0x10 then
    if bitAt v.toNat 0 then afterOf s (ctlCollAbortWrite who ((o - 0x700) / 0x20) s) else s.noEffect who a
  else s.plainCtl who a v

/-- A write to a PORT sub-window (R344, R355): LOOPBACK takes a port out of the routes or lets it back. -/
def State.portCtl (s : State) (who : Requester) (p a : Nat) (v : W64) : State :=
  if a = R.PORT_LINK_CTRL p then
    s.ctlDo who a St.ok (fun s =>
      let s := (s.plainWrite a v 0 64).refreshPort p
      if bitAt v.toNat 0 && s.portMode p ≠ 0 then s.retime p else s)
  else s.plainCtl who a v

/-- A write to a placement slot (R377): with EN = 1 only a write that clears EN does anything, and it does only that. -/
def State.slotCtl (s : State) (who : Requester) (n a : Nat) (v : W64) : State :=
  if !s.slotEn n then s.plainCtl who a v
  else if a = R.HOST_PLACE_CTL n && !bitAt v.toNat 0 then s.ctlDo who a St.ok (fun s => s.setF a F.HOST_PLACE_CTL_EN 0)
  else s.noEffect who a

/-- A write to the HOST window (R361, R376, R377, R380). Which windows BAR0 reaches only the module controller may change, and the change is
one of a measured item (R422, R430). -/
def State.hostCtl (s : State) (who : Requester) (a : Nat) (v : W64) : State :=
  let o := a % 0x1000000
  if a = R.HOST_PM_TOL then s.setTol who v
  else if a = R.HOST_CS_ALLOW_LO ∨ a = R.HOST_CS_ALLOW_HI then
    s.ctlDo who a (chk (who ≠ .mc) St.bounds) (fun s =>
      let t := s.plainWrite a v 0 64
      if t.reg a = s.reg a then t else t.faultWards)
  else if 0x200 ≤ o ∧ o < 0x300 then s.slotCtl who ((o - 0x200) / 0x10) a v
  else s.plainCtl who a v

/-- A write to an unseal context's registers (R429, R442): only while the ward that CTL names is OPEN. -/
def State.unsealCtl (s : State) (who : Requester) (c a : Nat) (v : W64) : State :=
  let w := s.uctxWard c
  s.unlessLocked who a w (fun s => s.ctlDo who a (chk (s.wardState w ≠ 1) St.wardFault) (fun s => s.plainWrite a v 0 64))

/-- A write to the SEC window (R442). -/
def State.secCtl (s : State) (who : Requester) (a : Nat) (v : W64) : State :=
  let o := a % 0x1000000
  if 0x200 ≤ o ∧ o < 0x300 ∧ (o % 0x20 = 0x08 ∨ o % 0x20 = 0x10) then
    s.ctlDo who a (chk (s.wardState ((o - 0x200) / 0x20) ≠ 0) St.wardFault) (fun s => s.plainWrite a v 0 64)
  else if 0x1000 ≤ o ∧ o < 0x1400 then s.unsealCtl who ((o - 0x1000) / 0x10) a v
  else s.plainCtl who a v

/-- A write to CFG_TXN_CTRL (R460, R480): TIMEOUT_S is set unless the operation is refused. -/
def State.txnCtl (s : State) (who : Requester) (v : W64) : State :=
  let a := R.CFG_TXN_CTRL
  let set (t : State) : State := if t.resp.status = St.ok then t.plainWrite a v 0 64 else t
  match fld v 0 2 with
  | 1 => set (afterOf s (ctlTxnBegin who s))
  | 2 => set (afterOf s (ctlTxnLatch who (bitAt v.toNat 2) s))
  | 3 => set (afterOf s (ctlTxnRollback who s))
  | _ => s.plainCtl who a v

/-- A write to TAG_ACCESS (R480). -/
def State.tagCtl (s : State) (who : Requester) (v : W64) : State :=
  if bitAt v.toNat 14 then s.tagGo who (bitAt v.toNat 13) (fld v 0 13) else s.noEffect who R.TAG_ACCESS

/-- A write to EVT_HOST_BASE (R507). -/
def State.ringBaseCtl (s : State) (who : Requester) (v : W64) : State :=
  let a := R.EVT_HOST_BASE
  s.ctlDo who a (chk (fld v 0 12 ≠ 0 || decide (fld v 48 5 < 6 ∨ 16 < fld v 48 5)) St.bounds) (fun s =>
    if s.rf R.EVT_CTRL F.EVT_CTRL_HOST_EN = 1 then s else s.plainWrite a v 0 64)

/-- A write to the EVT window (R504, R507). Whether a page of the incident log can be read is the NAND's: a free value. -/
def State.evtCtl (s : State) (who : Requester) (a : Nat) (v : W64) : State :=
  if a = R.EVT_HOST_BASE then (s.ringBaseCtl who v).noteFull s
  else if a = R.EVT_NAND_READ ∧ bitAt v.toNat 17 then
    afterOf s (ctlEvtNandRead who (fld v 0 17) (s.freeW.toNat % 2 = 0) (s.drew 1))
  else (s.plainCtl who a v).noteFull s

/-! ## Any write -/

/-- The effect of a 64-bit write at a control-space offset. -/
def State.hubWrite (s : State) (who : Requester) (a : Nat) (v : W64) : State :=
  let id := windowOf a
  let h := id / 0x40 % 2
  let o := a % 0x1000000
  match progOf a with
  | some (k, p) => s.progCtl who a k p v
  | none =>
    if hasAcc a .txn then s.txnWrite who a v
    else if id = 0x00 then s.mgmtCtl who a v
    else if id = 0x08 then s.cellCtl who (o / 0x20000) (o % 0x20000) v
    else if id = 0x18 then s.xportCtl who a v
    else if id = 0x20 then s.hostCtl who a v
    else if id = 0x30 then s.secCtl who a v
    else if a = R.CFG_TXN_CTRL then s.txnCtl who v
    else if a = R.TAG_ACCESS then s.tagCtl who v
    else if id = 0x3F then s.evtCtl who a v
    else if id % 0x40 = 0x01 then s.halfCtl who h a v
    else if id % 0x40 = 0x10 then s.memCtl who (h * 4 + o / 0x400000) a v
    else if id % 0x40 = 0x11 then s.tierCtl who h a v
    else if id % 0x40 = 0x19 then s.portCtl who (h * 8 + o / 0x200000) a v
    else s.plainCtl who a v

/-- A write of control space: only aligned 64-bit accesses have an effect (R7). -/
def State.ctlWrite (s : State) (who : Requester) (a size : Nat) (v : W64) : State :=
  if size ≠ 8 ∨ a % 8 ≠ 0 then s.ctlEnd who a (worst (s.reach who a) St.bounds) else s.hubWrite who a v

/-- A 32-bit write of a core to its own sub-window (R84). -/
def State.coreWrite (s : State) (k a : Nat) (v : W64) : State :=
  let c := s.reach (.core k) a
  if c ≠ St.ok then s.answer c
  else
    let off := a % 0x20000
    let lo := off % 8 * 8
    let r := s.cellWrite k (off / 8 * 8) (BitVec.ofNat 64 (v.toNat % 2 ^ 32 * 2 ^ lo)) lo (lo + 32)
    r.1.answer r.2

/-- REGISTER_WRITE (R8). -/
def execRegisterWrite (who : Requester) (addr size : Nat) (val : W64) (s : State) : Host.Outcome State Fault Refusal :=
  match who with
  | .core k => .next (if size = 4 ∧ addr % 4 = 0 then s.coreWrite k addr val else s.answer St.bounds)
  | _ => s.byHost who (.registerWrite who addr size val) (fun s => .next (s.ctlWrite who addr size val))

/-- HOST_BAR0_ACCESS (R360 to R362): a BAR0 offset is a control-space offset. -/
def execHostBar0Access (wr : Bool) (off size : Nat) (val : W64) (s : State) : Host.Outcome State Fault Refusal :=
  if wr then s.byHost .host (.hostBar0Access wr off size val) (fun s => .next (s.ctlWrite .host off size val))
  else .next (s.ctlRead .host off size)

end Sys2Proof.Machine
end

