-- ==== Sys2Proof/Machine/Bundle.lean ====
section
/-! DEFINITION. Bundles (R427, R428): control-space writes that the owner of a LOCKED ward has signed. -/

namespace Sys2Proof.Machine

open Sys2Proof

/-- One entry of a bundle (R427). -/
structure BEntry where
  bytes : List Byte
deriving DecidableEq, Repr

/-- A little-endian field of a byte list. -/
def leAt (bs : List Byte) (off n : Nat) : Nat := leNat (slice bs off n)

/-- KIND: 1 WRITE, 2 COPY. -/
def BEntry.kind (e : BEntry) : Nat := leAt e.bytes 0 1
/-- DST. -/
def BEntry.dst (e : BEntry) : Nat := leAt e.bytes 8 8
/-- VALUE, or SRC. -/
def BEntry.arg (e : BEntry) : Nat := leAt e.bytes 16 8
/-- LEN of a COPY. -/
def BEntry.len (e : BEntry) : Nat := leAt e.bytes 24 4

/-- The words that an entry writes. -/
def BEntry.words (e : BEntry) : Nat := if e.kind = 1 then 1 else e.len / 8

/-- A value outside what R427 allows: KIND, a reserved byte, LEN, a source outside the shared window, a misaligned target. -/
def BEntry.malformed (e : BEntry) (s : State) : Bool :=
  (e.kind ≠ 1 && e.kind ≠ 2) || leAt e.bytes 1 7 ≠ 0 || decide (e.dst % 8 ≠ 0) ||
    (if e.kind = 1 then leAt e.bytes 24 8 ≠ 0
      else leAt e.bytes 28 4 ≠ 0 || decide (e.len % 8 ≠ 0) || decide (65536 < e.len) || !s.inShared e.arg e.len)

/-- Whether one word of ward `w`'s bundle may go to a control-space offset (R428). `v` is the value where the entry gives it: the commands
of XPORT_CTX_CMD and XPORT_REG_CTRL must name the ward, so only a WRITE can carry them. -/
def State.bundleTarget (s : State) (w a : Nat) (v : Option W64) : Bool :=
  let o := a % 0x1000000
  match cellPage a, progOf a with
  | some k, _ => s.wardOfCore k = some w
  | none, some (k, _) => s.wardOfCore k = some w
  | none, none =>
    (windowOf a % 0x40 = 0x11 && decide (0x1000 + w * 0x80 ≤ o ∧ o < 0x1000 + w * 0x80 + 0x20)) ||
      (windowOf a = 0x18 &&
        (if a = R.XPORT_CTX_CMD then (match v with
            | some x => s.wardOfQueue (fld x 0 20) = some w
            | none => false)
          else if a = R.XPORT_REG_CTRL then (match v with
            | some x => fld x 2 3 = w
            | none => false)
          else decide (0x500 ≤ o ∧ o < 0x540) || decide (0x300 ≤ o ∧ o < 0x330)))

/-- Whether every word of an entry has an allowed target. -/
def BEntry.allowed (e : BEntry) (s : State) (w : Nat) : Bool :=
  decide (controlBase ≤ e.dst) &&
    (List.range e.words).all (fun i =>
      s.bundleTarget w (e.dst - controlBase + 8 * i) (if e.kind = 1 then some (BitVec.ofNat 64 e.arg) else none))

/-- The status of an entry in the first pass. -/
def BEntry.check (e : BEntry) (s : State) (w : Nat) : Nat :=
  worst (chk (e.malformed s) St.bounds) (chk (!e.malformed s && !e.allowed s w) St.wardFault)

/-- The entries of a bundle. -/
def bundleEntries (bs : List Byte) : List BEntry := (List.range (leAt bs 2 2)).map (fun i => { bytes := slice bs (128 + 32 * i) 32 })

/-- The status of a bundle's header and signature in the first pass. -/
def State.bundleHead (s : State) (w : Nat) (bs : List Byte) (len : Nat) : Nat :=
  let n := leAt bs 2 2
  let signed := 128 + 32 * n
  worst
    (chk (leAt bs 0 1 ≠ 1 || leAt bs 1 1 ≠ w || decide (n = 0) || decide (2040 < n) || decide (len ≠ signed + 96) ||
      leAt bs 4 4 ≠ 0 || leAt bs 96 32 ≠ 0) St.bounds)
    (chk (slice bs 16 32 ≠ (s.ward w).nonce || decide (leAt bs 8 8 ≤ (s.reg (R.SEC_WARD_SEQ w)).toNat) ||
      !ecdsaVerify (s.ward w).policy (sha384 (slice bs 0 signed)) (slice bs signed 96)) St.keyDenied)

/-- One word of the second pass: R429 does not restrict it, so the write is made as in an OPEN ward. -/
def State.bundleWord (s : State) (w a : Nat) (v : W64) : State :=
  let st (s : State) (n : Nat) : State := s.setF (R.SEC_WARD_STATE w) F.SEC_WARD_STATE_STATE n
  st ((st s 1).hubWrite .mc a v) 2

/-- What the second pass carries along. -/
structure Pass2 where
  s : State
  hashed : List Byte := []
  status : Nat := 0
  fail : Nat := 0
  index : Nat := 0

/-- Writes a list of words from an offset on; the status is the first that is not OK. -/
def State.bundleWords (s : State) (w a : Nat) (vs : List W64) : State × Nat :=
  (List.range vs.length).foldl (fun (acc : State × Nat) i =>
    let t := acc.1.bundleWord w (a + 8 * i) ((vs[i]?).getD 0)
    (t, if acc.2 = St.ok then t.resp.status else acc.2)) (s, St.ok)

/-- 64-bit words of a byte list. -/
def wordsOf (bs : List Byte) : List W64 := (List.range (bs.length / 8)).map (fun i => BitVec.ofNat 64 (leAt bs (8 * i) 8))

/-- The second pass performs one entry. The pass goes on after an entry that ends with a status (log entry 25). -/
def Pass2.perform (p : Pass2) (w : Nat) (e : BEntry) : Pass2 :=
  let (s, bs, rd) := if e.kind = 1 then (p.s, leBytes 8 e.arg, St.ok) else p.s.uRead e.arg e.len 0 false
  let (s, st) := s.bundleWords w (e.dst - controlBase) (wordsOf bs)
  let st := worst st (if rd = St.unset then St.ok else rd)
  { s := s
    hashed := if e.kind = 1 then p.hashed else p.hashed ++ bs
    status := if p.status = St.ok then st else p.status
    fail := if p.status = St.ok ∧ st ≠ St.ok then p.index else p.fail
    index := p.index + 1 }

/-- The second pass of a bundle, and its end (R428). -/
def State.bundleRun (s : State) (w : Nat) (bs : List Byte) : State :=
  let p := (bundleEntries bs).foldl (fun (p : Pass2) e => p.perform w e) { s := s }
  let s := p.s.setReg (R.SEC_WARD_SEQ w) (BitVec.ofNat 64 (leAt bs 8 8))
  if sha384 p.hashed ≠ slice bs 48 48 then ((s.faultWard w).wardEvent 0x06 1 w).answer St.tagFail
  else s.answer p.status (BitVec.ofNat 64 p.fail)

/-- BUNDLE (R423, R427, R428). -/
def execBundle (ward addr len : Nat) (s : State) : Host.Outcome State Fault Refusal :=
  .next (s.request (fun s =>
    s.unless (worst (chk (decide (7 < ward) || decide (len < 256) || decide (65536 < len) || !s.inShared addr len) St.bounds)
        (chk (decide (ward ≤ 7) && s.wardState ward ≠ 2) St.wardFault)) (fun s =>
      let (s, bs, rd) := s.uRead addr len 0 false
      let head := worst (if rd = St.unset then St.ok else rd) (s.bundleHead ward bs len)
      let es := bundleEntries bs
      let entries := worstOf (es.map (fun e => e.check s ward))
      if worst head entries ≠ St.ok then
        s.answer (worst head entries) (BitVec.ofNat 64 (es.findIdx (fun e => e.check s ward ≠ St.ok) % 2 ^ 16))
      else s.bundleRun ward bs)))

end Sys2Proof.Machine
end

