-- ==== Sys2Proof/Machine/Held.lean ====
section
/-! DEFINITION. The host's accesses that wait for the restart from P4 (R376), and the stage at which they go on (R372, R444). -/

namespace Sys2Proof.Machine

open Sys2Proof

/-- A host access that waited is made; only host accesses wait. -/
def State.replay (s : State) (i : Instr) : State :=
  afterOf s (match i with
    | .seqRun who core trapHalt => execSeqRun who core trapHalt s
    | .seqHalt who core trapHalt => execSeqHalt who core trapHalt s
    | .fgResume who core => execFgResume who core s
    | .fgFlush who core => execFgFlush who core s
    | .fillResume who core => execFillResume who core s
    | .fillFlush who core => execFillFlush who core s
    | .fillEnableWrite who core en => execFillEnableWrite who core en s
    | .syncCtrWrite who core ctr val => execSyncCtrWrite who core ctr val s
    | .imemWrite who core off val => execImemWrite who core off val s
    | .sfnTableWrite who cell off val => execSfnTableWrite who cell off val s
    | .sfnTdescWrite who cell tbl val => execSfnTdescWrite who cell tbl val s
    | .sfnBcastWrite who half off val => execSfnBcastWrite who half off val s
    | .walkEnable who half ward val => execWalkEnable who half ward val s
    | .walkDisable who half ward => execWalkDisable who half ward s
    | .walkResume who half ward => execWalkResume who half ward s
    | .tierOpMigrate who half count cls ward => execTierOpMigrate who half count cls ward s
    | .tierOpEvict who half count ward => execTierOpEvict who half count ward s
    | .tierOpClean who half count ward => execTierOpClean who half count ward s
    | .unfence who stack => execUnfence who stack s
    | .pcRetrainStart who stack pc => execPcRetrainStart who stack pc s
    | .regionReset who stack first count => execRegionReset who stack first count s
    | .regionClearNow who stack first count => execRegionClearNow who stack first count s
    | .xportDoorbell who queue prod => execXportDoorbell who queue prod s
    | .xportCqDoorbell who queue cons => execXportCqDoorbell who queue cons s
    | .ctxCmdRead who queue => execCtxCmdRead who queue s
    | .ctxCmdWrite who queue => execCtxCmdWrite who queue s
    | .regionRegister who ward permWrite permRead permAtomic => execRegionRegister who ward permWrite permRead permAtomic s
    | .regionDeregister who ward => execRegionDeregister who ward s
    | .collAbortWrite who seq => execCollAbortWrite who seq s
    | .retime who port => execRetime who port s
    | .txnBegin who => execTxnBegin who s
    | .txnFieldWrite who addr val => execTxnFieldWrite who addr val s
    | .txnLatch who persist => execTxnLatch who persist s
    | .txnRollback who => execTxnRollback who s
    | .fwInstall who len => execFwInstall who len s
    | .fwSwitchNext who => execFwSwitchNext who s
    | .fwSwitchLive who => execFwSwitchLive who s
    | .fwConfirm who => execFwConfirm who s
    | .fwInstallCal who len => execFwInstallCal who len s
    | .tagAccessRead who addr => execTagAccessRead who addr s
    | .tagAccessWrite who addr => execTagAccessWrite who addr s
    | .orderTakeLead who half epoch => execOrderTakeLead who half epoch s
    | .orderHandOff who half => execOrderHandOff who half s
    | .evtNandRead who page readable => execEvtNandRead who page readable s
    | .registerWrite who addr size val => execRegisterWrite who addr size val s
    | .hostBar0Access wr off size val => execHostBar0Access wr off size val s
    | .hostDoorbellProd off size val => execHostDoorbellProd off size val s
    | .hostDoorbellCq off size val => execHostDoorbellCq off size val s
    | .hostPlaceFlag slot write => execHostPlaceFlag slot write s
    | .hostBar4Write off data => execHostBar4Write off data s
    | .cxlMemRead addr fault => execCxlMemRead addr fault s
    | .cxlMemWrite addr data fault => execCxlMemWrite addr data fault s
    | .pmTolWrite who val => execPmTolWrite who val s
    | _ => .next s)

/-- Every access that waits is made, in order. -/
def State.replayHeld (s : State) : State :=
  s.mgt.wakeHeld.foldl State.replay (s.modMgt (fun m => { m with wakeHeld := [] }))

/-- STAGE_REACHED: the next stage, after power-good (R444); stage 1 needs the root PLL's lock, stage 2 a healthy random source (R417,
R445). -/
def execStageReached (stage : Nat) (s : State) : Host.Outcome State Fault Refusal :=
  .next (
    if s.mcUp && s.sup.pwrgd && s.rf R.MGMT_STAGE F.MGMT_STAGE_HALTED = 0 && decide (1 ≤ stage ∧ stage ≤ 4) && s.stageNow + 1 = stage &&
        s.clk.lock && (s.clk.on || stage = 1) && !(stage = 2 && s.sec.rngBad) then
      let s := s.enterStage stage
      if stage = 3 then s.replayHeld else s
    else s)

end Sys2Proof.Machine
end

