-- ==== Sys2Proof/Machine/Power.lean ====
section
/-! DEFINITION. The cap governor (R383 to R394), neighbour bounds (R397), droop (R398, R399), start grants (R401), the energy model
(R403 to R405), temperature (R406) and the deadbolt (R407). -/

namespace Sys2Proof.Machine

open Sys2Proof

/-! ## Measured power and the ceiling (R382 to R384) -/

/-- Adds to an energy counter in µJ, which wraps. -/
def State.addEnergy (s : State) (a n : Nat) : State := s.setReg a (s.reg a + BitVec.ofNat 64 n)

/-- A 1 µs sample joins the 100 µs averages. -/
def State.addSample (s : State) (pin prsv : Nat) : State :=
  let x := s.pwr
  let i := x.sumIn + pin
  let r := x.sumRsv + prsv
  if x.samples + 1 = 100 then
    ((s.modPwr (fun x => { x with samples := 0, sumIn := 0, sumRsv := 0 })).setF R.PWR_STATUS F.PWR_STATUS_P_IN_W
      (min 4095 (i / 100))).setF R.PWR_STATUS F.PWR_STATUS_P_RSV_W (min 4095 (r / 100))
  else s.modPwr (fun x => { x with samples := x.samples + 1, sumIn := i, sumRsv := r })

/-- The wards of both halves, as half × 8 + ward. -/
def allWards : List Nat := List.range 16

/-- A clamp starts (R384): the levels held before it are kept, and every cell goes to level 10. -/
def State.clamp (s : State) : State :=
  let s := s.modPwr (fun x => { x with before := allWards.map (fun i => (i, s.wardLevel (i / 8) (i % 8))) })
  ((s.setF R.PWR_STATUS F.PWR_STATUS_CLAMP 1).relevelAll).pwrEvent 0x03 0 0 0 0

/-- P_IN_SAMPLE (R382 to R384): readings in W. -/
def execPInSample (pin prsv : Nat) (s : State) : Host.Outcome State Fault Refusal :=
  .next (
    let s := ((s.addSample pin prsv).addEnergy R.PWR_IN_ENERGY pin).addEnergy R.PWR_RSV_ENERGY prsv
    let s := s.modPwr (fun x => { x with
      msN := x.msN + 1, msIn := x.msIn + pin, msRsv := x.msRsv + prsv, rsvN := x.rsvN + 1, rsvSum := x.rsvSum + prsv })
    let s := if s.pwr.pinLost then (s.modPwr (fun x => { x with pinLost := false })).refreshCap else s
    if 2400 < pin && s.rf R.PWR_STATUS F.PWR_STATUS_CLAMP = 0 then s.clamp else s)

/-- CLAMP_END (R384): each ward restarts at its level before the clamp plus 2, at most 10. -/
def execClampEnd (s : State) : Host.Outcome State Fault Refusal :=
  .next (
    if s.rf R.PWR_STATUS F.PWR_STATUS_CLAMP = 1 then
      let s := s.pwr.before.foldl (fun s e => s.setWardLevel (e.1 / 8) (e.1 % 8) (min 10 (e.2 + 2))) s
      ((s.modPwr (fun x => { x with before := [] })).setF R.PWR_STATUS F.PWR_STATUS_CLAMP 0).relevelAll
    else s)

/-- P_IN_LOST (R406). -/
def execPInLost (s : State) : Host.Outcome State Fault Refusal :=
  .next ((s.modPwr (fun x => { x with pinLost := true })).refreshCap.pwrEvent 0x0F 0 0 0 0)

/-! ## The governor (R392, R393) -/

/-- The level that R392 gives a ward; the 10 ms average of P_IN is the sum of some samples in W over their number. -/
def State.nextLevelOf (s : State) (h w sum samples : Nat) : Nat :=
  let n := s.wardLevel h w
  let rel (i : Nat) : Nat := relPower.getD i 0
  if !s.fits h w 1 1 then (if n < 10 then n + 1 else n)
  else if 0 < n && s.fits h w (rel (n - 1)) (rel n) && decide (sum ≤ s.capEff * samples) && !nmem s.evt.hcDown h then n - 1
  else n

/-- A ward takes a level; a change is traced (R411). -/
def State.moveWard (s : State) (h w n : Nat) : State :=
  if s.wardLevel h w = n then s
  else (s.setWardLevel h w n).raise { ev 0x2801 2 w 5 with ward := w, source2 := h, addr := n }

/-- The modelled energy of a half's wards is counted anew. -/
def State.newSpan (s : State) (h : Nat) : State := s.modPwr (fun x => { x with spent := meraseRange x.spent (h * 8) 8 })

/-- GOVERNOR_DECISION (R392, R397): from the modelled energy of each ward since the last one, 10 µs ago, and the 10 ms average of P_IN.
A clamp holds every level. -/
def execGovernorDecision (half sum10ms samples : Nat) (s : State) : Host.Outcome State Fault Refusal :=
  .next (
    if s.rf R.PWR_STATUS F.PWR_STATUS_CLAMP = 1 then s.newSpan half
    else
      let want := (List.range 8).map (fun w => (w, s.nextLevelOf half w sum10ms samples))
      ((want.foldl (fun t e => t.moveWard half e.1 e.2) s).newSpan half).relevel half)

/-- The halves whose wards the leading half steps down (R393, R487): its own alone while it lacks the acknowledgement. -/
def State.dutyHalves (s : State) : List Nat :=
  match [0, 1].find? s.leads with
  | none => []
  | some h => if s.rf (R.HALF_LEAD_STATUS h) F.HALF_LEAD_STATUS_NO_ACK = 1 then [h] else [0, 1]

/-- Every ward of a half moves one level down. -/
def State.stepHalf (s : State) (h : Nat) : State :=
  ((List.range 8).foldl (fun s w => s.moveWard h w (min 10 (s.wardLevel h w + 1))) s).relevel h

/-- CAP_STEP_CHECK (R393, R411): averages in W. -/
def execCapStepCheck (avg100us avg10ms : Nat) (s : State) : Host.Outcome State Fault Refusal :=
  .next (
    let cap := s.capEff
    let above := decide (cap < avg100us)
    let s := if above && !s.pwr.capRun then s.pwrEvent 0x02 1 0 0 0 else s
    let s := s.modPwr (fun x => { x with capRun := above })
    if (above || (decide (cap < avg10ms) && decide (cap - 40 < avg100us))) && s.rf R.PWR_STATUS F.PWR_STATUS_CLAMP = 0 then
      s.dutyHalves.foldl State.stepHalf s
    else s)

/-- SUPPLY_SETTLED (R391): the next step of the divider, one at a time; up only where no neighbour is left two steps behind. -/
def execSupplySettled (cell : Nat) (s : State) : Host.Outcome State Fault Refusal :=
  .next (
    let a := R.PWR_CELL cell
    let d := s.cellDiv cell
    let t := levelDiv (s.cellLevel cell)
    let go (s : State) (x : Settle) : State := s.modCell cell (fun c => { c with settle := x })
    match (s.cellPwr cell).settle with
    | .no => s
    | .down => if d < t then go (s.setDiv cell (d + 1)) .down else go s (if t < d then .up else .no)
    | .up =>
      if t < d && (!s.working cell || (s.beside cell).all (fun j => decide (s.cellDiv j ≤ d))) && !nmem s.evt.hcDown (cell / 64) then
        go (s.setDiv cell (d - 1)) (if t < d - 1 then .up else .no)
      else go s .no)

/-! ## Neighbour bounds (R397) -/

/-- The cell of two neighbours that a bound steps: the faster one, or `hi` where both have the same divider. -/
def State.toStep (s : State) (a b hi : Nat) : Nat :=
  if s.cellDiv a < s.cellDiv b then a else if s.cellDiv b < s.cellDiv a then b else hi

/-- A bound between two neighbours is broken: one of them steps down, and NEIGHBOUR_BOUND names both; once while the step holds. -/
def State.breach (s : State) (a b hi : Nat) (supply : Bool) : State :=
  if s.pwr.bounds.any (fun x => x.supply = supply && ((x.a = a && x.b = b) || (x.a = b && x.b = a))) then s
  else
    let k := s.toStep a b hi
    let other := if k = a then b else a
    let s := s.modPwr (fun x =>
      { x with bounds := x.bounds ++ [{ cell := k, level := slower (s.cellLevel k), a := a, b := b, supply := supply }] })
    s.pwrEvent 0x08 1 k 2 other

/-- Absolute difference. -/
def distance (a b : Nat) : Nat := (a - b) + (b - a)

/-- Compares a reading with those of the cell's neighbours; a reading of 0 has not been taken. -/
def State.compare (s : State) (k : Nat) (read : State → Nat → Nat) (limit : Nat) (supply : Bool) : State :=
  if !s.working k then s
  else (s.beside k).foldl (fun s j =>
    if read s j ≠ 0 && limit < distance (read s k) (read s j) then
      s.breach k j (if read s j ≤ read s k then k else j) supply
    else s) s

/-- Supply of a cell in mV. -/
def State.cellMv (s : State) (k : Nat) : Nat := s.rf (R.PWR_CELL k) F.PWR_CELL_VOLT_MV

/-- Temperature of a cell in °C. -/
def State.cellTemp (s : State) (k : Nat) : Nat := s.rf (R.PWR_CELL k) F.PWR_CELL_TEMP

/-- CELL_SUPPLY_SAMPLE (R395, R397). -/
def execCellSupplySample (cell mv : Nat) (s : State) : Host.Outcome State Fault Refusal :=
  .next (((s.setF (R.PWR_CELL cell) F.PWR_CELL_VOLT_MV mv).compare cell State.cellMv 60 true).relevel (cell / 64))

/-- NEIGHBOUR_HOLD_END (R397): the difference of this kind has kept its limit for 100 µs. -/
def execNeighbourHoldEnd (cell : Nat) (bound : BoundName) (s : State) : Host.Outcome State Fault Refusal :=
  .next (
    let other := bound.other
    let pair (x : Bound) : Bool := x.supply = bound.supply && ((x.a = cell && x.b = other) || (x.a = other && x.b = cell))
    let calm : Bool :=
      if bound.supply then decide (distance (s.cellMv cell) (s.cellMv other) ≤ 50)
      else decide (distance (s.cellTemp cell) (s.cellTemp other) ≤ 22)
    (s.modPwr (fun p => { p with bounds := p.bounds.filter (fun x => !(pair x && calm)) })).relevel (cell / 64))

/-! ## Droop (R398 to R401) -/

/-- A droop step (R399). -/
def State.droopStep (s : State) (k : Nat) : State :=
  let n := min 10 (s.cellLevel k + 1)
  ((s.modCell k (fun c => { c with droop := n, episodes := [] })).relevel (k / 64)).pwrEvent 0x06 1 k 2 0

/-- Stretch episodes are counted: those of the last 10 µs, and `n` more now; more than STEP_EPISODES step the cell. -/
def State.addEpisodes (s : State) (k n : Nat) : State :=
  let l := (s.cellPwr k).episodes.filter (fun t => s.now < t + 18000) ++ List.replicate n s.now
  let s := s.modCell k (fun c => { c with episodes := l })
  if s.rf R.PWR_DROOP_CTRL F.PWR_DROOP_CTRL_STEP_EPISODES < l.length then s.droopStep k else s

/-- DROOP_DETECT (R398, R399, R401): the supply that the detector finds, in mV, against the set point of R389. -/
def execDroopDetect (cell mv : Nat) (s : State) : Host.Outcome State Fault Refusal :=
  .next (
    let slope := s.slope
    let thr := s.rf R.PWR_DROOP_CTRL (if slope then F.PWR_DROOP_CTRL_EMERG_MV else F.PWR_DROOP_CTRL_STRETCH_MV)
    if thr ≤ s.setPoint cell - mv && !(s.cellPwr cell).stretch then
      let s := if slope then s.pwrEvent 0x07 1 cell 2 0 else s
      let s := (s.modCell cell (fun c => { c with stretch := true })).bump (R.PWR_CELL cell) F.PWR_CELL_EPISODES 1
      s.addEpisodes cell 1
    else s)

/-- DROOP_RECOVER (R398, R411). -/
def execDroopRecover (cell : Nat) (s : State) : Host.Outcome State Fault Refusal :=
  .next (
    if (s.cellPwr cell).stretch then (s.modCell cell (fun c => { c with stretch := false })).pwrEvent 0x05 2 cell 2 0 else s)

/-- STRETCH_LIMIT (R398, R399): 64 cycles without recovery count as STEP_EPISODES episodes. -/
def execStretchLimit (cell : Nat) (s : State) : Host.Outcome State Fault Refusal :=
  .next (
    if (s.cellPwr cell).stretch then
      ((s.modCell cell (fun c => { c with stretch := false })).pwrEvent 0x05 2 cell 2 0).addEpisodes cell
        (s.rf R.PWR_DROOP_CTRL F.PWR_DROOP_CTRL_STEP_EPISODES - 1)
    else s)

/-- DROOP_STEP_END (R399). -/
def execDroopStepEnd (cell : Nat) (s : State) : Host.Outcome State Fault Refusal :=
  .next ((s.modCell cell (fun c => { c with droop := 0 })).relevel (cell / 64))

/-- The bucket that grants a cell (R401, R482, R487): its own in a SAFE half, else the leading half's; none without one. -/
def State.bucketOf (s : State) (k : Nat) : Option Nat :=
  if s.role (k / 64) = 2 then some (1 + k / 64) else if s.leads 0 || s.leads 1 then some 0 else none

/-- What a bucket lacks now, in 1/7200 of a grant: RATE ÷ 4 a µs flow in, half of it into a SAFE half's. -/
def State.lacks (s : State) (b : Nat) : Nat :=
  let e := mget (0, 0) s.pwr.bucket b
  let gained := (s.now - e.2) * s.rf R.PWR_SLOPE F.PWR_SLOPE_RATE
  e.1 - (if b = 0 then gained else gained / 2)

/-- The cell whose turn it is in a bucket: the first that waits after the one served last. -/
def State.nextGrant (s : State) (b : Nat) : Option Nat :=
  ((List.range 128).map (fun i => (s.pwr.lastGrant + 1 + i) % 128)).find? (fun k => (s.core k).wantGrant && s.bucketOf k = some b)

/-- START_GRANT (R401). -/
def execStartGrant (core : Nat) (s : State) : Host.Outcome State Fault Refusal :=
  .next (if !s.clk.on then s else
    match s.bucketOf core with
    | none => s
    | some b =>
      if s.slope && isCell core && s.nextGrant b = some core &&
          s.lacks b + 7200 ≤ s.rf R.PWR_SLOPE F.PWR_SLOPE_BURST * 7200 then
        (s.modPwr (fun x => { x with bucket := mset (0, 0) x.bucket b (s.lacks b + 7200, s.now), lastGrant := core })).modCore core
          (fun c => { c with wantGrant := false, actSince := s.ck core })
      else s)

/-! ## The energy model (R403 to R405) -/

/-- Corrected energy joins a counter; what is short of a µJ waits (R404). -/
def State.credit (s : State) (a n : Nat) : State :=
  let x := mget 0 s.pwr.frac a + n * s.rf R.PWR_STATUS F.PWR_STATUS_CORR
  (s.modPwr (fun p => { p with frac := mset 0 p.frac a (x % 2 ^ 39) })).addEnergy a (x / 2 ^ 39)

/-- Energy of `num` ÷ `den` counts at a coefficient, in 2^-32 µJ. What is short of a unit is rounded by a free value, as R403 states no
precision; a coefficient that is no positive number makes the energy a free value. -/
def energyOf (coef : W64) (num den : Nat) : Nat :=
  let e := fld coef 23 8
  if fld coef 31 1 = 1 ∨ e = 255 then Config.choose [403, coef.toNat, num, den]
  else
    let m := if e = 0 then fld coef 0 23 else 2 ^ 23 + fld coef 0 23
    let x := num * m * 2 ^ max 1 e * (1000000 * 2 ^ 32)
    let d := den * 2 ^ 150
    x / d + (if x % d = 0 then 0 else Config.choose [403, coef.toNat, num, den] % 2)

/-- Modelled energy of a half, of a ward of it if any, and of a port if any (R405). -/
def State.spendEnergy (s : State) (h : Nat) (w p : Option Nat) (n : Nat) : State :=
  let s := (s.modPwr (fun x => { x with model := x.model + n })).credit (R.PWR_HALF_ENERGY h) n
  let s := match w with
    | some w =>
      (s.modPwr (fun x => { x with spent := mset 0 x.spent (h * 8 + w) (mget 0 x.spent (h * 8 + w) + n) })).credit (R.PWR_WARD_ENERGY w) n
    | none => s
  match p with
  | some p => s.credit (R.PWR_PORT_ENERGY p) n
  | none => s

/-- PWR_MODEL_COEF. -/
def State.coefOf (s : State) (k : Nat) : W64 := s.reg (R.PWR_MODEL_COEF k)

/-- Half of a sequencer core. -/
def coreHalf (k : Nat) : Nat := if k < 128 then k / 64 else if k < 160 then (k - 128) / 16 else (k - 160) / 4 % 2

/-- The ward that owns a way of a half (R183). -/
def State.wayWard (s : State) (h way : Nat) : Option Nat :=
  (List.range 8).find? (fun w => bitAt (s.rf (R.TIER_WARD_WAYS h w) F.TIER_WARD_WAYS_WAYS) way)

/-- A count of a unit at a supply in mV (R403). -/
def State.countEnergy (s : State) (k n mv : Nat) : Nat := energyOf (s.coefOf k) (n * mv ^ 2) 562500

/-- One line of the counts is attributed to the core's ward (R405); the fabric's supply is 0.80 V (R526). -/
def State.attribute (s : State) (e : EnergyCount) : State :=
  s.spendEnergy (coreHalf e.unit) (s.wardOfCore e.unit) none
    (s.countEnergy e.coef e.count (if e.unit < 128 then s.supplyMv e.unit else 800))

/-- Accesses to a way of the layer store are attributed to the ward that owns it (R405), at 0.75 V (R526). -/
def State.attributeWay (s : State) (e : WayCount) : State :=
  s.spendEnergy e.half (s.wayWard e.half e.way) none (s.countEnergy 4 e.count 750)

/-- The leakage of a cell in one µs (R403). -/
def State.leak (s : State) (k : Nat) : State :=
  let t := s.rf (R.PWR_CELL k) F.PWR_CELL_TEMP
  let mv := s.supplyMv k
  s.spendEnergy (k / 64) (s.wardOfCore k) none
    (energyOf (s.coefOf 7) (if t = 60 ∧ mv = 750 then 65536 else Config.leakTerm t mv) (65536 * 1000000))

/-- The bytes of a port since the last µs, at 0.90 V (R526), and its static power in mode 1 (R403); that of other modes is not stated, a
free value. -/
def State.portEnergy (s : State) (p : Nat) : State :=
  let l := s.pwr.portBytes.filter (fun e => e.1 / 16 = p)
  let s := l.foldl (fun s e =>
    s.spendEnergy (p / 8) (if e.1 % 16 < 8 then some (e.1 % 16) else none) (some p) (s.countEnergy 6 e.2 900)) s
  let mode := s.rf (R.PORT_CFG p) F.PORT_CFG_MODE
  if mode = 0 then s
  else s.spendEnergy (p / 8) none (some p)
    (if mode = 1 then energyOf (s.coefOf 8) 1 1000000 else Config.choose [403, 8, mode, (s.coefOf 8).toNat])

/-- RESERVE_OVER (R405): once 1 ms of samples is there. -/
def State.reserveChk (s : State) : State :=
  if s.pwr.rsvN < 1000 then s
  else
    let high := decide (s.rf R.PWR_CAP F.PWR_CAP_RESERVE_W * s.pwr.rsvN < s.pwr.rsvSum)
    let s := s.modPwr (fun x => { x with rsvN := 0, rsvSum := 0 })
    if high then s.pwrEvent 0x0E 1 0 0 0 else s

/-- ENERGY_MODEL_TICK (R403, R405): the counts of one µs, the leakage of the cells, and the ports. -/
def execEnergyModelTick (counts : List EnergyCount) (ways : List WayCount) (s : State) : Host.Outcome State Fault Refusal :=
  .next (
    let s := (List.range 128).foldl (fun s k => s.leak k) (ways.foldl State.attributeWay (counts.foldl State.attribute s))
    let s := (List.range 16).foldl (fun s p => s.portEnergy p) s
    (s.modPwr (fun x => { x with portBytes := [] })).reserveChk)

/-- One sixteenth of the way from CORR to 128 × measured ÷ modelled, kept within 96 to 160; where that is no whole number the spec
names no rounding, and a free bit chooses. -/
def corrNext (corr measured modelled free : Nat) : Nat :=
  let num := 15 * corr * modelled + 128 * measured
  let den := 16 * modelled
  min 160 (max 96 (num / den + (if num % den = 0 then 0 else free % 2)))

/-- The samples since the last comparison added up as measured energy, in 1/256 µJ (R404). -/
def State.measured (s : State) : Nat :=
  s.pwr.msIn * s.rf R.PWR_CAP F.PWR_CAP_EFF - 256 * (s.pwr.msRsv + s.rf R.PWR_CAP F.PWR_CAP_FIXED_W * s.pwr.msN)

/-- CORR_UPDATE (R404, R482): the controller of the half that leads compares measured and modelled energy of the last `us` µs, in 2^-32 µJ.
Where samples are missing, their mean stands for the whole time (log entry 63). -/
def execCorrUpdate (half us : Nat) (s : State) : Host.Outcome State Fault Refusal :=
  .next (
    if s.leads half && decide (0 < s.pwr.model) && decide (0 < s.pwr.msN) then
      let a := s.measured * us * 2 ^ 24
      let b := s.pwr.model * s.pwr.msN
      let out := decide (4 * a < 3 * b) || decide (5 * b < 4 * a)
      let c := corrNext (s.rf R.PWR_STATUS F.PWR_STATUS_CORR) a b s.freeW.toNat
      let n := if out then s.pwr.driftRun + 1 else 0
      let s := ((s.drew 1).setF R.PWR_STATUS F.PWR_STATUS_CORR c).modPwr (fun x =>
        { x with driftRun := n, model := 0, msN := 0, msIn := 0, msRsv := 0 })
      if n = 10 then s.pwrEvent 0x0D 1 0 0 0 else s
    else s)

/-! ## Temperature (R406, R407) -/

/-- PEAK_DIE. -/
def State.peakDie (s : State) (t : Nat) : State := s.setF R.PWR_TEMP F.PWR_TEMP_PEAK_DIE (max t (s.rf R.PWR_TEMP F.PWR_TEMP_PEAK_DIE))

/-- One level down for heat. -/
def State.heatStep (s : State) (k : Nat) : State := s.modCell k (fun c => { c with heat := min 10 (s.cellLevel k + 1) })

/-- What a reading does to a cell's thermal state. -/
def State.heatReading (s : State) (k t : Nat) : State :=
  let c := s.cellPwr k
  if t ≤ 92 then s.modCell k (fun c => { c with hot := false, crit := false, heat := 0 })
  else
    let s := if 105 < t && !c.crit then (s.modCell k (fun c => { c with crit := true })).pwrEvent 0x0A 0 k 2 0 else s
    if 95 < t && !c.hot then ((s.modCell k (fun c => { c with hot := true })).heatStep k).pwrEvent 0x09 1 k 2 0 else s

/-- CELL_TEMP_READING (R397, R406): a second reading in a row of 115 °C or more sets the deadbolt. -/
def execCellTempReading (cell temp : Nat) (s : State) : Host.Outcome State Fault Refusal :=
  .next (
    let again := (s.cellPwr cell).at115 && decide (115 ≤ temp)
    let s := ((s.setF (R.PWR_CELL cell) F.PWR_CELL_TEMP temp).peakDie temp).heatReading cell temp
    let s := ((s.modCell cell (fun c => { c with at115 := decide (115 ≤ temp) })).compare cell State.cellTemp 25 false).relevel (cell / 64)
    if again then s.deadbolt 2 temp cell else s)

/-- One level down for the layer store, for every cell of a half. -/
def State.lsStep (s : State) (h : Nat) : State :=
  (List.range 64).foldl (fun t i => t.modCell (h * 64 + i) (fun c => { c with ls := min 10 (s.cellLevel (h * 64 + i) + 1) })) s

/-- Whether a layer-store sensor of a half is hot. -/
def State.lsHot (s : State) (h : Nat) : Bool := (List.range 16).any (fun i => nmem s.pwr.lsHot (h * 16 + i))

/-- The layer-store steps of a half end. -/
def State.lsCool (s : State) (h : Nat) : State := (List.range 64).foldl (fun t i => t.modCell (h * 64 + i) (fun c => { c with ls := 0 })) s

/-- LS_TEMP_READING (R406): a second reading in a row of 115 °C or more sets the deadbolt. -/
def execLsTempReading (half sensor temp : Nat) (s : State) : Host.Outcome State Fault Refusal :=
  .next (
    let i := half * 16 + sensor % 16
    let again := nmem s.pwr.ls115 i && decide (115 ≤ temp)
    let s := (s.peakDie temp).modPwr (fun x => { x with ls115 := nput x.ls115 i (decide (115 ≤ temp)) })
    let was := s.lsHot half
    let put (b : Bool) : State := s.modPwr (fun x => { x with lsHot := nput x.lsHot i b })
    let s := if 100 < temp then put true else if temp ≤ 97 then put false else s
    let s := if !was && s.lsHot half then (s.lsStep half).relevel half
      else if was && !s.lsHot half then (s.lsCool half).relevel half
      else s
    if again then s.deadbolt 2 temp i else s)

/-- THERMAL_STEP_TIMER (R406): a further level for hot cells and halves. -/
def execThermalStepTimer (s : State) : Host.Outcome State Fault Refusal :=
  .next (
    let s' := (List.range 128).foldl (fun t k => if (s.cellPwr k).hot then t.modCell k (fun c => { c with heat := min 10 (s.cellLevel k + 1) }) else t) s
    ([0, 1].foldl (fun t h => if s.lsHot h then t.lsStep h else t) s').relevelAll)

/-- COOLANT_READING (R406): the effective cap falls by 50 W per °C of the larger excess, and an outlet of 85 °C sets
the deadbolt. -/
def execCoolantReading (inlet outlet : Nat) (s : State) : Host.Outcome State Fault Refusal :=
  .next (
    let x := max (inlet - 45) (outlet - 70)
    let was := s.pwr.coolExcess
    let s := (s.setF R.PWR_TEMP F.PWR_TEMP_INLET inlet).setF R.PWR_TEMP F.PWR_TEMP_OUTLET outlet
    let s := (s.modPwr (fun p => { p with coolExcess := x })).refreshCap
    let s := if was = 0 && 0 < x then s.pwrEvent 0x0B 0 0 0 0 else s
    if 85 ≤ outlet then s.deadbolt 5 outlet 0 else s)

/-- CELL_SENSOR_LOST (R406): treated as above 105 °C. -/
def execCellSensorLost (cell : Nat) (s : State) : Host.Outcome State Fault Refusal :=
  .next (((s.modCell cell (fun c => { c with crit := true })).pwrEvent 0x0F 0 cell 2 0).relevel (cell / 64))

/-- The reading from which a cause of PWR_TRIP sets the deadbolt (R406, R410); none for a code that is no such cause. -/
def deadboltAt : Nat → Option Nat
  | 2 => some 115
  | 3 => some 115
  | 4 => some 125
  | 5 => some 85
  | _ => none

/-- DEADBOLT_TRIP (R406, R407): a comparator finds one of the conditions; of cells and layer store the second reading in a row. -/
def execDeadboltTrip (cause value source : Nat) (s : State) : Host.Outcome State Fault Refusal :=
  .next (
    match deadboltAt cause with
    | some n => if n ≤ value then s.deadbolt cause value source else s
    | none => s)

end Sys2Proof.Machine
end

