-- ==== Sys2Proof/Machine/RefLoss.lean ====
section
/-! DEFINITION. The loss of the reference beyond the holdover (R30): the main clocks stop, and every operation in flight ends ABORTED. -/

namespace Sys2Proof.Machine

open Sys2Proof

/-- Queues with a message, a buffer or an assembly. -/
def State.busyQueues (s : State) : List Nat :=
  (s.xport.msgs.map (·.queue) ++ s.xport.waitMsgs.map (·.queue) ++ s.xport.posted.map (·.1) ++ s.xport.asm.map (·.2.queue)).dedup

/-- Every message, every message that waits and every posted buffer ends ABORTED. -/
def State.endMsgs (s : State) : State :=
  let s := s.busyQueues.foldl (fun s q => s.endQueue q) s
  let s := s.xport.msgs.foldl (fun s m => s.finishMsg m St.aborted) s
  s.modX (fun x => { x with msgs := [], waitMsgs := [] })

/-- The operation of TIER_OP_CTRL in a half, if any, ends ABORTED (R202). -/
def State.endTierOp (s : State) (h : Nat) : State :=
  match mget none s.mem.ops h with
  | none => s
  | some _ =>
    let s := (s.setF (R.TIER_OP_STATUS h) F.TIER_OP_STATUS_BUSY 0).setF (R.TIER_OP_STATUS h) F.TIER_OP_STATUS_STATUS St.aborted
    { s with mem := { s.mem with ops := mset none s.mem.ops h none } }

/-- The walkers of a half that run stop ABORTED (R199). -/
def State.endWalkers (s : State) (h : Nat) : State :=
  (List.range 8).foldl (fun s w => if s.walkSt h w F.TIER_WALK_STATUS_RUNNING = 1 then s.walkStop h w St.aborted else s) s

/-- The clear-now of a stack, if any, ends ABORTED (R237). -/
def State.endRegionCmd (s : State) (st : Nat) : State :=
  match (s.stack st).cmd with
  | none => s
  | some c =>
    (s.regionStatus st 0 St.aborted ((regionRange st c.first c.count).countP (fun k => !s.toClear st k))).setStack st
      { s.stack st with cmd := none }

/-- The registration or deregistration in progress, if any, ends ABORTED (R304, R306). -/
def State.endRegCmd (s : State) : State :=
  if s.xport.regBusy.isNone then s else (s.modX (fun x => { x with regBusy := none })).regStatus 0 St.aborted

/-- Every operation in flight ends ABORTED (R30): commands and line accesses of every core, messages and buffers, the layer store's
operations and walkers, region and registration commands, unseal jobs, and writes to a special-function table that wait. -/
def State.abortAll (s : State) : State :=
  let s := (List.range 168).foldl (fun s k => (s.endAll k St.aborted).forget k) s
  let s := (s.endAccesses (fun _ => true) St.aborted).endMsgs
  let s := (List.range 2).foldl (fun s h => (s.endTierOp h).endWalkers h) s
  let s := ((List.range 8).foldl (fun s st => s.endRegionCmd st) s).endRegCmd
  let s := (List.range 64).foldl (fun s c => s.abortJob c) s
  s.sfnRelease (fun _ => true) St.aborted

/-- REF_HOLDOVER_EXPIRY (R30): without lock the main clocks stop. -/
def execRefHoldoverExpiry (s : State) : Host.Outcome State Fault Refusal :=
  .next (
    if s.clk.lock || s.clk.lost then s
    else
      let s := s.abortAll
      { s with clk := { s.clk with on := false, lost := true } }.raise (ev 0x0010 0 0 0))

end Sys2Proof.Machine
end

