-- ==== Sys2Proof/Machine/Rv.lean ====
section
/-! DEFINITION. The sequencer core (R82 to R88, R98, R112, R113, R118): RV32IMC with Zicsr in machine mode, and the Kenaris
instructions. The base instructions and CSRs are those of the RISC-V standard that R82 cites (PRESUMED, log entry 14). -/

namespace Sys2Proof.Machine

open Sys2Proof

/-! ## Instructions -/

/-- A decoded instruction; offsets and immediates are sign-extended words. -/
inductive RvIns where
  | lui (rd : Nat) (imm : W32)
  | auipc (rd : Nat) (imm : W32)
  | jal (rd : Nat) (off : W32)
  | jalr (rd rs1 : Nat) (imm : W32)
  | branch (f3 rs1 rs2 : Nat) (off : W32)
  | load (f3 rd rs1 : Nat) (imm : W32)
  | store (f3 rs1 rs2 : Nat) (imm : W32)
  | opImm (f3 rd rs1 : Nat) (alt : Bool) (imm : W32)
  | op (f3 rd rs1 rs2 : Nat) (alt : Bool)
  | mul (f3 rd rs1 rs2 : Nat)
  | nop
  | ecall
  | ebreak
  | mret
  | csr (f3 rd rs1 addr : Nat)
  | kenaris (f3 f7 rd rs1 rs2 : Nat)
  | illegal
deriving DecidableEq, Repr

/-- A sign-extended 32-bit word of the low `w` bits. -/
def sx (w v : Nat) : W32 := BitVec.ofInt 32 (sext w v)

/-- Decodes a 32-bit instruction. -/
def decode32 (i : Nat) : RvIns :=
  let op := i % 128
  let rd := bitsOf i 7 5
  let f3 := bitsOf i 12 3
  let rs1 := bitsOf i 15 5
  let rs2 := bitsOf i 20 5
  let f7 := bitsOf i 25 7
  let immI := sx 12 (bitsOf i 20 12)
  match op with
  | 0x37 => .lui rd (BitVec.ofNat 32 (bitsOf i 12 20 * 4096))
  | 0x17 => .auipc rd (BitVec.ofNat 32 (bitsOf i 12 20 * 4096))
  | 0x6F => .jal rd (sx 21 (bitsOf i 21 10 * 2 + bitsOf i 20 1 * 2048 + bitsOf i 12 8 * 4096 + bitsOf i 31 1 * 2 ^ 20))
  | 0x67 => if f3 = 0 then .jalr rd rs1 immI else .illegal
  | 0x63 =>
    if f3 = 2 ∨ f3 = 3 then .illegal
    else .branch f3 rs1 rs2 (sx 13 (bitsOf i 8 4 * 2 + bitsOf i 25 6 * 32 + bitsOf i 7 1 * 2048 + bitsOf i 31 1 * 4096))
  | 0x03 => if f3 ∈ [0, 1, 2, 4, 5] then .load f3 rd rs1 immI else .illegal
  | 0x23 => if f3 ≤ 2 then .store f3 rs1 rs2 (sx 12 (rd + f7 * 32)) else .illegal
  | 0x13 =>
    if f3 = 1 then (if f7 = 0 then .opImm 1 rd rs1 false (BitVec.ofNat 32 rs2) else .illegal)
    else if f3 = 5 then
      (if f7 = 0 then .opImm 5 rd rs1 false (BitVec.ofNat 32 rs2)
        else if f7 = 0x20 then .opImm 5 rd rs1 true (BitVec.ofNat 32 rs2) else .illegal)
    else .opImm f3 rd rs1 false immI
  | 0x33 =>
    if f7 = 0 then .op f3 rd rs1 rs2 false
    else if f7 = 0x20 ∧ (f3 = 0 ∨ f3 = 5) then .op f3 rd rs1 rs2 true
    else if f7 = 1 then .mul f3 rd rs1 rs2 else .illegal
  | 0x0F => if f3 ≤ 1 then .nop else .illegal
  | 0x73 =>
    if f3 = 0 then
      (if i = 0x00000073 then .ecall else if i = 0x00100073 then .ebreak else if i = 0x30200073 then .mret
        else if i = 0x10500073 then .nop else .illegal)
    else if f3 = 4 then .illegal
    else .csr f3 rd rs1 (bitsOf i 20 12)
  | 0x0B => .kenaris f3 f7 rd rs1 rs2
  | _ => .illegal

/-- Decodes a 16-bit instruction (the C extension without floating point). -/
def decode16 (i : Nat) : RvIns :=
  let f3 := bitsOf i 13 3
  let rd := bitsOf i 7 5
  let rs2 := bitsOf i 2 5
  let rd' := 8 + bitsOf i 2 3
  let rs' := 8 + bitsOf i 7 3
  let imm6 := sx 6 (bitsOf i 2 5 + bitsOf i 12 1 * 32)
  let sh := BitVec.ofNat 32 (bitsOf i 2 5)
  let hi := bitsOf i 12 1
  let joff := sx 12 (bitsOf i 3 3 * 2 + bitsOf i 11 1 * 16 + bitsOf i 2 1 * 32 + bitsOf i 7 1 * 64 + bitsOf i 6 1 * 128 +
    bitsOf i 9 2 * 256 + bitsOf i 8 1 * 1024 + bitsOf i 12 1 * 2048)
  let boff := sx 9 (bitsOf i 3 2 * 2 + bitsOf i 10 2 * 8 + bitsOf i 2 1 * 32 + bitsOf i 5 2 * 64 + bitsOf i 12 1 * 256)
  let lwoff := BitVec.ofNat 32 (bitsOf i 6 1 * 4 + bitsOf i 10 3 * 8 + bitsOf i 5 1 * 64)
  match i % 4, f3 with
  | 0, 0 =>
    let imm := bitsOf i 6 1 * 4 + bitsOf i 5 1 * 8 + bitsOf i 11 2 * 16 + bitsOf i 7 4 * 64
    if imm = 0 then .illegal else .opImm 0 rd' 2 false (BitVec.ofNat 32 imm)
  | 0, 2 => .load 2 rd' rs' lwoff
  | 0, 6 => .store 2 rs' rd' lwoff
  | 1, 0 => .opImm 0 rd rd false imm6
  | 1, 1 => .jal 1 joff
  | 1, 2 => .opImm 0 rd 0 false imm6
  | 1, 3 =>
    if rd = 2 then
      let imm := bitsOf i 6 1 * 16 + bitsOf i 2 1 * 32 + bitsOf i 5 1 * 64 + bitsOf i 3 2 * 128 + bitsOf i 12 1 * 512
      if imm = 0 then .illegal else .opImm 0 2 2 false (sx 10 imm)
    else if imm6 = 0 then .illegal
    else .lui rd (imm6 <<< 12)
  | 1, 4 =>
    match bitsOf i 10 2 with
    | 0 => if hi = 1 then .illegal else .opImm 5 rs' rs' false sh
    | 1 => if hi = 1 then .illegal else .opImm 5 rs' rs' true sh
    | 2 => .opImm 7 rs' rs' false imm6
    | _ =>
      if hi = 1 then .illegal
      else match bitsOf i 5 2 with
        | 0 => .op 0 rs' rs' rd' true
        | 1 => .op 4 rs' rs' rd' false
        | 2 => .op 6 rs' rs' rd' false
        | _ => .op 7 rs' rs' rd' false
  | 1, 5 => .jal 0 joff
  | 1, 6 => .branch 0 rs' 0 boff
  | 1, 7 => .branch 1 rs' 0 boff
  | 2, 0 => if hi = 1 then .illegal else .opImm 1 rd rd false sh
  | 2, 2 =>
    if rd = 0 then .illegal
    else .load 2 rd 2 (BitVec.ofNat 32 (bitsOf i 4 3 * 4 + bitsOf i 12 1 * 32 + bitsOf i 2 2 * 64))
  | 2, 4 =>
    if hi = 0 then
      (if rs2 = 0 then (if rd = 0 then .illegal else .jalr 0 rd 0) else .op 0 rd 0 rs2 false)
    else if rs2 = 0 then (if rd = 0 then .ebreak else .jalr 1 rd 0)
    else .op 0 rd rd rs2 false
  | 2, 6 => .store 2 2 rs2 (BitVec.ofNat 32 (bitsOf i 9 4 * 4 + bitsOf i 7 2 * 64))
  | _, _ => .illegal

/-! ## Registers and arithmetic -/

/-- Register x_i. -/
def Core.rx (c : Core) (i : Nat) : W32 := if i = 0 then 0 else mget 0 c.x i

/-- Writes register x_i; x0 stays zero. -/
def Core.wx (c : Core) (i : Nat) (v : W32) : Core := if i = 0 then c else { c with x := mset 0 c.x i v }

/-- OP and OP-IMM arithmetic. -/
def alu (f3 : Nat) (alt : Bool) (a b : W32) : W32 :=
  match f3 with
  | 0 => if alt then a - b else a + b
  | 1 => a <<< (b.toNat % 32)
  | 2 => if a.slt b then 1 else 0
  | 3 => if a.ult b then 1 else 0
  | 4 => a ^^^ b
  | 5 => if alt then a.sshiftRight (b.toNat % 32) else a >>> (b.toNat % 32)
  | 6 => a ||| b
  | _ => a &&& b

/-- The M extension. -/
def muldiv (f3 : Nat) (a b : W32) : W32 :=
  let ua : Int := a.toNat
  let ub : Int := b.toNat
  match f3 with
  | 0 => a * b
  | 1 => BitVec.ofInt 32 (a.toInt * b.toInt / 2 ^ 32)
  | 2 => BitVec.ofInt 32 (a.toInt * ub / 2 ^ 32)
  | 3 => BitVec.ofInt 32 (ua * ub / 2 ^ 32)
  | 4 => if b = 0 then -1 else BitVec.ofInt 32 (a.toInt.tdiv b.toInt)
  | 5 => if b = 0 then -1 else BitVec.ofNat 32 (a.toNat / b.toNat)
  | 6 => if b = 0 then a else BitVec.ofInt 32 (a.toInt.tmod b.toInt)
  | _ => if b = 0 then a else BitVec.ofNat 32 (a.toNat % b.toNat)

/-- Branch conditions. -/
def branchTaken (f3 : Nat) (a b : W32) : Bool :=
  match f3 with
  | 0 => a = b
  | 1 => a ≠ b
  | 4 => a.slt b
  | 5 => !a.slt b
  | 6 => a.ult b
  | _ => !a.ult b

/-! ## CSRs -/

/-- mcycle (R82). -/
def Core.mcycle (c : Core) (ck : Nat) : Nat := (ck + c.cycAdd) % 2 ^ 64

/-- Implementation constants of the core: mvendorid, marchid, mimpid, mconfigptr (factory item 20) and mhartid (item 21). -/
def csrConst (k a : Nat) : W32 := BitVec.ofNat 32 (if a = 0xF14 then Config.factory 21 k else Config.factory 20 a)

/-- The value of a CSR; none where the core has none of that number. -/
def State.csrRead (s : State) (k a : Nat) : Option W32 :=
  let c := s.core k
  if a ∈ [0xF11, 0xF12, 0xF13, 0xF14, 0xF15] then some (csrConst k a)
  else if a = 0x300 then some (mget 0 c.csr a ||| 0x1800)
  else if a = 0x301 then some 0x40001104
  else if a ∈ [0x305, 0x340, 0x341, 0x342, 0x343] then some (mget 0 c.csr a)
  else if a ∈ [0x304, 0x344, 0x310, 0x320] then some 0
  else if a = 0xB00 then some (BitVec.ofNat 32 (c.mcycle (s.ck k)))
  else if a = 0xB80 then some (BitVec.ofNat 32 (c.mcycle (s.ck k) / 2 ^ 32))
  else if a = 0xB02 then some (BitVec.ofNat 32 c.minstret)
  else if a = 0xB82 then some (BitVec.ofNat 32 (c.minstret / 2 ^ 32))
  else if (0xB03 ≤ a ∧ a ≤ 0xB1F) ∨ (0xB83 ≤ a ∧ a ≤ 0xB9F) ∨ (0x323 ≤ a ∧ a ≤ 0x33F) then some 0
  else none

/-- A write of a CSR that exists. -/
def State.csrWrite (s : State) (k a : Nat) (v : W32) : State :=
  let low (x : Nat) : Nat := x / 2 ^ 32 * 2 ^ 32 + v.toNat
  let high (x : Nat) : Nat := x % 2 ^ 32 + v.toNat * 2 ^ 32
  let cyc (x : Nat) : Core → Core := fun c => { c with cycAdd := (x + 2 ^ 64 - s.ck k % 2 ^ 64) % 2 ^ 64 }
  let put (x : W32) : Core → Core := fun c => { c with csr := mset 0 c.csr a x }
  s.modCore k (
    if a = 0x300 then put (v &&& 0x88)
    else if a = 0x305 then put (v &&& 0xFFFFFFFD)
    else if a = 0x341 then put (v &&& 0xFFFFFFFE)
    else if a ∈ [0x340, 0x342, 0x343] then put v
    else if a = 0xB00 then cyc (low ((s.core k).mcycle (s.ck k)))
    else if a = 0xB80 then cyc (high ((s.core k).mcycle (s.ck k)))
    else if a = 0xB02 then fun c => { c with minstret := low c.minstret }
    else if a = 0xB82 then fun c => { c with minstret := high c.minstret }
    else id)

/-! ## Exceptions (R85) -/

/-- An exception of the core: recorded, raised as SEQ_TRAP, and halting the core or vectoring to mtvec. An exception belongs to no stream:
the record's SOURCE2 is 0 (log entry 32). -/
def State.rvTrap (s : State) (k cause : Nat) (tval : W32) : State :=
  let c := s.core k
  let ms := mget 0 c.csr 0x300
  let csr := mset 0 (mset 0 (mset 0 (mset 0 c.csr 0x341 (BitVec.ofNat 32 c.pc)) 0x342 (BitVec.ofNat 32 cause)) 0x343 tval) 0x300
    (if ms &&& 8 = 0 then 0 else 0x80)
  let c := { c with csr := csr, seqFault := BitVec.ofNat 64 (c.pc + cause * 2 ^ 32) }
  let s := s.setCore k
    (if c.trapHalt then ({ c with halted := true, trapped := true }).settle (s.ck k)
      else { c with pc := (mget 0 c.csr 0x305).toNat / 4 * 4 })
  s.coreEvent k 0x01 0 0 0

/-- The instruction at the PC: decoded with its length, or the exception its fetch raises. -/
def State.rvFetch (s : State) (k : Nat) : Except Nat (RvIns × Nat × Nat) :=
  let pc := (s.core k).pc
  let half (o : Nat) : Nat := leNat (bytesAt s.mem.imem (k * 65536 + o) 2)
  if pc % 2 ≠ 0 then .error 0
  else if imemSize k < pc + 2 then .error 1
  else
    let lo := half pc
    if lo % 4 ≠ 3 then .ok (decode16 lo, 2, lo)
    else if imemSize k < pc + 4 then .error 1
    else .ok (decode32 (lo + half (pc + 2) * 65536), 4, lo + half (pc + 2) * 65536)

/-- Whether a core can execute its next instruction. -/
def State.rvReady (s : State) (k : Nat) : Bool := s.clk.on && !(s.core k).halted && (s.core k).stall = .none

/-- An instruction retires: the PC moves and minstret counts. -/
def State.retire (s : State) (k pc : Nat) : State :=
  s.modCore k (fun c => { c with pc := pc % 2 ^ 32, minstret := (c.minstret + 1) % 2 ^ 64 })

/-! ## Loads and stores (R83, R84) -/

/-- What part of the core's map an address lies in. -/
inductive CoreMap where
  | imem (off : Nat)
  | data (off : Nat)
  | sub (off : Nat)
  | none
deriving DecidableEq, Repr

/-- The core's address map (R83, R118); engines have no CELL sub-window. -/
def coreMap (k a : Nat) : CoreMap :=
  if a < imemSize k then .imem a
  else if 0x400000 ≤ a ∧ a < 0x400000 + storeSize k then .data (a - 0x400000)
  else if isCell k ∧ 0x10000000 ≤ a ∧ a < 0x10020000 then .sub (a - 0x10000000)
  else .none

/-- A 32-bit load of the own CELL sub-window (R84): the value and the state. -/
def State.subLoad (s : State) (k x : Nat) : W32 × State :=
  let off := x / 8 * 8
  let v := s.cellView k off
  if x % 8 = 0 then
    let s := s.cellClear k off 0 32
    (v.setWidth 32, s.modCore k (fun c => { c with latch := some (off, (v >>> 32).setWidth 32) }))
  else
    let rcHigh := (fieldsAt (0x8000000 + k * 0x20000 + off)).any (fun f => f.acc = .rc && decide (32 ≤ f.lsb))
    let r := match (s.core k).latch with
      | some (o, h) => if o = off ∧ !rcHigh then h else (v >>> 32).setWidth 32
      | none => (v >>> 32).setWidth 32
    (r, (s.cellClear k off 32 64).modCore k (fun c => { c with latch := none }))

/-- A load: the value, or the cause of an exception. -/
def State.rvLoad (s : State) (k a n : Nat) (errs : List (Nat × Bool)) : State × Except Nat Nat :=
  if a % n ≠ 0 then (s, .error 4)
  else match coreMap k a with
    | .imem off => (s, .ok (leNat (bytesAt s.mem.imem (k * 65536 + off) n)))
    | .data off =>
      let s := s.csScan k [(off, n)] errs
      if s.csBad k off n then (s, .error 5) else (s, .ok (leNat (s.csBytes k off n)))
    | .sub x => if n = 4 then let r := s.subLoad k x; (r.2, .ok r.1.toNat) else (s, .error 5)
    | .none => (s, .error 5)

/-- A store: the state, or the cause of an exception. -/
def State.rvStore (s : State) (k a n v : Nat) : Except Nat State :=
  if a % n ≠ 0 then .error 6
  else match coreMap k a with
    | .imem _ => .error 7
    | .data off => .ok (s.csWrite k off (leBytes n v))
    | .sub x =>
      if n ≠ 4 then .error 7
      else
        let lo := x % 8 * 8
        let r := s.cellWrite k (x / 8 * 8) (BitVec.ofNat 64 (v % 2 ^ 32 * 2 ^ lo)) lo (lo + 32)
        if r.2 = St.ok then .ok (r.1.modCore k (fun c => { c with latch := none })) else .error 7
    | .none => .error 7

/-- The value of a load of the given width. -/
def loadExt (f3 v : Nat) : W32 :=
  match f3 with
  | 0 => sx 8 v
  | 1 => sx 16 v
  | _ => BitVec.ofNat 32 v

/-- One standard instruction other than EBREAK (R82), of length `len` with encoding `raw`. -/
def State.rvExec (s : State) (k : Nat) (i : RvIns) (len raw : Nat) (errs : List (Nat × Bool)) : State :=
  let c := s.core k
  let pc := c.pc
  let nextPc := pc + len
  let fin (s : State) (rd : Nat) (v : W32) : State := (s.modCore k (fun c => c.wx rd v)).retire k nextPc
  let at_ (off : W32) : Nat := (BitVec.ofNat 32 pc + off).toNat
  match i with
  | .lui rd imm => fin s rd imm
  | .auipc rd imm => fin s rd (BitVec.ofNat 32 pc + imm)
  | .jal rd off => (s.modCore k (fun c => c.wx rd (BitVec.ofNat 32 nextPc))).retire k (at_ off)
  | .jalr rd rs1 imm =>
    (s.modCore k (fun x => x.wx rd (BitVec.ofNat 32 nextPc))).retire k ((c.rx rs1 + imm).toNat / 2 * 2)
  | .branch f3 rs1 rs2 off => s.retire k (if branchTaken f3 (c.rx rs1) (c.rx rs2) then at_ off else nextPc)
  | .load f3 rd rs1 imm =>
    let a := (c.rx rs1 + imm).toNat
    match s.rvLoad k a (2 ^ (f3 % 4)) errs with
    | (s, .ok v) => fin s rd (loadExt f3 v)
    | (s, .error e) => s.rvTrap k e (BitVec.ofNat 32 a)
  | .store f3 rs1 rs2 imm =>
    let a := (c.rx rs1 + imm).toNat
    match s.rvStore k a (2 ^ f3) (c.rx rs2).toNat with
    | .ok s => s.retire k nextPc
    | .error e => s.rvTrap k e (BitVec.ofNat 32 a)
  | .opImm f3 rd rs1 alt imm => fin s rd (alu f3 alt (c.rx rs1) imm)
  | .op f3 rd rs1 rs2 alt => fin s rd (alu f3 alt (c.rx rs1) (c.rx rs2))
  | .mul f3 rd rs1 rs2 => fin s rd (muldiv f3 (c.rx rs1) (c.rx rs2))
  | .nop => s.retire k nextPc
  | .ecall => s.rvTrap k 11 0
  | .mret =>
    let ms := mget 0 c.csr 0x300
    (s.csrWrite k 0x300 ((if ms &&& 0x80 = 0 then 0 else 8) ||| 0x80)).retire k (mget 0 c.csr 0x341).toNat
  | .csr f3 rd rs1 a =>
    let src : W32 := if 4 ≤ f3 then BitVec.ofNat 32 rs1 else c.rx rs1
    let writes := f3 % 4 = 1 || decide (rs1 ≠ 0)
    match s.csrRead k a with
    | none => s.rvTrap k 2 (BitVec.ofNat 32 raw)
    | some old =>
      if writes && a / 1024 = 3 then s.rvTrap k 2 (BitVec.ofNat 32 raw)
      else
        let new := match f3 % 4 with | 1 => src | 2 => old ||| src | _ => old &&& ~~~src
        -- the instruction retires, then its own write to a counter stands
        let s := fin s rd old
        if writes then s.csrWrite k a new else s
  | _ => s.rvTrap k 2 (BitVec.ofNat 32 raw)

/-- RV_INSTRUCTION (R82, R83): one standard instruction, or the exception of its fetch. EBREAK and the Kenaris
instructions have rows of their own. -/
def execRvInstruction (core : Nat) (errs : List (Nat × Bool)) (s : State) : Host.Outcome State Fault Refusal :=
  .next (
    if s.rvReady core then
      match s.rvFetch core with
      | .error e => s.rvTrap core e (BitVec.ofNat 32 (s.core core).pc)
      | .ok (i, len, raw) =>
        match i with
        | .ebreak => s
        | .kenaris _ _ _ _ _ => s
        | _ => s.rvExec core i len raw errs
    else s)

/-- EBREAK (R85): the core halts, its PC at the EBREAK. It records no fault and raises no SEQ_TRAP (log entry 32). -/
def execEbreak (core : Nat) (s : State) : Host.Outcome State Fault Refusal :=
  .next (
    if s.rvReady core then
      match s.rvFetch core with
      | .ok (.ebreak, _, _) => s.haltCore core
      | _ => s
    else s)

/-! ## Kenaris instructions (R87, R88) -/

/-- Runs `f` with the registers' values and rd when the instruction at the PC is the Kenaris instruction `f3`. -/
def State.kenaris (s : State) (k f3 : Nat) (f : W32 → W32 → Nat → State) : State :=
  if s.rvReady k then
    match s.rvFetch k with
    | .ok (.kenaris g f7 rd rs1 rs2, _, _) =>
      if g = f3 ∧ f7 = 0 then f ((s.core k).rx rs1) ((s.core k).rx rs2) rd else s
    | _ => s
  else s

/-- A Kenaris instruction retires with a result. -/
def State.kenarisEnd (s : State) (k rd : Nat) (v : W32) : State :=
  (s.modCore k (fun c => c.wx rd v)).retire k ((s.core k).pc + 4)

/-- TC_STAGE (R87). -/
def execTcStage (core : Nat) (s : State) : Host.Outcome State Fault Refusal :=
  .next (s.kenaris core 0 (fun a b _ =>
    (s.modCore core (fun c => { c with staging := mset 0 c.staging (b.toNat % 8) a })).kenarisEnd core 0 0))

/-- TC_LDS (R87): eight staging words from 32 bytes of the store. A misaligned offset raises the misaligned-load exception and one outside
the store the load access fault, each with the offset in mtval: the spec names no exception for them (log entry 32). -/
def execTcLds (core : Nat) (errs : List (Nat × Bool)) (s : State) : Host.Outcome State Fault Refusal :=
  .next (s.kenaris core 1 (fun a _ _ =>
    let off := a.toNat
    if off % 32 ≠ 0 then s.rvTrap core 4 a
    else if storeSize core < off + 32 then s.rvTrap core 5 a
    else
      let s := s.csScan core [(off, 32)] errs
      if s.csBad core off 32 then s.rvTrap core 5 a
      else
        let bs := s.csBytes core off 32
        (s.modCore core (fun c => { c with
          staging := (List.range 8).foldl (fun m i => mset 0 m i (BitVec.ofNat 32 (leNat (slice bs (4 * i) 4)))) c.staging
          })).kenarisEnd core 0 0))

/-- Whether TC.PUSHS refuses the staged command (R88, R118). -/
def pushBad (k strm : Nat) (c : Cmd) : Bool := !accepts k c.opcode || decide (c.cver ≠ 1) || (!isCell k && strm = 1)

/-- Whether a stream takes a push now (R87). -/
def State.pushRoom (s : State) (k strm : Nat) : Bool :=
  let x := (s.core k).stream strm
  x.state ≠ .flushing && decide (x.queue.length < queueDepth k)

/-- The staged command joins a stream; its sequence number is the result (R89). -/
def State.push (s : State) (k strm rd : Nat) : State :=
  let c := s.core k
  let x := c.stream strm
  let q : QCmd := { cmd := cmdOfStaging c.staging, seq := x.nextSeq }
  (s.setCore k (c.setStream strm { x with queue := x.queue ++ [q], nextSeq := x.nextSeq + 1 })).kenarisEnd k rd
    (BitVec.ofNat 32 x.nextSeq)

/-- TC_PUSHS (R88). -/
def execTcPushs (core : Nat) (s : State) : Host.Outcome State Fault Refusal :=
  .next (s.kenaris core 2 (fun _ b rd =>
    let strm := b.toNat % 2
    if pushBad core strm (cmdOfStaging (s.core core).staging) then s.rvTrap core 2 (mget 0 (s.core core).staging 0)
    else if s.pushRoom core strm then s.push core strm rd
    else s.modCore core (fun c => { c with stall := .pushs })))

/-- The Kenaris instruction that a stalled core stands at, if it is `f3`. -/
def State.stalledAt (s : State) (k f3 : Nat) : Option (W32 × W32 × Nat) :=
  match s.rvFetch k with
  | .ok (.kenaris g _ rd rs1 rs2, _, _) => if g = f3 then some ((s.core k).rx rs1, (s.core k).rx rs2, rd) else none
  | _ => none

/-- PUSHS_UNSTALL (R98): a stalled TC.PUSHS queues its command once there is room. -/
def execPushsUnstall (core : Nat) (s : State) : Host.Outcome State Fault Refusal :=
  .next (if !s.clk.on then s else
    if (s.core core).stall = .pushs then
      match s.stalledAt core 2 with
      | some (_, b, rd) =>
        if s.pushRoom core (b.toNat % 2) then
          (s.modCore core (fun c => { c with stall := .none })).push core (b.toNat % 2) rd
        else s
      | none => s
    else s)

/-- TC_DONE (R87). -/
def execTcDone (core : Nat) (s : State) : Host.Outcome State Fault Refusal :=
  .next (s.kenaris core 3 (fun _ b rd =>
    s.kenarisEnd core rd (BitVec.ofNat 32 ((s.core core).retired (b.toNat % 2)))))

/-- SC_READ (R87). -/
def execScRead (core : Nat) (s : State) : Host.Outcome State Fault Refusal :=
  .next (s.kenaris core 4 (fun a _ rd => s.kenarisEnd core rd (BitVec.ofNat 32 (s.ctr core (a.toNat % 64)))))

/-- SC_WAIT (R87). -/
def execScWait (core : Nat) (s : State) : Host.Outcome State Fault Refusal :=
  .next (s.kenaris core 5 (fun a b _ =>
    if reached (s.ctr core (a.toNat % 64)) (b.toNat % 65536) then s.kenarisEnd core 0 0
    else s.modCore core (fun c => { c with stall := .scWait })))

/-- SC_WAIT_RELEASE (R112). -/
def execScWaitRelease (core : Nat) (s : State) : Host.Outcome State Fault Refusal :=
  .next (if !s.clk.on then s else
    if (s.core core).stall = .scWait then
      match s.stalledAt core 5 with
      | some (a, b, _) =>
        if reached (s.ctr core (a.toNat % 64)) (b.toNat % 65536) then
          (s.modCore core (fun c => { c with stall := .none })).kenarisEnd core 0 0
        else s
      | none => s
    else s)

/-- SC_ADD (R113). -/
def execScAdd (core : Nat) (s : State) : Host.Outcome State Fault Refusal :=
  .next (s.kenaris core 6 (fun a b _ => (s.addCtr core (a.toNat % 64) (b.toNat % 65536)).kenarisEnd core 0 0))

/-- KENARIS_ILLEGAL (R87): a bad funct7 or the reserved funct3. -/
def execKenarisIllegal (core : Nat) (s : State) : Host.Outcome State Fault Refusal :=
  .next (
    if s.rvReady core then
      match s.rvFetch core with
      | .ok (.kenaris g f7 _ _ _, _, raw) => if g = 7 ∨ f7 ≠ 0 then s.rvTrap core 2 (BitVec.ofNat 32 raw) else s
      | _ => s
    else s)

end Sys2Proof.Machine
end

