-- ==== Sys2Proof/Machine/Supply.lean ====
section
/-! DEFINITION. The input, the rails and their sequences (R512, R526 to R535), the hold-up store (R537, R538), the supply commands of
the sideband (R520, R521), and WAKE# (R517). -/

namespace Sys2Proof.Machine

open Sys2Proof

/-! ## Power-up (R527) -/

/-- EN_ASSERT (R527): with the input in range for 20 ms the rail sequence starts. -/
def execEnAssert (s : State) : Host.Outcome State Fault Refusal :=
  .next (s.modSup (fun x => { x with en := true, ready := x.ready || (x.inRange && !x.needOv) })).tryStart

/-- INPUT_IN_RANGE_20MS (R527, R528): the input has been in range for its time. -/
def execInputInRange20ms (s : State) : Host.Outcome State Fault Refusal :=
  .next (s.modSup (fun x => { x with inRange := true, ready := true, needOv := false })).tryStart

/-- RAIL_IN_REGULATION (R527): the next rails of the sequence are enabled. -/
def execRailInRegulation (rail : Nat) (s : State) : Host.Outcome State Fault Refusal :=
  .next (
    if s.sup.seq = .up && nmem s.sup.enabled rail then
      s.modSup (fun x => { x with inReg := nput x.inReg rail true }.advance)
    else s)

/-- POWER_GOOD (R517, R527): every rail is in regulation; the times of stages 1 to 4 count from here (R444). -/
def execPowerGood (s : State) : Host.Outcome State Fault Refusal :=
  .next (
    if s.sup.seq = .up && allRails.all (nmem s.sup.inReg) then
      { s.modSup (fun x => { x with seq := .on, pwrgd := true }) with mgt := { s.mgt with stageFrom := s.now } }
    else s)

/-- POWERUP_RETRY (R533). -/
def execPowerupRetry (s : State) : Host.Outcome State Fault Refusal :=
  .next (
    if s.sup.seq = .off && s.sup.retryDue then
      ((s.modSup (fun x => { x with retryDue := false })).tryStart).modSup (fun x => { x with retried := true })
    else s)

/-! ## Power-down (R528 to R531) -/

/-- EN_DEASSERT (R528, R534): normal order; a final page. -/
def execEnDeassert (s : State) : Host.Outcome State Fault Refusal :=
  .next (
    let s' := s.modSup (fun x => { x with en := false })
    if s.sup.seq = .up || s.sup.seq = .on then s'.downNormal.finalPage else s')

/-- INPUT_LOSS (R512, R526, R528): emergency order; the standby domain runs on the hold-up store; a final page. -/
def execInputLoss (s : State) : Host.Outcome State Fault Refusal :=
  .next (
    let s' := s.modSup (fun x => { x with inRange := false, ready := false, retryDue := false, bootDue := true
                                          downAt := if x.seq = .off then s.now else x.downAt })
    if s.sup.standby && s.sup.inRange then s'.downEmergency.finalPage else s')

/-- INPUT_OVERVOLTAGE (R512, R528). -/
def execInputOvervoltage (s : State) : Host.Outcome State Fault Refusal :=
  .next (s.modSup (fun x => { x with inRange := false, ready := false, needOv := true, bootDue := true, retryDue := false })).downEmergency

/-- PHASE of the rail fault record (R532); none while no rail is on. -/
def Seq.phase : Seq → Option Nat
  | .off => none
  | .up => some 0
  | .on => some 1
  | _ => some 2

/-- An entry of the rail fault record; the oldest goes when 8 are in use (R532). -/
def State.noteRail (s : State) (rail mv timeMs : Nat) : State :=
  match s.sup.seq.phase with
  | none => s
  | some p =>
    let l := s.nv.faults ++ [{ rail := rail, phase := p, mv := mv, timeMs := timeMs, start := s.nv.starts }]
    { s with nv := { s.nv with faults := l.drop (l.length - 8) } }

/-- RAIL_FAULT (R528, R531 to R533): a rail that is not disabled leaves regulation. -/
def execRailFault (rail mv timeMs : Nat) (s : State) : Host.Outcome State Fault Refusal :=
  .next (
    if nmem s.sup.enabled rail then
      let s' := s.noteRail rail mv timeMs
      match s.sup.seq with
      | .up =>
        s'.downEmergency.modSup (fun x => if x.retried then { x with stuck := true } else { x with retryDue := true })
      | .on => (s'.drew 2).ocp (s.freeW.toNat % 256) ((Config.freeWord (s.free + 1)).toNat % 256)
      | _ => s'.downEmergency
    else s)

/-- RAIL_DISCHARGED (R529): the rail disabled last is below 10 %; the next one follows. -/
def execRailDischarged (rail : Nat) (s : State) : Host.Outcome State Fault Refusal :=
  .next (if s.sup.seq = .normal && s.sup.falling = some rail then s.modSup Sup.nextDown else s)

/-- RAIL_DISCHARGE_TIMEOUT (R531): the emergency order takes the remaining rails. -/
def execRailDischargeTimeout (rail mv timeMs : Nat) (s : State) : Host.Outcome State Fault Refusal :=
  .next (if s.sup.seq = .normal && s.sup.falling = some rail then (s.noteRail rail mv timeMs).downEmergency else s)

/-- EMERGENCY_STEP (R530): the next rails are disabled. -/
def execEmergencyStep (s : State) : Host.Outcome State Fault Refusal :=
  .next (
    if s.sup.seq = .emergency then
      s.modSup (fun x =>
        let y := { x.disable ((emergencyOrder[x.step]?).getD []) with step := x.step + 1 }
        if emergencyOrder.length ≤ y.step then y.finish else y)
    else s)

/-- INPUT_RETURN (R535): the input is back; the cold start follows when its restart condition holds, no sooner than 100 ms after the
trigger. -/
def execInputReturn (s : State) : Host.Outcome State Fault Refusal :=
  .next (if s.sup.standby && !s.sup.inRange then s.modSup (fun x => { x with inRange := true, bootDue := true, notBefore := x.downAt + 180000000 }) else s)

/-- HOLD_UP_EXHAUSTED (R526): the standby domain turns off. -/
def execHoldUpExhausted (s : State) : Host.Outcome State Fault Refusal :=
  .next (
    if s.sup.inRange then s
    else s.dropGood.modSup (fun x => { x with standby := false, seq := .off, enabled := [], inReg := [], falling := none,
                                              step := 0, bootDue := true, retryDue := false }))

/-- OCP_TRIP (R385, R512). -/
def execOcpTrip (amps : Nat) (s : State) : Host.Outcome State Fault Refusal :=
  .next (if s.sup.standby && !s.sup.trip && !s.sup.deadbolt then (s.drew 1).ocp amps (s.freeW.toNat % 256) else s)

/-- INPUT_REMOVED_1S (R385, R408, R445, R533): trips, deadbolt and halt end; the next start is a cold start. -/
def execInputRemoved1s (s : State) : Host.Outcome State Fault Refusal :=
  .next (
    (s.modSup (fun x => { x with inRange := false, ready := false, trip := false, deadbolt := false, stuck := false, retried := false
                                 bootDue := true })).setF R.MGMT_STAGE F.MGMT_STAGE_HALTED 0)

/-! ## The hold-up store (R537, R538) -/

/-- CM_MEASUREMENT (R537): the counted charge divided by 2.0 V; the charge counter is set, and a disagreement ends. -/
def execCmMeasurement (chargeMc : Nat) (s : State) : Host.Outcome State Fault Refusal :=
  .next (
    let cm := chargeMc / 2
    { s.modSup (fun x => { x with disagree := false }) with nv := { s.nv with cm := cm, charge := cm * 9 / 2 } })

/-- GAUGE_FAULT (R538). -/
def execGaugeFault (s : State) : Host.Outcome State Fault Refusal :=
  .next (s.modSup (fun x => { x with disagree := true }))

/-- GAUGE_FAULT_CLEAR (R538). -/
def execGaugeFaultClear (s : State) : Host.Outcome State Fault Refusal :=
  .next (s.modSup (fun x => { x with disagree := false }))

/-! ## Sideband commands (R520, R521) -/

/-- FLAGS of GET_SUPPLY. -/
def State.supplyFlags (s : State) : Nat :=
  b2n s.sup.inRange + 2 * b2n s.sup.en + 4 * b2n s.sup.pwrgd + 8 * b2n s.gaugeFault + 16 * b2n s.sup.deadbolt + 32 * b2n s.sup.trip +
    64 * b2n (!s.nv.faults.isEmpty)

/-- RAILS of GET_SUPPLY: the rails of the standby domain are in regulation while it is up. -/
def State.railBits (s : State) : Nat :=
  3 + (allRails.map (fun r => if nmem s.sup.inReg r then 2 ^ r else 0)).foldl (· + ·) 0

/-- E_T in mJ (R538). -/
def State.trusted (s : State) (vhu q : Nat) : Nat :=
  if s.gaugeFault then 0 else min (energyV s.nv.cm vhu) (energyQ s.nv.cm q) - 300

/-- The GET_SUPPLY response (R521). -/
def State.supplyBytes (s : State) (vin iin vhu q : Nat) : List Byte :=
  leBytes 1 St.ok ++ leBytes 1 1 ++ leBytes 1 s.supplyFlags ++ leBytes 1 0 ++ leBytes 2 vin ++ leBytes 2 iin ++ leBytes 2 vhu ++
    leBytes 2 (energyV s.nv.cm vhu) ++ leBytes 2 (energyQ s.nv.cm q) ++ leBytes 2 (s.trusted vhu q) ++ leBytes 2 s.nv.cm ++
    leBytes 2 s.railBits ++ leBytes 4 s.nv.starts ++ zeros 8

/-- SB_GET_SUPPLY (R519, R521): the readings are the event's, but for the charge counter. -/
def execSbGetSupply (vin iin vhu : Nat) (s : State) : Host.Outcome State Fault Refusal :=
  .next (s.sbDo (fun s => (s.drew 2).answer St.ok 0 (s.supplyBytes vin iin vhu s.bankQ)))

/-- The 16 bytes of an entry of the rail fault record (R532). -/
def RailFault.bytes (f : RailFault) : List Byte :=
  leBytes 1 f.rail ++ leBytes 1 f.phase ++ leBytes 2 f.mv ++ leBytes 4 f.timeMs ++ leBytes 4 f.start ++ leBytes 1 1 ++ zeros 3

/-- SB_GET_RAIL_FAULTS (R520, R532): 8 entries, those in use first. -/
def execSbGetRailFaults (s : State) : Host.Outcome State Fault Refusal :=
  .next (s.sbDo (fun s => s.answer St.ok 0 (padTo 129 (leBytes 1 St.ok ++ (s.nv.faults.map RailFault.bytes).flatten))))

/-- SB_CLEAR_RAIL_FAULTS (R520). -/
def execSbClearRailFaults (s : State) : Host.Outcome State Fault Refusal :=
  .next (s.sbDo (fun s => { s with nv := { s.nv with faults := [] } }.answer St.ok))

/-- SB_RESTART (R385, R408, R445, R520, R528, R533): a normal power-down of the rails that are on, then a cold start. -/
def execSbRestart (s : State) : Host.Outcome State Fault Refusal :=
  .next (s.sbDo (fun s =>
    if s.sup.deadbolt then s.answer St.bounds
    else
      let on := s.sup.seq = .up || s.sup.seq = .on
      let s := (s.modSup (fun x => { x with trip := false, stuck := false, retried := false, retryDue := false, auto := true
                                            bootDue := true })).setF R.MGMT_STAGE F.MGMT_STAGE_HALTED 0
      (if on then s.downNormal.finalPage else s).answer St.ok))

/-- SB_UNKNOWN_COMMAND (R520). -/
def execSbUnknownCommand (_code : Nat) (s : State) : Host.Outcome State Fault Refusal :=
  .next (s.sbDo (fun s => s.answer St.bounds))

/-! ## WAKE# (R517) -/

/-- WAKE# asserted: an MSI-X message or event record is pending and the host link is in L1.2 or down. -/
def State.wakePin (s : State) : Bool :=
  (!s.evt.msix.isEmpty || !(s.path 0).queue.isEmpty) && (s.sup.l12 || s.rf R.HOST_LINK_STATUS F.HOST_LINK_STATUS_SPEED = 0)

/-- HOST_LINK_L1_CHANGE (R517): on entry to L1.2 the messages raised before are gone to the host, and back in L0 those raised
meanwhile go. -/
def execHostLinkL1Change (inL12 : Bool) (s : State) : Host.Outcome State Fault Refusal :=
  .next { s.modSup (fun x => { x with l12 := inL12 }) with evt := { s.evt with msix := [] } }

end Sys2Proof.Machine
end

