-- ==== Sys2Proof/Machine/Dispatch.lean ====
section
/-! DEFINITION. Which meaning each command has: one arm per row of spec/opcode_table.json. -/

namespace Sys2Proof.Machine

open Sys2Proof

/-- A command's effect on everything but the queue. -/
def exec (i : Instr) (s : State) : Host.Outcome State Fault Refusal :=
  match i with
  | .registerWrite who addr size val => Sys2Proof.Machine.execRegisterWrite who addr size val s
  | .rcRead who addr size => Sys2Proof.Machine.execRcRead who addr size s
  | .refLockLost => Sys2Proof.Machine.execRefLockLost s
  | .refHoldoverExpiry => Sys2Proof.Machine.execRefHoldoverExpiry s
  | .refLockRegained => Sys2Proof.Machine.execRefLockRegained s
  | .cellCheckFail half row col => Sys2Proof.Machine.execCellCheckFail half row col s
  | .parityRateLimit half row col => Sys2Proof.Machine.execParityRateLimit half row col s
  | .meshPacketArrive idx => Sys2Proof.Machine.execMeshPacketArrive idx s
  | .hingeSublinkDown sublink => Sys2Proof.Machine.execHingeSublinkDown sublink s
  | .rvInstruction core errs => Sys2Proof.Machine.execRvInstruction core errs s
  | .ebreak core => Sys2Proof.Machine.execEbreak core s
  | .tcStage core => Sys2Proof.Machine.execTcStage core s
  | .tcLds core errs => Sys2Proof.Machine.execTcLds core errs s
  | .tcPushs core => Sys2Proof.Machine.execTcPushs core s
  | .pushsUnstall core => Sys2Proof.Machine.execPushsUnstall core s
  | .tcDone core => Sys2Proof.Machine.execTcDone core s
  | .scRead core => Sys2Proof.Machine.execScRead core s
  | .scWait core => Sys2Proof.Machine.execScWait core s
  | .scWaitRelease core => Sys2Proof.Machine.execScWaitRelease core s
  | .scAdd core => Sys2Proof.Machine.execScAdd core s
  | .kenarisIllegal core => Sys2Proof.Machine.execKenarisIllegal core s
  | .seqRun who core trapHalt => Sys2Proof.Machine.execSeqRun who core trapHalt s
  | .seqHalt who core trapHalt => Sys2Proof.Machine.execSeqHalt who core trapHalt s
  | .fgResume who core => Sys2Proof.Machine.execFgResume who core s
  | .fgFlush who core => Sys2Proof.Machine.execFgFlush who core s
  | .fillResume who core => Sys2Proof.Machine.execFillResume who core s
  | .fillFlush who core => Sys2Proof.Machine.execFillFlush who core s
  | .fillEnableWrite who core en => Sys2Proof.Machine.execFillEnableWrite who core en s
  | .syncCtrWrite who core ctr val => Sys2Proof.Machine.execSyncCtrWrite who core ctr val s
  | .imemWrite who core off val => Sys2Proof.Machine.execImemWrite who core off val s
  | .commandIssue core strm => Sys2Proof.Machine.execCommandIssue core strm s
  | .commandComplete core unit => Sys2Proof.Machine.execCommandComplete core unit s
  | .matmul core errs => Sys2Proof.Machine.execMatmul core errs s
  | .conv core errs => Sys2Proof.Machine.execConv core errs s
  | .weightLoadDone core => Sys2Proof.Machine.execWeightLoadDone core s
  | .passStart core wparity => Sys2Proof.Machine.execPassStart core wparity s
  | .passDone core aparity => Sys2Proof.Machine.execPassDone core aparity s
  | .load core errs => Sys2Proof.Machine.execLoad core errs s
  | .store core errs => Sys2Proof.Machine.execStore core errs s
  | .gather core => Sys2Proof.Machine.execGather core s
  | .quant core errs => Sys2Proof.Machine.execQuant core errs s
  | .dequant core errs => Sys2Proof.Machine.execDequant core errs s
  | .sfn core errs => Sys2Proof.Machine.execSfn core errs s
  | .norm core errs => Sys2Proof.Machine.execNorm core errs s
  | .reduce core errs => Sys2Proof.Machine.execReduce core errs s
  | .rng core => Sys2Proof.Machine.execRng core s
  | .optUpdate core errs => Sys2Proof.Machine.execOptUpdate core errs s
  | .sync core => Sys2Proof.Machine.execSync core s
  | .wait core => Sys2Proof.Machine.execWait core s
  | .signal core => Sys2Proof.Machine.execSignal core s
  | .send core errs => Sys2Proof.Machine.execSend core errs s
  | .sendQueue core errs => Sys2Proof.Machine.execSendQueue core errs s
  | .recv core => Sys2Proof.Machine.execRecv core s
  | .recvTimeout core => Sys2Proof.Machine.execRecvTimeout core s
  | .cqsend core => Sys2Proof.Machine.execCqsend core s
  | .cadd core => Sys2Proof.Machine.execCadd core s
  | .cbegin core => Sys2Proof.Machine.execCbegin core s
  | .cend core => Sys2Proof.Machine.execCend core s
  | .sfnTableWrite who cell off val => Sys2Proof.Machine.execSfnTableWrite who cell off val s
  | .sfnTdescWrite who cell tbl val => Sys2Proof.Machine.execSfnTdescWrite who cell tbl val s
  | .sfnValidClearDone cell tbl => Sys2Proof.Machine.execSfnValidClearDone cell tbl s
  | .sfnBcastWrite who half off val => Sys2Proof.Machine.execSfnBcastWrite who half off val s
  | .blockAccess who line acc ecc => Sys2Proof.Machine.execBlockAccess who line acc ecc s
  | .fillStart half ward block cls tag => Sys2Proof.Machine.execFillStart half ward block cls tag s
  | .fillDone block => Sys2Proof.Machine.execFillDone block s
  | .drainDone block => Sys2Proof.Machine.execDrainDone block s
  | .bankSlotGrant stack bank => Sys2Proof.Machine.execBankSlotGrant stack bank s
  | .walkEnable who half ward val => Sys2Proof.Machine.execWalkEnable who half ward val s
  | .walkDisable who half ward => Sys2Proof.Machine.execWalkDisable who half ward s
  | .walkResume who half ward => Sys2Proof.Machine.execWalkResume who half ward s
  | .walkEntryStart half ward => Sys2Proof.Machine.execWalkEntryStart half ward s
  | .walkFrameAvailable half ward => Sys2Proof.Machine.execWalkFrameAvailable half ward s
  | .walkEntryDone half ward => Sys2Proof.Machine.execWalkEntryDone half ward s
  | .tierOpMigrate who half count cls ward => Sys2Proof.Machine.execTierOpMigrate who half count cls ward s
  | .tierOpEvict who half count ward => Sys2Proof.Machine.execTierOpEvict who half count ward s
  | .tierOpClean who half count ward => Sys2Proof.Machine.execTierOpClean who half count ward s
  | .tierOpDone half => Sys2Proof.Machine.execTierOpDone half s
  | .hbmLineRead line fault => Sys2Proof.Machine.execHbmLineRead line fault s
  | .hbmLineWrite line off data fault => Sys2Proof.Machine.execHbmLineWrite line off data fault s
  | .msoOperation line off op operand fault => Sys2Proof.Machine.execMsoOperation line off op operand fault s
  | .clearingDone stack region => Sys2Proof.Machine.execClearingDone stack region s
  | .bgClearStart stack => Sys2Proof.Machine.execBgClearStart stack s
  | .refresh stack pc bank => Sys2Proof.Machine.execRefresh stack pc bank s
  | .patrolRead stack fault => Sys2Proof.Machine.execPatrolRead stack fault s
  | .hbmTempReading stack temp => Sys2Proof.Machine.execHbmTempReading stack temp s
  | .hbmTempLost stack => Sys2Proof.Machine.execHbmTempLost stack s
  | .unfence who stack => Sys2Proof.Machine.execUnfence who stack s
  | .pcRetrainStart who stack pc => Sys2Proof.Machine.execPcRetrainStart who stack pc s
  | .pcRetrainDone stack ok => Sys2Proof.Machine.execPcRetrainDone stack ok s
  | .pcRetrainSchedule => Sys2Proof.Machine.execPcRetrainSchedule s
  | .regionReset who stack first count => Sys2Proof.Machine.execRegionReset who stack first count s
  | .regionClearNow who stack first count => Sys2Proof.Machine.execRegionClearNow who stack first count s
  | .regionCmdDone stack => Sys2Proof.Machine.execRegionCmdDone stack s
  | .rxWrite rx pkt => Sys2Proof.Machine.execRxWrite rx pkt s
  | .rxReadReq rx pkt => Sys2Proof.Machine.execRxReadReq rx pkt s
  | .rxReadResp rx pkt => Sys2Proof.Machine.execRxReadResp rx pkt s
  | .rxSend rx pkt => Sys2Proof.Machine.execRxSend rx pkt s
  | .rxAtomic rx pkt => Sys2Proof.Machine.execRxAtomic rx pkt s
  | .rxAck rx pkt => Sys2Proof.Machine.execRxAck rx pkt s
  | .rxNak rx pkt => Sys2Proof.Machine.execRxNak rx pkt s
  | .rxProbe rx pkt => Sys2Proof.Machine.execRxProbe rx pkt s
  | .rxProbeEcho rx pkt => Sys2Proof.Machine.execRxProbeEcho rx pkt s
  | .rxCtrlAbort rx pkt => Sys2Proof.Machine.execRxCtrlAbort rx pkt s
  | .retxTimeout msg pkt => Sys2Proof.Machine.execRetxTimeout msg pkt s
  | .nakRetryTimer msg pkt => Sys2Proof.Machine.execNakRetryTimer msg pkt s
  | .ackCoalesceTimeout srcDev msgId => Sys2Proof.Machine.execAckCoalesceTimeout srcDev msgId s
  | .lastPacketSend msg lifePassed => Sys2Proof.Machine.execLastPacketSend msg lifePassed s
  | .filterEntryExpire srcDev msgId => Sys2Proof.Machine.execFilterEntryExpire srcDev msgId s
  | .msgTimeout msg => Sys2Proof.Machine.execMsgTimeout msg s
  | .probeTimer => Sys2Proof.Machine.execProbeTimer s
  | .msgContextGrant => Sys2Proof.Machine.execMsgContextGrant s
  | .xportDoorbell who queue prod => Sys2Proof.Machine.execXportDoorbell who queue prod s
  | .xportCqDoorbell who queue cons => Sys2Proof.Machine.execXportCqDoorbell who queue cons s
  | .descWrite queue => Sys2Proof.Machine.execDescWrite queue s
  | .descRead queue => Sys2Proof.Machine.execDescRead queue s
  | .descSend queue => Sys2Proof.Machine.execDescSend queue s
  | .descAtomic queue => Sys2Proof.Machine.execDescAtomic queue s
  | .descRecv queue => Sys2Proof.Machine.execDescRecv queue s
  | .descInvalid queue => Sys2Proof.Machine.execDescInvalid queue s
  | .cqEntryWrite queue => Sys2Proof.Machine.execCqEntryWrite queue s
  | .ctxCmdRead who queue => Sys2Proof.Machine.execCtxCmdRead who queue s
  | .ctxCmdWrite who queue => Sys2Proof.Machine.execCtxCmdWrite who queue s
  | .regionRegister who ward permWrite permRead permAtomic => Sys2Proof.Machine.execRegionRegister who ward permWrite permRead permAtomic s
  | .regionDeregister who ward => Sys2Proof.Machine.execRegionDeregister who ward s
  | .regCmdDone => Sys2Proof.Machine.execRegCmdDone s
  | .lldpTx port => Sys2Proof.Machine.execLldpTx port s
  | .lldpRx port info => Sys2Proof.Machine.execLldpRx port info s
  | .electionSettled => Sys2Proof.Machine.execElectionSettled s
  | .collDeadline seq => Sys2Proof.Machine.execCollDeadline seq s
  | .collAbortWrite who seq => Sys2Proof.Machine.execCollAbortWrite who seq s
  | .abortWindowExpiry seq => Sys2Proof.Machine.execAbortWindowExpiry seq s
  | .abortTableExpire collId => Sys2Proof.Machine.execAbortTableExpire collId s
  | .portFrameRx port sub frame fcsOk => Sys2Proof.Machine.execPortFrameRx port sub frame fcsOk s
  | .portFrameTx port sub => Sys2Proof.Machine.execPortFrameTx port sub s
  | .arpNdRequest port sub v6 target peerMac => Sys2Proof.Machine.execArpNdRequest port sub v6 target peerMac s
  | .icmpEcho port sub v6 target data => Sys2Proof.Machine.execIcmpEcho port sub v6 target data s
  | .rxPfc port sub prios quanta => Sys2Proof.Machine.execRxPfc port sub prios quanta s
  | .pfcPauseExpiry port pausedUs => Sys2Proof.Machine.execPfcPauseExpiry port pausedUs s
  | .rxPause port sub => Sys2Proof.Machine.execRxPause port sub s
  | .pfcRefresh port => Sys2Proof.Machine.execPfcRefresh port s
  | .pfcStorm port => Sys2Proof.Machine.execPfcStorm port s
  | .pfcStormEnd port => Sys2Proof.Machine.execPfcStormEnd port s
  | .linkDown port sub lane fault => Sys2Proof.Machine.execLinkDown port sub lane fault s
  | .linkAligned port sub => Sys2Proof.Machine.execLinkAligned port sub s
  | .linkupHoldExpiry port sub => Sys2Proof.Machine.execLinkupHoldExpiry port sub s
  | .fecDegrade port counts => Sys2Proof.Machine.execFecDegrade port counts s
  | .retime who port => Sys2Proof.Machine.execRetime who port s
  | .parkWindow port sent received => Sys2Proof.Machine.execParkWindow port sent received s
  | .parkReq port seq => Sys2Proof.Machine.execParkReq port seq s
  | .parkAck port seq => Sys2Proof.Machine.execParkAck port seq s
  | .parkNak port seq => Sys2Proof.Machine.execParkNak port seq s
  | .parkGo port seq => Sys2Proof.Machine.execParkGo port seq s
  | .parkAnswerTimeout port => Sys2Proof.Machine.execParkAnswerTimeout port s
  | .wake port seq => Sys2Proof.Machine.execWake port seq s
  | .lanesLocked port => Sys2Proof.Machine.execLanesLocked port s
  | .wakeAck port seq => Sys2Proof.Machine.execWakeAck port seq s
  | .wakeTimeout port => Sys2Proof.Machine.execWakeTimeout port s
  | .parkRefresh port missed => Sys2Proof.Machine.execParkRefresh port missed s
  | .hostConfigRequest wr off val => Sys2Proof.Machine.execHostConfigRequest wr off val s
  | .hostBar0Access wr off size val => Sys2Proof.Machine.execHostBar0Access wr off size val s
  | .hostDoorbellProd off size val => Sys2Proof.Machine.execHostDoorbellProd off size val s
  | .hostDoorbellCq off size val => Sys2Proof.Machine.execHostDoorbellCq off size val s
  | .hostPlaceFlag slot write => Sys2Proof.Machine.execHostPlaceFlag slot write s
  | .hostBar4Write off data => Sys2Proof.Machine.execHostBar4Write off data s
  | .hostBar4Read off => Sys2Proof.Machine.execHostBar4Read off s
  | .cxlMemRead addr fault => Sys2Proof.Machine.execCxlMemRead addr fault s
  | .cxlMemWrite addr data fault => Sys2Proof.Machine.execCxlMemWrite addr data fault s
  | .hostSnoop line kind hostData => Sys2Proof.Machine.execHostSnoop line kind hostData s
  | .hostLinkUp speed width cxl => Sys2Proof.Machine.execHostLinkUp speed width cxl s
  | .hostLinkDown => Sys2Proof.Machine.execHostLinkDown s
  | .perstAssert => Sys2Proof.Machine.execPerstAssert s
  | .perstDeassert => Sys2Proof.Machine.execPerstDeassert s
  | .hotReset => Sys2Proof.Machine.execHotReset s
  | .flr => Sys2Proof.Machine.execFlr s
  | .pstateEntry pstate => Sys2Proof.Machine.execPstateEntry pstate s
  | .pstateWake => Sys2Proof.Machine.execPstateWake s
  | .pmTolWrite who val => Sys2Proof.Machine.execPmTolWrite who val s
  | .pInSample pin prsv => Sys2Proof.Machine.execPInSample pin prsv s
  | .clampEnd => Sys2Proof.Machine.execClampEnd s
  | .ocpTrip amps => Sys2Proof.Machine.execOcpTrip amps s
  | .governorDecision half sum10ms samples => Sys2Proof.Machine.execGovernorDecision half sum10ms samples s
  | .capStepCheck avg100us avg10ms => Sys2Proof.Machine.execCapStepCheck avg100us avg10ms s
  | .supplySettled cell => Sys2Proof.Machine.execSupplySettled cell s
  | .cellSupplySample cell mv => Sys2Proof.Machine.execCellSupplySample cell mv s
  | .neighbourHoldEnd cell bound => Sys2Proof.Machine.execNeighbourHoldEnd cell bound s
  | .droopDetect cell mv => Sys2Proof.Machine.execDroopDetect cell mv s
  | .droopRecover cell => Sys2Proof.Machine.execDroopRecover cell s
  | .stretchLimit cell => Sys2Proof.Machine.execStretchLimit cell s
  | .droopStepEnd cell => Sys2Proof.Machine.execDroopStepEnd cell s
  | .startGrant core => Sys2Proof.Machine.execStartGrant core s
  | .energyModelTick counts ways => Sys2Proof.Machine.execEnergyModelTick counts ways s
  | .corrUpdate half us => Sys2Proof.Machine.execCorrUpdate half us s
  | .cellTempReading cell temp => Sys2Proof.Machine.execCellTempReading cell temp s
  | .thermalStepTimer => Sys2Proof.Machine.execThermalStepTimer s
  | .lsTempReading half sensor temp => Sys2Proof.Machine.execLsTempReading half sensor temp s
  | .coolantReading inlet outlet => Sys2Proof.Machine.execCoolantReading inlet outlet s
  | .cellSensorLost cell => Sys2Proof.Machine.execCellSensorLost cell s
  | .pInLost => Sys2Proof.Machine.execPInLost s
  | .deadboltTrip cause value source => Sys2Proof.Machine.execDeadboltTrip cause value source s
  | .inputRemoved1s => Sys2Proof.Machine.execInputRemoved1s s
  | .spdmGetVersion => Sys2Proof.Machine.execSpdmGetVersion s
  | .spdmGetCapabilities req => Sys2Proof.Machine.execSpdmGetCapabilities req s
  | .spdmNegotiateAlgorithms req => Sys2Proof.Machine.execSpdmNegotiateAlgorithms req s
  | .spdmGetDigests => Sys2Proof.Machine.execSpdmGetDigests s
  | .spdmGetCertificate slot offset length => Sys2Proof.Machine.execSpdmGetCertificate slot offset length s
  | .spdmChallenge slot req => Sys2Proof.Machine.execSpdmChallenge slot req s
  | .spdmGetMeasurements index sig raw req => Sys2Proof.Machine.execSpdmGetMeasurements index sig raw req s
  | .spdmKeyExchange slot session req => Sys2Proof.Machine.execSpdmKeyExchange slot session req s
  | .spdmFinish session macOk => Sys2Proof.Machine.execSpdmFinish session macOk s
  | .spdmHeartbeat session => Sys2Proof.Machine.execSpdmHeartbeat session s
  | .spdmKeyUpdate session op => Sys2Proof.Machine.execSpdmKeyUpdate session op s
  | .spdmEndSession session => Sys2Proof.Machine.execSpdmEndSession session s
  | .wardOpen ward groups streamMask collMask qbase qcount => Sys2Proof.Machine.execWardOpen ward groups streamMask collMask qbase qcount s
  | .sliceAssign wardByte first count target => Sys2Proof.Machine.execSliceAssign wardByte first count target s
  | .setPolicy ward key => Sys2Proof.Machine.execSetPolicy ward key s
  | .installKey ward blob => Sys2Proof.Machine.execInstallKey ward blob s
  | .bundle ward addr len => Sys2Proof.Machine.execBundle ward addr len s
  | .linkKey ward keyId peer peerPub peerNonce auth => Sys2Proof.Machine.execLinkKey ward keyId peer peerPub peerNonce auth s
  | .unsealRing ward ctx base log2 sigCtr sigTkind sigTarget sigAllward auth => Sys2Proof.Machine.execUnsealRing ward ctx base log2 sigCtr sigTkind sigTarget sigAllward auth s
  | .wardRelease ward => Sys2Proof.Machine.execWardRelease ward s
  | .wardRequestUnknown code ward payload => Sys2Proof.Machine.execWardRequestUnknown code ward payload s
  | .wardGateVerified ward => Sys2Proof.Machine.execWardGateVerified ward s
  | .gateFailTimeout ward cells => Sys2Proof.Machine.execGateFailTimeout ward cells s
  | .rngHealthFail => Sys2Proof.Machine.execRngHealthFail s
  | .rngHealthPass => Sys2Proof.Machine.execRngHealthPass s
  | .unsealPoll => Sys2Proof.Machine.execUnsealPoll s
  | .unsealChunk => Sys2Proof.Machine.execUnsealChunk s
  | .standbyUp bootRecordOk slot0Ok slot1Ok => Sys2Proof.Machine.execStandbyUp bootRecordOk slot0Ok slot1Ok s
  | .stageReached stage => Sys2Proof.Machine.execStageReached stage s
  | .stageTimeout cause => Sys2Proof.Machine.execStageTimeout cause s
  | .nandOpDone res => Sys2Proof.Machine.execNandOpDone res s
  | .nandPatrol page corrected => Sys2Proof.Machine.execNandPatrol page corrected s
  | .commitStart => Sys2Proof.Machine.execCommitStart s
  | .txnBegin who => Sys2Proof.Machine.execTxnBegin who s
  | .txnFieldWrite who addr val => Sys2Proof.Machine.execTxnFieldWrite who addr val s
  | .txnLatch who persist => Sys2Proof.Machine.execTxnLatch who persist s
  | .latchEffect => Sys2Proof.Machine.execLatchEffect s
  | .txnRollback who => Sys2Proof.Machine.execTxnRollback who s
  | .txnTimeout => Sys2Proof.Machine.execTxnTimeout s
  | .fwInstall who len => Sys2Proof.Machine.execFwInstall who len s
  | .fwSwitchNext who => Sys2Proof.Machine.execFwSwitchNext who s
  | .fwSwitchLive who => Sys2Proof.Machine.execFwSwitchLive who s
  | .fwConfirm who => Sys2Proof.Machine.execFwConfirm who s
  | .fwInstallCal who len => Sys2Proof.Machine.execFwInstallCal who len s
  | .fwOpDone => Sys2Proof.Machine.execFwOpDone s
  | .fwConfirmTimeout => Sys2Proof.Machine.execFwConfirmTimeout s
  | .tagInventory => Sys2Proof.Machine.execTagInventory s
  | .tagGetSystemInfo => Sys2Proof.Machine.execTagGetSystemInfo s
  | .tagExtGetSystemInfo => Sys2Proof.Machine.execTagExtGetSystemInfo s
  | .tagReadSingleBlock block => Sys2Proof.Machine.execTagReadSingleBlock block s
  | .tagReadMultipleBlocks first count => Sys2Proof.Machine.execTagReadMultipleBlocks first count s
  | .tagWriteSingleBlock block data => Sys2Proof.Machine.execTagWriteSingleBlock block data s
  | .tagFieldUnsupported code => Sys2Proof.Machine.execTagFieldUnsupported code s
  | .tagWiredAccess master wr addr len data lock => Sys2Proof.Machine.execTagWiredAccess master wr addr len data lock s
  | .tagWiredHoldTimeout master => Sys2Proof.Machine.execTagWiredHoldTimeout master s
  | .tagLockTimeout => Sys2Proof.Machine.execTagLockTimeout s
  | .tagAccessRead who addr => Sys2Proof.Machine.execTagAccessRead who addr s
  | .tagAccessWrite who addr => Sys2Proof.Machine.execTagAccessWrite who addr s
  | .tagAccessDone nak => Sys2Proof.Machine.execTagAccessDone nak s
  | .mboxAssetNote => Sys2Proof.Machine.execMboxAssetNote s
  | .mboxServiceMark => Sys2Proof.Machine.execMboxServiceMark s
  | .mboxInvalid => Sys2Proof.Machine.execMboxInvalid s
  | .configDigestWrite => Sys2Proof.Machine.execConfigDigestWrite s
  | .tagFault => Sys2Proof.Machine.execTagFault s
  | .leaseTx half => Sys2Proof.Machine.execLeaseTx half s
  | .leaseRx half epoch => Sys2Proof.Machine.execLeaseRx half epoch s
  | .leaseAckRx half epoch => Sys2Proof.Machine.execLeaseAckRx half epoch s
  | .leaseNakRx half epoch => Sys2Proof.Machine.execLeaseNakRx half epoch s
  | .handoffRx half epoch => Sys2Proof.Machine.execHandoffRx half epoch s
  | .acceptRx half epoch => Sys2Proof.Machine.execAcceptRx half epoch s
  | .leaseLapse half => Sys2Proof.Machine.execLeaseLapse half s
  | .leaseNoAck half => Sys2Proof.Machine.execLeaseNoAck half s
  | .handoffStall half => Sys2Proof.Machine.execHandoffStall half s
  | .orderTakeLead who half epoch => Sys2Proof.Machine.execOrderTakeLead who half epoch s
  | .orderHandOff who half => Sys2Proof.Machine.execOrderHandOff who half s
  | .hcStatusPoll => Sys2Proof.Machine.execHcStatusPoll s
  | .hcHang half => Sys2Proof.Machine.execHcHang half s
  | .mcWatchdog => Sys2Proof.Machine.execMcWatchdog s
  | .alarmDequeue path => Sys2Proof.Machine.execAlarmDequeue path s
  | .summaryDequeue path => Sys2Proof.Machine.execSummaryDequeue path s
  | .hostRingWrite => Sys2Proof.Machine.execHostRingWrite s
  | .hostRingStall => Sys2Proof.Machine.execHostRingStall s
  | .getEvents => Sys2Proof.Machine.execGetEvents s
  | .ackEvents seq => Sys2Proof.Machine.execAckEvents seq s
  | .incidentPageProgram => Sys2Proof.Machine.execIncidentPageProgram s
  | .evtNandRead who page readable => Sys2Proof.Machine.execEvtNandRead who page readable s
  | .enAssert => Sys2Proof.Machine.execEnAssert s
  | .powerGood => Sys2Proof.Machine.execPowerGood s
  | .enDeassert => Sys2Proof.Machine.execEnDeassert s
  | .inputLoss => Sys2Proof.Machine.execInputLoss s
  | .inputOvervoltage => Sys2Proof.Machine.execInputOvervoltage s
  | .railFault rail mv timeMs => Sys2Proof.Machine.execRailFault rail mv timeMs s
  | .railDischarged rail => Sys2Proof.Machine.execRailDischarged rail s
  | .railDischargeTimeout rail mv timeMs => Sys2Proof.Machine.execRailDischargeTimeout rail mv timeMs s
  | .emergencyStep => Sys2Proof.Machine.execEmergencyStep s
  | .powerupRetry => Sys2Proof.Machine.execPowerupRetry s
  | .inputReturn => Sys2Proof.Machine.execInputReturn s
  | .sbGetSupply vin iin vhu => Sys2Proof.Machine.execSbGetSupply vin iin vhu s
  | .sbGetRailFaults => Sys2Proof.Machine.execSbGetRailFaults s
  | .sbClearRailFaults => Sys2Proof.Machine.execSbClearRailFaults s
  | .sbRestart => Sys2Proof.Machine.execSbRestart s
  | .sbUnknownCommand code => Sys2Proof.Machine.execSbUnknownCommand code s
  | .jtagBypass => Sys2Proof.Machine.execJtagBypass s
  | .jtagIdcode => Sys2Proof.Machine.execJtagIdcode s
  | .jtagSamplePreload preload => Sys2Proof.Machine.execJtagSamplePreload preload s
  | .jtagExtest => Sys2Proof.Machine.execJtagExtest s
  | .jtagClamp => Sys2Proof.Machine.execJtagClamp s
  | .jtagHighz => Sys2Proof.Machine.execJtagHighz s
  | .jtagUnlock response => Sys2Proof.Machine.execJtagUnlock response s
  | .cmMeasurement chargeMc => Sys2Proof.Machine.execCmMeasurement chargeMc s
  | .gaugeFault => Sys2Proof.Machine.execGaugeFault s
  | .gaugeFaultClear => Sys2Proof.Machine.execGaugeFaultClear s
  | .railInRegulation rail => Sys2Proof.Machine.execRailInRegulation rail s
  | .inputInRange20ms => Sys2Proof.Machine.execInputInRange20ms s
  | .holdUpExhausted => Sys2Proof.Machine.execHoldUpExhausted s
  | .controllerRestartDone which => Sys2Proof.Machine.execControllerRestartDone which s
  | .refreshManagementRequest stack => Sys2Proof.Machine.execRefreshManagementRequest stack s
  | .irqMinExpiry vector => Sys2Proof.Machine.execIrqMinExpiry vector s
  | .hostLinkL1Change inL12 => Sys2Proof.Machine.execHostLinkL1Change inL12 s

end Sys2Proof.Machine
end

