-- ==== Sys2Proof/Machine/Step.lean ====
section
/-! DEFINITION. One step of the block (log entries 1 and 2). -/

namespace Sys2Proof.Machine

open Sys2Proof

/-- The command at the front of the queue is taken and executed with the queue's rest. On an empty queue the block idles and
one cycle of the model's clock passes (log entries 1 and 54). -/
def step (s : State) : Host.Outcome State Fault Refusal :=
  match s.pending with
  | [] => .next (idleTick s)
  | c :: rest => exec c { s with pending := rest }

/-- `s` with the command that a table word spells put at the front of its queue; no row of the table gives bits, so no word
spells one and `s` is unchanged. -/
def State.withFetchWord (s : State) (nbits w : Nat) : State :=
  match decodeTableWord nbits w with
  | some c => { s with pending := c :: s.pending }
  | none => s

end Sys2Proof.Machine
end

