-- ==== Sys2Proof/Safety.lean ====
section
/-! DEFINITION. What a safe run is: every command of the queue has its effect, the state stays in its canonical form, and nothing undoes what
the fuses hold. -/

namespace Sys2Proof.Safety

open Sys2Proof.Machine

/-- A step that answers a next state: no fault and no refusal. -/
def Completes (s : State) : Prop := ∃ t, step s = .next t

/-- The memories that the unified range, the host and the cells hold are in canonical form. -/
structure MemCanonical (m : Mem) : Prop where
  hbm : Memory.wf m.hbm = true
  frame : Memory.wf m.frame = true
  host : Memory.wf m.host = true
  cstore : Memory.wf m.cstore = true
  imem : Memory.wf m.imem = true

/-- Every memory and the register file are in canonical form: addresses strictly rise, and nothing is listed that an unlisted address reads
as. -/
structure Canonical (s : State) : Prop where
  mem : MemCanonical s.mem
  tag : Memory.wf s.nv.tag = true
  regs : mwfBy regReset s.regs = true

/-- What outlives every restart of a module: identity and factory marks stay, and the fused security counter and the count of cold starts
never fall (R37, R420, R450, R467). -/
structure FusesKept (old new : Nv) : Prop where
  blank : new.blank = old.blank
  cellFuse : new.cellFuse = old.cellFuse
  factoryBad : new.factoryBad = old.factoryBad
  svn : old.svnFuse ≤ new.svnFuse
  starts : old.starts ≤ new.starts

/-- The set of the rails of a list, as the sequencer holds it. -/
def rails (l : List Nat) : NatSet := l.map (fun r => (r, true))

/-- A control-space write of this requester is served at once: a host's in P0, while no deeper state is being entered (R376). -/
def ServedNow (s : State) (who : Requester) : Bool := who ≠ .host || s.awake

/-- The module controller answers SPDM and ward requests with their effect: it runs, and stage 1 is complete (R421, R444, R468). -/
def Answers (s : State) : Bool := s.mcUp && decide (s.rf R.MGMT_STAGE F.MGMT_STAGE_STAGE ≠ 0)

/-! ## Frames of the commands that a core's units execute -/

/-- Command `ord` of core `k` has phase `p`; the core's other commands are as they were, and of the cores nothing else changes but the unit
accounting of `k` (R67, R121). -/
def Ended (s t : State) (k ord : Nat) (p : Phase) : Prop :=
  (t.core k).issued = (s.core k).issued.map (fun e => if e.ord = ord then { e with phase := p } else e) ∧
  t.core k = { s.core k with
    issued := (t.core k).issued, busy := (t.core k).busy, busySince := (t.core k).busySince
    actBase := (t.core k).actBase, actSince := (t.core k).actSince, wantGrant := (t.core k).wantGrant } ∧
  ∀ j, j ≠ k → t.core j = s.core j

/-- Every byte of the core stores outside these ranges of core `k`'s store (offset, bytes) is as it was. -/
def StoreFrame (s t : State) (k : Nat) (l : List (Nat × Nat)) : Prop :=
  ∀ a, (∀ r, r ∈ l → a < csKey k r.1 ∨ csKey k r.1 + r.2 ≤ a) → byteAt t.mem.cstore a = byteAt s.mem.cstore a

/-- No register but the health counts of cells and wards (R149 to R156) differs. -/
def HealthOnly (s t : State) : Prop :=
  ∀ a, (∀ h i f c, a ≠ R.HALF_FH h i f c) → (∀ w f c, a ≠ R.MGMT_FH_W w f c) → t.reg a = s.reg a

end Sys2Proof.Safety
end

