-- ==== Sys2Proof/Certificates/Slice0/Obligations.lean ====
section
/-! DEFINITION. The statements for the provers (OBLIGATIONS.json). In each, `s` is any state and `t` the next state; hypotheses speak of the state
and the operands alone. -/

open Sys2Proof Sys2Proof.Machine Sys2Proof.Safety

/-- The block takes its commands first in, first out (log entry 2). -/
def Obligations.StepRunsTheFront : Prop :=
  ∀ (s : State) (c : Instr) (l : List Instr), s.pending = c :: l → step s = exec c { s with pending := l }

/-- The model's choice (log entries 1 and 54): what a step does on an empty queue while the power state stands. -/
def Obligations.StepIdles : Prop :=
  ∀ (s : State), s.pending = [] → s.mgt.entering = none → s.pstate = 0 ∨ s.pstateOk s.pstate = true → step s = .next { s with now := s.now + 1 }

/-- R85, R89, R185, R229, R416, R480: what reset leaves. That unlisted bytes read zero is the model's choice (log entry 5). -/
def Obligations.ResetLeaves : Prop :=
  (State.reset.pending = [] ∧ State.reset.rf R.MGMT_STAGE F.MGMT_STAGE_STAGE = 0 ∧ State.reset.xport.msgs = [] ∧ State.reset.mesh = []) ∧
  (∀ (k : Nat), (State.reset.core k).halted = true ∧ (State.reset.core k).pc = 0 ∧ (State.reset.core k).issued = [] ∧
    (State.reset.core k).strm0.queue = [] ∧ (State.reset.core k).strm1.queue = []) ∧
  (∀ (w : Nat), w < 8 → State.reset.wardState w = 0) ∧
  (∀ (key b : Nat), (State.reset.region key).st = 0 ∧ State.reset.blk b = none) ∧
  (∀ (k a n : Nat), State.reset.csBytes k a n = zeros n)

/-- The form of the model's memories (log entry 5). -/
def Obligations.MemoriesCanonicalAtReset : Prop :=
  Canonical State.reset

/-- Every command of the table, whatever its operands, has an effect from every state, and keeps the form of the memories, the tag and the register file (log entry 5). -/
def Obligations.StepsKeepMemoriesCanonical : Prop :=
  ∀ (s : State), Canonical s → ∃ t, step s = .next t ∧ Canonical t

/-- R37, R420, R450, R467: faults in fuses, identity and the fused counter; log entries 1 and 2 for the clock and the queue. -/
def Obligations.StepsKeepFusesAndQueue : Prop :=
  ∀ (s : State) (c : Instr) (t : State), Canonical s → exec c s = .next t → FusesKept s.nv t.nv ∧ t.pending = s.pending ∧ t.now = s.now

/-- R495, R498, R499: where an event goes, and what is counted when it is lost. -/
def Obligations.EventsTouchOnlyPaths : Prop :=
  ∀ (s : State) (e : EvRec), s.raise e = { s with evt := { s.evt with paths := (s.raise e).evt.paths }, regs := (s.raise e).regs } ∧ (∀ a,
    (∀ p, p < 3 → a ≠ R.EVT_LOSS p) → (s.raise e).reg a = s.reg a)

/-- R14: WARD_FAULT, BOUNDS, KEY_DENIED, FORMAT_INVALID, THERMAL_ABORT, ABORTED, PEER_UNREACHABLE, RETRY_EXHAUSTED, TIMEOUT, POISON, TAG_FAIL, UNSET, OK. -/
def Obligations.StatusOrder : Prop :=
  -- the order
  ([0x09, 0x05, 0x04, 0x0C, 0x0A, 0x08, 0x07, 0x0B, 0x06, 0x02, 0x03, 0x01, 0x00].Pairwise (fun a b => worst a b = a ∧ worst b a = a)) ∧
  -- the status reported is one of those found, and none ranks before it
  (∀ (l : List Nat), (∀ x ∈ l, x ≤ 12) → worstOf l ∈ 0 :: l ∧ (∀ x ∈ l, worst (worstOf l) x = worstOf l)) ∧
  -- the order in which they are found does not matter
  (∀ (l m : List Nat), (∀ x ∈ l, x ≤ 12) → l.Perm m → worstOf l = worstOf m)

/-- R22, as the functions of the address alone that every access uses. -/
def Obligations.StackMapIsOneToOne : Prop :=
  (∀ (a : Nat), a < 2 ^ 39 → homeStack a = Nat.xor (Nat.xor (a / 2 ^ 16 % 8) (a / 2 ^ 19 % 8)) (a / 2 ^ 22 % 8) ∧
    stackOff a = a / 2 ^ 19 * 2 ^ 16 + a % 2 ^ 16 ∧ homeHalf a = homeStack a / 4 ∧ homeStack a < 8 ∧ stackOff a < 2 ^ 36 ∧
    stackAddr (homeStack a) (stackOff a) = a) ∧
  (∀ (st off : Nat), st < 8 → off < 2 ^ 36 → stackAddr st off < 2 ^ 39 ∧ homeStack (stackAddr st off) = st ∧
    stackOff (stackAddr st off) = off)

/-- R156. -/
def Obligations.HealthCountersWrapAndStop : Prop :=
  (∀ (s : State) (h i f c n : Nat),
    (s.addF (R.HALF_FH h i f c) F.HALF_FH_COUNT n).reg (R.HALF_FH h i f c) = BitVec.ofNat 64 ((s.reg (R.HALF_FH h i f c)).toNat + n)) ∧
  (∀ (s : State) (w f c n : Nat),
    ((s.countWard w f c n).reg (R.MGMT_FH_W w f c)).toNat = min ((s.reg (R.MGMT_FH_W w f c)).toNat + n) 0xFFFFFFFFFFFFFFFF)

/-- R142: the codes 8 (INT8) and 9 (INT4) of R127. -/
def Obligations.IntegersAreSymmetric : Prop :=
  (∀ (mode u : Nat) (v : FVal), (roundTo 8 mode u v).1 < 256 ∧ (roundTo 8 mode u v).1 ≠ 0x80 ∧ (roundTo 9 mode u v).1 < 16 ∧
    (roundTo 9 mode u v).1 ≠ 8) ∧
  (∀ (mode u m : Nat) (neg : Bool), 127 < m → (roundTo 8 mode u (.fin neg m 0)).1 = if neg then 0x81 else 0x7F) ∧
  (∀ (mode u m : Nat) (neg : Bool), 7 < m → (roundTo 9 mode u (.fin neg m 0)).1 = if neg then 0x9 else 0x7)

/-- R59: products and sums are exact and wrap modulo 2^32. -/
def Obligations.IntegerSumsAreExact : Prop :=
  (∀ (l : List (Int × Int)), ((dotInt l : Nat) : Int) = (l.map (fun x => x.1 * x.2)).sum % 2 ^ 32) ∧
  (∀ (l m : List (Int × Int)), l.Perm m → dotInt l = dotInt m)

/-- R26, R362, R372: the host's accesses before stage 3; the status is the model's reading (log entry 21). -/
def Obligations.HostWritesNeedTheLink : Prop :=
  ∀ (s : State), s.hostUp = false → (∀ (core : Nat) (trapHalt : Bool), exec (.seqRun .host core trapHalt) s = .next (s.answer St.bounds)) ∧
    (∀ (core : Nat) (trapHalt : Bool), exec (.seqHalt .host core trapHalt) s = .next (s.answer St.bounds)) ∧ (∀ (core : Nat),
    exec (.fgResume .host core) s = .next (s.answer St.bounds)) ∧ (∀ (core : Nat),
    exec (.fgFlush .host core) s = .next (s.answer St.bounds)) ∧ (∀ (core : Nat),
    exec (.fillResume .host core) s = .next (s.answer St.bounds)) ∧ (∀ (core : Nat),
    exec (.fillFlush .host core) s = .next (s.answer St.bounds)) ∧ (∀ (core : Nat) (en : Bool),
    exec (.fillEnableWrite .host core en) s = .next (s.answer St.bounds)) ∧ (∀ (core : Nat) (ctr : Nat) (val : Nat),
    exec (.syncCtrWrite .host core ctr val) s = .next (s.answer St.bounds)) ∧ (∀ (core : Nat) (off : Nat) (val : W64),
    exec (.imemWrite .host core off val) s = .next (s.answer St.bounds)) ∧ (∀ (cell : Nat) (off : Nat) (val : W64),
    exec (.sfnTableWrite .host cell off val) s = .next (s.answer St.bounds)) ∧ (∀ (cell : Nat) (tbl : Nat) (val : W64),
    exec (.sfnTdescWrite .host cell tbl val) s = .next (s.answer St.bounds)) ∧ (∀ (half : Nat) (off : Nat) (val : W64),
    exec (.sfnBcastWrite .host half off val) s = .next (s.answer St.bounds)) ∧ (∀ (half : Nat) (ward : Nat) (val : W64),
    exec (.walkEnable .host half ward val) s = .next (s.answer St.bounds)) ∧ (∀ (half : Nat) (ward : Nat),
    exec (.walkDisable .host half ward) s = .next (s.answer St.bounds)) ∧ (∀ (half : Nat) (ward : Nat),
    exec (.walkResume .host half ward) s = .next (s.answer St.bounds)) ∧ (∀ (half : Nat) (count : Nat) (cls : Nat) (ward : Nat),
    exec (.tierOpMigrate .host half count cls ward) s = .next (s.answer St.bounds)) ∧ (∀ (half : Nat) (count : Nat) (ward : Nat),
    exec (.tierOpEvict .host half count ward) s = .next (s.answer St.bounds)) ∧ (∀ (half : Nat) (count : Nat) (ward : Nat),
    exec (.tierOpClean .host half count ward) s = .next (s.answer St.bounds)) ∧ (∀ (stack : Nat),
    exec (.unfence .host stack) s = .next (s.answer St.bounds)) ∧ (∀ (stack : Nat) (pc : Nat),
    exec (.pcRetrainStart .host stack pc) s = .next (s.answer St.bounds)) ∧ (∀ (stack : Nat) (first : Nat) (count : Nat),
    exec (.regionReset .host stack first count) s = .next (s.answer St.bounds)) ∧ (∀ (stack : Nat) (first : Nat) (count : Nat),
    exec (.regionClearNow .host stack first count) s = .next (s.answer St.bounds)) ∧ (∀ (queue : Nat) (prod : Nat),
    exec (.xportDoorbell .host queue prod) s = .next (s.answer St.bounds)) ∧ (∀ (queue : Nat) (cons : Nat),
    exec (.xportCqDoorbell .host queue cons) s = .next (s.answer St.bounds)) ∧ (∀ (queue : Nat),
    exec (.ctxCmdRead .host queue) s = .next (s.answer St.bounds)) ∧ (∀ (queue : Nat),
    exec (.ctxCmdWrite .host queue) s = .next (s.answer St.bounds)) ∧
    (∀ (ward : Nat) (permWrite : Bool) (permRead : Bool) (permAtomic : Bool),
    exec (.regionRegister .host ward permWrite permRead permAtomic) s = .next (s.answer St.bounds)) ∧ (∀ (ward : Nat),
    exec (.regionDeregister .host ward) s = .next (s.answer St.bounds)) ∧ (∀ (seq : Nat),
    exec (.collAbortWrite .host seq) s = .next (s.answer St.bounds)) ∧ (∀ (port : Nat),
    exec (.retime .host port) s = .next (s.answer St.bounds)) ∧ (exec (.txnBegin .host) s = .next (s.answer St.bounds)) ∧
    (∀ (addr : Nat) (val : W64), exec (.txnFieldWrite .host addr val) s = .next (s.answer St.bounds)) ∧ (∀ (persist : Bool),
    exec (.txnLatch .host persist) s = .next (s.answer St.bounds)) ∧ (exec (.txnRollback .host) s = .next (s.answer St.bounds)) ∧
    (∀ (len : Nat), exec (.fwInstall .host len) s = .next (s.answer St.bounds)) ∧
    (exec (.fwSwitchNext .host) s = .next (s.answer St.bounds)) ∧ (exec (.fwSwitchLive .host) s = .next (s.answer St.bounds)) ∧
    (exec (.fwConfirm .host) s = .next (s.answer St.bounds)) ∧ (∀ (len : Nat),
    exec (.fwInstallCal .host len) s = .next (s.answer St.bounds)) ∧ (∀ (addr : Nat),
    exec (.tagAccessRead .host addr) s = .next (s.answer St.bounds)) ∧ (∀ (addr : Nat),
    exec (.tagAccessWrite .host addr) s = .next (s.answer St.bounds)) ∧ (∀ (half : Nat) (epoch : Nat),
    exec (.orderTakeLead .host half epoch) s = .next (s.answer St.bounds)) ∧ (∀ (half : Nat),
    exec (.orderHandOff .host half) s = .next (s.answer St.bounds)) ∧ (∀ (page : Nat) (readable : Bool),
    exec (.evtNandRead .host page readable) s = .next (s.answer St.bounds))

/-- R30, R37, R40, R77, R446, R491: the reference, physical cells that fail, and failed sublinks. -/
def Obligations.ReferenceAndCellsComplete : Prop :=
  -- R30: the PLL holds its frequency
  (∀ s, exec (.refLockLost) s = .next ({ s with clk := { s.clk with lock := false } })) ∧
  -- R30: without lock after the holdover, what is in flight ends and the main clocks stop
  (∀ s, s.clk.lock = false → s.clk.lost = false → ∃ t, exec (.refHoldoverExpiry) s = .next t ∧ t.clk.on = false ∧ t.clk.lost = true ∧
    t = { s.abortAll with clk := { s.abortAll.clk with on := false, lost := true }, evt := t.evt, regs := t.regs }) ∧
  -- R30: lock that has returned leaves everything as it is
  (∀ s, s.clk.lock = true ∨ s.clk.lost = true → ∃ t, exec (.refHoldoverExpiry) s = .next t ∧ t = s) ∧
  -- R30: lock within the holdover
  (∀ s, s.clk.lock = false → s.clk.lost = false → ∃ t, exec (.refLockRegained) s = .next t ∧
    t = { s with clk := { s.clk with lock := true } }) ∧
  -- R30, R446: lock after it: a warm restart
  (∀ s, s.clk.lock = false → s.clk.lost = true → ∃ t, exec (.refLockRegained) s = .next t ∧ t.rf R.MGMT_STAGE F.MGMT_STAGE_WARM = 1 ∧
    t.rf R.MGMT_STAGE F.MGMT_STAGE_STAGE = 0 ∧ t.cores = [] ∧ t.mem.regions = [] ∧ t.xport = {} ∧ t.nv = s.nv ∧ t.sup = s.sup ∧
    t.pending = s.pending ∧ t.now = s.now) ∧
  -- R40: a cell that fails stops its logical cell, which becomes absent
  (∀ s (half row col k : Nat), half < 2 → row < 8 → col < 9 → s.faulty half row col = false → s.rf R.MGMT_STAGE F.MGMT_STAGE_STAGE ≠ 0 →
    s.logicalOn half row col = some k → s.absent k = false → ∃ t, exec (.cellCheckFail half row col) s = .next t ∧
    t.faulty half row col = true ∧ t.absent k = true ∧ (t.core k).halted = true ∧ t.nv = s.nv ∧ t.clk = s.clk) ∧
  -- R37: a spare that fails is only marked
  (∀ s (half row col : Nat), half < 2 → row < 8 → col < 9 → s.faulty half row col = false → s.logicalOn half row col = none → ∃ t,
    exec (.cellCheckFail half row col) s = .next t ∧ t.faulty half row col = true ∧ (∀ a, a ≠ faultReg half row → t.reg a = s.reg a) ∧
    t = { s with regs := t.regs }) ∧
  -- R77: more than 16 events within a second mark the cell faulty
  (∀ s (half row col : Nat), half < 2 → row < 8 → col < 9 → s.faulty half row col = false → s.parityRate half row col = true →
    s.logicalOn half row col = none → ∃ t, exec (.parityRateLimit half row col) s = .next t ∧ t.faulty half row col = true ∧ (∀ a,
    a ≠ faultReg half row → t.reg a = s.reg a) ∧ t = { s with regs := t.regs }) ∧
  -- R77, R40: and take its logical cell out of service
  (∀ s (half row col k : Nat), half < 2 → row < 8 → col < 9 → s.faulty half row col = false → s.parityRate half row col = true →
    s.rf R.MGMT_STAGE F.MGMT_STAGE_STAGE ≠ 0 → s.logicalOn half row col = some k → s.absent k = false → ∃ t,
    exec (.parityRateLimit half row col) s = .next t ∧ t.faulty half row col = true ∧ t.absent k = true ∧ (t.core k).halted = true ∧
    t.nv = s.nv ∧ t.clk = s.clk) ∧
  -- R77: 16 events or fewer do not
  (∀ s (half row col : Nat), s.parityRate half row col = false → ∃ t, exec (.parityRateLimit half row col) s = .next t ∧ t = s) ∧
  -- R491: a failed sublink is counted by both halves
  (∀ s (sub : Nat), nmem s.clk.sublinks sub = false → s.clk.sublinks.length < 255 → ∃ t, exec (.hingeSublinkDown sub) s = .next t ∧
    nmem t.clk.sublinks sub = true ∧ (∀ x, x ≠ sub → nmem t.clk.sublinks x = nmem s.clk.sublinks x) ∧
    t.rf (R.HALF_LEAD_COUNT 0) F.HALF_LEAD_COUNT_SUBLINKS_DOWN = t.clk.sublinks.length ∧
    t.rf (R.HALF_LEAD_COUNT 1) F.HALF_LEAD_COUNT_SUBLINKS_DOWN = t.clk.sublinks.length ∧
    t = { s with clk := { s.clk with sublinks := t.clk.sublinks }, regs := t.regs, evt := t.evt })

/-- R333, R334, R336, R337, R343, R351, R352, R356: what the MACs do with each frame. -/
def Obligations.PortFramesComplete : Prop :=
  -- nothing is received on a link that is down
  (∀ s (port sub : Nat) (f : Frame) (ok : Bool), s.linkUp port sub = false → ∃ t, exec (.portFrameRx port sub f ok) s = .next t ∧ t = s) ∧
  -- R334: a bad FCS
  (∀ s (port sub : Nat) (f : Frame), port < 16 → s.linkUp port sub = true → ∃ t, exec (.portFrameRx port sub f false) s = .next t ∧
    fld (t.reg (R.PORT_RX_COUNTER port 14)) 0 48 = (fld (s.reg (R.PORT_RX_COUNTER port 14)) 0 48 + 1) % 2 ^ 48 ∧
    t = { s with regs := t.regs, evt := t.evt }) ∧
  -- R334: shorter than 64 bytes
  (∀ s (port sub : Nat) (f : Frame), port < 16 → s.linkUp port sub = true → f.len < 64 → ∃ t, exec (.portFrameRx port sub f true) s = .next t ∧
    fld (t.reg (R.PORT_RX_COUNTER port 15)) 0 48 = (fld (s.reg (R.PORT_RX_COUNTER port 15)) 0 48 + 1) % 2 ^ 48 ∧
    t = { s with regs := t.regs, evt := t.evt }) ∧
  -- R334: longer than MAX_FRAME
  (∀ s (port sub : Nat) (f : Frame), port < 16 → s.linkUp port sub = true → 64 ≤ f.len → s.portCfg port F.PORT_CFG_MAX_FRAME < f.len → ∃ t,
    exec (.portFrameRx port sub f true) s = .next t ∧
    fld (t.reg (R.PORT_RX_COUNTER port 16)) 0 48 = (fld (s.reg (R.PORT_RX_COUNTER port 16)) 0 48 + 1) % 2 ^ 48 ∧
    t = { s with regs := t.regs, evt := t.evt }) ∧
  -- R334, R352: a Sirri frame waits in the receive buffer
  (∀ s (port sub : Nat) (f : Frame) (ip : IpHead) (pkt : Packet), port < 16 → s.linkUp port sub = true → 64 ≤ f.len →
    f.len ≤ s.portCfg port F.PORT_CFG_MAX_FRAME → s.tagOk port f = true → f.kind = .sirri ip pkt →
    ip.dstPort = s.rf R.XPORT_CFG F.XPORT_CFG_UDP_PORT → s.rxFill port + f.len ≤ 1048576 → ∃ t,
    exec (.portFrameRx port sub f true) s = .next t ∧ (t.port port).rxq = (s.port port).rxq ++ [f] ∧
    fld (t.reg (R.PORT_RX_COUNTER port 0)) 0 48 = (fld (s.reg (R.PORT_RX_COUNTER port 0)) 0 48 + f.len) % 2 ^ 48 ∧
    fld (t.reg (R.PORT_RX_COUNTER port 1)) 0 48 = (fld (s.reg (R.PORT_RX_COUNTER port 1)) 0 48 + 1) % 2 ^ 48 ∧ (∀ q, q ≠ port →
    t.port q = s.port q) ∧ t = { s with regs := t.regs, evt := t.evt, ports := t.ports, pwr := t.pwr }) ∧
  -- R334: a full buffer drops it
  (∀ s (port sub : Nat) (f : Frame) (ip : IpHead) (pkt : Packet), port < 16 → s.linkUp port sub = true → 64 ≤ f.len →
    f.len ≤ s.portCfg port F.PORT_CFG_MAX_FRAME → s.tagOk port f = true → f.kind = .sirri ip pkt →
    ip.dstPort = s.rf R.XPORT_CFG F.XPORT_CFG_UDP_PORT → 1048576 < s.rxFill port + f.len → ∃ t,
    exec (.portFrameRx port sub f true) s = .next t ∧
    fld (t.reg (R.PORT_RX_COUNTER port 20)) 0 48 = (fld (s.reg (R.PORT_RX_COUNTER port 20)) 0 48 + 1) % 2 ^ 48 ∧
    fld (t.reg (R.PORT_RX_COUNTER port 1)) 0 48 = (fld (s.reg (R.PORT_RX_COUNTER port 1)) 0 48 + 1) % 2 ^ 48 ∧
    t = { s with regs := t.regs, evt := t.evt, pwr := t.pwr }) ∧
  -- R336: a tag that the port does not take
  (∀ s (port sub : Nat) (f : Frame), port < 16 → s.linkUp port sub = true → 64 ≤ f.len → f.len ≤ s.portCfg port F.PORT_CFG_MAX_FRAME →
    s.tagOk port f = false → ∃ t, exec (.portFrameRx port sub f true) s = .next t ∧
    fld (t.reg (R.PORT_RX_COUNTER port 21)) 0 48 = (fld (s.reg (R.PORT_RX_COUNTER port 21)) 0 48 + 1) % 2 ^ 48 ∧
    fld (t.reg (R.PORT_RX_COUNTER port 1)) 0 48 = (fld (s.reg (R.PORT_RX_COUNTER port 1)) 0 48 + 1) % 2 ^ 48 ∧
    t = { s with regs := t.regs, evt := t.evt, pwr := t.pwr }) ∧
  -- R337: a kind that the port does not handle
  (∀ s (port sub : Nat) (f : Frame), port < 16 → s.linkUp port sub = true → 64 ≤ f.len → f.len ≤ s.portCfg port F.PORT_CFG_MAX_FRAME →
    s.tagOk port f = true → f.kind = .other → ∃ t, exec (.portFrameRx port sub f true) s = .next t ∧
    fld (t.reg (R.PORT_RX_COUNTER port 21)) 0 48 = (fld (s.reg (R.PORT_RX_COUNTER port 21)) 0 48 + 1) % 2 ^ 48 ∧
    fld (t.reg (R.PORT_RX_COUNTER port 1)) 0 48 = (fld (s.reg (R.PORT_RX_COUNTER port 1)) 0 48 + 1) % 2 ^ 48 ∧
    t = { s with regs := t.regs, evt := t.evt, pwr := t.pwr }) ∧
  -- R333, R352: the first frame that may go is sent
  (∀ s (port sub i : Nat) (f : TxFrame), port < 16 → s.linkUp port sub = true →
    (buffered 0 (s.port port).txq).findIdx? (s.mayGoOut port sub) = some i → (s.port port).txq[i]? = some f → ∃ t,
    exec (.portFrameTx port sub) s = .next t ∧ (t.port port).wire = some (s.sentFrame port sub f, sub) ∧ (t.port port).txq = (s.port port).txq.eraseIdx i ∧
    (t.port port).rxq = (s.port port).rxq ∧
    fld (t.reg (R.PORT_TX_COUNTER port 0)) 0 48 = (fld (s.reg (R.PORT_TX_COUNTER port 0)) 0 48 + f.frame.len) % 2 ^ 48 ∧
    fld (t.reg (R.PORT_TX_COUNTER port 1)) 0 48 = (fld (s.reg (R.PORT_TX_COUNTER port 1)) 0 48 + 1) % 2 ^ 48 ∧ (∀ q, q ≠ port →
    t.port q = s.port q) ∧ t = { s with regs := t.regs, evt := t.evt, ports := t.ports, pwr := t.pwr }) ∧
  -- R333: none may go
  (∀ s (port sub : Nat), (buffered 0 (s.port port).txq).findIdx? (s.mayGoOut port sub) = none → ∃ t,
    exec (.portFrameTx port sub) s = .next t ∧ t = s) ∧
  -- R337: a request for the own address is answered with the MAC address of the sub-port
  (∀ s (port sub : Nat) (v6 : Bool) (target peer : Nat), s.linkUp port sub = true → s.ownAddr port v6 target = true → ∃ t,
    exec (.arpNdRequest port sub v6 target peer) s = .next t ∧
    ((t.port port).txq[(s.port port).txq.length]?).map (·.bytes) = some ((leBytes 6 peer).reverse ++
    (leBytes 6 (s.macOf port sub)).reverse) ∧ (t.port port).txq.take (s.port port).txq.length = (s.port port).txq ∧ (∀ q, q ≠ port →
    t.port q = s.port q) ∧ t = { s with regs := t.regs, evt := t.evt, ports := t.ports }) ∧
  -- R337: one for another address is dropped and counted
  (∀ s (port sub : Nat) (v6 : Bool) (target peer : Nat), port < 16 → s.linkUp port sub = true → s.ownAddr port v6 target = false → ∃ t,
    exec (.arpNdRequest port sub v6 target peer) s = .next t ∧
    fld (t.reg (R.PORT_RX_COUNTER port 21)) 0 48 = (fld (s.reg (R.PORT_RX_COUNTER port 21)) 0 48 + 1) % 2 ^ 48 ∧
    t = { s with regs := t.regs, evt := t.evt }) ∧
  -- R337: an echo is answered
  (∀ s (port sub : Nat) (v6 : Bool) (target : Nat) (data : List Byte), s.linkUp port sub = true → s.ownAddr port v6 target = true →
    (s.port port).echoes < 1000 → ∃ t, exec (.icmpEcho port sub v6 target data) s = .next t ∧
    ((t.port port).txq[(s.port port).txq.length]?).map (fun f => (f.frame.kind, f.bytes)) = some (.echo, data) ∧
    (t.port port).txq.take (s.port port).txq.length = (s.port port).txq ∧ (∀ q, q ≠ port → t.port q = s.port q) ∧
    t = { s with regs := t.regs, evt := t.evt, ports := t.ports }) ∧
  -- R337: but at most 1,000 in a second
  (∀ s (port sub : Nat) (v6 : Bool) (target : Nat) (data : List Byte), s.linkUp port sub = true → s.ownAddr port v6 target = true →
    1000 ≤ (s.port port).echoes → s.now < (s.port port).echoAt + 1000000 * cyclesPerUs → ∃ t, exec (.icmpEcho port sub v6 target data) s = .next t ∧
    (t.port port).txq = (s.port port).txq ∧ (∀ q, q ≠ port → t.port q = s.port q) ∧ t = { s with ports := t.ports }) ∧
  -- R337: PAUSE is counted and ignored
  (∀ s (port sub : Nat), port < 16 → s.linkUp port sub = true → ∃ t, exec (.rxPause port sub) s = .next t ∧
    fld (t.reg (R.PORT_RX_COUNTER port 19)) 0 48 = (fld (s.reg (R.PORT_RX_COUNTER port 19)) 0 48 + 1) % 2 ^ 48 ∧
    t = { s with regs := t.regs, evt := t.evt }) ∧
  -- R343, R351: the FEC counts of a second, whose corrected symbols exceed the threshold
  (∀ s (port : Nat) (c : FecCounts), port < 16 → s.rf (R.PORT_FEC_THRESH port) F.PORT_FEC_THRESH_DEGRADE < fecSymbols c → ∃ t,
    exec (.fecDegrade port c) s = .next t ∧
    t = (s.countFec port c).raise { ev (halfCode 0x1904 (port / 8)) 1 port 4 with source2 := 0, addr := 0 }) ∧
  -- R343, R351, R356: and do not
  (∀ s (port : Nat) (c : FecCounts), port < 16 → fecSymbols c ≤ s.rf (R.PORT_FEC_THRESH port) F.PORT_FEC_THRESH_DEGRADE → ∃ t,
    exec (.fecDegrade port c) s = .next t ∧
    fld (t.reg (R.PORT_PHY_COUNTER port 0)) 0 48 = (fld (s.reg (R.PORT_PHY_COUNTER port 0)) 0 48 + c.words) % 2 ^ 48 ∧
    fld (t.reg (R.PORT_PHY_COUNTER port 3)) 0 48 = (fld (s.reg (R.PORT_PHY_COUNTER port 3)) 0 48 + fecSymbols c) % 2 ^ 48 ∧ (∀ l, l < 8 →
    fld (t.reg (R.PORT_PHY_COUNTER port (4 + l))) 0 48 =
      (fld (s.reg (R.PORT_PHY_COUNTER port (4 + l))) 0 48 + c.lanes.getD l 0) % 2 ^ 48) ∧ t = { s with regs := t.regs, evt := t.evt })

/-- R527 to R535: the events of the input, of EN and of the rails, each where it is due, change the sequencer as stated and leave the rest. -/
def Obligations.SupplyEventsComplete : Prop :=
  -- R527: EN with the input in range for its time starts power-up with rail 2
  (∀ s, s.sup.seq = .off → s.sup.inRange = true → s.sup.ready = true → s.sup.standby = true → s.sup.needOv = false →
    s.sup.bootDue = false → s.sup.retryDue = false → s.barred = false → ∃ t, exec (.enAssert) s = .next t ∧ t.sup.seq = .up ∧
    t.sup.en = true ∧ nmem t.sup.enabled 2 = true ∧ t = { s with sup := t.sup }) ∧
  -- R527, R528: the same when the input has been in range for its time
  (∀ s, s.sup.seq = .off → s.sup.en = true → s.sup.standby = true → s.sup.bootDue = false → s.sup.retryDue = false → s.barred = false →
    ∃ t, exec (.inputInRange20ms) s = .next t ∧ t.sup.seq = .up ∧ nmem t.sup.enabled 2 = true ∧ t = { s with sup := t.sup }) ∧
  -- R527: after rail 2, rails 3 and 4 together
  (∀ s, s.sup.seq = .up → s.sup.enabled = rails [2] → ∃ t, exec (.railInRegulation 2) s = .next t ∧ nmem t.sup.inReg 2 = true ∧
    t.sup.enabled = rails [2, 3, 4] ∧ t = { s with sup := t.sup }) ∧
  -- R527, R444: with every rail in regulation PWRGD asserts and the stage times start
  (∀ s, s.sup.seq = .up → allRails.all (nmem s.sup.inReg) = true → ∃ t, exec (.powerGood) s = .next t ∧ t.sup.seq = .on ∧
    t.sup.pwrgd = true ∧ t = { s with sup := t.sup, mgt := { s.mgt with stageFrom := s.now } }) ∧
  -- R533: the one retry
  (∀ s, s.sup.seq = .off → s.sup.retryDue = true → s.sup.inRange = true → s.sup.ready = true → s.sup.en = true → s.sup.standby = true →
    s.sup.needOv = false → s.sup.bootDue = false → s.barred = false → ∃ t, exec (.powerupRetry) s = .next t ∧ t.sup.seq = .up ∧
    t.sup.retried = true ∧ t.sup.retryDue = false ∧ t = { s with sup := t.sup }) ∧
  -- R529: the normal order goes on to the next rail
  (∀ s, s.sup.seq = .normal → s.sup.falling = some 11 → s.sup.enabled = rails [2, 3, 4, 5, 6, 7, 8, 9, 10] → ∃ t,
    exec (.railDischarged 11) s = .next t ∧ t.sup.falling = some 9 ∧ t.sup.enabled = rails [2, 3, 4, 5, 6, 7, 8, 10] ∧
    t.sup.seq = .normal ∧ t = { s with sup := t.sup }) ∧
  -- R531: a rail that does not discharge is recorded and the emergency order takes over
  (∀ s (mv timeMs : Nat), s.sup.seq = .normal → s.sup.falling = some 9 → ∃ t, exec (.railDischargeTimeout 9 mv timeMs) s = .next t ∧
    t.sup.seq = .emergency ∧ t.sup.pwrgd = false ∧ t.clk.on = false ∧ t.mem = s.mem ∧ t.cores = s.cores) ∧
  -- R530: a step of the emergency order disables its rails
  (∀ s, s.sup.seq = .emergency → s.sup.step = 1 → s.sup.enabled = rails [2, 3, 4, 5, 6, 7, 10] → ∃ t, exec (.emergencyStep) s = .next t ∧
    t.sup.enabled = rails [2, 3, 4, 5, 6, 10] ∧ t.sup.step = 2 ∧ t.sup.seq = .emergency ∧ t = { s with sup := t.sup }) ∧
  -- R535: the input returns and a cold start is due
  (∀ s, s.sup.standby = true → s.sup.inRange = false → ∃ t, exec (.inputReturn) s = .next t ∧ t.sup.inRange = true ∧ t.sup.bootDue = true ∧
    t = { s with sup := t.sup }) ∧
  -- R526: the hold-up store is exhausted and the standby domain turns off
  (∀ s, s.sup.inRange = false → ∃ t, exec (.holdUpExhausted) s = .next t ∧ t.sup.standby = false ∧ t.sup.seq = .off ∧ t.sup.enabled = [] ∧
    t.clk.on = false ∧ t.mem = s.mem ∧ t.nv = s.nv)

/-- R385, R512, R528: each cause of a power-down takes PWRGD away, stops the main clocks and starts its order; a trip latches. -/
def Obligations.PowerDownsComplete : Prop :=
  -- R528: EN deasserted: normal order
  (∀ s, s.sup.seq = .on → s.sup.enabled = rails allRails → ∃ t, exec (.enDeassert) s = .next t ∧ t.sup.seq = .normal ∧
    t.sup.pwrgd = false ∧ t.sup.en = false ∧ t.sup.falling = some 11 ∧ t.clk.on = false) ∧
  -- R528: input loss: emergency order
  (∀ s, s.sup.seq = .on → s.sup.standby = true → s.sup.inRange = true → ∃ t, exec (.inputLoss) s = .next t ∧ t.sup.seq = .emergency ∧
    t.sup.pwrgd = false ∧ t.sup.inRange = false ∧ t.sup.bootDue = true ∧ t.clk.on = false) ∧
  -- R512: input over-voltage: emergency order, and 1 s at or below 59 V is needed
  (∀ s, s.sup.seq = .on → ∃ t, exec (.inputOvervoltage) s = .next t ∧ t.sup.seq = .emergency ∧ t.sup.needOv = true ∧ t.clk.on = false ∧
    t.mem = s.mem ∧ t.nv = s.nv) ∧
  -- R528, R533: a rail that fails during power-up is recorded and calls for the one retry
  (∀ s (rail mv timeMs : Nat), s.sup.seq = .up → s.sup.retried = false → nmem s.sup.enabled rail = true → ∃ t,
    exec (.railFault rail mv timeMs) s = .next t ∧ t.sup.seq = .emergency ∧ t.sup.retryDue = true ∧
    t.nv.faults.getLast?.map (·.rail) = some rail) ∧
  -- R385: an over-current trip latches cause 1 and its value
  (∀ s (amps : Nat), s.sup.seq = .on → s.sup.standby = true → s.sup.trip = false → s.sup.deadbolt = false → ∃ t,
    exec (.ocpTrip amps) s = .next t ∧ t.sup.trip = true ∧ t.sup.seq = .emergency ∧ t.clk.on = false ∧
    t.rf R.PWR_TRIP F.PWR_TRIP_CAUSE = 1) ∧
  -- R385, R445: the input removed for 1 s clears trips, deadbolt and halt
  (∀ s, ∃ t, exec (.inputRemoved1s) s = .next t ∧ t.sup.trip = false ∧ t.sup.deadbolt = false ∧ t.sup.stuck = false ∧
    t.rf R.MGMT_STAGE F.MGMT_STAGE_HALTED = 0 ∧ t.sup.bootDue = true ∧ t = { s with sup := t.sup, regs := t.regs }) ∧
  -- R407: the deadbolt
  (∀ s (cause value source n : Nat), s.sup.seq = .on → s.sup.standby = true → s.sup.deadbolt = false → deadboltAt cause = some n →
    n ≤ value → ∃ t,
    exec (.deadboltTrip cause value source) s = .next t ∧ t.sup.deadbolt = true ∧ t.sup.seq = .emergency ∧ t.clk.on = false) ∧
  -- R537: a capacitance measurement sets C and the charge counter, and a disagreement ends
  (∀ s (chargeMc : Nat), 0 < chargeMc → ∃ t, exec (.cmMeasurement chargeMc) s = .next t ∧ t.nv.cm = chargeMc / 2 ∧
    t.nv.charge = chargeMc / 2 * 9 / 2 ∧ t.sup.disagree = false ∧ t.mem = s.mem ∧ t.regs = s.regs) ∧
  -- R538: the estimates disagree
  (∀ s, ∃ t, exec (.gaugeFault) s = .next t ∧ t.sup.disagree = true ∧ t = { s with sup := t.sup }) ∧
  -- R538: and agree again
  (∀ s, ∃ t, exec (.gaugeFaultClear) s = .next t ∧ t.sup.disagree = false ∧ t = { s with sup := t.sup })

/-- R517, R519, R520, R532, R522, R523, R430: the supply commands of the sideband while the standby domain and the module controller serve it, and each boundary-scan instruction. -/
def Obligations.SidebandAndJtagComplete : Prop :=
  -- R519: 11 bytes of readings
  (∀ s (vin iin vhu : Nat), s.sideband = true → ∃ t, exec (.sbGetSupply vin iin vhu) s = .next t ∧ t.resp.status = St.ok ∧
    t.resp.bytes = s.supplyBytes vin iin vhu s.bankQ ∧ t = { s with free := s.free + 2, resp := t.resp }) ∧
  -- R532: status and 8 entries of 16 bytes
  (∀ s, s.sideband = true → ∃ t, exec (.sbGetRailFaults) s = .next t ∧ t.resp.bytes = padTo 129 (leBytes 1 St.ok ++
    (s.nv.faults.map RailFault.bytes).flatten) ∧ t = { s with resp := t.resp }) ∧
  -- R520: the rail fault record is cleared
  (∀ s, s.sideband = true → ∃ t, exec (.sbClearRailFaults) s = .next t ∧ t.nv.faults = [] ∧ t.resp.status = St.ok ∧
    t = { s with resp := t.resp, nv := { s.nv with faults := [] } }) ∧
  -- R520, R528: a restart powers down in the normal order
  (∀ s, s.sideband = true → s.sup.deadbolt = false → s.sup.seq = .on → ∃ t, exec (.sbRestart) s = .next t ∧ t.sup.seq = .normal ∧
    t.sup.auto = true ∧ t.sup.trip = false ∧ t.clk.on = false ∧ t.resp.status = St.ok) ∧
  -- R520: with the deadbolt latched it answers BOUNDS
  (∀ s, s.sideband = true → s.sup.deadbolt = true → ∃ t, exec (.sbRestart) s = .next t ∧ t.resp.status = St.bounds ∧
    t = { s with resp := t.resp }) ∧
  -- R520: an unknown command answers BOUNDS
  (∀ s (code : Nat), s.sideband = true → ∃ t, exec (.sbUnknownCommand code) s = .next t ∧ t.resp.status = St.bounds ∧
    t = { s with resp := t.resp }) ∧
  -- R517: an L1.2 change
  (∀ s (l : Bool), ∃ t, exec (.hostLinkL1Change l) s = .next t ∧ t.sup.l12 = l ∧ t.evt.msix = [] ∧
    t = { s with sup := t.sup, evt := t.evt }) ∧
  (∀ s, ∃ t, exec (.jtagBypass) s = .next t ∧ t.jtag.ir = 0xFF ∧ t.mem = s.mem ∧ t.regs = s.regs) ∧
  (∀ s, ∃ t, exec (.jtagIdcode) s = .next t ∧ t.jtag.ir = 0x01 ∧ t.resp.val = 0x101286B7 ∧ t.mem = s.mem ∧ t.regs = s.regs) ∧
  (∀ s (l : List Bool), ∃ t, exec (.jtagSamplePreload l) s = .next t ∧ t.jtag = { ir := 0x02, cells := l } ∧ t.mem = s.mem ∧
    t.regs = s.regs) ∧
  (∀ s, ∃ t, exec (.jtagExtest) s = .next t ∧ t.jtag.ir = 0x00 ∧ t.mem = s.mem ∧ t.regs = s.regs) ∧
  (∀ s, ∃ t, exec (.jtagClamp) s = .next t ∧ t.jtag.ir = (if s.anyLocked = true then 0xFF else 0x05) ∧ t.mem = s.mem ∧ t.regs = s.regs) ∧
  (∀ s, ∃ t, exec (.jtagHighz) s = .next t ∧ t.jtag.ir = (if s.anyLocked = true then 0xFF else 0x06) ∧ t.mem = s.mem ∧ t.regs = s.regs) ∧
  -- R430: while no ward is LOCKED a response that verifies sets DEBUG, and one that does not changes no register
  (∀ s (response : List Byte), s.anyLocked = false → ∃ t, exec (.jtagUnlock response) s = .next t ∧
    t.rf R.SEC_STATUS F.SEC_STATUS_DEBUG = (if ecdsaVerify debugKey s.challenge response = true then
    1 else s.rf R.SEC_STATUS F.SEC_STATUS_DEBUG) ∧ t.resp.bytes = s.challenge) ∧
  -- R430: refused while a ward is LOCKED
  (∀ s (response : List Byte), s.anyLocked = true → ∃ t, exec (.jtagUnlock response) s = .next t ∧
    t.rf R.SEC_STATUS F.SEC_STATUS_DEBUG = s.rf R.SEC_STATUS F.SEC_STATUS_DEBUG ∧ t.regs = s.regs)

/-- R484, R485: what each message of the hinge protocol does to the role, the epoch and the answer of a half whose controller runs. -/
def Obligations.LeadMessagesComplete : Prop :=
  -- R485: LEAD sends LEASE with its epoch
  (∀ s (half : Nat), s.hcUp half = true → s.role half = 0 → ∃ t, exec (.leaseTx half) s = .next t ∧ mget [] t.mgt.hinge half = [(0,
    s.epoch half)] ∧ t = { s with mgt := t.mgt }) ∧
  -- a LEASE older than the epoch is refused with the newer one
  (∀ s (half epoch : Nat), s.hears half = true → epoch < s.epoch half → ∃ t, exec (.leaseRx half epoch) s = .next t ∧
    mget [] t.mgt.hinge half = [(2, s.epoch half)] ∧ t = { s with mgt := t.mgt }) ∧
  -- FOLLOW takes the epoch of a LEASE, starts its time again and acknowledges
  (∀ s (half epoch : Nat), half < 2 → epoch < 2 ^ 32 → s.hears half = true → s.role half = 1 → s.epoch half ≤ epoch → ∃ t,
    exec (.leaseRx half epoch) s = .next t ∧ t.epoch half = epoch ∧ t.role half = 1 ∧ mget 0 t.mgt.leaseAt half = s.now ∧
    mget [] t.mgt.hinge half = [(1, epoch)] ∧ t = { s with regs := t.regs, mgt := t.mgt }) ∧
  -- LEAD notes the acknowledgement of its epoch
  (∀ s (half epoch : Nat), s.hears half = true → s.role half = 0 → s.epoch half = epoch → ∃ t, exec (.leaseAckRx half epoch) s = .next t ∧
    t.rf (R.HALF_LEAD_STATUS half) F.HALF_LEAD_STATUS_NO_ACK = 0 ∧ mget 0 t.mgt.leaseAt half = s.now ∧
    t = { s with regs := t.regs, mgt := t.mgt }) ∧
  -- LEAD that hears of a higher epoch follows with it
  (∀ s (half epoch : Nat), half < 2 → epoch < 2 ^ 32 → s.hears half = true → s.role half = 0 → s.epoch half < epoch → ∃ t,
    exec (.leaseNakRx half epoch) s = .next t ∧ t.epoch half = epoch ∧ t.role half = 1) ∧
  -- HANDOFF with a higher epoch makes FOLLOW lead: ACCEPT, then LEASE
  (∀ s (half epoch : Nat), half < 2 → epoch < 2 ^ 32 → s.hears half = true → s.role half = 1 → s.epoch half < epoch → ∃ t,
    exec (.handoffRx half epoch) s = .next t ∧ t.epoch half = epoch ∧ t.role half = 0 ∧ mget [] t.mgt.hinge half = [(4, epoch), (0,
    epoch)]) ∧
  -- ACCEPT with a higher epoch makes the half that hands off follow
  (∀ s (half epoch : Nat), half < 2 → epoch < 2 ^ 32 → s.hears half = true → s.role half = 3 → s.epoch half < epoch → ∃ t,
    exec (.acceptRx half epoch) s = .next t ∧ t.epoch half = epoch ∧ t.role half = 1)

/-- R485, R486, R488, R489, R506: lapse, NO_ACK, a stalled hand-off, the two orders, the polls, and the restarts of the controllers. -/
def Obligations.LeadTimersComplete : Prop :=
  -- R485: 2.5 ms without a LEASE, or the hinge link down: SAFE
  (∀ s (half : Nat), half < 2 → s.hcUp half = true → s.role half = 1 → s.leaseOver half = true ∨ s.hinged = false → ∃ t, exec (.leaseLapse half) s = .next t ∧
    t.role half = 2 ∧ t.epoch half = s.epoch half) ∧
  -- R485: 2.5 ms without an acknowledgement: NO_ACK
  (∀ s (half : Nat), half < 2 → s.hcUp half = true → s.role half = 0 → s.rf (R.HALF_LEAD_STATUS half) F.HALF_LEAD_STATUS_NO_ACK = 0 →
    s.leaseOver half = true → ∃ t, exec (.leaseNoAck half) s = .next t ∧ t.rf (R.HALF_LEAD_STATUS half) F.HALF_LEAD_STATUS_NO_ACK = 1 ∧
    t.role half = 0 ∧ t = { s with regs := t.regs, evt := t.evt }) ∧
  -- R485: a hand-off that stalls for 1 ms is sent again
  (∀ s (half : Nat), s.hcUp half = true → s.role half = 3 → mget 0 s.mgt.roleAt half + 1800000 ≤ s.now → ∃ t, exec (.handoffStall half) s = .next t ∧ mget [] t.mgt.hinge half = [(3,
    s.epoch half + 1)] ∧ t = { s with mgt := t.mgt, regs := t.regs, evt := t.evt }) ∧
  -- R486: TAKE_LEAD with a higher epoch
  (∀ s (half epoch : Nat), half < 2 → epoch < 2 ^ 32 → s.reach .mc (R.HALF_LEAD_CTRL half) = St.ok → s.hcUp half = true → s.role half = 1 →
    s.epoch half < epoch → ∃ t, exec (.orderTakeLead .mc half epoch) s = .next t ∧ t.role half = 0 ∧ t.epoch half = epoch ∧
    mget [] t.mgt.hinge half = [(0, epoch)] ∧ t.resp.status = St.ok) ∧
  -- R486: HAND_OFF
  (∀ s (half : Nat), half < 2 → s.reach .mc (R.HALF_LEAD_CTRL half) = St.ok → s.hcUp half = true → s.role half = 0 → ∃ t,
    exec (.orderHandOff .mc half) s = .next t ∧ t.role half = 3 ∧ mget [] t.mgt.hinge half = [(3, s.epoch half + 1)] ∧
    t.resp.status = St.ok) ∧
  -- R488: a poll counts the silent controllers
  (∀ s, s.evt.mcDown = false → s.mgt.switching = [] → s.mgt.live = false → ∃ t, exec (.hcStatusPoll) s = .next t ∧ mget 0 t.mgt.silent 0 = (if s.hcUp 0 then
    0 else mget 0 s.mgt.silent 0 + 1) ∧ t = { s with mgt := t.mgt }) ∧
  -- R488: a controller that hangs is restarted
  (∀ s (half : Nat), s.evt.mcDown = false → s.hcUp half = true → s.role half ≠ 0 → ∃ t, exec (.hcHang half) s = .next t ∧
    nmem t.evt.hcDown half = true ∧ t = { s with regs := t.regs, evt := t.evt }) ∧
  -- R468: the watchdog restarts the module controller
  (∀ s, s.evt.mcDown = false → s.sup.standby = true → ∃ t, exec (.mcWatchdog) s = .next t ∧ t.evt.mcDown = true ∧ t.mem = s.mem ∧
    t.cores = s.cores) ∧
  -- R489: a half controller comes up again with epoch 0
  (∀ s (half : Nat), half < 2 → nmem s.evt.hcDown half = true → s.role half = 1 → s.evt.mcDown = false → s.mgt.switching = [] → ∃ t,
    exec (.controllerRestartDone (.halfCtl half)) s = .next t ∧ nmem t.evt.hcDown half = false ∧ t.role half = 1 ∧ t.epoch half = 0) ∧
  -- R468: the module controller serves its windows again
  (∀ s, s.evt.mcDown = true → s.mgt.switching = [] → ∃ t, exec (.controllerRestartDone .moduleCtl) s = .next t ∧ t.evt.mcDown = false ∧
    t = { s with regs := t.regs, evt := t.evt })

/-- R496 to R504: how waiting keys enter a queue, how records leave on the host ring, the sideband and the incident log. -/
def Obligations.EventPathsComplete : Prop :=
  -- R497: the oldest waiting alarm enters
  (∀ s (p : Nat) (r : EvRec) (l : List EvRec), (s.path p).alarms = r :: l → s.pathTakes p 0 = true → 0 < s.pathFree p → ∃ t,
    exec (.alarmDequeue p) s = .next t ∧ (t.path p).alarms = l ∧ (t.path p).queue.length = (s.path p).queue.length + 1 ∧
    (t.path p).seq = (s.path p).seq + 1 ∧ t = { s with evt := t.evt }) ∧
  -- R498: the oldest summary enters above the alarm reserve
  (∀ s (p : Nat) (r : EvRec) (l : List EvRec), (s.path p).sums = r :: l → s.pathTakes p 1 = true → alarmReserve p < s.pathFree p → ∃ t,
    exec (.summaryDequeue p) s = .next t ∧ (t.path p).sums = l ∧ (t.path p).queue.length = (s.path p).queue.length + 1 ∧
    t = { s with evt := t.evt }) ∧
  -- R500: a record to the host ring
  (∀ s (r : EvRec) (l : List EvRec), s.ringReady = true → s.nextRecs 0 1 = r :: l → ∃ t, exec (.hostRingWrite) s = .next t ∧
    t.rf R.EVT_HOST_PROD F.EVT_HOST_PROD_PROD = (s.rf R.EVT_HOST_PROD F.EVT_HOST_PROD_PROD + 1) % 2 ^ 32 ∧ t.evt.stalled = false ∧
    t.sup = s.sup ∧ t.cores = s.cores) ∧
  -- R500: the stall of a ring that has been full for 1 s is logged once
  (∀ s, s.rf R.EVT_CTRL F.EVT_CTRL_HOST_EN = 1 → s.ringFull = true → s.evt.stalled = false → s.evt.fullAt + 1800000000 ≤ s.now → ∃ t, exec (.hostRingStall) s = .next t ∧
    t.evt.stalled = true ∧ t = { s with evt := t.evt, regs := t.regs }) ∧
  -- R380: an interrupt that waited for the hold-off is raised
  (∀ s (v : Nat), s.evt.holdOff = [(v, true)] → ∃ t, exec (.irqMinExpiry v) s = .next t ∧ t.evt.msix = s.evt.msix ++ [v] ∧
    t.evt.holdOff = [(v, false)] ∧ t = { s with evt := t.evt }) ∧
  -- R501: GET_EVENTS answers the number of records and up to 8 of them
  (∀ s, s.sideband = true → ∃ t, exec (.getEvents) s = .next t ∧ t.resp.val = BitVec.ofNat 64 (s.path 1).queue.length ∧
    t.resp.bytes = ((s.nextRecs 1 8).map EvRec.bytes).flatten ∧ t = { s with evt := t.evt, resp := t.resp }) ∧
  -- R501: ACK_EVENTS of a record that was returned removes it
  (∀ s (n : Nat) (r : EvRec), s.sideband = true → s.evt.returned = [n] → r.seq = n → (s.path 1).queue = [r] → ∃ t,
    exec (.ackEvents n) s = .next t ∧ (t.path 1).queue = [] ∧ t.evt.returned = [] ∧ t.resp.status = St.ok ∧
    t = { s with evt := t.evt, resp := t.resp }) ∧
  -- R503: a page that is due waits without energy for it
  (∀ s, s.evt.mcDown = false → s.sup.seq = .on → (s.nextRecs 2 64).isEmpty = false → s.pageDue = true → s.pageAllowed = true →
    s.sup.disagree = true → ∃ t, exec (.incidentPageProgram) s = .next t ∧
    t.evt.deferred = true ∧ t.evt.pages = s.evt.pages ∧ t.nv = s.nv) ∧
  -- R502, R503: a page of the waiting records is programmed where the energy covers it
  (∀ s, s.evt.mcDown = false → s.sup.seq = .on → (s.nextRecs 2 64).isEmpty = false → s.pageDue = true → s.pageAllowed = true → ∃ t,
    exec (.incidentPageProgram) s = .next t ∧
    t.evt.pagePos = (if s.covers 60 false = true then (s.evt.pagePos + 1) % 131072 else s.evt.pagePos) ∧ (s.covers 60 false = true →
    t.evt.pages.getLast? = some (s.evt.pagePos, s.nv.starts, s.nextRecs 2 64)) ∧ t.mem = s.mem) ∧
  -- R504: an unreadable page answers POISON in its STATUS
  (∀ s (page : Nat), page < 2 ^ 17 → s.reach .mc R.EVT_NAND_READ = St.ok → ∃ t, exec (.evtNandRead .mc page false) s = .next t ∧
    t.rf R.EVT_NAND_READ F.EVT_NAND_READ_STATUS = St.poison ∧ t.rf R.EVT_NAND_READ F.EVT_NAND_READ_PAGE = page ∧ t.mem = s.mem)

/-- R460 to R464: what begins, stages, latches, ends and times out a transaction does, by the state and the owner. -/
def Obligations.TransactionsComplete : Prop :=
  -- R460: TXN_BEGIN opens
  (∀ s, s.reach .mc R.CFG_TXN_CTRL = St.ok → s.rf R.CFG_TXN_STATUS F.CFG_TXN_STATUS_STATE = 0 → ∃ t, exec (.txnBegin .mc) s = .next t ∧
    t.rf R.CFG_TXN_STATUS F.CFG_TXN_STATUS_STATE = 1 ∧ t.rf R.CFG_TXN_STATUS F.CFG_TXN_STATUS_OWNER = 1 ∧ t.mgt.staged = [] ∧
    t.rf R.CFG_TXN_STATUS F.CFG_TXN_STATUS_STAGED = 0 ∧ t.resp.status = St.ok ∧
    t = { s with regs := t.regs, mgt := t.mgt, resp := t.resp }) ∧
  -- R460: not while one is open
  (∀ s, s.reach .mc R.CFG_TXN_CTRL = St.ok → s.rf R.CFG_TXN_STATUS F.CFG_TXN_STATUS_STATE = 1 → ∃ t, exec (.txnBegin .mc) s = .next t ∧
    t.resp.status = St.bounds ∧ t = { s with resp := t.resp }) ∧
  -- R461: a write by the owner stages the TXN fields
  (∀ s (a : Nat) (v : W64), s.reach .mc a = St.ok → a % 8 = 0 → (txnFields a).isEmpty = false →
    s.rf R.CFG_TXN_STATUS F.CFG_TXN_STATUS_STATE = 1 → s.rf R.CFG_TXN_STATUS F.CFG_TXN_STATUS_OWNER = 1 → s.mgt.staged.length < 8192 → ∃ t,
    exec (.txnFieldWrite .mc a v) s = .next t ∧ mget 0 t.mgt.staged a = txnOnly a v ∧ t.resp.status = St.ok ∧
    t = { s with regs := t.regs, mgt := t.mgt, resp := t.resp }) ∧
  -- R461, R462: a latch without a failure is accepted
  (∀ s (persist : Bool), s.reach .mc R.CFG_TXN_CTRL = St.ok → s.rf R.CFG_TXN_STATUS F.CFG_TXN_STATUS_STATE = 1 →
    s.rf R.CFG_TXN_STATUS F.CFG_TXN_STATUS_OWNER = 1 → s.rf R.CFG_TXN_STATUS F.CFG_TXN_STATUS_OVERFLOW = 0 →
    (s.latchFails s.mgt.staged false).isEmpty = true → ∃ t, exec (.txnLatch .mc persist) s = .next t ∧
    t.rf R.CFG_TXN_STATUS F.CFG_TXN_STATUS_STATE = 2 ∧ t.mgt.accepted = some s.mgt.staged ∧ t.mgt.persist = persist ∧ t.mem = s.mem) ∧
  -- R462: a latch with a failure leaves the transaction open and names the lowest address
  (∀ s (persist : Bool), s.reach .mc R.CFG_TXN_CTRL = St.ok → s.rf R.CFG_TXN_STATUS F.CFG_TXN_STATUS_STATE = 1 →
    s.rf R.CFG_TXN_STATUS F.CFG_TXN_STATUS_OWNER = 1 → s.rf R.CFG_TXN_STATUS F.CFG_TXN_STATUS_OVERFLOW = 0 →
    (s.latchFails s.mgt.staged false).isEmpty = false → ∃ t, exec (.txnLatch .mc persist) s = .next t ∧
    t.rf R.CFG_TXN_STATUS F.CFG_TXN_STATUS_STATE = 1 ∧ t.rf R.CFG_TXN_STATUS F.CFG_TXN_STATUS_STATUS = St.bounds ∧
    t.rf R.CFG_TXN_FAIL F.CFG_TXN_FAIL_ADDR = (controlBase + lowest (s.latchFails s.mgt.staged false)) % 2 ^ 48 ∧ t.mgt = s.mgt) ∧
  -- R463: at T_L the values take effect
  (∀ s, s.mgt.accepted = some [(R.XPORT_TIMING, 0)] → s.mgt.persist = false → ∃ t, exec (.latchEffect) s = .next t ∧
    t.rf R.CFG_TXN_STATUS F.CFG_TXN_STATUS_STATE = 0 ∧ t.mgt.accepted = none ∧ t.nv = s.nv) ∧
  -- R460: TXN_ROLLBACK by the owner
  (∀ s, s.reach .mc R.CFG_TXN_CTRL = St.ok → s.rf R.CFG_TXN_STATUS F.CFG_TXN_STATUS_STATE = 1 →
    s.rf R.CFG_TXN_STATUS F.CFG_TXN_STATUS_OWNER = 1 → ∃ t, exec (.txnRollback .mc) s = .next t ∧
    t.rf R.CFG_TXN_STATUS F.CFG_TXN_STATUS_STATE = 0 ∧ t.mgt.staged = [] ∧ t.resp.status = St.ok ∧ t.mem = s.mem) ∧
  -- R460: an open transaction that is not touched times out
  (∀ s, s.rf R.CFG_TXN_STATUS F.CFG_TXN_STATUS_STATE = 1 →
    s.mgt.touched + max 1 (s.rf R.CFG_TXN_CTRL F.CFG_TXN_CTRL_TIMEOUT_S) * 1800000000 ≤ s.now → ∃ t, exec (.txnTimeout) s = .next t ∧
    t.rf R.CFG_TXN_STATUS F.CFG_TXN_STATUS_STATE = 0 ∧ t.mgt.staged = [] ∧ t = { s with regs := t.regs, mgt := t.mgt, evt := t.evt })

/-- R465 to R467: each firmware operation starts when its checks pass, and FW_OP_DONE gives it its effect. -/
def Obligations.FirmwareOpsComplete : Prop :=
  -- INSTALL
  (∀ s (len : Nat), s.reach .mc R.MGMT_FW_CTRL = St.ok → s.rf R.MGMT_FW_OPSTATUS F.MGMT_FW_OPSTATUS_BUSY = 0 →
    s.fwChk 1 len (s.rf R.MGMT_FW_ADDR F.MGMT_FW_ADDR_ADDR) = St.ok → ∃ t, exec (.fwInstall .mc len) s = .next t ∧
    t.rf R.MGMT_FW_OPSTATUS F.MGMT_FW_OPSTATUS_BUSY = 1 ∧
    t.mgt.fwOp = some { op := 1, len := len, addr := s.rf R.MGMT_FW_ADDR F.MGMT_FW_ADDR_ADDR } ∧ t.mem = s.mem ∧ t.nv = s.nv) ∧
  -- SWITCH
  (∀ s, s.reach .mc R.MGMT_FW_CTRL = St.ok → s.rf R.MGMT_FW_OPSTATUS F.MGMT_FW_OPSTATUS_BUSY = 0 →
    s.fwChk 2 0 (s.rf R.MGMT_FW_ADDR F.MGMT_FW_ADDR_ADDR) = St.ok → ∃ t, exec (.fwSwitchNext .mc) s = .next t ∧
    t.rf R.MGMT_FW_OPSTATUS F.MGMT_FW_OPSTATUS_BUSY = 1 ∧
    t.mgt.fwOp = some { op := 2, len := 0, addr := s.rf R.MGMT_FW_ADDR F.MGMT_FW_ADDR_ADDR } ∧ t.mem = s.mem ∧ t.nv = s.nv) ∧
  -- SWITCH_LIVE
  (∀ s, s.reach .mc R.MGMT_FW_CTRL = St.ok → s.rf R.MGMT_FW_OPSTATUS F.MGMT_FW_OPSTATUS_BUSY = 0 →
    s.fwChk 3 0 (s.rf R.MGMT_FW_ADDR F.MGMT_FW_ADDR_ADDR) = St.ok → s.committing = true → ∃ t, exec (.fwSwitchLive .mc) s = .next t ∧
    t.rf R.MGMT_FW_OPSTATUS F.MGMT_FW_OPSTATUS_BUSY = 1 ∧
    t.mgt.fwOp = some { op := 3, len := 0, addr := s.rf R.MGMT_FW_ADDR F.MGMT_FW_ADDR_ADDR } ∧ t.nv = s.nv) ∧
  -- CONFIRM
  (∀ s, s.reach .mc R.MGMT_FW_CTRL = St.ok → s.rf R.MGMT_FW_OPSTATUS F.MGMT_FW_OPSTATUS_BUSY = 0 →
    s.fwChk 4 0 (s.rf R.MGMT_FW_ADDR F.MGMT_FW_ADDR_ADDR) = St.ok → ∃ t, exec (.fwConfirm .mc) s = .next t ∧
    t.rf R.MGMT_FW_OPSTATUS F.MGMT_FW_OPSTATUS_BUSY = 1 ∧
    t.mgt.fwOp = some { op := 4, len := 0, addr := s.rf R.MGMT_FW_ADDR F.MGMT_FW_ADDR_ADDR } ∧ t.mem = s.mem ∧ t.nv = s.nv) ∧
  -- INSTALL_CAL
  (∀ s (len : Nat), s.reach .mc R.MGMT_FW_CTRL = St.ok → s.rf R.MGMT_FW_OPSTATUS F.MGMT_FW_OPSTATUS_BUSY = 0 →
    s.fwChk 5 len (s.rf R.MGMT_FW_ADDR F.MGMT_FW_ADDR_ADDR) = St.ok → ∃ t, exec (.fwInstallCal .mc len) s = .next t ∧
    t.rf R.MGMT_FW_OPSTATUS F.MGMT_FW_OPSTATUS_BUSY = 1 ∧
    t.mgt.fwOp = some { op := 5, len := len, addr := s.rf R.MGMT_FW_ADDR F.MGMT_FW_ADDR_ADDR } ∧ t.mem = s.mem ∧ t.nv = s.nv) ∧
  -- R467: the end of a SWITCH: the other slot is TRIAL
  (∀ s (n a : Nat), s.mcUp = true → s.mgt.fwOp = some { op := 2, len := n, addr := a } → ∃ t, exec (.fwOpDone) s = .next t ∧
    t.rf R.MGMT_FW_OPSTATUS F.MGMT_FW_OPSTATUS_BUSY = 0 ∧ t.rf R.MGMT_FW_OPSTATUS F.MGMT_FW_OPSTATUS_STATUS = St.ok ∧ t.mgt.fwOp = none ∧
    t.nv.switchDue = true ∧ t.mem = s.mem) ∧
  -- R467: the end of a CONFIRM raises the fused counter to the image
  (∀ s (n a : Nat), s.mcUp = true → s.mgt.fwOp = some { op := 4, len := n, addr := a } → ∃ t, exec (.fwOpDone) s = .next t ∧
    s.nv.svnFuse ≤ t.nv.svnFuse ∧ t.rf R.MGMT_FW_OPSTATUS F.MGMT_FW_OPSTATUS_BUSY = 0 ∧ t.mgt.fwOp = none) ∧
  -- R467: a TRIAL image that is not confirmed is left for the other slot
  (∀ s, s.mcUp = true → s.rf R.MGMT_STAGE F.MGMT_STAGE_STAGE = 4 → s.slotState s.runSlot = 2 → s.bootRec.1 = s.runSlot →
    s.slotState s.otherSlot = 1 → s.mgt.live = false →
    s.mgt.trialAt + s.rf R.MGMT_FW_STATUS F.MGMT_FW_STATUS_CONFIRM_MIN * 108000000000 ≤ s.now → ∃ t, exec (.fwConfirmTimeout) s = .next t ∧ t.mgt.fallback = none ∧
    t.nv.switchDue = true ∧ t.mem = s.mem)

/-- R472, R473: the field requests while no wired lock is held; a field request under a lock answers 0xA1. -/
def Obligations.TagFieldComplete : Prop :=
  (∀ s, s.mgt.tagLock = none → ∃ t, exec (.tagInventory) s = .next t ∧ t.resp.status = 0 ∧ t.resp.bytes = tagUid ∧
    t = { s with resp := t.resp }) ∧
  (∀ s, s.mgt.tagLock = none → ∃ t, exec (.tagGetSystemInfo) s = .next t ∧ t.resp.status = 0 ∧ t.resp.bytes = tagInfo ∧
    t = { s with resp := t.resp }) ∧
  (∀ s, s.mgt.tagLock = none → ∃ t, exec (.tagExtGetSystemInfo) s = .next t ∧ t.resp.status = 0 ∧ t.resp.bytes = tagInfo ∧
    t = { s with resp := t.resp }) ∧
  -- a block of 4 bytes
  (∀ s (block : Nat), s.mgt.tagLock = none → block < 2048 → ∃ t, exec (.tagReadSingleBlock block) s = .next t ∧ t.resp.status = 0 ∧
    t.resp.bytes = s.tagBytes (4 * block) 4 ∧ t = { s with resp := t.resp }) ∧
  -- up to 32 blocks
  (∀ s (first count : Nat), s.mgt.tagLock = none → 0 < count → count ≤ 32 → first + count ≤ 2048 → ∃ t,
    exec (.tagReadMultipleBlocks first count) s = .next t ∧ t.resp.status = 0 ∧ t.resp.bytes = s.tagBytes (4 * first) (4 * count) ∧
    t = { s with resp := t.resp }) ∧
  -- a block of the mailbox is written
  (∀ s (block : Nat) (data : List Byte), s.mgt.tagLock = none → 384 ≤ block → block < 448 → data.length = 4 → ∃ t,
    exec (.tagWriteSingleBlock block data) s = .next t ∧ t.resp.status = 0 ∧ t.mgt.mboxDue = true ∧ bytesAt t.nv.tag (4 * block) 4 = data ∧
    t.mem = s.mem) ∧
  -- any other block is not
  (∀ s (block : Nat) (data : List Byte), s.mgt.tagLock = none → block < 384 ∨ 448 ≤ block → ∃ t,
    exec (.tagWriteSingleBlock block data) s = .next t ∧ t.resp.status = 0x12 ∧ t = { s with resp := t.resp }) ∧
  (∀ s (code : Nat), s.mgt.tagLock = none → ∃ t, exec (.tagFieldUnsupported code) s = .next t ∧ t.resp.status = 0x01 ∧
    t = { s with resp := t.resp }) ∧
  -- under a wired lock
  (∀ s (m : TagMaster), s.mgt.tagLock = some m → ∃ t, exec (.tagInventory) s = .next t ∧ t.resp.status = 0xA1 ∧
    t = { s with resp := t.resp })

/-- R471, R474 to R479, R481: the wired side of the tag: accesses, lock, access registers, mailbox commands and the records of the module controller. -/
def Obligations.TagWiredComplete : Prop :=
  -- R474: a read by the rack
  (∀ s (addr len : Nat), s.mgt.tagLock = none → addr + len ≤ 0x2000 → ∃ t,
    exec (.tagWiredAccess .rack false addr len [] false) s = .next t ∧ t.resp.bytes = s.tagBytes addr len ∧ t.nv = s.nv) ∧
  -- R474: an access held by the lock for 30 ms is NAKed
  (∀ s (r : TagReq), r.master = .mc → s.mgt.tagHeld = [r] → r.since + 54000000 ≤ s.now → ∃ t, exec (.tagWiredHoldTimeout .mc) s = .next t ∧ t.mgt.tagHeld = [] ∧
    t.resp.status = St.timeout ∧ t = { s with mgt := t.mgt, resp := t.resp }) ∧
  -- R474: the lock times out after 50 ms
  (∀ s (m : TagMaster), s.mgt.tagLock = some m → s.mgt.tagHeld = [] → s.mgt.tagLockAt + 90000000 ≤ s.now → ∃ t, exec (.tagLockTimeout) s = .next t ∧ t.mgt.tagLock = none ∧
    t = { s with mgt := t.mgt }) ∧
  -- R475: a read through TAG_ACCESS starts
  (∀ s (addr : Nat), s.reach .mc R.TAG_ACCESS = St.ok → s.rf R.TAG_STATUS F.TAG_STATUS_BUSY = 0 → addr % 8 = 0 → addr + 8 ≤ 0x2000 → ∃ t,
    exec (.tagAccessRead .mc addr) s = .next t ∧ t.rf R.TAG_STATUS F.TAG_STATUS_BUSY = 1 ∧ t.mgt.tagOp = some (false, addr) ∧
    t.nv = s.nv) ∧
  -- R475: and a write where the rack may write
  (∀ s (addr : Nat), s.reach .mc R.TAG_ACCESS = St.ok → s.rf R.TAG_STATUS F.TAG_STATUS_BUSY = 0 → addr % 8 = 0 → addr + 8 ≤ 0x2000 →
    tagMayWrite .rack addr 8 = true → ∃ t, exec (.tagAccessWrite .mc addr) s = .next t ∧ t.rf R.TAG_STATUS F.TAG_STATUS_BUSY = 1 ∧
    t.mgt.tagOp = some (true, addr) ∧ t.nv = s.nv) ∧
  -- R475: a read ends with its data
  (∀ s (addr : Nat), s.mcUp = true → s.mgt.tagLock = none → s.mgt.tagOp = some (false, addr) → ∃ t,
    exec (.tagAccessDone false) s = .next t ∧ t.rf R.TAG_STATUS F.TAG_STATUS_BUSY = 0 ∧ t.rf R.TAG_STATUS F.TAG_STATUS_STATUS = St.ok ∧
    t.reg R.TAG_DATA = BitVec.ofNat 64 (leNat (s.tagBytes addr 8)) ∧ t.nv = s.nv) ∧
  -- R475: a NAK ends it with TIMEOUT
  (∀ s (wr : Bool) (addr : Nat), s.mcUp = true → s.mgt.tagOp = some (wr, addr) → ∃ t, exec (.tagAccessDone true) s = .next t ∧
    t.rf R.TAG_STATUS F.TAG_STATUS_BUSY = 0 ∧ t.rf R.TAG_STATUS F.TAG_STATUS_STATUS = St.timeout ∧ t.nv = s.nv) ∧
  -- R477: an asset note is copied
  (∀ s, s.mboxReady = true → s.mbox 0 = 1 → s.mbox 1 = 1 → ∃ t, exec (.mboxAssetNote) s = .next t ∧ t.mgt.mboxDue = false ∧ t.mbox 1 = 0 ∧
    t.mbox 2 = St.ok ∧ t.mem = s.mem) ∧
  -- R477: a service mark
  (∀ s, s.mboxReady = true → s.mbox 0 = 1 → s.mbox 1 = 2 → ∃ t, exec (.mboxServiceMark) s = .next t ∧
    t.rf R.TAG_STATUS F.TAG_STATUS_SERVICE_MARK = 1 ∧ t.mbox 1 = 0 ∧ t.mbox 2 = St.ok ∧ t.mem = s.mem) ∧
  -- R477: a reserved command answers BOUNDS
  (∀ s, s.mboxReady = true → 2 < s.mbox 1 → ∃ t, exec (.mboxInvalid) s = .next t ∧ t.mbox 1 = 0 ∧ t.mbox 2 = St.bounds ∧ t.mem = s.mem) ∧
  -- R478: the digest record after a commit
  (∀ s (x : Snap), s.newest = some x → s.mcUp = true → s.mgt.digestDue = true → s.mgt.digestAt = 0 → ∃ t,
    exec (.configDigestWrite) s = .next t ∧ t.mgt.digestDue = false ∧ t.mgt.digestAt = s.now ∧ t = { s with mgt := t.mgt, nv := t.nv }) ∧
  -- R481: a fault of the tag is an alarm
  (∀ s, s.mcUp = true → ∃ t, exec (.tagFault) s = .next t ∧ t = s.raise (ev 0x3C02 0 0 0))

/-- R444, R445, R447 to R457: cold start, stages, halts, NAND operations, patrol and commits. -/
def Obligations.NandAndStagesComplete : Prop :=
  -- R444: a cold start: what is kept is the host memory, the fuses and the count of starts
  (∀ s (b s0 s1 : Bool), s.sup.standby = false → ∃ t, exec (.standbyUp b s0 s1) s = .next t ∧ t.nv.starts = s.nv.starts + 1 ∧
    t.sup.standby = true ∧ t.mem.host = s.mem.host ∧ t.mem.hbm = [] ∧ t.cores = [] ∧ t.clk.coldStart = s.now) ∧
  -- R444: the next stage after power-good
  (∀ s (n : Nat), s.mcUp = true → s.sup.pwrgd = true → s.rf R.MGMT_STAGE F.MGMT_STAGE_HALTED = 0 → 1 < n → n ≤ 4 → n ≠ 3 →
    s.stageNow + 1 = n → s.clk.lock = true → s.clk.on = true → (n = 2 → s.sec.rngBad = false) → ∃ t, exec (.stageReached n) s = .next t ∧ t.stageNow = n) ∧
  -- R445: a stage that does not come halts the module
  (∀ s (cause : Nat), s.mcUp = true → s.rf R.MGMT_STAGE F.MGMT_STAGE_HALTED = 0 → cause = 3 → s.stageNow = 0 → ∃ t,
    exec (.stageTimeout cause) s = .next t ∧ t.rf R.MGMT_STAGE F.MGMT_STAGE_HALTED = 1 ∧ t.rf R.MGMT_STAGE F.MGMT_STAGE_CAUSE = cause ∧
    t.mem = s.mem) ∧
  -- R447: a page program that ends well
  (∀ s (b : Nat) (l : List NandOp), s.nandUp = true → s.mgt.nandOps = .page b :: l → ∃ t, exec (.nandOpDone .ok) s = .next t ∧
    t.mgt.nandOps = l ∧ t = { s with mgt := t.mgt }) ∧
  -- R450: one that fails retires its block
  (∀ s (b : Nat) (l : List NandOp), s.nandUp = true → s.mgt.nandOps = .page b :: l → ∃ t, exec (.nandOpDone .opFailed) s = .next t ∧
    nmem t.nv.retired (s.physBlock b) = true ∧ t.mem = s.mem) ∧
  -- R455: a commit that reads back well
  (∀ s (slot : Nat), s.nandUp = true → s.mgt.nandOps = [.commit slot 0] → s.mgt.commitDue = false → slot < 2 → ∃ t,
    exec (.nandOpDone .ok) s = .next t ∧ t.mgt.writing = [] ∧ t.mgt.digestDue = true ∧ t.mgt.nandOps = [] ∧ t.mem = s.mem) ∧
  -- R452: a patrol read
  (∀ s (page corrected : Nat), s.nandUp = true → s.nandFree = true → ∃ t, exec (.nandPatrol page corrected) s = .next t ∧
    mget 0 t.nv.reads (page / 64) = mget 0 s.nv.reads (page / 64) + 1 ∧ t.mem = s.mem) ∧
  -- R456: a commit that is due starts where the energy covers it, and waits where it does not
  (∀ s, s.nandUp = true → s.nandFree = true → s.mgt.boot = none → s.mgt.commitDue = true → s.committing = false →
    64 ≤ s.ringGood s.nextSlot → ∃ t, exec (.commitStart) s = .next t ∧
    t.committing = s.covers 500 false ∧ t.mgt.commitDue = !s.covers 500 false ∧ t.mem = s.mem)

/-- R382 to R393: samples, clamp, ward levels, the cap and the divider steps of a cell. -/
def Obligations.PowerGovernorCompletes : Prop :=
  -- R382: a sample adds to the input and reserve energies
  (∀ s (pin prsv : Nat), pin ≤ 2400 → s.pwr.pinLost = false → ∃ t, exec (.pInSample pin prsv) s = .next t ∧
    t.reg R.PWR_IN_ENERGY = s.reg R.PWR_IN_ENERGY + BitVec.ofNat 64 pin ∧
    t.reg R.PWR_RSV_ENERGY = s.reg R.PWR_RSV_ENERGY + BitVec.ofNat 64 prsv ∧ t = { s with regs := t.regs, pwr := t.pwr }) ∧
  -- R384: a sample above 2,400 W clamps
  (∀ s (pin prsv : Nat), 2400 < pin → s.pwr.pinLost = false → s.rf R.PWR_STATUS F.PWR_STATUS_CLAMP = 0 → ∃ t,
    exec (.pInSample pin prsv) s = .next t ∧ t.rf R.PWR_STATUS F.PWR_STATUS_CLAMP = 1 ∧ t.mem = s.mem) ∧
  -- R384: the clamp ends
  (∀ s, s.rf R.PWR_STATUS F.PWR_STATUS_CLAMP = 1 → ∃ t, exec (.clampEnd) s = .next t ∧ t.rf R.PWR_STATUS F.PWR_STATUS_CLAMP = 0 ∧
    t.pwr.before = [] ∧ t = { s with regs := t.regs, pwr := t.pwr }) ∧
  -- R406: without input samples the effective cap is 1,200 W
  (∀ s, ∃ t, exec (.pInLost) s = .next t ∧ t.pwr.pinLost = true ∧ t.rf R.PWR_STATUS F.PWR_STATUS_CAP_EFF_W = 1200 ∧
    t = { s with regs := t.regs, pwr := { s.pwr with pinLost := true }, evt := t.evt }) ∧
  -- R392: each ward takes its next level
  (∀ s (half sum n : Nat), half < 2 → s.rf R.PWR_STATUS F.PWR_STATUS_CLAMP = 0 → ∃ t, exec (.governorDecision half sum n) s = .next t ∧ (∀ w,
    w < 8 → t.wardLevel half w = s.nextLevelOf half w sum n) ∧ t = { s with regs := t.regs, pwr := t.pwr, evt := t.evt }) ∧
  -- R384, R392: a clamp holds every level
  (∀ s (half sum n : Nat), s.rf R.PWR_STATUS F.PWR_STATUS_CLAMP = 1 → ∃ t, exec (.governorDecision half sum n) s = .next t ∧
    t = { s with pwr := { s.pwr with spent := meraseRange s.pwr.spent (half * 8) 8 } }) ∧
  -- R393: below the cap nothing steps
  (∀ s (a b : Nat), a ≤ s.capEff → b ≤ s.capEff → ∃ t, exec (.capStepCheck a b) s = .next t ∧ t.pwr.capRun = false ∧
    t = { s with pwr := t.pwr }) ∧
  -- R393: above it the excess is noted once; a clamp steps nothing
  (∀ s (a b : Nat), s.capEff < a → s.rf R.PWR_STATUS F.PWR_STATUS_CLAMP = 1 → ∃ t, exec (.capStepCheck a b) s = .next t ∧
    t.pwr.capRun = true ∧ t = { s with pwr := t.pwr, regs := t.regs, evt := t.evt }) ∧
  -- R391: a slower divider comes one step at a time
  (∀ s (k : Nat), (s.cellPwr k).settle = .down → s.cellDiv k < levelDiv (s.cellLevel k) → ∃ t, exec (.supplySettled k) s = .next t ∧
    t.cellDiv k = s.cellDiv k + 1 ∧ t.cellLevel k = s.cellLevel k ∧ t = { s with regs := t.regs, pwr := t.pwr }) ∧
  -- R401: a start is granted to the cell whose turn it is
  (∀ s (core b : Nat), s.clk.on = true → s.bucketOf core = some b → s.slope = true → core < 128 → s.nextGrant b = some core →
    s.lacks b + 7200 ≤ s.rf R.PWR_SLOPE F.PWR_SLOPE_BURST * 7200 → ∃ t, exec (.startGrant core) s = .next t ∧
    (t.core core).wantGrant = false ∧ t.pwr.lastGrant = core ∧ t = { s with pwr := t.pwr, cores := t.cores }) ∧
  -- R403, R405: the counts of a µs, the leakage of the cells and the ports join the modelled energy
  (∀ s (counts : List EnergyCount) (ways : List WayCount), ∃ t, exec (.energyModelTick counts ways) s = .next t ∧ t.pwr.portBytes = [] ∧
    s.pwr.model ≤ t.pwr.model ∧ t = { s with regs := t.regs, pwr := t.pwr, evt := t.evt }) ∧
  -- R404: the correction moves by a sixteenth within its limits, from what was measured and modelled
  (∀ s (half us : Nat), s.leads half = true → 0 < s.pwr.model → 0 < s.pwr.msN → ∃ t, exec (.corrUpdate half us) s = .next t ∧
    t.rf R.PWR_STATUS F.PWR_STATUS_CORR =
      corrNext (s.rf R.PWR_STATUS F.PWR_STATUS_CORR) (s.measured * us * 2 ^ 24) (s.pwr.model * s.pwr.msN) s.freeW.toNat ∧
    t.pwr.model = 0 ∧ t.pwr.msN = 0 ∧ t = { s with free := s.free + 1, regs := t.regs, pwr := t.pwr, evt := t.evt })

/-- R395 to R399, R406: cell supplies and temperatures, droops and their steps, layer-store and coolant readings. -/
def Obligations.ThermalAndDroopComplete : Prop :=
  -- R395: the supply of a cell
  (∀ s (k mv : Nat), k < 128 → mv < 1024 → ∃ t, exec (.cellSupplySample k mv) s = .next t ∧ t.cellMv k = mv ∧
    t = { s with regs := t.regs, pwr := t.pwr, evt := t.evt }) ∧
  -- R397: a bound whose difference has calmed ends
  (∀ s (k j : Nat) (x : Bound), s.pwr.bounds = [x] → x.a = k → x.b = j → x.supply = true → distance (s.cellMv k) (s.cellMv j) ≤ 50 → ∃ t,
    exec (.neighbourHoldEnd k { other := j, supply := true }) s = .next t ∧ t.pwr.bounds = [] ∧ t = { s with regs := t.regs, pwr := t.pwr }) ∧
  -- R398: a droop to the threshold stretches the clock
  (∀ s (k mv : Nat), k < 128 → s.slope = false → s.rf R.PWR_DROOP_CTRL F.PWR_DROOP_CTRL_STRETCH_MV ≤ s.setPoint k - mv → (s.cellPwr k).stretch = false →
    ∃ t, exec (.droopDetect k mv) s = .next t ∧ (t.cellPwr k).stretch = true ∧ t.mem = s.mem ∧ t.cores = s.cores) ∧
  -- R398: it recovers
  (∀ s (k : Nat), (s.cellPwr k).stretch = true → ∃ t, exec (.droopRecover k) s = .next t ∧ (t.cellPwr k).stretch = false ∧
    t = { s with pwr := t.pwr, regs := t.regs, evt := t.evt }) ∧
  -- R398: 64 cycles without recovery end the stretch
  (∀ s (k : Nat), k < 128 → (s.cellPwr k).stretch = true → ∃ t, exec (.stretchLimit k) s = .next t ∧ (t.cellPwr k).stretch = false ∧
    t.mem = s.mem ∧ t.cores = s.cores) ∧
  -- R399: a droop step ends
  (∀ s (k : Nat), ∃ t, exec (.droopStepEnd k) s = .next t ∧ (t.cellPwr k).droop = 0 ∧ t = { s with regs := t.regs, pwr := t.pwr }) ∧
  -- R406: the temperature of a cell
  (∀ s (k c : Nat), k < 128 → c < 115 → ∃ t, exec (.cellTempReading k c) s = .next t ∧ t.cellTemp k = c ∧
    t = { s with regs := t.regs, pwr := t.pwr, evt := t.evt }) ∧
  -- R406: at or below 92 °C a cell is no longer hot
  (∀ s (k c : Nat), k < 128 → c ≤ 92 → ∃ t, exec (.cellTempReading k c) s = .next t ∧ (t.cellPwr k).hot = false ∧ (t.cellPwr k).heat = 0 ∧
    (t.cellPwr k).crit = false) ∧
  -- R406, R407: a second reading in a row of 115 °C or more sets the deadbolt
  (∀ s (k c : Nat), 115 ≤ c → (s.cellPwr k).at115 = true → s.sup.standby = true → s.sup.deadbolt = false → ∃ t,
    exec (.cellTempReading k c) s = .next t ∧ t.sup.deadbolt = true ∧ t.rf R.PWR_TRIP F.PWR_TRIP_CAUSE = 2) ∧
  -- R406: a further level for a hot cell
  (∀ s (k : Nat), k < 128 → (s.cellPwr k).hot = true → ∃ t, exec (.thermalStepTimer) s = .next t ∧
    (t.cellPwr k).heat = min 10 (s.cellLevel k + 1) ∧ t = { s with regs := t.regs, pwr := t.pwr }) ∧
  -- R406: a layer-store sensor above 100 °C
  (∀ s (half n c : Nat), n < 16 → 100 < c → c < 115 → ∃ t, exec (.lsTempReading half n c) s = .next t ∧ t.lsHot half = true ∧
    t = { s with regs := t.regs, pwr := t.pwr }) ∧
  -- R406: the coolant lowers the cap by 50 W a degree
  (∀ s (i o : Nat), i < 128 → o < 85 → s.pwr.pinLost = false → ∃ t, exec (.coolantReading i o) s = .next t ∧
    t.rf R.PWR_TEMP F.PWR_TEMP_INLET = i ∧ t.rf R.PWR_TEMP F.PWR_TEMP_OUTLET = o ∧
    t.capEff = max 1200 (s.rf R.PWR_CAP F.PWR_CAP_CAP_W - 50 * max (i - 45) (o - 70)) % 4096 ∧
    t = { s with regs := t.regs, pwr := t.pwr, evt := t.evt }) ∧
  -- R406: a cell without readings is treated as critical
  (∀ s (k : Nat), ∃ t, exec (.cellSensorLost k) s = .next t ∧ (t.cellPwr k).crit = true ∧
    t = { s with regs := t.regs, pwr := t.pwr, evt := t.evt })

/-- R245, R246, R248, R249: the thermal level of a stack after a reading, after a lost sensor, and after UNFENCE. -/
def Obligations.StackThermalCompletes : Prop :=
  -- R245: below 105 °C
  (∀ s (st c : Nat), st < 8 → c < 105 → s.thermLevel st ≠ 3 → ∃ t, exec (.hbmTempReading st c) s = .next t ∧
    t.rf (R.MEM_THERM_STATUS st) F.MEM_THERM_STATUS_TEMP = c ∧ t.rf (R.MEM_THERM_STATUS st) F.MEM_THERM_STATUS_VALID = 1 ∧
    t.thermLevel st = thermNext (s.thermLevel st) c ∧
    t.rf (R.MEM_THERM_STATUS st) F.MEM_THERM_STATUS_PEAK = max c (s.rf (R.MEM_THERM_STATUS st) F.MEM_THERM_STATUS_PEAK)) ∧
  -- R245: at 105 °C the stack is fenced
  (∀ s (st c : Nat), st < 8 → 105 ≤ c → c < 256 → s.mem.waiting = [] → s.xport.colls = [] → ∃ t, exec (.hbmTempReading st c) s = .next t ∧
    t.thermLevel st = 3 ∧ t.mem.hbm = s.mem.hbm) ∧
  -- R249: HOT unless FENCED
  (∀ s (st : Nat), st < 8 → s.thermLevel st ≠ 3 → ∃ t, exec (.hbmTempLost st) s = .next t ∧
    t.rf (R.MEM_THERM_STATUS st) F.MEM_THERM_STATUS_VALID = 0 ∧ t.thermLevel st = 2) ∧
  -- R248: UNFENCE of a cool stack
  (∀ s (who : Requester) (st : Nat), st < 8 → ServedNow s who = true → s.reach who (R.MEM_THERM_CTRL st) = St.ok → s.thermLevel st = 3 →
    s.rf (R.MEM_THERM_STATUS st) F.MEM_THERM_STATUS_VALID = 1 → s.rf (R.MEM_THERM_STATUS st) F.MEM_THERM_STATUS_TEMP ≤ 82 → ∃ t,
    exec (.unfence who st) s = .next t ∧ t.thermLevel st = 0 ∧ t.resp.status = St.ok) ∧
  -- R248: a stack that is not cool stays fenced
  (∀ s (who : Requester) (st : Nat), st < 8 → who ≠ .host → s.reach who (R.MEM_THERM_CTRL st) = St.ok → s.thermLevel st = 3 →
    92 < s.rf (R.MEM_THERM_STATUS st) F.MEM_THERM_STATUS_TEMP → ∃ t, exec (.unfence who st) s = .next t ∧ t.thermLevel st = 3 ∧
    t = { s with resp := t.resp })

/-- R418 to R423 (with the message codes of log entry 24): the requests of a connection, of the identity, of the measurements and of sessions, and their answers. -/
def Obligations.SpdmCompletes : Prop :=
  (∀ s, Answers s = true → ∃ t, exec (.spdmGetVersion) s = .next t ∧ t.sec.negotiated = false ∧ t.resp.val = 0x04 ∧
    t = { s with sec := t.sec, resp := t.resp }) ∧
  (∀ s (q : SpdmReq), Answers s = true → ∃ t, exec (.spdmGetCapabilities q) s = .next t ∧ t.resp.val = 0x61 ∧ t = { s with resp := t.resp }) ∧
  (∀ s (q : SpdmReq), Answers s = true → ∃ t, exec (.spdmNegotiateAlgorithms q) s = .next t ∧ t.sec.negotiated = true ∧ t.resp.val = 0x63 ∧
    t = { s with sec := t.sec, resp := t.resp }) ∧
  (∀ s, Answers s = true → s.sec.negotiated = true → ∃ t, exec (.spdmGetDigests) s = .next t ∧ t.resp.val = 0x01 ∧
    t = { s with resp := t.resp }) ∧
  (∀ s (off len : Nat), Answers s = true → s.sec.negotiated = true → s.isBlank = false → ∃ t,
    exec (.spdmGetCertificate 0 off len) s = .next t ∧ t.resp.val = 0x02 ∧ t = { s with resp := t.resp }) ∧
  (∀ s (q : SpdmReq), Answers s = true → s.sec.negotiated = true → s.isBlank = false → ∃ t, exec (.spdmChallenge 0 q) s = .next t ∧
    t.resp.val = 0x03 ∧ t.rnd = s.rnd + 10 ∧ t = { s with rnd := t.rnd, resp := t.resp }) ∧
  (∀ s (i : Nat) (sig raw : Bool) (q : SpdmReq), Answers s = true → s.sec.negotiated = true → (s.blocks i raw).isSome = true → ∃ t,
    exec (.spdmGetMeasurements i sig raw q) s = .next t ∧ t.resp.val = 0x60 ∧
    t.rnd = s.rnd + (if (sig && !s.isBlank) = true then 10 else 4) ∧
    t = { s with rnd := t.rnd, resp := t.resp }) ∧
  -- R421: before the algorithms are negotiated
  (∀ s, Answers s = true → s.sec.negotiated = false → ∃ t, exec (.spdmGetDigests) s = .next t ∧ t.resp.val = 0x047F ∧
    t = { s with resp := t.resp }) ∧
  (∀ s (id : Nat) (q : SpdmReq), Answers s = true → s.sec.negotiated = true → s.isBlank = false → s.sec.sessions.length < 4 →
    s.session id = none → s.rngOk = true → ∃ t, exec (.spdmKeyExchange 0 id q) s = .next t ∧ t.resp.val = 0x64 ∧
    (t.session id).map (·.finished) = some false ∧ t.sec.nextKey = s.sec.nextKey + 1 ∧
    t = { s with sec := t.sec, rnd := t.rnd, resp := t.resp }) ∧
  -- R417: without a healthy random source the request is denied
  (∀ s (id : Nat) (q : SpdmReq), Answers s = true → s.sec.negotiated = true → s.isBlank = false → s.sec.sessions.length < 4 →
    s.session id = none → s.rngOk = false → ∃ t, exec (.spdmKeyExchange 0 id q) s = .next t ∧ t.resp.status = St.keyDenied ∧
    t = { s with resp := t.resp }) ∧
  -- a fifth session
  (∀ s (id : Nat) (q : SpdmReq), Answers s = true → s.sec.negotiated = true → s.isBlank = false → 4 ≤ s.sec.sessions.length → ∃ t,
    exec (.spdmKeyExchange 0 id q) s = .next t ∧ t.resp.val = 0x0A7F ∧ t = { s with resp := t.resp }) ∧
  (∀ s (id : Nat) (x : Session), Answers s = true → s.sec.negotiated = true → s.session id = some x → ∃ t,
    exec (.spdmFinish id true) s = .next t ∧ t.resp.val = 0x65 ∧ (t.session id).map (·.finished) = some true ∧
    t = { s with sec := t.sec, resp := t.resp }) ∧
  -- a MAC that does not verify ends it
  (∀ s (id : Nat) (x : Session), Answers s = true → s.sec.negotiated = true → s.session id = some x → ∃ t,
    exec (.spdmFinish id false) s = .next t ∧ t.resp.val = 0x067F ∧ t.session id = none ∧ t = { s with sec := t.sec, resp := t.resp }) ∧
  (∀ s (id : Nat) (x : Session), Answers s = true → s.sec.negotiated = true → s.session id = some x → x.finished = true → ∃ t,
    exec (.spdmHeartbeat id) s = .next t ∧ t.resp.val = 0x68 ∧ t = { s with resp := t.resp }) ∧
  (∀ s (id op : Nat) (x : Session), Answers s = true → s.sec.negotiated = true → s.session id = some x → x.finished = true → op = 1 ∨ op = 2 →
    ∃ t, exec (.spdmKeyUpdate id op) s = .next t ∧ t.resp.val = 0x69 ∧ (t.session id).map (·.keyGen) = some (x.keyGen + 1) ∧
    t = { s with sec := t.sec, resp := t.resp }) ∧
  (∀ s (id : Nat) (x : Session), Answers s = true → s.sec.negotiated = true → s.session id = some x → ∃ t,
    exec (.spdmEndSession id) s = .next t ∧ t.resp.val = 0x6C ∧ t.session id = none ∧ t = { s with sec := t.sec, resp := t.resp })

/-- R413, R415 to R417, R424, R429, R438 to R440: the ward requests whose checks pass, and what each leaves. -/
def Obligations.WardRequestsComplete : Prop :=
  -- R416: WARD_OPEN of a FREE ward
  (∀ s (w g st co qb qc : Nat), Answers s = true → w < 8 → s.wardState w = 0 → s.taken g st co qb qc = false → qb + qc ≤ 256 →
    s.rngOk = true → ∃ t, exec (.wardOpen w g st co qb qc) s = .next t ∧ t.wardState w = 1 ∧
    t.rf (R.SEC_WARD_RES w) F.SEC_WARD_RES_GROUPS = g % 256 ∧ (t.ward w).keys = s.sec.nextKey ∧ t.resp.status = St.ok ∧ t.mem = s.mem) ∧
  -- R416: not one that is in use
  (∀ s (w g st co qb qc : Nat), Answers s = true → w < 8 → s.wardState w ≠ 0 → ∃ t, exec (.wardOpen w g st co qb qc) s = .next t ∧
    t.resp.status = St.wardFault ∧ t = { s with resp := t.resp }) ∧
  -- R415: slices to a ward
  (∀ s (b f n w : Nat), Answers s = true → w < 8 → s.sliceChk f n w = St.ok → s.mem.waiting = [] → ∃ t,
    exec (.sliceAssign b f n w) s = .next t ∧ t.resp.status = St.ok ∧ t = { s with mem := t.mem, regs := t.regs, resp := t.resp }) ∧
  -- R424: SET_POLICY locks an OPEN ward without shared unseal rings
  (∀ s (w : Nat) (key : List Byte), Answers s = true → w < 8 → 97 ≤ key.length → s.wardState w = 1 → s.isBlank = false → s.debugOn = false →
    s.uctxsOf w = [] → ∃ t, exec (.setPolicy w key) s = .next t ∧ t.wardState w = 2 ∧ (t.ward w).policy = key.take 97 ∧
    t.resp.status = St.ok ∧ t.mem = s.mem) ∧
  -- INSTALL_KEY stores the key of a blob that passes its checks, and answers their status otherwise
  (∀ s (w : Nat) (blob : List Byte), Answers s = true → w < 8 → 256 ≤ blob.length → s.wardState w = 1 → s.isBlank = false → ∃ t,
    exec (.installKey w blob) s = .next t ∧ t.resp.status = s.blobChk w blob ∧ (s.blobChk w blob = St.ok →
    mget [] t.sec.weightKeys (byteOf blob 3) = (s.openBlob w blob).getD [] ∧
    t.reg (R.SEC_KEYSLOT (byteOf blob 3)) = BitVec.ofNat 64 (w + 8)) ∧ (s.blobChk w blob ≠ St.ok → t.sec = s.sec) ∧
    t = { s with regs := t.regs, sec := t.sec, evt := t.evt, resp := t.resp }) ∧
  -- R438: LINK_KEY of an OPEN ward takes the first free entry
  (∀ s (w id peer : Nat) (pub nonce : List Byte), Answers s = true → w < 8 → 97 ≤ pub.length → 32 ≤ nonce.length → s.wardState w = 1 →
    (List.range 256).any (fun j => s.linkValid j && s.rf (R.SEC_LINK j) F.SEC_LINK_KEY_ID = id % 65536) = false → s.freeLink = some 0 →
    ∃ t, exec (.linkKey w id peer pub nonce none) s = .next t ∧ t.rf (R.SEC_LINK 0) F.SEC_LINK_KEY_ID = id % 65536 ∧
    mget [] t.sec.linkKeys 0 = s.linkKeyOf w id (peer % 65536) (pub.take 97) (nonce.take 32) ∧ t.resp.status = St.ok ∧ t.mem = s.mem) ∧
  -- an unlisted request code
  (∀ s (code w : Nat) (l : List Byte), Answers s = true → payloadLen code = none → ∃ t, exec (.wardRequestUnknown code w l) s = .next t ∧
    t.resp.status = St.bounds ∧ t = { s with resp := t.resp }) ∧
  -- R440: WARD_RELEASE
  (∀ s (w : Nat), Answers s = true → w < 8 → s.wardState w = 1 → ∃ t, exec (.wardRelease w) s = .next t ∧ (t.ward w).gating = true ∧
    t.resp.status = St.ok) ∧
  -- R440: the verified ward is FREE again
  (∀ s (w : Nat), w < 8 → s.wardState w = 4 → (s.ward w).gating = true → ∃ t, exec (.wardGateVerified w) s = .next t ∧ t.wardState w = 0 ∧
    t.ward w = {} ∧ t.reg (R.SEC_WARD_RES w) = 0) ∧
  -- R440: cells that do not verify keep it RELEASING
  (∀ s (w : Nat), w < 8 → s.wardState w = 4 → (s.ward w).gating = true → ∃ t, exec (.gateFailTimeout w []) s = .next t ∧
    t = s.wardEvent 0x0B 0 w)

/-- R417, R431 to R434: binding an unseal ring, a poll, the chunks of a job, and the health of the random source. -/
def Obligations.UnsealAndRngComplete : Prop :=
  -- R431: UNSEAL_RING of an OPEN ward binds a free context
  (∀ s (w c base lg : Nat), Answers s = true → w < 8 → c < 64 → base % 64 = 0 → base < 2 ^ 48 → 2 ≤ lg → lg ≤ 12 → s.wardState w = 1 →
    s.bound c = false → s.uringOk w base lg = true → ∃ t, exec (.unsealRing w c base lg 0 0 0 0 none) s = .next t ∧
    t.reg (R.SEC_UNS_RING c) = BitVec.ofNat 64 (base + lg * 2 ^ 48) ∧ t.uctx c = {} ∧ t.resp.status = St.ok) ∧
  -- R432: a poll of no enabled ring changes nothing
  (∀ s, s.clk.on = true → (∀ c, c < 64 → s.polled c = false) → ∃ t, exec (.unsealPoll) s = .next t ∧ t = s) ∧
  -- R432: a poll of one enabled ring takes its producer count
  (∀ s (c : Nat), s.clk.on = true → c < 64 → s.polled c = true → (∀ d, d < 64 → d ≠ c → s.polled d = false) →
    (s.devRead (s.uringBase c) 4 0 false).1.regs = s.regs → badStatus (s.devRead (s.uringBase c) 4 0 false).2.2 = false →
    leNat (s.devRead (s.uringBase c) 4 0 false).2.1 = (s.uctx c).cons → ∃ t, exec (.unsealPoll) s = .next t ∧
    t = (s.devRead (s.uringBase c) 4 0 false).1.setUctx c
      { (s.devRead (s.uringBase c) 4 0 false).1.uctx c with prod := (s.uctx c).cons }) ∧
  -- R433: a job whose ring was disabled ends ABORTED at the next chunk
  (∀ s (c : Nat) (j : UJob), s.clk.on = true → s.nextCtx = some c → (s.uctx c).job = some j → (s.uctx c).abort = true → ∃ t,
    exec (.unsealChunk) s = .next t ∧ t = (s.modSec (fun x => { x with turn := (c + 1) % 64 })).endJob c j St.aborted j.segs) ∧
  -- R433: a chunk within a segment
  (∀ s (c : Nat) (j : UJob), s.clk.on = true → s.nextCtx = some c → (s.uctx c).job = some j → (s.uctx c).abort = false →
    j.moved % segBytes ≠ 0 → ((s.modSec (fun x => { x with turn := (c + 1) % 64 })).moveChunk c j).polled c = false → ∃ t,
    exec (.unsealChunk) s = .next t ∧ t = (s.modSec (fun x => { x with turn := (c + 1) % 64 })).moveChunk c j) ∧
  -- R417: the health test fails
  (∀ s, ∃ t, exec (.rngHealthFail) s = .next t ∧ t.rf R.SEC_STATUS F.SEC_STATUS_RNG_OK = 0 ∧
    t = { s with regs := t.regs, evt := t.evt, sec := { s.sec with rngBad := true } }) ∧
  -- R417: and passes
  (∀ s, ∃ t, exec (.rngHealthPass) s = .next t ∧ t.rf R.SEC_STATUS F.SEC_STATUS_RNG_OK = 1 ∧
    t = { s with regs := t.regs, sec := { s.sec with rngBad := false } })

/-- R5, R7, R8: accesses to registers that hold values only, by a requester that the window is given to. -/
def Obligations.RegisterAccessesComplete : Prop :=
  -- R5, R8: a write of a register of the power window
  (∀ s (who : Requester) (a : Nat) (v : W64), (∀ k, who ≠ .core k) → ServedNow s who = true → s.reach who a = St.ok → a % 8 = 0 →
    windowOf a = 0x28 → hasAcc a .txn = false → ∃ t, exec (.registerWrite who a 8 v) s = .next t ∧
    t.reg a = writeFields (fieldsAt a) (s.reg a) v 0 64 ∧ (∀ b, b ≠ a → t.reg b = s.reg b) ∧ t.resp.status = St.ok ∧
    t = { s with regs := t.regs, resp := t.resp }) ∧
  -- R7: one that is not 8 bytes
  (∀ s (a n : Nat) (v : W64), s.reach .mc a = St.ok → n ≠ 8 → ∃ t, exec (.registerWrite .mc a n v) s = .next t ∧
    t.resp.status = St.bounds ∧ t = { s with resp := t.resp }) ∧
  -- R8: a read outside the CELL windows and the program memories
  (∀ s (who : Requester) (a : Nat), s.reach who a = St.ok → a % 8 = 0 → progOf a = none → windowOf a ≠ 0x08 → ∃ t,
    exec (.rcRead who a 8) s = .next t ∧ t.resp.val = s.view a ∧ t.reg a = clearRc (fieldsAt a) (s.reg a) 0 64 ∧ (∀ b, b ≠ a →
    t.reg b = s.reg b) ∧ t.resp.status = St.ok ∧ t = { s with regs := t.regs, resp := t.resp }) ∧
  -- R8, R124: a read of a CELL window
  (∀ s (who : Requester) (k off : Nat), s.reach who (0x8000000 + k * 0x20000 + off) = St.ok → k < 128 → off < 0x20000 → off % 8 = 0 →
    off ≠ 0x220 → ∃ t, exec (.rcRead who (0x8000000 + k * 0x20000 + off) 8) s = .next t ∧ t.resp.val = s.cellView k off ∧
    t.reg (0x8000000 + k * 0x20000 + off) =
      clearRc (fieldsAt (0x8000000 + k * 0x20000 + off)) (s.reg (0x8000000 + k * 0x20000 + off)) 0 64 ∧
    (∀ b, b ≠ 0x8000000 + k * 0x20000 + off → t.reg b = s.reg b) ∧ t.resp.status = St.ok ∧
    t = { s with regs := t.regs, resp := t.resp }) ∧
  -- R7: a misaligned read of the module controller
  (∀ s (a : Nat), s.reach .mc a = St.ok → a % 8 ≠ 0 → ∃ t, exec (.rcRead .mc a 8) s = .next t ∧ t.resp.status = St.bounds ∧
    t = { s with resp := t.resp })

/-- R85, R86, R113, R120, R121, R152: the control writes that start, halt and load a core. -/
def Obligations.CoreStartsAndWritesComplete : Prop :=
  -- R85, R121, R152: a halted cell starts at its PC, its elapsed time and its health page from 0
  (∀ s (who : Requester) (core : Nat) (th : Bool), s.awake = true → s.reach who (seqAddr core) = St.ok → core < 128 → s.runChk core = St.ok →
    (s.core core).halted = true → ∃ t, exec (.seqRun who core th) s = .next t ∧ (t.core core).halted = false ∧
    (t.core core).trapped = false ∧ (t.core core).pc = (s.core core).pc ∧ (t.core core).elapsedNow (t.ck core) = 0 ∧
    (t.core core).trapHalt = th ∧ t.rf (R.CELL_SEQ_CTRL core) F.CELL_SEQ_CTRL_RUN = 1 ∧ (∀ f c, f < 10 → c < 4 →
    t.reg (R.HALF_FH (core / 64) (core % 64) f c) = 0) ∧ (∀ k, k ≠ core → t.core k = s.core k) ∧ t.resp.status = St.ok ∧
    t = { s with regs := t.regs, cores := t.cores, pwr := t.pwr, resp := t.resp }) ∧
  -- an engine or sequencer of a ward
  (∀ s (who : Requester) (core : Nat) (th : Bool), s.awake = true → s.reach who (seqAddr core) = St.ok → 128 ≤ core → s.runChk core = St.ok →
    (s.core core).halted = true → ∃ t, exec (.seqRun who core th) s = .next t ∧ (t.core core).halted = false ∧
    (t.core core).pc = (s.core core).pc ∧ (t.core core).trapHalt = th ∧ t.resp.status = St.ok ∧
    t = { s with cores := t.cores, resp := t.resp }) ∧
  -- R413: one of no ward does not start
  (∀ s (who : Requester) (core : Nat) (th : Bool), who ≠ .host → s.reach who (seqAddr core) = St.ok → 128 ≤ core →
    s.wardOfCore core = none → ∃ t, exec (.seqRun who core th) s = .next t ∧ t.resp.status = St.wardFault ∧
    t = { s with resp := t.resp }) ∧
  -- R86: a cell halts; its PC stays
  (∀ s (who : Requester) (core : Nat) (th : Bool), ServedNow s who = true → s.reach who (seqAddr core) = St.ok → core < 128 → ∃ t,
    exec (.seqHalt who core th) s = .next t ∧ (t.core core).halted = true ∧ (t.core core).stall = .none ∧
    (t.core core).pc = (s.core core).pc ∧ (t.core core).issued = (s.core core).issued ∧
    t.rf (R.CELL_SEQ_CTRL core) F.CELL_SEQ_CTRL_RUN = 0 ∧ (∀ a, a ≠ R.CELL_SEQ_CTRL core → t.reg a = s.reg a) ∧ (∀ k, k ≠ core →
    t.core k = s.core k) ∧ t.resp.status = St.ok ∧ t = { s with regs := t.regs, cores := t.cores, resp := t.resp }) ∧
  -- R113: a counter
  (∀ s (who : Requester) (core ctr val : Nat), ServedNow s who = true → s.reach who (ctrAddr core ctr) = St.ok → ∃ t,
    exec (.syncCtrWrite who core ctr val) s = .next t ∧ t.ctr core ctr = val % 65536 ∧ (∀ n, n ≠ ctr → t.ctr core n = s.ctr core n) ∧ (∀ k,
    k ≠ core → t.core k = s.core k) ∧ t.resp.status = St.ok ∧ t = { s with cores := t.cores, resp := t.resp }) ∧
  -- R120: 8 bytes of the instruction memory of a halted core
  (∀ s (who : Requester) (core off : Nat) (val : W64), ServedNow s who = true → s.reach who (imemAddr core off) = St.ok → off % 8 = 0 →
    off + 8 ≤ imemSize core → (s.core core).halted = true → s.lockRefuses who core = false → ∃ t,
    exec (.imemWrite who core off val) s = .next t ∧ bytesAt t.mem.imem (core * 65536 + off) 8 = leBytes 8 val.toNat ∧ (∀ a,
    (a < core * 65536 + off ∨ core * 65536 + off + 8 ≤ a) → byteAt t.mem.imem a = byteAt s.mem.imem a) ∧ t.resp.status = St.ok ∧
    t = { s with mem := { s.mem with imem := t.mem.imem }, resp := t.resp }) ∧
  -- R120: not while it runs
  (∀ s (who : Requester) (core off : Nat) (val : W64), who ≠ .host → s.reach who (imemAddr core off) = St.ok → off % 8 = 0 →
    off + 8 ≤ imemSize core → (s.core core).halted = false → s.lockRefuses who core = false → ∃ t,
    exec (.imemWrite who core off val) s = .next t ∧ t.resp.status = St.bounds ∧ t = { s with resp := t.resp })

/-- R95, R96: RESUME and FLUSH of the two streams of a cell, and FILL_ENABLE. -/
def Obligations.StreamControlsComplete : Prop :=
  -- R96: a STOPPED stream 0 goes on with its queue
  (∀ s (who : Requester) (core : Nat), ServedNow s who = true → s.reach who (R.CELL_STREAM_CTRL core) = St.ok → core < 128 →
    ((s.core core).stream 0).state = .stopped → ∃ t, exec (.fgResume who core) s = .next t ∧ ((t.core core).stream 0).state = .run ∧
    ((t.core core).stream 0).fault = 0 ∧ ((t.core core).stream 0).queue = ((s.core core).stream 0).queue ∧
    (t.core core).stream 1 = (s.core core).stream 1 ∧ (t.core core).issued = (s.core core).issued ∧ (∀ k, k ≠ core → t.core k = s.core k) ∧
    t.resp.status = St.ok ∧ t = { s with cores := t.cores, resp := t.resp }) ∧
  -- R96: a STOPPED stream 1 goes on with its queue
  (∀ s (who : Requester) (core : Nat), ServedNow s who = true → s.reach who (R.CELL_STREAM_CTRL core) = St.ok → core < 128 →
    ((s.core core).stream 1).state = .stopped → ∃ t, exec (.fillResume who core) s = .next t ∧ ((t.core core).stream 1).state = .run ∧
    ((t.core core).stream 1).fault = 0 ∧ ((t.core core).stream 1).queue = ((s.core core).stream 1).queue ∧
    (t.core core).stream 0 = (s.core core).stream 0 ∧ (t.core core).issued = (s.core core).issued ∧ (∀ k, k ≠ core → t.core k = s.core k) ∧
    t.resp.status = St.ok ∧ t = { s with cores := t.cores, resp := t.resp }) ∧
  -- R96: the queue of stream 0 is emptied; with nothing of it issued it is in RUN at once, its numbers from 0
  (∀ s (who : Requester) (core : Nat), ServedNow s who = true → s.reach who (R.CELL_STREAM_CTRL core) = St.ok → core < 128 →
    ((s.core core).stream 0).state ≠ .flushing → ∃ t, exec (.fgFlush who core) s = .next t ∧ ((t.core core).stream 0).queue = [] ∧
    ((t.core core).stream 0).state = (if (s.core core).issued.any (fun e => e.strm = 0) then .flushing else .run) ∧
    (t.core core).stream 1 = (s.core core).stream 1 ∧ (t.core core).issued = (s.core core).issued ∧ (∀ k, k ≠ core → t.core k = s.core k) ∧
    t.resp.status = St.ok ∧ t = { s with cores := t.cores, resp := t.resp }) ∧
  -- R96: the queue of stream 1 is emptied; with nothing of it issued it is in RUN at once, its numbers from 0
  (∀ s (who : Requester) (core : Nat), ServedNow s who = true → s.reach who (R.CELL_STREAM_CTRL core) = St.ok → core < 128 →
    ((s.core core).stream 1).state ≠ .flushing → ∃ t, exec (.fillFlush who core) s = .next t ∧ ((t.core core).stream 1).queue = [] ∧
    ((t.core core).stream 1).state = (if (s.core core).issued.any (fun e => e.strm = 1) then .flushing else .run) ∧
    (t.core core).stream 0 = (s.core core).stream 0 ∧ (t.core core).issued = (s.core core).issued ∧ (∀ k, k ≠ core → t.core k = s.core k) ∧
    t.resp.status = St.ok ∧ t = { s with cores := t.cores, resp := t.resp }) ∧
  -- R96: a flushing stream is not flushed again
  (∀ s (who : Requester) (core : Nat), ServedNow s who = true → s.reach who (R.CELL_STREAM_CTRL core) = St.ok → core < 128 →
    ((s.core core).stream 0).state = .flushing → ∃ t, exec (.fgFlush who core) s = .next t ∧ t.core core = s.core core ∧
    t.resp.status = St.ok ∧ t = { s with cores := t.cores, resp := t.resp }) ∧
  -- R95
  (∀ s (who : Requester) (core : Nat) (en : Bool), ServedNow s who = true → s.reach who (R.CELL_STREAM_CTRL core) = St.ok → core < 128 → ∃ t,
    exec (.fillEnableWrite who core en) s = .next t ∧ t.core core = { s.core core with fillEnable := en } ∧ (∀ k, k ≠ core →
    t.core k = s.core k) ∧ t.resp.status = St.ok ∧ t = { s with cores := t.cores, resp := t.resp })

/-- R170 to R173: writes to the user tables, by a requester other than the host that reaches them. -/
def Obligations.SfnTablesComplete : Prop :=
  -- a register of the page that is no descriptor, of a table that is not valid, takes what is written
  (∀ s (who : Requester) (cell off : Nat) (v : W64), ServedNow s who = true → s.reach who (sfnPage cell + off) = St.ok → off % 8 = 0 → off < 0x10000 →
    isTdesc off = false → (∀ t, tableOf off = some t → s.tableValid cell t = false) → ∃ t, exec (.sfnTableWrite who cell off v) s = .next t ∧
    t.reg (sfnPage cell + off) = writeFields (fieldsAt (sfnPage cell + off)) (s.reg (sfnPage cell + off)) v 0 64 ∧ (∀ a,
    a ≠ sfnPage cell + off → t.reg a = s.reg a) ∧ t.resp.status = St.ok ∧ t = { s with regs := t.regs, resp := t.resp }) ∧
  -- R171: a coefficient or a constant of a valid table is refused
  (∀ s (who : Requester) (cell off tbl : Nat) (v : W64), who ≠ .host → s.reach who (sfnPage cell + off) = St.ok → off < 0x10000 →
    isTdesc off = false → tableOf off = some tbl → (off < 0x4000 ∨ off % 0x40 < 0x20) → s.tableValid cell tbl = true → ∃ t,
    exec (.sfnTableWrite who cell off v) s = .next t ∧ t.resp.status = St.bounds ∧ t = { s with resp := t.resp }) ∧
  -- the descriptor of a table that is not valid takes what is written, with VALID unless a field of it is reserved
  (∀ s (who : Requester) (cell tbl : Nat) (v : W64), ServedNow s who = true → s.reach who (sfnPage cell + (0x8000 + 0x40 * tbl)) = St.ok → tbl < 4 →
    s.tableValid cell tbl = false → (bitAt v.toNat 32 && tdescReserved v) = false → ∃ t,
    exec (.sfnTdescWrite who cell tbl v) s = .next t ∧
    t.reg (sfnPage cell + (0x8000 + 0x40 * tbl)) = writeFields (fieldsAt (sfnPage cell + (0x8000 + 0x40 * tbl))) (s.reg (sfnPage cell + (0x8000 + 0x40 * tbl))) v 0 64 ∧
    (∀ a, a ≠ sfnPage cell + (0x8000 + 0x40 * tbl) → t.reg a = s.reg a) ∧ t.resp.status = St.ok ∧
    t = { s with regs := t.regs, resp := t.resp }) ∧
  -- R171: VALID over a reserved value is refused
  (∀ s (who : Requester) (cell tbl : Nat) (v : W64), who ≠ .host → s.reach who (sfnPage cell + (0x8000 + 0x40 * tbl)) = St.ok → tbl < 4 →
    s.tableValid cell tbl = false → bitAt v.toNat 32 = true → tdescReserved v = true → ∃ t,
    exec (.sfnTdescWrite who cell tbl v) s = .next t ∧ t.resp.status = St.bounds ∧ t = { s with resp := t.resp }) ∧
  -- R171: another field of a valid descriptor is not changed
  (∀ s (who : Requester) (cell tbl : Nat) (v : W64), who ≠ .host → s.reach who (sfnPage cell + (0x8000 + 0x40 * tbl)) = St.ok → tbl < 4 →
    s.tableValid cell tbl = true → tdescFields v ≠ tdescFields (s.tdesc cell tbl) → ∃ t,
    exec (.sfnTdescWrite who cell tbl v) s = .next t ∧ t.resp.status = St.bounds ∧ t = { s with resp := t.resp }) ∧
  -- R171: VALID is cleared at once where no issued SFN names the table
  (∀ s (who : Requester) (cell tbl : Nat) (v : W64), ServedNow s who = true → s.reach who (sfnPage cell + (0x8000 + 0x40 * tbl)) = St.ok → tbl < 4 →
    s.tableValid cell tbl = true → tdescFields v = tdescFields (s.tdesc cell tbl) → bitAt v.toNat 32 = false → s.sfnNames cell tbl = false →
    ∃ t, exec (.sfnTdescWrite who cell tbl v) s = .next t ∧
    t.reg (sfnPage cell + (0x8000 + 0x40 * tbl)) = writeFields (fieldsAt (sfnPage cell + (0x8000 + 0x40 * tbl))) (s.reg (sfnPage cell + (0x8000 + 0x40 * tbl))) v 0 64 ∧
    (∀ a, a ≠ sfnPage cell + (0x8000 + 0x40 * tbl) → t.reg a = s.reg a) ∧ t.resp.status = St.ok ∧
    t = { s with regs := t.regs, resp := t.resp }) ∧
  -- R171: else the write waits: nothing is written and nothing is answered
  (∀ s (who : Requester) (cell tbl : Nat) (v : W64), ServedNow s who = true → s.reach who (sfnPage cell + (0x8000 + 0x40 * tbl)) = St.ok → tbl < 4 →
    s.tableValid cell tbl = true → tdescFields v = tdescFields (s.tdesc cell tbl) → bitAt v.toNat 32 = false → s.sfnNames cell tbl = true →
    ∃ t, exec (.sfnTdescWrite who cell tbl v) s = .next t ∧
    t.mgt.sfnClear = s.mgt.sfnClear ++ [{ cell := cell, tbl := tbl, who := who, off := sfnPage cell + (0x8000 + 0x40 * tbl), val := v }] ∧
    t = { s with mgt := { s.mgt with sfnClear := t.mgt.sfnClear } }) ∧
  -- R171: the write that waited completes when no issued SFN names the table
  (∀ s (cell tbl : Nat) (w : SfnClear), s.clk.on = true → s.mgt.sfnClear = [w] → w.cell = cell → w.tbl = tbl → s.sfnNames cell tbl = false → ∃ t,
    exec (.sfnValidClearDone cell tbl) s = .next t ∧
    t.reg (R.HALF_SFN_TDESC (cell / 64) (cell % 64) tbl) = writeFields (fieldsAt (R.HALF_SFN_TDESC (cell / 64) (cell % 64) tbl))
      (s.reg (R.HALF_SFN_TDESC (cell / 64) (cell % 64) tbl)) w.val 0 64 ∧
    t.mgt.sfnClear = [] ∧ (∀ a, a ≠ R.HALF_SFN_TDESC (cell / 64) (cell % 64) tbl → t.reg a = s.reg a) ∧ t.resp.status = St.ok ∧
    t = { s with regs := t.regs, resp := t.resp, mgt := { s.mgt with sfnClear := t.mgt.sfnClear } }) ∧
  -- and waits on while one does
  (∀ s (cell tbl : Nat), s.sfnNames cell tbl = true → exec (.sfnValidClearDone cell tbl) s = .next s) ∧
  -- R173: a broadcast with an absent cell or a valid table in its mask writes none
  (∀ s (who : Requester) (half off : Nat) (v : W64), who ≠ .host → s.reach who (bcastPage half + off) = St.ok → off < 0x4000 →
    off % 8 = 0 → (s.bcastCells half).any (fun k => s.absent k || s.tableValid k (off / 0x1000)) = true → ∃ t,
    exec (.sfnBcastWrite who half off v) s = .next t ∧ t.resp.status = St.bounds ∧ t = { s with resp := t.resp }) ∧
  -- R173: a coefficient for every cell of the mask
  (∀ s (who : Requester) (half off : Nat) (v : W64), ServedNow s who = true → s.reach who (bcastPage half + off) = St.ok → half < 2 → off % 8 = 0 →
    off < 0x4000 → (s.bcastCells half).all (fun k => !s.absent k && !s.tableValid k (off / 0x1000)) = true → ∃ t,
    exec (.sfnBcastWrite who half off v) s = .next t ∧ (∀ k, k ∈ s.bcastCells half →
    t.reg (sfnPage k + off) = writeFields (fieldsAt (sfnPage k + off)) (s.reg (sfnPage k + off)) v 0 64) ∧ (∀ a, (∀ k,
    k ∈ s.bcastCells half → a ≠ sfnPage k + off) → t.reg a = s.reg a) ∧ t.resp.status = St.ok ∧
    t = { s with regs := t.regs, resp := t.resp }) ∧
  -- R173: the mask itself
  (∀ s (who : Requester) (half : Nat) (v : W64), ServedNow s who = true → s.reach who (bcastPage half + 0xF000) = St.ok → half < 2 → ∃ t,
    exec (.sfnBcastWrite who half 0xF000 v) s = .next t ∧ t.reg (R.HALF_SFN_BCAST_MASK half) = v ∧ (∀ a, a ≠ R.HALF_SFN_BCAST_MASK half →
    t.reg a = s.reg a) ∧ t.resp.status = St.ok ∧ t = { s with regs := t.regs, resp := t.resp })

/-- R82 (the base instructions as the RISC-V standard has them, log entry 14), R83: register, memory and control-flow forms of a ready core. -/
def Obligations.RvInstructionsComplete : Prop :=
  -- register with immediate
  (∀ s (core len raw : Nat) (errs : List (Nat × Bool)) (f3 rd rs1 : Nat) (alt : Bool) (imm : W32), s.rvReady core = true →
    s.rvFetch core = .ok (.opImm f3 rd rs1 alt imm, len, raw) → ∃ t, exec (.rvInstruction core errs) s = .next t ∧
    (t.core core).rx rd = (if rd = 0 then 0 else alu f3 alt ((s.core core).rx rs1) imm) ∧ (∀ i, i ≠ rd →
    (t.core core).rx i = (s.core core).rx i) ∧
    t.core core = { s.core core with x := (t.core core).x, pc := ((s.core core).pc + len) % 2 ^ 32, minstret := ((s.core core).minstret + 1) % 2 ^ 64 } ∧
    (∀ k, k ≠ core → t.core k = s.core k) ∧ t = { s with cores := t.cores }) ∧
  -- two registers
  (∀ s (core len raw : Nat) (errs : List (Nat × Bool)) (f3 rd rs1 rs2 : Nat) (alt : Bool), s.rvReady core = true →
    s.rvFetch core = .ok (.op f3 rd rs1 rs2 alt, len, raw) → ∃ t, exec (.rvInstruction core errs) s = .next t ∧
    (t.core core).rx rd = (if rd = 0 then 0 else alu f3 alt ((s.core core).rx rs1) ((s.core core).rx rs2)) ∧ (∀ i, i ≠ rd →
    (t.core core).rx i = (s.core core).rx i) ∧
    t.core core = { s.core core with x := (t.core core).x, pc := ((s.core core).pc + len) % 2 ^ 32, minstret := ((s.core core).minstret + 1) % 2 ^ 64 } ∧
    (∀ k, k ≠ core → t.core k = s.core k) ∧ t = { s with cores := t.cores }) ∧
  -- multiply and divide
  (∀ s (core len raw : Nat) (errs : List (Nat × Bool)) (f3 rd rs1 rs2 : Nat), s.rvReady core = true →
    s.rvFetch core = .ok (.mul f3 rd rs1 rs2, len, raw) → ∃ t, exec (.rvInstruction core errs) s = .next t ∧
    (t.core core).rx rd = (if rd = 0 then 0 else muldiv f3 ((s.core core).rx rs1) ((s.core core).rx rs2)) ∧ (∀ i, i ≠ rd →
    (t.core core).rx i = (s.core core).rx i) ∧
    t.core core = { s.core core with x := (t.core core).x, pc := ((s.core core).pc + len) % 2 ^ 32, minstret := ((s.core core).minstret + 1) % 2 ^ 64 } ∧
    (∀ k, k ≠ core → t.core k = s.core k) ∧ t = { s with cores := t.cores }) ∧
  -- LUI
  (∀ s (core len raw : Nat) (errs : List (Nat × Bool)) (rd : Nat) (imm : W32), s.rvReady core = true → s.rvFetch core = .ok (.lui rd imm,
    len, raw) → ∃ t, exec (.rvInstruction core errs) s = .next t ∧ (t.core core).rx rd = (if rd = 0 then 0 else imm) ∧ (∀ i, i ≠ rd →
    (t.core core).rx i = (s.core core).rx i) ∧
    t.core core = { s.core core with x := (t.core core).x, pc := ((s.core core).pc + len) % 2 ^ 32, minstret := ((s.core core).minstret + 1) % 2 ^ 64 } ∧
    (∀ k, k ≠ core → t.core k = s.core k) ∧ t = { s with cores := t.cores }) ∧
  -- AUIPC
  (∀ s (core len raw : Nat) (errs : List (Nat × Bool)) (rd : Nat) (imm : W32), s.rvReady core = true → s.rvFetch core = .ok (.auipc rd imm,
    len, raw) → ∃ t, exec (.rvInstruction core errs) s = .next t ∧ (t.core core).rx rd = (if rd = 0 then
    0 else BitVec.ofNat 32 (s.core core).pc + imm) ∧ (∀ i, i ≠ rd → (t.core core).rx i = (s.core core).rx i) ∧
    t.core core = { s.core core with x := (t.core core).x, pc := ((s.core core).pc + len) % 2 ^ 32, minstret := ((s.core core).minstret + 1) % 2 ^ 64 } ∧
    (∀ k, k ≠ core → t.core k = s.core k) ∧ t = { s with cores := t.cores }) ∧
  -- JAL
  (∀ s (core len raw : Nat) (errs : List (Nat × Bool)) (rd : Nat) (off : W32), s.rvReady core = true → s.rvFetch core = .ok (.jal rd off,
    len, raw) → ∃ t, exec (.rvInstruction core errs) s = .next t ∧ (t.core core).rx rd = (if rd = 0 then
    0 else BitVec.ofNat 32 ((s.core core).pc + len)) ∧ (∀ i, i ≠ rd → (t.core core).rx i = (s.core core).rx i) ∧
    t.core core = { s.core core with x := (t.core core).x, pc := ((BitVec.ofNat 32 (s.core core).pc + off).toNat) % 2 ^ 32, minstret := ((s.core core).minstret + 1) % 2 ^ 64 } ∧
    (∀ k, k ≠ core → t.core k = s.core k) ∧ t = { s with cores := t.cores }) ∧
  -- JALR, its base read before its destination is written
  (∀ s (core len raw : Nat) (errs : List (Nat × Bool)) (rd rs1 : Nat) (imm : W32), s.rvReady core = true →
    s.rvFetch core = .ok (.jalr rd rs1 imm, len, raw) → ∃ t, exec (.rvInstruction core errs) s = .next t ∧
    (t.core core).rx rd = (if rd = 0 then 0 else BitVec.ofNat 32 ((s.core core).pc + len)) ∧ (∀ i, i ≠ rd →
    (t.core core).rx i = (s.core core).rx i) ∧
    t.core core = { s.core core with x := (t.core core).x, pc := (((s.core core).rx rs1 + imm).toNat / 2 * 2) % 2 ^ 32, minstret := ((s.core core).minstret + 1) % 2 ^ 64 } ∧
    (∀ k, k ≠ core → t.core k = s.core k) ∧ t = { s with cores := t.cores }) ∧
  -- branches
  (∀ s (core len raw : Nat) (errs : List (Nat × Bool)) (f3 rs1 rs2 : Nat) (off : W32), s.rvReady core = true →
    s.rvFetch core = .ok (.branch f3 rs1 rs2 off, len, raw) → ∃ t, exec (.rvInstruction core errs) s = .next t ∧
    t.core core = { s.core core with pc := (if branchTaken f3 ((s.core core).rx rs1) ((s.core core).rx rs2) then (BitVec.ofNat 32 (s.core core).pc + off).toNat else (s.core core).pc + len) % 2 ^ 32, minstret := ((s.core core).minstret + 1) % 2 ^ 64 } ∧
    (∀ k, k ≠ core → t.core k = s.core k) ∧ t = { s with cores := t.cores }) ∧
  -- a load from data memory whose word meets no error
  (∀ s (core len raw : Nat) (errs : List (Nat × Bool)) (f3 rd rs1 off : Nat) (imm : W32), s.rvReady core = true →
    s.rvFetch core = .ok (.load f3 rd rs1 imm, len, raw) → errs = [] → ((s.core core).rx rs1 + imm).toNat % 2 ^ (f3 % 4) = 0 →
    coreMap core ((s.core core).rx rs1 + imm).toNat = .data off → s.csBad core off (2 ^ (f3 % 4)) = false → ∃ t,
    exec (.rvInstruction core errs) s = .next t ∧ (t.core core).rx rd = (if rd = 0 then
    0 else loadExt f3 (leNat (s.csBytes core off (2 ^ (f3 % 4))))) ∧ (∀ i, i ≠ rd → (t.core core).rx i = (s.core core).rx i) ∧
    t.core core = { s.core core with x := (t.core core).x, pc := ((s.core core).pc + len) % 2 ^ 32, minstret := ((s.core core).minstret + 1) % 2 ^ 64 } ∧
    (∀ k, k ≠ core → t.core k = s.core k) ∧ t = { s with cores := t.cores }) ∧
  -- a store to data memory: its bytes, and no other
  (∀ s (core len raw : Nat) (errs : List (Nat × Bool)) (f3 rs1 rs2 off : Nat) (imm : W32), s.rvReady core = true →
    s.rvFetch core = .ok (.store f3 rs1 rs2 imm, len, raw) → ((s.core core).rx rs1 + imm).toNat % 2 ^ f3 = 0 →
    coreMap core ((s.core core).rx rs1 + imm).toNat = .data off → f3 ≤ 2 → ∃ t, exec (.rvInstruction core errs) s = .next t ∧
    bytesAt t.mem.cstore (csKey core off) (2 ^ f3) = leBytes (2 ^ f3) ((s.core core).rx rs2).toNat ∧ (∀ a, (a < csKey core off ∨
    csKey core off + 2 ^ f3 ≤ a) → byteAt t.mem.cstore a = byteAt s.mem.cstore a) ∧
    t.core core = { s.core core with pc := ((s.core core).pc + len) % 2 ^ 32, minstret := ((s.core core).minstret + 1) % 2 ^ 64 } ∧ (∀ k,
    k ≠ core → t.core k = s.core k) ∧ t.mem.cpoison = s.mem.cpoison ∧
    t = { s with mem := { s.mem with cstore := t.mem.cstore, cpoison := t.mem.cpoison }, cores := t.cores }) ∧
  -- a CSR is read, then written
  (∀ s (core len raw : Nat) (errs : List (Nat × Bool)) (f3 rd rs1 a : Nat) (old : W32), s.rvReady core = true →
    s.rvFetch core = .ok (.csr f3 rd rs1 a, len, raw) → f3 = 1 → a = 0x340 → s.csrRead core a = some old → ∃ t,
    exec (.rvInstruction core errs) s = .next t ∧ (t.core core).rx rd = (if rd = 0 then 0 else old) ∧ (∀ i, i ≠ rd →
    (t.core core).rx i = (s.core core).rx i) ∧ mget 0 (t.core core).csr a = (s.core core).rx rs1 ∧ (∀ k, k ≠ core → t.core k = s.core k) ∧
    t = { s with cores := t.cores })

/-- R87, R88, R98, R112, R113: the Kenaris instructions of a ready core, and the two releases of a stalled one. -/
def Obligations.KenarisInstructionsComplete : Prop :=
  -- TC.STAGE
  (∀ s (core rd rs1 rs2 len raw : Nat) , s.rvReady core = true → s.rvFetch core = .ok (.kenaris 0 0 rd rs1 rs2, len, raw) → ∃ t,
    exec (.tcStage core) s = .next t ∧ mget 0 (t.core core).staging (((s.core core).rx rs2).toNat % 8) = (s.core core).rx rs1 ∧ (∀ i,
    i ≠ ((s.core core).rx rs2).toNat % 8 → mget 0 (t.core core).staging i = mget 0 (s.core core).staging i) ∧
    t.core core = { s.core core with staging := (t.core core).staging, pc := ((s.core core).pc + 4) % 2 ^ 32, minstret := ((s.core core).minstret + 1) % 2 ^ 64 } ∧
    (∀ k, k ≠ core → t.core k = s.core k) ∧ t = { s with cores := t.cores }) ∧
  -- TC.LDS
  (∀ s (core rd rs1 rs2 len raw : Nat) , s.rvReady core = true → s.rvFetch core = .ok (.kenaris 1 0 rd rs1 rs2, len, raw) →
    ((s.core core).rx rs1).toNat % 32 = 0 → ((s.core core).rx rs1).toNat + 32 ≤ storeSize core →
    s.csBad core ((s.core core).rx rs1).toNat 32 = false → ∃ t, exec (.tcLds core []) s = .next t ∧ (∀ i, i < 8 →
    mget 0 (t.core core).staging i = BitVec.ofNat 32 (leNat (slice (s.csBytes core ((s.core core).rx rs1).toNat 32) (4 * i) 4))) ∧
    t.core core = { s.core core with staging := (t.core core).staging, pc := ((s.core core).pc + 4) % 2 ^ 32, minstret := ((s.core core).minstret + 1) % 2 ^ 64 } ∧
    (∀ k, k ≠ core → t.core k = s.core k) ∧ t = { s with cores := t.cores }) ∧
  -- TC.PUSHS with room
  (∀ s (core rd rs1 rs2 len raw : Nat) , s.rvReady core = true → s.rvFetch core = .ok (.kenaris 2 0 rd rs1 rs2, len, raw) →
    pushBad core (((s.core core).rx rs2).toNat % 2) (cmdOfStaging (s.core core).staging) = false →
    s.pushRoom core (((s.core core).rx rs2).toNat % 2) = true → ∃ t, exec (.tcPushs core) s = .next t ∧
    ((t.core core).stream (((s.core core).rx rs2).toNat % 2)).queue = ((s.core core).stream (((s.core core).rx rs2).toNat % 2)).queue ++
    [{ cmd := cmdOfStaging (s.core core).staging, seq := ((s.core core).stream (((s.core core).rx rs2).toNat % 2)).nextSeq }] ∧
    ((t.core core).stream (((s.core core).rx rs2).toNat % 2)).nextSeq = ((s.core core).stream (((s.core core).rx rs2).toNat % 2)).nextSeq + 1 ∧
    (t.core core).rx rd = (if rd = 0 then 0 else BitVec.ofNat 32 ((s.core core).stream (((s.core core).rx rs2).toNat % 2)).nextSeq) ∧ (∀ i,
    i ≠ rd → (t.core core).rx i = (s.core core).rx i) ∧ (t.core core).pc = ((s.core core).pc + 4) % 2 ^ 32 ∧ (∀ k, k ≠ core →
    t.core k = s.core k) ∧ t = { s with cores := t.cores }) ∧
  -- TC.PUSHS without room stalls at its own PC
  (∀ s (core rd rs1 rs2 len raw : Nat) , s.rvReady core = true → s.rvFetch core = .ok (.kenaris 2 0 rd rs1 rs2, len, raw) →
    pushBad core (((s.core core).rx rs2).toNat % 2) (cmdOfStaging (s.core core).staging) = false →
    s.pushRoom core (((s.core core).rx rs2).toNat % 2) = false → ∃ t, exec (.tcPushs core) s = .next t ∧
    t.core core = { s.core core with stall := .pushs } ∧ (∀ k, k ≠ core → t.core k = s.core k) ∧ t = { s with cores := t.cores }) ∧
  -- R98: and goes on once there is room
  (∀ s (core rd rs1 rs2 len raw : Nat) (f7 : Nat), s.clk.on = true → (s.core core).stall = .pushs → s.rvFetch core = .ok (.kenaris 2 f7 rd rs1 rs2, len,
    raw) → s.pushRoom core (((s.core core).rx rs2).toNat % 2) = true → ∃ t, exec (.pushsUnstall core) s = .next t ∧
    (t.core core).stall = .none ∧ (t.core core).pc = ((s.core core).pc + 4) % 2 ^ 32 ∧
    ((t.core core).stream (((s.core core).rx rs2).toNat % 2)).queue.length = ((s.core core).stream (((s.core core).rx rs2).toNat % 2)).queue.length + 1 ∧
    (∀ k, k ≠ core → t.core k = s.core k) ∧ t = { s with cores := t.cores }) ∧
  -- TC.DONE
  (∀ s (core rd rs1 rs2 len raw : Nat) , s.rvReady core = true → s.rvFetch core = .ok (.kenaris 3 0 rd rs1 rs2, len, raw) → ∃ t,
    exec (.tcDone core) s = .next t ∧ (t.core core).rx rd = (if rd = 0 then
    0 else BitVec.ofNat 32 ((s.core core).retired (((s.core core).rx rs2).toNat % 2))) ∧ (∀ i, i ≠ rd →
    (t.core core).rx i = (s.core core).rx i) ∧
    t.core core = { s.core core with x := (t.core core).x, pc := ((s.core core).pc + 4) % 2 ^ 32, minstret := ((s.core core).minstret + 1) % 2 ^ 64 } ∧
    (∀ k, k ≠ core → t.core k = s.core k) ∧ t = { s with cores := t.cores }) ∧
  -- SC.READ
  (∀ s (core rd rs1 rs2 len raw : Nat) , s.rvReady core = true → s.rvFetch core = .ok (.kenaris 4 0 rd rs1 rs2, len, raw) → ∃ t,
    exec (.scRead core) s = .next t ∧ (t.core core).rx rd = (if rd = 0 then
    0 else BitVec.ofNat 32 (s.ctr core (((s.core core).rx rs1).toNat % 64))) ∧ (∀ i, i ≠ rd → (t.core core).rx i = (s.core core).rx i) ∧
    t.core core = { s.core core with x := (t.core core).x, pc := ((s.core core).pc + 4) % 2 ^ 32, minstret := ((s.core core).minstret + 1) % 2 ^ 64 } ∧
    (∀ k, k ≠ core → t.core k = s.core k) ∧ t = { s with cores := t.cores }) ∧
  -- SC.WAIT that is met
  (∀ s (core rd rs1 rs2 len raw : Nat) , s.rvReady core = true → s.rvFetch core = .ok (.kenaris 5 0 rd rs1 rs2, len, raw) →
    reached (s.ctr core (((s.core core).rx rs1).toNat % 64)) (((s.core core).rx rs2).toNat % 65536) = true → ∃ t,
    exec (.scWait core) s = .next t ∧
    t.core core = { s.core core with pc := ((s.core core).pc + 4) % 2 ^ 32, minstret := ((s.core core).minstret + 1) % 2 ^ 64 } ∧ (∀ k,
    k ≠ core → t.core k = s.core k) ∧ t = { s with cores := t.cores }) ∧
  -- SC.WAIT that is not
  (∀ s (core rd rs1 rs2 len raw : Nat) , s.rvReady core = true → s.rvFetch core = .ok (.kenaris 5 0 rd rs1 rs2, len, raw) →
    reached (s.ctr core (((s.core core).rx rs1).toNat % 64)) (((s.core core).rx rs2).toNat % 65536) = false → ∃ t,
    exec (.scWait core) s = .next t ∧ t.core core = { s.core core with stall := .scWait } ∧ (∀ k, k ≠ core → t.core k = s.core k) ∧
    t = { s with cores := t.cores }) ∧
  -- R112: and is released
  (∀ s (core rd rs1 rs2 len raw : Nat) (f7 : Nat), s.clk.on = true → (s.core core).stall = .scWait → s.rvFetch core = .ok (.kenaris 5 f7 rd rs1 rs2, len,
    raw) → reached (s.ctr core (((s.core core).rx rs1).toNat % 64)) (((s.core core).rx rs2).toNat % 65536) = true → ∃ t,
    exec (.scWaitRelease core) s = .next t ∧
    t.core core = { s.core core with stall := .none, pc := ((s.core core).pc + 4) % 2 ^ 32, minstret := ((s.core core).minstret + 1) % 2 ^ 64 } ∧
    (∀ k, k ≠ core → t.core k = s.core k) ∧ t = { s with cores := t.cores }) ∧
  -- SC.ADD
  (∀ s (core rd rs1 rs2 len raw : Nat) , s.rvReady core = true → s.rvFetch core = .ok (.kenaris 6 0 rd rs1 rs2, len, raw) → ∃ t,
    exec (.scAdd core) s = .next t ∧
    t.ctr core (((s.core core).rx rs1).toNat % 64) = (s.ctr core (((s.core core).rx rs1).toNat % 64) + ((s.core core).rx rs2).toNat % 65536) % 65536 ∧
    (∀ n, n ≠ ((s.core core).rx rs1).toNat % 64 → t.ctr core n = s.ctr core n) ∧
    t.core core = { s.core core with ctrs := (t.core core).ctrs, pc := ((s.core core).pc + 4) % 2 ^ 32, minstret := ((s.core core).minstret + 1) % 2 ^ 64 } ∧
    (∀ k, k ≠ core → t.core k = s.core k) ∧ t = { s with cores := t.cores })

/-- R85, R87: EBREAK, illegal Kenaris codes, ECALL and a failing fetch of a ready core. -/
def Obligations.CoreTrapsTaken : Prop :=
  -- EBREAK
  (∀ s (core len raw : Nat), s.rvReady core = true → s.rvFetch core = .ok (.ebreak, len, raw) → ∃ t, exec (.ebreak core) s = .next t ∧
    (t.core core).halted = true ∧ (t.core core).pc = (s.core core).pc ∧ (t.core core).trapped = (s.core core).trapped ∧
    (t.core core).x = (s.core core).x ∧ (∀ k, k ≠ core → t.core k = s.core k) ∧ t = { s with cores := t.cores }) ∧
  -- a Kenaris code that is illegal, where traps halt
  (∀ s (core f3 f7 rd rs1 rs2 len raw : Nat), s.rvReady core = true → s.rvFetch core = .ok (.kenaris f3 f7 rd rs1 rs2, len, raw) → f3 = 7 ∨
    f7 ≠ 0 → (s.core core).trapHalt = true → ∃ t, exec (.kenarisIllegal core) s = .next t ∧ mget 0 (t.core core).csr 0x342 = 2 ∧
    mget 0 (t.core core).csr 0x341 = BitVec.ofNat 32 (s.core core).pc ∧ (t.core core).x = (s.core core).x ∧ (t.core core).halted = true ∧
    (t.core core).trapped = true ∧ (t.core core).pc = (s.core core).pc ∧
    (t.core core).seqFault = BitVec.ofNat 64 ((s.core core).pc + 2 * 2 ^ 32) ∧ (∀ k, k ≠ core → t.core k = s.core k) ∧
    t = { s with cores := t.cores, regs := t.regs, evt := t.evt }) ∧
  -- the same where traps vector
  (∀ s (core f3 f7 rd rs1 rs2 len raw : Nat), s.rvReady core = true → s.rvFetch core = .ok (.kenaris f3 f7 rd rs1 rs2, len, raw) → f3 = 7 ∨
    f7 ≠ 0 → (s.core core).trapHalt = false → ∃ t, exec (.kenarisIllegal core) s = .next t ∧ mget 0 (t.core core).csr 0x342 = 2 ∧
    mget 0 (t.core core).csr 0x341 = BitVec.ofNat 32 (s.core core).pc ∧ (t.core core).x = (s.core core).x ∧ (t.core core).halted = false ∧
    (t.core core).pc = (mget 0 (s.core core).csr 0x305).toNat / 4 * 4 ∧ (∀ k, k ≠ core → t.core k = s.core k) ∧
    t = { s with cores := t.cores, regs := t.regs, evt := t.evt }) ∧
  -- ECALL, where traps vector
  (∀ s (core len raw : Nat), s.rvReady core = true → s.rvFetch core = .ok (.ecall, len, raw) → (s.core core).trapHalt = false → ∃ t,
    exec (.rvInstruction core []) s = .next t ∧ mget 0 (t.core core).csr 0x342 = 11 ∧
    mget 0 (t.core core).csr 0x341 = BitVec.ofNat 32 (s.core core).pc ∧ (t.core core).x = (s.core core).x ∧
    (t.core core).pc = (mget 0 (s.core core).csr 0x305).toNat / 4 * 4 ∧ (∀ k, k ≠ core → t.core k = s.core k) ∧
    t = { s with cores := t.cores, regs := t.regs, evt := t.evt }) ∧
  -- MRET
  (∀ s (core len raw : Nat), s.rvReady core = true → s.rvFetch core = .ok (.mret, len, raw) → ∃ t,
    exec (.rvInstruction core []) s = .next t ∧ (t.core core).pc = (mget 0 (s.core core).csr 0x341).toNat % 2 ^ 32 ∧
    (t.core core).x = (s.core core).x ∧ (∀ k, k ≠ core → t.core k = s.core k) ∧ t = { s with cores := t.cores }) ∧
  -- a PC that is odd
  (∀ s (core : Nat), s.rvReady core = true → (s.core core).pc % 2 ≠ 0 → (s.core core).trapHalt = false → ∃ t,
    exec (.rvInstruction core []) s = .next t ∧ mget 0 (t.core core).csr 0x342 = 0 ∧
    mget 0 (t.core core).csr 0x341 = BitVec.ofNat 32 (s.core core).pc ∧ (t.core core).x = (s.core core).x ∧ (∀ k, k ≠ core →
    t.core k = s.core k) ∧ t = { s with cores := t.cores, regs := t.regs, evt := t.evt })

/-- R49 to R51, R57 to R61, R66, R76, R80, R105, R106: the stages of a pass that meets no error, and what the accumulator holds after it. -/
def Obligations.ArrayPassesComplete : Prop :=
  -- R105: MATMUL: the weights begin to load
  (∀ s (core : Nat) (e : Issued) , s.front core 0x01 = some e → matmulChk core e.cmd = St.ok → ∃ t, exec (.matmul core []) s = .next t ∧
    Ended s t core e.ord (.pass (newPass e.cmd e.cmd.depth (shape e.cmd.w3).rows (shape e.cmd.w3).elems [] false)) ∧
    t = { s with cores := t.cores }) ∧
  -- a MATMUL that fails a check ends with its status
  (∀ s (core : Nat) (e : Issued) , s.front core 0x01 = some e → matmulChk core e.cmd ≠ St.ok → ∃ t, exec (.matmul core []) s = .next t ∧
    Ended s t core e.ord (.done (matmulChk core e.cmd)) ∧ t = { s with cores := t.cores }) ∧
  -- R106: a CONV with a misaligned descriptor ends BOUNDS, or FORMAT_INVALID for a pair that is none
  (∀ s (core : Nat) (e : Issued) , s.front core 0x02 = some e → e.cmd.descOff % 64 ≠ 0 → ∃ t, exec (.conv core []) s = .next t ∧
    Ended s t core e.ord (.done (if pairOf e.cmd.fmtA e.cmd.fmtB = none then worst St.formatInvalid St.bounds else St.bounds)) ∧
    t = { s with cores := t.cores }) ∧
  -- R53: of an invalid pair a CONV reads nothing
  (∀ s (core : Nat) (e : Issued) , s.front core 0x02 = some e → e.cmd.descOff % 64 = 0 → pairOf e.cmd.fmtA e.cmd.fmtB = none → ∃ t,
    exec (.conv core []) s = .next t ∧ Ended s t core e.ord (.done (passChk core e.cmd e.cmd.conv.2.2 0)) ∧
    t = { s with cores := t.cores }) ∧
  -- R106: CONV with a descriptor that is good
  (∀ s (core : Nat) (e : Issued) (d : ConvDesc), s.front core 0x02 = some e → e.cmd.descOff % 64 = 0 →
    s.csBad core e.cmd.descOff 64 = false → d = convDesc (s.csBytes core e.cmd.descOff 64) →
    passChk core e.cmd e.cmd.conv.2.2 (min e.cmd.depth (d.k - e.cmd.conv.1)) = St.ok →
    d.bad e.cmd.fmtA e.cmd.conv.2.1 e.cmd.conv.2.2 e.cmd.conv.1 e.cmd.depth = false → ∃ t, exec (.conv core []) s = .next t ∧
    Ended s t core e.ord (.pass (newPass e.cmd e.cmd.depth e.cmd.conv.2.2 (min e.cmd.depth (d.k - e.cmd.conv.1)) (s.csBytes core e.cmd.descOff 64) false)) ∧
    t = { s with cores := t.cores }) ∧
  -- R50: the weights are loaded
  (∀ s (core : Nat) (e : Issued) (p : Pass) , s.clk.on = true → (s.core core).passIn 1 = some (e, p) → (s.core core).wantGrant = false →
    ((s.core core).formBefore e.ord != p.shallow && (s.core core).earlierPass e.ord) = false → (s.core core).passIn 2 = none → ∃ t,
    exec (.weightLoadDone core) s = .next t ∧
    Ended s t core e.ord (.pass { p with stage := 2, wtile := (((List.range p.kUsed).map (fun i => s.csElems core ((operand e.cmd.w2).off + i * rowBytes p.fmtB p.width) p.fmtB p.width)).flatten).map (·.1), poison := p.poison || (((List.range p.kUsed).map (fun i => s.csElems core ((operand e.cmd.w2).off + i * rowBytes p.fmtB p.width) p.fmtB p.width)).flatten).any (·.2) }) ∧
    t = { s with cores := t.cores }) ∧
  -- R51: the pass starts
  (∀ s (core : Nat) (e : Issued) (p : Pass) , s.clk.on = true → (s.core core).passIn 2 = some (e, p) → (s.core core).wantGrant = false →
    ((s.core core).formBefore e.ord != p.shallow && (s.core core).earlierPass e.ord) = false → (s.core core).interlocked e = false → ∃ t,
    exec (.passStart core false) s = .next t ∧
    Ended (s.modCore core (fun c => { c with lastShallow := p.shallow })) t core e.ord (.pass { p with stage := 3, sub := (s.passResults core e.cmd p).1, poison := p.poison || (s.passResults core e.cmd p).2 }) ∧
    t = { s with cores := t.cores }) ∧
  -- R60: a pass that stores
  (∀ s (core : Nat) (e : Issued) (p : Pass) (new : List Nat), s.clk.on = true → (s.core core).passIn 3 = some (e, p) → p.sub = [new] →
    new.length = p.rows * p.width → p.add = false → ∃ t, exec (.passDone core false) s = .next t ∧ (∀ i, i < p.rows * p.width →
    t.accWord core (p.accRow * 128 + i) = BitVec.ofNat 32 (new.getD i 0)) ∧ (∀ w, (w < p.accRow * 128 ∨
    p.accRow * 128 + p.rows * p.width ≤ w) → t.accWord core w = s.accWord core w) ∧ Ended s t core e.ord (.done (if p.poison then
    St.poison else St.ok)) ∧
    t.rf (R.CELL_ARRAY_MACS core) F.CELL_ARRAY_MACS_MACS = (s.rf (R.CELL_ARRAY_MACS core) F.CELL_ARRAY_MACS_MACS + p.macs) % 2 ^ F.CELL_ARRAY_MACS_MACS.width ∧
    (∀ a, a ≠ R.CELL_ARRAY_MACS core → a ≠ R.CELL_ARRAY_STATUS core → t.reg a = s.reg a) ∧
    t = { s with mem := { s.mem with acc := t.mem.acc }, regs := t.regs, cores := t.cores }) ∧
  -- R57: a floating-point pass that adds
  (∀ s (core : Nat) (e : Issued) (p : Pass) (new : List Nat), s.clk.on = true → (s.core core).passIn 3 = some (e, p) → p.sub = [new] →
    new.length = p.rows * p.width → p.add = true → isIntFmt p.fmtA = false → ∃ t, exec (.passDone core false) s = .next t ∧ (∀ i,
    i < p.rows * p.width →
    t.accWord core (p.accRow * 128 + i) = BitVec.ofNat 32 (fadd (s.accWord core (p.accRow * 128 + i)).toNat (new.getD i 0))) ∧ (∀ w,
    (w < p.accRow * 128 ∨ p.accRow * 128 + p.rows * p.width ≤ w) → t.accWord core w = s.accWord core w) ∧
    Ended s t core e.ord (.done (if p.poison then St.poison else St.ok)) ∧
    t.rf (R.CELL_ARRAY_MACS core) F.CELL_ARRAY_MACS_MACS = (s.rf (R.CELL_ARRAY_MACS core) F.CELL_ARRAY_MACS_MACS + p.macs) % 2 ^ F.CELL_ARRAY_MACS_MACS.width ∧
    (∀ a, a ≠ R.CELL_ARRAY_MACS core → a ≠ R.CELL_ARRAY_STATUS core → t.reg a = s.reg a) ∧
    t = { s with mem := { s.mem with acc := t.mem.acc }, regs := t.regs, cores := t.cores }) ∧
  -- R59: an integer pass that adds
  (∀ s (core : Nat) (e : Issued) (p : Pass) (new : List Nat), s.clk.on = true → (s.core core).passIn 3 = some (e, p) → p.sub = [new] →
    new.length = p.rows * p.width → p.add = true → isIntFmt p.fmtA = true → ∃ t, exec (.passDone core false) s = .next t ∧ (∀ i,
    i < p.rows * p.width →
    t.accWord core (p.accRow * 128 + i) = BitVec.ofNat 32 (((s.accWord core (p.accRow * 128 + i)).toNat + new.getD i 0) % 2 ^ 32)) ∧ (∀ w,
    (w < p.accRow * 128 ∨ p.accRow * 128 + p.rows * p.width ≤ w) → t.accWord core w = s.accWord core w) ∧
    Ended s t core e.ord (.done (if p.poison then St.poison else St.ok)) ∧
    t.rf (R.CELL_ARRAY_MACS core) F.CELL_ARRAY_MACS_MACS = (s.rf (R.CELL_ARRAY_MACS core) F.CELL_ARRAY_MACS_MACS + p.macs) % 2 ^ F.CELL_ARRAY_MACS_MACS.width ∧
    t = { s with mem := { s.mem with acc := t.mem.acc }, regs := t.regs, cores := t.cores })

/-- R108 to R110, R174 to R176, R267: the commands of the CVT, SFU and VEC units: completion, and what they leave unchanged. -/
def Obligations.VectorCommandsComplete : Prop :=
  -- QUANT
  (∀ s (core : Nat) (e : Issued) , s.front core 0x18 = some e → (s.core core).interlocked e = false → quantChk core e.cmd = St.ok → ∃ t,
    exec (.quant core []) s = .next t ∧ Ended s t core e.ord (.done (s.quant core [] e).2) ∧
    t = { s with mem := { s.mem with cstore := t.mem.cstore, cpoison := t.mem.cpoison }, regs := t.regs, cores := t.cores, free := t.free }) ∧
  -- a QUANT that fails a check
  (∀ s (core : Nat) (e : Issued) , s.front core 0x18 = some e → (s.core core).interlocked e = false → quantChk core e.cmd ≠ St.ok → ∃ t,
    exec (.quant core []) s = .next t ∧ Ended s t core e.ord (.done (quantChk core e.cmd)) ∧ t = { s with cores := t.cores }) ∧
  -- DEQUANT
  (∀ s (core : Nat) (e : Issued) , s.front core 0x19 = some e → (s.core core).interlocked e = false → dequantChk core e.cmd = St.ok → ∃ t,
    exec (.dequant core []) s = .next t ∧ Ended s t core e.ord (.done (s.dequant core [] e).2) ∧
    t = { s with mem := { s.mem with cstore := t.mem.cstore, cpoison := t.mem.cpoison }, regs := t.regs, cores := t.cores, free := t.free }) ∧
  -- SFN
  (∀ s (core : Nat) (e : Issued) , s.front core 0x20 = some e → (s.core core).interlocked e = false → sfnChk core e = St.ok → ∃ t,
    exec (.sfn core []) s = .next t ∧ Ended s t core e.ord (.done (s.sfn core [] e).2) ∧
    t = { s with mem := { s.mem with cstore := t.mem.cstore, cpoison := t.mem.cpoison }, regs := t.regs, cores := t.cores, free := t.free }) ∧
  -- NORM with a good header
  (∀ s (core : Nat) (e : Issued) , s.front core 0x28 = some e → (s.core core).interlocked e = false → normChk core e.cmd = St.ok →
    s.csBad core e.cmd.paramOff 16 = false → ∃ t, exec (.norm core []) s = .next t ∧ Ended s t core e.ord (.done (s.norm core [] e).2) ∧
    t = { s with mem := { s.mem with cstore := t.mem.cstore, cpoison := t.mem.cpoison }, regs := t.regs, cores := t.cores, free := t.free }) ∧
  -- REDUCE
  (∀ s (core : Nat) (e : Issued) , s.front core 0x30 = some e → (s.core core).interlocked e = false → reduceChk core e.cmd = St.ok → ∃ t,
    exec (.reduce core []) s = .next t ∧ Ended s t core e.ord (.done (s.reduce core [] e).2) ∧
    t = { s with mem := { s.mem with cstore := t.mem.cstore, cpoison := t.mem.cpoison }, regs := t.regs, cores := t.cores, free := t.free }) ∧
  -- R110: RNG
  (∀ s (core : Nat) (e : Issued) , s.front core 0x38 = some e → (s.core core).interlocked e = false → ∃ t, exec (.rng core) s = .next t ∧
    Ended s t core e.ord (.done (s.rng core e).2) ∧
    t = { s with mem := { s.mem with cstore := t.mem.cstore, cpoison := t.mem.cpoison }, cores := t.cores }) ∧
  -- R110: RNG of words: 4 bytes for each element, and no other byte
  (∀ s (core : Nat) (e : Issued) (n : Nat), s.front core 0x38 = some e → (s.core core).interlocked e = false → fld e.cmd.w0 28 2 = 0 →
    n = fld e.cmd.w3 0 11 * fld e.cmd.w3 16 16 → 0 < n → fld e.cmd.w3 0 11 ≤ 1024 → fld e.cmd.w2 0 22 % 16 = 0 →
    fld e.cmd.w2 0 22 + 4 * n ≤ 2 ^ 22 → ∃ t, exec (.rng core) s = .next t ∧ Ended s t core e.ord (.done St.ok) ∧ (∀ i, i < n →
    t.csBytes core (fld e.cmd.w2 0 22 + 4 * i) 4 = leBytes 4 (rngWord e.cmd.w1.toNat (fld e.cmd.w3 32 16) (fld e.cmd.w3 48 16) (fld e.cmd.w2 32 32 + i))) ∧
    StoreFrame s t core [(fld e.cmd.w2 0 22, 4 * n)]) ∧
  -- OPT_UPDATE
  (∀ s (core : Nat) (e : Issued) , s.front core 0x40 = some e → (s.core core).interlocked e = false → e.cmd.descOff % 64 = 0 → ∃ t,
    exec (.optUpdate core []) s = .next t ∧ Ended s t core e.ord (.done (s.optUpdate core [] e).2) ∧
    t = { s with mem := { s.mem with cstore := t.mem.cstore, cpoison := t.mem.cpoison }, regs := t.regs, cores := t.cores, free := t.free })

/-- R99, R108, R109, R143, R152, R153, R175: the bytes and registers that QUANT, DEQUANT, SFN and REDUCE leave unchanged, for every number of rows. -/
def Obligations.VectorFrames : Prop :=
  -- QUANT
  (∀ s (core : Nat) (e : Issued) , s.front core 0x18 = some e → (s.core core).interlocked e = false → quantChk core e.cmd = St.ok → ∃ t,
    exec (.quant core []) s = .next t ∧
    StoreFrame s t core (rowRanges (operand e.cmd.w2).off (shape e.cmd.w3).rows (rowStep (shape e.cmd.w3).dstPitch (rowBytes e.cmd.fmtD (shape e.cmd.w3).elems)) (rowBytes e.cmd.fmtD (shape e.cmd.w3).elems) ++
    (if e.cmd.flag 0 && !e.cmd.flag 1 then [(slotOff (operand e.cmd.w2).xtra, (shape e.cmd.w3).rows)] else [])) ∧ HealthOnly s t) ∧
  -- DEQUANT
  (∀ s (core : Nat) (e : Issued) , s.front core 0x19 = some e → (s.core core).interlocked e = false → dequantChk core e.cmd = St.ok → ∃ t,
    exec (.dequant core []) s = .next t ∧
    StoreFrame s t core (rowRanges (operand e.cmd.w2).off (shape e.cmd.w3).rows (rowStep (shape e.cmd.w3).dstPitch (rowBytes e.cmd.fmtD (shape e.cmd.w3).elems)) (rowBytes e.cmd.fmtD (shape e.cmd.w3).elems)) ∧
    HealthOnly s t) ∧
  -- SFN
  (∀ s (core : Nat) (e : Issued) , s.front core 0x20 = some e → (s.core core).interlocked e = false → sfnChk core e = St.ok → ∃ t,
    exec (.sfn core []) s = .next t ∧
    StoreFrame s t core (rowRanges (operand e.cmd.w2).off (shape e.cmd.w3).rows (rowStep (shape e.cmd.w3).dstPitch (rowBytes e.cmd.fmtD (shape e.cmd.w3).elems)) (rowBytes e.cmd.fmtD (shape e.cmd.w3).elems)) ∧
    HealthOnly s t) ∧
  -- REDUCE
  (∀ s (core : Nat) (e : Issued) , s.front core 0x30 = some e → (s.core core).interlocked e = false → reduceChk core e.cmd = St.ok → ∃ t,
    exec (.reduce core []) s = .next t ∧ StoreFrame s t core [((operand e.cmd.w2).off, 4 * (if e.cmd.flag 3 then
    (shape e.cmd.w3).elems else (shape e.cmd.w3).rows))] ∧ t.regs = s.regs)

/-- R107, R117, R119, R211: LOAD, STORE and GATHER; a 64-byte row between a cell store and a resident line of the ward is copied as it is. -/
def Obligations.MovesComplete : Prop :=
  -- LOAD of a cell
  (∀ s (core : Nat) (e : Issued) , core < 128 → s.front core 0x10 = some e → ∃ t, exec (.load core []) s = .next t ∧
    Ended s t core e.ord (.done (s.loadStore core [] [2] [0] e).2) ∧ t.mem.acc = s.mem.acc ∧ t.mem.imem = s.mem.imem ∧
    t = { s with mem := t.mem, regs := t.regs, cores := t.cores, evt := t.evt, free := t.free }) ∧
  -- STORE of a cell leaves every core store as it was
  (∀ s (core : Nat) (e : Issued) , core < 128 → s.front core 0x11 = some e → ∃ t, exec (.store core []) s = .next t ∧
    Ended s t core e.ord (.done (s.loadStore core [] [0] [2] e).2) ∧ t.mem.cstore = s.mem.cstore ∧ t.mem.cpoison = s.mem.cpoison ∧
    t.mem.acc = s.mem.acc ∧ t = { s with mem := t.mem, regs := t.regs, cores := t.cores, evt := t.evt, free := t.free }) ∧
  -- LOAD of a 64-byte row from a line in the layer store
  (∀ s (core : Nat) (e : Issued) (x : Blk), core < 128 → s.front core 0x10 = some e → fmtReserved e.cmd.fmtA = false →
    (shape e.cmd.w3).rows = 1 → (shape e.cmd.w3).srcPitch = 0 → (shape e.cmd.w3).dstPitch = 0 →
    rowBytes e.cmd.fmtA (shape e.cmd.w3).elems = 64 → wholeBytes e.cmd.fmtA (shape e.cmd.w3).elems = true → 0 < (shape e.cmd.w3).elems →
    s.moveChk core [2] (operand e.cmd.w1) 1 64 64 = St.ok → s.moveChk core [0] (operand e.cmd.w2) 1 64 64 = St.ok →
    spaceOf (operand e.cmd.w1).addr = .unified → (operand e.cmd.w1).addr % 64 = 0 → s.fenced (operand e.cmd.w1).addr = false →
    s.blk ((operand e.cmd.w1).addr / 65536) = some x → x.st = .clean ∨ x.st = .dirty → s.fmark ((operand e.cmd.w1).addr / 64) = .ok → s.mem.eccs = [] →
    s.mem.waiting.any (fun w => w.line = (operand e.cmd.w1).addr / 64) = false → ∃ t,
    exec (.load core []) s = .next t ∧ Ended s t core e.ord (.done St.ok) ∧
    t.csBytes core (operand e.cmd.w2).off 64 = s.frameLine ((operand e.cmd.w1).addr / 64) ∧ StoreFrame s t core [((operand e.cmd.w2).off,
    64)] ∧ t = { s with mem := { s.mem with cstore := t.mem.cstore, cpoison := t.mem.cpoison }, cores := t.cores }) ∧
  -- STORE of a 64-byte row to a line in the layer store
  (∀ s (core : Nat) (e : Issued) (x : Blk), core < 128 → s.front core 0x11 = some e → fmtReserved e.cmd.fmtA = false →
    (shape e.cmd.w3).rows = 1 → (shape e.cmd.w3).srcPitch = 0 → (shape e.cmd.w3).dstPitch = 0 →
    rowBytes e.cmd.fmtA (shape e.cmd.w3).elems = 64 → wholeBytes e.cmd.fmtA (shape e.cmd.w3).elems = true → 0 < (shape e.cmd.w3).elems →
    s.moveChk core [0] (operand e.cmd.w1) 1 64 64 = St.ok → s.moveChk core [2] (operand e.cmd.w2) 1 64 64 = St.ok →
    spaceOf (operand e.cmd.w2).addr = .unified → (operand e.cmd.w2).addr % 64 = 0 → s.fenced (operand e.cmd.w2).addr = false →
    s.blk ((operand e.cmd.w2).addr / 65536) = some x → x.st = .clean ∨ x.st = .dirty → s.csBad core (operand e.cmd.w1).off 64 = false →
    s.fmark ((operand e.cmd.w2).addr / 64) ≠ .unset → s.mem.waiting.any (fun w => w.line = (operand e.cmd.w2).addr / 64) = false → ∃ t, exec (.store core []) s = .next t ∧ Ended s t core e.ord (.done St.ok) ∧
    t.frameLine ((operand e.cmd.w2).addr / 64) = s.csBytes core (operand e.cmd.w1).off 64 ∧ t.fmark ((operand e.cmd.w2).addr / 64) = .ok ∧
    (∀ l, l ≠ (operand e.cmd.w2).addr / 64 → t.frameLine l = s.frameLine l) ∧
    (t.blk ((operand e.cmd.w2).addr / 65536)).map (·.st) = some .dirty ∧ t.mem.hbm = s.mem.hbm ∧
    t = { s with mem := { s.mem with frame := t.mem.frame, fmarks := t.mem.fmarks, blocks := t.mem.blocks }, cores := t.cores }) ∧
  -- R119: LOAD of an engine within its data memory
  (∀ s (core : Nat) (e : Issued) , 128 ≤ core → core < 160 → s.front core 0x10 = some e → fmtReserved e.cmd.fmtA = false →
    (shape e.cmd.w3).rows = 1 → (shape e.cmd.w3).srcPitch = 0 → (shape e.cmd.w3).dstPitch = 0 →
    rowBytes e.cmd.fmtA (shape e.cmd.w3).elems = 64 → wholeBytes e.cmd.fmtA (shape e.cmd.w3).elems = true → 0 < (shape e.cmd.w3).elems →
    (operand e.cmd.w1).space = 0 → (operand e.cmd.w2).space = 0 → s.moveChk core [0, 2, 3] (operand e.cmd.w1) 1 64 64 = St.ok →
    s.moveChk core [0, 2, 3] (operand e.cmd.w2) 1 64 64 = St.ok → s.csBad core (operand e.cmd.w1).off 64 = false → ∃ t,
    exec (.load core []) s = .next t ∧ Ended s t core e.ord (.done St.ok) ∧
    t.csBytes core (operand e.cmd.w2).off 64 = s.csBytes core (operand e.cmd.w1).off 64 ∧ StoreFrame s t core [((operand e.cmd.w2).off,
    64)] ∧ t = { s with mem := { s.mem with cstore := t.mem.cstore, cpoison := t.mem.cpoison }, cores := t.cores }) ∧
  -- R211: GATHER
  (∀ s (core : Nat) (e : Issued) , s.front core 0x12 = some e → ∃ t, exec (.gather core) s = .next t ∧
    Ended s t core e.ord (.done (s.gather core e).2) ∧ t.mem.acc = s.mem.acc ∧ t.mem.imem = s.mem.imem ∧
    t = { s with mem := t.mem, regs := t.regs, cores := t.cores, evt := t.evt, free := t.free })

/-- R89 to R97, R104, R111, R113 to R115, R41: issue, completion, SYNC, WAIT, SIGNAL, SEND to a cell and the arrival of a mesh packet. -/
def Obligations.StreamsAndSignalsComplete : Prop :=
  -- R91: the head of a stream issues
  (∀ s (core strm : Nat) (q : QCmd) (rest : List QCmd), s.canIssue core strm = true → ((s.core core).stream strm).queue = q :: rest → ∃ t,
    exec (.commandIssue core strm) s = .next t ∧ ((t.core core).stream strm).queue = rest ∧ (t.core core).issued = (s.core core).issued ++
    [s.issueOf core strm q] ∧ (t.core core).nextOrd = (s.core core).nextOrd + 1 ∧ (∀ k, k ≠ core → t.core k = s.core k) ∧
    t = { s with cores := t.cores }) ∧
  -- R97, R113: a command completes OK and signals
  (∀ s (core : Nat) (e : Issued) (unit : Nat), s.clk.on = true → (s.core core).issued.find? (fun x => x.unit = unit &&
    (match x.phase with | .done _ => true | _ => false)) = some e →
    (s.core core).issued.find? (fun x => x.ord = e.ord) = some e → e.phase = .done St.ok → ((s.core core).stream e.strm).state = .run →
    e.cmd.sigEn = true → ∃ t, exec (.commandComplete core unit) s = .next t ∧
    (t.core core).issued = (s.core core).issued.filter (fun x => x.ord ≠ e.ord) ∧
    t.ctr core e.cmd.sigCtr = (s.ctr core e.cmd.sigCtr + 1) % 65536 ∧ ((t.core core).stream e.strm).state = .run ∧ (∀ k, k ≠ core →
    t.core k = s.core k) ∧ t = { s with cores := t.cores }) ∧
  -- R96: one that fails stops its stream and records its number, opcode and status
  (∀ s (core : Nat) (e : Issued) (unit st : Nat), s.clk.on = true → (s.core core).issued.find? (fun x => x.unit = unit &&
    (match x.phase with | .done _ => true | _ => false)) = some e →
    (s.core core).issued.find? (fun x => x.ord = e.ord) = some e → e.phase = .done st → badStatus st = true →
    ((s.core core).stream e.strm).state = .run → ∃ t, exec (.commandComplete core unit) s = .next t ∧
    (t.core core).issued = (s.core core).issued.filter (fun x => x.ord ≠ e.ord) ∧ ((t.core core).stream e.strm).state = .stopped ∧
    ((t.core core).stream e.strm).fault = faultWord e st ∧ (t.core core).ctrs = (s.core core).ctrs ∧ (∀ k, k ≠ core →
    t.core k = s.core k) ∧ t = { s with cores := t.cores, regs := t.regs, evt := t.evt }) ∧
  -- R111
  (∀ s (core : Nat) (e : Issued) , s.front core 0x50 = some e → ∃ t, exec (.sync core) s = .next t ∧ Ended s t core e.ord (.done St.ok) ∧
    t = { s with cores := t.cores }) ∧
  -- R104
  (∀ s (core : Nat) (e : Issued) , s.front core 0x51 = some e → ∃ t, exec (.wait core) s = .next t ∧ Ended s t core e.ord (.done St.ok) ∧
    t = { s with cores := t.cores }) ∧
  -- R115: SIGNAL of a core of the same ward
  (∀ s (core : Nat) (e : Issued) , s.front core 0x52 = some e → fld e.cmd.w1 39 2 ≠ 3 → bitAt e.cmd.w1.toNat 41 = false →
    bitAt e.cmd.w1.toNat 42 = false → s.targetChk core (targetCore (fld e.cmd.w1 39 2) (fld e.cmd.w1 32 7)) = St.ok → ∃ t,
    exec (.signal core) s = .next t ∧
    t.ctr (targetCore (fld e.cmd.w1 39 2) (fld e.cmd.w1 32 7)) (fld e.cmd.w1 16 6) = (s.ctr (targetCore (fld e.cmd.w1 39 2) (fld e.cmd.w1 32 7)) (fld e.cmd.w1 16 6) + fld e.cmd.w1 0 16) % 65536 ∧
    (t.core core).issued = (s.core core).issued.map (fun x => if x.ord = e.ord then { x with phase := .done St.ok } else x) ∧ (∀ k,
    k ≠ core → k ≠ targetCore (fld e.cmd.w1 39 2) (fld e.cmd.w1 32 7) → t.core k = s.core k) ∧ t = { s with cores := t.cores }) ∧
  -- R115: SIGNAL of another ward’s cell ends WARD_FAULT, fenced or not
  (∀ s (core : Nat) (e : Issued) , s.front core 0x52 = some e → fld e.cmd.w1 39 2 = 0 → bitAt e.cmd.w1.toNat 41 = false →
    s.absent (fld e.cmd.w1 32 7) = false → s.wardOfCore (fld e.cmd.w1 32 7) ≠ s.wardOfCore core → ∃ t, exec (.signal core) s = .next t ∧
    Ended s t core e.ord (.done St.wardFault) ∧ t = { s with cores := t.cores }) ∧
  -- R114: SEND from the store: a packet with its data is on its way
  (∀ s (core : Nat) (e : Issued) , s.front core 0x60 = some e → e.cmd.dkind = 0 → s.sendChk core e.cmd = St.ok →
    (operand e.cmd.w1).space = 0 → s.csBad core (operand e.cmd.w1).off e.cmd.length = false → ∃ t, exec (.send core []) s = .next t ∧
    Ended s t core e.ord (.flying) ∧ (t.mesh.drop s.mesh.length).map (fun p => (p.src, p.dst, p.off, p.data)) = [(core, fld e.cmd.w2 22 7,
    fld e.cmd.w2 0 22, s.csBytes core (operand e.cmd.w1).off e.cmd.length)] ∧ t.mesh.take s.mesh.length = s.mesh ∧
    t = { s with mesh := t.mesh, cores := t.cores }) ∧
  -- R114: the packet lands whole and its counter moves after the data
  (∀ s (idx ctr : Nat) (p : MeshPkt), s.clk.on = true → s.mesh[idx]? = some p → s.takesMesh p.dst = true → p.bad = [] → p.ctr = some ctr → p.src ≠ p.dst →
    ∃ t, exec (.meshPacketArrive idx) s = .next t ∧ t.csBytes p.dst p.off p.data.length = p.data ∧ StoreFrame s t p.dst [(p.off,
    p.data.length)] ∧ t.ctr p.dst ctr = (s.ctr p.dst ctr + 1) % 65536 ∧
    (t.core p.src).issued = (s.core p.src).issued.map (fun x => if x.ord = p.ord then { x with phase := .done p.status } else x) ∧
    t.mesh = s.mesh.eraseIdx idx ∧
    t = { s with mem := { s.mem with cstore := t.mem.cstore, cpoison := t.mem.cpoison }, mesh := t.mesh, cores := t.cores }) ∧
  -- R41: a cell that takes nothing: the packet is discarded and the sender ends ABORTED
  (∀ s (idx : Nat) (p : MeshPkt), s.clk.on = true → s.mesh[idx]? = some p → s.takesMesh p.dst = false → ∃ t, exec (.meshPacketArrive idx) s = .next t ∧
    Ended s t p.src p.ord (.done St.aborted) ∧ t.mesh = s.mesh.eraseIdx idx ∧ t = { s with mesh := t.mesh, cores := t.cores })

/-- R187, R192, R229 to R232, R241 to R244: line accesses that need not wait, at home and in the layer store. -/
def Obligations.LinesOfMemoryComplete : Prop :=
  -- R229: a read of an UNSET region
  (∀ s (line : Nat) (f : LineFault), s.clk.on = true → s.owner (line * 64) ≠ 15 → s.stalls .mc = false → s.mem.waiting.any (fun x => x.who = .mc && x.line = line) = false → s.pcOut line = false →
    s.mayGo (homeStack (line * 64)) (s.owner (line * 64)) = true → s.fenced (line * 64) = false →
    (s.region (regionKey (line * 64))).st = 0 → ∃ t, exec (.hbmLineRead line f) s = .next t ∧ t.resp.status = St.unset ∧
    t.resp.bytes = zeros 64 ∧ t = { s with mem := { s.mem with bucket := t.mem.bucket }, resp := t.resp }) ∧
  -- R229: a good line of a SET region
  (∀ s (line : Nat), s.clk.on = true → s.owner (line * 64) ≠ 15 → s.stalls .mc = false → s.mem.waiting.any (fun x => x.who = .mc && x.line = line) = false → s.pcOut line = false →
    s.mayGo (homeStack (line * 64)) (s.owner (line * 64)) = true → s.fenced (line * 64) = false →
    (s.region (regionKey (line * 64))).st = 2 → s.cline line = none → s.mark line = .ok → ∃ t, exec (.hbmLineRead line .good) s = .next t ∧
    t.resp.status = St.ok ∧ t.resp.bytes = s.dramLine line ∧ t = { s with mem := { s.mem with bucket := t.mem.bucket }, resp := t.resp }) ∧
  -- R231: an uncorrectable error poisons the line
  (∀ s (line : Nat), s.clk.on = true → s.owner (line * 64) ≠ 15 → s.stalls .mc = false → s.mem.waiting.any (fun x => x.who = .mc && x.line = line) = false → s.pcOut line = false →
    s.mayGo (homeStack (line * 64)) (s.owner (line * 64)) = true → s.fenced (line * 64) = false →
    (s.region (regionKey (line * 64))).st = 2 → s.cline line = none → s.mark line ≠ .poison → ∃ t,
    exec (.hbmLineRead line .uncorrectable) s = .next t ∧ t.resp.status = St.poison ∧ t.mark line = .poison ∧ (∀ l, l ≠ line →
    t.mark l = s.mark l ∧ t.dramLine l = s.dramLine l) ∧
    t = { s with mem := { s.mem with bucket := t.mem.bucket, hbm := t.mem.hbm, marks := t.mem.marks }, regs := t.regs, evt := t.evt, resp := t.resp }) ∧
  -- R231: poison stays
  (∀ s (line : Nat) (f : LineFault), s.clk.on = true → s.owner (line * 64) ≠ 15 → s.stalls .mc = false → s.mem.waiting.any (fun x => x.who = .mc && x.line = line) = false → s.pcOut line = false →
    s.mayGo (homeStack (line * 64)) (s.owner (line * 64)) = true → s.fenced (line * 64) = false →
    (s.region (regionKey (line * 64))).st = 2 → s.cline line = none → s.mark line = .poison → ∃ t, exec (.hbmLineRead line f) s = .next t ∧
    t.resp.status = St.poison ∧ t.resp.bytes = zeros 64 ∧ t = { s with mem := { s.mem with bucket := t.mem.bucket }, resp := t.resp }) ∧
  -- R230, R231: a full line is stored, and its poison ends
  (∀ s (line : Nat) (data : List Byte) (f : LineFault), s.clk.on = true → s.owner (line * 64) ≠ 15 → s.stalls .mc = false → s.mem.waiting.any (fun x => x.who = .mc && x.line = line) = false →
    s.pcOut line = false → s.mayGo (homeStack (line * 64)) (s.owner (line * 64)) = true → s.fenced (line * 64) = false →
    (s.region (regionKey (line * 64))).st = 2 → s.cline line = none → data.length = 64 → ∃ t,
    exec (.hbmLineWrite line 0 data f) s = .next t ∧ t.resp.status = St.ok ∧ t.dramLine line = data ∧ t.mark line = .ok ∧ (∀ l, l ≠ line →
    t.mark l = s.mark l ∧ t.dramLine l = s.dramLine l) ∧
    t = { s with mem := { s.mem with bucket := t.mem.bucket, hbm := t.mem.hbm, marks := t.mem.marks }, resp := t.resp }) ∧
  -- R230: part of a good line
  (∀ s (line off : Nat) (data : List Byte), s.clk.on = true → s.owner (line * 64) ≠ 15 → s.stalls .mc = false → s.mem.waiting.any (fun x => x.who = .mc && x.line = line) = false → s.pcOut line = false →
    s.mayGo (homeStack (line * 64)) (s.owner (line * 64)) = true → s.fenced (line * 64) = false →
    (s.region (regionKey (line * 64))).st = 2 → s.cline line = none → s.mark line = .ok → off + data.length ≤ 64 → 0 < data.length →
    data.length < 64 → ∃ t, exec (.hbmLineWrite line off data .good) s = .next t ∧ t.resp.status = St.ok ∧
    t.dramLine line = overlay (s.dramLine line) off data ∧ (∀ l, l ≠ line → t.mark l = s.mark l ∧ t.dramLine l = s.dramLine l) ∧
    t = { s with mem := { s.mem with bucket := t.mem.bucket, hbm := t.mem.hbm, marks := t.mem.marks }, resp := t.resp }) ∧
  -- R230: part of a poisoned line writes nothing
  (∀ s (line off : Nat) (data : List Byte) (f : LineFault), s.clk.on = true → s.owner (line * 64) ≠ 15 → s.stalls .mc = false → s.mem.waiting.any (fun x => x.who = .mc && x.line = line) = false →
    s.pcOut line = false → s.mayGo (homeStack (line * 64)) (s.owner (line * 64)) = true → s.fenced (line * 64) = false →
    (s.region (regionKey (line * 64))).st = 2 → s.cline line = none → s.mark line = .poison → data.length < 64 → ∃ t,
    exec (.hbmLineWrite line off data f) s = .next t ∧ t.resp.status = St.poison ∧
    t = { s with mem := { s.mem with bucket := t.mem.bucket }, resp := t.resp }) ∧
  -- R241: an operation that is refused
  (∀ s (line off : Nat) (op : W64) (operand : List Byte) (f : LineFault), s.clk.on = true → s.owner (line * 64) ≠ 15 → s.stalls .mc = false → s.mem.waiting.any (fun x => x.who = .mc && x.line = line) = false → s.pcOut line = false → s.mayGo (homeStack (line * 64)) (s.owner (line * 64)) = true →
    s.fenced (line * 64) = false → s.blk (line / 1024) = none → msoBad off op operand = true → ∃ t,
    exec (.msoOperation line off op operand f) s = .next t ∧ t.resp.status = St.bounds ∧ t.mem.hbm = s.mem.hbm ∧
    t.mem.cache = s.mem.cache ∧ t = { s with mem := t.mem, resp := t.resp }) ∧
  -- R242, R244: an operation on a good home line: the result is dirty in the memory-side cache
  (∀ s (line off : Nat) (op : W64) (operand : List Byte), s.clk.on = true → s.owner (line * 64) ≠ 15 → s.stalls .mc = false → s.mem.waiting.any (fun x => x.who = .mc && x.line = line) = false →
    s.pcOut line = false → s.mayGo (homeStack (line * 64)) (s.owner (line * 64)) = true → s.fenced (line * 64) = false →
    s.blk (line / 1024) = none → (s.region (regionKey (line * 64))).st = 2 → s.cline line = none → s.mark line = .ok →
    s.mem.cache.length < 1048576 → msoBad off op operand = false → ∃ t, exec (.msoOperation line off op operand .good) s = .next t ∧
    t.resp.status = St.ok ∧ (t.cline line).map (fun c => (c.data, c.dirty)) = some ((msoApply (s.dramLine line) off op operand).1, true) ∧
    t.resp.bytes = (if bitAt op.toNat 4 || 4 ≤ fld op 0 4 then (msoApply (s.dramLine line) off op operand).2 else []) ∧
    t.mem.hbm = s.mem.hbm ∧ t = { s with mem := t.mem, resp := t.resp }) ∧
  -- R187: a read of a resident line
  (∀ s (who : Requester) (line : Nat) (hint : Nat) (last : Bool) (x : Blk), s.clk.on = true → s.lineChk who line = St.ok →
    s.stalls who = false → s.mem.waiting.any (fun x => x.who = who && x.line = line) = false → s.fenced (line * 64) = false → s.blk (line / 1024) = some x →
    x.st ≠ .filling → s.fmark line = .ok → ∃ t, exec (.blockAccess who line (.read hint last) .ok) s = .next t ∧ t.resp.status = St.ok ∧
    t.resp.bytes = s.frameLine line ∧ t = { s with resp := t.resp }) ∧
  -- R187, R192: a write of a whole resident line
  (∀ s (who : Requester) (line hint : Nat) (data : List Byte) (x : Blk), s.clk.on = true → s.lineChk who line = St.ok →
    s.stalls who = false → s.mem.waiting.any (fun x => x.who = who && x.line = line) = false → s.fenced (line * 64) = false → s.blk (line / 1024) = some x →
    x.st = .clean ∨ x.st = .dirty → data.length = 64 → s.fmark line ≠ .unset → ∃ t, exec (.blockAccess who line (.write hint 0 data) .ok) s = .next t ∧
    t.resp.status = St.ok ∧ t.frameLine line = data ∧ t.fmark line = .ok ∧ (∀ l, l ≠ line → t.frameLine l = s.frameLine l ∧
    t.fmark l = s.fmark l) ∧ (t.blk (line / 1024)).map (·.st) = some .dirty ∧ t.mem.hbm = s.mem.hbm ∧
    t = { s with mem := t.mem, resp := t.resp }) ∧
  -- R26: a core of another ward gets WARD_FAULT
  (∀ s (core line : Nat) (acc : LineAccess) (ecc : Ecc), s.clk.on = true → line < 2 ^ 33 → s.owner (line * 64) ≠ 15 →
    s.wardOfCore core ≠ some (s.owner (line * 64)) → ∃ t, exec (.blockAccess (.core core) line acc ecc) s = .next t ∧
    t.resp.status = St.wardFault ∧ t = { s with resp := t.resp })

/-- R218, R222, R223, R234, R235, R237, R239, R470: what the memory controllers do by themselves and on command. -/
def Obligations.MemoryControllersComplete : Prop :=
  -- R234: a clearing ends
  (∀ s (st region : Nat), s.clk.on = true → (s.region (st * 65536 + region)).st = 1 → s.thermLevel st ≠ 3 → (s.region (st * 65536 + region)).urgent = false →
    s.urgentBusy st = false → s.mem.waiting = [] → ∃ t, exec (.clearingDone st region) s = .next t ∧
    (t.region (st * 65536 + region)).st = 2 ∧ (t.region (st * 65536 + region)).owner = (s.region (st * 65536 + region)).owner ∧ (∀ k,
    k ≠ st * 65536 + region → t.region k = s.region k) ∧ t = { s with mem := { s.mem with regions := t.mem.regions } }) ∧
  -- R235: the background clearer starts on the next region
  (∀ s (st r : Nat), s.clk.on = true → s.rf (R.MEM_SCRUB_CTRL st) F.MEM_SCRUB_CTRL_BG_CLEAR_EN = 1 → s.clearRate st ≠ 0 → s.thermLevel st ≠ 3 →
    s.mem.regions.any (fun e => e.1 / 65536 = st && e.2.st = 1) = false → s.bgRegion st = some r → ∃ t,
    exec (.bgClearStart st) s = .next t ∧ (t.region (st * 65536 + r)).st = 1 ∧ (t.region (st * 65536 + r)).rate = s.clearRate st ∧
    (t.stack st).bgNext = (r + 1) % 65536 ∧ (∀ k, k ≠ st → t.stack k = s.stack k) ∧ t.mem.hbm = s.mem.hbm ∧
    t = { s with mem := { s.mem with regions := t.mem.regions, fmarks := t.mem.fmarks, stk := t.mem.stk } }) ∧
  -- R222: a refresh
  (∀ s (st pc bank : Nat), s.clk.on = true → (s.stack st).selfRefresh = false → ∃ t, exec (.refresh st pc bank) s = .next t ∧
    (t.stack st).refreshes = (s.stack st).refreshes + 1 ∧ (∀ k, k ≠ st → t.stack k = s.stack k) ∧
    t = { s with mem := { s.mem with stk := t.mem.stk } }) ∧
  -- R218: in self-refresh the stack refreshes itself
  (∀ s (st pc bank : Nat), s.clk.on = true → (s.stack st).selfRefresh = true → ∃ t, exec (.refresh st pc bank) s = .next t ∧ t = s) ∧
  -- R218: refresh management is honoured
  (∀ s (st : Nat), s.clk.on = true → ∃ t, exec (.refreshManagementRequest st) s = .next t ∧ (t.stack st).rfm = (s.stack st).rfm + 1 ∧ (∀ k, k ≠ st →
    t.stack k = s.stack k) ∧ t = { s with mem := { s.mem with stk := t.mem.stk } }) ∧
  -- R239: the patrol reads a good line of a SET region and moves on
  (∀ s (st : Nat), s.clk.on = true → st < 8 → s.rf (R.MEM_SCRUB_CTRL st) F.MEM_SCRUB_CTRL_PATROL_EN = 1 → s.thermLevel st ≠ 3 →
    s.patrolLine st (s.rf (R.MEM_SCRUB_STATUS st) F.MEM_SCRUB_STATUS_PATROL_POS) = some (s.rf (R.MEM_SCRUB_STATUS st) F.MEM_SCRUB_STATUS_PATROL_POS) →
    s.rf (R.MEM_SCRUB_STATUS st) F.MEM_SCRUB_STATUS_PATROL_POS + 1 < 2 ^ 30 →
    s.mark (stackAddr st (s.rf (R.MEM_SCRUB_STATUS st) F.MEM_SCRUB_STATUS_PATROL_POS * 64) / 64) = .ok → ∃ t,
    exec (.patrolRead st .good) s = .next t ∧
    t.rf (R.MEM_SCRUB_STATUS st) F.MEM_SCRUB_STATUS_PATROL_POS = s.rf (R.MEM_SCRUB_STATUS st) F.MEM_SCRUB_STATUS_PATROL_POS + 1 ∧ (∀ a,
    a ≠ R.MEM_SCRUB_STATUS st → t.reg a = s.reg a) ∧ t = { s with regs := t.regs }) ∧
  -- R223: a pseudo-channel leaves service for retraining
  (∀ s (who : Requester) (st pc : Nat), ServedNow s who = true → s.reach who (R.MEM_PC_CTRL st) = St.ok → s.mem.schedOn = false →
    (s.stack st).retrain = none → pc < 64 → ∃ t, exec (.pcRetrainStart who st pc) s = .next t ∧ (t.stack st).retrain = some pc ∧
    bitAt (t.rf (R.MEM_PC_ONLINE st) F.MEM_PC_ONLINE_ONLINE) pc = false ∧ (∀ a, a ≠ R.MEM_PC_ONLINE st → t.reg a = s.reg a) ∧ (∀ k,
    k ≠ st → t.stack k = s.stack k) ∧ t.resp.status = St.ok ∧
    t = { s with mem := { s.mem with stk := t.mem.stk }, regs := t.regs, resp := t.resp }) ∧
  -- R223: one in progress at the controller lets no other begin
  (∀ s (who : Requester) (st pc : Nat), ServedNow s who = true → s.reach who (R.MEM_PC_CTRL st) = St.ok → s.mem.schedOn = false →
    (s.stack st).retrain.isSome = true → ∃ t, exec (.pcRetrainStart who st pc) s = .next t ∧ t.resp.status = St.ok ∧
    t = { s with resp := t.resp }) ∧
  -- R470: a good retraining brings it back
  (∀ s (st pc : Nat), s.clk.on = true → st < 8 → pc < 64 → (s.stack st).retrain = some pc → s.mem.schedOn = false → s.mem.waiting = [] → ∃ t,
    exec (.pcRetrainDone st true) s = .next t ∧ (t.stack st).retrain = none ∧
    bitAt (t.rf (R.MEM_PC_ONLINE st) F.MEM_PC_ONLINE_ONLINE) pc = true ∧ mget 0 (t.stack st).retrainFails pc = 0 ∧ (∀ k, k ≠ st →
    t.stack k = s.stack k) ∧ t.mem.hbm = s.mem.hbm) ∧
  -- R470: the schedule retrains the next pseudo-channel of a stack that is NORMAL
  (∀ s (p : Nat), s.clk.on = true → s.rf R.CFG_LIVE_CTRL F.CFG_LIVE_CTRL_RETRAIN_EN = 1 → s.evt.mcDown = false →
    (List.range 8).any (fun st => (s.stack st).retrain.isSome) = false → s.mem.schedAt = 0 ∨ s.mem.schedAt + 18000000 ≤ s.now →
    ((List.range 512).map (fun i => (s.mem.retrainPos + i) % 512)).find? (fun p => s.thermLevel (p / 64) = 0) = some p → ∃ t,
    exec (.pcRetrainSchedule) s = .next t ∧ (t.stack (p / 64)).retrain = some (p % 64) ∧ t.mem.schedOn = true ∧
    t.mem.retrainPos = (p + 1) % 512 ∧ (∀ a, a ≠ R.MEM_PC_ONLINE (p / 64) → t.reg a = s.reg a) ∧
    t = { s with mem := { s.mem with stk := t.mem.stk, schedOn := t.mem.schedOn, retrainPos := t.mem.retrainPos }, regs := t.regs }) ∧
  -- R237: a reset of a range by the module controller
  (∀ s (st first count : Nat), s.reach .mc (R.MEM_REGION_CMD st) = St.ok → (s.stack st).cmd = none → 0 < count → first + count ≤ 65536 →
    s.rangeLocked st first count = none → s.rangeFixed st first count = false → s.mem.waiting = [] → ∃ t,
    exec (.regionReset .mc st first count) s = .next t ∧ (∀ i, i < count → (t.region (st * 65536 + first + i)).st = 0 ∧
    (t.region (st * 65536 + first + i)).owner = (s.region (st * 65536 + first + i)).owner) ∧
    t.rf (R.MEM_REGION_CMD_STATUS st) F.MEM_REGION_CMD_STATUS_BUSY = 1 ∧
    (t.stack st).cmd = some { op := 0, first := first, count := count } ∧ (∀ k, k ≠ st → t.stack k = s.stack k) ∧ t.resp.status = St.ok ∧
    t.cores = s.cores) ∧
  -- R237: a clear-now
  (∀ s (st first count : Nat), s.reach .mc (R.MEM_REGION_CMD st) = St.ok → (s.stack st).cmd = none → 0 < count → first + count ≤ 65536 →
    s.rangeLocked st first count = none → ∃ t, exec (.regionClearNow .mc st first count) s = .next t ∧
    t.rf (R.MEM_REGION_CMD_STATUS st) F.MEM_REGION_CMD_STATUS_BUSY = 1 ∧
    (t.stack st).cmd = some { op := 1, first := first, count := count } ∧ t.mem.hbm = s.mem.hbm ∧ t.resp.status = St.ok ∧
    t.cores = s.cores) ∧
  -- R237: a region command ends
  (∀ s (st : Nat) (c : RegionCmd), s.clk.on = true → (s.stack st).cmd = some c → (regionRange st c.first c.count).any (fun k => ((s.region k).st = 1 &&
    (s.region k).urgent) || (s.stack st).urgentQ.contains (k % 65536)) = false → c.count < 2 ^ 17 → ∃ t,
    exec (.regionCmdDone st) s = .next t ∧ t.rf (R.MEM_REGION_CMD_STATUS st) F.MEM_REGION_CMD_STATUS_BUSY = 0 ∧
    t.rf (R.MEM_REGION_CMD_STATUS st) F.MEM_REGION_CMD_STATUS_DONE = c.count ∧
    t.rf (R.MEM_REGION_CMD_STATUS st) F.MEM_REGION_CMD_STATUS_STATUS = St.ok ∧ (t.stack st).cmd = none ∧ (∀ k, k ≠ st →
    t.stack k = s.stack k) ∧ (∀ a, a ≠ R.MEM_REGION_CMD_STATUS st → t.reg a = s.reg a) ∧
    t = { s with mem := { s.mem with stk := t.mem.stk }, regs := t.regs })

/-- R181, R184, R186, R193, R195, R196, R206, R208: blocks of the layer store and the waiting requests of a bank. -/
def Obligations.BlocksComplete : Prop :=
  -- R186: a fill starts in a free way
  (∀ s (h w b cls tag way : Nat), s.clk.on = true → s.owner (b * 65536) = w → b < 2 ^ 23 → cls < 3 → blkHalf b = h → s.fixed b = false →
    s.fenced (b * 65536) = false → s.blk b = none → s.dueOf b = none → s.findFrame h w b cls = .free way → ∃ t, exec (.fillStart h w b cls tag) s = .next t ∧
    t.blk b = some { way := way, st := .filling, ward := w, cls := cls, tag := tag, dirty := [] } ∧ (∀ c, c ≠ b → t.blk c = s.blk c) ∧
    mget 0 t.mem.wayPtr h = (way + 1) % 16 ∧ t = { s with mem := { s.mem with blocks := t.mem.blocks, wayPtr := t.mem.wayPtr } }) ∧
  -- R186: a migration of a block that is present gives it its class and tag
  (∀ s (h w b cls tag : Nat) (x : Blk), s.clk.on = true → s.owner (b * 65536) = w → b < 2 ^ 23 → cls < 3 → blkHalf b = h → s.fixed b = false →
    s.fenced (b * 65536) = false → s.blk b = some x → x.st = .clean ∨ x.st = .dirty → ∃ t, exec (.fillStart h w b cls tag) s = .next t ∧
    t.blk b = some { x with cls := cls, tag := tag } ∧ (∀ c, c ≠ b → t.blk c = s.blk c) ∧
    t = { s with mem := { s.mem with blocks := t.mem.blocks } }) ∧
  -- R190, R195: one of another half, or fixed, is passed over
  (∀ s (h w b cls tag : Nat), s.clk.on = true → blkHalf b ≠ h ∨ s.fixed b = true → ∃ t, exec (.fillStart h w b cls tag) s = .next t ∧ t = s) ∧
  -- R186, R192: a fill of lines that are good and not cached ends CLEAN, with the lines of home
  (∀ s (b : Nat) (x : Blk), s.clk.on = true → s.blk b = some x → x.st = .filling → x.dirty = [] → s.fenced (b * 65536) = false →
    (s.region (blkRegion b)).st = 2 → s.mem.cache = [] → s.mem.marks.filter (fun e => e.1 / 1024 = b) = [] → s.mem.waiting = [] →
    s.mem.finds = [] → s.mem.walkers = [] → ∃ t,
    exec (.fillDone b) s = .next t ∧ t.blk b = some { x with st := .clean } ∧ (∀ l, l / 1024 = b → t.frameLine l = s.dramLine l ∧
    t.fmark l = .ok) ∧ (∀ c, c ≠ b → t.blk c = s.blk c) ∧ t.mem.hbm = s.mem.hbm ∧
    t = { s with mem := { s.mem with blocks := t.mem.blocks, frame := t.mem.frame, fmarks := t.mem.fmarks, moverBusy := t.mem.moverBusy, bucket := t.mem.bucket } }) ∧
  -- R186, R193: the drain of one good dirty line of a block that keeps its frame
  (∀ s (b i : Nat) (x : Blk), s.clk.on = true → s.blk b = some x → x.st = .drainKeep → x.dirty = [(i, true)] → i < 1024 → s.fenced (b * 65536) = false →
    (s.region (blkRegion b)).st = 2 → s.mem.cache = [] → s.fmark (b * 1024 + i) = .ok → s.mem.waiting = [] →
    s.mem.walkers = [] → ∃ t,
    exec (.drainDone b) s = .next t ∧ t.dramLine (b * 1024 + i) = s.frameLine (b * 1024 + i) ∧ (∀ l, l ≠ b * 1024 + i →
    t.dramLine l = s.dramLine l) ∧ t.blk b = some { x with st := .clean, dirty := [] } ∧ (∀ c, c ≠ b → t.blk c = s.blk c) ∧
    t.mem.frame = s.mem.frame ∧
    t = { s with mem := { s.mem with blocks := t.mem.blocks, hbm := t.mem.hbm, marks := t.mem.marks, moverBusy := t.mem.moverBusy, bucket := t.mem.bucket } }) ∧
  -- R186: the end of a drain that gives up the frame
  (∀ s (b : Nat) (x : Blk), s.clk.on = true → s.blk b = some x → x.st = .drainRelease → s.fenced (b * 65536) = false →
    (s.region (blkRegion b)).st = 2 → s.mem.waiting = [] → mget none s.mem.due b = none →
    s.mem.walkers = [] → ∃ t,
    exec (.drainDone b) s = .next t ∧ t.blk b = none ∧ (∀ c, c ≠ b → t.blk c = s.blk c) ∧ t.regs = s.regs ∧ t.cores = s.cores) ∧
  -- R208: a slot of a bank serves the request whose turn it is
  (∀ s (st bank : Nat) (w : WaitAcc), s.clk.on = true → s.slotWinner st bank = some w → ∃ t, exec (.bankSlotGrant st bank) s = .next t ∧
    mget 0 t.mem.bankLast (st * 4096 + bank) = turnOf w.who + 1 ∧ t.resp.status = ((s.unwait w).tryLine w).status ∧ t.cores = s.cores) ∧
  -- a bank with no waiting request that may proceed
  (∀ s (st bank : Nat), s.clk.on = true → s.slotWinner st bank = none → ∃ t, exec (.bankSlotGrant st bank) s = .next t ∧ t = s)

/-- R197 to R199, R202, R216: the walkers and the operations of TIER_OP_CTRL. -/
def Obligations.WalkersComplete : Prop :=
  -- R216: an enabled walker with entries runs from the first
  (∀ s (who : Requester) (h w : Nat) (v : W64), h < 2 → w < 8 → ServedNow s who = true → s.reach who (R.TIER_WALK_CTRL h w) = St.ok →
    s.rf (R.TIER_WALK_CTRL h w) F.TIER_WALK_CTRL_ENABLE = 0 →
    (((s.plainWrite (R.TIER_WALK_CTRL h w) (setFld v 0 1 1) 0 64).setReg (R.TIER_WALK_STATUS h w) 0).setWalker h w {}).foreignEngine h ((s.plainWrite (R.TIER_WALK_CTRL h w) (setFld v 0 1 1) 0 64).walkCtl h w F.TIER_WALK_CTRL_LC_ENGINE) w = false →
    s.rf (R.TIER_WALK_LEN h w) F.TIER_WALK_LEN_ENTRIES ≠ 0 → ∃ t, exec (.walkEnable who h w v) s = .next t ∧
    t.walkSt h w F.TIER_WALK_STATUS_RUNNING = 1 ∧ t.walkSt h w F.TIER_WALK_STATUS_POS = 0 ∧ t.walkSt h w F.TIER_WALK_STATUS_PASS = 0 ∧
    t.walker h w = {} ∧
    t.reg (R.TIER_WALK_CTRL h w) = writeFields (fieldsAt (R.TIER_WALK_CTRL h w)) (s.reg (R.TIER_WALK_CTRL h w)) (setFld v 0 1 1) 0 64 ∧
    (∀ a, a ≠ R.TIER_WALK_CTRL h w → a ≠ R.TIER_WALK_STATUS h w → t.reg a = s.reg a) ∧ t.resp.status = St.ok ∧
    t = { s with mem := { s.mem with walkers := t.mem.walkers }, regs := t.regs, resp := t.resp }) ∧
  -- R216: a disabled walker stops running and waiting
  (∀ s (who : Requester) (h w : Nat), h < 2 → w < 8 → ServedNow s who = true → s.reach who (R.TIER_WALK_CTRL h w) = St.ok → ∃ t,
    exec (.walkDisable who h w) s = .next t ∧ t.rf (R.TIER_WALK_CTRL h w) F.TIER_WALK_CTRL_ENABLE = 0 ∧
    t.walkSt h w F.TIER_WALK_STATUS_RUNNING = 0 ∧ t.walkSt h w F.TIER_WALK_STATUS_WAITING = 0 ∧
    t.walkSt h w F.TIER_WALK_STATUS_POS = s.walkSt h w F.TIER_WALK_STATUS_POS ∧ (∀ a, a ≠ R.TIER_WALK_CTRL h w →
    a ≠ R.TIER_WALK_STATUS h w → t.reg a = s.reg a) ∧ t.resp.status = St.ok ∧ t = { s with regs := t.regs, resp := t.resp }) ∧
  -- R216: a stopped walker tries its entry again
  (∀ s (who : Requester) (h w : Nat), h < 2 → w < 8 → ServedNow s who = true → s.reach who (R.TIER_WALK_CTRL h w) = St.ok →
    s.walkSt h w F.TIER_WALK_STATUS_STOPPED = 1 → s.rf (R.TIER_WALK_CTRL h w) F.TIER_WALK_CTRL_ENABLE = 1 → s.walkForeign h w = false → ∃ t,
    exec (.walkResume who h w) s = .next t ∧ t.walkSt h w F.TIER_WALK_STATUS_RUNNING = 1 ∧ t.walkSt h w F.TIER_WALK_STATUS_STOPPED = 0 ∧
    t.walkSt h w F.TIER_WALK_STATUS_STATUS = 0 ∧ t.walkSt h w F.TIER_WALK_STATUS_POS = s.walkSt h w F.TIER_WALK_STATUS_POS ∧ (∀ a,
    a ≠ R.TIER_WALK_STATUS h w → t.reg a = s.reg a) ∧ t.resp.status = St.ok ∧ t = { s with regs := t.regs, resp := t.resp }) ∧
  -- R198: an entry that the layer counter has not reached is not started
  (∀ s (h w : Nat) (r : State × W64 × W64 × Nat), s.clk.on = true → s.walkSt h w F.TIER_WALK_STATUS_RUNNING = 1 → (s.walker h w).active = false →
    s.readEntry h w = r → r.2.2.2 = St.ok → r.1.layerReached h w (fld r.2.1 48 16) = false → ∃ t, exec (.walkEntryStart h w) s = .next t ∧
    t = r.1) ∧
  -- R199: one that fails its checks stops the walker with the status
  (∀ s (h w st : Nat) (r : State × W64 × W64 × Nat), s.clk.on = true → h < 2 → w < 8 → s.walkSt h w F.TIER_WALK_STATUS_RUNNING = 1 →
    (s.walker h w).active = false → s.readEntry h w = r → r.2.2.2 = St.ok → r.1.layerReached h w (fld r.2.1 48 16) = true →
    worst (chk (fld r.2.2.1 32 4 ≠ 1) St.bounds) (r.1.objectChk (fld r.2.2.1 24 2) (fld r.2.2.1 26 2) (fld r.2.1 0 48) (fld r.2.2.1 0 23) w) = st →
    st ≠ St.ok → st < 16 → ∃ t, exec (.walkEntryStart h w) s = .next t ∧ t.walkSt h w F.TIER_WALK_STATUS_STOPPED = 1 ∧
    t.walkSt h w F.TIER_WALK_STATUS_RUNNING = 0 ∧ t.walkSt h w F.TIER_WALK_STATUS_STATUS = st ∧ t.walker h w = {} ∧
    t.mem.blocks = r.1.mem.blocks) ∧
  -- R199: one that passes them is handled from its first block
  (∀ s (h w : Nat) (r : State × W64 × W64 × Nat), s.clk.on = true → s.walkSt h w F.TIER_WALK_STATUS_RUNNING = 1 → (s.walker h w).active = false →
    s.readEntry h w = r → r.2.2.2 = St.ok → r.1.layerReached h w (fld r.2.1 48 16) = true → fld r.2.2.1 32 4 = 1 →
    r.1.objectChk (fld r.2.2.1 24 2) (fld r.2.2.1 26 2) (fld r.2.1 0 48) (fld r.2.2.1 0 23) w = St.ok → ∃ t,
    exec (.walkEntryStart h w) s = .next t ∧ (t.walker h w).active = true ∧ (t.walker h w).entry = { w0 := r.2.1, w1 := r.2.2.1 } ∧
    t.cores = s.cores) ∧
  -- R199: a waiting walker tries its block again
  (∀ s (h w : Nat), s.clk.on = true → s.walkSt h w F.TIER_WALK_STATUS_RUNNING = 1 → (s.walker h w).active = true →
    s.walkSt h w F.TIER_WALK_STATUS_WAITING = 1 → ∃ t, exec (.walkFrameAvailable h w) s = .next t ∧ t = s.walkOn h w ∧
    (t.walker h w).active = true ∧ t.cores = s.cores) ∧
  -- R199: an entry whose blocks are all handled ends; the next follows
  (∀ s (h w : Nat), s.clk.on = true → h < 2 → w < 8 → s.walkSt h w F.TIER_WALK_STATUS_RUNNING = 1 → (s.walker h w).active = true →
    (s.walker h w).next = (s.walker h w).first + (s.walker h w).count → s.moving h (s.walker h w).first (s.walker h w).count = false →
    s.walkCtl h w F.TIER_WALK_CTRL_SIG_EN = 0 →
    s.walkSt h w F.TIER_WALK_STATUS_POS + 1 < s.rf (R.TIER_WALK_LEN h w) F.TIER_WALK_LEN_ENTRIES → ∃ t,
    exec (.walkEntryDone h w) s = .next t ∧ (t.walker h w).active = false ∧
    t.walkSt h w F.TIER_WALK_STATUS_POS = s.walkSt h w F.TIER_WALK_STATUS_POS + 1 ∧ t.walkSt h w F.TIER_WALK_STATUS_RUNNING = 1 ∧ (∀ a,
    a ≠ R.TIER_WALK_STATUS h w → t.reg a = s.reg a) ∧ t = { s with mem := { s.mem with walkers := t.mem.walkers }, regs := t.regs }) ∧
  -- R202: migrate
  (∀ s (who : Requester) (h count cls w : Nat), h < 2 → ServedNow s who = true → s.reach who (R.TIER_OP_CTRL h) = St.ok →
    mget none s.mem.ops h = none → s.objectChk 0 cls (s.rf (R.TIER_OP_ADDR h) F.TIER_OP_ADDR_ADDR) count w = St.ok → ∃ t,
    exec (.tierOpMigrate who h count cls w) s = .next t ∧
    mget none t.mem.ops h = some { op := 0, first := s.rf (R.TIER_OP_ADDR h) F.TIER_OP_ADDR_ADDR / 65536, count := count } ∧
    t.rf (R.TIER_OP_STATUS h) F.TIER_OP_STATUS_BUSY = 1 ∧ t.rf (R.TIER_OP_STATUS h) F.TIER_OP_STATUS_STATUS = 0 ∧ t.resp.status = St.ok ∧
    t.cores = s.cores) ∧
  -- R202: evict
  (∀ s (who : Requester) (h count w : Nat), h < 2 → ServedNow s who = true → s.reach who (R.TIER_OP_CTRL h) = St.ok → mget none s.mem.ops h = none →
    s.objectChk 1 0 (s.rf (R.TIER_OP_ADDR h) F.TIER_OP_ADDR_ADDR) count w = St.ok → ∃ t, exec (.tierOpEvict who h count w) s = .next t ∧
    mget none t.mem.ops h = some { op := 1, first := s.rf (R.TIER_OP_ADDR h) F.TIER_OP_ADDR_ADDR / 65536, count := count } ∧
    t.rf (R.TIER_OP_STATUS h) F.TIER_OP_STATUS_BUSY = 1 ∧ t.rf (R.TIER_OP_STATUS h) F.TIER_OP_STATUS_STATUS = 0 ∧ t.resp.status = St.ok ∧
    t.cores = s.cores) ∧
  -- R202: clean
  (∀ s (who : Requester) (h count w : Nat), h < 2 → ServedNow s who = true → s.reach who (R.TIER_OP_CTRL h) = St.ok → mget none s.mem.ops h = none →
    s.objectChk 2 0 (s.rf (R.TIER_OP_ADDR h) F.TIER_OP_ADDR_ADDR) count w = St.ok → ∃ t, exec (.tierOpClean who h count w) s = .next t ∧
    mget none t.mem.ops h = some { op := 2, first := s.rf (R.TIER_OP_ADDR h) F.TIER_OP_ADDR_ADDR / 65536, count := count } ∧
    t.rf (R.TIER_OP_STATUS h) F.TIER_OP_STATUS_BUSY = 1 ∧ t.rf (R.TIER_OP_STATUS h) F.TIER_OP_STATUS_STATUS = 0 ∧ t.resp.status = St.ok ∧
    t.cores = s.cores) ∧
  -- R202: an object that is refused moves nothing
  (∀ s (who : Requester) (h count w : Nat), h < 2 → ServedNow s who = true → s.reach who (R.TIER_OP_CTRL h) = St.ok → mget none s.mem.ops h = none →
    count = 0 → ∃ t, exec (.tierOpEvict who h count w) s = .next t ∧ t.rf (R.TIER_OP_STATUS h) F.TIER_OP_STATUS_BUSY = 0 ∧
    t.rf (R.TIER_OP_STATUS h) F.TIER_OP_STATUS_STATUS = St.bounds ∧ (∀ a, a ≠ R.TIER_OP_STATUS h → t.reg a = s.reg a) ∧
    t.resp.status = St.ok ∧ t = { s with regs := t.regs, resp := t.resp }) ∧
  -- R202: the operation ends when nothing of its range moves
  (∀ s (h : Nat) (o : TierOp), s.clk.on = true → mget none s.mem.ops h = some o → s.moving h o.first o.count = false → ∃ t,
    exec (.tierOpDone h) s = .next t ∧ t.rf (R.TIER_OP_STATUS h) F.TIER_OP_STATUS_BUSY = 0 ∧ mget none t.mem.ops h = none ∧ (∀ a,
    a ≠ R.TIER_OP_STATUS h → t.reg a = s.reg a) ∧ t = { s with mem := { s.mem with ops := t.mem.ops }, regs := t.regs })

/-- R297, R299, R300, R303 to R306, R413: contexts in the cache, doorbells, and the registration of regions. -/
def Obligations.ContextsAndRegionsComplete : Prop :=
  -- R299: PROD
  (∀ s (who : Requester) (q v : Nat) (c : Ctx), ServedNow s who = true → s.reach who (R.XPORT_DOORBELL) = St.ok → s.ctxCached q = some c →
    c.enable = true → c.typ = 0 → ∃ t, exec (.xportDoorbell who q v) s = .next t ∧ t.ctx q = { c with w2 := setFld c.w2 0 32 v } ∧
    t.resp.status = St.ok ∧ t.cores = s.cores ∧
    t = { s with mem := t.mem, regs := t.regs, evt := t.evt, free := t.free, xport := t.xport, resp := t.resp }) ∧
  -- R300: CQ_CONS
  (∀ s (who : Requester) (q v : Nat) (c : Ctx), ServedNow s who = true → s.reach who (R.XPORT_CQ_DOORBELL) = St.ok → s.ctxCached q = some c →
    c.enable = true → c.typ = 0 → ∃ t, exec (.xportCqDoorbell who q v) s = .next t ∧ t.ctx q = { c with w4 := setFld c.w4 32 32 v } ∧
    t.resp.status = St.ok ∧ t.cores = s.cores ∧
    t = { s with mem := t.mem, regs := t.regs, evt := t.evt, free := t.free, xport := t.xport, resp := t.resp }) ∧
  -- R299: a doorbell of a queue that is not in service as HOST has no effect on it
  (∀ s (who : Requester) (q v : Nat) (c : Ctx), ServedNow s who = true → s.reach who (R.XPORT_DOORBELL) = St.ok → s.ctxCached q = some c →
    c.enable = false ∨ c.typ ≠ 0 → ∃ t, exec (.xportDoorbell who q v) s = .next t ∧ t.ctx q = c ∧ t.resp.status = St.ok ∧
    t = { s with regs := t.regs, evt := t.evt, xport := t.xport, resp := t.resp }) ∧
  -- R297: a context is shown in the data registers
  (∀ s (who : Requester) (q : Nat) (c : Ctx), ServedNow s who = true → s.reach who (R.XPORT_CTX_CMD) = St.ok → s.ctxCached q = some c → ∃ t,
    exec (.ctxCmdRead who q) s = .next t ∧ (∀ i, i < 8 → t.reg (R.XPORT_CTX_DATA i) = [c.w0, c.w1, c.w2, c.w3, c.w4, c.w5, c.w6,
    c.w7].getD i 0) ∧ t.rf R.XPORT_CTX_STATUS F.XPORT_CTX_STATUS_BUSY = 0 ∧ t.rf R.XPORT_CTX_STATUS F.XPORT_CTX_STATUS_STATUS = St.ok ∧
    t.ctx q = c ∧ t.resp.status = St.ok ∧ t = { s with regs := t.regs, xport := t.xport, resp := t.resp }) ∧
  -- R297: a context is written from the data registers; putting it into service clears ERROR
  (∀ s (who : Requester) (q : Nat) (old new : Ctx), ServedNow s who = true → s.reach who R.XPORT_CTX_CMD = St.ok → s.ctxCached q = some old → s.ctxData = new →
    s.ctxWriteChk q old new = St.ok → (lockable who && (match s.wardOfQueue q with | some w => s.locked w | none => false)) = false → ∃ t,
    exec (.ctxCmdWrite who q) s = .next t ∧ t.ctx q = (if new.enable then { new with w0 := setFld new.w0 13 1 0 } else new) ∧
    t.rf R.XPORT_CTX_STATUS F.XPORT_CTX_STATUS_BUSY = 0 ∧ t.resp.status = St.ok ∧ t.cores = s.cores ∧
    t = { s with mem := t.mem, regs := t.regs, evt := t.evt, free := t.free, xport := t.xport, resp := t.resp }) ∧
  -- R297: one that fails its checks is not
  (∀ s (who : Requester) (q : Nat) (old new : Ctx), ServedNow s who = true → s.reach who R.XPORT_CTX_CMD = St.ok → s.ctxCached q = some old → s.ctxData = new →
    s.ctxWriteChk q old new ≠ St.ok → s.ctxWriteChk q old new < 256 →
    (lockable who && (match s.wardOfQueue q with | some w => s.locked w | none => false)) = false → ∃ t, exec (.ctxCmdWrite who q) s = .next t ∧
    t.ctx q = old ∧ t.rf R.XPORT_CTX_STATUS F.XPORT_CTX_STATUS_STATUS = s.ctxWriteChk q old new ∧ t.resp.status = St.ok ∧
    t = { s with regs := t.regs, xport := t.xport, resp := t.resp }) ∧
  -- R413: a range that touches a slice of another owner
  (∀ (s : State) (w a n i : Nat), spaceOfRange a n = .unified → 0 < n → n ≤ 2 ^ 39 → i ≤ (a + n - 1) / 2 ^ 25 - a / 2 ^ 25 →
    s.sliceOwner (a / 2 ^ 25 + i) ≠ w → s.regionChkReg w a n = St.wardFault) ∧
  -- R303 to R305: a registration: a new key and a random access key
  (∀ s (who : Requester) (w i : Nat) (pw pr pa : Bool), ServedNow s who = true → s.reach who R.XPORT_REG_CTRL = St.ok →
    (lockable who && s.locked w) = false → s.xport.regBusy = none →
    s.wardState w = 1 → s.regionChkReg w (s.rf R.XPORT_REG_ADDR F.XPORT_REG_ADDR_ADDR) (s.rf R.XPORT_REG_LEN F.XPORT_REG_LEN_LEN) = St.ok →
    s.freeRegion = some i → s.rf R.SEC_STATUS F.SEC_STATUS_RNG_OK = 1 → ∃ t, exec (.regionRegister who w pw pr pa) s = .next t ∧
    t.xregion i = some { base := s.rf R.XPORT_REG_ADDR F.XPORT_REG_ADDR_ADDR, len := s.rf R.XPORT_REG_LEN F.XPORT_REG_LEN_LEN, ward := w, permWrite := pw, permRead := pr, permAtomic := pa, sig := s.reg R.XPORT_REG_SIG, access := (Config.randomWord s.rnd).toNat % 2 ^ 32, phase := 0 } ∧
    mget 0 t.xport.gens i = mget 0 s.xport.gens i + 1 ∧ t.xport.regBusy = some i ∧ t.rf R.XPORT_REG_STATUS F.XPORT_REG_STATUS_BUSY = 1 ∧
    (∀ j, j ≠ i → t.xregion j = s.xregion j) ∧ (∀ a, a ≠ R.XPORT_REG_STATUS → t.reg a = s.reg a) ∧ t.resp.status = St.ok ∧
    t = { s with regs := t.regs, xport := t.xport, rnd := s.rnd + 1, resp := t.resp }) ∧
  -- R304: it ends when no block of the range moves, with the keys shown
  (∀ s (i : Nat) (r : XRegion), s.clk.on = true → s.xport.regBusy = some i → s.xregion i = some r → r.phase = 0 → s.rangeMoving r.base r.len = false →
    i < 65536 → mget 0 s.xport.gens i < 65536 → r.access < 2 ^ 32 → ∃ t, exec (.regCmdDone) s = .next t ∧
    t.xregion i = some { r with phase := 1 } ∧ t.xport.regBusy = none ∧
    t.rf R.XPORT_REG_KEY F.XPORT_REG_KEY_REGION_KEY = mget 0 s.xport.gens i * 65536 + i ∧
    t.rf R.XPORT_REG_KEY F.XPORT_REG_KEY_ACCESS_KEY = r.access ∧ t.rf R.XPORT_REG_STATUS F.XPORT_REG_STATUS_BUSY = 0 ∧ (∀ a,
    a ≠ R.XPORT_REG_KEY → a ≠ R.XPORT_REG_STATUS → t.reg a = s.reg a) ∧ t = { s with regs := t.regs, xport := t.xport }) ∧
  -- R306: a deregistration: no packet naming the region is accepted any more
  (∀ s (who : Requester) (w : Nat) (r : XRegion), ServedNow s who = true → s.reach who (R.XPORT_REG_CTRL) = St.ok → s.xport.regBusy = none →
    s.xregion (s.rf R.XPORT_REG_KEY F.XPORT_REG_KEY_REGION_KEY % 65536) = some r →
    mget 0 s.xport.gens (s.rf R.XPORT_REG_KEY F.XPORT_REG_KEY_REGION_KEY % 65536) = s.rf R.XPORT_REG_KEY F.XPORT_REG_KEY_REGION_KEY / 65536 →
    r.ward = w → ∃ t, exec (.regionDeregister who w) s = .next t ∧
    t.xregion (s.rf R.XPORT_REG_KEY F.XPORT_REG_KEY_REGION_KEY % 65536) = some { r with phase := 2 } ∧
    t.regionByKey (s.rf R.XPORT_REG_KEY F.XPORT_REG_KEY_REGION_KEY) r.access = none ∧
    t.xport.regBusy = some (s.rf R.XPORT_REG_KEY F.XPORT_REG_KEY_REGION_KEY % 65536) ∧
    t.rf R.XPORT_REG_STATUS F.XPORT_REG_STATUS_BUSY = 1 ∧ (∀ a, a ≠ R.XPORT_REG_STATUS → t.reg a = s.reg a) ∧ t.resp.status = St.ok ∧
    t = { s with regs := t.regs, xport := t.xport, resp := t.resp }) ∧
  -- R306: and it is gone
  (∀ s (i : Nat) (r : XRegion), s.clk.on = true → s.xport.regBusy = some i → s.xregion i = some r → r.phase ≠ 0 → ∃ t, exec (.regCmdDone) s = .next t ∧
    t.xregion i = none ∧ t.xport.regBusy = none ∧ t.rf R.XPORT_REG_STATUS F.XPORT_REG_STATUS_BUSY = 0 ∧ (∀ a, a ≠ R.XPORT_REG_STATUS →
    t.reg a = s.reg a) ∧ t = { s with regs := t.regs, xport := t.xport })

/-- R117, R281, R299 to R302: the descriptors of a HOST queue, completion entries, and SEND and RECV through queues. -/
def Obligations.DescriptorsComplete : Prop :=
  -- WRITE
  (∀ s (q : Nat) (d : Desc) (s0 s1 : State) , s.clk.on = true → (s.ctxLoad q).1 = s0 → s0.descReady q = true → s0.descNext q = (s1, d, St.ok) →
    d.bad = false → d.op = 1 → (s1.descTaken q).localBad q d.loc d.len = false → ∃ t, exec (.descWrite q) s = .next t ∧
    t = (s1.descTaken q).submit ((s1.descTaken q).descMsg q d 0) ∧ ((s1.descTaken q).descMsg q d 0).kind = 0 ∧
    ((s1.descTaken q).descMsg q d 0).len = d.len ∧ ((s1.descTaken q).descMsg q d 0).off = fld d.w3 0 48) ∧
  -- READ
  (∀ s (q : Nat) (d : Desc) (s0 s1 : State) , s.clk.on = true → (s.ctxLoad q).1 = s0 → s0.descReady q = true → s0.descNext q = (s1, d, St.ok) →
    d.bad = false → d.op = 2 → (s1.descTaken q).localBad q d.loc d.len = false → ∃ t, exec (.descRead q) s = .next t ∧
    t = (s1.descTaken q).submit ((s1.descTaken q).descMsg q d 1) ∧ ((s1.descTaken q).descMsg q d 1).kind = 1 ∧
    ((s1.descTaken q).descMsg q d 1).len = d.len ∧ ((s1.descTaken q).descMsg q d 1).off = fld d.w3 0 48) ∧
  -- SEND
  (∀ s (q : Nat) (d : Desc) (s0 s1 : State) , s.clk.on = true → (s.ctxLoad q).1 = s0 → s0.descReady q = true → s0.descNext q = (s1, d, St.ok) →
    d.bad = false → d.op = 3 → (s1.descTaken q).localBad q d.loc d.len = false → ∃ t, exec (.descSend q) s = .next t ∧
    t = (s1.descTaken q).submit ((s1.descTaken q).descMsg q d 3) ∧ ((s1.descTaken q).descMsg q d 3).kind = 3 ∧
    ((s1.descTaken q).descMsg q d 3).len = d.len ∧ ((s1.descTaken q).descMsg q d 3).off = fld d.w3 0 48) ∧
  -- ATOMIC: the operation word goes before the operand
  (∀ s (q : Nat) (d : Desc) (s0 s1 : State) , s.clk.on = true → (s.ctxLoad q).1 = s0 → s0.descReady q = true → s0.descNext q = (s1, d, St.ok) →
    d.bad = false → d.op = 4 → (s1.descTaken q).localBad q d.loc d.len = false → fetchBytes d.w6 = 0 ∨
    (s1.descTaken q).localBad q (d.loc + 64) (fetchBytes d.w6) = false → ∃ t, exec (.descAtomic q) s = .next t ∧
    t = (s1.descTaken q).submit { (s1.descTaken q).descMsg q d 4 with data := leBytes 8 d.w6.toNat }) ∧
  -- RECV posts its buffer
  (∀ s (q : Nat) (d : Desc) (s0 s1 : State) , s.clk.on = true → (s.ctxLoad q).1 = s0 → s0.descReady q = true → s0.descNext q = (s1, d, St.ok) →
    d.bad = false → d.op = 5 → (s1.descTaken q).localBad q d.loc d.len = false → ∃ t, exec (.descRecv q) s = .next t ∧
    mget [] t.xport.posted q = mget [] (s1.descTaken q).xport.posted q ++
    [{ origin := d.origin, core := none, addr := d.loc, cap := d.len, ward := ((s1.descTaken q).ctx q).ward, hint := d.hint }] ∧
    t = { s1.descTaken q with xport := t.xport }) ∧
  -- R14, R299: a bad descriptor completes BOUNDS, or WARD_FAULT where its LOCAL_ADDR lies outside the ward as well
  (∀ s (q : Nat) (d : Desc) (s0 s1 : State) , s.clk.on = true → (s.ctxLoad q).1 = s0 → s0.descReady q = true → s0.descNext q = (s1, d, St.ok) →
    d.bad = true → ∃ t, exec (.descInvalid q) s = .next t ∧ mget [] t.xport.cqWait q = mget [] (s1.descTaken q).xport.cqWait q ++
    [{ status := if (s1.descTaken q).localBad q d.loc (max 1 d.len) then St.wardFault else St.bounds, op := d.op, tag := fld d.w0 32 32, bytes := 0, src := 0, cq := bitAt d.w0.toNat 12, sig := bitAt d.w0.toNat 13 }] ∧
    t = { s1.descTaken q with xport := t.xport }) ∧
  -- a queue that has no descriptor
  (∀ s (q : Nat) (c : Ctx), s.clk.on = true → s.ctxCached q = some c → c.prod = c.cons → ∃ t, exec (.descWrite q) s = .next t ∧ t = (s.ctxLoad q).1 ∧
    t.ctx q = c) ∧
  -- R300: a completion entry advances CQ_PROD
  (∀ s (q : Nat) (c : Ctx) (e : CqE) (rest : List CqE), s.clk.on = true → s.ctxCached q = some c → mget [] s.xport.cqWait q = e :: rest → e.cq = true →
    e.sig = false → e.ack = none → c.cqFull = false → ∃ t, exec (.cqEntryWrite q) s = .next t ∧ mget [] t.xport.cqWait q = rest ∧
    (t.ctx q).cqProd = (c.cqProd + 1) % 2 ^ 32 ∧ (t.ctx q).cqCons = c.cqCons ∧ t.cores = s.cores ∧
    t = { s with mem := t.mem, regs := t.regs, evt := t.evt, free := t.free, xport := t.xport }) ∧
  -- R302: a SEND through a queue from device memory is submitted
  (∀ s (core : Nat) (e : Issued) (s1 : State), s.front core 0x60 = some e → e.cmd.dkind = 1 → s.aborting core = false →
    s.queueChk core (fld e.cmd.w2 36 20) = (s1, St.ok) → e.cmd.length % 16 = 0 → s.moveChk core [0,
    2] (operand e.cmd.w1) 1 e.cmd.length e.cmd.length = St.ok → (operand e.cmd.w1).space = 2 → ∃ t,
    exec (.sendQueue core []) s = .next t ∧
    t = s1.submit { s1.queueMsg core e.ord (fld e.cmd.w2 36 20) (if bitAt (s1.ctx (fld e.cmd.w2 36 20)).w7.toNat 17 then
    3 else 0) e.cmd.length (operand e.cmd.w1).addr (if bitAt (s1.ctx (fld e.cmd.w2 36 20)).w7.toNat 17 then
    0 else fld e.cmd.w2 0 22 * 64) with hint := (operand e.cmd.w1).hint }) ∧
  -- R302: a RECV posts its buffer and is held
  (∀ s (core : Nat) (e : Issued) (s1 : State), s.front core 0x61 = some e → s.aborting core = false →
    s.queueChk core (fld e.cmd.w2 0 20) = (s1, St.ok) → fld e.cmd.w2 20 22 % 8 = 0 → fld e.cmd.w2 20 22 + 8 ≤ storeSize core →
    s.moveChk core [0, 2] (operand e.cmd.w1) 1 (fld e.cmd.w3 0 32) (fld e.cmd.w3 0 32) = St.ok →
    ∃ t, exec (.recv core) s = .next t ∧ Ended s1 t core e.ord (.held) ∧
    mget [] t.xport.posted (fld e.cmd.w2 0 20) = mget [] s1.xport.posted (fld e.cmd.w2 0 20) ++
    [recvBuf core e.ord ((s1.wardOfCore core).getD 0xFF) (operand e.cmd.w1) (fld e.cmd.w3 0 32)] ∧
    t = { s1 with cores := t.cores, xport := t.xport }) ∧
  -- R117: a RECV that times out: its record, and its status
  (∀ s (core : Nat) (e : Issued) (b : RecvBuf), s.clk.on = true → (s.core core).issued.find? (fun x => x.cmd.opcode = 0x61 && x.phase = .held &&
    fld x.cmd.w3 32 16 ≠ 0 && (mget [] s.xport.posted (fld x.cmd.w2 0 20)).any (fun c => c.origin = .cmd core x.ord)) = some e →
    (s.core core).issued.find? (fun x => x.ord = e.ord) = some e →
    (mget [] s.xport.posted (fld e.cmd.w2 0 20)).find? (fun c => c.origin = .cmd core e.ord) = some b → b.origin = .cmd core e.ord →
    s.aborting core = false → (s.ctxCached (fld e.cmd.w2 0 20)).any (fun c => !bitAt c.w7.toNat 6) = true → ∃ t,
    exec (.recvTimeout core) s = .next t ∧ Ended s t core e.ord (.done St.timeout) ∧
    mget [] t.xport.posted (fld e.cmd.w2 0 20) = (mget [] s.xport.posted (fld e.cmd.w2 0 20)).filter (fun c => c.origin ≠ .cmd core e.ord) ∧
    t.csBytes core (fld e.cmd.w2 20 22) 8 = recvRecord 0 St.timeout (s.freeW.toNat % 65536) ∧ StoreFrame s t core [(fld e.cmd.w2 20 22,
    8)] ∧ t.free = s.free + 1 ∧ t.regs = s.regs)

/-- R276, R277, R283, R285, R287, R289, R291 to R294, R301, R313, R322: what each kind of received packet does once R275 to R280 have accepted it. -/
def Obligations.ReceivedPacketsComplete : Prop :=
  -- a packet that is not accepted has no further effect
  (∀ s (s1 : State) (rx : RxInfo) (pkt : Packet), s.clk.on = true → pkt.typ = 0 → s.rxGate rx pkt true = (s1, false) → ∃ t,
    exec (.rxWrite rx pkt) s = .next t ∧ t = s1) ∧
  -- R292: a WRITE without a region: NAK KEY_DENIED
  (∀ s (s1 : State) (rx : RxInfo) (pkt : Packet), s.clk.on = true → pkt.typ = 0 → s.rxGate rx pkt true = (s1, true) → s1.collDrops pkt = false →
    s1.asleep = false → pkt.coll = false → pkt.msgLen ≤ s1.maxMsg → pkt.last = false → s1.regionByKey pkt.regionKey pkt.accessKey = none →
    ∃ t, exec (.rxWrite rx pkt) s = .next t ∧
    t = s1.nak rx pkt 0xFF St.keyDenied ∧
    t.mem = s1.mem) ∧
  -- R283, R293: a WRITE packet that is not the last lands, and its ACK is coalesced
  (∀ s (s1 : State) (rx : RxInfo) (pkt : Packet) (r : XRegion) (x : State × Nat), s.clk.on = true → pkt.typ = 0 → s.rxGate rx pkt true = (s1, true) →
    s1.collDrops pkt = false → s1.asleep = false → pkt.coll = false → pkt.msgLen ≤ s1.maxMsg → pkt.last = false → pkt.xmit = 0 →
    s1.regionChk rx pkt (·.permWrite) (fun _ => decide (pkt.msgLen < pkt.pktIndex * s1.psize + pkt.payload.length)) pkt.offset pkt.msgLen = (St.ok, some r) →
    (s1.chargeRx rx.port r.ward pkt.payload.length).devWrite (r.base + pkt.offset + pkt.pktIndex * s1.psize) 0 pkt.payload = x →
    x.2 = St.ok → s1.xport.coal.find? (fun e => e.1 = msgKey pkt.srcDev pkt.msgId) = none → ∃ t, exec (.rxWrite rx pkt) s = .next t ∧
    t.mem = x.1.mem ∧ t.xport.coal = s1.xport.coal.filter (fun e => e.1 ≠ msgKey pkt.srcDev pkt.msgId) ++ [(msgKey pkt.srcDev pkt.msgId,
    { pkt := pkt, port := rx.port, ward := r.ward, idxs := [pkt.pktIndex], ece := rx.ce, slow := (s1.chargeRx rx.port r.ward pkt.payload.length).landsSlow (r.base + pkt.offset + pkt.pktIndex * s1.psize) pkt.payload.length })] ∧
    t = { s1 with mem := t.mem, regs := t.regs, evt := t.evt, free := t.free, xport := t.xport, ports := t.ports, pwr := t.pwr }) ∧
  -- R277, R292: a READ_REQ is answered with the data
  (∀ s (s1 : State) (rx : RxInfo) (pkt : Packet) (r : XRegion) (x : State × Nat), s.clk.on = true → pkt.typ = 1 → s.rxGate rx pkt true = (s1, true) →
    s1.collDrops pkt = false → s1.asleep = false → pkt.coll = false → pkt.msgLen ≤ s1.maxMsg →
    s1.regionChk rx pkt (·.permRead) (fun _ => false) (pkt.offset + pkt.pktIndex * s1.psize) pkt.msgLen = (St.ok, some r) →
    (s1.chargeRx rx.port r.ward 0).readOut rx pkt r.ward (r.base + (pkt.offset + pkt.pktIndex * s1.psize)) = x → x.2 = St.ok → ∃ t,
    exec (.rxReadReq rx pkt) s = .next t ∧ t = x.1 ∧ t.cores = s1.cores) ∧
  -- R287: an ATOMIC that the filter has answered is answered again and not executed
  (∀ s (s1 : State) (rx : RxInfo) (pkt : Packet) (a : Packet) (w : Nat), s.clk.on = true → pkt.typ = 4 → s.rxGate rx pkt true = (s1, true) →
    s1.collDrops pkt = false → s1.asleep = false → pkt.coll = false →
    s1.xport.filter.find? (fun e => e.1 = msgKey pkt.srcDev pkt.msgId) = some (msgKey pkt.srcDev pkt.msgId, some (a, w)) → ∃ t,
    exec (.rxAtomic rx pkt) s = .next t ∧ t = (s1.chargeRx rx.port w pkt.payload.length).sendBack rx.port { a with xmit := pkt.xmit } w ∧ t.mem = s1.mem ∧
    t.xport.filter = s1.xport.filter) ∧
  -- R292: an ATOMIC without a region: NAK KEY_DENIED, kept in the filter
  (∀ s (s1 : State) (rx : RxInfo) (pkt : Packet), s.clk.on = true → pkt.typ = 4 → s.rxGate rx pkt true = (s1, true) → s1.collDrops pkt = false →
    s1.asleep = false → pkt.coll = false → pkt.msgLen ≤ s1.maxMsg →
    s1.xport.filter.find? (fun e => e.1 = msgKey pkt.srcDev pkt.msgId) = none → s1.xport.filter.length < 65536 →
    s1.regionByKey pkt.regionKey pkt.accessKey = none → ∃ t, exec (.rxAtomic rx pkt) s = .next t ∧
    (t.xport.filter.find? (fun e => e.1 = msgKey pkt.srcDev pkt.msgId)).isSome = true ∧ t.mem = s1.mem ∧ t.cores = s1.cores) ∧
  -- an ATOMIC on memory
  (∀ s (s1 : State) (rx : RxInfo) (pkt : Packet) (r : XRegion) (x : State × List Byte × Nat), s.clk.on = true → pkt.typ = 4 → s.rxGate rx pkt true = (s1,
    true) → s1.collDrops pkt = false → s1.asleep = false → pkt.coll = false →
    s1.xport.filter.find? (fun e => e.1 = msgKey pkt.srcDev pkt.msgId) = none → s1.xport.filter.length < 65536 →
    pkt.msgLen ≤ s1.maxMsg →
    s1.regionChk rx pkt (·.permAtomic) (atomicBad pkt (BitVec.ofNat 64 (leNat (pkt.payload.take 8))) (pkt.payload.drop 8)) pkt.offset pkt.msgLen = (St.ok, some r) →
    ((s1.modX (fun y => { y with filter := y.filter ++ [(msgKey pkt.srcDev pkt.msgId, none)] })).chargeRx rx.port r.ward pkt.payload.length).uAtomic (r.base + pkt.offset) (BitVec.ofNat 64 (leNat (pkt.payload.take 8))) (pkt.payload.drop 8) = x →
    x.2.2 = St.ok → ∃ t, exec (.rxAtomic rx pkt) s = .next t ∧ 
    t = x.1.ack rx pkt r.ward (s1.landsSlow (r.base + pkt.offset) 1) (x.2.1.take 64) ∧ t.mem = x.1.mem) ∧
  -- R294: a SEND without a posted buffer: NAK NOT_READY
  (∀ s (s1 : State) (rx : RxInfo) (pkt : Packet) (c : Ctx), s.clk.on = true → pkt.typ = 3 → s.rxGate rx pkt true = (s1, true) → s1.collDrops pkt = false →
    s1.asleep = false → pkt.coll = false → pkt.msgLen ≤ s1.maxMsg → pkt.last = false → s1.ctxCached pkt.dstQueue = some c →
    s1.wardTakes c.ward rx pkt = true → s1.xport.asm.find? (fun e => e.1 = msgKey pkt.srcDev pkt.msgId) = none →
    mget [] s1.xport.posted pkt.dstQueue = [] → ∃ t, exec (.rxSend rx pkt) s = .next t ∧
    t = ((s1.ctxKeep pkt.dstQueue c).chargeRx rx.port c.ward pkt.payload.length).nak rx pkt c.ward 0x80 ∧ t.mem = s1.mem) ∧
  -- R294: a SEND packet that is not the last lands in the buffer of a core
  (∀ s (s1 : State) (rx : RxInfo) (pkt : Packet) (c : Ctx) (b : RecvBuf) (k : Nat) (rest : List RecvBuf), s.clk.on = true → pkt.typ = 3 →
    s.rxGate rx pkt true = (s1, true) → s1.collDrops pkt = false → s1.asleep = false → pkt.coll = false → pkt.msgLen ≤ s1.maxMsg →
    pkt.last = false → s1.ctxCached pkt.dstQueue = some c → s1.wardTakes c.ward rx pkt = true →
    s1.xport.asm.find? (fun e => e.1 = msgKey pkt.srcDev pkt.msgId) = none → mget [] s1.xport.posted pkt.dstQueue = b :: rest →
    s1.xport.asm.length < 4096 → b.core = some k → pkt.pktIndex * s1.psize + pkt.payload.length ≤ b.cap → pkt.msgLen ≤ b.cap → ∃ t,
    exec (.rxSend rx pkt) s = .next t ∧ t.csBytes k (b.addr + pkt.pktIndex * s1.psize) pkt.payload.length = pkt.payload ∧
    StoreFrame s1 t k [(b.addr + pkt.pktIndex * s1.psize, pkt.payload.length)] ∧ mget [] t.xport.posted pkt.dstQueue = rest ∧
    t.cores = s1.cores) ∧
  -- R291, R301: the ACK of the last packet ends its message
  (∀ s (s1 : State) (rx : RxInfo) (pkt : Packet) (m : Msg), s.clk.on = true → pkt.typ = 5 → s.rxGate rx pkt true = (s1, true) → s1.answered rx pkt = some m →
    m.kind ≠ 1 → m.kind ≠ 4 → m.coll = none → pkt.msgLen = 1 → pkt.pktIndex + 1 = m.npkts → (m.pkt pkt.pktIndex).acked = none →
    (m.pkt pkt.pktIndex).copies ≠ [] → ∃ t, exec (.rxAck rx pkt) s = .next t ∧ t.msg m.id = none) ∧
  -- an answer that names no message
  (∀ s (s1 : State) (rx : RxInfo) (pkt : Packet), s.clk.on = true → pkt.typ = 5 → s.rxGate rx pkt true = (s1, true) → s1.answered rx pkt = none → ∃ t,
    exec (.rxAck rx pkt) s = .next t ∧ t = s1) ∧
  -- R289: NAK NOT_READY: the packet is held and sent again later
  (∀ s (s1 : State) (rx : RxInfo) (pkt : Packet) (m : Msg), s.clk.on = true → pkt.typ = 6 → s.rxGate rx pkt true = (s1, true) → s1.answered rx pkt = some m →
    s1.msg m.id = some m → m.kind ≠ 1 → pkt.status = 0x80 → bitAt pkt.msgLen 0 = false → pkt.pktIndex < m.npkts →
    (m.pkt pkt.pktIndex).acked = none → ∃ t,
    exec (.rxNak rx pkt) s = .next t ∧ (t.msg m.id).map (fun n => (n.pkt pkt.pktIndex).held) = some true ∧ t.mem = s1.mem) ∧
  -- R283: data of a READ lands at its place
  (∀ s (s1 : State) (rx : RxInfo) (pkt : Packet) (m : Msg) (x : State × Nat), s.clk.on = true → pkt.typ = 2 → s.rxGate rx pkt true = (s1, true) →
    pkt.coll = false → s1.answered rx pkt = some m → m.kind = 1 → pkt.pktIndex < m.npkts → nmem m.got pkt.pktIndex = false →
    ((s1.answerIn rx m pkt.payload.length).clearMiss m 0 pkt.xmit).devWrite (m.loc + pkt.pktIndex * m.psize) m.hint (pkt.payload.take (m.len - pkt.pktIndex * m.psize)) = x →
    ({ m with got := nput m.got pkt.pktIndex true } : Msg).missing ≠ [] → ∃ t, exec (.rxReadResp rx pkt) s = .next t ∧
    t = x.1.putMsg { m with got := nput m.got pkt.pktIndex true, st := worst m.st x.2, slow := m.slow || pkt.slow }) ∧
  -- R313: a probe is echoed
  (∀ s (s1 : State) (rx : RxInfo) (pkt : Packet), s.clk.on = true → pkt.typ = 7 → pkt.ctrlOp = 1 → s.rxGate rx pkt true = (s1, true) → ∃ t,
    exec (.rxProbe rx pkt) s = .next t ∧ t = s1.sendBack rx.port { s1.pkt0 7 pkt.srcDev with ctrlOp := 2 } 0xFF ∧ t.mem = s1.mem) ∧
  -- R313: the echo brings the port back for the destination
  (∀ s (s1 : State) (rx : RxInfo) (pkt : Packet) (i : Nat), s.clk.on = true → pkt.typ = 7 → pkt.ctrlOp = 2 → s.rxGate rx pkt true = (s1, true) →
    s1.routeOf pkt.srcDev = some i → i < 4096 → rx.port < 16 → bitAt (s1.rf (R.XPORT_ROUTE i) F.XPORT_ROUTE_DOWN) rx.port = true → ∃ t,
    exec (.rxProbeEcho rx pkt) s = .next t ∧ bitAt (t.rf (R.XPORT_ROUTE i) F.XPORT_ROUTE_DOWN) rx.port = false ∧
    t = { s1 with regs := t.regs, evt := t.evt }) ∧
  -- R322: an ABORT of a collective that is not open here is kept and acknowledged
  (∀ s (s1 : State) (rx : RxInfo) (pkt : Packet), s.clk.on = true → pkt.typ = 7 → pkt.ctrlOp = 3 → s.rxGate rx pkt true = (s1, true) →
    s1.collSeq pkt.collId (fun c => c.isOpen) = none → s1.collSeq pkt.collId (fun c => c.abort.isSome) = none → 1 ≤ pkt.status →
    pkt.status ≤ 0x0C → ∃ t, exec (.rxCtrlAbort rx pkt) s = .next t ∧ t = (s1.keepAbort pkt.collId pkt.status).ack rx pkt 0xFF false [] ∧
    t.xport.colls = s1.xport.colls ∧ t.mem = s1.mem)

/-- R281, R283 to R285, R287, R289, R290, R313, R320 to R322: the timers of the transport, where they are due. -/
def Obligations.TransportTimersComplete : Prop :=
  -- R284, R313: an unacknowledged packet is sent again on the next port
  (∀ s (i : Nat) (m : Msg) (k : Nat) (c : Copy) (l : List Copy) (s0 s1 : State) (m0 m1 : Msg), s.clk.on = true → s.msg i = some m → m.kind ≠ 1 →
    s.xportOn = true → (m.pkt k).copies = c :: l → (m.pkt k).acked = none → (m.pkt k).held = false → (m.pkt k).sends < m.retryMax + 1 →
    s.timedOut m c.port = (s0, m0) →
    s0.copyOut m0 k (c.xmit + 1) ((c.port + 1) % 16) (s0.msgPkt m0 k (c.xmit + 1)) true = .ok (s1, m1) → ∃ t,
    exec (.retxTimeout i k) s = .next t ∧ t = (s1.bump R.XPORT_RETX_COUNT F.XPORT_RETX_COUNT_COUNT 1).putMsg m1 ∧
    m0 = { m with cwnd := max 1 (m.cwnd / 2), run := 0 } ∧ t.mem = s.mem) ∧
  -- R284: one that has been sent RETRY_MAX + 1 times ends its message
  (∀ s (i : Nat) (m : Msg) (k : Nat) (c : Copy) (l : List Copy), s.clk.on = true → s.msg i = some m → m.kind ≠ 1 → m.coll = none →
    s.xportOn = true → (m.pkt k).copies = c :: l → (m.pkt k).acked = none → (m.pkt k).held = false → m.retryMax + 1 ≤ (m.pkt k).sends → ∃ t,
    exec (.retxTimeout i k) s = .next t ∧ t.msg i = none) ∧
  -- R284: a message or packet that is not there
  (∀ s (i k : Nat), s.clk.on = true → s.msg i = none → ∃ t, exec (.retxTimeout i k) s = .next t ∧ t = s) ∧
  -- R289: a held packet goes again; its retry is not counted
  (∀ s (i : Nat) (m : Msg) (k : Nat) (c : Copy) (l : List Copy) (s1 : State) (m0 m1 : Msg), s.clk.on = true → s.msg i = some m → m.kind ≠ 1 →
    s.xportOn = true → (m.pkt k).copies = c :: l → (m.pkt k).held = true → m.setPkt k { m.pkt k with held := false } = m0 →
    s.copyOut m0 k (c.xmit + 1) ((c.port + 1) % 16) (s.msgPkt m0 k (c.xmit + 1)) false = .ok (s1, m1) → ∃ t,
    exec (.nakRetryTimer i k) s = .next t ∧ t = (s1.bump R.XPORT_RETX_COUNT F.XPORT_RETX_COUNT_COUNT 1).putMsg m1 ∧ t.mem = s.mem) ∧
  -- R285: the last packet goes
  (∀ s (i : Nat) (m : Msg) (p : Bool) (s1 : State) (m1 : Msg), s.clk.on = true → s.msg i = some m → s.xportOn = true → s.tryLast m p = (s1, m1, none) → ∃ t,
    exec (.lastPacketSend i p) s = .next t ∧ t = s1.putMsg m1 ∧ t.mem = s.mem) ∧
  -- R283: coalesced ACKs go
  (∀ s (src mid : Nat), s.clk.on = true → ∃ t, exec (.ackCoalesceTimeout src mid) s = .next t ∧ t.xport.coal.find? (fun e => e.1 = msgKey src mid) = none ∧
    t.mem = s.mem ∧ t.cores = s.cores) ∧
  -- R287: a filter entry expires
  (∀ s (src mid : Nat), s.clk.on = true → ∃ t, exec (.filterEntryExpire src mid) s = .next t ∧
    t.xport.filter = s.xport.filter.filter (fun e => e.1 ≠ msgKey src mid) ∧ t = { s with xport := t.xport }) ∧
  -- R290: a message that waits on NOT_READY or BUSY ends
  (∀ s (i : Nat) (m : Msg) , s.clk.on = true → s.msg i = some m → m.coll = none → m.pkts.any (fun e => e.2.held) = true →
    ((s.loadFor m).ctx m.queue).timeoutUs * cyclesPerUs ≤ s.now - m.start → ∃ t,
    exec (.msgTimeout i) s = .next t ∧ t.msg i = none) ∧
  -- R313: probes change no memory and no message
  (∀ s, ∃ t, exec (.probeTimer) s = .next t ∧ t.mem = s.mem ∧ t.xport = s.xport ∧ t.cores = s.cores) ∧
  -- R281: a waiting message takes a free context
  (∀ s (m : Msg), s.clk.on = true → s.xport.waitMsgs.find? (fun m => (s.loadFor m).mayBegin m) = some m → ∃ t,
    exec (.msgContextGrant) s = .next t ∧
    t = ((s.loadFor m).modX (fun x => { x with waitMsgs := x.waitMsgs.erase m })).beginMsg m ∧ s.xport.nextMsg < t.xport.nextMsg) ∧
  -- R320, R321: a deadline that has passed aborts its collective
  (∀ s (q : Nat), s.clk.on = true → (s.coll q).isOpen = true → (s.coll q).deadline ≤ s.us → (s.coll q).abort = none → ∃ t,
    exec (.collDeadline q) s = .next t ∧ (t.coll q).abort = some St.timeout ∧ (∀ m, m ∈ t.xport.msgs → m.coll ≠ some q) ∧ t.mem = s.mem ∧
    t.cores = s.cores) ∧
  -- R320: one that has not passed
  (∀ s (q : Nat), s.clk.on = true → s.us < (s.coll q).deadline → ∃ t, exec (.collDeadline q) s = .next t ∧ t = s) ∧
  -- R321: an abort written by software
  (∀ s (who : Requester) (q : Nat), ServedNow s who = true → s.reach who (R.XPORT_COLL_CTRL q) = St.ok → (s.coll q).isOpen = true →
    (s.coll q).abort = none → ∃ t, exec (.collAbortWrite who q) s = .next t ∧ (t.coll q).abort = some St.aborted ∧ (∀ m, m ∈ t.xport.msgs →
    m.coll ≠ some q) ∧ t.resp.status = St.ok ∧ t.mem = s.mem) ∧
  -- R322: the window of an aborted collective ends: it is closed with the status that ranked first
  (∀ s (q st : Nat), s.clk.on = true → q < 8 → (s.coll q).isOpen = true → (s.coll q).abort = some st → st < 256 → ∃ t,
    exec (.abortWindowExpiry q) s = .next t ∧ (t.coll q).isOpen = false ∧ t.rf (R.XPORT_COLL_STATUS q) F.XPORT_COLL_STATUS_OPEN = 0 ∧
    t.rf (R.XPORT_COLL_STATUS q) F.XPORT_COLL_STATUS_STATUS = st) ∧
  -- R322: an entry of the aborted table expires
  (∀ s (cid : Nat), s.clk.on = true → ∃ t, exec (.abortTableExpire cid) s = .next t ∧ t.xport.aborted = s.xport.aborted.filter (fun e => e.1 ≠ cid) ∧
    t = { s with xport := t.xport })

/-- R261, R317 to R320: the four step opcodes of a collective sequencer whose collective is not being aborted. -/
def Obligations.CollectiveStepsComplete : Prop :=
  -- CBEGIN
  (∀ s (q : Nat) (e : Issued), q < 8 → s.aborting (160 + q) = false → s.front (160 + q) 0x6A = some e → (s.coll q).isOpen = false →
    0 < fld e.cmd.w1 24 13 → fld e.cmd.w1 24 13 ≤ 4096 → fld e.cmd.w2 32 16 ≠ 0 → fld e.cmd.w2 0 16 % 8 = 0 →
    fld e.cmd.w2 0 16 + 8 * fld e.cmd.w1 24 13 ≤ 65536 → s.xport.aborted.find? (fun a => a.1 = fld e.cmd.w1 0 16) = none →
    s.slowMask (fld e.cmd.w1 16 8) = false → (List.range 8).any (fun i => bitAt (fld e.cmd.w1 16 8) i && s.thermLevel i = 3) = false → ∃ t,
    exec (.cbegin (160 + q)) s = .next t ∧
    t.coll q = { isOpen := true, id := fld e.cmd.w1 0 16, members := memberList (fld e.cmd.w1 24 13) (s.csBytes (160 + q) (fld e.cmd.w2 0 16) (8 * fld e.cmd.w1 24 13)), mask := fld e.cmd.w1 16 8, timeout := fld e.cmd.w2 32 16, deadline := s.us + fld e.cmd.w2 32 16, abort := none } ∧
    t.rf (R.XPORT_COLL_STATUS q) F.XPORT_COLL_STATUS_OPEN = 1 ∧
    t.rf (R.XPORT_COLL_STATUS q) F.XPORT_COLL_STATUS_COLL_ID = fld e.cmd.w1 0 16 ∧ Ended s t (160 + q) e.ord (.done St.ok) ∧ (∀ a,
    a ≠ R.XPORT_COLL_STATUS q → t.reg a = s.reg a) ∧ t = { s with regs := t.regs, xport := t.xport, cores := t.cores }) ∧
  -- R319: BOUNDS while one is open
  (∀ s (core : Nat) (e : Issued), s.aborting core = false → s.front core 0x6A = some e → (s.coll (core - 160)).isOpen = true → ∃ t,
    exec (.cbegin core) s = .next t ∧ Ended s t core e.ord (.done St.bounds) ∧ t = { s with cores := t.cores }) ∧
  -- R319: CEND
  (∀ s (q : Nat) (e : Issued), q < 8 → s.aborting (160 + q) = false → s.front (160 + q) 0x6B = some e →
    (s.core (160 + q)).issued.any (fun f => decide (f.ord < e.ord)) = false → (s.coll q).isOpen = true →
    (s.coll q).id = fld e.cmd.w1 0 16 → ∃ t, exec (.cend (160 + q)) s = .next t ∧ t.coll q = { s.coll q with isOpen := false } ∧
    t.rf (R.XPORT_COLL_STATUS q) F.XPORT_COLL_STATUS_OPEN = 0 ∧ Ended s t (160 + q) e.ord (.done St.ok) ∧ (∀ a, a ≠ R.XPORT_COLL_STATUS q →
    t.reg a = s.reg a) ∧ t = { s with regs := t.regs, xport := t.xport, cores := t.cores }) ∧
  -- R317: CQSEND submits its rows as one WRITE
  (∀ s (core : Nat) (e : Issued) (s1 s2 : State) (r : State × List Byte × CqOut), s.aborting core = false → s.front core 0x68 = some e →
    s.queueChk core (fld e.cmd.w2 0 20) = (s1, St.ok) → s1.cqsendChk core e.cmd = St.ok → s1.cqRows core e = r → r.2.2.st = St.ok →
    r.1.setTally core e.ord [(e.cmd.fmtD, r.2.2.cats), (2, r.2.2.errCats)] = s2 → ∃ t, exec (.cqsend core) s = .next t ∧
    t = s2.submit { s2.queueMsg core e.ord (fld e.cmd.w2 0 20) 0 r.2.1.length 0 (fld e.cmd.w2 20 22 * 64) with data := r.2.1, fetch := false, st := St.ok }) ∧
  -- R318: CADD
  (∀ s (core : Nat) (e : Issued) (r : State × Nat × List Nat), s.aborting core = false → s.front core 0x69 = some e →
    (s.core core).issued.any (fun f => f.cmd.opcode = 0x69 && decide (f.ord < e.ord)) = false → s.caddChk core e.cmd = St.ok →
    s.caddRows e.cmd = r → ∃ t, exec (.cadd core) s = .next t ∧
    Ended (s.setTally core e.ord [(e.cmd.fmtD, r.2.2)]) t core e.ord (.done r.2.1) ∧ t.mem = r.1.mem ∧
    t = { s with mem := t.mem, regs := t.regs, evt := t.evt, free := t.free, cores := t.cores })

/-- R339, R340: priority flow control of the ports. -/
def Obligations.FlowControlCompletes : Prop :=
  -- R339: a pausing frame
  (∀ s (port sub prios quanta : Nat), port < 16 → s.linkUp port sub = true → s.portCfg port F.PORT_CFG_PFC_EN = 1 →
    bitAt prios (s.portCfg port F.PORT_CFG_PCP) = true → quanta ≠ 0 → s.portSt port F.PORT_STATUS_TX_PAUSED = 0 → ∃ t,
    exec (.rxPfc port sub prios quanta) s = .next t ∧ t.portSt port F.PORT_STATUS_TX_PAUSED = 1 ∧
    fld (t.reg (R.PORT_RX_COUNTER port 18)) 0 48 = (fld (s.reg (R.PORT_RX_COUNTER port 18)) 0 48 + 1) % 2 ^ 48 ∧
    (t.port port).pausedAt = s.now ∧ (t.port port).txq = (s.port port).txq ∧ (∀ q, q ≠ port → t.port q = s.port q) ∧
    t = { s with regs := t.regs, evt := t.evt, ports := t.ports }) ∧
  -- R339: quanta 0 resume, and the paused time is counted
  (∀ s (port sub prios : Nat), port < 16 → s.linkUp port sub = true → s.portCfg port F.PORT_CFG_PFC_EN = 1 →
    bitAt prios (s.portCfg port F.PORT_CFG_PCP) = true → s.portSt port F.PORT_STATUS_TX_PAUSED = 1 → ∃ t,
    exec (.rxPfc port sub prios 0) s = .next t ∧ t.portSt port F.PORT_STATUS_TX_PAUSED = 0 ∧
    fld (t.reg (R.PORT_RX_COUNTER port 18)) 0 48 = (fld (s.reg (R.PORT_RX_COUNTER port 18)) 0 48 + 1) % 2 ^ 48 ∧
    fld (t.reg (R.PORT_TX_COUNTER port 15)) 0 48 = (fld (s.reg (R.PORT_TX_COUNTER port 15)) 0 48 + (s.now - (s.port port).pausedAt) / cyclesPerUs) % 2 ^ 48 ∧
    t = { s with regs := t.regs, evt := t.evt }) ∧
  -- R337: with PFC disabled, or for another priority, it is only counted
  (∀ s (port sub prios quanta : Nat), s.linkUp port sub = true → ¬(s.portCfg port F.PORT_CFG_PFC_EN = 1 ∧
    bitAt prios (s.portCfg port F.PORT_CFG_PCP) = true) → ∃ t, exec (.rxPfc port sub prios quanta) s = .next t ∧
    fld (t.reg (R.PORT_RX_COUNTER port 18)) 0 48 = (fld (s.reg (R.PORT_RX_COUNTER port 18)) 0 48 + 1) % 2 ^ 48 ∧
    t = { s with regs := t.regs, evt := t.evt }) ∧
  -- R339: the quanta run out
  (∀ s (port us : Nat), port < 16 → s.portSt port F.PORT_STATUS_TX_PAUSED = 1 → ∃ t, exec (.pfcPauseExpiry port us) s = .next t ∧
    t.portSt port F.PORT_STATUS_TX_PAUSED = 0 ∧
    fld (t.reg (R.PORT_TX_COUNTER port 15)) 0 48 = (fld (s.reg (R.PORT_TX_COUNTER port 15)) 0 48 + us) % 2 ^ 48 ∧
    t = { s with regs := t.regs, evt := t.evt }) ∧
  -- nothing to run out
  (∀ s (port us : Nat), s.portSt port F.PORT_STATUS_TX_PAUSED ≠ 1 → ∃ t, exec (.pfcPauseExpiry port us) s = .next t ∧ t = s) ∧
  -- R339: the pausing frame is repeated
  (∀ s (port : Nat), s.portSt port F.PORT_STATUS_XOFF_SENT = 1 → s.rf (R.PORT_PFC port) F.PORT_PFC_XON_KIB * 1024 ≤ s.rxFill port → ∃ t,
    exec (.pfcRefresh port) s = .next t ∧ (t.port port).txq = (s.port port).txq ++
    [s.pfcTx port 0xFFFF] ∧
    (t.port port).rxq = (s.port port).rxq ∧ (∀ q, q ≠ port → t.port q = s.port q) ∧ t = { s with ports := t.ports }) ∧
  -- R340: unbroken pause is a storm: the port leaves its routes
  (∀ s (port : Nat), port < 16 → s.portSt port F.PORT_STATUS_TX_PAUSED = 1 → s.portSt port F.PORT_STATUS_STORM = 0 → ∃ t,
    exec (.pfcStorm port) s = .next t ∧ t.portSt port F.PORT_STATUS_STORM = 1 ∧ t.portSt port F.PORT_STATUS_USABLE = 0 ∧
    t.portSt port F.PORT_STATUS_TX_PAUSED = 1) ∧
  -- R340: its end brings the port back
  (∀ s (port : Nat), port < 16 → s.portSt port F.PORT_STATUS_STORM = 1 → s.linkUp port 0 = true → (s.port port).holdA = false →
    s.rf (R.PORT_LINK_CTRL port) F.PORT_LINK_CTRL_LOOPBACK = 0 → (s.port port).retiming = false → ∃ t,
    exec (.pfcStormEnd port) s = .next t ∧ t.portSt port F.PORT_STATUS_STORM = 0 ∧ t.portSt port F.PORT_STATUS_USABLE = 1 ∧
    t.ports = s.ports) ∧
  -- R340: no storm, no end
  (∀ s (port : Nat), s.portSt port F.PORT_STATUS_STORM = 0 → ∃ t, exec (.pfcStormEnd port) s = .next t ∧ t = s)

/-- R341, R342, R344: when links go down and come up. -/
def Obligations.LinkStatesComplete : Prop :=
  -- R341: a fault takes the link down; a frame partly received is counted
  (∀ s (port sub l : Nat) (a fr : Bool), port < 16 → s.linkUp port sub = true → ∃ t, exec (.linkDown port sub (some l) { alignLoss := a, fragment := fr }) s = .next t ∧
    t.portSt port (if sub = 0 then F.PORT_STATUS_LINK_A else F.PORT_STATUS_LINK_B) = 0 ∧
    (bitAt (t.portSt port F.PORT_STATUS_LANE_OK) l = true → 8 ≤ l) ∧ t.portSt port F.PORT_STATUS_PARK_STATE = 0 ∧
    (s.linkUp port (1 - sub) = false → t.portSt port F.PORT_STATUS_USABLE = 0) ∧
    fld (t.reg (R.PORT_PHY_COUNTER port 12)) 0 48 = (fld (s.reg (R.PORT_PHY_COUNTER port 12)) 0 48 + 1) % 2 ^ 48 ∧
    fld (t.reg (R.PORT_RX_COUNTER port 17)) 0 48 = (fld (s.reg (R.PORT_RX_COUNTER port 17)) 0 48 + b2n fr) % 2 ^ 48 ∧ t.nv = s.nv) ∧
  -- R341: a loss of alignment names no lane
  (∀ s (port sub : Nat) (fr : Bool), port < 16 → s.linkUp port sub = true → ∃ t, exec (.linkDown port sub none { alignLoss := true, fragment := fr }) s = .next t ∧
    t.portSt port (if sub = 0 then F.PORT_STATUS_LINK_A else F.PORT_STATUS_LINK_B) = 0 ∧
    t.portSt port F.PORT_STATUS_LANE_OK = s.portSt port F.PORT_STATUS_LANE_OK ∧ t.portSt port F.PORT_STATUS_PARK_STATE = 0 ∧
    fld (t.reg (R.PORT_PHY_COUNTER port 12)) 0 48 = (fld (s.reg (R.PORT_PHY_COUNTER port 12)) 0 48 + 1) % 2 ^ 48 ∧
    fld (t.reg (R.PORT_PHY_COUNTER port 13)) 0 48 = (fld (s.reg (R.PORT_PHY_COUNTER port 13)) 0 48 + 1) % 2 ^ 48) ∧
  -- a link that is down
  (∀ s (port sub : Nat) (l : Option Nat) (a fr : Bool), s.linkUp port sub = false → ∃ t, exec (.linkDown port sub l { alignLoss := a, fragment := fr }) s = .next t ∧ t = s) ∧
  -- R342: a link aligns and its hold time begins
  (∀ s (port sub : Nat), s.hasSub port sub = true → s.linkUp port sub = false → s.rf R.HOST_PM_STATUS F.HOST_PM_STATUS_STATE ≠ 4 →
    3 ≤ s.rf R.MGMT_STAGE F.MGMT_STAGE_STAGE → ∃ t,
    exec (.linkAligned port sub) s = .next t ∧ t.portSt port (if sub = 0 then F.PORT_STATUS_LINK_A else F.PORT_STATUS_LINK_B) = 1 ∧
    (t.port port).holding sub = true ∧ (t.port port).retiming = false ∧
    t.portSt port F.PORT_STATUS_USABLE = s.portSt port F.PORT_STATUS_USABLE ∧ (∀ a, a ≠ R.PORT_STATUS port → t.reg a = s.reg a) ∧ (∀ q,
    q ≠ port → t.port q = s.port q) ∧ t = { s with regs := t.regs, ports := t.ports }) ∧
  -- R342, R375: ports are dark before stage 3 and in P4
  (∀ s (port sub : Nat), s.rf R.HOST_PM_STATUS F.HOST_PM_STATUS_STATE = 4 ∨ s.rf R.MGMT_STAGE F.MGMT_STAGE_STAGE < 3 → ∃ t, exec (.linkAligned port sub) s = .next t ∧ t = s) ∧
  -- R342: after the hold time the port rejoins its routes
  (∀ s (port sub : Nat), port < 16 → s.linkUp port sub = true → (s.port port).holding sub = true → s.portSt port F.PORT_STATUS_STORM = 0 →
    s.rf (R.PORT_LINK_CTRL port) F.PORT_LINK_CTRL_LOOPBACK = 0 → (s.port port).retiming = false → ∃ t,
    exec (.linkupHoldExpiry port sub) s = .next t ∧ t.portSt port F.PORT_STATUS_USABLE = 1 ∧ (t.port port).holding sub = false ∧ (∀ q,
    q ≠ port → t.port q = s.port q)) ∧
  -- R342: nothing holds
  (∀ s (port sub : Nat), (s.port port).holding sub = false → ∃ t, exec (.linkupHoldExpiry port sub) s = .next t ∧ t = s) ∧
  -- R344: a retime
  (∀ s (who : Requester) (port : Nat), port < 16 → ServedNow s who = true → s.reach who (R.PORT_LINK_CTRL port) = St.ok → s.portMode port ≠ 0 → ∃ t,
    exec (.retime who port) s = .next t ∧ t.portSt port F.PORT_STATUS_LINK_A = 0 ∧ t.portSt port F.PORT_STATUS_LINK_B = 0 ∧
    t.portSt port F.PORT_STATUS_USABLE = 0 ∧ (t.port port).retiming = true ∧ t.resp.status = St.ok) ∧
  -- R344: of a port that is off
  (∀ s (who : Requester) (port : Nat), ServedNow s who = true → s.reach who (R.PORT_LINK_CTRL port) = St.ok → s.portMode port = 0 → ∃ t,
    exec (.retime who port) s = .next t ∧ t.resp.status = St.ok ∧ t = { s with resp := t.resp })

/-- R346, R348, R349: every transition of the parking state, where parking is negotiated. -/
def Obligations.LaneParkingCompletes : Prop :=
  -- R346: frames are handled only where parking is negotiated
  (∀ s (port q : Nat), s.parkOk port = false → ∃ t, exec (.parkReq port q) s = .next t ∧ t = s) ∧
  -- FULL: HOLD_MS of low windows send PARK_REQ
  (∀ s (port sent rcvd : Nat), s.parkOk port = true → s.linkUp port 0 = true → s.portSt port F.PORT_STATUS_PARK_STATE = 0 →
    (s.port port).wakeOwed = none → s.txFill port + 64 ≤ s.rf (R.PORT_PARK port) F.PORT_PARK_WAKE_KIB * 1024 → s.lowTraffic port sent rcvd = true →
    s.rf (R.PORT_PARK port) F.PORT_PARK_HOLD_MS * 10 ≤ (s.port port).lowWindows + 1 → ∃ t, exec (.parkWindow port sent rcvd) s = .next t ∧
    t.portSt port F.PORT_STATUS_PARK_STATE = 1 ∧ (t.port port).txq = (s.port port).txq ++
    [s.parkTx port 1 ((s.port port).parkSeq)] ∧
    (t.port port).reqSeq = some (s.port port).parkSeq ∧ (∀ q, q ≠ port → t.port q = s.port q) ∧
    t = { s with regs := t.regs, evt := t.evt, ports := t.ports }) ∧
  -- a window is counted: fewer low windows
  (∀ s (port sent rcvd : Nat), s.portSt port F.PORT_STATUS_PARK_STATE = 0 → s.wakeCond port = false →
    (s.port port).lowWindows + 1 < s.rf (R.PORT_PARK port) F.PORT_PARK_HOLD_MS * 10 → ∃ t, exec (.parkWindow port sent rcvd) s = .next t ∧
    (t.port port).lowWindows = (if s.lowTraffic port sent rcvd then (s.port port).lowWindows + 1 else 0) ∧
    (t.port port).txq = (s.port port).txq ∧ (∀ q, q ≠ port → t.port q = s.port q) ∧ t = { s with ports := t.ports }) ∧
  -- FULL: PARK_REQ with low traffic is acknowledged
  (∀ s (port q : Nat), s.parkOk port = true → s.linkUp port 0 = true → s.portSt port F.PORT_STATUS_PARK_STATE = 0 →
    (s.port port).lastLow = true → s.wakeCond port = false → ∃ t, exec (.parkReq port q) s = .next t ∧
    t.portSt port F.PORT_STATUS_PARK_STATE = 1 ∧ (t.port port).txq = (s.port port).txq ++
    [s.parkTx port 2 q] ∧ (t.port port).reqSeq = (s.port port).reqSeq ∧
    (∀ q, q ≠ port → t.port q = s.port q) ∧ t = { s with regs := t.regs, evt := t.evt, ports := t.ports }) ∧
  -- FULL: PARK_REQ otherwise is refused
  (∀ s (port q : Nat), s.parkOk port = true → s.linkUp port 0 = true → s.portSt port F.PORT_STATUS_PARK_STATE = 0 →
    (s.port port).lastLow = false ∨ s.wakeCond port = true → ∃ t, exec (.parkReq port q) s = .next t ∧
    (t.port port).txq = (s.port port).txq ++ [s.parkTx port 3 q] ∧ (∀ q,
    q ≠ port → t.port q = s.port q) ∧ t = { s with ports := t.ports }) ∧
  -- PARKING: crossing requests park both
  (∀ s (port q r : Nat), s.parkOk port = true → s.linkUp port 0 = true → s.portSt port F.PORT_STATUS_PARK_STATE = 1 →
    (s.port port).reqSeq = some r → ∃ t, exec (.parkReq port q) s = .next t ∧ t.portSt port F.PORT_STATUS_PARK_STATE = 2 ∧
    (t.port port).txq = (s.port port).txq ++ [s.parkTx port 4 r] ∧
    (t.port port).lanesIdle = true ∧ (∀ q, q ≠ port → t.port q = s.port q) ∧
    t = { s with regs := t.regs, evt := t.evt, ports := t.ports }) ∧
  -- PARKING: PARK_ACK: PARK_GO, and PARKED
  (∀ s (port q : Nat), s.parkOk port = true → s.linkUp port 0 = true → s.portSt port F.PORT_STATUS_PARK_STATE = 1 →
    (s.port port).reqSeq = some q → ∃ t, exec (.parkAck port q) s = .next t ∧ t.portSt port F.PORT_STATUS_PARK_STATE = 2 ∧
    (t.port port).txq = (s.port port).txq ++ [s.parkTx port 4 q] ∧
    (t.port port).lanesIdle = true ∧
    fld (t.reg (R.PORT_PHY_COUNTER port 14)) 0 48 = (fld (s.reg (R.PORT_PHY_COUNTER port 14)) 0 48 + 1) % 2 ^ 48 ∧ (∀ q, q ≠ port →
    t.port q = s.port q) ∧ t = { s with regs := t.regs, evt := t.evt, ports := t.ports }) ∧
  -- an answer to no request
  (∀ s (port q : Nat), (s.port port).reqSeq ≠ some q → ∃ t, exec (.parkAck port q) s = .next t ∧ t = s) ∧
  -- PARKING: PARK_NAK: FULL
  (∀ s (port q : Nat), s.parkOk port = true → s.linkUp port 0 = true → s.portSt port F.PORT_STATUS_PARK_STATE = 1 →
    (s.port port).reqSeq = some q → ∃ t, exec (.parkNak port q) s = .next t ∧ t.portSt port F.PORT_STATUS_PARK_STATE = 0 ∧
    (t.port port).txq = (s.port port).txq ∧ (t.port port).lowWindows = 0 ∧ (∀ q, q ≠ port → t.port q = s.port q) ∧
    t = { s with regs := t.regs, evt := t.evt, ports := t.ports }) ∧
  -- PARKING: PARK_GO: PARKED
  (∀ s (port q : Nat), s.parkOk port = true → s.linkUp port 0 = true → s.portSt port F.PORT_STATUS_PARK_STATE = 1 → ∃ t,
    exec (.parkGo port q) s = .next t ∧ t.portSt port F.PORT_STATUS_PARK_STATE = 2 ∧ (t.port port).txq = (s.port port).txq ∧
    (t.port port).lanesIdle = true ∧
    fld (t.reg (R.PORT_PHY_COUNTER port 14)) 0 48 = (fld (s.reg (R.PORT_PHY_COUNTER port 14)) 0 48 + 1) % 2 ^ 48 ∧ (∀ q, q ≠ port →
    t.port q = s.port q) ∧ t = { s with regs := t.regs, evt := t.evt, ports := t.ports }) ∧
  -- PARKING: no answer: FULL
  (∀ s (port : Nat), s.portSt port F.PORT_STATUS_PARK_STATE = 1 → ∃ t, exec (.parkAnswerTimeout port) s = .next t ∧
    t.portSt port F.PORT_STATUS_PARK_STATE = 0 ∧ (t.port port).txq = (s.port port).txq ∧ (∀ q, q ≠ port → t.port q = s.port q) ∧
    t = { s with regs := t.regs, evt := t.evt, ports := t.ports }) ∧
  -- elsewhere no answer is due
  (∀ s (port : Nat), s.portSt port F.PORT_STATUS_PARK_STATE ≠ 1 → ∃ t, exec (.parkAnswerTimeout port) s = .next t ∧ t = s) ∧
  -- FULL: WAKE is answered
  (∀ s (port q : Nat), s.parkOk port = true → s.linkUp port 0 = true → s.portSt port F.PORT_STATUS_PARK_STATE = 0 → ∃ t,
    exec (.wake port q) s = .next t ∧ (t.port port).txq = (s.port port).txq ++
    [s.parkTx port 6 q] ∧ t.portSt port F.PORT_STATUS_PARK_STATE = 0 ∧
    (t.port port).wakeOwed = none ∧ (∀ q, q ≠ port → t.port q = s.port q) ∧ t = { s with ports := t.ports }) ∧
  -- PARKED: WAKE brings the lanes out of idle
  (∀ s (port q : Nat), s.parkOk port = true → s.linkUp port 0 = true → s.portSt port F.PORT_STATUS_PARK_STATE = 2 → ∃ t,
    exec (.wake port q) s = .next t ∧ t.portSt port F.PORT_STATUS_PARK_STATE = 3 ∧ (t.port port).lanesIdle = false ∧
    (t.port port).wakeOwed = some q ∧ (t.port port).txq = (s.port port).txq ∧
    fld (t.reg (R.PORT_PHY_COUNTER port 15)) 0 48 = (fld (s.reg (R.PORT_PHY_COUNTER port 15)) 0 48 + 1) % 2 ^ 48 ∧ (∀ q, q ≠ port →
    t.port q = s.port q) ∧ t = { s with regs := t.regs, evt := t.evt, ports := t.ports }) ∧
  -- WAKING: lanes lock with a WAKE to answer: WAKE_ACK, and FULL
  (∀ s (port q : Nat), s.portSt port F.PORT_STATUS_PARK_STATE = 3 → (s.port port).wakeOwed = some q → ∃ t,
    exec (.lanesLocked port) s = .next t ∧ t.portSt port F.PORT_STATUS_PARK_STATE = 0 ∧ (t.port port).txq = (s.port port).txq ++
    [s.parkTx port 6 q] ∧ (t.port port).wakeOwed = none ∧ (∀ q, q ≠ port →
    t.port q = s.port q) ∧ t = { s with regs := t.regs, evt := t.evt, ports := t.ports }) ∧
  -- WAKING: lanes lock before WAKE_ACK
  (∀ s (port : Nat), s.portSt port F.PORT_STATUS_PARK_STATE = 3 → (s.port port).wakeOwed = none → (s.port port).wakeAcked = false → ∃ t,
    exec (.lanesLocked port) s = .next t ∧ (t.port port).lanesLocked = true ∧ (t.port port).txq = (s.port port).txq ∧ (∀ q, q ≠ port →
    t.port q = s.port q) ∧ t = { s with ports := t.ports }) ∧
  -- WAKING: WAKE_ACK with the lanes locked: FULL
  (∀ s (port q : Nat), s.parkOk port = true → s.linkUp port 0 = true → s.portSt port F.PORT_STATUS_PARK_STATE = 3 →
    (s.port port).reqSeq = some q → (s.port port).lanesLocked = true → ∃ t, exec (.wakeAck port q) s = .next t ∧
    t.portSt port F.PORT_STATUS_PARK_STATE = 0 ∧ (t.port port).txq = (s.port port).txq ∧ (∀ q, q ≠ port → t.port q = s.port q) ∧
    t = { s with regs := t.regs, evt := t.evt, ports := t.ports }) ∧
  -- WAKING: WAKE_ACK before them
  (∀ s (port q : Nat), s.parkOk port = true → s.linkUp port 0 = true → s.portSt port F.PORT_STATUS_PARK_STATE = 3 →
    (s.port port).reqSeq = some q → (s.port port).lanesLocked = false → ∃ t, exec (.wakeAck port q) s = .next t ∧
    (t.port port).wakeAcked = true ∧ (t.port port).txq = (s.port port).txq ∧ (∀ q, q ≠ port → t.port q = s.port q) ∧
    t = { s with ports := t.ports }) ∧
  -- WAKING: no WAKE_ACK: WAKE again
  (∀ s (port q : Nat), s.portSt port F.PORT_STATUS_PARK_STATE = 3 → (s.port port).wakeAcked = false → (s.port port).reqSeq = some q →
    (s.port port).wakes < 3 → ∃ t, exec (.wakeTimeout port) s = .next t ∧ (t.port port).txq = (s.port port).txq ++
    [s.parkTx port 5 q] ∧ (t.port port).wakes = (s.port port).wakes + 1 ∧
    (∀ q, q ≠ port → t.port q = s.port q) ∧ t = { s with ports := t.ports }) ∧
  -- R341: after the third the link goes down
  (∀ s (port q : Nat), port < 16 → s.portSt port F.PORT_STATUS_PARK_STATE = 3 → (s.port port).wakeAcked = false →
    (s.port port).reqSeq = some q → 3 ≤ (s.port port).wakes → ∃ t, exec (.wakeTimeout port) s = .next t ∧
    t.portSt port F.PORT_STATUS_LINK_A = 0 ∧ t.portSt port F.PORT_STATUS_PARK_STATE = 0 ∧
    fld (t.reg (R.PORT_PHY_COUNTER port 12)) 0 48 = (fld (s.reg (R.PORT_PHY_COUNTER port 12)) 0 48 + 1) % 2 ^ 48) ∧
  -- R349: missed refreshes are counted
  (∀ s (port m : Nat), s.portSt port F.PORT_STATUS_PARK_STATE = 2 → [4, 5, 6,
    7].any (fun l => decide (3 ≤ mget 0 (missUpdate (s.port port).missRun m) l)) = false → ∃ t, exec (.parkRefresh port m) s = .next t ∧
    (t.port port).missRun = missUpdate (s.port port).missRun m ∧ (t.port port).txq = (s.port port).txq ∧ (∀ q, q ≠ port →
    t.port q = s.port q) ∧ t = { s with regs := t.regs, evt := t.evt, ports := t.ports }) ∧
  -- R349: three in a row on a lane: it has failed
  (∀ s (port m : Nat), port < 16 → s.portSt port F.PORT_STATUS_PARK_STATE = 2 → [4, 5, 6,
    7].any (fun l => decide (3 ≤ mget 0 (missUpdate (s.port port).missRun m) l)) = true → ∃ t, exec (.parkRefresh port m) s = .next t ∧
    t.portSt port F.PORT_STATUS_LINK_A = 0 ∧ t.portSt port F.PORT_STATUS_PARK_STATE = 0 ∧
    fld (t.reg (R.PORT_PHY_COUNTER port 12)) 0 48 = (fld (s.reg (R.PORT_PHY_COUNTER port 12)) 0 48 + 1) % 2 ^ 48)

/-- R360 to R362, R366 to R369, R372, R376 to R378: the host's accesses in P0. -/
def Obligations.HostAccessesComplete : Prop :=
  -- R360: a BAR0 read
  (∀ s (a : Nat), s.hostUp = true → s.reach .host a = St.ok → a % 8 = 0 → progOf a = none → windowOf a ≠ 0x08 → ∃ t,
    exec (.hostBar0Access false a 8 0) s = .next t ∧ t.resp.val = s.view a ∧ t.reg a = clearRc (fieldsAt a) (s.reg a) 0 64 ∧ (∀ b, b ≠ a →
    t.reg b = s.reg b) ∧ t.resp.status = St.ok ∧ t = { s with regs := t.regs, resp := t.resp }) ∧
  -- R360: a BAR0 write of a register that holds a value only
  (∀ s (a : Nat) (v : W64), s.hostUp = true → s.awake = true → s.reach .host a = St.ok → a % 8 = 0 → windowOf a = 0x28 →
    hasAcc a .txn = false → ∃ t, exec (.hostBar0Access true a 8 v) s = .next t ∧ t.reg a = writeFields (fieldsAt a) (s.reg a) v 0 64 ∧
    (∀ b, b ≠ a → t.reg b = s.reg b) ∧ t.resp.status = St.ok ∧ t = { s with regs := t.regs, resp := t.resp }) ∧
  -- R362: one that is refused
  (∀ s (a n : Nat), s.hostUp = true → s.reach .host a = St.bounds → ∃ t, exec (.hostBar0Access false a n 0) s = .next t ∧
    t.resp.status = St.bounds ∧ t.rf R.HOST_ERR F.HOST_ERR_STATUS = St.bounds ∧ t.rf R.HOST_ERR F.HOST_ERR_SOURCE = 0 ∧
    t = { s with regs := t.regs, evt := t.evt, resp := t.resp }) ∧
  -- R372: no host access is served without the link or before stage 3
  (∀ s (wr : Bool) (a n : Nat) (v : W64), s.hostUp = false → wr = true → ∃ t, exec (.hostBar0Access wr a n v) s = .next t ∧
    t.resp.status = St.bounds ∧ t = { s with resp := t.resp }) ∧
  -- R368: a producer doorbell
  (∀ s (q : Nat) (v : W64) (c : Ctx), s.hostUp = true → s.awake = true → q < 2 ^ 20 → s.ctxCached q = some c → c.enable = true → c.typ = 0 →
    ∃ t, exec (.hostDoorbellProd (q / 64 * 0x1000 + q % 64 * 0x10) 8 v) s = .next t ∧
    t.ctx q = { c with w2 := setFld c.w2 0 32 (fld v 0 32) } ∧ t.resp.status = St.ok ∧ t.cores = s.cores ∧
    t = { s with mem := t.mem, regs := t.regs, evt := t.evt, free := t.free, xport := t.xport, resp := t.resp }) ∧
  -- R368: a completion doorbell
  (∀ s (q : Nat) (v : W64) (c : Ctx), s.hostUp = true → s.awake = true → q < 2 ^ 20 → s.ctxCached q = some c → c.enable = true → c.typ = 0 →
    ∃ t, exec (.hostDoorbellCq (q / 64 * 0x1000 + q % 64 * 0x10 + 8) 8 v) s = .next t ∧
    t.ctx q = { c with w4 := setFld c.w4 32 32 (fld v 0 32) } ∧ t.resp.status = St.ok ∧ t.cores = s.cores ∧
    t = { s with mem := t.mem, regs := t.regs, evt := t.evt, free := t.free, xport := t.xport, resp := t.resp }) ∧
  -- R369: a doorbell access that is not 8 aligned bytes
  (∀ s (off n : Nat) (v : W64), s.hostUp = true → s.awake = true → n ≠ 8 ∨ off % 8 ≠ 0 → ∃ t, exec (.hostDoorbellProd off n v) s = .next t ∧
    t.resp.status = St.bounds ∧ t.rf R.HOST_ERR F.HOST_ERR_STATUS = St.bounds ∧ t.rf R.HOST_ERR F.HOST_ERR_SOURCE = 1 ∧
    t = { s with regs := t.regs, evt := t.evt, resp := t.resp }) ∧
  -- R377: a placed write lands in the region of its slot
  (∀ s (off : Nat) (d : List Byte) (r : XRegion) (x : State × Nat), s.clk.on = true → s.hostUp = true → s.awake = true →
    s.placeChk (off / 2 ^ 30) (off % 2 ^ 30) d.length = (St.ok, some r) →
    s.devWrite (r.base + s.rf (R.HOST_PLACE_CTL (off / 2 ^ 30)) F.HOST_PLACE_CTL_OFFSET * 4096 + off % 2 ^ 30) 0 d = x → x.2 = St.ok → ∃ t,
    exec (.hostBar4Write off d) s = .next t ∧ t = { x.1 with resp := t.resp } ∧ t.resp.status = St.ok) ∧
  -- R292: a slot that is not enabled: BOUNDS
  (∀ s (off : Nat) (d : List Byte), s.clk.on = true → s.hostUp = true → s.awake = true → s.slotEn (off / 2 ^ 30) = false → ∃ t,
    exec (.hostBar4Write off d) s = .next t ∧ t.resp.status = St.bounds ∧ t.rf R.HOST_ERR F.HOST_ERR_STATUS = St.bounds ∧
    t.rf R.HOST_ERR F.HOST_ERR_SOURCE = 2 ∧ t = { s with regs := t.regs, evt := t.evt, resp := t.resp }) ∧
  -- R292: keys that name no region: KEY_DENIED
  (∀ s (off : Nat) (d : List Byte), s.clk.on = true → s.hostUp = true → s.awake = true → off / 2 ^ 30 < s.slots → s.slotEn (off / 2 ^ 30) = true →
    off % 2 ^ 30 + d.length ≤ 2 ^ 30 → s.slotRegion (off / 2 ^ 30) = none → ∃ t, exec (.hostBar4Write off d) s = .next t ∧
    t.resp.status = St.keyDenied ∧ t.rf R.HOST_ERR F.HOST_ERR_STATUS = St.keyDenied ∧ t.rf R.HOST_ERR F.HOST_ERR_SOURCE = 2 ∧
    t = { s with regs := t.regs, evt := t.evt, resp := t.resp }) ∧
  -- R362: BAR4 is not read
  (∀ s (off : Nat), s.hostUp = true → ∃ t, exec (.hostBar4Read off) s = .next t ∧ t.resp.status = St.bounds ∧
    t.rf R.HOST_ERR F.HOST_ERR_STATUS = St.bounds ∧ t.rf R.HOST_ERR F.HOST_ERR_SOURCE = 2 ∧
    t = { s with regs := t.regs, evt := t.evt, resp := t.resp }) ∧
  -- R378: a flag gives the signal of the region
  (∀ s (n : Nat) (rel : Bool) (r : XRegion), s.clk.on = true → s.hostUp = true → s.awake = true → n < s.slots → s.slotEn n = true → s.slotRegion n = some r →
    bitAt r.sig.toNat 6 = true → bitAt r.sig.toNat 37 = false → ∃ t, exec (.hostPlaceFlag n { size := 8, relaxed := rel }) s = .next t ∧
    t = ((s.drew 1).wardSignal r.ward (fld r.sig 14 2) (fld r.sig 7 7) (fld r.sig 0 6) (bitAt r.sig.toNat 16)).answer St.ok) ∧
  -- R378: of a slot that is not enabled
  (∀ s (n : Nat) (rel : Bool), s.clk.on = true → s.hostUp = true → s.awake = true → n < s.slots → s.slotEn n = false → ∃ t,
    exec (.hostPlaceFlag n { size := 8, relaxed := rel }) s = .next t ∧ t.resp.status = St.bounds ∧ t.rf R.HOST_ERR F.HOST_ERR_STATUS = St.bounds ∧
    t.rf R.HOST_ERR F.HOST_ERR_SOURCE = 1 ∧ t = { s with regs := t.regs, evt := t.evt, resp := t.resp }) ∧
  -- R367: a read of an UNSET line of the shared window gives zeros
  (∀ s (a : Nat) (f : LineFault), s.clk.on = true → s.cxlTakes a = true → s.awake = true → s.fenced a = false → (s.region (regionKey (a / 64 * 64))).st = 0 →
    ∃ t, exec (.cxlMemRead a f) s = .next t ∧ t.resp.status = St.ok ∧ t.resp.bytes = zeros 64 ∧ t.mem.snoop.contains (a / 64) = true ∧
    (∀ l, t.mark l = s.mark l ∧ t.dramLine l = s.dramLine l) ∧ t = { s with mem := { s.mem with snoop := t.mem.snoop, bucket := t.mem.bucket }, resp := t.resp }) ∧
  -- R366, R367: a read of a good line: the snoop filter notes it
  (∀ s (a : Nat), s.clk.on = true → s.cxlTakes a = true → s.awake = true → s.fenced a = false → (s.region (regionKey (a / 64 * 64))).st = 2 →
    s.cline (a / 64) = none → s.mark (a / 64) = .ok → ∃ t, exec (.cxlMemRead a .good) s = .next t ∧ t.resp.status = St.ok ∧
    t.resp.bytes = s.dramLine (a / 64) ∧ t.mem.snoop.contains (a / 64) = true ∧
    t = { s with mem := { s.mem with snoop := t.mem.snoop, bucket := t.mem.bucket }, resp := t.resp }) ∧
  -- R367: a write of a good line of the shared window
  (∀ s (a : Nat) (d : List Byte), s.clk.on = true → s.cxlTakes a = true → s.awake = true → s.fenced a = false → (s.region (regionKey (a / 64 * 64))).st = 2 →
    s.cline (a / 64) = none → s.mark (a / 64) = .ok → a % 64 + d.length ≤ 64 → 0 < d.length → ∃ t,
    exec (.cxlMemWrite a d .good) s = .next t ∧ t.resp.status = St.ok ∧ t.dramLine (a / 64) = overlay (s.dramLine (a / 64)) (a % 64) d ∧
    (∀ l, l ≠ a / 64 → t.mark l = s.mark l ∧ t.dramLine l = s.dramLine l) ∧ t.cores = s.cores ∧ t.regs = s.regs) ∧
  -- R367: a request that the decoder does not take
  (∀ s (a : Nat) (f : LineFault), s.unready = false → s.cxlTakes a = false → ∃ t, exec (.cxlMemRead a f) s = .next t ∧ t = s) ∧
  -- R372: before stage 3: Unsupported Request
  (∀ s (a : Nat) (f : LineFault) (d : List Byte), s.rf R.HOST_LINK_STATUS F.HOST_LINK_STATUS_SPEED ≠ 0 →
    s.rf R.MGMT_STAGE F.MGMT_STAGE_STAGE < 3 → ∃ t, exec (.cxlMemRead a f) s = .next t ∧ exec (.cxlMemWrite a d f) s = .next t ∧
    t.resp.status = St.bounds ∧ t = { s with resp := t.resp }) ∧
  -- R376: the tolerance takes its value
  (∀ s (who : Requester) (v : W64), ServedNow s who = true → s.reach who R.HOST_PM_TOL = St.ok → s.pstate = 0 → ∃ t,
    exec (.pmTolWrite who v) s = .next t ∧ t.rf R.HOST_PM_TOL F.HOST_PM_TOL_TOL_US = v.toNat % 2 ^ 32 ∧ (∀ a, a ≠ R.HOST_PM_TOL →
    t.reg a = s.reg a) ∧ t.resp.status = St.ok ∧ t = { s with regs := t.regs, resp := t.resp })

/-- R218, R358, R363, R364, R372 to R376: configuration requests, snoops, link changes and power states. -/
def Obligations.HostLinkAndPowerComplete : Prop :=
  -- R372: retry status before stage 3
  (∀ s (wr : Bool) (off : Nat) (v : W32), s.rf R.HOST_LINK_STATUS F.HOST_LINK_STATUS_SPEED ≠ 0 →
    s.rf R.HOST_LINK_STATUS F.HOST_LINK_STATUS_RRS = 1 → ∃ t, exec (.hostConfigRequest wr off v) s = .next t ∧ t.resp.status = 0x100 ∧
    t = { s with resp := t.resp }) ∧
  -- R359: the identifiers
  (∀ s (v : W32), s.rf R.HOST_LINK_STATUS F.HOST_LINK_STATUS_SPEED ≠ 0 → s.rf R.HOST_LINK_STATUS F.HOST_LINK_STATUS_RRS ≠ 1 → ∃ t,
    exec (.hostConfigRequest false 0 v) s = .next t ∧ t.resp.status = St.ok ∧ t.resp.val = 0x01281F5B ∧ t = { s with resp := t.resp }) ∧
  -- R372: a configuration write
  (∀ s (off : Nat) (v : W32), s.rf R.HOST_LINK_STATUS F.HOST_LINK_STATUS_SPEED ≠ 0 → s.rf R.HOST_LINK_STATUS F.HOST_LINK_STATUS_RRS ≠ 1 →
    ∃ t, exec (.hostConfigRequest true off v) s = .next t ∧ t.resp.status = St.ok ∧ t.mem.hostCfg = true ∧
    (t.mem.cfgSpace.find? (fun e => e.1 = off / 4 * 4)).map (·.2) = some v ∧
    t = { s with mem := { s.mem with cfgSpace := t.mem.cfgSpace, hostCfg := true, hdm := t.mem.hdm, hdmError := t.mem.hdmError }, resp := t.resp }) ∧
  -- without a link nothing answers
  (∀ s (wr : Bool) (off : Nat) (v : W32), s.rf R.HOST_LINK_STATUS F.HOST_LINK_STATUS_SPEED = 0 → ∃ t,
    exec (.hostConfigRequest wr off v) s = .next t ∧ t = s) ∧
  -- R363: a snoop of a line that is not held
  (∀ s (line : Nat), s.dline line = none → ∃ t, exec (.hostSnoop line .current none) s = .next t ∧ t.resp.status = St.ok ∧
    t.resp.bytes = [] ∧ t = { s with resp := t.resp }) ∧
  -- R363: the current data of a dirty line goes to the host and the line stays, clean
  (∀ s (line : Nat) (c : CLine), s.dline line = some c → c.dirty = true → ∃ t, exec (.hostSnoop line .current none) s = .next t ∧
    t.resp.status = St.ok ∧ t.resp.bytes = c.data ∧ (t.dline line).map (fun x => (x.data, x.dirty)) = some (c.data, false) ∧
    t.mem.host = putBytes s.mem.host (s.hostPhys (line * 64)) c.data ∧ t.cores = s.cores ∧ t.regs = s.regs) ∧
  -- R363: an invalidated line leaves the device cache
  (∀ s (line : Nat) (c : CLine) (d : List Byte), s.dline line = some c → c.dirty = true → d.length = 64 → c.data.length = 64 → ∃ t,
    exec (.hostSnoop line .invalidate (some d)) s = .next t ∧ t.resp.status = St.ok ∧ t.resp.bytes = c.data ∧ t.dline line = none ∧
    bytesAt t.mem.host (s.hostPhys (line * 64)) 64 = d ∧
    t = { s with mem := { s.mem with dcache := t.mem.dcache, host := t.mem.host }, resp := t.resp }) ∧
  -- R358: the link comes up
  (∀ s (w : Nat) (cxl : Bool), s.sup.pwrgd = true → s.sup.perst = false → s.rf R.HOST_LINK_STATUS F.HOST_LINK_STATUS_SPEED = 0 → w = 4 ∨
    w = 8 ∨ w = 16 → ∃ t, exec (.hostLinkUp 6 w cxl) s = .next t ∧ t.rf R.HOST_LINK_STATUS F.HOST_LINK_STATUS_SPEED = 6 ∧
    t.rf R.HOST_LINK_STATUS F.HOST_LINK_STATUS_WIDTH = w ∧ t.rf R.HOST_LINK_STATUS F.HOST_LINK_STATUS_CXL = b2n cxl ∧
    t.sup = { s.sup with l12 := false } ∧ t = { s with sup := t.sup, regs := t.regs, evt := t.evt }) ∧
  -- R364: it goes down: dirty lines are discarded
  (∀ s, s.rf R.HOST_LINK_STATUS F.HOST_LINK_STATUS_SPEED ≠ 0 → ∃ t, exec (.hostLinkDown) s = .next t ∧
    t.rf R.HOST_LINK_STATUS F.HOST_LINK_STATUS_SPEED = 0 ∧ t.rf R.HOST_LINK_STATUS F.HOST_LINK_STATUS_CXL = 0 ∧ t.mem.dcache = [] ∧
    t.mem.hostCfg = false ∧ t.mem.snoop = [] ∧ t.mem.hdm = none ∧ t.mem.host = s.mem.host ∧
    t = { s with regs := t.regs, mem := { s.mem with dcache := [], hostCfg := false, cfgSpace := [], hdm := none, hdmError := false, snoop := [] }, evt := t.evt }) ∧
  -- nothing to go down
  (∀ s, s.rf R.HOST_LINK_STATUS F.HOST_LINK_STATUS_SPEED = 0 → ∃ t, exec (.hostLinkDown) s = .next t ∧ t = s) ∧
  -- R373: PERST# while running
  (∀ s, s.sup.pwrgd = true → ∃ t, exec (.perstAssert) s = .next t ∧ t.rf R.HOST_LINK_STATUS F.HOST_LINK_STATUS_SPEED = 0 ∧
    t.rf R.HOST_LINK_STATUS F.HOST_LINK_STATUS_CXL = 0 ∧ t.mem.dcache = [] ∧ t.mem.hostCfg = false ∧ t.mem.snoop = [] ∧ t.mem.hdm = none ∧
    t.sup = { s.sup with perst := true } ∧ t.cores = s.cores) ∧
  -- R372: PERST# released
  (∀ s, ∃ t, exec (.perstDeassert) s = .next t ∧ t = { s with sup := { s.sup with perst := false } }) ∧
  -- R373: a hot reset
  (∀ s, s.rf R.HOST_LINK_STATUS F.HOST_LINK_STATUS_SPEED ≠ 0 → ∃ t, exec (.hotReset) s = .next t ∧
    t.rf R.HOST_LINK_STATUS F.HOST_LINK_STATUS_SPEED = 0 ∧ t.rf R.HOST_LINK_STATUS F.HOST_LINK_STATUS_CXL = 0 ∧ t.mem.dcache = [] ∧
    t.mem.hostCfg = false ∧ t.mem.snoop = [] ∧ t.mem.hdm = none ∧
    t = { s with regs := t.regs, mem := { s.mem with dcache := [], hostCfg := false, cfgSpace := [], hdm := none, hdmError := false, snoop := [] }, evt := t.evt }) ∧
  -- R373: FLR also takes the HOST queues out of service
  (∀ s (q : Nat) (c : Ctx), s.hostUp = true → s.listedQueues = [q] → s.ctxCached q = some c → c.enable = true → c.typ = 0 → ∃ t,
    exec (.flr) s = .next t ∧ t.rf R.HOST_LINK_STATUS F.HOST_LINK_STATUS_SPEED = 0 ∧ t.rf R.HOST_LINK_STATUS F.HOST_LINK_STATUS_CXL = 0 ∧
    t.mem.dcache = [] ∧ t.mem.hostCfg = false ∧ t.mem.snoop = [] ∧ t.mem.hdm = none ∧ (t.ctx q).enable = false ∧ (∀ m, m ∈ t.xport.msgs →
    m.queue = q → m.kind = 7) ∧ t.cores = s.cores) ∧
  -- not without the host link
  (∀ s, s.hostUp = false → ∃ t, exec (.flr) s = .next t ∧ t = s) ∧
  -- R374, R380: an entry begins, and is in progress until the block next idles (log entry 54)
  (∀ s (p : Nat), s.pstate < p → p ≤ min 4 (s.rf R.HOST_PM_CTRL F.HOST_PM_CTRL_MAX_STATE) →
    s.rf R.HOST_PM_TOL F.HOST_PM_TOL_TOL_US ≠ 0 → (wakeUs[p]?).getD 0 ≤ s.rf R.HOST_PM_TOL F.HOST_PM_TOL_TOL_US → s.stageNow = 4 →
    s.clk.on = true → s.mayEnter p = true → ∃ t, exec (.pstateEntry p) s = .next t ∧ t.mgt = { s.mgt with entering := some p } ∧
    t.rf R.HOST_PM_STATUS F.HOST_PM_STATUS_ENTERING = 1 ∧ t.pstate = s.pstate ∧ (∀ a, a ≠ R.HOST_PM_STATUS → t.reg a = s.reg a) ∧
    t = { s with mgt := t.mgt, regs := t.regs }) ∧
  -- R374: P1 and P2
  (∀ s (p : Nat), s.pending = [] → s.mgt.entering = some p → 1 ≤ p → p ≤ 2 → s.pstateOk p = true → ∃ t, step s = .next t ∧ t.pstate = p ∧
    t.rf R.HOST_PM_STATUS F.HOST_PM_STATUS_ENTERING = 0 ∧ t.mem = s.mem ∧ t.cores = s.cores ∧ t.xport = s.xport) ∧
  -- R375: P3: the stacks refresh themselves
  (∀ s, s.pending = [] → s.mgt.entering = some 3 → s.pstateOk 3 = true → ∃ t, step s = .next t ∧ t.pstate = 3 ∧
    (List.range 8).all (fun st => (t.stack st).selfRefresh) = true ∧ t.mem.hbm = s.mem.hbm ∧ t.cores = s.cores ∧ t.xport = s.xport) ∧
  -- R375, R418: P4: every port is dark, and the module's keys are gone
  (∀ s, s.pending = [] → s.mgt.entering = some 4 → s.pstateOk 4 = true → ∃ t, step s = .next t ∧ t = { s.enterPstate 4 with now := s.now + 1 } ∧
    t.sec.moduleKeys = 0 ∧ (List.range 16).all (fun i => decide (t.portSt i F.PORT_STATUS_LINK_A = 0) &&
    decide (t.portSt i F.PORT_STATUS_LINK_B = 0)) = true) ∧
  -- R376: an entry whose condition has ended is abandoned
  (∀ s (p : Nat), s.pending = [] → s.mgt.entering = some p → s.pstateOk p = false → ∃ t, step s = .next t ∧ t.mgt = { s.mgt with entering := none } ∧
    t.rf R.HOST_PM_STATUS F.HOST_PM_STATUS_ENTERING = 0 ∧ t.pstate = s.pstate ∧ t = { s with mgt := t.mgt, regs := t.regs, now := s.now + 1 }) ∧
  -- R374: not where the host tolerates no wake time
  (∀ s (p : Nat), s.rf R.HOST_PM_TOL F.HOST_PM_TOL_TOL_US = 0 ∨ s.rf R.HOST_PM_TOL F.HOST_PM_TOL_TOL_US < (wakeUs[p]?).getD 0 → ∃ t,
    exec (.pstateEntry p) s = .next t ∧ t = s) ∧
  -- R376: P0 needs no wake
  (∀ s, s.awake = true → ∃ t, exec (.pstateWake) s = .next t ∧ t = s) ∧
  -- R376: and it abandons an entry in progress
  (∀ s (p : Nat), s.pstate = 0 → s.mgt.entering = some p → ∃ t, exec (.pstateWake) s = .next t ∧ t.mgt = { s.mgt with entering := none } ∧
    t.rf R.HOST_PM_STATUS F.HOST_PM_STATUS_ENTERING = 0 ∧ t.pstate = 0 ∧ t = { s with mgt := t.mgt, regs := t.regs }) ∧
  -- R376: from P1
  (∀ s, s.pstate = 1 → ∃ t, exec (.pstateWake) s = .next t ∧ t.pstate = 0 ∧ t.mem = s.mem ∧ t.cores = s.cores ∧ t.xport = s.xport) ∧
  -- R376: from P2 every cell starts from reset
  (∀ s, s.pstate = 2 → ∃ t, exec (.pstateWake) s = .next t ∧ t.pstate = 0 ∧
    (List.range 128).all (fun k => decide (t.core k = { cycAdd := (t.core k).cycAdd })) = true) ∧
  -- R376: from P3 the stacks leave self-refresh
  (∀ s, s.pstate = 3 → ∃ t, exec (.pstateWake) s = .next t ∧ t.pstate = 0 ∧
    (List.range 8).all (fun st => !(t.stack st).selfRefresh) = true) ∧
  -- R376: from P4 by a warm restart
  (∀ s, s.pstate = 4 → ∃ t, exec (.pstateWake) s = .next t ∧ t.rf R.MGMT_STAGE F.MGMT_STAGE_WARM = 1 ∧
    t.rf R.MGMT_STAGE F.MGMT_STAGE_STAGE = 0 ∧ t.cores = [] ∧ t.mem.regions = [] ∧ t.nv = s.nv ∧ t.pending = s.pending)

/-- R307 to R310, R346: what LLDP frames carry and teach, and the election. -/
def Obligations.DiscoveryCompletes : Prop :=
  -- R307: a port of one link
  (∀ s (port : Nat), s.portMode port ≠ 2 → s.linkUp port 0 = true → ∃ t, exec (.lldpTx port) s = .next t ∧
    (t.port port).txq.take ((s.port port).txq.length + 1) = (s.port port).txq ++
    [{ frame := s.frameOf port (s.lldpBytes port 1).length .multicast .lldp, ward := none, sub := some 0, dst := nearestBridge, etype := 0x88CC, bytes := s.lldpBytes port 1 }] ∧
    (∀ q, q ≠ port → t.port q = s.port q) ∧ t = { s with regs := t.regs, evt := t.evt, ports := t.ports }) ∧
  -- R307: of two
  (∀ s (port : Nat), s.portMode port = 2 → s.linkUp port 0 = true → s.linkUp port 1 = true → s.parkState port = 0 → ∃ t,
    exec (.lldpTx port) s = .next t ∧ (t.port port).txq = (s.port port).txq ++
    [{ frame := s.frameOf port (s.lldpBytes port 2).length .multicast .lldp, ward := none, sub := some 0, dst := nearestBridge, etype := 0x88CC, bytes := s.lldpBytes port 2 },
    { frame := s.frameOf port (s.lldpBytes port 3).length .multicast .lldp, ward := none, sub := some 1, dst := nearestBridge, etype := 0x88CC, bytes := s.lldpBytes port 3 }] ∧
    (∀ q, q ≠ port → t.port q = s.port q) ∧ t = { s with ports := t.ports }) ∧
  -- no link, no frame
  (∀ s (port : Nat), s.linkUp port 0 = false → s.linkUp port 1 = false → ∃ t, exec (.lldpTx port) s = .next t ∧ t = s) ∧
  -- R279: a peer of another make teaches the next hop only
  (∀ s (port sub : Nat) (i : Lldp), s.linkUp port sub = true → i.generation = 0 → ∃ t,
    exec (.lldpRx port { i with sub := sub }) s = .next t ∧ t = s.learnMac port i.mac (decide (sub = 1)) ∧ (sub ≠ 1 →
    s.rf (R.XPORT_NEXTHOP port) F.XPORT_NEXTHOP_LEARN = 1 → t.rf (R.XPORT_NEXTHOP port) F.XPORT_NEXTHOP_MAC = i.mac % 2 ^ 48) ∧ (sub = 1 →
    s.rf (R.PORT_NEXTHOP_B port) F.PORT_NEXTHOP_B_LEARN = 1 → t.rf (R.PORT_NEXTHOP_B port) F.PORT_NEXTHOP_B_MAC = i.mac % 2 ^ 48) ∧
    t = { s with regs := t.regs }) ∧
  -- R307, R346: a peer is known, and whether it parks
  (∀ s (port sub : Nat) (i : Lldp), s.linkUp port sub = true → i.generation ≠ 0 →
    s.rf R.XPORT_CFG F.XPORT_CFG_DEV_MODE ≠ 1 → port < 16 → i.devnum ≠ s.dev → ∃ t, exec (.lldpRx port { i with sub := sub }) s = .next t ∧
    mget none t.xport.peers (if sub = 1 then
    16 + port else port) = some { mac := i.mac, dev := i.devnum, port := i.portIndex, gen := i.generation, serial := i.serial, prio := i.prio, best := i.bestSerial } ∧
    (∀ q, q ≠ (if sub = 1 then 16 + port else port) → mget none t.xport.peers q = mget none s.xport.peers q) ∧
    t.portSt port F.PORT_STATUS_PEER_PARK = b2n (bitAt i.linkFlags 0) ∧ nmem t.xport.conflict port = false ∧ t.dev = s.dev ∧
    t.mem = s.mem) ∧
  -- R310: a neighbour with the number of this module is a conflict
  (∀ s (port sub : Nat) (i : Lldp), s.linkUp port sub = true → i.generation ≠ 0 →
    s.rf R.XPORT_CFG F.XPORT_CFG_DEV_MODE ≠ 1 → port < 16 → i.devnum = s.dev → s.dev ≠ 0xFFFF → ∃ t, exec (.lldpRx port { i with sub := sub }) s = .next t ∧
    nmem t.xport.conflict port = decide (i.serial ≠ ownSerial) ∧ t.dev = s.dev) ∧
  -- no frame on a link that is down
  (∀ s (port sub : Nat) (i : Lldp), s.linkUp port sub = false → ∃ t, exec (.lldpRx port { i with sub := sub }) s = .next t ∧ t = s) ∧
  -- R308: without leader mode there is no election
  (∀ s, s.rf R.XPORT_CFG F.XPORT_CFG_DEV_MODE ≠ 1 → ∃ t, exec (.electionSettled) s = .next t ∧ t = s) ∧
  -- R309: the module leads where it is the best candidate: it ranks what it knows, itself included
  (∀ s, s.rf R.XPORT_CFG F.XPORT_CFG_DEV_MODE = 1 → ∃ t, exec (.electionSettled) s = .next t ∧
    t.xport.leads = decide (s.bestCand.2 = ownSerial) ∧ t.xport.assigned = (if s.bestCand.2 = ownSerial then
    (List.zip s.serials (List.range s.serials.length)).map (fun e => (e.1,
    (s.rf R.XPORT_ELECT F.XPORT_ELECT_ASSIGN_BASE + e.2) % 65536)) else []) ∧ t.xport.peers = s.xport.peers ∧ t.nv = s.nv ∧ t.sup = s.sup) ∧
  -- R309: alone, it takes the first number through a latch of its own
  (∀ s, s.rf R.XPORT_CFG F.XPORT_CFG_DEV_MODE = 1 → s.xport.peers = [] →
    s.latchFails [s.withDev (s.rf R.XPORT_ELECT F.XPORT_ELECT_ASSIGN_BASE)] false = [] → ∃ t, exec (.electionSettled) s = .next t ∧
    t.xport.leads = true ∧ t.dev = s.rf R.XPORT_ELECT F.XPORT_ELECT_ASSIGN_BASE) ∧
  -- R462: a latch that a rule refuses changes nothing
  (∀ s, s.rf R.XPORT_CFG F.XPORT_CFG_DEV_MODE = 1 → s.xport.peers = [] →
    s.latchFails [s.withDev (s.rf R.XPORT_ELECT F.XPORT_ELECT_ASSIGN_BASE)] false ≠ [] → ∃ t, exec (.electionSettled) s = .next t ∧
    t = { s with free := t.free, xport := t.xport })

/-- R427, R428: the two passes of a bundle. The signature and the digest verify or not by what the operands and the keys are (log entry 22). -/
def Obligations.BundlesComplete : Prop :=
  -- R428: the ward is not LOCKED
  (∀ s (w a len : Nat), Answers s = true → w < 8 → 256 ≤ len → len ≤ 65536 → s.inShared a len = true → s.wardState w ≠ 2 → ∃ t,
    exec (.bundle w a len) s = .next t ∧ t.resp.status = St.wardFault ∧ t = { s with resp := t.resp }) ∧
  -- R427: it does not lie in the shared window
  (∀ s (w a len : Nat), Answers s = true → w < 8 → s.wardState w = 2 → s.inShared a len = false → ∃ t, exec (.bundle w a len) s = .next t ∧
    t.resp.status = St.bounds ∧ t = { s with resp := t.resp }) ∧
  -- R428: the two passes
  (∀ s (w a len : Nat) (r : State × List Byte × Nat), Answers s = true → w < 8 → 256 ≤ len → len ≤ 65536 → s.inShared a len = true →
    s.wardState w = 2 → s.uRead a len 0 false = r → ∃ t, exec (.bundle w a len) s = .next t ∧ (worst (worst (if r.2.2 = St.unset then
    St.ok else r.2.2) (r.1.bundleHead w r.2.1 len)) (worstOf ((bundleEntries r.2.1).map (fun e => e.check r.1 w))) ≠ St.ok →
    t.resp.status = worst (worst (if r.2.2 = St.unset then
    St.ok else r.2.2) (r.1.bundleHead w r.2.1 len)) (worstOf ((bundleEntries r.2.1).map (fun e => e.check r.1 w))) ∧
    t = { r.1 with resp := t.resp }) ∧ (worst (worst (if r.2.2 = St.unset then
    St.ok else r.2.2) (r.1.bundleHead w r.2.1 len)) (worstOf ((bundleEntries r.2.1).map (fun e => e.check r.1 w))) = St.ok →
    (t.reg (R.SEC_WARD_SEQ w)).toNat = leAt r.2.1 8 8 ∧
    t.resp.status = (if sha384 ((bundleEntries r.2.1).foldl (fun (p : Pass2) e => p.perform w e) { s := r.1 }).hashed ≠ slice r.2.1 48 48 then
    St.tagFail else ((bundleEntries r.2.1).foldl (fun (p : Pass2) e => p.perform w e) { s := r.1 }).status) ∧
    (sha384 ((bundleEntries r.2.1).foldl (fun (p : Pass2) e => p.perform w e) { s := r.1 }).hashed ≠ slice r.2.1 48 48 →
    t.wardState w = 3)))
end

