-- ==== Sys2Proof/Laws/Map.lean ====
section
/-! SUPPORT. Laws of sparse maps: every operation keeps the canonical form, a read after a write gives the value written, and a write
leaves every other key alone. -/

namespace Sys2Proof.Machine

section
variable {α : Type}

/-! ## The canonical form is kept -/

theorem mwfFrom_mono [DecidableEq α] {d : Nat → α} {m : List (Nat × α)} {lo lo' : Nat} (h : mwfFrom d lo m = true) (hl : lo' ≤ lo) :
    mwfFrom d lo' m = true := by
  cases m with
  | nil => rfl
  | cons e m => simp only [mwfFrom, Bool.and_eq_true, decide_eq_true_eq] at *; exact ⟨⟨by omega, h.1.2⟩, h.2⟩

theorem mwfFrom_minsert [DecidableEq α] {d : Nat → α} {a : Nat} {x : α} (hx : x ≠ d a) :
    ∀ {m : List (Nat × α)} {lo : Nat}, mwfFrom d lo m = true → lo ≤ a → mwfFrom d lo (minsert a x m) = true := by
  intro m
  induction m with
  | nil => intro lo _ hl; simp [minsert, mwfFrom, hl, hx]
  | cons e m ih =>
    obtain ⟨k, v⟩ := e
    intro lo h hl
    simp only [mwfFrom, Bool.and_eq_true, decide_eq_true_eq] at h
    simp only [minsert]
    split
    · rename_i hk
      simp only [mwfFrom, Bool.and_eq_true, decide_eq_true_eq]
      exact ⟨⟨hl, hx⟩, ⟨by omega, h.1.2⟩, h.2⟩
    · split
      · rename_i _ hk
        subst hk
        simp only [mwfFrom, Bool.and_eq_true, decide_eq_true_eq]
        exact ⟨⟨hl, hx⟩, h.2⟩
      · simp only [mwfFrom, Bool.and_eq_true, decide_eq_true_eq]
        exact ⟨h.1, ih h.2 (by omega)⟩

theorem mwfFrom_merase [DecidableEq α] {d : Nat → α} {a : Nat} :
    ∀ {m : List (Nat × α)} {lo : Nat}, mwfFrom d lo m = true → mwfFrom d lo (merase a m) = true := by
  intro m
  induction m with
  | nil => intro lo _; rfl
  | cons e m ih =>
    obtain ⟨k, v⟩ := e
    intro lo h
    simp only [mwfFrom, Bool.and_eq_true, decide_eq_true_eq] at h
    simp only [merase]
    split
    · exact mwfFrom_mono (ih h.2) (by omega)
    · simp only [mwfFrom, Bool.and_eq_true, decide_eq_true_eq]
      exact ⟨h.1, ih h.2⟩

/-- A filtered map stays canonical. -/
theorem mwfFrom_filter [DecidableEq α] {d : Nat → α} (p : Nat × α → Bool) :
    ∀ {m : List (Nat × α)} {lo : Nat}, mwfFrom d lo m = true → mwfFrom d lo (m.filter p) = true := by
  intro m
  induction m with
  | nil => intro lo _; rfl
  | cons e m ih =>
    obtain ⟨k, v⟩ := e
    intro lo h
    simp only [mwfFrom, Bool.and_eq_true, decide_eq_true_eq] at h
    rw [List.filter_cons]
    split
    · simp only [mwfFrom, Bool.and_eq_true, decide_eq_true_eq]
      exact ⟨h.1, ih h.2⟩
    · exact mwfFrom_mono (ih h.2) (by omega)

theorem mwfBy_filter [DecidableEq α] {d : Nat → α} {m : List (Nat × α)} (p : Nat × α → Bool) (h : mwfBy d m = true) :
    mwfBy d (m.filter p) = true := mwfFrom_filter p h

/-- A write keeps the canonical form. -/
theorem mwfBy_mset [DecidableEq α] {d : Nat → α} {m : List (Nat × α)} (a : Nat) (x : α) (h : mwfBy d m = true) :
    mwfBy d (mset (d a) m a x) = true := by
  unfold mset mwfBy at *
  split
  · exact mwfFrom_merase h
  · rename_i hx; exact mwfFrom_minsert hx h (Nat.zero_le a)

theorem mwfBy_meraseRange [DecidableEq α] {d : Nat → α} {m : List (Nat × α)} (a n : Nat) (h : mwfBy d m = true) :
    mwfBy d (meraseRange m a n) = true := mwfBy_filter _ h

/-- Every key of a canonical map lies at its bound or above. -/
theorem mwfFrom_key [DecidableEq α] {d : Nat → α} :
    ∀ {m : List (Nat × α)} {lo : Nat}, mwfFrom d lo m = true → ∀ e ∈ m, lo ≤ e.1 := by
  intro m
  induction m with
  | nil => intro lo _ e he; simp at he
  | cons e m ih =>
    intro lo h x hx
    simp only [mwfFrom, Bool.and_eq_true, decide_eq_true_eq] at h
    rcases List.mem_cons.1 hx with rfl | hx
    · exact h.1.1
    · have := ih h.2 x hx; omega

/-- Two canonical maps joined are canonical when the keys of the first lie below those of the second. -/
theorem mwfFrom_append [DecidableEq α] {d : Nat → α} {b : List (Nat × α)} {hi : Nat} (hb : mwfFrom d hi b = true) :
    ∀ {a : List (Nat × α)} {lo : Nat}, mwfFrom d lo a = true → (∀ e ∈ a, e.1 < hi) → lo ≤ hi → mwfFrom d lo (a ++ b) = true := by
  intro a
  induction a with
  | nil => intro lo _ _ hl; exact mwfFrom_mono hb hl
  | cons e a ih =>
    intro lo h hlt hl
    simp only [mwfFrom, Bool.and_eq_true, decide_eq_true_eq] at h
    simp only [List.cons_append, mwfFrom, Bool.and_eq_true, decide_eq_true_eq]
    have he := hlt e (by simp)
    exact ⟨h.1, ih h.2 (fun x hx => hlt x (by simp [hx])) (by omega)⟩

/-- The entries of a canonical map whose keys lie at or above a bound form a map that is canonical from that bound. -/
theorem mwfFrom_raise [DecidableEq α] {d : Nat → α} {hi : Nat} :
    ∀ {m : List (Nat × α)} {lo : Nat}, mwfFrom d lo m = true → (∀ e ∈ m, hi ≤ e.1) → mwfFrom d hi m = true := by
  intro m
  cases m with
  | nil => intro lo _ _; rfl
  | cons e m =>
    intro lo h hlt
    simp only [mwfFrom, Bool.and_eq_true, decide_eq_true_eq] at *
    exact ⟨⟨hlt e (by simp), h.1.2⟩, h.2⟩

theorem mwfBy_mcopyRange [DecidableEq α] {d : Nat → α} {src dst : List (Nat × α)} (a n : Nat) (hs : mwfBy d src = true)
    (hd : mwfBy d dst = true) : mwfBy d (mcopyRange src dst a n) = true := by
  unfold mcopyRange mwfBy at *
  have h3 : mwfFrom d (a + n) (dst.filter (fun c => a + n ≤ c.1)) = true :=
    mwfFrom_raise (mwfFrom_filter _ hd) (fun e he => by simpa using (List.mem_filter.1 he).2)
  have h2 : mwfFrom d a (src.filter (fun c => a ≤ c.1 && c.1 < a + n) ++ dst.filter (fun c => a + n ≤ c.1)) = true := by
    refine mwfFrom_append h3 (mwfFrom_raise (mwfFrom_filter _ hs) ?_) ?_ (by omega)
    · intro e he; have := (List.mem_filter.1 he).2; simp at this; omega
    · intro e he; have := (List.mem_filter.1 he).2; simp at this; omega
  rw [List.append_assoc]
  refine mwfFrom_append h2 (mwfFrom_filter _ hd) ?_ (Nat.zero_le a)
  intro e he; simpa using (List.mem_filter.1 he).2

/-! ## Reads after writes -/

theorem mget_minsert_self {a : Nat} {x z : α} (m : List (Nat × α)) : mget z (minsert a x m) a = x := by
  induction m with
  | nil => simp [minsert, mget]
  | cons e m ih =>
    obtain ⟨k, v⟩ := e
    simp only [minsert]
    split
    · simp [mget]
    · split
      · simp [mget]
      · simp only [mget]
        rw [if_neg (by omega)]
        exact ih

theorem mget_minsert_ne {a b : Nat} {x z : α} (hb : b ≠ a) (m : List (Nat × α)) : mget z (minsert a x m) b = mget z m b := by
  induction m with
  | nil => simp only [minsert, mget]; rw [if_neg (by omega)]
  | cons e m ih =>
    obtain ⟨k, v⟩ := e
    simp only [minsert]
    split
    · simp only [mget]
      rw [if_neg (by omega)]
    · split
      · have hkb : ¬ a = b := by omega
        rename_i hk
        simp only [mget, ← hk, if_neg hkb]
      · simp only [mget]
        rw [ih]

theorem mget_merase_self {a : Nat} {z : α} (m : List (Nat × α)) : mget z (merase a m) a = z := by
  induction m with
  | nil => rfl
  | cons e m ih =>
    obtain ⟨k, v⟩ := e
    simp only [merase]
    split
    · exact ih
    · simp only [mget]
      rw [if_neg (by omega)]
      exact ih

theorem mget_merase_ne {a b : Nat} {z : α} (hb : b ≠ a) (m : List (Nat × α)) : mget z (merase a m) b = mget z m b := by
  induction m with
  | nil => rfl
  | cons e m ih =>
    obtain ⟨k, v⟩ := e
    simp only [merase]
    split
    · simp only [mget]
      rw [if_neg (by omega)]
      exact ih
    · simp only [mget]
      rw [ih]

/-- Reading what was just written. -/
@[simp] theorem mget_mset_self [DecidableEq α] (d : α) (m : List (Nat × α)) (a : Nat) (x : α) : mget d (mset d m a x) a = x := by
  unfold mset
  split
  · rename_i hx; rw [hx]; exact mget_merase_self m
  · exact mget_minsert_self m

/-- A write leaves every other key alone. -/
theorem mget_mset_ne [DecidableEq α] (d z : α) (m : List (Nat × α)) {a b : Nat} (x : α) (hb : b ≠ a) :
    mget z (mset d m a x) b = mget z m b := by
  unfold mset
  split
  · exact mget_merase_ne hb m
  · exact mget_minsert_ne hb m

@[simp] theorem nmem_nput_self (m : NatSet) (a : Nat) (b : Bool) : nmem (nput m a b) a = b := mget_mset_self false m a b

theorem nmem_nput_ne (m : NatSet) {a b : Nat} (x : Bool) (hb : b ≠ a) : nmem (nput m a x) b = nmem m b := mget_mset_ne false false m x hb

end

/-! ## Byte memories -/

theorem Memory.wf_mset {m : List Host.Cell} (a : Nat) (b : Byte) (h : Memory.wf m = true) : Memory.wf (mset 0 m a b) = true :=
  mwfBy_mset (d := fun _ => (0 : Byte)) a b h

theorem Memory.wf_putBytes (bs : List Byte) : ∀ {m : List Host.Cell} (a : Nat), Memory.wf m = true → Memory.wf (putBytes m a bs) = true := by
  induction bs with
  | nil => intro m a h; exact h
  | cons b bs ih => intro m a h; exact ih (a + 1) (Memory.wf_mset a b h)

theorem Memory.wf_zeroBytes {m : List Host.Cell} (a n : Nat) (h : Memory.wf m = true) : Memory.wf (zeroBytes m a n) = true :=
  mwfBy_filter (d := fun _ => (0 : Byte)) _ h

theorem Memory.wf_mcopyRange {src dst : List Host.Cell} (a n : Nat) (hs : Memory.wf src = true) (hd : Memory.wf dst = true) :
    Memory.wf (mcopyRange src dst a n) = true := mwfBy_mcopyRange (d := fun _ => (0 : Byte)) a n hs hd

/-- Writing bytes leaves every byte outside them alone. -/
theorem byteAt_putBytes_ne (bs : List Byte) : ∀ (m : List Host.Cell) (a : Nat) {b : Nat}, (b < a ∨ a + bs.length ≤ b) →
    byteAt (putBytes m a bs) b = byteAt m b := by
  induction bs with
  | nil => intro m a b _; rfl
  | cons x bs ih =>
    intro m a b hb
    simp only [List.length_cons] at hb
    have h1 : byteAt (putBytes (mset 0 m a x) (a + 1) bs) b = byteAt (mset 0 m a x) b := ih _ (a + 1) (by omega)
    rw [putBytes, h1]
    exact mget_mset_ne 0 0 m x (by omega)

/-- Reading a byte that was just written. -/
theorem byteAt_putBytes_at (bs : List Byte) : ∀ (m : List Host.Cell) (a i : Nat), i < bs.length →
    byteAt (putBytes m a bs) (a + i) = (bs[i]?).getD 0 := by
  induction bs with
  | nil => intro m a i hi; simp at hi
  | cons x bs ih =>
    intro m a i hi
    cases i with
    | zero =>
      rw [putBytes, Nat.add_zero, byteAt_putBytes_ne bs _ (a + 1) (by omega)]
      exact mget_mset_self 0 m a x
    | succ i =>
      have := ih (mset 0 m a x) (a + 1) i (by simpa using hi)
      rw [putBytes]
      simpa [Nat.add_assoc, Nat.add_comm 1 i] using this

end Sys2Proof.Machine
end

