-- ==== Sys2Proof/Laws/Good.lean ====
section
/-! SUPPORT. The relation that every operation of the machine keeps: `Good r s` says that `s` is in canonical form and that, compared with
the state `r`, its queue and its clock are unchanged and its fuses kept. Each operation has one law in Sys2Proof/Laws/Ops*.lean. -/

namespace Sys2Proof.Machine

open Sys2Proof Sys2Proof.Safety

/-- What a state keeps of a state `r` from which it was reached within one command. -/
structure Good (r s : State) : Prop where
  canon : Canonical s
  pending : s.pending = r.pending
  now : s.now = r.now
  fuses : FusesKept r.nv s.nv

/-- The same of a non-volatile part. -/
structure GoodNv (r : State) (n : Nv) : Prop where
  tag : Memory.wf n.tag = true
  fuses : FusesKept r.nv n

/-- An outcome that is a next state which keeps what `Good` says. -/
def GoodOut (r : State) (o : Host.Outcome State Fault Refusal) : Prop := ∃ t, o = .next t ∧ Good r t

variable {r s : State}

theorem GoodOut.next {t : State} (h : Good r t) : GoodOut r (.next t) := ⟨t, rfl, h⟩

theorem FusesKept.refl (n : Nv) : FusesKept n n := ⟨rfl, rfl, rfl, Nat.le_refl _, Nat.le_refl _⟩

theorem Good.refl (h : Canonical s) : Good s s := ⟨h, rfl, rfl, FusesKept.refl _⟩

theorem Good.nv (h : Good r s) : GoodNv r s.nv := ⟨h.canon.tag, h.fuses⟩

theorem Good.memory (h : Good r s) : MemCanonical s.mem := h.canon.mem

/-! ## One field replaced -/

theorem Good.set_free (h : Good r s) (x) : Good r { s with free := x } := ⟨⟨h.1.1, h.1.2, h.1.3⟩, h.2, h.3, h.4⟩
theorem Good.set_rnd (h : Good r s) (x) : Good r { s with rnd := x } := ⟨⟨h.1.1, h.1.2, h.1.3⟩, h.2, h.3, h.4⟩
theorem Good.set_resp (h : Good r s) (x) : Good r { s with resp := x } := ⟨⟨h.1.1, h.1.2, h.1.3⟩, h.2, h.3, h.4⟩
theorem Good.set_clk (h : Good r s) (x) : Good r { s with clk := x } := ⟨⟨h.1.1, h.1.2, h.1.3⟩, h.2, h.3, h.4⟩
theorem Good.set_evt (h : Good r s) (x) : Good r { s with evt := x } := ⟨⟨h.1.1, h.1.2, h.1.3⟩, h.2, h.3, h.4⟩
theorem Good.set_clk_evt (h : Good r s) (x y) : Good r { s with clk := x, evt := y } := ⟨⟨h.1.1, h.1.2, h.1.3⟩, h.2, h.3, h.4⟩
theorem Good.set_cores (h : Good r s) (x) : Good r { s with cores := x } := ⟨⟨h.1.1, h.1.2, h.1.3⟩, h.2, h.3, h.4⟩
theorem Good.set_mesh (h : Good r s) (x) : Good r { s with mesh := x } := ⟨⟨h.1.1, h.1.2, h.1.3⟩, h.2, h.3, h.4⟩
theorem Good.set_xport (h : Good r s) (x) : Good r { s with xport := x } := ⟨⟨h.1.1, h.1.2, h.1.3⟩, h.2, h.3, h.4⟩
theorem Good.set_ports (h : Good r s) (x) : Good r { s with ports := x } := ⟨⟨h.1.1, h.1.2, h.1.3⟩, h.2, h.3, h.4⟩
theorem Good.set_sup (h : Good r s) (x) : Good r { s with sup := x } := ⟨⟨h.1.1, h.1.2, h.1.3⟩, h.2, h.3, h.4⟩
theorem Good.set_jtag (h : Good r s) (x) : Good r { s with jtag := x } := ⟨⟨h.1.1, h.1.2, h.1.3⟩, h.2, h.3, h.4⟩
theorem Good.set_mgt (h : Good r s) (x) : Good r { s with mgt := x } := ⟨⟨h.1.1, h.1.2, h.1.3⟩, h.2, h.3, h.4⟩
theorem Good.set_pwr (h : Good r s) (x) : Good r { s with pwr := x } := ⟨⟨h.1.1, h.1.2, h.1.3⟩, h.2, h.3, h.4⟩
theorem Good.set_sec (h : Good r s) (x) : Good r { s with sec := x } := ⟨⟨h.1.1, h.1.2, h.1.3⟩, h.2, h.3, h.4⟩
theorem Good.set_nv (h : Good r s) {n : Nv} (hn : GoodNv r n) : Good r { s with nv := n } := ⟨⟨h.1.1, hn.1, h.1.3⟩, h.2, h.3, hn.2⟩
theorem Good.set_mem (h : Good r s) {m : Mem} (hm : MemCanonical m) : Good r { s with mem := m } := ⟨⟨hm, h.1.2, h.1.3⟩, h.2, h.3, h.4⟩
theorem Good.set_regs (h : Good r s) {l : List (Nat × W64)} (hl : mwfBy regReset l = true) : Good r { s with regs := l } :=
  ⟨⟨h.1.1, h.1.2, hl⟩, h.2, h.3, h.4⟩

/-! ## Folds -/

theorem Good.foldl {β : Type} {f : State → β → State} {l : List β} (h : Good r s) (hf : ∀ s x, Good r s → Good r (f s x)) :
    Good r (l.foldl f s) := by
  induction l generalizing s with
  | nil => exact h
  | cons x l ih => exact ih (hf s x h)

theorem Good.foldl_fst {β γ : Type} {f : State × γ → β → State × γ} {l : List β} {a : State × γ} (h : Good r a.1)
    (hf : ∀ a x, Good r a.1 → Good r (f a x).1) : Good r (l.foldl f a).1 := by
  induction l generalizing a with
  | nil => exact h
  | cons x l ih => exact ih (hf a x h)

theorem Good.foldl_snd {β γ : Type} {f : γ × State → β → γ × State} {l : List β} {a : γ × State} (h : Good r a.2)
    (hf : ∀ a x, Good r a.2 → Good r (f a x).2) : Good r (l.foldl f a).2 := by
  induction l generalizing a with
  | nil => exact h
  | cons x l ih => exact ih (hf a x h)

/-! ## Parts of the memory replaced -/

theorem Good.set_mem_marks (h : Good r s) (x) : Good r { s with mem := { s.mem with marks := x } } :=
  ⟨⟨⟨h.1.1.1, h.1.1.2, h.1.1.3, h.1.1.4, h.1.1.5⟩, h.1.2, h.1.3⟩, h.2, h.3, h.4⟩

theorem Good.set_mem_regions (h : Good r s) (x) : Good r { s with mem := { s.mem with regions := x } } :=
  ⟨⟨⟨h.1.1.1, h.1.1.2, h.1.1.3, h.1.1.4, h.1.1.5⟩, h.1.2, h.1.3⟩, h.2, h.3, h.4⟩

theorem Good.set_mem_cache (h : Good r s) (x) : Good r { s with mem := { s.mem with cache := x } } :=
  ⟨⟨⟨h.1.1.1, h.1.1.2, h.1.1.3, h.1.1.4, h.1.1.5⟩, h.1.2, h.1.3⟩, h.2, h.3, h.4⟩

theorem Good.set_mem_stamp (h : Good r s) (x) : Good r { s with mem := { s.mem with stamp := x } } :=
  ⟨⟨⟨h.1.1.1, h.1.1.2, h.1.1.3, h.1.1.4, h.1.1.5⟩, h.1.2, h.1.3⟩, h.2, h.3, h.4⟩

theorem Good.set_mem_blocks (h : Good r s) (x) : Good r { s with mem := { s.mem with blocks := x } } :=
  ⟨⟨⟨h.1.1.1, h.1.1.2, h.1.1.3, h.1.1.4, h.1.1.5⟩, h.1.2, h.1.3⟩, h.2, h.3, h.4⟩

theorem Good.set_mem_fmarks (h : Good r s) (x) : Good r { s with mem := { s.mem with fmarks := x } } :=
  ⟨⟨⟨h.1.1.1, h.1.1.2, h.1.1.3, h.1.1.4, h.1.1.5⟩, h.1.2, h.1.3⟩, h.2, h.3, h.4⟩

theorem Good.set_mem_wayPtr (h : Good r s) (x) : Good r { s with mem := { s.mem with wayPtr := x } } :=
  ⟨⟨⟨h.1.1.1, h.1.1.2, h.1.1.3, h.1.1.4, h.1.1.5⟩, h.1.2, h.1.3⟩, h.2, h.3, h.4⟩

theorem Good.set_mem_waiting (h : Good r s) (x) : Good r { s with mem := { s.mem with waiting := x } } :=
  ⟨⟨⟨h.1.1.1, h.1.1.2, h.1.1.3, h.1.1.4, h.1.1.5⟩, h.1.2, h.1.3⟩, h.2, h.3, h.4⟩

theorem Good.set_mem_bankLast (h : Good r s) (x) : Good r { s with mem := { s.mem with bankLast := x } } :=
  ⟨⟨⟨h.1.1.1, h.1.1.2, h.1.1.3, h.1.1.4, h.1.1.5⟩, h.1.2, h.1.3⟩, h.2, h.3, h.4⟩

theorem Good.set_mem_bucket (h : Good r s) (x) : Good r { s with mem := { s.mem with bucket := x } } :=
  ⟨⟨⟨h.1.1.1, h.1.1.2, h.1.1.3, h.1.1.4, h.1.1.5⟩, h.1.2, h.1.3⟩, h.2, h.3, h.4⟩

theorem Good.set_mem_stk (h : Good r s) (x) : Good r { s with mem := { s.mem with stk := x } } :=
  ⟨⟨⟨h.1.1.1, h.1.1.2, h.1.1.3, h.1.1.4, h.1.1.5⟩, h.1.2, h.1.3⟩, h.2, h.3, h.4⟩

theorem Good.set_mem_walkers (h : Good r s) (x) : Good r { s with mem := { s.mem with walkers := x } } :=
  ⟨⟨⟨h.1.1.1, h.1.1.2, h.1.1.3, h.1.1.4, h.1.1.5⟩, h.1.2, h.1.3⟩, h.2, h.3, h.4⟩

theorem Good.set_mem_walkNext (h : Good r s) (x) : Good r { s with mem := { s.mem with walkNext := x } } :=
  ⟨⟨⟨h.1.1.1, h.1.1.2, h.1.1.3, h.1.1.4, h.1.1.5⟩, h.1.2, h.1.3⟩, h.2, h.3, h.4⟩

theorem Good.set_mem_due (h : Good r s) (x) : Good r { s with mem := { s.mem with due := x } } :=
  ⟨⟨⟨h.1.1.1, h.1.1.2, h.1.1.3, h.1.1.4, h.1.1.5⟩, h.1.2, h.1.3⟩, h.2, h.3, h.4⟩

theorem Good.set_mem_finds (h : Good r s) (x) : Good r { s with mem := { s.mem with finds := x } } :=
  ⟨⟨⟨h.1.1.1, h.1.1.2, h.1.1.3, h.1.1.4, h.1.1.5⟩, h.1.2, h.1.3⟩, h.2, h.3, h.4⟩

theorem Good.set_mem_eccs (h : Good r s) (x) : Good r { s with mem := { s.mem with eccs := x } } :=
  ⟨⟨⟨h.1.1.1, h.1.1.2, h.1.1.3, h.1.1.4, h.1.1.5⟩, h.1.2, h.1.3⟩, h.2, h.3, h.4⟩

theorem Good.set_mem_ops (h : Good r s) (x) : Good r { s with mem := { s.mem with ops := x } } :=
  ⟨⟨⟨h.1.1.1, h.1.1.2, h.1.1.3, h.1.1.4, h.1.1.5⟩, h.1.2, h.1.3⟩, h.2, h.3, h.4⟩

theorem Good.set_mem_moverBusy (h : Good r s) (x) : Good r { s with mem := { s.mem with moverBusy := x } } :=
  ⟨⟨⟨h.1.1.1, h.1.1.2, h.1.1.3, h.1.1.4, h.1.1.5⟩, h.1.2, h.1.3⟩, h.2, h.3, h.4⟩

theorem Good.set_mem_schedOn (h : Good r s) (x) : Good r { s with mem := { s.mem with schedOn := x } } :=
  ⟨⟨⟨h.1.1.1, h.1.1.2, h.1.1.3, h.1.1.4, h.1.1.5⟩, h.1.2, h.1.3⟩, h.2, h.3, h.4⟩

theorem Good.set_mem_schedAt (h : Good r s) (x) : Good r { s with mem := { s.mem with schedAt := x } } :=
  ⟨⟨⟨h.1.1.1, h.1.1.2, h.1.1.3, h.1.1.4, h.1.1.5⟩, h.1.2, h.1.3⟩, h.2, h.3, h.4⟩

theorem Good.set_mem_retrainQ (h : Good r s) (x) : Good r { s with mem := { s.mem with retrainQ := x } } :=
  ⟨⟨⟨h.1.1.1, h.1.1.2, h.1.1.3, h.1.1.4, h.1.1.5⟩, h.1.2, h.1.3⟩, h.2, h.3, h.4⟩

theorem Good.set_mem_retrainPos (h : Good r s) (x) : Good r { s with mem := { s.mem with retrainPos := x } } :=
  ⟨⟨⟨h.1.1.1, h.1.1.2, h.1.1.3, h.1.1.4, h.1.1.5⟩, h.1.2, h.1.3⟩, h.2, h.3, h.4⟩

theorem Good.set_mem_dcache (h : Good r s) (x) : Good r { s with mem := { s.mem with dcache := x } } :=
  ⟨⟨⟨h.1.1.1, h.1.1.2, h.1.1.3, h.1.1.4, h.1.1.5⟩, h.1.2, h.1.3⟩, h.2, h.3, h.4⟩

theorem Good.set_mem_hostCfg (h : Good r s) (x) : Good r { s with mem := { s.mem with hostCfg := x } } :=
  ⟨⟨⟨h.1.1.1, h.1.1.2, h.1.1.3, h.1.1.4, h.1.1.5⟩, h.1.2, h.1.3⟩, h.2, h.3, h.4⟩

theorem Good.set_mem_hdm (h : Good r s) (x) : Good r { s with mem := { s.mem with hdm := x } } :=
  ⟨⟨⟨h.1.1.1, h.1.1.2, h.1.1.3, h.1.1.4, h.1.1.5⟩, h.1.2, h.1.3⟩, h.2, h.3, h.4⟩

theorem Good.set_mem_hdmError (h : Good r s) (x) : Good r { s with mem := { s.mem with hdmError := x } } :=
  ⟨⟨⟨h.1.1.1, h.1.1.2, h.1.1.3, h.1.1.4, h.1.1.5⟩, h.1.2, h.1.3⟩, h.2, h.3, h.4⟩

theorem Good.set_mem_cfgSpace (h : Good r s) (x) : Good r { s with mem := { s.mem with cfgSpace := x } } :=
  ⟨⟨⟨h.1.1.1, h.1.1.2, h.1.1.3, h.1.1.4, h.1.1.5⟩, h.1.2, h.1.3⟩, h.2, h.3, h.4⟩

theorem Good.set_mem_snoop (h : Good r s) (x) : Good r { s with mem := { s.mem with snoop := x } } :=
  ⟨⟨⟨h.1.1.1, h.1.1.2, h.1.1.3, h.1.1.4, h.1.1.5⟩, h.1.2, h.1.3⟩, h.2, h.3, h.4⟩

theorem Good.set_mem_cpoison (h : Good r s) (x) : Good r { s with mem := { s.mem with cpoison := x } } :=
  ⟨⟨⟨h.1.1.1, h.1.1.2, h.1.1.3, h.1.1.4, h.1.1.5⟩, h.1.2, h.1.3⟩, h.2, h.3, h.4⟩

theorem Good.set_mem_acc (h : Good r s) (x) : Good r { s with mem := { s.mem with acc := x } } :=
  ⟨⟨⟨h.1.1.1, h.1.1.2, h.1.1.3, h.1.1.4, h.1.1.5⟩, h.1.2, h.1.3⟩, h.2, h.3, h.4⟩

theorem Good.set_mem_hbm (h : Good r s) {x} (hx : Memory.wf x = true) : Good r { s with mem := { s.mem with hbm := x } } :=
  ⟨⟨⟨hx, h.1.1.2, h.1.1.3, h.1.1.4, h.1.1.5⟩, h.1.2, h.1.3⟩, h.2, h.3, h.4⟩

theorem Good.set_mem_frame (h : Good r s) {x} (hx : Memory.wf x = true) : Good r { s with mem := { s.mem with frame := x } } :=
  ⟨⟨⟨h.1.1.1, hx, h.1.1.3, h.1.1.4, h.1.1.5⟩, h.1.2, h.1.3⟩, h.2, h.3, h.4⟩

theorem Good.set_mem_host (h : Good r s) {x} (hx : Memory.wf x = true) : Good r { s with mem := { s.mem with host := x } } :=
  ⟨⟨⟨h.1.1.1, h.1.1.2, hx, h.1.1.4, h.1.1.5⟩, h.1.2, h.1.3⟩, h.2, h.3, h.4⟩

theorem Good.set_mem_cstore (h : Good r s) {x} (hx : Memory.wf x = true) : Good r { s with mem := { s.mem with cstore := x } } :=
  ⟨⟨⟨h.1.1.1, h.1.1.2, h.1.1.3, hx, h.1.1.5⟩, h.1.2, h.1.3⟩, h.2, h.3, h.4⟩

theorem Good.set_mem_imem (h : Good r s) {x} (hx : Memory.wf x = true) : Good r { s with mem := { s.mem with imem := x } } :=
  ⟨⟨⟨h.1.1.1, h.1.1.2, h.1.1.3, h.1.1.4, hx⟩, h.1.2, h.1.3⟩, h.2, h.3, h.4⟩

/-! ## Folds that carry more, and conditionals -/

theorem Good.foldl_pass {β : Type} {f : Pass2 → β → Pass2} {l : List β} {a : Pass2} (h : Good r a.s)
    (hf : ∀ a x, Good r a.s → Good r (f a x).s) : Good r (l.foldl f a).s := by
  induction l generalizing a with
  | nil => exact h
  | cons x l ih => exact ih (hf a x h)

theorem Good.foldl_read {β : Type} {f : ReadRes → β → ReadRes} {l : List β} {a : ReadRes} (h : Good r a.s)
    (hf : ∀ a x, Good r a.s → Good r (f a x).s) : Good r (l.foldl f a).s := by
  induction l generalizing a with
  | nil => exact h
  | cons x l ih => exact ih (hf a x h)

theorem Good.foldl_fst_fst {β γ δ : Type} {f : (State × γ) × δ → β → (State × γ) × δ} {l : List β} {a : (State × γ) × δ} (h : Good r a.1.1)
    (hf : ∀ a x, Good r a.1.1 → Good r (f a x).1.1) : Good r (l.foldl f a).1.1 := by
  induction l generalizing a with
  | nil => exact h
  | cons x l ih => exact ih (hf a x h)

theorem Good.ite {c : Prop} [Decidable c] {a b : State} (ha : Good r a) (hb : Good r b) : Good r (if c then a else b) := by
  split
  · exact ha
  · exact hb

theorem Good.ite_pair {c : Prop} [Decidable c] {γ : Type} {a : State} {x : γ} {b : State × γ} (ha : Good r a) (hb : Good r b.1) :
    Good r (if c then (a, x) else b).1 := by
  split
  · exact ha
  · exact hb

/-! ## Registers -/

theorem State.setReg_good (h : Good r s) (a : Nat) (v : W64) : Good r (s.setReg a v) := h.set_regs (mwfBy_mset a v h.1.3)

end Sys2Proof.Machine
end

