-- ==== Sys2Proof/Laws/Ops.lean ====
section
/-! SUPPORT. What each operation of Sys2Proof/Machine/Ops.lean keeps: a state that is good (Laws/Good.lean) stays good. -/

namespace Sys2Proof.Machine

open Sys2Proof Sys2Proof.Safety

variable {r s : State}

theorem State.setCore_good (x0 x1 x2) (h0 : Good r (x0)) :
    Good r (State.setCore x0 x1 x2) := by
  unfold State.setCore
  grind [Good.set_cores]

theorem State.modCore_good (x0 x1 x2) (h0 : Good r (x0)) :
    Good r (State.modCore x0 x1 x2) := by
  unfold State.modCore
  grind [State.setCore_good]

theorem State.setCtr_good (x0 x1 x2 x3) (h0 : Good r (x0)) :
    Good r (State.setCtr x0 x1 x2 x3) := by
  unfold State.setCtr
  grind [State.modCore_good]

theorem State.setF_good (x0 x1 x2 x3) (h0 : Good r (x0)) :
    Good r (State.setF x0 x1 x2 x3) := by
  unfold State.setF
  grind [State.setReg_good]

theorem State.answer_good (x0 x1 x2 x3) (h0 : Good r (x0)) :
    Good r (State.answer x0 x1 x2 x3) := by
  unfold State.answer
  grind [Good.set_resp]

theorem State.bump_good (x0 x1 x2 x3) (h0 : Good r (x0)) :
    Good r (State.bump x0 x1 x2 x3) := by
  unfold State.bump
  grind [State.setF_good]

theorem State.drawn_good (x0 x1) (h0 : Good r (x0)) :
    Good r (State.drawn x0 x1) := by
  unfold State.drawn
  grind [Good.set_rnd]

theorem State.setPath_good (x0 x1 x2) (h0 : Good r (x0)) :
    Good r (State.setPath x0 x1 x2) := by
  unfold State.setPath
  grind [Good.set_evt]

theorem State.enqueue_good (x0 x1 x2) (h0 : Good r (x0)) :
    Good r (State.enqueue x0 x1 x2) := by
  unfold State.enqueue
  grind [State.setPath_good]

theorem State.alarmTo_good (x0 x1 x2) (h0 : Good r (x0)) :
    Good r (State.alarmTo x0 x1 x2) := by
  unfold State.alarmTo
  grind [State.setPath_good, State.enqueue_good]

theorem State.countSummarised_good (x0 x1 x2) (h0 : Good r (x0)) :
    Good r (State.countSummarised x0 x1 x2) := by
  unfold State.countSummarised
  grind [State.bump_good]

theorem State.summarise_good (x0 x1 x2) (h0 : Good r (x0)) :
    Good r (State.summarise x0 x1 x2) := by
  unfold State.summarise
  grind [State.setPath_good]

theorem State.logTo_good (x0 x1 x2) (h0 : Good r (x0)) :
    Good r (State.logTo x0 x1 x2) := by
  unfold State.logTo
  grind [State.enqueue_good, State.countSummarised_good, State.summarise_good]

theorem State.traceTo_good (x0 x1 x2) (h0 : Good r (x0)) :
    Good r (State.traceTo x0 x1 x2) := by
  unfold State.traceTo
  grind [State.enqueue_good, State.bump_good]

theorem State.recTo_good (x0 x1 x2) (h0 : Good r (x0)) :
    Good r (State.recTo x0 x1 x2) := by
  unfold State.recTo
  grind [State.alarmTo_good, State.logTo_good, State.traceTo_good]

theorem State.toOuter_good (x0 x1) (h0 : Good r (x0)) :
    Good r (State.toOuter x0 x1) := by
  unfold State.toOuter
  grind [State.recTo_good]

theorem State.deliver_good (x0 x1) (h0 : Good r (x0)) :
    Good r (State.deliver x0 x1) := by
  unfold State.deliver
  grind [State.toOuter_good, State.setPath_good, Good.foldl, Good.foldl_fst, Good.foldl_snd]

theorem State.raise_good (x0 x1) (h0 : Good r (x0)) :
    Good r (State.raise x0 x1) := by
  unfold State.raise
  grind [State.deliver_good, State.recTo_good, State.toOuter_good]

theorem State.drew_good (x0 x1) (h0 : Good r (x0)) :
    Good r (State.drew x0 x1) := by
  unfold State.drew
  grind [Good.set_free]

theorem State.setRegion_good (x0 x1 x2) (h0 : Good r (x0)) :
    Good r (State.setRegion x0 x1 x2) := by
  unfold State.setRegion
  grind [Good.set_mem_regions]

theorem State.setStack_good (x0 x1 x2) (h0 : Good r (x0)) :
    Good r (State.setStack x0 x1 x2) := by
  unfold State.setStack
  grind [Good.set_mem_stk]

theorem State.addCtr_good (x0 x1 x2 x3) (h0 : Good r (x0)) :
    Good r (State.addCtr x0 x1 x2 x3) := by
  unfold State.addCtr
  grind [State.setCtr_good]

theorem State.addF_good (x0 x1 x2 x3) (h0 : Good r (x0)) :
    Good r (State.addF x0 x1 x2 x3) := by
  unfold State.addF
  grind [State.setF_good]

theorem State.random_good (x0) (h0 : Good r (x0)) :
    Good r (State.random x0).2 := by
  unfold State.random
  grind [Good.set_rnd]

theorem State.markFaulty_good (x0 x1 x2 x3) (h0 : Good r (x0)) :
    Good r (State.markFaulty x0 x1 x2 x3) := by
  unfold State.markFaulty
  grind [State.setF_good]

end Sys2Proof.Machine
end

