-- ==== Sys2Proof/Laws/Access.lean ====
section
/-! SUPPORT. What each operation of Sys2Proof/Machine/Access.lean keeps: a state that is good (Laws/Good.lean) stays good. -/

namespace Sys2Proof.Machine

open Sys2Proof Sys2Proof.Safety

variable {r s : State}

theorem State.hostErr_good (x0 x1 x2 x3) (h0 : Good r (x0)) :
    Good r (State.hostErr x0 x1 x2 x3) := by
  unfold State.hostErr
  grind [State.setF_good, State.raise_good, State.bump_good]

theorem State.ctlEnd_good (x0 x1 x2 x3 x4) (h0 : Good r (x0)) :
    Good r (State.ctlEnd x0 x1 x2 x3 x4) := by
  unfold State.ctlEnd
  grind [State.hostErr_good, State.answer_good]

theorem State.lockedRefused_good (x0 x1) (h0 : Good r (x0)) :
    Good r (State.lockedRefused x0 x1) := by
  unfold State.lockedRefused
  grind [State.raise_good]

theorem State.ctlDo_good (x0 x1 x2 x3 x4) (h0 : Good r (x0)) (h4 : ∀ y0, Good r (y0) → Good r (x4 y0)) :
    Good r (State.ctlDo x0 x1 x2 x3 x4) := by
  unfold State.ctlDo
  grind [State.ctlEnd_good]

end Sys2Proof.Machine
end

