-- ==== Sys2Proof/Laws/Cell.lean ====
section
/-! SUPPORT. What each operation of Sys2Proof/Machine/Cell.lean keeps: a state that is good (Laws/Good.lean) stays good. -/

namespace Sys2Proof.Machine

open Sys2Proof Sys2Proof.Safety

variable {r s : State}

theorem State.zeroFh_good (x0 x1) (h0 : Good r (x0)) :
    Good r (State.zeroFh x0 x1) := by
  unfold State.zeroFh
  grind [State.setReg_good, Good.foldl, Good.foldl_fst, Good.foldl_snd]

theorem State.flush_good (x0 x1 x2) (h0 : Good r (x0)) :
    Good r (State.flush x0 x1 x2) := by
  unfold State.flush
  grind [State.modCore_good]

theorem State.resume_good (x0 x1 x2) (h0 : Good r (x0)) :
    Good r (State.resume x0 x1 x2) := by
  unfold State.resume
  grind [State.modCore_good]

theorem State.signalTo_good (x0 x1 x2 x3 x4 x5 x6) (h0 : Good r (x0)) :
    Good r (State.signalTo x0 x1 x2 x3 x4 x5 x6) := by
  unfold State.signalTo
  grind [State.addCtr_good, Good.foldl, Good.foldl_fst, Good.foldl_snd]

theorem State.setIssued_good (x0 x1 x2) (h0 : Good r (x0)) :
    Good r (State.setIssued x0 x1 x2) := by
  unfold State.setIssued
  grind [State.modCore_good]

theorem State.setPhase_good (x0 x1 x2 x3) (h0 : Good r (x0)) :
    Good r (State.setPhase x0 x1 x2 x3) := by
  unfold State.setPhase
  grind [State.setIssued_good]

theorem State.coreEvent_good (x0 x1 x2 x3 x4 x5) (h0 : Good r (x0)) :
    Good r (State.coreEvent x0 x1 x2 x3 x4 x5) := by
  unfold State.coreEvent
  grind [State.raise_good]

theorem State.sig_good (x0 x1 x2) (h0 : Good r (x0)) :
    Good r (State.sig x0 x1 x2) := by
  unfold State.sig
  grind [State.addCtr_good]

theorem State.complete_good (x0 x1 x2 x3) (h0 : Good r (x0)) :
    Good r (State.complete x0 x1 x2 x3) := by
  unfold State.complete
  grind [State.setIssued_good, State.modCore_good, State.sig_good, State.coreEvent_good]

theorem State.csWrite_good (x0 x1 x2 x3) (h0 : Good r (x0)) :
    Good r (State.csWrite x0 x1 x2 x3) := h0.set_mem ⟨h0.1.1.1, h0.1.1.2, h0.1.1.3, Memory.wf_putBytes _ _ h0.1.1.4, h0.1.1.5⟩

theorem State.csPoison_good (x0 x1 x2) (h0 : Good r (x0)) :
    Good r (State.csPoison x0 x1 x2) := h0.set_mem ⟨h0.1.1.1, h0.1.1.2, h0.1.1.3, Memory.wf_zeroBytes _ _ h0.1.1.4, h0.1.1.5⟩

theorem ctlSyncCtrWrite_good (x0 x1 x2 x3 x4) (h4 : Good r (x4)) :
    GoodOut r (ctlSyncCtrWrite x0 x1 x2 x3 x4) := by
  unfold ctlSyncCtrWrite
  grind [State.ctlDo_good, State.setCtr_good, GoodOut.next]

theorem State.accPut_good (x0 x1 x2 x3) (h0 : Good r (x0)) :
    Good r (State.accPut x0 x1 x2 x3) := by
  induction x3 generalizing x0 x2 with
  | nil => exact h0
  | cons v vs ih => exact ih _ _ (h0.set_mem ⟨h0.1.1.1, h0.1.1.2, h0.1.1.3, h0.1.1.4, h0.1.1.5⟩)

theorem State.countWard_good (x0 x1 x2 x3 x4) (h0 : Good r (x0)) :
    Good r (State.countWard x0 x1 x2 x3 x4) := by
  unfold State.countWard
  grind [State.bump_good]

theorem State.count_good (x0 x1 x2 x3 x4 x5) (h0 : Good r (x0)) :
    Good r (State.count x0 x1 x2 x3 x4 x5) := by
  unfold State.count
  grind [State.addF_good, State.countWard_good]

theorem State.countAll_good (x0 x1 x2 x3 x4) (h0 : Good r (x0)) :
    Good r (State.countAll x0 x1 x2 x3 x4) := by
  unfold State.countAll
  grind [State.count_good, Good.foldl, Good.foldl_fst, Good.foldl_snd]

theorem State.parityNote_good (x0 x1) (h0 : Good r (x0)) :
    Good r (State.parityNote x0 x1) := by
  unfold State.parityNote
  grind [Good.set_clk]

theorem State.csError_good (x0 x1 x2 x3) (h0 : Good r (x0)) :
    Good r (State.csError x0 x1 x2 x3) := by
  unfold State.csError
  grind [State.coreEvent_good, State.parityNote_good, State.bump_good, State.csPoison_good]

theorem State.csScan_good (x0 x1 x2 x3) (h0 : Good r (x0)) :
    Good r (State.csScan x0 x1 x2 x3) := by
  unfold State.csScan
  grind [State.csError_good, Good.foldl, Good.foldl_fst, Good.foldl_snd]

theorem State.csWriteRows_good (x0 x1 x2 x3 x4) (h0 : Good r (x0)) :
    Good r (State.csWriteRows x0 x1 x2 x3 x4) := by
  unfold State.csWriteRows
  grind [State.csWrite_good, Good.foldl, Good.foldl_fst, Good.foldl_snd]

theorem ctlFgFlush_good (x0 x1 x2) (h2 : Good r (x2)) :
    GoodOut r (ctlFgFlush x0 x1 x2) := by
  unfold ctlFgFlush
  grind [State.ctlDo_good, State.flush_good, GoodOut.next]

theorem ctlFgResume_good (x0 x1 x2) (h2 : Good r (x2)) :
    GoodOut r (ctlFgResume x0 x1 x2) := by
  unfold ctlFgResume
  grind [State.ctlDo_good, State.resume_good, GoodOut.next]

theorem ctlFillEnableWrite_good (x0 x1 x2 x3) (h3 : Good r (x3)) :
    GoodOut r (ctlFillEnableWrite x0 x1 x2 x3) := by
  unfold ctlFillEnableWrite
  grind [State.ctlDo_good, State.modCore_good, GoodOut.next]

theorem ctlFillFlush_good (x0 x1 x2) (h2 : Good r (x2)) :
    GoodOut r (ctlFillFlush x0 x1 x2) := by
  unfold ctlFillFlush
  grind [State.ctlDo_good, State.flush_good, GoodOut.next]

theorem ctlFillResume_good (x0 x1 x2) (h2 : Good r (x2)) :
    GoodOut r (ctlFillResume x0 x1 x2) := by
  unfold ctlFillResume
  grind [State.ctlDo_good, State.resume_good, GoodOut.next]

theorem State.runFront_good (x0 x1 x2 x3) (h0 : Good r (x0)) (h3 : ∀ y0, Good r (x3 y0).1) :
    Good r (State.runFront x0 x1 x2 x3) := by
  unfold State.runFront
  grind [State.setPhase_good]

theorem State.runVec_good (x0 x1 x2 x3) (h0 : Good r (x0)) (h3 : ∀ y0, Good r (x3 y0).1) :
    Good r (State.runVec x0 x1 x2 x3) := by
  unfold State.runVec
  grind [State.setPhase_good]

theorem execCommandComplete_good (x0 x1 x2) (h2 : Good r (x2)) :
    GoodOut r (execCommandComplete x0 x1 x2) := by
  unfold execCommandComplete
  grind [State.complete_good, GoodOut.next]

theorem execCommandIssue_good (x0 x1 x2) (h2 : Good r (x2)) :
    GoodOut r (execCommandIssue x0 x1 x2) := by
  unfold execCommandIssue
  grind [State.modCore_good, State.setIssued_good, GoodOut.next]

theorem execMeshPacketArrive_good (x0 x1) (h1 : Good r (x1)) :
    GoodOut r (execMeshPacketArrive x0 x1) := by
  unfold execMeshPacketArrive
  grind [State.csWrite_good, State.csPoison_good, State.addCtr_good, State.setPhase_good, Good.foldl, Good.foldl_fst, Good.foldl_snd,
    Good.set_mesh, GoodOut.next]

theorem execSignal_good (x0 x1) (h1 : Good r (x1)) :
    GoodOut r (execSignal x0 x1) := by
  unfold execSignal
  grind [State.signalTo_good, State.setPhase_good, GoodOut.next]

theorem execSync_good (x0 x1) (h1 : Good r (x1)) :
    GoodOut r (execSync x0 x1) := by
  unfold execSync
  grind [State.runFront_good, GoodOut.next]

theorem execWait_good (x0 x1) (h1 : Good r (x1)) :
    GoodOut r (execWait x0 x1) := by
  unfold execWait
  grind [State.runFront_good, GoodOut.next]

end Sys2Proof.Machine
end

