-- ==== Sys2Proof/Laws/Flags.lean ====
section
/-! SUPPORT. What each operation of Sys2Proof/Machine/Flags.lean keeps: a state that is good (Laws/Good.lean) stays good. -/

namespace Sys2Proof.Machine

open Sys2Proof Sys2Proof.Safety

variable {r s : State}

theorem State.arrayFlag_good (x0 x1 x2 x3) (h0 : Good r (x0)) :
    Good r (State.arrayFlag x0 x1 x2 x3) := by
  unfold State.arrayFlag
  grind [State.setF_good]

theorem State.passFlags_good (x0 x1 x2) (h0 : Good r (x0)) :
    Good r (State.passFlags x0 x1 x2) := by
  unfold State.passFlags
  grind [State.arrayFlag_good]

end Sys2Proof.Machine
end

