-- ==== Sys2Proof/Laws/Array.lean ====
section
/-! SUPPORT. What each operation of Sys2Proof/Machine/Array.lean keeps: a state that is good (Laws/Good.lean) stays good. -/

namespace Sys2Proof.Machine

open Sys2Proof Sys2Proof.Safety

variable {r s : State}

theorem State.accFree_good (x0 x1 x2 x3) (h0 : Good r (x0)) :
    Good r (State.accFree x0 x1 x2 x3) := by
  unfold State.accFree
  grind [State.drew_good, State.accPut_good]

theorem execConv_good (x0 x1 x2) (h2 : Good r (x2)) :
    GoodOut r (execConv x0 x1 x2) := by
  unfold execConv
  grind [State.setPhase_good, State.csScan_good, GoodOut.next]

theorem execMatmul_good (x0 x1 x2) (h2 : Good r (x2)) :
    GoodOut r (execMatmul x0 x1 x2) := by
  unfold execMatmul
  grind [State.setPhase_good, State.csScan_good, GoodOut.next]

theorem execPassDone_good (x0 x1 x2) (h2 : Good r (x2)) :
    GoodOut r (execPassDone x0 x1 x2) := by
  unfold execPassDone
  dsimp only
  refine GoodOut.next ?_
  repeat' first
    | with_reducible assumption
    | with_reducible apply State.addF_good
    | with_reducible apply State.accFree_good
    | with_reducible apply State.setPhase_good
    | with_reducible apply State.drew_good
    | with_reducible apply State.coreEvent_good
    | with_reducible apply State.parityNote_good
    | with_reducible apply State.arrayFlag_good
    | with_reducible apply State.passFlags_good
    | with_reducible apply State.accPut_good
    | with_reducible apply GoodOut.next
    | with_reducible apply State.setReg_good
    | split

theorem execPassStart_good (x0 x1 x2) (h2 : Good r (x2)) :
    GoodOut r (execPassStart x0 x1 x2) := by
  unfold execPassStart
  grind [State.modCore_good, State.coreEvent_good, State.parityNote_good, State.arrayFlag_good, State.setPhase_good, GoodOut.next]

theorem execWeightLoadDone_good (x0 x1) (h1 : Good r (x1)) :
    GoodOut r (execWeightLoadDone x0 x1) := by
  unfold execWeightLoadDone
  grind [State.setPhase_good, GoodOut.next, State.modCore_good]

end Sys2Proof.Machine
end

