-- ==== Sys2Proof/Laws/Vector.lean ====
section
/-! SUPPORT. What each operation of Sys2Proof/Machine/Vector.lean keeps: a state that is good (Laws/Good.lean) stays good. -/

namespace Sys2Proof.Machine

open Sys2Proof Sys2Proof.Safety

variable {r s : State}

theorem State.runRows_good (x0 x1 x2 x3 x4 x5 x6 x7) (h0 : Good r (x0)) (h7 : ∀ y0 y1, Good r (y0) → Good r (x7 y0 y1).1) :
    Good r (State.runRows x0 x1 x2 x3 x4 x5 x6 x7).1 := by
  unfold State.runRows
  grind [State.csWrite_good, State.drew_good, State.countAll_good, Good.foldl, Good.foldl_fst, Good.foldl_snd]

theorem State.dequant_good (x0 x1 x2 x3) (h0 : Good r (x0)) :
    Good r (State.dequant x0 x1 x2 x3).1 := by
  unfold State.dequant
  grind [State.csScan_good, State.runRows_good]

theorem State.norm_good (x0 x1 x2 x3) (h0 : Good r (x0)) :
    Good r (State.norm x0 x1 x2 x3).1 := by
  unfold State.norm
  grind [State.csScan_good, State.runRows_good, State.csWrite_good]

theorem State.quant_good (x0 x1 x2 x3) (h0 : Good r (x0)) :
    Good r (State.quant x0 x1 x2 x3).1 := by
  unfold State.quant
  grind [State.csScan_good, State.runRows_good, State.csWrite_good]

theorem State.reduce_good (x0 x1 x2 x3) (h0 : Good r (x0)) :
    Good r (State.reduce x0 x1 x2 x3).1 := by
  unfold State.reduce
  grind [State.csScan_good, State.csWrite_good, State.drew_good]

theorem State.rng_good (x0 x1 x2) (h0 : Good r (x0)) :
    Good r (State.rng x0 x1 x2).1 := by
  unfold State.rng
  grind [State.csWrite_good]

theorem State.sfn_good (x0 x1 x2 x3) (h0 : Good r (x0)) :
    Good r (State.sfn x0 x1 x2 x3).1 := by
  unfold State.sfn
  grind [State.csScan_good, State.runRows_good, State.drew_good]

theorem execDequant_good (x0 x1 x2) (h2 : Good r (x2)) :
    GoodOut r (execDequant x0 x1 x2) := by
  unfold execDequant
  grind [State.runVec_good, State.dequant_good, GoodOut.next]

theorem execNorm_good (x0 x1 x2) (h2 : Good r (x2)) :
    GoodOut r (execNorm x0 x1 x2) := by
  unfold execNorm
  grind [State.runVec_good, State.norm_good, GoodOut.next]

theorem execQuant_good (x0 x1 x2) (h2 : Good r (x2)) :
    GoodOut r (execQuant x0 x1 x2) := by
  unfold execQuant
  grind [State.runVec_good, State.quant_good, GoodOut.next]

theorem execReduce_good (x0 x1 x2) (h2 : Good r (x2)) :
    GoodOut r (execReduce x0 x1 x2) := by
  unfold execReduce
  grind [State.runVec_good, State.reduce_good, GoodOut.next]

theorem execRng_good (x0 x1) (h1 : Good r (x1)) :
    GoodOut r (execRng x0 x1) := by
  unfold execRng
  grind [State.runVec_good, State.rng_good, GoodOut.next]

theorem execSfn_good (x0 x1 x2) (h2 : Good r (x2)) :
    GoodOut r (execSfn x0 x1 x2) := by
  unfold execSfn
  grind [State.runVec_good, State.sfn_good, GoodOut.next]

end Sys2Proof.Machine
end

