-- ==== Sys2Proof/Laws/Optimiser.lean ====
section
/-! SUPPORT. What each operation of Sys2Proof/Machine/Optimiser.lean keeps: a state that is good (Laws/Good.lean) stays good. -/

namespace Sys2Proof.Machine

open Sys2Proof Sys2Proof.Safety

variable {r s : State}

theorem State.putRuns_good (x0 x1 x2 x3 x4) (h0 : Good r (x0)) :
    Good r (State.putRuns x0 x1 x2 x3 x4) := by
  unfold State.putRuns
  grind [State.csWrite_good, Good.foldl, Good.foldl_fst, Good.foldl_snd]

theorem State.optUpdate_good (x0 x1 x2 x3) (h0 : Good r (x0)) :
    Good r (State.optUpdate x0 x1 x2 x3).1 := by
  unfold State.optUpdate
  dsimp only
  have h1 := State.csScan_good x0 x1 [(x3.cmd.descOff, 64)] x2 h0
  refine Good.ite_pair h0 (Good.ite_pair h1 (Good.ite_pair h1 (State.drew_good _ _ ?_)))
  repeat' first
    | with_reducible assumption
    | with_reducible apply State.countAll_good
    | with_reducible apply State.putRuns_good
    | with_reducible apply State.csScan_good
    | with_reducible apply State.csWrite_good
    | with_reducible apply Good.ite
    | (with_reducible refine Good.foldl ?_ ?_)
    | intro _ _ _
    | split

theorem execOptUpdate_good (x0 x1 x2) (h2 : Good r (x2)) :
    GoodOut r (execOptUpdate x0 x1 x2) := by
  unfold execOptUpdate
  grind [State.runVec_good, State.optUpdate_good, GoodOut.next]

end Sys2Proof.Machine
end

