-- ==== Sys2Proof/Laws/Hbm.lean ====
section
/-! SUPPORT. What each operation of Sys2Proof/Machine/Hbm.lean keeps: a state that is good (Laws/Good.lean) stays good. -/

namespace Sys2Proof.Machine

open Sys2Proof Sys2Proof.Safety

variable {r s : State}

theorem State.setBucket_good (x0 x1 x2 x3) (h0 : Good r (x0)) :
    Good r (State.setBucket x0 x1 x2 x3) := by
  unfold State.setBucket
  grind [Good.set_mem_bucket]

theorem State.spendN_good (x0 x1 x2 x3) (h0 : Good r (x0)) :
    Good r (State.spendN x0 x1 x2 x3) := by
  unfold State.spendN
  grind [State.setBucket_good]

theorem State.charge_good (x0 x1 x2) (h0 : Good r (x0)) :
    Good r (State.charge x0 x1 x2) := by
  unfold State.charge
  grind [State.spendN_good]

theorem State.settleBuckets_good (x0 x1) (h0 : Good r (x0)) :
    Good r (State.settleBuckets x0 x1) := by
  unfold State.settleBuckets
  grind [State.setBucket_good, Good.foldl, Good.foldl_fst, Good.foldl_snd]

theorem State.setBlk_good (x0 x1 x2) (h0 : Good r (x0)) :
    Good r (State.setBlk x0 x1 x2) := by
  unfold State.setBlk
  grind [Good.set_mem_blocks]

theorem State.enterClearing_good (x0 x1 x2 x3) (h0 : Good r (x0)) :
    Good r (State.enterClearing x0 x1 x2 x3) := by
  unfold State.enterClearing
  grind [State.setRegion_good, Good.set_mem_fmarks]

theorem State.finishClearing_good (x0 x1) (h0 : Good r (x0)) :
    Good r (State.finishClearing x0 x1) := by
  unfold State.finishClearing
  grind [State.setRegion_good]

theorem State.ensureSet_good (x0 x1) (h0 : Good r (x0)) :
    Good r (State.ensureSet x0 x1) := by
  unfold State.ensureSet
  grind [State.finishClearing_good, State.enterClearing_good]

theorem State.noDue_good (x0 x1) (h0 : Good r (x0)) :
    Good r (State.noDue x0 x1) := by
  unfold State.noDue
  grind [Good.set_mem_due]

theorem State.startFill_good (x0 x1 x2 x3 x4 x5 x6) (h0 : Good r (x0)) :
    Good r (State.startFill x0 x1 x2 x3 x4 x5 x6) := by
  unfold State.startFill
  grind [State.setBlk_good, Good.set_mem_wayPtr]

theorem State.startDue_good (x0 x1) (h0 : Good r (x0)) :
    Good r (State.startDue x0 x1) := by
  unfold State.startDue
  grind [State.noDue_good, State.startFill_good]

theorem State.dropDue_good (x0 x1) (h0 : Good r (x0)) :
    Good r (State.dropDue x0 x1) := by
  unfold State.dropDue
  grind [Good.set_mem_due]

theorem State.dropBlock_good (x0 x1) (h0 : Good r (x0)) :
    Good r (State.dropBlock x0 x1) := by
  unfold State.dropBlock
  exact h0.set_mem ⟨Memory.wf_zeroBytes _ _ h0.1.1.1, Memory.wf_zeroBytes _ _ h0.1.1.2, h0.1.1.3, h0.1.1.4, h0.1.1.5⟩

theorem State.cput_good (x0 x1 x2) (h0 : Good r (x0)) :
    Good r (State.cput x0 x1 x2) := h0.set_mem ⟨h0.1.1.1, h0.1.1.2, h0.1.1.3, h0.1.1.4, h0.1.1.5⟩

theorem State.setMark_good (x0 x1 x2) (h0 : Good r (x0)) :
    Good r (State.setMark x0 x1 x2) := by
  unfold State.setMark
  grind [Good.set_mem_marks]

theorem State.dramPoison_good (x0 x1) (h0 : Good r (x0)) :
    Good r (State.dramPoison x0 x1) := by
  unfold State.dramPoison
  grind [State.setMark_good, Good.set_mem_hbm, Memory.wf_zeroBytes, Good.memory, MemCanonical.hbm, MemCanonical.frame, MemCanonical.host,
    MemCanonical.cstore, MemCanonical.imem]

theorem State.memEvent_good (x0 x1 x2 x3 x4 x5) (h0 : Good r (x0)) :
    Good r (State.memEvent x0 x1 x2 x3 x4 x5) := by
  unfold State.memEvent
  grind [State.raise_good]

theorem State.memErr_good (x0 x1 x2 x3) (h0 : Good r (x0)) :
    Good r (State.memErr x0 x1 x2 x3) := by
  unfold State.memErr
  grind [State.setF_good]

theorem State.dramRead_good (x0 x1 x2) (h0 : Good r (x0)) :
    Good r (State.dramRead x0 x1 x2).1 := by
  unfold State.dramRead
  dsimp only
  split
  · exact h0
  · split
    · exact State.memEvent_good _ _ _ _ _ _ (State.memErr_good _ _ _ _ (State.bump_good _ _ _ _ (State.dramPoison_good _ _ h0)))
    · have h : Good r (if x2 = .corrected then (x0.bump (R.MEM_ECC_COUNT (homeStack (x1 * 64))) F.MEM_ECC_COUNT_CORRECTED 1).memEvent
          (homeStack (x1 * 64)) 0x01 1 (stackOff (x1 * 64)) 0 else x0) := by
        split
        · exact State.memEvent_good _ _ _ _ _ _ (State.bump_good _ _ _ _ h0)
        · exact h0
      generalize (if x2 = .corrected then (x0.bump (R.MEM_ECC_COUNT (homeStack (x1 * 64))) F.MEM_ECC_COUNT_CORRECTED 1).memEvent
          (homeStack (x1 * 64)) 0x01 1 (stackOff (x1 * 64)) 0 else x0) = u at h ⊢
      split
      · exact State.memEvent_good _ _ _ _ _ _ (State.memErr_good _ _ _ _ (State.bump_good _ _ _ _ (State.setMark_good _ _ _ h)))
      · exact h

theorem State.homeView_good (x0 x1 x2) (h0 : Good r (x0)) :
    Good r (State.homeView x0 x1 x2).1 := by
  unfold State.homeView
  grind [State.dramRead_good]

theorem State.tookFinds_good (x0 x1) (h0 : Good r (x0)) :
    Good r (State.tookFinds x0 x1) := by
  unfold State.tookFinds
  grind [Good.set_mem_finds]

theorem State.tookEcc_good (x0) (h0 : Good r (x0)) :
    Good r (State.tookEcc x0) := by
  unfold State.tookEcc
  grind [Good.set_mem_eccs]

theorem State.homePoison_good (x0 x1) (h0 : Good r (x0)) :
    Good r (State.homePoison x0 x1) := by
  unfold State.homePoison
  grind [State.cput_good, State.dramPoison_good]

theorem State.cdrop_good (x0 x1) (h0 : Good r (x0)) :
    Good r (State.cdrop x0 x1) := by
  unfold State.cdrop
  grind [Good.set_mem_cache]

theorem State.dramPut_good (x0 x1 x2) (h0 : Good r (x0)) :
    Good r (State.dramPut x0 x1 x2) := by
  unfold State.dramPut
  grind [State.setMark_good, Good.set_mem_hbm, Memory.wf_putBytes, Good.memory, MemCanonical.hbm, MemCanonical.frame, MemCanonical.host,
    MemCanonical.cstore, MemCanonical.imem]

theorem State.cwriteHome_good (x0 x1 x2) (h0 : Good r (x0)) :
    Good r (State.cwriteHome x0 x1 x2) := by
  unfold State.cwriteHome
  grind [State.dramPoison_good, State.dramPut_good]

theorem State.croom_good (x0 x1) (h0 : Good r (x0)) :
    Good r (State.croom x0 x1) := by
  unfold State.croom
  grind [State.cdrop_good, State.cwriteHome_good]

theorem State.homePut_good (x0 x1 x2 x3) (h0 : Good r (x0)) :
    Good r (State.homePut x0 x1 x2 x3) := by
  unfold State.homePut
  grind [State.cput_good, State.croom_good, State.dramPut_good]

theorem State.homeRead_good (x0 x1 x2 x3 x4) (h0 : Good r (x0)) :
    Good r (State.homeRead x0 x1 x2 x3 x4).1 := by
  unfold State.homeRead
  grind [State.cdrop_good, State.cput_good, State.dramRead_good, State.croom_good]

theorem State.homeMerge_good (x0 x1 x2) (h0 : Good r (x0)) :
    Good r (State.homeMerge x0 x1 x2).1 := by
  unfold State.homeMerge
  grind [State.dramRead_good, State.homePoison_good]

theorem State.homeMso_good (x0 x1 x2 x3 x4 x5) (h0 : Good r (x0)) :
    Good r (State.homeMso x0 x1 x2 x3 x4 x5).1 := by
  unfold State.homeMso
  grind [State.homeMerge_good, State.homePut_good]

theorem State.homeWrite_good (x0 x1 x2 x3 x4 x5) (h0 : Good r (x0)) :
    Good r (State.homeWrite x0 x1 x2 x3 x4 x5).1 := by
  unfold State.homeWrite
  grind [State.homePut_good, State.homeMerge_good]

theorem State.startUrgent_good (x0 x1) (h0 : Good r (x0)) :
    Good r (State.startUrgent x0 x1) := by
  unfold State.startUrgent
  grind [State.setStack_good, State.enterClearing_good]

theorem State.dropRegion_good (x0 x1) (h0 : Good r (x0)) :
    Good r (State.dropRegion x0 x1) := by
  exact Good.foldl (Good.foldl h0 fun s b h => State.dropBlock_good _ _ (State.dropDue_good _ _ h)) fun s b h => State.startDue_good _ _ h

theorem State.unqueue_good (x0 x1) (h0 : Good r (x0)) :
    Good r (State.unqueue x0 x1) := by
  unfold State.unqueue
  grind [State.setStack_good]

theorem State.resetRegion_good (x0 x1) (h0 : Good r (x0)) :
    Good r (State.resetRegion x0 x1) := by
  unfold State.resetRegion
  grind [State.setRegion_good, State.dropRegion_good, State.unqueue_good]

theorem State.wait_good (x0 x1) (h0 : Good r (x0)) :
    Good r (State.wait x0 x1) := by
  unfold State.wait
  grind [Good.set_mem_waiting]

theorem State.setOwner_good (x0 x1 x2) (h0 : Good r (x0)) :
    Good r (State.setOwner x0 x1 x2) := by
  unfold State.setOwner
  grind [State.setRegion_good, State.dropRegion_good, State.unqueue_good]

theorem State.setSliceOwner_good (x0 x1 x2) (h0 : Good r (x0)) :
    Good r (State.setSliceOwner x0 x1 x2) := by
  unfold State.setSliceOwner
  grind [State.setOwner_good, Good.foldl, Good.foldl_fst, Good.foldl_snd]

end Sys2Proof.Machine
end

