-- ==== Sys2Proof/Laws/Tier.lean ====
section
/-! SUPPORT. What each operation of Sys2Proof/Machine/Tier.lean keeps: a state that is good (Laws/Good.lean) stays good. -/

namespace Sys2Proof.Machine

open Sys2Proof Sys2Proof.Safety

variable {r s : State}

theorem LineRes.s_good (x0) (h0 : Good r (x0).s) :
    Good r (LineRes.s x0) := by
  unfold LineRes.s
  grind []

theorem State.setDue_good (x0 x1 x2) (h0 : Good r (x0)) :
    Good r (State.setDue x0 x1 x2) := by
  unfold State.setDue
  grind [Good.set_mem_due]

theorem State.frameUnset_good (x0 x1 x2) (h0 : Good r (x0)) :
    Good r (State.frameUnset x0 x1 x2).1 := by
  unfold State.frameUnset
  grind [State.ensureSet_good, State.startUrgent_good]

theorem State.moverCycles_good (x0 x1 x2) (h0 : Good r (x0)) :
    Good r (State.moverCycles x0 x1 x2) := by
  unfold State.moverCycles
  grind [Good.set_mem_moverBusy]

theorem State.backInvalidate_good (x0 x1) (h0 : Good r (x0)) :
    Good r (State.backInvalidate x0 x1) := by
  unfold State.backInvalidate
  grind [Good.set_mem_snoop]

theorem State.releaseBlk_good (x0 x1) (h0 : Good r (x0)) :
    Good r (State.releaseBlk x0 x1) := by
  have h := State.setBlk_good x0 x1 none h0
  exact h.set_mem ⟨h.1.1.1, Memory.wf_zeroBytes _ _ h0.1.1.2, h.1.1.3, h.1.1.4, h.1.1.5⟩

theorem State.evict_good (x0 x1) (h0 : Good r (x0)) :
    Good r (State.evict x0 x1) := by
  unfold State.evict
  grind [State.releaseBlk_good, State.setBlk_good]

theorem State.fencedRes_good (x0 x1) (h0 : Good r (x0)) :
    Good r (State.fencedRes x0 x1).s := by
  unfold State.fencedRes
  grind [State.drew_good]

theorem State.writeBack_good (x0 x1 x2) (h0 : Good r (x0)) :
    Good r (State.writeBack x0 x1 x2) := by
  unfold State.writeBack
  grind [State.ensureSet_good, State.homePoison_good, State.homePut_good, Good.foldl, Good.foldl_fst, Good.foldl_snd, State.charge_good,
    State.moverCycles_good]

theorem State.finishDrain_good (x0 x1) (h0 : Good r (x0)) :
    Good r (State.finishDrain x0 x1) := by
  unfold State.finishDrain
  grind [State.releaseBlk_good, State.writeBack_good, State.setBlk_good, State.startDue_good]

theorem State.framePut_good (x0 x1 x2) (h0 : Good r (x0)) :
    Good r (State.framePut x0 x1 x2) := by
  unfold State.framePut
  grind [Good.set_mem_frame, Memory.wf_putBytes, Good.memory, MemCanonical.hbm, MemCanonical.frame, MemCanonical.host,
    MemCanonical.cstore, MemCanonical.imem]

theorem State.setFmark_good (x0 x1 x2) (h0 : Good r (x0)) :
    Good r (State.setFmark x0 x1 x2) := by
  unfold State.setFmark
  grind [Good.set_mem_fmarks]

theorem State.frameRead_good (x0 x1 x2 x3 x4) (h0 : Good r (x0)) :
    Good r (State.frameRead x0 x1 x2 x3 x4).1 := by
  unfold State.frameRead
  grind [State.raise_good, State.setFmark_good, State.framePut_good, State.dramRead_good, State.charge_good, State.tookFinds_good,
    State.homeView_good]

theorem State.markDirty_good (x0 x1 x2 x3) (h0 : Good r (x0)) :
    Good r (State.markDirty x0 x1 x2 x3) := by
  unfold State.markDirty
  grind [State.setBlk_good]

theorem State.frameWrite_good (x0 x1 x2 x3 x4 x5 x6) (h0 : Good r (x0)) :
    Good r (State.frameWrite x0 x1 x2 x3 x4 x5 x6).1 := by
  unfold State.frameWrite
  grind [State.markDirty_good, State.setFmark_good, State.framePut_good, State.frameRead_good]

theorem State.serveHome_good (x0 x1 x2 x3 x4) (h0 : Good r (x0)) :
    Good r (State.serveHome x0 x1 x2 x3 x4).s := by
  unfold State.serveHome
  grind [State.homeRead_good, State.startUrgent_good, State.homeWrite_good, State.ensureSet_good, State.homeMso_good, State.charge_good]

theorem State.copyFrame_good (x0 x1) (h0 : Good r (x0)) :
    Good r (State.copyFrame x0 x1) := by
  have h := State.tookFinds_good _ 1024 (Good.foldl (l := x0.fillReads x1) h0 (fun s e hs => State.dramRead_good s e.1 e.2 hs))
  exact h.set_mem ⟨h.1.1.1, Memory.wf_mcopyRange _ _ h.1.1.1 h.1.1.2, h.1.1.3, h.1.1.4, h.1.1.5⟩

theorem State.takeDirty_good (x0 x1 x2 x3) (h0 : Good r (x0)) :
    Good r (State.takeDirty x0 x1 x2 x3) := by
  unfold State.takeDirty
  dsimp only
  repeat' first
    | with_reducible assumption
    | with_reducible apply State.setFmark_good
    | with_reducible apply State.framePut_good
    | with_reducible apply State.setBlk_good
    | with_reducible apply State.cdrop_good
    | with_reducible apply State.cput_good
    | split

theorem State.fillCopy_good (x0 x1 x2) (h0 : Good r (x0)) :
    Good r (State.fillCopy x0 x1 x2) := by
  unfold State.fillCopy
  split
  · exact h0.set_mem ⟨h0.1.1.1, Memory.wf_zeroBytes _ _ h0.1.1.2, h0.1.1.3, h0.1.1.4, h0.1.1.5⟩
  · exact h0.set_mem ⟨h0.1.1.1, Memory.wf_zeroBytes _ _ h0.1.1.2, h0.1.1.3, h0.1.1.4, h0.1.1.5⟩
  · exact Good.foldl (State.copyFrame_good _ _ h0) fun s e h => State.takeDirty_good _ _ _ _ h

theorem State.finishFill_good (x0 x1) (h0 : Good r (x0)) :
    Good r (State.finishFill x0 x1) := by
  unfold State.finishFill
  grind [State.fillCopy_good, State.setBlk_good, State.charge_good, State.moverCycles_good]

theorem State.settle_good (x0 x1) (h0 : Good r (x0)) :
    Good r (State.settle x0 x1) := by
  unfold State.settle
  grind [State.finishFill_good, State.finishDrain_good]

theorem State.serveFrame_good (x0 x1 x2 x3 x4 x5 x6 x7) (h0 : Good r (x0)) :
    Good r (State.serveFrame x0 x1 x2 x3 x4 x5 x6 x7).s := by
  unfold State.serveFrame
  grind [State.frameUnset_good, State.frameWrite_good]

theorem State.serve_good (x0 x1 x2 x3 x4 x5) (h0 : Good r (x0)) :
    Good r (State.serve x0 x1 x2 x3 x4 x5).s := by
  unfold State.serve
  grind [State.fencedRes_good, State.serveHome_good, State.backInvalidate_good, State.homeRead_good, State.frameRead_good,
    State.frameWrite_good, State.settle_good, State.finishDrain_good, State.evict_good, State.releaseBlk_good, State.charge_good,
    State.homeView_good, State.serveFrame_good]

theorem State.serveAs_good (x0 x1 x2) (h0 : Good r (x0)) :
    Good r (State.serveAs x0 x1 x2).s := by
  unfold State.serveAs
  grind [State.fencedRes_good, State.serveHome_good, State.serve_good]

theorem State.passWaiting_good (x0 x1) (h0 : Good r (x0)) :
    Good r (State.passWaiting x0 x1) := by
  unfold State.passWaiting
  grind [State.serveAs_good, State.answer_good, Good.set_mem_waiting, Good.foldl, Good.foldl_fst, Good.foldl_snd]

theorem State.serveNext_good (x0 x1 x2) (h0 : Good r (x0)) :
    Good r (State.serveNext x0 x1 x2).s := by
  unfold State.serveNext
  grind [State.passWaiting_good, State.serve_good, State.tookEcc_good, State.tookFinds_good]

theorem State.uRead_good (x0 x1 x2 x3 x4) (h0 : Good r (x0)) :
    Good r (State.uRead x0 x1 x2 x3 x4).1 := by
  unfold State.uRead
  grind [State.serve_good, LineRes.s_good, Good.foldl, Good.foldl_fst, Good.foldl_snd, State.serveNext_good]

theorem State.uWrite_good (x0 x1 x2 x3) (h0 : Good r (x0)) :
    Good r (State.uWrite x0 x1 x2 x3).1 := by
  unfold State.uWrite
  grind [State.serve_good, LineRes.s_good, Good.foldl, Good.foldl_fst, Good.foldl_snd, State.serveNext_good]

theorem State.cleanBlk_good (x0 x1) (h0 : Good r (x0)) :
    Good r (State.cleanBlk x0 x1) := by
  unfold State.cleanBlk
  grind [State.setBlk_good]

theorem State.migrate_good (x0 x1 x2 x3 x4 x5) (h0 : Good r (x0)) :
    Good r (State.migrate x0 x1 x2 x3 x4 x5).1 := by
  unfold State.migrate
  grind [State.settle_good, State.setBlk_good, State.startFill_good, State.releaseBlk_good, State.evict_good, State.setDue_good]

theorem State.dput_good (x0 x1 x2) (h0 : Good r (x0)) :
    Good r (State.dput x0 x1 x2) := by
  have key : ∀ t : State, Good r t → ∀ d n, Good r { t with mem := { t.mem with dcache := d, stamp := n } } := fun t h d n =>
    h.set_mem ⟨h.1.1.1, h.1.1.2, h.1.1.3, h.1.1.4, h.1.1.5⟩
  have kill : ∀ t : State, Good r t → ∀ d, Good r { t with mem := { t.mem with dcache := d } } := fun t h d =>
    h.set_mem ⟨h.1.1.1, h.1.1.2, h.1.1.3, h.1.1.4, h.1.1.5⟩
  unfold State.dput
  refine key _ ?_ _ _
  dsimp only
  split
  · exact h0
  · split
    · refine kill _ ?_ _
      split
      · exact h0.set_mem ⟨h0.1.1.1, h0.1.1.2, Memory.wf_putBytes _ _ h0.1.1.3, h0.1.1.4, h0.1.1.5⟩
      · exact h0
    · exact h0

theorem State.hWrite_good (x0 x1 x2) (h0 : Good r (x0)) :
    Good r (State.hWrite x0 x1 x2).1 := by
  unfold State.hWrite
  grind [State.dput_good, Good.foldl, Good.foldl_fst, Good.foldl_snd]

theorem State.devWrite_good (x0 x1 x2 x3) (h0 : Good r (x0)) :
    Good r (State.devWrite x0 x1 x2 x3).1 := by
  unfold State.devWrite
  grind [State.uWrite_good, State.hWrite_good]

theorem State.hRead_good (x0 x1 x2) (h0 : Good r (x0)) :
    Good r (State.hRead x0 x1 x2).1 := by
  unfold State.hRead
  grind [State.dput_good, Good.foldl, Good.foldl_fst, Good.foldl_snd]

theorem State.devRead_good (x0 x1 x2 x3 x4) (h0 : Good r (x0)) :
    Good r (State.devRead x0 x1 x2 x3 x4).1 := by
  unfold State.devRead
  grind [State.uRead_good, State.hRead_good]

theorem State.uAtomic_good (x0 x1 x2 x3) (h0 : Good r (x0)) :
    Good r (State.uAtomic x0 x1 x2 x3).1 := by
  unfold State.uAtomic
  grind [State.serve_good, LineRes.s_good, State.serveNext_good]

theorem State.uPoison_good (x0 x1) (h0 : Good r (x0)) :
    Good r (State.uPoison x0 x1) := by
  unfold State.uPoison
  have h := State.settle_good _ (x1 / 1024) (State.passWaiting_good _ x1 h0)
  generalize (x0.passWaiting x1).settle (x1 / 1024) = u at h ⊢
  grind [State.markDirty_good, State.setFmark_good, State.framePut_good, State.homePoison_good, State.ensureSet_good]

end Sys2Proof.Machine
end

