-- ==== Sys2Proof/Laws/Move.lean ====
section
/-! SUPPORT. What each operation of Sys2Proof/Machine/Move.lean keeps: a state that is good (Laws/Good.lean) stays good. -/

namespace Sys2Proof.Machine

open Sys2Proof Sys2Proof.Safety

variable {r s : State}

theorem ReadRes.s_good (x0) (h0 : Good r (x0).s) :
    Good r (ReadRes.s x0) := by
  unfold ReadRes.s
  grind []

theorem State.readSide_good (x0 x1 x2 x3 x4) (h0 : Good r (x0)) :
    Good r (State.readSide x0 x1 x2 x3 x4).s := by
  unfold State.readSide
  grind [State.devRead_good]

theorem State.devPut_good (x0 x1 x2 x3 x4) (h0 : Good r (x0)) :
    Good r (State.devPut x0 x1 x2 x3 x4).1 := by
  unfold State.devPut
  grind [State.devWrite_good, State.hWrite_good, State.uPoison_good, Good.foldl, Good.foldl_fst, Good.foldl_snd]

theorem State.writeSide_good (x0 x1 x2 x3 x4 x5) (h0 : Good r (x0)) :
    Good r (State.writeSide x0 x1 x2 x3 x4 x5).1 := by
  unfold State.writeSide
  grind [State.devPut_good, State.csWrite_good]

theorem State.poisonSide_good (x0 x1 x2 x3) (h0 : Good r (x0)) :
    Good r (State.poisonSide x0 x1 x2 x3) := by
  unfold State.poisonSide
  grind [State.uPoison_good, State.csPoison_good, Good.foldl, Good.foldl_fst, Good.foldl_snd]

theorem State.copyRows_good (x0 x1 x2 x3 x4 x5 x6 x7) (h0 : Good r (x0)) :
    Good r (State.copyRows x0 x1 x2 x3 x4 x5 x6 x7).1 := by
  have h : Good r ((spansOf x4 x5 x7).foldl (fun (acc : ReadRes) sp =>
      let x := acc.s.readSide x1 x2 sp.1 sp.2
      { s := x.s, data := acc.data ++ x.data, bad := acc.bad ++ x.bad.map (fun p => (p.1 + acc.data.length, p.2)),
        status := worst acc.status x.status }) { s := x0, data := [], bad := [], status := St.ok }).s := by
    refine Good.foldl_read h0 fun a x ha => ?_
    exact State.readSide_good _ _ _ _ _ ha
  refine State.poisonSide_good _ _ _ _ ?_
  exact Good.foldl_fst_fst (f := fun (acc : (State × Nat) × Nat) sp => _) h fun a x ha => State.writeSide_good _ _ _ _ _ _ ha

theorem State.gather_good (x0 x1 x2) (h0 : Good r (x0)) :
    Good r (State.gather x0 x1 x2).1 := by
  unfold State.gather
  grind [State.devRead_good, State.writeSide_good, Good.foldl, Good.foldl_fst, Good.foldl_snd]

theorem State.loadStore_good (x0 x1 x2 x3 x4 x5) (h0 : Good r (x0)) :
    Good r (State.loadStore x0 x1 x2 x3 x4 x5).1 := by
  unfold State.loadStore
  grind [State.csScan_good, State.copyRows_good]

theorem execGather_good (x0 x1) (h1 : Good r (x1)) :
    GoodOut r (execGather x0 x1) := by
  unfold execGather
  grind [State.runFront_good, State.gather_good, GoodOut.next]

theorem execLoad_good (x0 x1 x2) (h2 : Good r (x2)) :
    GoodOut r (execLoad x0 x1 x2) := by
  unfold execLoad
  grind [State.runFront_good, State.loadStore_good, GoodOut.next]

theorem execSend_good (x0 x1 x2) (h2 : Good r (x2)) :
    GoodOut r (execSend x0 x1 x2) := by
  unfold execSend
  grind [State.setPhase_good, State.csScan_good, State.readSide_good, ReadRes.s_good, Good.set_mesh, GoodOut.next]

theorem execStore_good (x0 x1 x2) (h2 : Good r (x2)) :
    GoodOut r (execStore x0 x1 x2) := by
  unfold execStore
  grind [State.runFront_good, State.loadStore_good, GoodOut.next]

end Sys2Proof.Machine
end

