-- ==== Sys2Proof/Laws/Lines.lean ====
section
/-! SUPPORT. What each operation of Sys2Proof/Machine/Lines.lean keeps: a state that is good (Laws/Good.lean) stays good. -/

namespace Sys2Proof.Machine

open Sys2Proof Sys2Proof.Safety

variable {r s : State}

theorem State.tryLine_good (x0 x1) (h0 : Good r (x0)) :
    Good r (State.tryLine x0 x1).s := by
  unfold State.tryLine
  grind [LineRes.s_good, State.serveAs_good]

theorem State.lineAccess_good (x0 x1) (h0 : Good r (x0)) :
    Good r (State.lineAccess x0 x1) := by
  unfold State.lineAccess
  grind [State.wait_good, State.tryLine_good, LineRes.s_good, State.answer_good]

theorem State.setBankLast_good (x0 x1 x2 x3) (h0 : Good r (x0)) :
    Good r (State.setBankLast x0 x1 x2 x3) := by
  unfold State.setBankLast
  grind [Good.set_mem_bankLast]

theorem State.unwait_good (x0 x1) (h0 : Good r (x0)) :
    Good r (State.unwait x0 x1) := by
  unfold State.unwait
  grind [Good.set_mem_waiting]

theorem State.retry_good (x0 x1) (h0 : Good r (x0)) :
    Good r (State.retry x0 x1) := by
  unfold State.retry
  grind [State.lineAccess_good, State.wait_good, Good.foldl, Good.foldl_fst, Good.foldl_snd, Good.set_mem_waiting]

theorem State.grant_good (x0 x1 x2 x3) (h0 : Good r (x0)) :
    Good r (State.grant x0 x1 x2 x3) := by
  unfold State.grant
  grind [State.unwait_good, State.tryLine_good, State.retry_good, State.answer_good, State.setBankLast_good]

theorem State.ctrlAccess_good (x0 x1) (h0 : Good r (x0)) :
    Good r (State.ctrlAccess x0 x1) := by
  unfold State.ctrlAccess
  grind [State.answer_good, State.lineAccess_good]

theorem State.regionStatus_good (x0 x1 x2 x3 x4) (h0 : Good r (x0)) :
    Good r (State.regionStatus x0 x1 x2 x3 x4) := by
  unfold State.regionStatus
  grind [State.setF_good]

theorem State.nextUrgent_good (x0 x1) (h0 : Good r (x0)) :
    Good r (State.nextUrgent x0 x1) := by
  unfold State.nextUrgent
  grind [State.setStack_good, State.enterClearing_good]

theorem State.pumpUrgent_good (x0 x1) (h0 : Good r (x0)) :
    Good r (State.pumpUrgent x0 x1) := by
  unfold State.pumpUrgent
  grind [State.nextUrgent_good]

theorem State.readmit_good (x0 x1) (h0 : Good r (x0)) :
    Good r (State.readmit x0 x1) := by
  unfold State.readmit
  grind [State.lineAccess_good, State.wait_good, State.answer_good, State.pumpUrgent_good, Good.foldl, Good.foldl_fst, Good.foldl_snd,
    Good.set_mem_waiting]

theorem State.endClearings_good (x0 x1) (h0 : Good r (x0)) :
    Good r (State.endClearings x0 x1) := by
  unfold State.endClearings
  grind [State.retry_good, State.finishClearing_good, Good.foldl, Good.foldl_fst, Good.foldl_snd]

theorem State.resetRange_good (x0 x1 x2 x3) (h0 : Good r (x0)) :
    Good r (State.resetRange x0 x1 x2 x3) := by
  unfold State.resetRange
  grind [State.resetRegion_good, State.endClearings_good, State.pumpUrgent_good, State.retry_good, Good.foldl, Good.foldl_fst,
    Good.foldl_snd]

theorem State.regionCmd_good (x0 x1 x2 x3 x4 x5) (h0 : Good r (x0)) :
    Good r (State.regionCmd x0 x1 x2 x3 x4 x5).1 := by
  unfold State.regionCmd
  grind [State.regionStatus_good, State.lockedRefused_good, State.setStack_good, State.resetRange_good, State.startUrgent_good,
    Good.foldl, Good.foldl_fst, Good.foldl_snd]

theorem State.regionWrite_good (x0 x1 x2 x3 x4 x5) (h0 : Good r (x0)) :
    Good r (State.regionWrite x0 x1 x2 x3 x4 x5) := by
  unfold State.regionWrite
  dsimp only
  split
  · exact State.ctlEnd_good _ _ _ _ _ (State.regionCmd_good _ _ _ _ _ _ h0)
  · exact State.ctlEnd_good _ _ _ _ _ h0

theorem State.startRetrain_good (x0 x1 x2) (h0 : Good r (x0)) :
    Good r (State.startRetrain x0 x1 x2) := by
  unfold State.startRetrain
  grind [State.setStack_good, State.setF_good]

theorem State.manualRetrain_good (x0 x1 x2) (h0 : Good r (x0)) :
    Good r (State.manualRetrain x0 x1 x2) := by
  unfold State.manualRetrain
  grind [State.startRetrain_good, Good.set_mem_retrainQ]

theorem ctlPcRetrainStart_good (x0 x1 x2 x3) (h3 : Good r (x3)) :
    GoodOut r (ctlPcRetrainStart x0 x1 x2 x3) := by
  unfold ctlPcRetrainStart
  grind [State.ctlDo_good, State.manualRetrain_good, GoodOut.next]

theorem State.drainRetrainQ_good (x0) (h0 : Good r (x0)) :
    Good r (State.drainRetrainQ x0) := by
  exact Good.foldl (h0.set_mem (m := { x0.mem with retrainQ := [], schedOn := false, schedAt := x0.now }) ⟨h0.1.1.1, h0.1.1.2, h0.1.1.3, h0.1.1.4, h0.1.1.5⟩)
    fun s e h => State.manualRetrain_good _ _ _ h

theorem State.readOdecc_good (x0 x1) (h0 : Good r (x0)) :
    Good r (State.readOdecc x0 x1) := by
  unfold State.readOdecc
  grind [State.drew_good, State.memEvent_good, State.bump_good]

theorem ctlRegionClearNow_good (x0 x1 x2 x3 x4) (h4 : Good r (x4)) :
    GoodOut r (ctlRegionClearNow x0 x1 x2 x3 x4) := by
  unfold ctlRegionClearNow
  grind [State.regionWrite_good, GoodOut.next]

theorem ctlRegionReset_good (x0 x1 x2 x3 x4) (h4 : Good r (x4)) :
    GoodOut r (ctlRegionReset x0 x1 x2 x3 x4) := by
  unfold ctlRegionReset
  grind [State.regionWrite_good, GoodOut.next]

theorem State.retrainResult_good (x0 x1 x2 x3) (h0 : Good r (x0)) :
    Good r (State.retrainResult x0 x1 x2 x3) := by
  unfold State.retrainResult
  grind [State.setStack_good, State.raise_good]

theorem execBankSlotGrant_good (x0 x1 x2) (h2 : Good r (x2)) :
    GoodOut r (execBankSlotGrant x0 x1 x2) := by
  unfold execBankSlotGrant
  grind [State.unwait_good, State.tryLine_good, State.answer_good, LineRes.s_good, Good.set_mem_bankLast, GoodOut.next, State.retry_good,
    State.grant_good]

theorem execBgClearStart_good (x0 x1) (h1 : Good r (x1)) :
    GoodOut r (execBgClearStart x0 x1) := by
  unfold execBgClearStart
  grind [State.setStack_good, State.enterClearing_good, GoodOut.next]

theorem execBlockAccess_good (x0 x1 x2 x3 x4) (h4 : Good r (x4)) :
    GoodOut r (execBlockAccess x0 x1 x2 x3 x4) := by
  unfold execBlockAccess
  grind [State.lineAccess_good, State.answer_good, State.lockedRefused_good, GoodOut.next, State.tookFinds_good]

theorem execClearingDone_good (x0 x1 x2) (h2 : Good r (x2)) :
    GoodOut r (execClearingDone x0 x1 x2) := by
  unfold execClearingDone
  grind [State.retry_good, State.finishClearing_good, State.nextUrgent_good, State.pumpUrgent_good, GoodOut.next]

theorem execHbmLineRead_good (x0 x1 x2) (h2 : Good r (x2)) :
    GoodOut r (execHbmLineRead x0 x1 x2) := by
  unfold execHbmLineRead
  grind [State.lineAccess_good, GoodOut.next, State.ctrlAccess_good]

theorem execHbmLineWrite_good (x0 x1 x2 x3 x4) (h4 : Good r (x4)) :
    GoodOut r (execHbmLineWrite x0 x1 x2 x3 x4) := by
  unfold execHbmLineWrite
  grind [State.lineAccess_good, GoodOut.next, State.ctrlAccess_good]

theorem execMsoOperation_good (x0 x1 x2 x3 x4 x5) (h5 : Good r (x5)) :
    GoodOut r (execMsoOperation x0 x1 x2 x3 x4 x5) := by
  unfold execMsoOperation
  grind [State.lineAccess_good, GoodOut.next, State.ctrlAccess_good]

theorem execPatrolRead_good (x0 x1 x2) (h2 : Good r (x2)) :
    GoodOut r (execPatrolRead x0 x1 x2) := by
  unfold execPatrolRead
  grind [State.dramRead_good, State.setF_good, State.readOdecc_good, GoodOut.next]

theorem execPcRetrainDone_good (x0 x1 x2) (h2 : Good r (x2)) :
    GoodOut r (execPcRetrainDone x0 x1 x2) := by
  unfold execPcRetrainDone
  grind [State.setF_good, State.raise_good, State.retrainResult_good, State.drainRetrainQ_good, GoodOut.next]

theorem execPcRetrainSchedule_good (x0) (h0 : Good r (x0)) :
    GoodOut r (execPcRetrainSchedule x0) := by
  unfold execPcRetrainSchedule
  refine GoodOut.next (Good.ite h0 (Good.ite ?_ h0))
  split
  · exact h0
  · next p _ =>
    have h := State.startRetrain_good x0 (p / 64) (p % 64) h0
    exact h.set_mem ⟨h.1.1.1, h.1.1.2, h.1.1.3, h.1.1.4, h.1.1.5⟩

theorem execRefresh_good (x0 x1 x2 x3) (h3 : Good r (x3)) :
    GoodOut r (execRefresh x0 x1 x2 x3) := by
  unfold execRefresh
  grind [State.setStack_good, GoodOut.next]

theorem execRefreshManagementRequest_good (x0 x1) (h1 : Good r (x1)) :
    GoodOut r (execRefreshManagementRequest x0 x1) := by
  unfold execRefreshManagementRequest
  grind [State.setStack_good, GoodOut.next]

theorem execRegionCmdDone_good (x0 x1) (h1 : Good r (x1)) :
    GoodOut r (execRegionCmdDone x0 x1) := by
  unfold execRegionCmdDone
  grind [State.setStack_good, State.regionStatus_good, GoodOut.next]

end Sys2Proof.Machine
end

