-- ==== Sys2Proof/Laws/RegFile.lean ====
section
/-! SUPPORT. What each operation of Sys2Proof/Machine/RegFile.lean keeps: a state that is good (Laws/Good.lean) stays good. -/

namespace Sys2Proof.Machine

open Sys2Proof Sys2Proof.Safety

variable {r s : State}

theorem State.plainWrite_good (x0 x1 x2 x3 x4) (h0 : Good r (x0)) :
    Good r (State.plainWrite x0 x1 x2 x3 x4) := by
  unfold State.plainWrite
  grind [State.setReg_good]

end Sys2Proof.Machine
end

