-- ==== Sys2Proof/Laws/CellRegs.lean ====
section
/-! SUPPORT. What each operation of Sys2Proof/Machine/CellRegs.lean keeps: a state that is good (Laws/Good.lean) stays good. -/

namespace Sys2Proof.Machine

open Sys2Proof Sys2Proof.Safety

variable {r s : State}

theorem State.imemPut_good (x0 x1 x2 x3) (h0 : Good r (x0)) :
    Good r (State.imemPut x0 x1 x2 x3) := by
  unfold State.imemPut
  grind [Good.set_mem_imem, Memory.wf_putBytes, Good.memory, MemCanonical.hbm, MemCanonical.frame, MemCanonical.host,
    MemCanonical.cstore, MemCanonical.imem]

theorem State.haltCore_good (x0 x1) (h0 : Good r (x0)) :
    Good r (State.haltCore x0 x1) := by
  unfold State.haltCore
  grind [State.modCore_good]

theorem State.setSeqCtrl_good (x0 x1 x2 x3) (h0 : Good r (x0)) :
    Good r (State.setSeqCtrl x0 x1 x2 x3) := by
  unfold State.setSeqCtrl
  grind [State.setF_good, State.modCore_good]

theorem State.startCore_good (x0 x1) (h0 : Good r (x0)) :
    Good r (State.startCore x0 x1) := by
  unfold State.startCore
  grind [State.zeroFh_good, State.setCore_good]

theorem State.writeSeqCtrl_good (x0 x1 x2 x3) (h0 : Good r (x0)) :
    Good r (State.writeSeqCtrl x0 x1 x2 x3) := by
  unfold State.writeSeqCtrl
  grind [State.setSeqCtrl_good, State.startCore_good, State.haltCore_good]

theorem State.writeStreamCtrl_good (x0 x1 x2) (h0 : Good r (x0)) :
    Good r (State.writeStreamCtrl x0 x1 x2) := by
  unfold State.writeStreamCtrl
  grind [State.resume_good, State.flush_good, State.modCore_good]

theorem State.cellWrite_good (x0 x1 x2 x3 x4 x5) (h0 : Good r (x0)) :
    Good r (State.cellWrite x0 x1 x2 x3 x4 x5).1 := by
  unfold State.cellWrite
  grind [State.writeSeqCtrl_good, State.modCore_good, State.writeStreamCtrl_good, State.setCtr_good, State.imemPut_good,
    State.plainWrite_good]

theorem ctlImemWrite_good (x0 x1 x2 x3 x4) (h4 : Good r (x4)) :
    GoodOut r (ctlImemWrite x0 x1 x2 x3 x4) := by
  unfold ctlImemWrite
  grind [State.ctlEnd_good, State.lockedRefused_good, State.ctlDo_good, State.imemPut_good, GoodOut.next]

theorem State.cellClear_good (x0 x1 x2 x3 x4) (h0 : Good r (x0)) :
    Good r (State.cellClear x0 x1 x2 x3 x4) := by
  unfold State.cellClear
  grind [State.modCore_good, State.setReg_good]

theorem ctlSeqHalt_good (x0 x1 x2 x3) (h3 : Good r (x3)) :
    GoodOut r (ctlSeqHalt x0 x1 x2 x3) := by
  unfold ctlSeqHalt
  grind [State.ctlDo_good, State.writeSeqCtrl_good, GoodOut.next]

end Sys2Proof.Machine
end

