-- ==== Sys2Proof/Laws/PortOps.lean ====
section
/-! SUPPORT. What each operation of Sys2Proof/Machine/PortOps.lean keeps: a state that is good (Laws/Good.lean) stays good. -/

namespace Sys2Proof.Machine

open Sys2Proof Sys2Proof.Safety

variable {r s : State}

theorem State.setPort_good (x0 x1 x2) (h0 : Good r (x0)) :
    Good r (State.setPort x0 x1 x2) := by
  unfold State.setPort
  grind [Good.set_ports]

theorem State.pushFrame_good (x0 x1 x2) (h0 : Good r (x0)) :
    Good r (State.pushFrame x0 x1 x2) := by
  unfold State.pushFrame
  grind [State.setPort_good]

theorem State.useBytes_good (x0 x1 x2 x3) (h0 : Good r (x0)) :
    Good r (State.useBytes x0 x1 x2 x3) := by
  unfold State.useBytes
  grind [Good.set_pwr]

theorem State.giveBytes_good (x0 x1 x2 x3) (h0 : Good r (x0)) :
    Good r (State.giveBytes x0 x1 x2 x3) := by
  unfold State.giveBytes
  grind [State.useBytes_good, Good.set_pwr]

theorem State.parkFrame_good (x0 x1 x2 x3) (h0 : Good r (x0)) :
    Good r (State.parkFrame x0 x1 x2 x3) := by
  unfold State.parkFrame
  grind [State.pushFrame_good]

theorem State.answerWake_good (x0 x1) (h0 : Good r (x0)) :
    Good r (State.answerWake x0 x1) := by
  unfold State.answerWake
  grind [State.parkFrame_good, State.setPort_good]

theorem State.portEvent_good (x0 x1 x2 x3 x4 x5) (h0 : Good r (x0)) :
    Good r (State.portEvent x0 x1 x2 x3 x4 x5) := by
  unfold State.portEvent
  grind [State.raise_good]

theorem State.setPortSt_good (x0 x1 x2 x3) (h0 : Good r (x0)) :
    Good r (State.setPortSt x0 x1 x2 x3) := by
  unfold State.setPortSt
  grind [State.setF_good]

theorem State.setPark_good (x0 x1 x2) (h0 : Good r (x0)) :
    Good r (State.setPark x0 x1 x2) := by
  unfold State.setPark
  grind [State.setPortSt_good, State.portEvent_good]

theorem State.parkFull_good (x0 x1) (h0 : Good r (x0)) :
    Good r (State.parkFull x0 x1) := by
  unfold State.parkFull
  grind [State.setPark_good, State.setPort_good]

theorem State.portCount_good (x0 x1 x2 x3) (h0 : Good r (x0)) :
    Good r (State.portCount x0 x1 x2 x3) := by
  unfold State.portCount
  grind [State.portEvent_good, State.setReg_good]

theorem State.phyCount_good (x0 x1 x2 x3) (h0 : Good r (x0)) :
    Good r (State.phyCount x0 x1 x2 x3) := by
  unfold State.phyCount
  grind [State.portCount_good]

theorem State.wakeLanes_good (x0 x1) (h0 : Good r (x0)) :
    Good r (State.wakeLanes x0 x1) := by
  unfold State.wakeLanes
  grind [State.phyCount_good, State.setPark_good, State.setPort_good]

theorem State.startWake_good (x0 x1) (h0 : Good r (x0)) :
    Good r (State.startWake x0 x1) := by
  unfold State.startWake
  grind [State.setPort_good, State.wakeLanes_good, State.parkFrame_good]

theorem State.parkCheck_good (x0 x1) (h0 : Good r (x0)) :
    Good r (State.parkCheck x0 x1) := by
  unfold State.parkCheck
  grind [State.answerWake_good, State.parkFull_good, State.setPort_good, State.parkFrame_good, State.wakeLanes_good, State.startWake_good]

theorem State.dropCap_good (x0 x1) (h0 : Good r (x0)) :
    Good r (State.dropCap x0 x1) := by
  unfold State.dropCap
  grind [State.parkFull_good, State.setPort_good, State.startWake_good]

theorem State.handFrame_good (x0 x1 x2) (h0 : Good r (x0)) :
    Good r (State.handFrame x0 x1 x2) := by
  unfold State.handFrame
  grind [State.parkCheck_good, State.pushFrame_good]

theorem State.pfcFrame_good (x0 x1 x2) (h0 : Good r (x0)) :
    Good r (State.pfcFrame x0 x1 x2) := by
  unfold State.pfcFrame
  grind [State.pushFrame_good]

theorem State.pfcCheck_good (x0 x1) (h0 : Good r (x0)) :
    Good r (State.pfcCheck x0 x1) := by
  unfold State.pfcCheck
  dsimp only
  repeat' first
    | with_reducible assumption
    | with_reducible apply State.setPortSt_good
    | with_reducible apply State.pfcFrame_good
    | with_reducible apply State.setReg_good
    | split

theorem State.rxCount_good (x0 x1 x2 x3) (h0 : Good r (x0)) :
    Good r (State.rxCount x0 x1 x2 x3) := by
  unfold State.rxCount
  grind [State.portCount_good]

theorem State.txCount_good (x0 x1 x2 x3) (h0 : Good r (x0)) :
    Good r (State.txCount x0 x1 x2 x3) := by
  unfold State.txCount
  grind [State.portCount_good]

theorem State.parkNow_good (x0 x1) (h0 : Good r (x0)) :
    Good r (State.parkNow x0 x1) := by
  unfold State.parkNow
  grind [State.phyCount_good, State.setPark_good, State.setPort_good]

theorem State.takeRx_good (x0 x1 x2) (h0 : Good r (x0)) : ∀ z, State.takeRx x0 x1 x2 = some z → Good r z.1 := by
  intro z hz
  unfold State.takeRx at hz
  dsimp only at hz
  split at hz
  · cases hz
  · obtain ⟨ip, _, rfl⟩ := Option.map_eq_some_iff.mp hz
    exact State.pfcCheck_good _ _ (State.setPort_good _ _ _ h0)

end Sys2Proof.Machine
end

