-- ==== Sys2Proof/Laws/Xport.lean ====
section
/-! SUPPORT. What each operation of Sys2Proof/Machine/Xport.lean keeps: a state that is good (Laws/Good.lean) stays good. -/

namespace Sys2Proof.Machine

open Sys2Proof Sys2Proof.Safety

variable {r s : State}

theorem State.modX_good (x0 x1) (h0 : Good r (x0)) :
    Good r (State.modX x0 x1) := by
  unfold State.modX
  grind [Good.set_xport]

theorem State.ctxKeep_good (x0 x1 x2) (h0 : Good r (x0)) :
    Good r (State.ctxKeep x0 x1 x2) := by
  unfold State.ctxKeep
  grind [State.modX_good]

theorem State.ctxLoad_good (x0 x1) (h0 : Good r (x0)) :
    Good r (State.ctxLoad x0 x1).1 := by
  unfold State.ctxLoad
  grind [State.ctxKeep_good, State.uRead_good, State.raise_good]

theorem State.ctxPut_good (x0 x1 x2) (h0 : Good r (x0)) :
    Good r (State.ctxPut x0 x1 x2) := by
  unfold State.ctxPut
  grind [State.uWrite_good, State.ctxKeep_good]

theorem State.wardSignal_good (x0 x1 x2 x3 x4 x5) (h0 : Good r (x0)) :
    Good r (State.wardSignal x0 x1 x2 x3 x4 x5) := by
  unfold State.wardSignal
  grind [State.signalTo_good]

theorem State.ctxSignal_good (x0 x1) (h0 : Good r (x0)) :
    Good r (State.ctxSignal x0 x1) := by
  unfold State.ctxSignal
  grind [State.wardSignal_good]

theorem State.queueDone_good (x0 x1 x2) (h0 : Good r (x0)) :
    Good r (State.queueDone x0 x1 x2) := by
  unfold State.queueDone
  grind [State.modX_good]

theorem State.msgFail_good (x0 x1 x2) (h0 : Good r (x0)) :
    Good r (State.msgFail x0 x1 x2) := by
  unfold State.msgFail
  grind [State.raise_good]

theorem State.spendLinks_good (x0) (h0 : Good r (x0)) :
    Good r (State.spendLinks x0) := by
  unfold State.spendLinks
  grind [State.raise_good, State.setF_good, Good.foldl, Good.foldl_fst, Good.foldl_snd, Good.set_sec]

theorem State.nextId_good (x0) (h0 : Good r (x0)) :
    Good r (State.nextId x0) := by
  unfold State.nextId
  grind [State.modX_good, State.spendLinks_good]

theorem State.sendPkt_good (x0 x1 x2 x3) (h0 : Good r (x0)) :
    Good r (State.sendPkt x0 x1 x2 x3) := by
  unfold State.sendPkt
  grind [State.modX_good, State.handFrame_good]

theorem State.copyOut_good (x0 x1 x2 x3 x4 x5 x6) (h0 : Good r (x0)) :
    ∀ t, State.copyOut x0 x1 x2 x3 x4 x5 x6 = .ok t → Good r t.1 := by
  unfold State.copyOut
  grind [State.sendPkt_good]

theorem State.launchAbort_good (x0 x1) (h0 : Good r (x0)) :
    Good r (State.launchAbort x0 x1) := by
  unfold State.launchAbort
  dsimp only
  have h := State.nextId_good _ h0
  split
  · exact State.msgFail_good _ _ _ h
  · split
    · next e => exact State.modX_good _ _ (State.copyOut_good _ _ _ _ _ _ _ h _ e)
    · exact State.msgFail_good _ _ _ h

theorem State.tallyUp_good (x0 x1 x2 x3) (h0 : Good r (x0)) :
    Good r (State.tallyUp x0 x1 x2 x3) := by
  unfold State.tallyUp
  grind [State.countAll_good, Good.foldl, Good.foldl_fst, Good.foldl_snd]

theorem State.cmdDone_good (x0 x1 x2 x3) (h0 : Good r (x0)) :
    Good r (State.cmdDone x0 x1 x2 x3) := by
  unfold State.cmdDone
  grind [State.tallyUp_good, State.setPhase_good]

theorem State.deliverDone_good (x0 x1 x2) (h0 : Good r (x0)) :
    Good r (State.deliverDone x0 x1 x2) := by
  unfold State.deliverDone
  grind [State.queueDone_good, State.setPhase_good, State.ctxSignal_good, State.cmdDone_good]

theorem State.setColl_good (x0 x1 x2) (h0 : Good r (x0)) :
    Good r (State.setColl x0 x1 x2) := by
  unfold State.setColl
  grind [State.modX_good]

theorem State.noteAbort_good (x0 x1 x2) (h0 : Good r (x0)) :
    Good r (State.noteAbort x0 x1 x2) := by
  unfold State.noteAbort
  grind [State.setColl_good, State.modX_good]

theorem State.sendAbort_good (x0 x1 x2 x3 x4 x5) (h0 : Good r (x0)) :
    Good r (State.sendAbort x0 x1 x2 x3 x4 x5) := by
  unfold State.sendAbort
  grind [State.modX_good, State.launchAbort_good]

theorem State.abortColl_good (x0 x1 x2) (h0 : Good r (x0)) :
    Good r (State.abortColl x0 x1 x2) := by
  unfold State.abortColl
  grind [State.raise_good, State.noteAbort_good, State.sendAbort_good, Good.foldl, Good.foldl_fst, Good.foldl_snd]

theorem State.loadFor_good (x0 x1) (h0 : Good r (x0)) :
    Good r (State.loadFor x0 x1) := by
  unfold State.loadFor
  grind [State.ctxLoad_good]

theorem State.finishMsg_good (x0 x1 x2) (h0 : Good r (x0)) :
    Good r (State.finishMsg x0 x1 x2) := by
  unfold State.finishMsg
  grind [State.modX_good, State.ctxLoad_good, State.ctxPut_good, State.raise_good, State.deliverDone_good, State.abortColl_good,
    State.loadFor_good, State.msgFail_good]

theorem State.fenceColls_good (x0 x1) (h0 : Good r (x0)) :
    Good r (State.fenceColls x0 x1) := by
  unfold State.fenceColls
  grind [State.abortColl_good, Good.foldl, Good.foldl_fst, Good.foldl_snd]

theorem State.noRoutes_good (x0 x1) (h0 : Good r (x0)) :
    Good r (State.noRoutes x0 x1) := by
  unfold State.noRoutes
  grind [State.raise_good, Good.foldl, Good.foldl_fst, Good.foldl_snd]

theorem State.rerouted_good (x0 x1) (h0 : Good r (x0)) (h1 : ∀ y0, Good r (y0) → Good r (x1 y0)) :
    Good r (State.rerouted x0 x1) := by
  unfold State.rerouted
  grind [State.noRoutes_good]

theorem State.putMsg_good (x0 x1) (h0 : Good r (x0)) :
    Good r (State.putMsg x0 x1) := by
  unfold State.putMsg
  grind [State.modX_good]

theorem sentOf_good (x0 x1 x2) (h0 : Good r (x0)) (h2 : ∀ t, x2 = .ok t → Good r t.1) : Good r (sentOf x0 x1 x2).1 := by
  unfold sentOf
  split
  · exact h2 _ rfl
  · exact h0

theorem settleSent_good (x0 : Sent) (h0 : Good r x0.1) : Good r (settleSent x0) := by
  unfold settleSent
  grind [State.putMsg_good, State.finishMsg_good]

theorem State.pumpFrom_good (x0 x1 x2 x3) (h0 : Good r (x0)) : Good r (State.pumpFrom x0 x1 x2 x3).1 := by
  induction x2 generalizing x0 x1 x3 with
  | zero => exact h0
  | succ n ih =>
    unfold State.pumpFrom
    split
    · exact h0
    · split
      · exact h0
      · split
        · exact ih _ _ _ h0
        · split
          · exact h0
          · split
            · exact h0
            · next e => exact ih _ _ _ (State.copyOut_good _ _ _ _ _ _ _ h0 _ e)

theorem State.readRound_good (x0 x1) (h0 : Good r (x0)) : Good r (State.readRound x0 x1).1 := by
  unfold State.readRound
  refine Good.foldl_fst (a := (x0, x1, none)) h0 ?_
  rintro ⟨a, m, e⟩ g h
  dsimp only
  split
  · next e' => cases e'; exact h
  · next e' => cases e'; exact sentOf_good _ _ _ h fun t e => State.copyOut_good _ _ _ _ _ _ _ h _ e

theorem State.tryLast_good (x0 x1 x2) (h0 : Good r (x0)) : Good r (State.tryLast x0 x1 x2).1 := by
  unfold State.tryLast
  split
  · split
    · exact h0
    · exact sentOf_good _ _ _ h0 fun t e => State.copyOut_good _ _ _ _ _ _ _ h0 _ e
  · exact h0

theorem State.pump_good (x0 x1) (h0 : Good r (x0)) :
    Good r (State.pump x0 x1) := by
  unfold State.pump
  refine settleSent_good _ ?_
  split
  · split
    · exact State.readRound_good _ _ h0
    · exact h0
  · have h := State.pumpFrom_good x0 x1 x1.npkts 0 h0
    split
    · next e => rw [e] at h; exact State.tryLast_good _ _ _ h
    · exact h

theorem State.fetchData_good (x0 x1) (h0 : Good r (x0)) :
    Good r (State.fetchData x0 x1).1 := by
  unfold State.fetchData
  grind [State.devRead_good]

theorem State.beginMsg_good (x0 x1) (h0 : Good r (x0)) :
    Good r (State.beginMsg x0 x1) := by
  unfold State.beginMsg
  grind [State.spendLinks_good, State.modX_good, State.setPhase_good, State.finishMsg_good, State.fetchData_good, State.pump_good,
    State.nextId_good]

theorem State.irq_good (x0 x1 x2) (h0 : Good r (x0)) :
    Good r (State.irq x0 x1 x2) := by
  unfold State.irq
  grind [Good.set_evt]

theorem State.submit_good (x0 x1) (h0 : Good r (x0)) :
    Good r (State.submit x0 x1) := by
  unfold State.submit
  grind [State.deliverDone_good, State.beginMsg_good, State.setPhase_good, State.modX_good]

theorem State.dropPkt_good (x0) (h0 : Good r (x0)) :
    Good r (State.dropPkt x0) := by
  unfold State.dropPkt
  grind [State.bump_good]

end Sys2Proof.Machine
end

