-- ==== Sys2Proof/Laws/EvtOps.lean ====
section
/-! SUPPORT. What each operation of Sys2Proof/Machine/EvtOps.lean keeps: a state that is good (Laws/Good.lean) stays good. -/

namespace Sys2Proof.Machine

open Sys2Proof Sys2Proof.Safety

variable {r s : State}

theorem State.nandPush_good (x0 x1) (h0 : Good r (x0)) :
    Good r (State.nandPush x0 x1) := by
  unfold State.nandPush
  grind [Good.set_mgt]

theorem State.noteRead_good (x0 x1) (h0 : Good r (x0)) :
    Good r (State.noteRead x0 x1) := by
  unfold State.noteRead
  have h : Good r { x0 with nv := { x0.nv with reads := mset 0 x0.nv.reads x1 (mget 0 x0.nv.reads x1 + 1) } } := h0.set_nv ⟨h0.1.2, ⟨h0.4.1, h0.4.2, h0.4.3, h0.4.4, h0.4.5⟩⟩
  dsimp only
  split
  · exact State.nandPush_good _ _ h
  · exact h

theorem State.showPages_good (x0) (h0 : Good r (x0)) :
    Good r (State.showPages x0) := by
  unfold State.showPages
  grind [State.setF_good]

theorem State.eraseBlock_good (x0 x1) (h0 : Good r (x0)) :
    Good r (State.eraseBlock x0 x1) := by
  unfold State.eraseBlock
  dsimp only
  split
  · exact h0
  · exact State.setF_good _ _ _ _ (h0.set_nv ⟨h0.1.2, ⟨h0.4.1, h0.4.2, h0.4.3, h0.4.4, h0.4.5⟩⟩)

theorem State.deferPage_good (x0) (h0 : Good r (x0)) :
    Good r (State.deferPage x0) := by
  unfold State.deferPage
  grind [State.raise_good, Good.set_evt]

theorem State.dropRecs_good (x0 x1 x2) (h0 : Good r (x0)) :
    Good r (State.dropRecs x0 x1 x2) := by
  unfold State.dropRecs
  grind [State.setPath_good]

theorem State.putPage_good (x0) (h0 : Good r (x0)) :
    Good r (State.putPage x0) := by
  unfold State.putPage
  grind [State.dropRecs_good, State.eraseBlock_good, State.showPages_good, State.nandPush_good, Good.set_evt]

theorem State.finalPage_good (x0) (h0 : Good r (x0)) :
    Good r (State.finalPage x0) := by
  unfold State.finalPage
  grind [State.drew_good, State.putPage_good]

end Sys2Proof.Machine
end

