-- ==== Sys2Proof/Laws/SupplyOps.lean ====
section
/-! SUPPORT. What each operation of Sys2Proof/Machine/SupplyOps.lean keeps: a state that is good (Laws/Good.lean) stays good. -/

namespace Sys2Proof.Machine

open Sys2Proof Sys2Proof.Safety

variable {r s : State}

theorem State.tagPut_good (x0 x1 x2) (h0 : Good r (x0)) :
    Good r (State.tagPut x0 x1 x2) := h0.set_nv ⟨Memory.wf_putBytes _ _ h0.1.2, ⟨h0.4.1, h0.4.2, h0.4.3, h0.4.4, h0.4.5⟩⟩

theorem State.faultRecord_good (x0 x1 x2 x3) (h0 : Good r (x0)) :
    Good r (State.faultRecord x0 x1 x2 x3) := by
  unfold State.faultRecord
  grind [State.tagPut_good, Good.set_mgt]

theorem State.modSup_good (x0 x1) (h0 : Good r (x0)) :
    Good r (State.modSup x0 x1) := by
  unfold State.modSup
  grind [Good.set_sup]

theorem State.dropGood_good (x0) (h0 : Good r (x0)) :
    Good r (State.dropGood x0) := by
  have h := State.setF_good _ R.HOST_LINK_STATUS F.HOST_LINK_STATUS_WIDTH 0
    (State.setF_good x0 R.HOST_LINK_STATUS F.HOST_LINK_STATUS_SPEED 0 h0)
  unfold State.dropGood
  dsimp only
  exact State.modSup_good _ _ ⟨⟨h.1.1, h.1.2, h.1.3⟩, h.2, h.3, h.4⟩

theorem State.downEmergency_good (x0) (h0 : Good r (x0)) :
    Good r (State.downEmergency x0) := by
  unfold State.downEmergency
  grind [State.modSup_good, State.dropGood_good]

theorem State.downNormal_good (x0) (h0 : Good r (x0)) :
    Good r (State.downNormal x0) := by
  unfold State.downNormal
  grind [State.modSup_good, State.dropGood_good]

theorem State.setTrip_good (x0 x1 x2 x3) (h0 : Good r (x0)) :
    Good r (State.setTrip x0 x1 x2 x3) := by
  unfold State.setTrip
  grind [State.setF_good]

theorem State.toStage0_good (x0) (h0 : Good r (x0)) :
    Good r (State.toStage0 x0) := by
  unfold State.toStage0
  grind [State.setF_good]

theorem State.ocp_good (x0 x1 x2) (h0 : Good r (x0)) :
    Good r (State.ocp x0 x1 x2) := by
  unfold State.ocp
  dsimp only
  repeat' first
    | with_reducible assumption
    | with_reducible apply State.raise_good
    | with_reducible apply State.setTrip_good
    | with_reducible apply State.faultRecord_good
    | with_reducible apply State.modSup_good
    | with_reducible apply State.toStage0_good
    | with_reducible apply State.downEmergency_good

theorem State.tryStart_good (x0) (h0 : Good r (x0)) :
    Good r (State.tryStart x0) := by
  unfold State.tryStart
  grind [Good.set_sup]

theorem State.deadbolt_good (x0 x1 x2 x3) (h0 : Good r (x0)) :
    Good r (State.deadbolt x0 x1 x2 x3) := by
  unfold State.deadbolt
  split
  · exact State.finalPage_good _ (State.modSup_good _ _ (State.downEmergency_good _
      (State.faultRecord_good _ _ _ _ (State.raise_good _ _ (State.setTrip_good _ _ _ _ h0)))))
  · exact h0

end Sys2Proof.Machine
end

