-- ==== Sys2Proof/Laws/PowerOps.lean ====
section
/-! SUPPORT. What each operation of Sys2Proof/Machine/PowerOps.lean keeps: a state that is good (Laws/Good.lean) stays good. -/

namespace Sys2Proof.Machine

open Sys2Proof Sys2Proof.Safety

variable {r s : State}

theorem State.modPwr_good (x0 x1) (h0 : Good r (x0)) :
    Good r (State.modPwr x0 x1) := by
  unfold State.modPwr
  grind [Good.set_pwr]

theorem State.modCell_good (x0 x1 x2) (h0 : Good r (x0)) :
    Good r (State.modCell x0 x1 x2) := by
  unfold State.modCell
  grind [State.modPwr_good]

theorem State.setDiv_good (x0 x1 x2) (h0 : Good r (x0)) :
    Good r (State.setDiv x0 x1 x2) := by
  unfold State.setDiv
  grind [State.modCell_good, State.setF_good]

theorem State.takeLevel_good (x0 x1 x2 x3) (h0 : Good r (x0)) :
    Good r (State.takeLevel x0 x1 x2 x3) := by
  unfold State.takeLevel
  grind [State.setF_good, State.modCell_good, State.settle_good, State.setDiv_good]

theorem State.relevel_good (x0 x1) (h0 : Good r (x0)) :
    Good r (State.relevel x0 x1) := by
  unfold State.relevel
  grind [State.takeLevel_good, Good.foldl, Good.foldl_fst, Good.foldl_snd]

theorem State.relevelAll_good (x0) (h0 : Good r (x0)) :
    Good r (State.relevelAll x0) := by
  unfold State.relevelAll
  grind [State.relevel_good]

theorem State.pwrEvent_good (x0 x1 x2 x3 x4 x5) (h0 : Good r (x0)) :
    Good r (State.pwrEvent x0 x1 x2 x3 x4 x5) := by
  unfold State.pwrEvent
  grind [State.raise_good]

theorem State.endGrants_good (x0 x1) (h1 : Good r (x1)) :
    Good r (State.endGrants x0 x1) := by
  unfold State.endGrants
  grind [Good.set_cores]

theorem State.refreshCap_good (x0) (h0 : Good r (x0)) :
    Good r (State.refreshCap x0) := by
  unfold State.refreshCap
  grind [State.setF_good]

theorem State.setWardLevel_good (x0 x1 x2 x3) (h0 : Good r (x0)) :
    Good r (State.setWardLevel x0 x1 x2 x3) := by
  unfold State.setWardLevel
  grind [State.setF_good]

end Sys2Proof.Machine
end

