-- ==== Sys2Proof/Laws/SfnRegs.lean ====
section
/-! SUPPORT. What each operation of Sys2Proof/Machine/SfnRegs.lean keeps: a state that is good (Laws/Good.lean) stays good. -/

namespace Sys2Proof.Machine

open Sys2Proof Sys2Proof.Safety

variable {r s : State}

theorem State.sfnPut_good (x0 x1 x2 x3 x4 x5) (h0 : Good r (x0)) :
    Good r (State.sfnPut x0 x1 x2 x3 x4 x5) := by
  unfold State.sfnPut
  grind [State.plainWrite_good, Good.set_mgt, State.ctlEnd_good, Good.foldl, Good.foldl_fst, Good.foldl_snd]

theorem State.sfnDo_good (x0 x1 x2 x3 x4 x5 x6) (h0 : Good r (x0)) :
    Good r (State.sfnDo x0 x1 x2 x3 x4 x5 x6) := by
  unfold State.sfnDo
  grind [State.sfnPut_good, State.ctlEnd_good]

theorem State.sfnRelease_good (x0 x1 x2) (h0 : Good r (x0)) :
    Good r (State.sfnRelease x0 x1 x2) := by
  unfold State.sfnRelease
  grind [State.ctlEnd_good, Good.set_mgt, Good.foldl, Good.foldl_fst, Good.foldl_snd]

theorem State.bcastWrite_good (x0 x1 x2 x3 x4) (h0 : Good r (x0)) :
    Good r (State.bcastWrite x0 x1 x2 x3 x4) := by
  unfold State.bcastWrite
  grind [State.ctlDo_good, State.plainWrite_good, State.sfnPut_good, Good.foldl, Good.foldl_fst, Good.foldl_snd, State.sfnDo_good]

theorem State.sfnWrite_good (x0 x1 x2 x3 x4) (h0 : Good r (x0)) :
    Good r (State.sfnWrite x0 x1 x2 x3 x4) := by
  unfold State.sfnWrite
  grind [State.ctlDo_good, State.sfnPut_good, State.sfnDo_good]

theorem ctlSfnBcastWrite_good (x0 x1 x2 x3 x4) (h4 : Good r (x4)) :
    GoodOut r (ctlSfnBcastWrite x0 x1 x2 x3 x4) := by
  unfold ctlSfnBcastWrite
  grind [State.bcastWrite_good, GoodOut.next]

theorem ctlSfnTableWrite_good (x0 x1 x2 x3 x4) (h4 : Good r (x4)) :
    GoodOut r (ctlSfnTableWrite x0 x1 x2 x3 x4) := by
  unfold ctlSfnTableWrite
  grind [State.sfnWrite_good, GoodOut.next]

theorem ctlSfnTdescWrite_good (x0 x1 x2 x3 x4) (h4 : Good r (x4)) :
    GoodOut r (ctlSfnTdescWrite x0 x1 x2 x3 x4) := by
  unfold ctlSfnTdescWrite
  grind [State.sfnWrite_good, GoodOut.next]

theorem execSfnValidClearDone_good (x0 x1 x2) (h2 : Good r (x2)) :
    GoodOut r (execSfnValidClearDone x0 x1 x2) := by
  unfold execSfnValidClearDone
  grind [State.plainWrite_good, Good.set_mgt, GoodOut.next, State.sfnRelease_good, Good.foldl, Good.foldl_fst, Good.foldl_snd]

end Sys2Proof.Machine
end

