-- ==== Sys2Proof/Laws/PState.lean ====
section
/-! SUPPORT. What each operation of Sys2Proof/Machine/PState.lean keeps: a state that is good (Laws/Good.lean) stays good. -/

namespace Sys2Proof.Machine

open Sys2Proof Sys2Proof.Safety

variable {r s : State}

theorem State.forget_good (x0 x1) (h0 : Good r (x0)) :
    Good r (State.forget x0 x1) := by
  unfold State.forget
  grind [State.modX_good, Good.set_mesh]

theorem State.zeroCore_good (x0 x1) (h0 : Good r (x0)) :
    Good r (State.zeroCore x0 x1) := h0.set_mem ⟨h0.1.1.1, h0.1.1.2, h0.1.1.3, Memory.wf_zeroBytes _ _ h0.1.1.4, Memory.wf_zeroBytes _ _ h0.1.1.5⟩

theorem State.resetRegs_good (x0 x1 x2) (h0 : Good r (x0)) :
    Good r (State.resetRegs x0 x1 x2) := h0.set_regs (mwfBy_meraseRange _ _ h0.1.3)

theorem State.resetCell_good (x0 x1) (h0 : Good r (x0)) :
    Good r (State.resetCell x0 x1) := by
  unfold State.resetCell
  dsimp only
  repeat' first
    | with_reducible assumption
    | with_reducible apply State.zeroCore_good
    | with_reducible apply State.forget_good
    | with_reducible apply State.resetRegs_good
    | with_reducible apply State.sfnRelease_good
    | with_reducible apply State.setCore_good

theorem State.setPstate_good (x0 x1) (h0 : Good r (x0)) :
    Good r (State.setPstate x0 x1) := by
  unfold State.setPstate
  grind [State.setF_good]

theorem State.pstateEvent_good (x0) (h0 : Good r (x0)) :
    Good r (State.pstateEvent x0) := by
  unfold State.pstateEvent
  grind [State.raise_good]

theorem State.wakePort_good (x0 x1) (h0 : Good r (x0)) :
    Good r (State.wakePort x0 x1) := by
  unfold State.wakePort
  grind [State.setPort_good, State.parkFrame_good, State.wakeLanes_good, State.startWake_good]

theorem State.selfRefresh_good (x0 x1) (h0 : Good r (x0)) :
    Good r (State.selfRefresh x0 x1) := by
  unfold State.selfRefresh
  grind [State.setStack_good, Good.foldl, Good.foldl_fst, Good.foldl_snd]

theorem State.abandon_good (x0) (h0 : Good r (x0)) :
    Good r (State.abandon x0) := by
  unfold State.abandon
  grind [State.setF_good, Good.set_mgt]

theorem State.shallower_good (x0 x1) (h0 : Good r (x0)) :
    Good r (State.shallower x0 x1) := by
  unfold State.shallower
  grind [State.setPstate_good, State.wakePort_good, State.selfRefresh_good, State.resetCell_good, State.relevelAll_good,
    State.pstateEvent_good, Good.foldl, Good.foldl_fst, Good.foldl_snd]

theorem State.rouse_good (x0) (h0 : Good r (x0)) :
    Good r (State.rouse x0) := by
  unfold State.rouse
  grind [State.abandon_good, State.shallower_good]

theorem ctlSeqRun_good (x0 x1 x2 x3) (h3 : Good r (x3)) :
    GoodOut r (ctlSeqRun x0 x1 x2 x3) := by
  unfold ctlSeqRun
  grind [State.ctlDo_good, State.writeSeqCtrl_good, GoodOut.next, State.rouse_good, State.relevel_good]

end Sys2Proof.Machine
end

