-- ==== Sys2Proof/Laws/XportRx.lean ====
section
/-! SUPPORT. What each operation of Sys2Proof/Machine/XportRx.lean keeps: a state that is good (Laws/Good.lean) stays good. -/

namespace Sys2Proof.Machine

open Sys2Proof Sys2Proof.Safety

variable {r s : State}

theorem State.rxJudge_good (x0 x1 x2 x3) (h0 : Good r (x0)) :
    Good r (State.rxJudge x0 x1 x2 x3).1 := by
  unfold State.rxJudge
  grind [State.dropPkt_good]

theorem State.rxTaken_good (x0 x1 x2 x3) (h0 : Good r (x0)) :
    Good r (State.rxTaken x0 x1 x2 x3).1 := by
  unfold State.rxTaken
  grind [State.rxJudge_good, State.rouse_good]

theorem State.slowDeadline_good (x0 x1) (h0 : Good r (x0)) :
    Good r (State.slowDeadline x0 x1) := by
  unfold State.slowDeadline
  grind [State.setColl_good]

theorem State.sendBack_good (x0 x1 x2 x3) (h0 : Good r (x0)) :
    Good r (State.sendBack x0 x1 x2 x3) := by
  unfold State.sendBack
  grind [State.sendPkt_good]

theorem State.store_good (x0 x1 x2 x3) (h0 : Good r (x0)) :
    Good r (State.store x0 x1 x2 x3) := by
  unfold State.store
  grind [State.modX_good]

theorem State.ack_good (x0 x1 x2 x3 x4 x5) (h0 : Good r (x0)) :
    Good r (State.ack x0 x1 x2 x3 x4 x5) := by
  unfold State.ack
  grind [State.sendBack_good, State.store_good]

theorem State.flushAck_good (x0 x1) (h0 : Good r (x0)) :
    Good r (State.flushAck x0 x1) := by
  unfold State.flushAck
  grind [State.modX_good, State.sendBack_good, Good.foldl, Good.foldl_fst, Good.foldl_snd]

theorem State.ackData_good (x0 x1 x2 x3 x4) (h0 : Good r (x0)) :
    Good r (State.ackData x0 x1 x2 x3 x4) := by
  unfold State.ackData
  grind [State.ack_good, State.flushAck_good, State.modX_good]

theorem State.nak_good (x0 x1 x2 x3 x4) (h0 : Good r (x0)) :
    Good r (State.nak x0 x1 x2 x3 x4) := by
  unfold State.nak
  grind [State.bump_good, State.modX_good, State.store_good, State.sendBack_good]

theorem State.dozing_good (x0 x1 x2) (h0 : Good r (x0)) :
    Good r (State.dozing x0 x1 x2) := by
  unfold State.dozing
  grind [State.dropPkt_good, State.nak_good, State.rouse_good]

theorem State.clearMiss_good (x0 x1 x2 x3) (h0 : Good r (x0)) :
    Good r (State.clearMiss x0 x1 x2 x3) := by
  unfold State.clearMiss
  grind [State.modX_good]

theorem State.ackMarks_good (x0 x1 x2 x3) (h0 : Good r (x0)) :
    Good r (State.ackMarks x0 x1 x2 x3).1 := by
  unfold State.ackMarks
  grind [State.clearMiss_good, Good.foldl, Good.foldl_fst, Good.foldl_snd]

theorem State.slowFor_good (x0 x1 x2) (h0 : Good r (x0)) :
    Good r (State.slowFor x0 x1 x2) := by
  unfold State.slowFor
  grind [State.slowDeadline_good]

theorem State.ackIn_good (x0 x1 x2) (h0 : Good r (x0)) :
    Good r (State.ackIn x0 x1 x2) := by
  unfold State.ackIn
  grind [State.clearMiss_good, State.finishMsg_good, State.devWrite_good, State.pump_good, State.putMsg_good, Good.foldl, Good.foldl_fst,
    Good.foldl_snd, State.slowFor_good, State.ackMarks_good]

theorem State.chargeRx_good (x0 x1 x2 x3) (h0 : Good r (x0)) :
    Good r (State.chargeRx x0 x1 x2 x3) := by
  unfold State.chargeRx
  grind [State.bump_good, State.giveBytes_good]

theorem State.answerIn_good (x0 x1 x2 x3) (h0 : Good r (x0)) :
    Good r (State.answerIn x0 x1 x2 x3) := by
  unfold State.answerIn
  grind [State.chargeRx_good]

theorem State.bindSend_good (x0 x1) (h0 : Good r (x0)) :
    Good r (State.bindSend x0 x1).1 := by
  unfold State.bindSend
  grind [State.modX_good]

theorem State.bufDone_good (x0 x1 x2 x3 x4 x5) (h0 : Good r (x0)) :
    Good r (State.bufDone x0 x1 x2 x3 x4 x5) := by
  unfold State.bufDone
  grind [State.queueDone_good, State.csWrite_good, State.setPhase_good, State.ctxSignal_good, State.ctxLoad_good]

theorem State.bufWrite_good (x0 x1 x2 x3) (h0 : Good r (x0)) :
    Good r (State.bufWrite x0 x1 x2 x3).1 := by
  unfold State.bufWrite
  grind [State.csWrite_good, State.devWrite_good]

theorem State.filterStep_good (x0 x1 x2 x3) (h0 : Good r (x0)) :
    Good r (State.filterStep x0 x1 x2 x3).1 := by
  unfold State.filterStep
  grind [State.sendBack_good, State.nak_good, State.raise_good, State.modX_good, State.chargeRx_good]

theorem State.nakHold_good (x0 x1 x2) (h0 : Good r (x0)) :
    Good r (State.nakHold x0 x1 x2) := by
  unfold State.nakHold
  grind [State.ackMarks_good, State.putMsg_good]

theorem State.missOn_good (x0 x1 x2) (h0 : Good r (x0)) :
    Good r (State.missOn x0 x1 x2) := by
  unfold State.missOn
  grind [State.modX_good, State.rerouted_good, State.raise_good, State.setF_good]

theorem State.timedOut_good (x0 x1 x2) (h0 : Good r (x0)) :
    Good r (State.timedOut x0 x1 x2).1 := by
  unfold State.timedOut
  grind [State.missOn_good]

theorem State.keepAbort_good (x0 x1 x2) (h0 : Good r (x0)) :
    Good r (State.keepAbort x0 x1 x2) := by
  unfold State.keepAbort
  grind [State.modX_good, State.raise_good]

theorem State.killAsm_good (x0 x1 x2 x3 x4) (h0 : Good r (x0)) :
    Good r (State.killAsm x0 x1 x2 x3 x4) := by
  unfold State.killAsm
  grind [State.modX_good, State.nak_good, State.bufDone_good]

theorem State.landSend_good (x0 x1 x2 x3) (h0 : Good r (x0)) :
    Good r (State.landSend x0 x1 x2 x3) := by
  unfold State.landSend
  grind [State.killAsm_good, State.bufWrite_good, State.modX_good, State.ackData_good, State.bufDone_good]

theorem State.regionSignal_good (x0 x1 x2 x3 x4) (h0 : Good r (x0)) :
    Good r (State.regionSignal x0 x1 x2 x3 x4).1 := by
  unfold State.regionSignal
  grind [State.wardSignal_good, State.queueDone_good]

theorem State.landWrite_good (x0 x1 x2) (h0 : Good r (x0)) :
    Good r (State.landWrite x0 x1 x2) := by
  unfold State.landWrite
  grind [State.nak_good, State.chargeRx_good, State.devWrite_good, State.flushAck_good, State.regionSignal_good, State.ack_good,
    State.ackData_good]

theorem State.noteSlow_good (x0 x1) (h0 : Good r (x0)) :
    Good r (State.noteSlow x0 x1) := by
  unfold State.noteSlow
  grind [State.slowDeadline_good]

theorem State.readOut_good (x0 x1 x2 x3 x4) (h0 : Good r (x0)) :
    Good r (State.readOut x0 x1 x2 x3 x4).1 := by
  unfold State.readOut
  grind [State.devRead_good, State.sendBack_good, Good.foldl, Good.foldl_fst, Good.foldl_snd]

theorem State.rxGate_good (x0 x1 x2 x3) (h0 : Good r (x0)) :
    Good r (State.rxGate x0 x1 x2 x3).1 := by
  unfold State.rxGate
  split
  · exact h0
  · split
    · split
      · exact State.rxTaken_good _ _ _ _ (State.modX_good _ _ h0)
      · exact h0
    · split
      · next e => exact State.rxTaken_good _ _ _ _ (State.takeRx_good _ _ _ h0 _ e)
      · exact h0

theorem execAbortTableExpire_good (x0 x1) (h1 : Good r (x1)) :
    GoodOut r (execAbortTableExpire x0 x1) := by
  unfold execAbortTableExpire
  grind [State.modX_good, GoodOut.next]

theorem execAckCoalesceTimeout_good (x0 x1 x2) (h2 : Good r (x2)) :
    GoodOut r (execAckCoalesceTimeout x0 x1 x2) := by
  unfold execAckCoalesceTimeout
  grind [State.flushAck_good, GoodOut.next]

theorem execFilterEntryExpire_good (x0 x1 x2) (h2 : Good r (x2)) :
    GoodOut r (execFilterEntryExpire x0 x1 x2) := by
  unfold execFilterEntryExpire
  grind [State.modX_good, GoodOut.next]

theorem execLastPacketSend_good (x0 x1 x2) (h2 : Good r (x2)) :
    GoodOut r (execLastPacketSend x0 x1 x2) := by
  unfold execLastPacketSend
  refine GoodOut.next (Good.ite h2 ?_)
  split
  · exact h2
  · exact Good.ite (settleSent_good _ (State.tryLast_good _ _ _ h2)) h2

theorem execMsgContextGrant_good (x0) (h0 : Good r (x0)) :
    GoodOut r (execMsgContextGrant x0) := by
  unfold execMsgContextGrant
  grind [State.ctxLoad_good, State.beginMsg_good, State.modX_good, GoodOut.next, State.loadFor_good]

theorem execMsgTimeout_good (x0 x1) (h1 : Good r (x1)) :
    GoodOut r (execMsgTimeout x0 x1) := by
  unfold execMsgTimeout
  grind [State.finishMsg_good, GoodOut.next, State.loadFor_good]

theorem countAgain_good (x0 x1) (h1 : Good r x1.1) : Good r (countAgain x0 x1).1 := State.bump_good _ _ _ _ h1

theorem State.copyAgain_good (x0 x1 x2 x3 x4) (h0 : Good r (x0)) : Good r (State.copyAgain x0 x1 x2 x3 x4).1 := by
  unfold State.copyAgain
  split
  · next e => exact countAgain_good _ _ (State.copyOut_good _ _ _ _ _ _ _ h0 _ e)
  · exact h0

theorem State.roundAgain_good (x0 x1) (h0 : Good r (x0)) : Good r (State.roundAgain x0 x1).1 :=
  countAgain_good _ _ (State.readRound_good _ _ h0)

theorem execNakRetryTimer_good (x0 x1 x2) (h2 : Good r (x2)) :
    GoodOut r (execNakRetryTimer x0 x1 x2) := by
  unfold execNakRetryTimer
  refine GoodOut.next (Good.ite h2 ?_)
  split
  · exact h2
  · dsimp only
    split
    · exact h2
    · refine Good.ite h2 (settleSent_good _ ?_)
      split
      · exact State.roundAgain_good _ _ h2
      · exact State.copyAgain_good _ _ _ _ _ h2

theorem execProbeTimer_good (x0) (h0 : Good r (x0)) :
    GoodOut r (execProbeTimer x0) := by
  unfold execProbeTimer
  grind [State.sendPkt_good, Good.foldl, Good.foldl_fst, Good.foldl_snd, GoodOut.next]

theorem execRecvTimeout_good (x0 x1) (h1 : Good r (x1)) :
    GoodOut r (execRecvTimeout x0 x1) := by
  unfold execRecvTimeout
  grind [State.modX_good, State.bufDone_good, State.drew_good, GoodOut.next]

theorem execRetxTimeout_good (x0 x1 x2) (h2 : Good r (x2)) :
    GoodOut r (execRetxTimeout x0 x1 x2) := by
  unfold execRetxTimeout
  refine GoodOut.next (Good.ite h2 ?_)
  split
  · exact h2
  · next m _ =>
    dsimp only
    split
    · exact h2
    · next c _ _ =>
      have h := State.timedOut_good x2 m c.port h2
      refine Good.ite h2 (Good.ite (State.finishMsg_good _ _ _ h) (settleSent_good _ ?_))
      split
      · exact State.roundAgain_good _ _ h
      · exact State.copyAgain_good _ _ _ _ _ h

theorem execRxAck_good (x0 x1 x2) (h2 : Good r (x2)) :
    GoodOut r (execRxAck x0 x1 x2) := by
  unfold execRxAck
  grind [State.rxGate_good, State.ackIn_good, State.answerIn_good, GoodOut.next]

theorem execRxAtomic_good (x0 x1 x2) (h2 : Good r (x2)) :
    GoodOut r (execRxAtomic x0 x1 x2) := by
  unfold execRxAtomic
  refine GoodOut.next (Good.ite h2 ?_)
  have h := State.rxGate_good x2 x0 x1 (x1.typ = 4) h2
  split
  · next e => rw [e] at h; exact h
  · next s e =>
    rw [e] at h
    have h4 := State.filterStep_good _ x0 x1 0xFF (State.noteSlow_good s x1 h)
    dsimp only
    refine Good.ite (State.dozing_good _ _ _ h) (Good.ite (State.dropPkt_good _ h) (Good.ite h4 (Good.ite (State.nak_good _ _ _ _ _ h4) ?_)))
    split
    · exact State.nak_good _ _ _ _ _ h4
    · next st g _ =>
      have h5 := State.chargeRx_good _ x0.port g.ward x1.payload.length h4
      refine Good.ite (State.nak_good _ _ _ _ _ h5) ?_
      have h6 := State.uAtomic_good _ (g.base + x1.offset) (BitVec.ofNat 64 (leNat (x1.payload.take 8))) (x1.payload.drop 8) h5
      exact Good.ite (State.ack_good _ _ _ _ _ _ h6) (State.nak_good _ _ _ _ _ h6)

theorem execRxCtrlAbort_good (x0 x1 x2) (h2 : Good r (x2)) :
    GoodOut r (execRxCtrlAbort x0 x1 x2) := by
  unfold execRxCtrlAbort
  grind [State.rxGate_good, State.ack_good, State.noteAbort_good, State.keepAbort_good, GoodOut.next]

theorem execRxNak_good (x0 x1 x2) (h2 : Good r (x2)) :
    GoodOut r (execRxNak x0 x1 x2) := by
  unfold execRxNak
  grind [State.rxGate_good, State.answerIn_good, State.putMsg_good, State.finishMsg_good, GoodOut.next, State.nakHold_good]

theorem execRxProbe_good (x0 x1 x2) (h2 : Good r (x2)) :
    GoodOut r (execRxProbe x0 x1 x2) := by
  unfold execRxProbe
  grind [State.rxGate_good, State.sendBack_good, GoodOut.next]

theorem execRxProbeEcho_good (x0 x1 x2) (h2 : Good r (x2)) :
    GoodOut r (execRxProbeEcho x0 x1 x2) := by
  unfold execRxProbeEcho
  grind [State.rxGate_good, State.raise_good, State.setF_good, GoodOut.next]

theorem execRxReadReq_good (x0 x1 x2) (h2 : Good r (x2)) :
    GoodOut r (execRxReadReq x0 x1 x2) := by
  unfold execRxReadReq
  grind [State.rxGate_good, State.dropPkt_good, State.nak_good, State.noteSlow_good, State.chargeRx_good, State.readOut_good, GoodOut.next,
    State.dozing_good]

theorem execRxReadResp_good (x0 x1 x2) (h2 : Good r (x2)) :
    GoodOut r (execRxReadResp x0 x1 x2) := by
  unfold execRxReadResp
  refine GoodOut.next (Good.ite h2 ?_)
  have h := State.rxGate_good x2 x0 x1 (x1.typ = 2) h2
  split
  · next e => rw [e] at h; exact h
  · next s e =>
    rw [e] at h
    split
    · exact h
    · next m _ =>
      refine Good.ite h ?_
      have h1 := State.clearMiss_good _ m 0 x1.xmit (State.noteSlow_good _ x1 (State.answerIn_good _ x0 m x1.payload.length h))
      have h3 := State.devWrite_good _ (m.loc + x1.pktIndex * m.psize) m.hint (x1.payload.take (m.len - x1.pktIndex * m.psize)) h1
      exact Good.ite (State.finishMsg_good _ _ _ h3) (State.putMsg_good _ _ h3)

theorem execRxSend_good (x0 x1 x2) (h2 : Good r (x2)) :
    GoodOut r (execRxSend x0 x1 x2) := by
  unfold execRxSend
  refine GoodOut.next (Good.ite h2 ?_)
  have h := State.rxGate_good x2 x0 x1 (x1.typ = 3) h2
  split
  · next e => rw [e] at h; exact h
  · next s e =>
    rw [e] at h
    have h3 := State.ctxLoad_good _ x1.dstQueue (State.noteSlow_good s x1 h)
    dsimp only
    generalize ((s.noteSlow x1).ctxLoad x1.dstQueue).1 = u at h3 ⊢
    generalize (u.ctx x1.dstQueue).ward = w
    have h4 : Good r (if x1.last then u.filterStep x0 x1 w else (u, false)).1 := by
      split
      · exact State.filterStep_good _ _ _ _ h3
      · exact h3
    generalize (if x1.last then u.filterStep x0 x1 w else (u, false)) = v at h4 ⊢
    have h6 := State.chargeRx_good _ x0.port w x1.payload.length h4
    refine Good.ite (State.dozing_good _ _ _ h) (Good.ite (State.dropPkt_good _ h) (Good.ite h4 (Good.ite (State.nak_good _ _ _ _ _ h6)
      (Good.ite (State.nak_good _ _ _ _ _ h6) (Good.ite (State.nak_good _ _ _ _ _ h6) ?_)))))
    have h5 := State.bindSend_good _ x1 h6
    split
    · next e => rw [e] at h5; exact State.nak_good _ _ _ _ _ h5
    · next a e =>
      rw [e] at h5
      replace h6 := h5
      split
      · exact State.nak_good _ _ _ _ _ h6
      · exact State.landSend_good _ _ _ _ h6

theorem execRxWrite_good (x0 x1 x2) (h2 : Good r (x2)) :
    GoodOut r (execRxWrite x0 x1 x2) := by
  unfold execRxWrite
  grind [State.rxGate_good, State.dropPkt_good, State.nak_good, State.noteSlow_good, State.filterStep_good, State.landWrite_good,
    GoodOut.next, State.dozing_good]

end Sys2Proof.Machine
end

