-- ==== Sys2Proof/Laws/XportCmds.lean ====
section
/-! SUPPORT. What each operation of Sys2Proof/Machine/XportCmds.lean keeps: a state that is good (Laws/Good.lean) stays good. -/

namespace Sys2Proof.Machine

open Sys2Proof Sys2Proof.Safety

variable {r s : State}

theorem State.ctxStatus_good (x0 x1) (h0 : Good r (x0)) :
    Good r (State.ctxStatus x0 x1) := by
  unfold State.ctxStatus
  grind [State.setF_good]

theorem State.showCtx_good (x0 x1) (h0 : Good r (x0)) :
    Good r (State.showCtx x0 x1) := by
  unfold State.showCtx
  grind [State.setReg_good, Good.foldl, Good.foldl_fst, Good.foldl_snd]

theorem ctlCtxCmdRead_good (x0 x1 x2) (h2 : Good r (x2)) :
    GoodOut r (ctlCtxCmdRead x0 x1 x2) := by
  unfold ctlCtxCmdRead
  grind [State.ctlDo_good, State.ctxLoad_good, State.ctxStatus_good, State.showCtx_good, GoodOut.next]

theorem State.ctxWrite_good (x0 x1) (h0 : Good r (x0)) :
    Good r (State.ctxWrite x0 x1) := by
  unfold State.ctxWrite
  grind [State.ctxLoad_good, State.ctxStatus_good, State.uWrite_good, State.ctxKeep_good]

theorem ctlCtxCmdWrite_good (x0 x1 x2) (h2 : Good r (x2)) :
    GoodOut r (ctlCtxCmdWrite x0 x1 x2) := by
  unfold ctlCtxCmdWrite
  grind [State.ctlEnd_good, State.lockedRefused_good, State.ctlDo_good, State.ctxWrite_good, GoodOut.next]

theorem State.regStatus_good (x0 x1 x2) (h0 : Good r (x0)) :
    Good r (State.regStatus x0 x1 x2) := by
  unfold State.regStatus
  grind [State.setF_good]

theorem State.regStop_good (x0 x1) (h0 : Good r (x0)) :
    Good r (State.regStop x0 x1) := by
  unfold State.regStop
  grind [State.regStatus_good, State.modX_good]

theorem ctlRegionDeregister_good (x0 x1 x2) (h2 : Good r (x2)) :
    GoodOut r (ctlRegionDeregister x0 x1 x2) := by
  unfold ctlRegionDeregister
  grind [State.ctlDo_good, State.regStop_good, GoodOut.next]

theorem State.regStart_good (x0 x1 x2 x3 x4) (h0 : Good r (x0)) :
    Good r (State.regStart x0 x1 x2 x3 x4) := by
  unfold State.regStart
  grind [State.regStatus_good, State.random_good, State.modX_good]

theorem ctlRegionRegister_good (x0 x1 x2 x3 x4 x5) (h5 : Good r (x5)) :
    GoodOut r (ctlRegionRegister x0 x1 x2 x3 x4 x5) := by
  unfold ctlRegionRegister
  grind [State.ctlEnd_good, State.lockedRefused_good, State.ctlDo_good, State.regStart_good, GoodOut.next]

theorem State.bell_good (x0 x1 x2) (h0 : Good r (x0)) :
    Good r (State.bell x0 x1 x2) := by
  unfold State.bell
  grind [State.ctxLoad_good, State.ctxPut_good, State.raise_good]

theorem State.bellCq_good (x0 x1 x2) (h0 : Good r (x0)) :
    Good r (State.bellCq x0 x1 x2) := by
  unfold State.bellCq
  grind [State.bell_good]

theorem ctlXportCqDoorbell_good (x0 x1 x2 x3) (h3 : Good r (x3)) :
    GoodOut r (ctlXportCqDoorbell x0 x1 x2 x3) := by
  unfold ctlXportCqDoorbell
  grind [State.ctlDo_good, State.bellCq_good, GoodOut.next]

theorem State.bellProd_good (x0 x1 x2) (h0 : Good r (x0)) :
    Good r (State.bellProd x0 x1 x2) := by
  unfold State.bellProd
  grind [State.bell_good]

theorem ctlXportDoorbell_good (x0 x1 x2 x3) (h3 : Good r (x3)) :
    GoodOut r (ctlXportDoorbell x0 x1 x2 x3) := by
  unfold ctlXportDoorbell
  grind [State.ctlDo_good, State.bellProd_good, GoodOut.next]

theorem State.cqAck_good (x0 x1) (h0 : Good r (x0)) :
    Good r (State.cqAck x0 x1) := by
  unfold State.cqAck
  grind [State.sendBack_good, State.modX_good]

theorem State.cqIrq_good (x0 x1) (h0 : Good r (x0)) :
    Good r (State.cqIrq x0 x1) := by
  unfold State.cqIrq
  grind [State.irq_good, Good.foldl, Good.foldl_fst, Good.foldl_snd]

theorem State.cqWrite_good (x0 x1 x2) (h0 : Good r (x0)) :
    Good r (State.cqWrite x0 x1 x2) := by
  unfold State.cqWrite
  grind [State.devWrite_good, State.ctxPut_good]

theorem State.descFail_good (x0 x1 x2 x3) (h0 : Good r (x0)) :
    Good r (State.descFail x0 x1 x2 x3) := by
  unfold State.descFail
  grind [State.queueDone_good]

theorem State.descNext_good (x0 x1) (h0 : Good r (x0)) :
    Good r (State.descNext x0 x1).1 := by
  unfold State.descNext
  grind [State.devRead_good]

theorem State.descTaken_good (x0 x1) (h0 : Good r (x0)) :
    Good r (State.descTaken x0 x1) := by
  unfold State.descTaken
  grind [State.ctxPut_good]

theorem State.descRun_good (x0 x1 x2 x3) (h0 : Good r (x0)) (h3 : ∀ y0 y1 y2, Good r (y0) → Good r (x3 y0 y1 y2)) :
    Good r (State.descRun x0 x1 x2 x3) := by
  unfold State.descRun
  grind [State.ctxLoad_good, State.descNext_good, State.descTaken_good]

theorem State.descDo_good (x0 x1 x2 x3) (h0 : Good r (x0)) (h3 : ∀ y0 y1, Good r (y0) → Good r (x3 y0 y1)) :
    Good r (State.descDo x0 x1 x2 x3) := by
  unfold State.descDo
  grind [State.descRun_good, State.descFail_good]

theorem State.queueChk_good (x0 x1 x2) (h0 : Good r (x0)) :
    Good r (State.queueChk x0 x1 x2).1 := by
  unfold State.queueChk
  grind [State.ctxLoad_good]

theorem execCqEntryWrite_good (x0 x1) (h1 : Good r (x1)) :
    GoodOut r (execCqEntryWrite x0 x1) := by
  unfold execCqEntryWrite
  grind [State.ctxLoad_good, State.modX_good, State.cqWrite_good, State.ctxSignal_good, State.cqIrq_good, State.cqAck_good, GoodOut.next,
    State.sig_good]

theorem execDescAtomic_good (x0 x1) (h1 : Good r (x1)) :
    GoodOut r (execDescAtomic x0 x1) := by
  unfold execDescAtomic
  grind [State.descDo_good, State.descFail_good, State.submit_good, GoodOut.next]

theorem execDescInvalid_good (x0 x1) (h1 : Good r (x1)) :
    GoodOut r (execDescInvalid x0 x1) := by
  unfold execDescInvalid
  grind [State.descRun_good, State.descFail_good, GoodOut.next]

theorem execDescRead_good (x0 x1) (h1 : Good r (x1)) :
    GoodOut r (execDescRead x0 x1) := by
  unfold execDescRead
  grind [State.descDo_good, State.submit_good, GoodOut.next]

theorem execDescRecv_good (x0 x1) (h1 : Good r (x1)) :
    GoodOut r (execDescRecv x0 x1) := by
  unfold execDescRecv
  grind [State.descDo_good, State.modX_good, GoodOut.next]

theorem execDescSend_good (x0 x1) (h1 : Good r (x1)) :
    GoodOut r (execDescSend x0 x1) := by
  unfold execDescSend
  grind [State.descDo_good, State.submit_good, GoodOut.next]

theorem execDescWrite_good (x0 x1) (h1 : Good r (x1)) :
    GoodOut r (execDescWrite x0 x1) := by
  unfold execDescWrite
  grind [State.descDo_good, State.submit_good, GoodOut.next]

theorem execRecv_good (x0 x1) (h1 : Good r (x1)) :
    GoodOut r (execRecv x0 x1) := by
  unfold execRecv
  grind [State.queueChk_good, State.csWrite_good, State.drew_good, State.setPhase_good, State.modX_good, GoodOut.next]

theorem execRegCmdDone_good (x0) (h0 : Good r (x0)) :
    GoodOut r (execRegCmdDone x0) := by
  unfold execRegCmdDone
  grind [State.regStatus_good, State.modX_good, State.setF_good, GoodOut.next]

theorem execSendQueue_good (x0 x1 x2) (h2 : Good r (x2)) :
    GoodOut r (execSendQueue x0 x1 x2) := by
  unfold execSendQueue
  grind [State.queueChk_good, State.setPhase_good, State.submit_good, State.csScan_good, State.readSide_good, ReadRes.s_good,
    GoodOut.next]

end Sys2Proof.Machine
end

