-- ==== Sys2Proof/Laws/Coll.lean ====
section
/-! SUPPORT. What each operation of Sys2Proof/Machine/Coll.lean keeps: a state that is good (Laws/Good.lean) stays good. -/

namespace Sys2Proof.Machine

open Sys2Proof Sys2Proof.Safety

variable {r s : State}

theorem State.fillUp_good (x0 x1 x2) (h0 : Good r (x0)) :
    Good r (State.fillUp x0 x1 x2).1 := by
  unfold State.fillUp
  grind [State.drew_good]

theorem State.readUnits_good (x0 x1 x2) (h0 : Good r (x0)) :
    Good r (State.readUnits x0 x1 x2).1 := by
  unfold State.readUnits
  grind [State.devRead_good, Good.foldl, Good.foldl_fst, Good.foldl_snd]

theorem State.cqStep_good (x0 x1 x2 x3 x4) (h0 : Good r (x0)) :
    Good r (State.cqStep x0 x1 x2 x3 x4).1 := by
  unfold State.cqStep
  grind [State.readUnits_good, State.devWrite_good, State.fillUp_good]

theorem State.setTally_good (x0 x1 x2 x3) (h0 : Good r (x0)) :
    Good r (State.setTally x0 x1 x2 x3) := by
  unfold State.setTally
  grind [State.setIssued_good]

theorem State.caddRow_good (x0 x1 x2) (h0 : Good r (x0)) :
    Good r (State.caddRow x0 x1 x2).1 := by
  unfold State.caddRow
  grind [State.readUnits_good, State.devRead_good]

theorem State.dropRecv_good (x0 x1 x2 x3) (h0 : Good r (x0)) :
    Good r (State.dropRecv x0 x1 x2 x3) := by
  unfold State.dropRecv
  grind [State.modX_good, State.csWrite_good, State.drew_good]

theorem ctlCollAbortWrite_good (x0 x1 x2) (h2 : Good r (x2)) :
    GoodOut r (ctlCollAbortWrite x0 x1 x2) := by
  unfold ctlCollAbortWrite
  grind [State.ctlDo_good, State.abortColl_good, GoodOut.next]

theorem State.caddRows_good (x0 x1) (h0 : Good r (x0)) :
    Good r (State.caddRows x0 x1).1 := by
  unfold State.caddRows
  grind [State.devRead_good, State.uAtomic_good, State.devWrite_good, Good.foldl, Good.foldl_fst, Good.foldl_snd, State.caddRow_good]

theorem State.collStatus_good (x0 x1 x2 x3) (h0 : Good r (x0)) :
    Good r (State.collStatus x0 x1 x2 x3) := by
  unfold State.collStatus
  grind [State.setF_good]

theorem State.cqRows_good (x0 x1 x2) (h0 : Good r (x0)) :
    Good r (State.cqRows x0 x1 x2).1 := by
  unfold State.cqRows
  grind [State.readUnits_good, State.countAll_good, State.devWrite_good, Good.foldl, Good.foldl_fst, Good.foldl_snd, State.cqStep_good,
    State.fillUp_good]

theorem State.runStep_good (x0 x1 x2 x3) (h0 : Good r (x0)) (h3 : ∀ y0, Good r (x3 y0)) :
    Good r (State.runStep x0 x1 x2 x3) := by
  unfold State.runStep
  grind []

theorem State.abortHead_good (x0 x1 x2) (h0 : Good r (x0)) :
    Good r (State.abortHead x0 x1 x2) := by
  unfold State.abortHead
  grind [State.modCore_good, State.coreEvent_good]

theorem State.abortCmd_good (x0 x1 x2 x3) (h0 : Good r (x0)) :
    Good r (State.abortCmd x0 x1 x2 x3) := by
  unfold State.abortCmd
  grind [State.dropRecv_good, State.tallyUp_good, State.complete_good]

theorem execAbortWindowExpiry_good (x0 x1) (h1 : Good r (x1)) :
    GoodOut r (execAbortWindowExpiry x0 x1) := by
  unfold execAbortWindowExpiry
  refine GoodOut.next (Good.ite h1 ?_)
  dsimp only
  split
  · next st _ _ =>
    exact State.setF_good _ _ _ _ (State.collStatus_good _ _ _ _ (State.setColl_good _ _ _ (State.abortHead_good _ _ _
      (Good.foldl h1 fun s e h => State.abortCmd_good _ _ st e h))))
  · exact h1

theorem execCadd_good (x0 x1) (h1 : Good r (x1)) :
    GoodOut r (execCadd x0 x1) := by
  unfold execCadd
  grind [State.runStep_good, State.setPhase_good, State.caddRows_good, GoodOut.next, State.setTally_good, State.cmdDone_good]

theorem execCbegin_good (x0 x1) (h1 : Good r (x1)) :
    GoodOut r (execCbegin x0 x1) := by
  unfold execCbegin
  grind [State.runStep_good, State.setPhase_good, State.collStatus_good, State.setColl_good, State.slowDeadline_good,
    State.abortColl_good, GoodOut.next]

theorem execCend_good (x0 x1) (h1 : Good r (x1)) :
    GoodOut r (execCend x0 x1) := by
  unfold execCend
  grind [State.runStep_good, State.setPhase_good, State.collStatus_good, State.setColl_good, GoodOut.next]

theorem execCollDeadline_good (x0 x1) (h1 : Good r (x1)) :
    GoodOut r (execCollDeadline x0 x1) := by
  unfold execCollDeadline
  grind [State.abortColl_good, GoodOut.next]

theorem execCqsend_good (x0 x1) (h1 : Good r (x1)) :
    GoodOut r (execCqsend x0 x1) := by
  unfold execCqsend
  grind [State.runStep_good, State.queueChk_good, State.setPhase_good, State.cqRows_good, State.submit_good, GoodOut.next,
    State.setTally_good, State.cmdDone_good]

end Sys2Proof.Machine
end

