-- ==== Sys2Proof/Laws/Reset.lean ====
section
/-! SUPPORT. What each operation of Sys2Proof/Machine/Reset.lean keeps: a state that is good (Laws/Good.lean) stays good. -/

namespace Sys2Proof.Machine

open Sys2Proof Sys2Proof.Safety

variable {r s : State}

theorem State.endAll_good (x0 x1 x2) (h0 : Good r (x0)) :
    Good r (State.endAll x0 x1 x2) := by
  unfold State.endAll
  grind [State.complete_good, State.dropRecv_good, Good.foldl, Good.foldl_fst, Good.foldl_snd]

theorem State.endAccesses_good (x0 x1 x2) (h0 : Good r (x0)) :
    Good r (State.endAccesses x0 x1 x2) := by
  unfold State.endAccesses
  grind [State.answer_good, Good.set_mem_waiting]

theorem State.stopCore_good (x0 x1) (h0 : Good r (x0)) :
    Good r (State.stopCore x0 x1) := by
  unfold State.stopCore
  grind [State.forget_good, State.endAll_good, State.haltCore_good, State.modCore_good, State.endAccesses_good, State.settle_good]

theorem State.warmRestart_good (x0) (h0 : Good r (x0)) :
    Good r (State.warmRestart x0) := by
  refine State.setF_good _ _ _ _ (State.setF_good _ _ _ _ ⟨⟨⟨rfl, rfl, h0.1.1.3, rfl, rfl⟩, h0.1.2, ?_⟩, h0.2, h0.3, h0.4⟩)
  exact mwfBy_filter _ h0.1.3

theorem State.countCells_good (x0) (h0 : Good r (x0)) :
    Good r (State.countCells x0) := by
  unfold State.countCells
  grind [State.setF_good, Good.foldl, Good.foldl_fst, Good.foldl_snd]

theorem State.coldStart_good (x0) (h0 : Good r (x0)) :
    Good r (State.coldStart x0) := ⟨⟨⟨rfl, rfl, h0.1.1.3, rfl, rfl⟩, h0.1.2, rfl⟩, h0.2, h0.3,
    ⟨h0.4.1, h0.4.2, h0.4.3, h0.4.4, Nat.le_succ_of_le h0.4.5⟩⟩

theorem State.loseCell_good (x0 x1) (h0 : Good r (x0)) :
    Good r (State.loseCell x0 x1) := by
  unfold State.loseCell
  grind [State.stopCore_good, State.countCells_good, State.setF_good, State.raise_good]

theorem State.failCell_good (x0 x1 x2 x3) (h0 : Good r (x0)) :
    Good r (State.failCell x0 x1 x2 x3) := by
  unfold State.failCell
  grind [State.markFaulty_good, State.loseCell_good]

theorem execCellCheckFail_good (x0 x1 x2 x3) (h3 : Good r (x3)) :
    GoodOut r (execCellCheckFail x0 x1 x2 x3) := by
  unfold execCellCheckFail
  grind [State.failCell_good, GoodOut.next]

theorem execHingeSublinkDown_good (x0 x1) (h1 : Good r (x1)) :
    GoodOut r (execHingeSublinkDown x0 x1) := by
  unfold execHingeSublinkDown
  grind [State.setF_good, State.raise_good, Good.set_clk, GoodOut.next]

theorem execParityRateLimit_good (x0 x1 x2 x3) (h3 : Good r (x3)) :
    GoodOut r (execParityRateLimit x0 x1 x2 x3) := by
  unfold execParityRateLimit
  grind [State.failCell_good, GoodOut.next]

theorem execRefLockLost_good (x0) (h0 : Good r (x0)) :
    GoodOut r (execRefLockLost x0) := by
  unfold execRefLockLost
  grind [Good.set_clk, GoodOut.next]

theorem execRefLockRegained_good (x0) (h0 : Good r (x0)) :
    GoodOut r (execRefLockRegained x0) := by
  unfold execRefLockRegained
  grind [State.warmRestart_good, Good.set_clk, GoodOut.next]

end Sys2Proof.Machine
end

