-- ==== Sys2Proof/Laws/SecOps.lean ====
section
/-! SUPPORT. What each operation of Sys2Proof/Machine/SecOps.lean keeps: a state that is good (Laws/Good.lean) stays good. -/

namespace Sys2Proof.Machine

open Sys2Proof Sys2Proof.Safety

variable {r s : State}

theorem State.setWardState_good (x0 x1 x2) (h0 : Good r (x0)) :
    Good r (State.setWardState x0 x1 x2) := by
  unfold State.setWardState
  grind [State.setF_good]

theorem State.endQueue_good (x0 x1) (h0 : Good r (x0)) :
    Good r (State.endQueue x0 x1) := by
  unfold State.endQueue
  grind [State.finishMsg_good, State.modX_good, State.deliverDone_good, State.queueDone_good, Good.foldl, Good.foldl_fst, Good.foldl_snd]

theorem State.killQueue_good (x0 x1) (h0 : Good r (x0)) :
    Good r (State.killQueue x0 x1) := by
  unfold State.killQueue
  grind [State.ctxLoad_good, State.ctxPut_good, State.finishMsg_good, State.modX_good, State.deliverDone_good, State.queueDone_good,
    Good.foldl, Good.foldl_fst, Good.foldl_snd, State.endQueue_good]

theorem State.killQueues_good (x0 x1) (h0 : Good r (x0)) :
    Good r (State.killQueues x0 x1) := by
  unfold State.killQueues
  grind [State.ctxLoad_good, State.killQueue_good, Good.foldl, Good.foldl_fst, Good.foldl_snd]

theorem State.modSec_good (x0 x1) (h0 : Good r (x0)) :
    Good r (State.modSec x0 x1) := by
  unfold State.modSec
  grind [Good.set_sec]

theorem State.setUctx_good (x0 x1 x2) (h0 : Good r (x0)) :
    Good r (State.setUctx x0 x1 x2) := by
  unfold State.setUctx
  grind [State.modSec_good]

theorem State.markAbort_good (x0 x1) (h0 : Good r (x0)) :
    Good r (State.markAbort x0 x1) := by
  unfold State.markAbort
  grind [State.setUctx_good]

theorem State.stopWard_good (x0 x1) (h0 : Good r (x0)) :
    Good r (State.stopWard x0 x1) := by
  unfold State.stopWard
  grind [State.stopCore_good, State.markAbort_good, State.killQueues_good, Good.foldl, Good.foldl_fst, Good.foldl_snd]

theorem State.wardEvent_good (x0 x1 x2 x3) (h0 : Good r (x0)) :
    Good r (State.wardEvent x0 x1 x2 x3) := by
  unfold State.wardEvent
  grind [State.raise_good]

theorem State.faultWard_good (x0 x1) (h0 : Good r (x0)) :
    Good r (State.faultWard x0 x1) := by
  unfold State.faultWard
  grind [State.wardEvent_good, State.setWardState_good, State.stopWard_good]

theorem State.endJob_good (x0 x1 x2 x3 x4) (h0 : Good r (x0)) :
    Good r (State.endJob x0 x1 x2 x3 x4) := by
  unfold State.endJob
  grind [State.devWrite_good, State.setF_good, State.setUctx_good, State.wardSignal_good]

theorem State.abortJob_good (x0 x1) (h0 : Good r (x0)) :
    Good r (State.abortJob x0 x1) := by
  unfold State.abortJob
  grind [State.endJob_good]

theorem State.countSlices_good (x0) (h0 : Good r (x0)) :
    Good r (State.countSlices x0) := by
  unfold State.countSlices
  grind [State.setF_good, Good.foldl, Good.foldl_fst, Good.foldl_snd]

theorem State.setWard_good (x0 x1 x2) (h0 : Good r (x0)) :
    Good r (State.setWard x0 x1 x2) := by
  unfold State.setWard
  grind [State.modSec_good]

theorem State.faultWards_good (x0) (h0 : Good r (x0)) :
    Good r (State.faultWards x0) := by
  unfold State.faultWards
  grind [State.faultWard_good, Good.foldl, Good.foldl_fst, Good.foldl_snd]

theorem State.dropKeys_good (x0 x1) (h0 : Good r (x0)) :
    Good r (State.dropKeys x0 x1) := by
  unfold State.dropKeys
  grind [State.modSec_good, State.modX_good, State.setUctx_good, State.setWard_good, State.setReg_good, Good.foldl, Good.foldl_fst,
    Good.foldl_snd]

theorem State.dropRegions_good (x0 x1) (h0 : Good r (x0)) :
    Good r (State.dropRegions x0 x1) := by
  unfold State.dropRegions
  grind [State.modX_good, Good.set_mem_regions, Good.set_mem_dcache]

theorem State.giveSlices_good (x0 x1 x2) (h0 : Good r (x0)) :
    Good r (State.giveSlices x0 x1 x2) := by
  unfold State.giveSlices
  grind [State.countSlices_good, State.setSliceOwner_good, State.endClearings_good, State.readmit_good, Good.foldl, Good.foldl_fst, Good.foldl_snd]

theorem State.releaseWard_good (x0 x1) (h0 : Good r (x0)) :
    Good r (State.releaseWard x0 x1) := by
  unfold State.releaseWard
  grind [State.stopWard_good, State.setWardState_good, State.abortJob_good, State.dropKeys_good, State.zeroCore_good,
    State.giveSlices_good, State.dropRegions_good, State.setWard_good, Good.foldl, Good.foldl_fst, Good.foldl_snd]

theorem State.zeroTotals_good (x0 x1) (h0 : Good r (x0)) :
    Good r (State.zeroTotals x0 x1) := by
  unfold State.zeroTotals
  grind [State.setReg_good, Good.foldl, Good.foldl_fst, Good.foldl_snd]

theorem State.freeWard_good (x0 x1) (h0 : Good r (x0)) :
    Good r (State.freeWard x0 x1) := by
  unfold State.freeWard
  dsimp only
  repeat first
    | with_reducible apply State.wardEvent_good
    | with_reducible apply State.countCells_good
    | with_reducible apply State.setWardState_good
    | with_reducible apply State.setWard_good
    | with_reducible apply State.setReg_good
    | with_reducible apply State.zeroTotals_good
    | exact Good.foldl h0 fun s k h => State.resetCell_good _ _ h

end Sys2Proof.Machine
end

