-- ==== Sys2Proof/Laws/Spdm.lean ====
section
/-! SUPPORT. What each operation of Sys2Proof/Machine/Spdm.lean keeps: a state that is good (Laws/Good.lean) stays good. -/

namespace Sys2Proof.Machine

open Sys2Proof Sys2Proof.Safety

variable {r s : State}

theorem State.dropSession_good (x0 x1) (h0 : Good r (x0)) :
    Good r (State.dropSession x0 x1) := by
  unfold State.dropSession
  grind [State.modSec_good]

theorem State.spdmError_good (x0 x1) (h0 : Good r (x0)) :
    Good r (State.spdmError x0 x1) := by
  unfold State.spdmError
  grind [State.answer_good]

theorem State.spdmDo_good (x0 x1) (h0 : Good r (x0)) (h1 : ∀ y0, Good r (y0) → Good r (x1 y0)) :
    Good r (State.spdmDo x0 x1) := by
  unfold State.spdmDo
  grind [State.spdmError_good]

theorem State.spdmAfter_good (x0 x1) (h0 : Good r (x0)) (h1 : ∀ y0, Good r (y0) → Good r (x1 y0)) :
    Good r (State.spdmAfter x0 x1) := by
  unfold State.spdmAfter
  grind [State.spdmDo_good, State.spdmError_good]

theorem State.inSession_good (x0 x1 x2) (h0 : Good r (x0)) (h2 : ∀ y0 y1, Good r (y0) → Good r (x2 y0 y1)) :
    Good r (State.inSession x0 x1 x2) := by
  unfold State.inSession
  grind [State.spdmAfter_good, State.spdmError_good]

theorem State.jtagSelect_good (x0 x1 x2) (h0 : Good r (x0)) :
    Good r (State.jtagSelect x0 x1 x2) := by
  unfold State.jtagSelect
  grind [Good.set_jtag]

theorem State.putSession_good (x0 x1) (h0 : Good r (x0)) :
    Good r (State.putSession x0 x1) := by
  unfold State.putSession
  grind [State.modSec_good]

theorem State.spdm_good (x0 x1 x2) (h0 : Good r (x0)) :
    Good r (State.spdm x0 x1 x2) := by
  unfold State.spdm
  grind [State.answer_good]

theorem State.spdmIdentity_good (x0 x1 x2) (h0 : Good r (x0)) (h2 : ∀ y0, Good r (y0) → Good r (x2 y0)) :
    Good r (State.spdmIdentity x0 x1 x2) := by
  unfold State.spdmIdentity
  grind [State.spdmAfter_good, State.spdmError_good]

theorem State.spdmSigned_good (x0 x1 x2) (h0 : Good r (x0)) :
    Good r (State.spdmSigned x0 x1 x2) := by
  unfold State.spdmSigned
  grind [State.spdm_good, State.drawn_good]

theorem execJtagBypass_good (x0) (h0 : Good r (x0)) :
    GoodOut r (execJtagBypass x0) := by
  unfold execJtagBypass
  grind [State.jtagSelect_good, GoodOut.next]

theorem execJtagClamp_good (x0) (h0 : Good r (x0)) :
    GoodOut r (execJtagClamp x0) := by
  unfold execJtagClamp
  grind [State.jtagSelect_good, GoodOut.next]

theorem execJtagExtest_good (x0) (h0 : Good r (x0)) :
    GoodOut r (execJtagExtest x0) := by
  unfold execJtagExtest
  grind [State.jtagSelect_good, GoodOut.next]

theorem execJtagHighz_good (x0) (h0 : Good r (x0)) :
    GoodOut r (execJtagHighz x0) := by
  unfold execJtagHighz
  grind [State.jtagSelect_good, GoodOut.next]

theorem execJtagIdcode_good (x0) (h0 : Good r (x0)) :
    GoodOut r (execJtagIdcode x0) := by
  unfold execJtagIdcode
  grind [State.answer_good, State.jtagSelect_good, GoodOut.next]

theorem execJtagSamplePreload_good (x0 x1) (h1 : Good r (x1)) :
    GoodOut r (execJtagSamplePreload x0 x1) := by
  unfold execJtagSamplePreload
  grind [State.jtagSelect_good, State.answer_good, State.drew_good, Good.set_jtag, GoodOut.next]

theorem execJtagUnlock_good (x0 x1) (h1 : Good r (x1)) :
    GoodOut r (execJtagUnlock x0 x1) := by
  unfold execJtagUnlock
  grind [State.jtagSelect_good, State.answer_good, State.setF_good, Good.set_rnd, GoodOut.next, State.drawn_good, State.faultWards_good]

theorem execSpdmChallenge_good (x0 x1 x2) (h2 : Good r (x2)) :
    GoodOut r (execSpdmChallenge x0 x1 x2) := by
  unfold execSpdmChallenge
  grind [State.spdmIdentity_good, State.spdmSigned_good, GoodOut.next, State.drawn_good]

theorem execSpdmEndSession_good (x0 x1) (h1 : Good r (x1)) :
    GoodOut r (execSpdmEndSession x0 x1) := by
  unfold execSpdmEndSession
  grind [State.inSession_good, State.spdm_good, State.dropSession_good, GoodOut.next]

theorem execSpdmFinish_good (x0 x1 x2) (h2 : Good r (x2)) :
    GoodOut r (execSpdmFinish x0 x1 x2) := by
  unfold execSpdmFinish
  grind [State.inSession_good, State.spdm_good, State.putSession_good, State.spdmError_good, State.dropSession_good, GoodOut.next]

theorem execSpdmGetCapabilities_good (x0 x1) (h1 : Good r (x1)) :
    GoodOut r (execSpdmGetCapabilities x0 x1) := by
  unfold execSpdmGetCapabilities
  grind [State.spdmDo_good, State.spdm_good, GoodOut.next]

theorem execSpdmGetCertificate_good (x0 x1 x2 x3) (h3 : Good r (x3)) :
    GoodOut r (execSpdmGetCertificate x0 x1 x2 x3) := by
  unfold execSpdmGetCertificate
  grind [State.spdmIdentity_good, State.spdm_good, GoodOut.next]

theorem execSpdmGetDigests_good (x0) (h0 : Good r (x0)) :
    GoodOut r (execSpdmGetDigests x0) := by
  unfold execSpdmGetDigests
  grind [State.spdmAfter_good, State.spdm_good, GoodOut.next]

theorem execSpdmGetMeasurements_good (x0 x1 x2 x3 x4) (h4 : Good r (x4)) :
    GoodOut r (execSpdmGetMeasurements x0 x1 x2 x3 x4) := by
  unfold execSpdmGetMeasurements
  grind [State.spdmAfter_good, State.spdmError_good, State.spdmSigned_good, State.spdm_good, GoodOut.next, State.drawn_good]

theorem execSpdmGetVersion_good (x0) (h0 : Good r (x0)) :
    GoodOut r (execSpdmGetVersion x0) := by
  unfold execSpdmGetVersion
  grind [State.spdmDo_good, State.spdm_good, State.modSec_good, GoodOut.next]

theorem execSpdmHeartbeat_good (x0 x1) (h1 : Good r (x1)) :
    GoodOut r (execSpdmHeartbeat x0 x1) := by
  unfold execSpdmHeartbeat
  grind [State.inSession_good, State.spdm_good, State.spdmError_good, GoodOut.next]

theorem execSpdmKeyExchange_good (x0 x1 x2 x3) (h3 : Good r (x3)) :
    GoodOut r (execSpdmKeyExchange x0 x1 x2 x3) := by
  unfold execSpdmKeyExchange
  grind [State.spdmIdentity_good, State.spdmError_good, State.modSec_good, State.spdmSigned_good, GoodOut.next, State.answer_good,
    State.drawn_good]

theorem execSpdmKeyUpdate_good (x0 x1 x2) (h2 : Good r (x2)) :
    GoodOut r (execSpdmKeyUpdate x0 x1 x2) := by
  unfold execSpdmKeyUpdate
  grind [State.inSession_good, State.spdmError_good, State.spdm_good, State.putSession_good, GoodOut.next]

theorem execSpdmNegotiateAlgorithms_good (x0 x1) (h1 : Good r (x1)) :
    GoodOut r (execSpdmNegotiateAlgorithms x0 x1) := by
  unfold execSpdmNegotiateAlgorithms
  grind [State.spdmDo_good, State.spdm_good, State.modSec_good, GoodOut.next]

end Sys2Proof.Machine
end

