-- ==== Sys2Proof/Laws/Sec.lean ====
section
/-! SUPPORT. What each operation of Sys2Proof/Machine/Sec.lean keeps: a state that is good (Laws/Good.lean) stays good. -/

namespace Sys2Proof.Machine

open Sys2Proof Sys2Proof.Safety

variable {r s : State}

theorem State.chunkOut_good (x0 x1 x2 x3) (h0 : Good r (x0)) :
    Good r (State.chunkOut x0 x1 x2 x3) := by
  unfold State.chunkOut
  repeat' first
    | with_reducible assumption
    | with_reducible apply State.uWrite_good
    | with_reducible apply State.drew_good
    | split

theorem State.moveChunk_good (x0 x1 x2) (h0 : Good r (x0)) :
    Good r (State.moveChunk x0 x1 x2) := by
  unfold State.moveChunk
  generalize x2.segment = g
  obtain ⟨i, off, n⟩ := g
  have h := State.chunkOut_good x0 x2 off (min 4096 (off + n - x2.moved)) h0
  generalize e : x0.chunkOut x2 off (min 4096 (off + n - x2.moved)) = u at h
  dsimp only
  rw [e]
  split
  · exact State.setUctx_good _ _ _ h
  · split
    · exact State.endJob_good _ _ _ _ _ (State.wardEvent_good _ _ _ _ (State.uWrite_good _ _ _ _ h))
    · split
      · exact State.endJob_good _ _ _ _ _ h
      · exact State.setUctx_good _ _ _ h

theorem State.nextJob_good (x0 x1 x2) (h0 : Good r (x0)) :
    Good r (State.nextJob x0 x1 x2) := by
  induction x2 generalizing x0 with
  | zero => exact h0
  | succ n ih =>
    unfold State.nextJob
    have h := State.devRead_good x0 (x0.udescAddr x1 (x0.uctx x1).cons) 64 0 false h0
    generalize e : x0.devRead (x0.udescAddr x1 (x0.uctx x1).cons) 64 0 false = u at h
    dsimp only
    rw [e]
    split
    · exact h0
    · generalize worst _ _ = st
      split
      · exact State.setF_good _ _ _ _ (State.setUctx_good _ _ _ h)
      · exact ih _ (State.endJob_good _ _ _ _ _ h)

theorem State.openSeg_good (x0 x1) (h0 : Good r (x0)) :
    Good r (State.openSeg x0 x1).1 := by
  unfold State.openSeg
  generalize x1.segment = g
  obtain ⟨i, off, n⟩ := g
  exact State.devRead_good _ _ _ _ _ (State.devRead_good _ _ _ _ _ h0)

theorem State.openWard_good (x0 x1 x2 x3 x4 x5 x6) (h0 : Good r (x0)) :
    Good r (State.openWard x0 x1 x2 x3 x4 x5 x6) := by
  unfold State.openWard
  have h := State.drawn_good _ 4 (State.setReg_good (State.setReg_good h0 (R.SEC_WARD_RES x1)
    (BitVec.ofNat 64 (x2 % 256 + x5 % 256 * 2 ^ 8 + x6 % 512 * 2 ^ 16))) (R.SEC_WARD_ENG x1) (BitVec.ofNat 64 (x3 % 2 ^ 32 + x4 % 256 * 2 ^ 32)))
  exact State.answer_good _ _ _ _ (State.wardEvent_good _ _ _ _ (State.countCells_good _ (State.setWardState_good _ _ _
    (State.setReg_good (State.setWard_good _ _ _ (State.modSec_good _ _ h)) _ _))))

theorem State.request_good (x0 x1) (h0 : Good r (x0)) (h1 : ∀ y0, Good r (y0) → Good r (x1 y0)) :
    Good r (State.request x0 x1) := by
  unfold State.request
  grind [State.spdmDo_good]

theorem State.slicesRefused_good (x0 x1 x2) (h0 : Good r (x0)) :
    Good r (State.slicesRefused x0 x1 x2) := by
  unfold State.slicesRefused
  grind [State.lockedRefused_good, Good.foldl, Good.foldl_fst, Good.foldl_snd]

theorem State.storeSeq_good (x0 x1 x2) (h0 : Good r (x0)) :
    Good r (State.storeSeq x0 x1 x2) := by
  unfold State.storeSeq
  grind [State.setReg_good]

theorem State.unless_good (x0 x1 x2) (h0 : Good r (x0)) (h2 : ∀ y0, Good r (y0) → Good r (x2 y0)) :
    Good r (State.unless x0 x1 x2) := by
  unfold State.unless
  grind [State.answer_good]

theorem execGateFailTimeout_good (x0 x1 x2) (h2 : Good r (x2)) :
    GoodOut r (execGateFailTimeout x0 x1 x2) := by
  unfold execGateFailTimeout
  grind [State.failCell_good, State.wardEvent_good, Good.foldl, Good.foldl_fst, Good.foldl_snd, GoodOut.next]

theorem execInstallKey_good (x0 x1 x2) (h2 : Good r (x2)) :
    GoodOut r (execInstallKey x0 x1 x2) := by
  unfold execInstallKey
  grind [State.request_good, State.unless_good, State.answer_good, State.wardEvent_good, State.modSec_good, State.setReg_good,
    GoodOut.next]

theorem execLinkKey_good (x0 x1 x2 x3 x4 x5 x6) (h6 : Good r (x6)) :
    GoodOut r (execLinkKey x0 x1 x2 x3 x4 x5 x6) := by
  unfold execLinkKey
  grind [State.request_good, State.unless_good, State.storeSeq_good, State.modSec_good, State.answer_good, State.modX_good,
    State.setReg_good, GoodOut.next]

theorem execRngHealthFail_good (x0) (h0 : Good r (x0)) :
    GoodOut r (execRngHealthFail x0) := by
  unfold execRngHealthFail
  grind [State.raise_good, State.setF_good, GoodOut.next, State.modSec_good]

theorem execRngHealthPass_good (x0) (h0 : Good r (x0)) :
    GoodOut r (execRngHealthPass x0) := by
  unfold execRngHealthPass
  grind [State.setF_good, GoodOut.next, State.modSec_good]

theorem execSetPolicy_good (x0 x1 x2) (h2 : Good r (x2)) :
    GoodOut r (execSetPolicy x0 x1 x2) := by
  unfold execSetPolicy
  grind [State.request_good, State.unless_good, State.setWardState_good, State.setWard_good, State.markAbort_good, State.setF_good,
    State.answer_good, State.wardEvent_good, Good.foldl, Good.foldl_fst, Good.foldl_snd, GoodOut.next]

theorem execSliceAssign_good (x0 x1 x2 x3 x4) (h4 : Good r (x4)) :
    GoodOut r (execSliceAssign x0 x1 x2 x3 x4) := by
  unfold execSliceAssign
  grind [State.request_good, State.answer_good, State.slicesRefused_good, State.unless_good, State.giveSlices_good, GoodOut.next]

theorem execUnsealChunk_good (x0) (h0 : Good r (x0)) :
    GoodOut r (execUnsealChunk x0) := by
  unfold execUnsealChunk
  refine GoodOut.next (Good.ite h0 ?_)
  split
  · exact h0
  · next c _ =>
    have h := State.modSec_good x0 (fun x => { x with turn := (c + 1) % 64 }) h0
    dsimp only
    split
    · exact h
    · next j _ =>
      have h' := State.openSeg_good _ j h
      have key : Good r (if j.moved % segBytes ≠ 0 then (x0.modSec (fun x => { x with turn := (c + 1) % 64 })).moveChunk c j else
          if ((x0.modSec (fun x => { x with turn := (c + 1) % 64 })).openSeg j).2.2 ≠ St.ok then
            ((x0.modSec (fun x => { x with turn := (c + 1) % 64 })).openSeg j).1.endJob c j
              ((x0.modSec (fun x => { x with turn := (c + 1) % 64 })).openSeg j).2.2 j.segs
          else ((x0.modSec (fun x => { x with turn := (c + 1) % 64 })).openSeg j).1.moveChunk c
              { j with plain := ((x0.modSec (fun x => { x with turn := (c + 1) % 64 })).openSeg j).2.1 }) :=
        Good.ite (State.moveChunk_good _ _ _ h) (Good.ite (State.endJob_good _ _ _ _ _ h') (State.moveChunk_good _ _ _ h'))
      exact Good.ite (State.endJob_good _ _ _ _ _ h) (Good.ite (State.nextJob_good _ _ _ key) key)

theorem execUnsealPoll_good (x0) (h0 : Good r (x0)) :
    GoodOut r (execUnsealPoll x0) := by
  unfold execUnsealPoll
  grind [State.devRead_good, State.setUctx_good, State.nextJob_good, Good.foldl, Good.foldl_fst, Good.foldl_snd, GoodOut.next]

theorem execUnsealRing_good (x0 x1 x2 x3 x4 x5 x6 x7 x8 x9) (h9 : Good r (x9)) :
    GoodOut r (execUnsealRing x0 x1 x2 x3 x4 x5 x6 x7 x8 x9) := by
  unfold execUnsealRing
  refine GoodOut.next (State.request_good _ _ h9 fun s h => State.unless_good _ _ _ h fun s h => ?_)
  exact State.answer_good _ _ _ _ (State.setUctx_good _ _ _ (State.setReg_good (State.setReg_good
    (State.abortJob_good _ _ (State.storeSeq_good _ _ _ h)) _ _) _ _))

theorem execWardGateVerified_good (x0 x1) (h1 : Good r (x1)) :
    GoodOut r (execWardGateVerified x0 x1) := by
  unfold execWardGateVerified
  grind [State.freeWard_good, GoodOut.next]

theorem execWardOpen_good (x0 x1 x2 x3 x4 x5 x6) (h6 : Good r (x6)) :
    GoodOut r (execWardOpen x0 x1 x2 x3 x4 x5 x6) := by
  unfold execWardOpen
  grind [State.request_good, State.unless_good, State.openWard_good, GoodOut.next]

theorem execWardRelease_good (x0 x1) (h1 : Good r (x1)) :
    GoodOut r (execWardRelease x0 x1) := by
  unfold execWardRelease
  grind [State.request_good, State.unless_good, State.answer_good, State.releaseWard_good, GoodOut.next]

theorem execWardRequestUnknown_good (x0 x1 x2 x3) (h3 : Good r (x3)) :
    GoodOut r (execWardRequestUnknown x0 x1 x2 x3) := by
  unfold execWardRequestUnknown
  grind [State.request_good, State.answer_good, GoodOut.next]

end Sys2Proof.Machine
end

