-- ==== Sys2Proof/Laws/Evt.lean ====
section
/-! SUPPORT. What each operation of Sys2Proof/Machine/Evt.lean keeps: a state that is good (Laws/Good.lean) stays good. -/

namespace Sys2Proof.Machine

open Sys2Proof Sys2Proof.Safety

variable {r s : State}

theorem State.noteFull_good (x0 x1) (h0 : Good r (x0)) (h1 : Good r (x1)) :
    Good r (State.noteFull x0 x1) := by
  unfold State.noteFull
  grind [Good.set_evt]

theorem State.sbDo_good (x0 x1) (h0 : Good r (x0)) (h1 : ∀ y0, Good r (y0) → Good r (x1 y0)) :
    Good r (State.sbDo x0 x1) := by
  unfold State.sbDo
  grind [State.answer_good]

theorem ctlEvtNandRead_good (x0 x1 x2 x3) (h3 : Good r (x3)) :
    GoodOut r (ctlEvtNandRead x0 x1 x2 x3) := by
  unfold ctlEvtNandRead
  grind [State.ctlDo_good, State.noteRead_good, State.setF_good, State.raise_good, State.bump_good, State.setReg_good, Good.foldl,
    Good.foldl_fst, Good.foldl_snd, GoodOut.next]

theorem execAckEvents_good (x0 x1) (h1 : Good r (x1)) :
    GoodOut r (execAckEvents x0 x1) := by
  unfold execAckEvents
  grind [State.answer_good, State.setPath_good, Good.set_evt, GoodOut.next, State.sbDo_good]

theorem execAlarmDequeue_good (x0 x1) (h1 : Good r (x1)) :
    GoodOut r (execAlarmDequeue x0 x1) := by
  unfold execAlarmDequeue
  grind [State.enqueue_good, State.setPath_good, GoodOut.next]

theorem execGetEvents_good (x0) (h0 : Good r (x0)) :
    GoodOut r (execGetEvents x0) := by
  unfold execGetEvents
  grind [State.answer_good, Good.set_evt, GoodOut.next, State.sbDo_good]

theorem execHostRingStall_good (x0) (h0 : Good r (x0)) :
    GoodOut r (execHostRingStall x0) := by
  unfold execHostRingStall
  grind [State.logTo_good, Good.set_evt, GoodOut.next]

theorem execHostRingWrite_good (x0) (h0 : Good r (x0)) :
    GoodOut r (execHostRingWrite x0) := by
  unfold execHostRingWrite
  refine GoodOut.next ?_
  split
  · exact h0
  · next rec _ _ =>
    split
    · have h := State.noteFull_good _ x0 (State.addF_good _ R.EVT_HOST_PROD F.EVT_HOST_PROD_PROD 1 (State.dropRecs_good x0 0 [rec] h0)) h0
      exact State.irq_good _ _ _ (State.uWrite_good _ _ _ _ (h.set_evt _))
    · exact h0

theorem execIncidentPageProgram_good (x0) (h0 : Good r (x0)) :
    GoodOut r (execIncidentPageProgram x0) := by
  unfold execIncidentPageProgram
  grind [State.drew_good, State.putPage_good, State.deferPage_good, GoodOut.next]

theorem execIrqMinExpiry_good (x0 x1) (h1 : Good r (x1)) :
    GoodOut r (execIrqMinExpiry x0 x1) := by
  unfold execIrqMinExpiry
  grind [Good.set_evt, GoodOut.next]

theorem execSummaryDequeue_good (x0 x1) (h1 : Good r (x1)) :
    GoodOut r (execSummaryDequeue x0 x1) := by
  unfold execSummaryDequeue
  grind [State.enqueue_good, State.setPath_good, GoodOut.next]

end Sys2Proof.Machine
end

