-- ==== Sys2Proof/Laws/Ports.lean ====
section
/-! SUPPORT. What each operation of Sys2Proof/Machine/Ports.lean keeps: a state that is good (Laws/Good.lean) stays good. -/

namespace Sys2Proof.Machine

open Sys2Proof Sys2Proof.Safety

variable {r s : State}

theorem State.respray_good (x0 x1 x2) (h0 : Good r (x0)) :
    Good r (State.respray x0 x1 x2) := by
  unfold State.respray
  grind [State.modX_good, State.sendPkt_good]

theorem State.returnFrames_good (x0 x1) (h0 : Good r (x0)) :
    Good r (State.returnFrames x0 x1) := by
  unfold State.returnFrames
  grind [State.respray_good, State.setPort_good, Good.foldl, Good.foldl_fst, Good.foldl_snd]

theorem State.refreshPort_good (x0 x1) (h0 : Good r (x0)) :
    Good r (State.refreshPort x0 x1) := by
  unfold State.refreshPort
  grind [State.rerouted_good, State.setPortSt_good, State.returnFrames_good]

theorem State.countFec_good (x0 x1 x2) (h0 : Good r (x0)) :
    Good r (State.countFec x0 x1 x2) := by
  unfold State.countFec
  grind [State.phyCount_good, Good.foldl, Good.foldl_fst, Good.foldl_snd]

theorem State.retime_good (x0 x1) (h0 : Good r (x0)) :
    Good r (State.retime x0 x1) := by
  unfold State.retime
  grind [State.setPortSt_good, State.refreshPort_good, State.parkFull_good, State.setPort_good]

theorem State.acceptFrame_good (x0 x1 x2) (h0 : Good r (x0)) :
    Good r (State.acceptFrame x0 x1 x2) := by
  unfold State.acceptFrame
  grind [State.rxCount_good, State.pfcCheck_good, State.setPort_good]

theorem State.countRx_good (x0 x1 x2) (h0 : Good r (x0)) :
    Good r (State.countRx x0 x1 x2) := by
  unfold State.countRx
  grind [State.rxCount_good, State.useBytes_good]

theorem State.countTx_good (x0 x1 x2) (h0 : Good r (x0)) :
    Good r (State.countTx x0 x1 x2) := by
  unfold State.countTx
  dsimp only
  repeat' first
    | with_reducible assumption
    | with_reducible apply State.txCount_good
    | with_reducible apply State.useBytes_good
    | with_reducible apply State.bump_good
    | with_reducible apply State.setReg_good
    | split

theorem State.linkFail_good (x0 x1 x2 x3 x4) (h0 : Good r (x0)) :
    Good r (State.linkFail x0 x1 x2 x3 x4) := by
  unfold State.linkFail
  dsimp only
  repeat' first
    | with_reducible assumption
    | with_reducible apply State.setPortSt_good
    | with_reducible apply State.setPort_good
    | with_reducible apply State.phyCount_good
    | with_reducible apply State.parkFull_good
    | with_reducible apply State.refreshPort_good
    | with_reducible apply State.portEvent_good
    | with_reducible apply State.setReg_good
    | split

theorem State.askPark_good (x0 x1) (h0 : Good r (x0)) :
    Good r (State.askPark x0 x1) := by
  unfold State.askPark
  grind [State.setPort_good, State.setPark_good, State.parkFrame_good, State.parkCheck_good]

theorem State.parkRx_good (x0 x1 x2) (h0 : Good r (x0)) (h2 : ∀ y0, Good r (y0) → Good r (x2 y0)) :
    Good r (State.parkRx x0 x1 x2) := by
  unfold State.parkRx
  grind []

theorem ctlRetime_good (x0 x1 x2) (h2 : Good r (x2)) :
    GoodOut r (ctlRetime x0 x1 x2) := by
  unfold ctlRetime
  grind [State.ctlDo_good, State.retime_good, GoodOut.next]

theorem execArpNdRequest_good (x0 x1 x2 x3 x4 x5) (h5 : Good r (x5)) :
    GoodOut r (execArpNdRequest x0 x1 x2 x3 x4 x5) := by
  unfold execArpNdRequest
  grind [State.handFrame_good, GoodOut.next, State.rxCount_good]

theorem execFecDegrade_good (x0 x1 x2) (h2 : Good r (x2)) :
    GoodOut r (execFecDegrade x0 x1 x2) := by
  unfold execFecDegrade
  grind [State.phyCount_good, State.portEvent_good, GoodOut.next, State.countFec_good]

theorem execIcmpEcho_good (x0 x1 x2 x3 x4 x5) (h5 : Good r (x5)) :
    GoodOut r (execIcmpEcho x0 x1 x2 x3 x4 x5) := by
  unfold execIcmpEcho
  grind [State.setPort_good, State.handFrame_good, GoodOut.next, State.rxCount_good]

theorem execLanesLocked_good (x0 x1) (h1 : Good r (x1)) :
    GoodOut r (execLanesLocked x0 x1) := by
  unfold execLanesLocked
  grind [State.setPort_good, State.parkFull_good, State.answerWake_good, GoodOut.next]

theorem execLinkAligned_good (x0 x1 x2) (h2 : Good r (x2)) :
    GoodOut r (execLinkAligned x0 x1 x2) := by
  unfold execLinkAligned
  grind [State.setPortSt_good, State.setPort_good, GoodOut.next]

theorem execLinkDown_good (x0 x1 x2 x3 x4) (h4 : Good r (x4)) :
    GoodOut r (execLinkDown x0 x1 x2 x3 x4) := by
  unfold execLinkDown
  grind [State.linkFail_good, GoodOut.next, State.rxCount_good]

theorem execLinkupHoldExpiry_good (x0 x1 x2) (h2 : Good r (x2)) :
    GoodOut r (execLinkupHoldExpiry x0 x1 x2) := by
  unfold execLinkupHoldExpiry
  grind [State.portEvent_good, State.refreshPort_good, State.setPort_good, GoodOut.next]

theorem execParkAck_good (x0 x1 x2) (h2 : Good r (x2)) :
    GoodOut r (execParkAck x0 x1 x2) := by
  unfold execParkAck
  grind [State.parkRx_good, State.parkNow_good, State.parkFrame_good, GoodOut.next]

theorem execParkAnswerTimeout_good (x0 x1) (h1 : Good r (x1)) :
    GoodOut r (execParkAnswerTimeout x0 x1) := by
  unfold execParkAnswerTimeout
  grind [State.parkFull_good, GoodOut.next]

theorem execParkGo_good (x0 x1 x2) (h2 : Good r (x2)) :
    GoodOut r (execParkGo x0 x1 x2) := by
  unfold execParkGo
  grind [State.parkRx_good, State.parkNow_good, GoodOut.next]

theorem execParkNak_good (x0 x1 x2) (h2 : Good r (x2)) :
    GoodOut r (execParkNak x0 x1 x2) := by
  unfold execParkNak
  grind [State.parkRx_good, State.parkFull_good, GoodOut.next]

theorem execParkRefresh_good (x0 x1 x2) (h2 : Good r (x2)) :
    GoodOut r (execParkRefresh x0 x1 x2) := by
  unfold execParkRefresh
  grind [State.phyCount_good, State.setPort_good, State.linkFail_good, GoodOut.next]

theorem execParkReq_good (x0 x1 x2) (h2 : Good r (x2)) :
    GoodOut r (execParkReq x0 x1 x2) := by
  unfold execParkReq
  grind [State.parkRx_good, State.parkFrame_good, State.setPark_good, State.parkNow_good, GoodOut.next]

theorem execParkWindow_good (x0 x1 x2 x3) (h3 : Good r (x3)) :
    GoodOut r (execParkWindow x0 x1 x2 x3) := by
  unfold execParkWindow
  dsimp only
  refine GoodOut.next ?_
  repeat' first
    | with_reducible assumption
    | with_reducible apply State.setPort_good
    | with_reducible apply State.askPark_good
    | with_reducible apply State.parkCheck_good
    | with_reducible apply GoodOut.next
    | with_reducible apply State.setReg_good
    | split

theorem execPfcPauseExpiry_good (x0 x1 x2) (h2 : Good r (x2)) :
    GoodOut r (execPfcPauseExpiry x0 x1 x2) := by
  unfold execPfcPauseExpiry
  grind [State.txCount_good, State.setPortSt_good, GoodOut.next]

theorem execPfcRefresh_good (x0 x1) (h1 : Good r (x1)) :
    GoodOut r (execPfcRefresh x0 x1) := by
  unfold execPfcRefresh
  grind [State.pfcFrame_good, GoodOut.next]

theorem execPfcStorm_good (x0 x1) (h1 : Good r (x1)) :
    GoodOut r (execPfcStorm x0 x1) := by
  unfold execPfcStorm
  grind [State.portEvent_good, State.refreshPort_good, State.setPortSt_good, GoodOut.next]

theorem execPfcStormEnd_good (x0 x1) (h1 : Good r (x1)) :
    GoodOut r (execPfcStormEnd x0 x1) := by
  unfold execPfcStormEnd
  grind [State.refreshPort_good, State.setPortSt_good, GoodOut.next]

theorem execPortFrameRx_good (x0 x1 x2 x3 x4) (h4 : Good r (x4)) :
    GoodOut r (execPortFrameRx x0 x1 x2 x3 x4) := by
  unfold execPortFrameRx
  grind [State.rxCount_good, State.countRx_good, State.acceptFrame_good, GoodOut.next, State.dropPkt_good]

theorem execPortFrameTx_good (x0 x1 x2) (h2 : Good r (x2)) :
    GoodOut r (execPortFrameTx x0 x1 x2) := by
  unfold execPortFrameTx
  grind [State.setPort_good, State.countTx_good, GoodOut.next]

theorem execRxPause_good (x0 x1 x2) (h2 : Good r (x2)) :
    GoodOut r (execRxPause x0 x1 x2) := by
  unfold execRxPause
  grind [State.rxCount_good, GoodOut.next]

theorem execRxPfc_good (x0 x1 x2 x3 x4) (h4 : Good r (x4)) :
    GoodOut r (execRxPfc x0 x1 x2 x3 x4) := by
  unfold execRxPfc
  grind [State.rxCount_good, State.txCount_good, State.setPortSt_good, State.setPort_good, GoodOut.next]

theorem execWake_good (x0 x1 x2) (h2 : Good r (x2)) :
    GoodOut r (execWake x0 x1 x2) := by
  unfold execWake
  grind [State.parkRx_good, State.setPort_good, State.answerWake_good, State.parkCheck_good, State.wakeLanes_good, State.parkFull_good,
    GoodOut.next]

theorem execWakeAck_good (x0 x1 x2) (h2 : Good r (x2)) :
    GoodOut r (execWakeAck x0 x1 x2) := by
  unfold execWakeAck
  grind [State.parkRx_good, State.parkFull_good, State.setPort_good, GoodOut.next]

theorem execWakeTimeout_good (x0 x1) (h1 : Good r (x1)) :
    GoodOut r (execWakeTimeout x0 x1) := by
  unfold execWakeTimeout
  grind [State.linkFail_good, State.parkFrame_good, State.setPort_good, GoodOut.next]

end Sys2Proof.Machine
end

