-- ==== Sys2Proof/Laws/CfgOps.lean ====
section
/-! SUPPORT. What each operation of Sys2Proof/Machine/CfgOps.lean keeps: a state that is good (Laws/Good.lean) stays good. -/

namespace Sys2Proof.Machine

open Sys2Proof Sys2Proof.Safety

variable {r s : State}

theorem State.flushDevice_good (x0) (h0 : Good r (x0)) :
    Good r (State.flushDevice x0) := by
  unfold State.flushDevice
  grind [Good.foldl, Good.foldl_fst, Good.foldl_snd, Good.set_mem_dcache, Good.set_mem_host, Memory.wf_putBytes, Good.memory,
    MemCanonical.hbm, MemCanonical.frame, MemCanonical.host, MemCanonical.cstore, MemCanonical.imem]

theorem State.clearSlices_good (x0 x1) (h0 : Good r (x0)) :
    Good r (State.clearSlices x0 x1) := by
  unfold State.clearSlices
  grind [State.startUrgent_good, Good.foldl, Good.foldl_fst, Good.foldl_snd]

theorem State.passSlices_good (x0 x1 x2 x3) (h0 : Good r (x0)) :
    Good r (State.passSlices x0 x1 x2 x3) := by
  unfold State.passSlices
  grind [State.setSliceOwner_good, State.endClearings_good, State.readmit_good, Good.foldl, Good.foldl_fst, Good.foldl_snd]

theorem State.moveArea_good (x0 x1) (h0 : Good r (x0)) (h1 : Good r (x1)) :
    Good r (State.moveArea x0 x1) := by
  unfold State.moveArea
  grind [State.passSlices_good, State.modX_good, State.clearSlices_good]

theorem State.moveWindow_good (x0 x1) (h0 : Good r (x0)) (h1 : Good r (x1)) :
    Good r (State.moveWindow x0 x1) := by
  unfold State.moveWindow
  grind [State.passSlices_good]

theorem State.restartPort_good (x0 x1 x2 x3) (h0 : Good r (x0)) (h1 : Good r (x1)) (h3 : Good r (x3)) :
    Good r (State.restartPort x0 x1 x2 x3) := by
  unfold State.restartPort
  grind [State.retime_good, State.parkFull_good, State.pfcCheck_good, State.setPortSt_good, State.dropCap_good]

theorem State.startCells_good (x0 x1) (h0 : Good r (x0)) (h1 : Good r (x1)) :
    Good r (State.startCells x0 x1) := by
  unfold State.startCells
  grind [State.countCells_good, State.resetCell_good, Good.foldl, Good.foldl_fst, Good.foldl_snd]

theorem State.withTxn_good (x0 x1) (h0 : Good r (x0)) :
    Good r (State.withTxn x0 x1) := by
  unfold State.withTxn
  grind [State.setReg_good, Good.foldl, Good.foldl_fst, Good.foldl_snd]

theorem State.rebucket_good (x0 x1 x2 x3) (h0 : Good r (x0)) (h1 : Good r (x1)) (h3 : Good r (x3)) :
    Good r (State.rebucket x0 x1 x2 x3) := by
  unfold State.rebucket
  grind [State.setBucket_good]

theorem State.takeTxn_good (x0 x1) (h0 : Good r (x0)) :
    Good r (State.takeTxn x0 x1) := by
  unfold State.takeTxn
  have h := State.moveWindow_good x0 _ h0 (State.moveArea_good x0 _ h0 (State.startCells_good x0 _ h0 (State.withTxn_good x0 x1 h0)))
  have h := Good.foldl (l := List.range 16) h fun u p hu => State.restartPort_good x0 _ p u h0 (State.withTxn_good x0 x1 h0) hu
  have h := Good.foldl (l := List.range 64) h fun u i hu => State.rebucket_good x0 _ i u h0 (State.withTxn_good x0 x1 h0) hu
  exact State.noRoutes_good _ _ (State.endGrants_good _ _ (State.relevelAll_good _ (State.refreshCap_good _ h)))

theorem State.putTxn_good (x0 x1) (h0 : Good r (x0)) :
    Good r (State.putTxn x0 x1) := by
  unfold State.putTxn
  grind [State.withTxn_good, State.flushDevice_good, State.moveWindow_good, State.moveArea_good, State.startCells_good,
    State.restartPort_good, State.noRoutes_good, State.relevelAll_good, State.refreshCap_good, Good.foldl, Good.foldl_fst, Good.foldl_snd,
    State.endGrants_good, State.takeTxn_good]

end Sys2Proof.Machine
end

