-- ==== Sys2Proof/Laws/Nand.lean ====
section
/-! SUPPORT. What each operation of Sys2Proof/Machine/Nand.lean keeps: a state that is good (Laws/Good.lean) stays good. -/

namespace Sys2Proof.Machine

open Sys2Proof Sys2Proof.Safety

variable {r s : State}

theorem State.modMgt_good (x0 x1) (h0 : Good r (x0)) :
    Good r (State.modMgt x0 x1) := by
  unfold State.modMgt
  grind [Good.set_mgt]

theorem State.modNv_good (x0) (x1) (h0 : Good r (x0)) (hf : GoodNv r (x1 x0.nv)) :
    Good r (State.modNv x0 x1) := h0.set_nv hf

theorem State.setSwitchDue_good (x0 x1) (h0 : Good r (x0)) : Good r (State.setSwitchDue x0 x1) :=
  State.modNv_good _ _ h0 ⟨h0.1.2, ⟨h0.4.1, h0.4.2, h0.4.3, h0.4.4, h0.4.5⟩⟩

theorem State.setRingPos_good (x0 x1 x2) (h0 : Good r (x0)) :
    Good r (State.setRingPos x0 x1 x2) := by
  have key : ∀ t : State, Good r t → Good r (t.modNv (fun x => if x1 = 0 then { x with ring0 := x2 % 32768 } else { x with ring1 := x2 % 32768 })) := by
    intro t h
    refine State.modNv_good _ _ h ?_
    split <;> exact ⟨h.1.2, ⟨h.4.1, h.4.2, h.4.3, h.4.4, h.4.5⟩⟩
  unfold State.setRingPos
  exact key _ h0

theorem State.takePages_good (x0 x1 x2) (h0 : Good r (x0)) :
    Good r (State.takePages x0 x1 x2) := by
  induction x2 generalizing x0 with
  | zero => exact h0
  | succ n ih =>
    unfold State.takePages
    exact ih _ (State.setRingPos_good _ _ _ (Good.ite (State.eraseBlock_good _ _ h0) h0))

theorem State.writeSnap_good (x0 x1) (h0 : Good r (x0)) :
    Good r (State.writeSnap x0 x1) := by
  unfold State.writeSnap
  grind [State.modMgt_good, State.takePages_good]

theorem State.setPersist_good (x0 x1) (h0 : Good r (x0)) :
    Good r (State.setPersist x0 x1) := by
  unfold State.setPersist
  grind [State.setF_good]

theorem State.abandonCommit_good (x0) (h0 : Good r (x0)) :
    Good r (State.abandonCommit x0) := by
  unfold State.abandonCommit
  grind [State.modMgt_good, State.setPersist_good, State.raise_good]

theorem State.swapBlocks_good (x0 x1 x2) (h0 : Good r (x0)) :
    Good r (State.swapBlocks x0 x1 x2) := by
  unfold State.swapBlocks
  exact Good.ite h0 (State.modNv_good _ _ h0 ⟨h0.1.2, ⟨h0.4.1, h0.4.2, h0.4.3, h0.4.4, h0.4.5⟩⟩)

theorem State.passBlock_good (x0 x1) (h0 : Good r (x0)) :
    Good r (State.passBlock x0 x1) := by
  unfold State.passBlock
  grind [State.setRingPos_good, State.eraseBlock_good, State.showPages_good, Good.set_evt]

theorem State.refreshed_good (x0 x1) (h0 : Good r (x0)) :
    Good r (State.refreshed x0 x1) := by
  unfold State.refreshed
  grind [State.eraseBlock_good, State.swapBlocks_good, State.passBlock_good]

theorem State.setTxn_good (x0 x1 x2) (h0 : Good r (x0)) :
    Good r (State.setTxn x0 x1 x2) := by
  unfold State.setTxn
  grind [State.setF_good]

theorem State.endTxn_good (x0) (h0 : Good r (x0)) :
    Good r (State.endTxn x0) := by
  unfold State.endTxn
  grind [State.modMgt_good, State.setTxn_good]

theorem State.showBoot_good (x0 x1 x2 x3 x4) (h0 : Good r (x0)) :
    Good r (State.showBoot x0 x1 x2 x3 x4) := by
  unfold State.showBoot
  grind [State.setF_good]

theorem State.putBoot_good (x0 x1 x2 x3 x4) (h0 : Good r (x0)) :
    Good r (State.putBoot x0 x1 x2 x3 x4) := by
  have h := State.showBoot_good _ x1 x2 x3 x4 (State.drew_good x0 2 h0)
  unfold State.putBoot
  exact Good.ite (State.modMgt_good _ _ (State.modNv_good _ _ h ⟨h.1.2, ⟨h.4.1, h.4.2, h.4.3, h.4.4, h.4.5⟩⟩)) (State.modMgt_good _ _ h)

theorem ctlTxnBegin_good (x0 x1) (h1 : Good r (x1)) :
    GoodOut r (ctlTxnBegin x0 x1) := by
  unfold ctlTxnBegin
  grind [State.ctlDo_good, State.endTxn_good, State.setTxn_good, State.modMgt_good, State.addF_good, GoodOut.next]

theorem State.rejectLatch_good (x0 x1) (h0 : Good r (x0)) :
    Good r (State.rejectLatch x0 x1) := by
  unfold State.rejectLatch
  grind [State.raise_good, State.setF_good, State.setTxn_good]

theorem ctlTxnLatch_good (x0 x1 x2) (h2 : Good r (x2)) :
    GoodOut r (ctlTxnLatch x0 x1 x2) := by
  unfold ctlTxnLatch
  grind [State.ctlDo_good, State.rejectLatch_good, State.modMgt_good, State.setTxn_good, GoodOut.next]

theorem ctlTxnRollback_good (x0 x1) (h1 : Good r (x1)) :
    GoodOut r (ctlTxnRollback x0 x1) := by
  unfold ctlTxnRollback
  grind [State.ctlDo_good, State.endTxn_good, GoodOut.next]

theorem State.stage_good (x0 x1 x2 x3) (h0 : Good r (x0)) :
    Good r (State.stage x0 x1 x2 x3).1 := by
  unfold State.stage
  grind [State.setTxn_good, State.modMgt_good]

theorem State.txnWrite_good (x0 x1 x2 x3) (h0 : Good r (x0)) :
    Good r (State.txnWrite x0 x1 x2 x3) := by
  unfold State.txnWrite
  grind [State.ctlEnd_good, State.stage_good]

theorem State.showNand_good (x0) (h0 : Good r (x0)) :
    Good r (State.showNand x0) := by
  unfold State.showNand
  grind [State.setF_good]

theorem State.startCommit_good (x0) (h0 : Good r (x0)) :
    Good r (State.startCommit x0) := by
  unfold State.startCommit
  grind [State.takePages_good, State.modMgt_good, State.setPersist_good, State.nandPush_good, State.abandonCommit_good,
    State.writeSnap_good]

theorem State.tryCommit_good (x0) (h0 : Good r (x0)) :
    Good r (State.tryCommit x0) := by
  unfold State.tryCommit
  grind [State.drew_good, State.startCommit_good, State.raise_good, State.setPersist_good]

theorem State.commitDone_good (x0 x1) (h0 : Good r (x0)) :
    Good r (State.commitDone x0 x1) := by
  unfold State.commitDone
  refine State.tryCommit_good _ (State.raise_good _ _ (State.setPersist_good _ _ (State.setF_good _ _ _ _ (State.modMgt_good _ _ ?_))))
  refine State.modNv_good _ _ h0 ?_
  split <;> exact ⟨h0.1.2, ⟨h0.4.1, h0.4.2, h0.4.3, h0.4.4, h0.4.5⟩⟩

theorem State.commitFailed_good (x0 x1 x2) (h0 : Good r (x0)) :
    Good r (State.commitFailed x0 x1 x2) := by
  unfold State.commitFailed
  grind [State.raise_good, State.setPersist_good, State.modMgt_good, State.takePages_good, State.setRingPos_good, State.abandonCommit_good,
    State.writeSnap_good]

theorem State.flushBoot_good (x0) (h0 : Good r (x0)) :
    Good r (State.flushBoot x0) := by
  unfold State.flushBoot
  grind [State.putBoot_good]

theorem State.noteCorrected_good (x0 x1 x2) (h0 : Good r (x0)) :
    Good r (State.noteCorrected x0 x1 x2) := by
  unfold State.noteCorrected
  grind [State.bump_good, State.nandPush_good]

theorem State.noteUnreadable_good (x0) (h0 : Good r (x0)) :
    Good r (State.noteUnreadable x0) := by
  unfold State.noteUnreadable
  grind [State.raise_good, State.bump_good]

theorem State.retireBlock_good (x0 x1) (h0 : Good r (x0)) :
    Good r (State.retireBlock x0 x1) := by
  have h : Good r (x0.modNv (fun n => { n with
      retired := nput n.retired (x0.physBlock x1) true
      map := match x0.bestReserve with
        | some q => n.map.filter (fun e => e.1 ≠ x1) ++ [(x1, q)]
        | none => n.map.filter (fun e => e.1 ≠ x1) })) := State.modNv_good _ _ h0 ⟨h0.1.2, ⟨h0.4.1, h0.4.2, h0.4.3, h0.4.4, h0.4.5⟩⟩
  have h' := State.raise_good _ { ev 0x3808 1 0 0 with addr := x1 } (State.showNand_good _ h)
  unfold State.retireBlock
  exact Good.ite (State.raise_good _ _ h') h'

theorem State.unsound_good (x0 x1) (h0 : Good r (x0)) :
    Good r (State.unsound x0 x1) := by
  unfold State.unsound
  refine State.modNv_good _ _ h0 ?_
  split
  · exact ⟨h0.1.2, ⟨h0.4.1, h0.4.2, h0.4.3, h0.4.4, h0.4.5⟩⟩
  · split
    · exact ⟨h0.1.2, ⟨h0.4.1, h0.4.2, h0.4.3, h0.4.4, h0.4.5⟩⟩
    · exact h0.nv

theorem State.nandEnd_good (x0 x1 x2) (h0 : Good r (x0)) :
    Good r (State.nandEnd x0 x1 x2) := by
  unfold State.nandEnd
  grind [State.commitDone_good, State.noteCorrected_good, State.commitFailed_good, State.retireBlock_good, State.noteUnreadable_good,
    State.noteRead_good, State.unsound_good, State.eraseBlock_good, State.bump_good, State.nandPush_good, State.refreshed_good]

theorem ctlTxnFieldWrite_good (x0 x1 x2 x3) (h3 : Good r (x3)) :
    GoodOut r (ctlTxnFieldWrite x0 x1 x2 x3) := by
  unfold ctlTxnFieldWrite
  grind [State.txnWrite_good, GoodOut.next]

theorem State.requestCommit_good (x0) (h0 : Good r (x0)) :
    Good r (State.requestCommit x0) := by
  unfold State.requestCommit
  grind [State.modMgt_good, State.setPersist_good]

theorem execCommitStart_good (x0) (h0 : Good r (x0)) :
    GoodOut r (execCommitStart x0) := by
  unfold execCommitStart
  grind [State.tryCommit_good, State.flushBoot_good, GoodOut.next]

theorem execLatchEffect_good (x0) (h0 : Good r (x0)) :
    GoodOut r (execLatchEffect x0) := by
  unfold execLatchEffect
  refine GoodOut.next ?_
  split
  · exact h0
  · have h := State.raise_good _ (ev 0x3801 2 0 0) (State.putTxn_good _ (by assumption) (State.setTxn_good _ F.CFG_TXN_STATUS_STATUS St.ok
      (State.modMgt_good _ (fun m => { m with accepted := none, persist := false }) (State.endTxn_good _ h0))))
    dsimp only
    exact Good.ite (State.requestCommit_good _ h) h

theorem execNandOpDone_good (x0 x1) (h1 : Good r (x1)) :
    GoodOut r (execNandOpDone x0 x1) := by
  unfold execNandOpDone
  grind [State.nandEnd_good, State.modMgt_good, State.drew_good, GoodOut.next]

theorem execNandPatrol_good (x0 x1 x2) (h2 : Good r (x2)) :
    GoodOut r (execNandPatrol x0 x1 x2) := by
  unfold execNandPatrol
  grind [State.noteCorrected_good, State.noteRead_good, GoodOut.next]

theorem execTxnTimeout_good (x0) (h0 : Good r (x0)) :
    GoodOut r (execTxnTimeout x0) := by
  unfold execTxnTimeout
  grind [State.raise_good, State.endTxn_good, GoodOut.next]

end Sys2Proof.Machine
end

