-- ==== Sys2Proof/Laws/Lead.lean ====
section
/-! SUPPORT. What each operation of Sys2Proof/Machine/Lead.lean keeps: a state that is good (Laws/Good.lean) stays good. -/

namespace Sys2Proof.Machine

open Sys2Proof Sys2Proof.Safety

variable {r s : State}

theorem State.roleNow_good (x0 x1) (h0 : Good r (x0)) :
    Good r (State.roleNow x0 x1) := by
  unfold State.roleNow
  grind [State.modMgt_good]

theorem State.halfEvent_good (x0 x1 x2 x3) (h0 : Good r (x0)) :
    Good r (State.halfEvent x0 x1 x2 x3) := by
  unfold State.halfEvent
  grind [State.raise_good]

theorem State.leaseNow_good (x0 x1) (h0 : Good r (x0)) :
    Good r (State.leaseNow x0 x1) := by
  unfold State.leaseNow
  grind [State.modMgt_good]

theorem State.takeRole_good (x0 x1 x2) (h0 : Good r (x0)) :
    Good r (State.takeRole x0 x1 x2) := by
  unfold State.takeRole
  grind [State.setF_good, State.relevel_good, State.leaseNow_good, State.bump_good, State.roleNow_good]

theorem State.changeRole_good (x0 x1 x2) (h0 : Good r (x0)) :
    Good r (State.changeRole x0 x1 x2) := by
  unfold State.changeRole
  grind [State.halfEvent_good, State.takeRole_good]

theorem State.hingeSend_good (x0 x1 x2) (h0 : Good r (x0)) :
    Good r (State.hingeSend x0 x1 x2) := by
  unfold State.hingeSend
  grind [State.modMgt_good]

theorem State.orderHand_good (x0 x1) (h0 : Good r (x0)) :
    Good r (State.orderHand x0 x1) := by
  unfold State.orderHand
  grind [State.hingeSend_good, State.changeRole_good]

theorem ctlOrderHandOff_good (x0 x1 x2) (h2 : Good r (x2)) :
    GoodOut r (ctlOrderHandOff x0 x1 x2) := by
  unfold ctlOrderHandOff
  grind [State.ctlDo_good, State.orderHand_good, GoodOut.next]

theorem State.setEpoch_good (x0 x1 x2) (h0 : Good r (x0)) :
    Good r (State.setEpoch x0 x1 x2) := by
  unfold State.setEpoch
  grind [State.setF_good]

theorem State.takeLead_good (x0 x1 x2 x3) (h0 : Good r (x0)) :
    Good r (State.takeLead x0 x1 x2 x3) := by
  unfold State.takeLead
  grind [State.hingeSend_good, State.changeRole_good, State.setEpoch_good]

theorem State.orderTake_good (x0 x1 x2) (h0 : Good r (x0)) :
    Good r (State.orderTake x0 x1 x2) := by
  unfold State.orderTake
  grind [State.takeLead_good]

theorem ctlOrderTakeLead_good (x0 x1 x2 x3) (h3 : Good r (x3)) :
    GoodOut r (ctlOrderTakeLead x0 x1 x2 x3) := by
  unfold ctlOrderTakeLead
  grind [State.ctlDo_good, State.orderTake_good, GoodOut.next]

theorem State.mcRestart_good (x0) (h0 : Good r (x0)) :
    Good r (State.mcRestart x0) := by
  unfold State.mcRestart
  grind [State.endTxn_good, Good.set_evt]

theorem State.hcRestart_good (x0 x1) (h0 : Good r (x0)) :
    Good r (State.hcRestart x0 x1) := by
  unfold State.hcRestart
  grind [Good.set_evt]

theorem State.advanceSwitch_good (x0) (h0 : Good r (x0)) :
    Good r (State.advanceSwitch x0) := by
  unfold State.advanceSwitch
  grind [State.orderHand_good, State.hcRestart_good]

theorem State.follow_good (x0 x1 x2) (h0 : Good r (x0)) :
    Good r (State.follow x0 x1 x2) := by
  unfold State.follow
  grind [State.changeRole_good, State.setEpoch_good]

theorem execAcceptRx_good (x0 x1 x2) (h2 : Good r (x2)) :
    GoodOut r (execAcceptRx x0 x1 x2) := by
  unfold execAcceptRx
  grind [State.follow_good, GoodOut.next]

theorem execControllerRestartDone_good (x0 x1) (h1 : Good r (x1)) :
    GoodOut r (execControllerRestartDone x0 x1) := by
  unfold execControllerRestartDone
  refine GoodOut.next ?_
  split
  · next h =>
    dsimp only
    refine Good.ite (State.advanceSwitch_good _ (State.deliver_good _ _ (State.setEpoch_good _ _ _ ?_))) h1
    have h2 := State.modMgt_good _ (fun m => { m with switching := m.switching.filter (fun c => c ≠ .halfCtl h), silent := mset 0 m.silent h 0 })
      (h1.set_evt { x1.evt with hcDown := nput x1.evt.hcDown h false })
    exact Good.ite (State.relevel_good _ _ (State.roleNow_good _ _ h2)) (State.changeRole_good _ _ _ h2)
  · dsimp only
    refine Good.ite ?_ h1
    have h2 := State.deliver_good _ 1 (State.deliver_good _ 0 (h1.set_evt { x1.evt with mcDown := false }))
    split
    · exact State.advanceSwitch_good _ (State.modMgt_good _ _ h2)
    · exact State.raise_good _ _ h2

theorem execHandoffRx_good (x0 x1 x2) (h2 : Good r (x2)) :
    GoodOut r (execHandoffRx x0 x1 x2) := by
  unfold execHandoffRx
  grind [State.takeLead_good, GoodOut.next]

theorem execHandoffStall_good (x0 x1) (h1 : Good r (x1)) :
    GoodOut r (execHandoffStall x0 x1) := by
  unfold execHandoffStall
  grind [State.halfEvent_good, State.hingeSend_good, GoodOut.next, State.roleNow_good]

theorem execHcHang_good (x0 x1) (h1 : Good r (x1)) :
    GoodOut r (execHcHang x0 x1) := by
  unfold execHcHang
  grind [State.halfEvent_good, State.orderTake_good, State.hcRestart_good, GoodOut.next]

theorem execHcStatusPoll_good (x0) (h0 : Good r (x0)) :
    GoodOut r (execHcStatusPoll x0) := by
  unfold execHcStatusPoll
  grind [State.advanceSwitch_good, State.modMgt_good, GoodOut.next]

theorem execLeaseAckRx_good (x0 x1 x2) (h2 : Good r (x2)) :
    GoodOut r (execLeaseAckRx x0 x1 x2) := by
  unfold execLeaseAckRx
  grind [State.leaseNow_good, State.setF_good, GoodOut.next]

theorem execLeaseLapse_good (x0 x1) (h1 : Good r (x1)) :
    GoodOut r (execLeaseLapse x0 x1) := by
  unfold execLeaseLapse
  grind [State.halfEvent_good, State.bump_good, State.takeRole_good, GoodOut.next]

theorem execLeaseNakRx_good (x0 x1 x2) (h2 : Good r (x2)) :
    GoodOut r (execLeaseNakRx x0 x1 x2) := by
  unfold execLeaseNakRx
  grind [State.follow_good, GoodOut.next]

theorem execLeaseNoAck_good (x0 x1) (h1 : Good r (x1)) :
    GoodOut r (execLeaseNoAck x0 x1) := by
  unfold execLeaseNoAck
  grind [State.halfEvent_good, State.setF_good, GoodOut.next]

theorem execLeaseRx_good (x0 x1 x2) (h2 : Good r (x2)) :
    GoodOut r (execLeaseRx x0 x1 x2) := by
  unfold execLeaseRx
  grind [State.hingeSend_good, State.leaseNow_good, State.setEpoch_good, State.follow_good, GoodOut.next]

theorem execLeaseTx_good (x0 x1) (h1 : Good r (x1)) :
    GoodOut r (execLeaseTx x0 x1) := by
  unfold execLeaseTx
  grind [State.hingeSend_good, GoodOut.next]

theorem execMcWatchdog_good (x0) (h0 : Good r (x0)) :
    GoodOut r (execMcWatchdog x0) := by
  unfold execMcWatchdog
  grind [State.mcRestart_good, GoodOut.next]

end Sys2Proof.Machine
end

