-- ==== Sys2Proof/Laws/Fw.lean ====
section
/-! SUPPORT. What each operation of Sys2Proof/Machine/Fw.lean keeps: a state that is good (Laws/Good.lean) stays good. -/

namespace Sys2Proof.Machine

open Sys2Proof Sys2Proof.Safety

variable {r s : State}

theorem State.setOp_good (x0 x1 x2) (h0 : Good r (x0)) :
    Good r (State.setOp x0 x1 x2) := by
  unfold State.setOp
  grind [State.setF_good]

theorem State.fwEnd_good (x0 x1) (h0 : Good r (x0)) :
    Good r (State.fwEnd x0 x1) := by
  unfold State.fwEnd
  grind [State.modMgt_good, State.setOp_good]

theorem State.beginSwitch_good (x0) (h0 : Good r (x0)) :
    Good r (State.beginSwitch x0) := by
  unfold State.beginSwitch
  grind [State.setF_good, State.modMgt_good, State.mcRestart_good, State.raise_good, State.faultWards_good]

theorem State.setSlot_good (x0 x1 x2 x3 x4) (h0 : Good r (x0)) :
    Good r (State.setSlot x0 x1 x2 x3 x4) := by
  unfold State.setSlot
  grind [State.putBoot_good]

theorem State.trySwitch_good (x0) (h0 : Good r (x0)) :
    Good r (State.trySwitch x0) := by
  unfold State.trySwitch
  grind [State.setSlot_good, State.beginSwitch_good, State.modMgt_good]

theorem State.fwGo_good (x0 x1 x2 x3) (h0 : Good r (x0)) :
    Good r (State.fwGo x0 x1 x2 x3) := by
  unfold State.fwGo
  grind [State.ctlDo_good, State.setOp_good, State.fwEnd_good, State.trySwitch_good, State.modMgt_good]

theorem State.showVersion_good (x0 x1) (h0 : Good r (x0)) :
    Good r (State.showVersion x0 x1) := by
  unfold State.showVersion
  grind [State.setReg_good]

theorem State.confirm_good (x0) (h0 : Good r (x0)) :
    Good r (State.confirm x0) := by
  have h := State.setSlot_good x0 x0.runSlot 1 x0.bootRec.1 x0.bootRec.2.2.2 h0
  unfold State.confirm
  exact State.fwEnd_good _ _ (State.setF_good _ _ _ _ (State.modMgt_good _ _ (State.modNv_good _ _ h
    ⟨h.1.2, ⟨h.4.1, h.4.2, h.4.3, Nat.le_trans h0.4.4 (Nat.le_max_left _ _), h.4.5⟩⟩)))

theorem State.loadCal_good (x0) (h0 : Good r (x0)) :
    Good r (State.loadCal x0) := by
  unfold State.loadCal
  grind [State.setReg_good, Good.foldl, Good.foldl_fst, Good.foldl_snd]

theorem State.putImage_good (x0 x1 x2) (h0 : Good r (x0)) :
    Good r (State.putImage x0 x1 x2) := by
  have key : ∀ t : State, Good r t → Good r (t.modNv (fun x => if x1 = 0 then { x with image0 := some x2 } else { x with image1 := some x2 })) := by
    intro t h
    refine State.modNv_good _ _ h ?_
    split <;> exact ⟨h.1.2, ⟨h.4.1, h.4.2, h.4.3, h.4.4, h.4.5⟩⟩
  unfold State.putImage
  exact State.showVersion_good _ _ (key _ h0)

theorem State.install_good (x0 x1) (h0 : Good r (x0)) :
    Good r (State.install x0 x1) := by
  unfold State.install
  grind [State.uRead_good, State.eraseBlock_good, State.setOp_good, State.putImage_good, State.setSlot_good, State.fwEnd_good,
    Good.foldl, Good.foldl_fst, Good.foldl_snd]

theorem State.installCal_good (x0 x1) (h0 : Good r (x0)) :
    Good r (State.installCal x0 x1) := by
  unfold State.installCal
  have h := State.uRead_good x0 x1.addr x1.len 0 false h0
  generalize State.uRead x0 x1.addr x1.len 0 false = u at h
  obtain ⟨s, bs, st⟩ := u
  have h' := State.setOp_good _ F.MGMT_FW_OPSTATUS_DONE_KIB (x1.len / 1024) h
  dsimp only
  split
  · exact State.fwEnd_good _ _ h'
  · split
    · exact State.fwEnd_good _ _ h'
    · exact State.fwEnd_good _ _ (State.loadCal_good _ (h'.set_nv ⟨h'.1.2, ⟨h'.4.1, h'.4.2, h'.4.3, h'.4.4, h'.4.5⟩⟩))

theorem ctlFwConfirm_good (x0 x1) (h1 : Good r (x1)) :
    GoodOut r (ctlFwConfirm x0 x1) := by
  unfold ctlFwConfirm
  grind [State.fwGo_good, GoodOut.next]

theorem ctlFwInstall_good (x0 x1 x2) (h2 : Good r (x2)) :
    GoodOut r (ctlFwInstall x0 x1 x2) := by
  unfold ctlFwInstall
  grind [State.fwGo_good, GoodOut.next]

theorem ctlFwInstallCal_good (x0 x1 x2) (h2 : Good r (x2)) :
    GoodOut r (ctlFwInstallCal x0 x1 x2) := by
  unfold ctlFwInstallCal
  grind [State.fwGo_good, GoodOut.next]

theorem ctlFwSwitchLive_good (x0 x1) (h1 : Good r (x1)) :
    GoodOut r (ctlFwSwitchLive x0 x1) := by
  unfold ctlFwSwitchLive
  grind [State.fwGo_good, GoodOut.next]

theorem ctlFwSwitchNext_good (x0 x1) (h1 : Good r (x1)) :
    GoodOut r (ctlFwSwitchNext x0 x1) := by
  unfold ctlFwSwitchNext
  grind [State.fwGo_good, GoodOut.next]

theorem State.ifCovered_good (x0 x1) (h0 : Good r (x0)) (h1 : ∀ y0, Good r (y0) → Good r (x1 y0)) :
    Good r (State.ifCovered x0 x1) := by
  unfold State.ifCovered
  grind [State.drew_good]

theorem execFwConfirmTimeout_good (x0) (h0 : Good r (x0)) :
    GoodOut r (execFwConfirmTimeout x0) := by
  unfold execFwConfirmTimeout
  grind [State.setSlot_good, State.raise_good, State.modMgt_good, State.beginSwitch_good, GoodOut.next, State.setSwitchDue_good]

theorem execFwOpDone_good (x0) (h0 : Good r (x0)) :
    GoodOut r (execFwOpDone x0) := by
  unfold execFwOpDone
  grind [State.install_good, State.fwEnd_good, State.modMgt_good, State.setSlot_good, State.trySwitch_good, State.confirm_good,
    State.installCal_good, GoodOut.next, State.ifCovered_good, State.setSwitchDue_good]

end Sys2Proof.Machine
end

