-- ==== Sys2Proof/Laws/HbmTherm.lean ====
section
/-! SUPPORT. What each operation of Sys2Proof/Machine/HbmTherm.lean keeps: a state that is good (Laws/Good.lean) stays good. -/

namespace Sys2Proof.Machine

open Sys2Proof Sys2Proof.Safety

variable {r s : State}

theorem State.setLevel_good (x0 x1 x2) (h0 : Good r (x0)) :
    Good r (State.setLevel x0 x1 x2) := by
  unfold State.setLevel
  grind [State.setF_good, State.slowDeadline_good, Good.foldl, Good.foldl_fst, Good.foldl_snd, State.settleBuckets_good]

theorem State.enterLevel_good (x0 x1 x2 x3) (h0 : Good r (x0)) :
    Good r (State.enterLevel x0 x1 x2 x3) := by
  unfold State.enterLevel
  grind [State.setLevel_good, State.memEvent_good, State.fenceColls_good, State.retry_good]

theorem ctlUnfence_good (x0 x1 x2) (h2 : Good r (x2)) :
    GoodOut r (ctlUnfence x0 x1 x2) := by
  unfold ctlUnfence
  grind [State.ctlDo_good, State.enterLevel_good, GoodOut.next]

theorem execHbmTempLost_good (x0 x1) (h1 : Good r (x1)) :
    GoodOut r (execHbmTempLost x0 x1) := by
  unfold execHbmTempLost
  grind [State.memEvent_good, State.setF_good, State.enterLevel_good, GoodOut.next]

theorem execHbmTempReading_good (x0 x1 x2) (h2 : Good r (x2)) :
    GoodOut r (execHbmTempReading x0 x1 x2) := by
  unfold execHbmTempReading
  grind [State.setF_good, State.enterLevel_good, GoodOut.next, State.deadbolt_good]

end Sys2Proof.Machine
end

