-- ==== Sys2Proof/Laws/Discovery.lean ====
section
/-! SUPPORT. What each operation of Sys2Proof/Machine/Discovery.lean keeps: a state that is good (Laws/Good.lean) stays good. -/

namespace Sys2Proof.Machine

open Sys2Proof Sys2Proof.Safety

variable {r s : State}

theorem State.learnMac_good (x0 x1 x2 x3) (h0 : Good r (x0)) :
    Good r (State.learnMac x0 x1 x2 x3) := by
  unfold State.learnMac
  grind [State.setF_good]

theorem State.lldpOut_good (x0 x1 x2 x3) (h0 : Good r (x0)) :
    Good r (State.lldpOut x0 x1 x2 x3) := by
  unfold State.lldpOut
  grind [State.handFrame_good]

theorem State.meshRoute_good (x0 x1 x2) (h0 : Good r (x0)) :
    Good r (State.meshRoute x0 x1 x2) := by
  unfold State.meshRoute
  grind [State.setF_good]

theorem State.noteConflict_good (x0 x1 x2) (h0 : Good r (x0)) :
    Good r (State.noteConflict x0 x1 x2) := by
  unfold State.noteConflict
  grind [State.rerouted_good, State.modX_good, State.raise_good]

theorem State.notePeer_good (x0 x1 x2 x3) (h0 : Good r (x0)) :
    Good r (State.notePeer x0 x1 x2 x3) := by
  unfold State.notePeer
  grind [State.modX_good, State.setPortSt_good, State.noteConflict_good]

theorem State.ownLatch_good (x0 x1) (h0 : Good r (x0)) :
    Good r (State.ownLatch x0 x1) := by
  unfold State.ownLatch
  grind [State.putTxn_good]

theorem State.takeAssign_good (x0 x1 x2) (h0 : Good r (x0)) :
    Good r (State.takeAssign x0 x1 x2) := by
  unfold State.takeAssign
  grind [State.setF_good, State.ownLatch_good]

theorem execElectionSettled_good (x0) (h0 : Good r (x0)) :
    GoodOut r (execElectionSettled x0) := by
  unfold execElectionSettled
  grind [State.modX_good, State.drew_good, State.setF_good, State.meshRoute_good, Good.foldl, Good.foldl_fst, Good.foldl_snd, GoodOut.next,
    State.ownLatch_good]

theorem execLldpRx_good (x0 x1 x2) (h2 : Good r (x2)) :
    GoodOut r (execLldpRx x0 x1 x2) := by
  unfold execLldpRx
  grind [State.learnMac_good, State.takeAssign_good, State.notePeer_good, State.meshRoute_good, GoodOut.next]

theorem execLldpTx_good (x0 x1) (h1 : Good r (x1)) :
    GoodOut r (execLldpTx x0 x1) := by
  unfold execLldpTx
  grind [State.lldpOut_good, GoodOut.next]

end Sys2Proof.Machine
end

