-- ==== Sys2Proof/Laws/Tag.lean ====
section
/-! SUPPORT. What each operation of Sys2Proof/Machine/Tag.lean keeps: a state that is good (Laws/Good.lean) stays good. -/

namespace Sys2Proof.Machine

open Sys2Proof Sys2Proof.Safety

variable {r s : State}

theorem State.setTag_good (x0 x1 x2) (h0 : Good r (x0)) :
    Good r (State.setTag x0 x1 x2) := by
  unfold State.setTag
  grind [State.setF_good]

theorem State.tagGo_good (x0 x1 x2 x3) (h0 : Good r (x0)) :
    Good r (State.tagGo x0 x1 x2 x3) := by
  unfold State.tagGo
  grind [State.ctlDo_good, State.setTag_good, State.modMgt_good]

theorem State.field_good (x0 x1) (h0 : Good r (x0)) (h1 : ∀ y0, Good r (y0) → Good r (x1 y0)) :
    Good r (State.field x0 x1) := by
  unfold State.field
  grind [State.answer_good]

theorem State.tagWrite_good (x0 x1 x2) (h0 : Good r (x0)) :
    Good r (State.tagWrite x0 x1 x2) := by
  induction x2 generalizing x0 x1 with
  | nil => exact h0
  | cons b bs ih =>
    refine ih _ _ ?_
    split
    · exact State.tagPut_good _ _ _ h0
    · split
      · exact State.tagPut_good _ _ _ h0
      · exact h0

theorem State.mboxEnd_good (x0 x1) (h0 : Good r (x0)) :
    Good r (State.mboxEnd x0 x1) := by
  unfold State.mboxEnd
  grind [State.tagWrite_good, State.raise_good, State.modMgt_good]

theorem State.readBlocks_good (x0 x1 x2) (h0 : Good r (x0)) :
    Good r (State.readBlocks x0 x1 x2) := by
  unfold State.readBlocks
  grind [State.answer_good]

theorem ctlTagAccessRead_good (x0 x1 x2) (h2 : Good r (x2)) :
    GoodOut r (ctlTagAccessRead x0 x1 x2) := by
  unfold ctlTagAccessRead
  grind [State.tagGo_good, GoodOut.next]

theorem ctlTagAccessWrite_good (x0 x1 x2) (h2 : Good r (x2)) :
    GoodOut r (ctlTagAccessWrite x0 x1 x2) := by
  unfold ctlTagAccessWrite
  grind [State.tagGo_good, GoodOut.next]

theorem State.wired_good (x0 x1) (h0 : Good r (x0)) :
    Good r (State.wired x0 x1) := by
  unfold State.wired
  grind [State.modMgt_good, State.answer_good, State.tagWrite_good]

theorem State.wiredIn_good (x0 x1) (h0 : Good r (x0)) :
    Good r (State.wiredIn x0 x1) := by
  unfold State.wiredIn
  grind [State.wired_good, State.modMgt_good]

theorem State.unhold_good (x0) (h0 : Good r (x0)) :
    Good r (State.unhold x0) := by
  unfold State.unhold
  grind [State.wiredIn_good, State.modMgt_good, Good.foldl, Good.foldl_fst, Good.foldl_snd]

theorem execConfigDigestWrite_good (x0) (h0 : Good r (x0)) :
    GoodOut r (execConfigDigestWrite x0) := by
  unfold execConfigDigestWrite
  grind [State.modMgt_good, State.tagWrite_good, GoodOut.next]

theorem execMboxAssetNote_good (x0) (h0 : Good r (x0)) :
    GoodOut r (execMboxAssetNote x0) := by
  unfold execMboxAssetNote
  grind [State.mboxEnd_good, State.tagWrite_good, GoodOut.next]

theorem execMboxInvalid_good (x0) (h0 : Good r (x0)) :
    GoodOut r (execMboxInvalid x0) := by
  unfold execMboxInvalid
  grind [State.mboxEnd_good, GoodOut.next]

theorem execMboxServiceMark_good (x0) (h0 : Good r (x0)) :
    GoodOut r (execMboxServiceMark x0) := by
  unfold execMboxServiceMark
  grind [State.mboxEnd_good, State.setTag_good, GoodOut.next]

theorem execTagAccessDone_good (x0 x1) (h1 : Good r (x1)) :
    GoodOut r (execTagAccessDone x0 x1) := by
  unfold execTagAccessDone
  grind [State.setTag_good, State.modMgt_good, State.tagWrite_good, State.setReg_good, GoodOut.next]

theorem execTagExtGetSystemInfo_good (x0) (h0 : Good r (x0)) :
    GoodOut r (execTagExtGetSystemInfo x0) := by
  unfold execTagExtGetSystemInfo
  grind [State.field_good, State.answer_good, GoodOut.next]

theorem execTagFault_good (x0) (h0 : Good r (x0)) :
    GoodOut r (execTagFault x0) := by
  unfold execTagFault
  grind [State.raise_good, GoodOut.next]

theorem execTagFieldUnsupported_good (x0 x1) (h1 : Good r (x1)) :
    GoodOut r (execTagFieldUnsupported x0 x1) := by
  unfold execTagFieldUnsupported
  grind [State.field_good, State.answer_good, GoodOut.next]

theorem execTagGetSystemInfo_good (x0) (h0 : Good r (x0)) :
    GoodOut r (execTagGetSystemInfo x0) := by
  unfold execTagGetSystemInfo
  grind [State.field_good, State.answer_good, GoodOut.next]

theorem execTagInventory_good (x0) (h0 : Good r (x0)) :
    GoodOut r (execTagInventory x0) := by
  unfold execTagInventory
  grind [State.field_good, State.answer_good, GoodOut.next]

theorem execTagLockTimeout_good (x0) (h0 : Good r (x0)) :
    GoodOut r (execTagLockTimeout x0) := by
  unfold execTagLockTimeout
  grind [State.unhold_good, State.modMgt_good, GoodOut.next]

theorem execTagReadMultipleBlocks_good (x0 x1 x2) (h2 : Good r (x2)) :
    GoodOut r (execTagReadMultipleBlocks x0 x1 x2) := by
  unfold execTagReadMultipleBlocks
  grind [State.field_good, State.answer_good, State.readBlocks_good, GoodOut.next]

theorem execTagReadSingleBlock_good (x0 x1) (h1 : Good r (x1)) :
    GoodOut r (execTagReadSingleBlock x0 x1) := by
  unfold execTagReadSingleBlock
  grind [State.field_good, State.readBlocks_good, GoodOut.next]

theorem execTagWiredAccess_good (x0 x1 x2 x3 x4 x5 x6) (h6 : Good r (x6)) :
    GoodOut r (execTagWiredAccess x0 x1 x2 x3 x4 x5 x6) := by
  unfold execTagWiredAccess
  grind [State.wiredIn_good, State.unhold_good, Good.set_resp, GoodOut.next]

theorem execTagWiredHoldTimeout_good (x0 x1) (h1 : Good r (x1)) :
    GoodOut r (execTagWiredHoldTimeout x0 x1) := by
  unfold execTagWiredHoldTimeout
  refine GoodOut.next ?_
  split
  · exact State.answer_good _ _ _ _ (State.modMgt_good _ _ h1)
  · exact h1

theorem execTagWriteSingleBlock_good (x0 x1 x2) (h2 : Good r (x2)) :
    GoodOut r (execTagWriteSingleBlock x0 x1 x2) := by
  unfold execTagWriteSingleBlock
  grind [State.field_good, State.answer_good, State.modMgt_good, State.tagWrite_good, State.bump_good, GoodOut.next]

end Sys2Proof.Machine
end

