-- ==== Sys2Proof/Laws/Start.lean ====
section
/-! SUPPORT. What each operation of Sys2Proof/Machine/Start.lean keeps: a state that is good (Laws/Good.lean) stays good. -/

namespace Sys2Proof.Machine

open Sys2Proof Sys2Proof.Safety

variable {r s : State}

theorem State.readBlocksOf_good (x0 x1) (h0 : Good r (x0)) :
    Good r (State.readBlocksOf x0 x1) := by
  unfold State.readBlocksOf
  grind [State.nandPush_good, Good.foldl, Good.foldl_fst, Good.foldl_snd]

theorem State.switched_good (x0 x1) (h0 : Good r (x0)) :
    Good r (State.switched x0 x1) := by
  unfold State.switched
  grind [State.modNv_good, State.raise_good, State.setSwitchDue_good]

theorem State.fallback_good (x0) (h0 : Good r (x0)) :
    Good r (State.fallback x0) := by
  unfold State.fallback
  grind [State.raise_good]

theorem State.applyPart_good (x0 x1) (h0 : Good r (x0)) :
    Good r (State.applyPart x0 x1) := by
  unfold State.applyPart
  grind [State.putTxn_good, State.fallback_good]

theorem State.setStage_good (x0 x1 x2) (h0 : Good r (x0)) :
    Good r (State.setStage x0 x1 x2) := by
  unfold State.setStage
  grind [State.setF_good]

theorem State.halt_good (x0 x1 x2) (h0 : Good r (x0)) :
    Good r (State.halt x0 x1 x2) := by
  unfold State.halt
  grind [State.setStage_good, State.drew_good, State.faultRecord_good, State.raise_good]

theorem State.loadFw_good (x0) (h0 : Good r (x0)) :
    Good r (State.loadFw x0) := by
  unfold State.loadFw
  grind [State.setF_good, State.showBoot_good, State.showNand_good, State.showVersion_good, State.showPages_good, Good.foldl,
    Good.foldl_fst, Good.foldl_snd]

theorem State.markBad_good (x0 x1) (h0 : Good r (x0)) :
    Good r (State.markBad x0 x1) := by
  unfold State.markBad
  grind [State.setSlot_good]

theorem State.reachStage_good (x0 x1) (h0 : Good r (x0)) :
    Good r (State.reachStage x0 x1) := by
  unfold State.reachStage
  grind [State.raise_good, State.setStage_good, State.modMgt_good]

theorem State.runImageOf_good (x0 x1) (h0 : Good r (x0)) :
    Good r (State.runImageOf x0 x1) := by
  unfold State.runImageOf
  dsimp only
  repeat' first
    | with_reducible assumption
    | with_reducible apply State.readBlocksOf_good
    | with_reducible apply State.switched_good
    | with_reducible apply State.setF_good
    | with_reducible apply State.modMgt_good
    | with_reducible apply State.setSlot_good
    | with_reducible apply State.nandPush_good
    | with_reducible apply State.reachStage_good
    | with_reducible apply State.setReg_good
    | split

theorem State.boot_good (x0 x1 x2 x3) (h0 : Good r (x0)) :
    Good r (State.boot x0 x1 x2 x3) := by
  unfold State.boot
  grind [State.halt_good, State.loadFw_good, State.runImageOf_good, State.markBad_good]

theorem State.loadFuses_good (x0) (h0 : Good r (x0)) :
    Good r (State.loadFuses x0) := by
  unfold State.loadFuses
  grind [State.markFaulty_good, Good.foldl, Good.foldl_fst, Good.foldl_snd]

theorem State.openStore_good (x0) (h0 : Good r (x0)) :
    Good r (State.openStore x0) := by
  unfold State.openStore
  grind [State.setF_good, State.fallback_good]

theorem State.setSubst_good (x0 x1 x2 x3) (h0 : Good r (x0)) :
    Good r (State.setSubst x0 x1 x2 x3) := by
  unfold State.setSubst
  grind [State.setF_good]

theorem State.remapRow_good (x0 x1 x2) (h0 : Good r (x0)) :
    Good r (State.remapRow x0 x1 x2) := by
  unfold State.remapRow
  grind [State.setSubst_good, State.setF_good, State.raise_good, Good.foldl, Good.foldl_fst, Good.foldl_snd]

theorem State.startRoles_good (x0) (h0 : Good r (x0)) :
    Good r (State.startRoles x0) := by
  unfold State.startRoles
  dsimp only
  repeat' first
    | with_reducible assumption
    | with_reducible apply State.setF_good
    | with_reducible apply State.setEpoch_good
    | with_reducible apply State.modMgt_good
    | with_reducible apply State.leaseNow_good

theorem State.makeAlias_good (x0) (h0 : Good r (x0)) :
    Good r (State.makeAlias x0) := by
  unfold State.makeAlias
  grind [State.drawn_good, State.modSec_good]

theorem State.stage1_good (x0) (h0 : Good r (x0)) :
    Good r (State.stage1 x0) := by
  unfold State.stage1
  dsimp only
  repeat first
    | with_reducible apply State.relevelAll_good
    | with_reducible apply State.loadCal_good
    | with_reducible apply State.makeAlias_good
    | with_reducible apply State.setReg_good
    | with_reducible apply State.setF_good
    | (refine Good.foldl ?_ fun s i h => State.setReg_good h _ _)
    | with_reducible apply State.countCells_good
    | (refine Good.foldl ?_ fun s i h => State.remapRow_good _ _ _ h)
    | with_reducible apply State.applyPart_good
    | with_reducible apply State.openStore_good
    | with_reducible apply State.loadFuses_good
    | with_reducible apply State.startRoles_good
    | with_reducible apply State.deliver_good
    | exact Good.set_clk_evt h0 _ _

theorem State.stage2_good (x0) (h0 : Good r (x0)) :
    Good r (State.stage2 x0) := by
  unfold State.stage2
  grind [State.setF_good, State.modSec_good, State.applyPart_good, State.setSliceOwner_good, State.finishClearing_good, Good.foldl,
    Good.foldl_fst, Good.foldl_snd]

theorem State.sayReady_good (x0) (h0 : Good r (x0)) :
    Good r (State.sayReady x0) := by
  unfold State.sayReady
  grind [State.modMgt_good]

theorem State.stage3_good (x0) (h0 : Good r (x0)) :
    Good r (State.stage3 x0) := by
  unfold State.stage3
  grind [State.setF_good, State.applyPart_good, State.sayReady_good]

theorem State.enterStage_good (x0 x1) (h0 : Good r (x0)) :
    Good r (State.enterStage x0 x1) := by
  unfold State.enterStage
  grind [State.reachStage_good, State.stage1_good, State.stage2_good, State.stage3_good]

theorem execStageTimeout_good (x0 x1) (h1 : Good r (x1)) :
    GoodOut r (execStageTimeout x0 x1) := by
  unfold execStageTimeout
  grind [State.halt_good, GoodOut.next]

theorem execStandbyUp_good (x0 x1 x2 x3) (h3 : Good r (x3)) :
    GoodOut r (execStandbyUp x0 x1 x2 x3) := by
  unfold execStandbyUp
  grind [State.tryStart_good, State.boot_good, State.coldStart_good, GoodOut.next]

end Sys2Proof.Machine
end

