-- ==== Sys2Proof/Laws/TierCmds.lean ====
section
/-! SUPPORT. What each operation of Sys2Proof/Machine/TierCmds.lean keeps: a state that is good (Laws/Good.lean) stays good. -/

namespace Sys2Proof.Machine

open Sys2Proof Sys2Proof.Safety

variable {r s : State}

theorem State.walkGo_good (x0 x1 x2 x3 x4 x5 x6 x7) (h0 : Good r (x0)) :
    Good r (State.walkGo x0 x1 x2 x3 x4 x5 x6 x7).1 := by
  induction x6 generalizing x0 x7 with
  | zero => exact h0
  | succ n ih =>
    unfold State.walkGo
    split
    · exact ih _ _ h0
    · split
      · have h := State.migrate_good x0 x1 x2 x7 x4 x5 h0
        split
        · next e => rw [e] at h; exact h
        · next e => rw [e] at h; exact h
        · next e => rw [e] at h; exact h
        · next e => rw [e] at h; exact ih _ _ h
      · have h : Good r (if x3 = 1 then (x0.settle x7).evict x7 else (x0.settle x7).cleanBlk x7) := by
          split
          · exact State.evict_good _ _ (State.settle_good _ _ h0)
          · exact State.cleanBlk_good _ _ (State.settle_good _ _ h0)
        dsimp only
        generalize (if x3 = 1 then (x0.settle x7).evict x7 else (x0.settle x7).cleanBlk x7) = u at h ⊢
        split
        · exact h
        · exact ih _ _ h

theorem State.setWalker_good (x0 x1 x2 x3) (h0 : Good r (x0)) :
    Good r (State.setWalker x0 x1 x2 x3) := by
  unfold State.setWalker
  grind [Good.set_mem_walkers]

theorem State.setWalkSt_good (x0 x1 x2 x3 x4) (h0 : Good r (x0)) :
    Good r (State.setWalkSt x0 x1 x2 x3 x4) := by
  unfold State.setWalkSt
  grind [State.setF_good]

theorem State.walkServe_good (x0 x1 x2) (h0 : Good r (x0)) :
    Good r (State.walkServe x0 x1 x2) := by
  unfold State.walkServe
  grind [State.walkGo_good, State.count_good, State.setWalker_good, State.setWalkSt_good]

theorem State.setWalkNext_good (x0 x1 x2) (h0 : Good r (x0)) :
    Good r (State.setWalkNext x0 x1 x2) := by
  unfold State.setWalkNext
  grind [Good.set_mem_walkNext]

theorem State.walkTurns_good (x0 x1 x2) (h0 : Good r (x0)) :
    Good r (State.walkTurns x0 x1 x2) := by
  induction x2 generalizing x0 with
  | zero => exact h0
  | succ n ih =>
    unfold State.walkTurns
    split
    · exact h0
    · split
      · exact h0
      · exact ih _ (State.setWalkNext_good _ _ _ (State.walkServe_good _ _ _ h0))

theorem State.walkHalt_good (x0 x1 x2 x3) (h0 : Good r (x0)) :
    Good r (State.walkHalt x0 x1 x2 x3) := by
  unfold State.walkHalt
  grind [State.setWalkSt_good]

theorem State.walkRefuse_good (x0 x1 x2) (h0 : Good r (x0)) :
    Good r (State.walkRefuse x0 x1 x2) := by
  unfold State.walkRefuse
  grind [State.walkHalt_good, State.setWalker_good]

theorem State.retryBlock_good (x0 x1) (h0 : Good r (x0)) :
    Good r (State.retryBlock x0 x1) := State.retry_good _ _ h0

theorem State.afterMove_good (x0 x1) (h0 : Good r (x0)) :
    Good r (State.afterMove x0 x1) := by
  exact State.walkTurns_good _ _ _ (State.retryBlock_good _ _ h0)

theorem State.opStatus_good (x0 x1 x2 x3 x4 x5) (h0 : Good r (x0)) :
    Good r (State.opStatus x0 x1 x2 x3 x4 x5) := by
  unfold State.opStatus
  grind [State.setF_good]

theorem State.walkOff_good (x0 x1 x2) (h0 : Good r (x0)) :
    Good r (State.walkOff x0 x1 x2) := by
  unfold State.walkOff
  grind [State.setWalkSt_good, State.setF_good]

theorem State.walkRetry_good (x0 x1 x2) (h0 : Good r (x0)) :
    Good r (State.walkRetry x0 x1 x2) := by
  unfold State.walkRetry
  grind [State.setWalkSt_good, State.walkRefuse_good]

theorem State.walkStart_good (x0 x1 x2) (h0 : Good r (x0)) :
    Good r (State.walkStart x0 x1 x2) := by
  have h := State.setWalker_good _ x1 x2 {} (State.setReg_good h0 (R.TIER_WALK_STATUS x1 x2) 0)
  unfold State.walkStart
  dsimp only
  split
  · exact State.walkRefuse_good _ _ _ h
  · split
    · exact h
    · exact State.setWalkSt_good _ _ _ _ _ h

theorem State.walkWrite_good (x0 x1 x2 x3) (h0 : Good r (x0)) :
    Good r (State.walkWrite x0 x1 x2 x3) := by
  unfold State.walkWrite
  grind [State.walkRetry_good, State.walkOff_good, State.plainWrite_good, State.walkStart_good, State.walkRefuse_good]

theorem State.opBlock_good (x0 x1 x2 x3 x4 x5) (h0 : Good r (x0)) :
    Good r (State.opBlock x0 x1 x2 x3 x4 x5).1 := by
  unfold State.opBlock
  grind [State.migrate_good, State.settle_good, State.evict_good, State.cleanBlk_good, Good.foldl, Good.foldl_fst, Good.foldl_snd]

theorem State.tierOp_good (x0 x1 x2 x3 x4 x5) (h0 : Good r (x0)) :
    Good r (State.tierOp x0 x1 x2 x3 x4 x5) := by
  unfold State.tierOp
  grind [State.opStatus_good, State.opBlock_good, Good.foldl, Good.foldl_fst, Good.foldl_snd, Good.set_mem_ops]

theorem ctlTierOpClean_good (x0 x1 x2 x3 x4) (h4 : Good r (x4)) :
    GoodOut r (ctlTierOpClean x0 x1 x2 x3 x4) := by
  unfold ctlTierOpClean
  grind [State.ctlDo_good, State.tierOp_good, GoodOut.next]

theorem ctlTierOpEvict_good (x0 x1 x2 x3 x4) (h4 : Good r (x4)) :
    GoodOut r (ctlTierOpEvict x0 x1 x2 x3 x4) := by
  unfold ctlTierOpEvict
  grind [State.ctlDo_good, State.tierOp_good, GoodOut.next]

theorem ctlTierOpMigrate_good (x0 x1 x2 x3 x4 x5) (h5 : Good r (x5)) :
    GoodOut r (ctlTierOpMigrate x0 x1 x2 x3 x4 x5) := by
  unfold ctlTierOpMigrate
  grind [State.ctlDo_good, State.tierOp_good, GoodOut.next]

theorem State.readEntry_good (x0 x1 x2) (h0 : Good r (x0)) :
    Good r (State.readEntry x0 x1 x2).1 := by
  unfold State.readEntry
  grind [State.uRead_good]

theorem ctlWalkDisable_good (x0 x1 x2 x3) (h3 : Good r (x3)) :
    GoodOut r (ctlWalkDisable x0 x1 x2 x3) := by
  unfold ctlWalkDisable
  grind [State.ctlDo_good, State.walkOff_good, GoodOut.next]

theorem ctlWalkEnable_good (x0 x1 x2 x3 x4) (h4 : Good r (x4)) :
    GoodOut r (ctlWalkEnable x0 x1 x2 x3 x4) := by
  unfold ctlWalkEnable
  grind [State.ctlDo_good, State.walkWrite_good, GoodOut.next]

theorem ctlWalkResume_good (x0 x1 x2 x3) (h3 : Good r (x3)) :
    GoodOut r (ctlWalkResume x0 x1 x2 x3) := by
  unfold ctlWalkResume
  grind [State.ctlDo_good, State.walkRetry_good, GoodOut.next]

theorem State.walkAdvance_good (x0 x1 x2) (h0 : Good r (x0)) :
    Good r (State.walkAdvance x0 x1 x2) := by
  unfold State.walkAdvance
  dsimp only
  repeat' first
    | with_reducible assumption
    | with_reducible apply State.setWalkSt_good
    | with_reducible apply State.setReg_good
    | split

theorem State.walkOn_good (x0 x1 x2) (h0 : Good r (x0)) :
    Good r (State.walkOn x0 x1 x2) := by
  unfold State.walkOn
  grind [State.walkGo_good, State.setWalkSt_good, State.setWalker_good, State.walkServe_good, State.walkTurns_good]

theorem State.walkSignal_good (x0 x1 x2) (h0 : Good r (x0)) :
    Good r (State.walkSignal x0 x1 x2) := by
  unfold State.walkSignal
  grind [State.signalTo_good]

theorem State.walkStop_good (x0 x1 x2 x3) (h0 : Good r (x0)) :
    Good r (State.walkStop x0 x1 x2 x3) := by
  unfold State.walkStop
  grind [State.raise_good, State.setWalker_good, State.walkHalt_good]

theorem execDrainDone_good (x0 x1) (h1 : Good r (x1)) :
    GoodOut r (execDrainDone x0 x1) := by
  unfold execDrainDone
  grind [State.afterMove_good, State.retryBlock_good, State.finishDrain_good, GoodOut.next]

theorem execFillDone_good (x0 x1) (h1 : Good r (x1)) :
    GoodOut r (execFillDone x0 x1) := by
  unfold execFillDone
  grind [State.afterMove_good, State.retryBlock_good, State.finishFill_good, GoodOut.next]

theorem execFillStart_good (x0 x1 x2 x3 x4 x5) (h5 : Good r (x5)) :
    GoodOut r (execFillStart x0 x1 x2 x3 x4 x5) := by
  unfold execFillStart
  grind [State.migrate_good, GoodOut.next]

theorem execTierOpDone_good (x0 x1) (h1 : Good r (x1)) :
    GoodOut r (execTierOpDone x0 x1) := by
  unfold execTierOpDone
  grind [State.setF_good, Good.set_mem_ops, GoodOut.next, State.count_good]

theorem execWalkEntryDone_good (x0 x1 x2) (h2 : Good r (x2)) :
    GoodOut r (execWalkEntryDone x0 x1 x2) := by
  unfold execWalkEntryDone
  grind [State.walkAdvance_good, State.walkSignal_good, State.setWalker_good, GoodOut.next, State.count_good]

theorem execWalkEntryStart_good (x0 x1 x2) (h2 : Good r (x2)) :
    GoodOut r (execWalkEntryStart x0 x1 x2) := by
  unfold execWalkEntryStart
  grind [State.readEntry_good, State.walkStop_good, State.walkOn_good, State.setWalker_good, GoodOut.next, State.walkTurns_good]

theorem execWalkFrameAvailable_good (x0 x1 x2) (h2 : Good r (x2)) :
    GoodOut r (execWalkFrameAvailable x0 x1 x2) := by
  unfold execWalkFrameAvailable
  grind [State.walkOn_good, GoodOut.next]

end Sys2Proof.Machine
end

