-- ==== Sys2Proof/Laws/Host.lean ====
section
/-! SUPPORT. What each operation of Sys2Proof/Machine/Host.lean keeps: a state that is good (Laws/Good.lean) stays good. -/

namespace Sys2Proof.Machine

open Sys2Proof Sys2Proof.Safety

variable {r s : State}

theorem State.wake_good (x0) (h0 : Good r (x0)) :
    Good r (State.wake x0) := by
  unfold State.wake
  grind [State.pstateEvent_good, State.warmRestart_good, State.setPstate_good, State.wakePort_good, State.selfRefresh_good,
    State.resetCell_good, State.relevelAll_good, Good.foldl, Good.foldl_fst, Good.foldl_snd, State.rouse_good]

theorem State.parkPort_good (x0 x1) (h0 : Good r (x0)) :
    Good r (State.parkPort x0 x1) := by
  unfold State.parkPort
  grind [State.askPark_good]

theorem State.darkPort_good (x0 x1) (h0 : Good r (x0)) :
    Good r (State.darkPort x0 x1) := by
  unfold State.darkPort
  dsimp only
  repeat' first
    | with_reducible assumption
    | with_reducible apply State.setPortSt_good
    | with_reducible apply State.refreshPort_good
    | with_reducible apply State.parkFull_good
    | with_reducible apply State.setPort_good

theorem State.enterP4_good (x0) (h0 : Good r (x0)) :
    Good r (State.enterP4 x0) := by
  unfold State.enterP4
  grind [State.releaseWard_good, State.darkPort_good, State.modSec_good, Good.foldl, Good.foldl_fst, Good.foldl_snd]

theorem State.enterPstate_good (x0 x1) (h0 : Good r (x0)) :
    Good r (State.enterPstate x0 x1) := by
  unfold State.enterPstate
  grind [State.setPstate_good, State.selfRefresh_good, State.releaseWard_good, State.darkPort_good, State.pstateEvent_good,
    State.relevelAll_good, Good.foldl, Good.foldl_fst, Good.foldl_snd, State.abandon_good, State.parkPort_good, State.enterP4_good]

theorem State.settlePstate_good (x0) (h0 : Good r (x0)) :
    Good r (State.settlePstate x0) := by
  unfold State.settlePstate
  grind [State.enterPstate_good, State.abandon_good, State.wake_good, State.shallower_good]

theorem State.setTol_good (x0 x1 x2) (h0 : Good r (x0)) :
    Good r (State.setTol x0 x1 x2) := by
  unfold State.setTol
  grind [State.ctlDo_good, State.plainWrite_good, State.wake_good]

theorem State.barEnd_good (x0 x1 x2 x3) (h0 : Good r (x0)) :
    Good r (State.barEnd x0 x1 x2 x3) := by
  unfold State.barEnd
  grind [State.answer_good, State.hostErr_good]

theorem State.cfgWrite_good (x0 x1 x2) (h0 : Good r (x0)) :
    Good r (State.cfgWrite x0 x1 x2) := by
  have h : Good r { x0 with mem := { x0.mem with cfgSpace := minsert (x1 / 4 * 4) x2 x0.mem.cfgSpace, hostCfg := true } } :=
    h0.set_mem ⟨h0.1.1.1, h0.1.1.2, h0.1.1.3, h0.1.1.4, h0.1.1.5⟩
  have key : ∀ t : State, Good r t → ∀ d e, Good r { t with mem := { t.mem with hdm := d, hdmError := e } } := fun t h d n =>
    h.set_mem ⟨h.1.1.1, h.1.1.2, h.1.1.3, h.1.1.4, h.1.1.5⟩
  unfold State.cfgWrite
  dsimp only
  split
  · exact h
  · exact key _ h _ _
  · split
    · exact key _ h _ _
    · exact h.set_mem ⟨h.1.1.1, h.1.1.2, h.1.1.3, h.1.1.4, h.1.1.5⟩

theorem State.cxlEnd_good (x0 x1 x2 x3) (h0 : Good r (x0)) :
    Good r (State.cxlEnd x0 x1 x2 x3) := by
  unfold State.cxlEnd
  grind [State.answer_good, State.hostErr_good]

theorem State.cxlServe_good (x0 x1 x2 x3) (h0 : Good r (x0)) :
    Good r (State.cxlServe x0 x1 x2 x3).s := by
  unfold State.cxlServe
  grind [State.fencedRes_good, State.serveHome_good]

theorem State.noteHeld_good (x0 x1) (h0 : Good r (x0)) :
    Good r (State.noteHeld x0 x1) := by
  unfold State.noteHeld
  grind [Good.set_mem_snoop]

theorem State.cxlRead_good (x0 x1 x2) (h0 : Good r (x0)) :
    Good r (State.cxlRead x0 x1 x2) := by
  unfold State.cxlRead
  grind [State.cxlServe_good, State.cxlEnd_good, State.noteHeld_good, LineRes.s_good]

theorem State.cxlWrite_good (x0 x1 x2 x3) (h0 : Good r (x0)) :
    Good r (State.cxlWrite x0 x1 x2 x3) := by
  unfold State.cxlWrite
  grind [State.cxlServe_good, State.cxlEnd_good, LineRes.s_good]

theorem State.doorbell_good (x0 x1 x2 x3) (h0 : Good r (x0)) :
    Good r (State.doorbell x0 x1 x2 x3) := by
  unfold State.doorbell
  grind [State.barEnd_good, State.answer_good, State.bellProd_good, State.bellCq_good]

theorem State.flrQueue_good (x0 x1) (h0 : Good r (x0)) :
    Good r (State.flrQueue x0 x1) := by
  unfold State.flrQueue
  grind [State.ctxPut_good, State.modX_good]

theorem State.hostWake_good (x0 x1 x2) (h0 : Good r (x0)) (h2 : ∀ y0, Good r (y0) → Good r (x2 y0)) :
    Good r (State.hostWake x0 x1 x2) := by
  unfold State.hostWake
  grind [State.answer_good, State.wake_good, State.modMgt_good]

theorem State.linkReset_good (x0) (h0 : Good r (x0)) :
    Good r (State.linkReset x0) := by
  have key : ∀ t : State, Good r t → Good r { t with
      mem := { t.mem with dcache := [], hostCfg := false, cfgSpace := [], hdm := none, hdmError := false, snoop := [] }
      evt := { t.evt with msix := [] } } := fun t h =>
    ⟨⟨⟨h.1.1.1, h.1.1.2, h.1.1.3, h.1.1.4, h.1.1.5⟩, h.1.2, h.1.3⟩, h.2, h.3, h.4⟩
  have h := key _ (State.setF_good _ R.HOST_LINK_STATUS F.HOST_LINK_STATUS_CXL 0 (State.setF_good _ R.HOST_LINK_STATUS F.HOST_LINK_STATUS_WIDTH 0
    (State.setF_good x0 R.HOST_LINK_STATUS F.HOST_LINK_STATUS_SPEED 0 h0)))
  unfold State.linkReset
  refine State.raise_good _ _ ?_
  split
  · exact State.raise_good _ _ h
  · exact h

theorem State.place_good (x0 x1 x2) (h0 : Good r (x0)) :
    Good r (State.place x0 x1 x2) := by
  unfold State.place
  grind [State.barEnd_good, State.devWrite_good]

theorem State.placeFlag_good (x0 x1 x2) (h0 : Good r (x0)) :
    Good r (State.placeFlag x0 x1 x2) := by
  unfold State.placeFlag
  grind [State.answer_good, State.barEnd_good, State.regionSignal_good, State.drew_good]

theorem execCxlMemRead_good (x0 x1 x2) (h2 : Good r (x2)) :
    GoodOut r (execCxlMemRead x0 x1 x2) := by
  unfold execCxlMemRead
  grind [State.hostWake_good, State.cxlRead_good, GoodOut.next, State.answer_good]

theorem execCxlMemWrite_good (x0 x1 x2 x3) (h3 : Good r (x3)) :
    GoodOut r (execCxlMemWrite x0 x1 x2 x3) := by
  unfold execCxlMemWrite
  grind [State.hostWake_good, State.cxlWrite_good, GoodOut.next, State.answer_good]

theorem execHostBar4Write_good (x0 x1 x2) (h2 : Good r (x2)) :
    GoodOut r (execHostBar4Write x0 x1 x2) := by
  unfold execHostBar4Write
  grind [State.hostWake_good, State.place_good, GoodOut.next]

theorem execHostDoorbellCq_good (x0 x1 x2 x3) (h3 : Good r (x3)) :
    GoodOut r (execHostDoorbellCq x0 x1 x2 x3) := by
  unfold execHostDoorbellCq
  grind [State.hostWake_good, State.doorbell_good, GoodOut.next]

theorem execHostDoorbellProd_good (x0 x1 x2 x3) (h3 : Good r (x3)) :
    GoodOut r (execHostDoorbellProd x0 x1 x2 x3) := by
  unfold execHostDoorbellProd
  grind [State.hostWake_good, State.doorbell_good, GoodOut.next]

theorem execHostPlaceFlag_good (x0 x1 x2) (h2 : Good r (x2)) :
    GoodOut r (execHostPlaceFlag x0 x1 x2) := by
  unfold execHostPlaceFlag
  grind [State.hostWake_good, State.placeFlag_good, GoodOut.next]

theorem execPmTolWrite_good (x0 x1 x2) (h2 : Good r (x2)) :
    GoodOut r (execPmTolWrite x0 x1 x2) := by
  unfold execPmTolWrite
  grind [State.hostWake_good, State.setTol_good, GoodOut.next]

theorem State.snooped_good (x0 x1 x2) (h0 : Good r (x0)) :
    Good r (State.snooped x0 x1 x2) := by
  unfold State.snooped
  grind [State.dput_good, Good.set_mem_dcache, Good.set_mem_host, Memory.wf_putBytes, Good.memory, MemCanonical.hbm, MemCanonical.frame,
    MemCanonical.host, MemCanonical.cstore, MemCanonical.imem]

theorem execFlr_good (x0) (h0 : Good r (x0)) :
    GoodOut r (execFlr x0) := by
  unfold execFlr
  grind [State.ctxLoad_good, State.flrQueue_good, State.linkReset_good, Good.foldl, Good.foldl_fst, Good.foldl_snd, GoodOut.next]

theorem execHostBar4Read_good (x0 x1) (h1 : Good r (x1)) :
    GoodOut r (execHostBar4Read x0 x1) := by
  unfold execHostBar4Read
  grind [State.barEnd_good, State.answer_good, GoodOut.next]

theorem execHostConfigRequest_good (x0 x1 x2 x3) (h3 : Good r (x3)) :
    GoodOut r (execHostConfigRequest x0 x1 x2 x3) := by
  unfold execHostConfigRequest
  grind [State.answer_good, State.cfgWrite_good, GoodOut.next]

theorem execHostLinkDown_good (x0) (h0 : Good r (x0)) :
    GoodOut r (execHostLinkDown x0) := by
  unfold execHostLinkDown
  grind [State.linkReset_good, GoodOut.next]

theorem execHostLinkUp_good (x0 x1 x2 x3) (h3 : Good r (x3)) :
    GoodOut r (execHostLinkUp x0 x1 x2 x3) := by
  unfold execHostLinkUp
  grind [State.setF_good, State.raise_good, State.modSup_good, GoodOut.next]

theorem execHostSnoop_good (x0 x1 x2 x3) (h3 : Good r (x3)) :
    GoodOut r (execHostSnoop x0 x1 x2 x3) := by
  unfold execHostSnoop
  grind [State.snooped_good, State.answer_good, Good.set_mem_host, Memory.wf_putBytes, Good.memory, MemCanonical.hbm, MemCanonical.frame,
    MemCanonical.host, MemCanonical.cstore, MemCanonical.imem, GoodOut.next]

theorem execHotReset_good (x0) (h0 : Good r (x0)) :
    GoodOut r (execHotReset x0) := by
  unfold execHotReset
  grind [State.linkReset_good, GoodOut.next]

theorem execPerstAssert_good (x0) (h0 : Good r (x0)) :
    GoodOut r (execPerstAssert x0) := by
  unfold execPerstAssert
  grind [State.modSup_good, State.linkReset_good, GoodOut.next]

theorem execPerstDeassert_good (x0) (h0 : Good r (x0)) :
    GoodOut r (execPerstDeassert x0) := by
  unfold execPerstDeassert
  grind [State.modSup_good, GoodOut.next]

theorem execPstateEntry_good (x0 x1) (h1 : Good r (x1)) :
    GoodOut r (execPstateEntry x0 x1) := by
  unfold execPstateEntry
  grind [State.enterPstate_good, GoodOut.next, State.setF_good, Good.set_mgt]

theorem execPstateWake_good (x0) (h0 : Good r (x0)) :
    GoodOut r (execPstateWake x0) := by
  unfold execPstateWake
  grind [State.wake_good, GoodOut.next]

end Sys2Proof.Machine
end

