-- ==== Sys2Proof/Laws/Writes.lean ====
section
/-! SUPPORT. What each operation of Sys2Proof/Machine/Writes.lean keeps: a state that is good (Laws/Good.lean) stays good. -/

namespace Sys2Proof.Machine

open Sys2Proof Sys2Proof.Safety

variable {r s : State}

theorem State.byHost_good (x0 x1 x2 x3) (h0 : Good r (x0)) (h3 : ∀ y0, Good r (y0) → GoodOut r (x3 y0)) :
    GoodOut r (State.byHost x0 x1 x2 x3) := by
  unfold State.byHost
  grind [State.answer_good, State.wake_good, State.modMgt_good, GoodOut.next]

theorem execCollAbortWrite_good (x0 x1 x2) (h2 : Good r (x2)) :
    GoodOut r (execCollAbortWrite x0 x1 x2) := 
  State.byHost_good _ _ _ _ h2 fun _ h => ctlCollAbortWrite_good _ _ _ h

theorem execCtxCmdRead_good (x0 x1 x2) (h2 : Good r (x2)) :
    GoodOut r (execCtxCmdRead x0 x1 x2) := 
  State.byHost_good _ _ _ _ h2 fun _ h => ctlCtxCmdRead_good _ _ _ h

theorem execCtxCmdWrite_good (x0 x1 x2) (h2 : Good r (x2)) :
    GoodOut r (execCtxCmdWrite x0 x1 x2) := 
  State.byHost_good _ _ _ _ h2 fun _ h => ctlCtxCmdWrite_good _ _ _ h

theorem execEvtNandRead_good (x0 x1 x2 x3) (h3 : Good r (x3)) :
    GoodOut r (execEvtNandRead x0 x1 x2 x3) := 
  State.byHost_good _ _ _ _ h3 fun _ h => ctlEvtNandRead_good _ _ _ _ h

theorem execFgFlush_good (x0 x1 x2) (h2 : Good r (x2)) :
    GoodOut r (execFgFlush x0 x1 x2) := 
  State.byHost_good _ _ _ _ h2 fun _ h => ctlFgFlush_good _ _ _ h

theorem execFgResume_good (x0 x1 x2) (h2 : Good r (x2)) :
    GoodOut r (execFgResume x0 x1 x2) := 
  State.byHost_good _ _ _ _ h2 fun _ h => ctlFgResume_good _ _ _ h

theorem execFillEnableWrite_good (x0 x1 x2 x3) (h3 : Good r (x3)) :
    GoodOut r (execFillEnableWrite x0 x1 x2 x3) := 
  State.byHost_good _ _ _ _ h3 fun _ h => ctlFillEnableWrite_good _ _ _ _ h

theorem execFillFlush_good (x0 x1 x2) (h2 : Good r (x2)) :
    GoodOut r (execFillFlush x0 x1 x2) := 
  State.byHost_good _ _ _ _ h2 fun _ h => ctlFillFlush_good _ _ _ h

theorem execFillResume_good (x0 x1 x2) (h2 : Good r (x2)) :
    GoodOut r (execFillResume x0 x1 x2) := 
  State.byHost_good _ _ _ _ h2 fun _ h => ctlFillResume_good _ _ _ h

theorem execFwConfirm_good (x0 x1) (h1 : Good r (x1)) :
    GoodOut r (execFwConfirm x0 x1) := 
  State.byHost_good _ _ _ _ h1 fun _ h => ctlFwConfirm_good _ _ h

theorem execFwInstall_good (x0 x1 x2) (h2 : Good r (x2)) :
    GoodOut r (execFwInstall x0 x1 x2) := 
  State.byHost_good _ _ _ _ h2 fun _ h => ctlFwInstall_good _ _ _ h

theorem execFwInstallCal_good (x0 x1 x2) (h2 : Good r (x2)) :
    GoodOut r (execFwInstallCal x0 x1 x2) := 
  State.byHost_good _ _ _ _ h2 fun _ h => ctlFwInstallCal_good _ _ _ h

theorem execFwSwitchLive_good (x0 x1) (h1 : Good r (x1)) :
    GoodOut r (execFwSwitchLive x0 x1) := 
  State.byHost_good _ _ _ _ h1 fun _ h => ctlFwSwitchLive_good _ _ h

theorem execFwSwitchNext_good (x0 x1) (h1 : Good r (x1)) :
    GoodOut r (execFwSwitchNext x0 x1) := 
  State.byHost_good _ _ _ _ h1 fun _ h => ctlFwSwitchNext_good _ _ h

theorem execImemWrite_good (x0 x1 x2 x3 x4) (h4 : Good r (x4)) :
    GoodOut r (execImemWrite x0 x1 x2 x3 x4) := 
  State.byHost_good _ _ _ _ h4 fun _ h => ctlImemWrite_good _ _ _ _ _ h

theorem execOrderHandOff_good (x0 x1 x2) (h2 : Good r (x2)) :
    GoodOut r (execOrderHandOff x0 x1 x2) := 
  State.byHost_good _ _ _ _ h2 fun _ h => ctlOrderHandOff_good _ _ _ h

theorem execOrderTakeLead_good (x0 x1 x2 x3) (h3 : Good r (x3)) :
    GoodOut r (execOrderTakeLead x0 x1 x2 x3) := 
  State.byHost_good _ _ _ _ h3 fun _ h => ctlOrderTakeLead_good _ _ _ _ h

theorem execPcRetrainStart_good (x0 x1 x2 x3) (h3 : Good r (x3)) :
    GoodOut r (execPcRetrainStart x0 x1 x2 x3) := 
  State.byHost_good _ _ _ _ h3 fun _ h => ctlPcRetrainStart_good _ _ _ _ h

theorem execRegionClearNow_good (x0 x1 x2 x3 x4) (h4 : Good r (x4)) :
    GoodOut r (execRegionClearNow x0 x1 x2 x3 x4) := 
  State.byHost_good _ _ _ _ h4 fun _ h => ctlRegionClearNow_good _ _ _ _ _ h

theorem execRegionDeregister_good (x0 x1 x2) (h2 : Good r (x2)) :
    GoodOut r (execRegionDeregister x0 x1 x2) := 
  State.byHost_good _ _ _ _ h2 fun _ h => ctlRegionDeregister_good _ _ _ h

theorem execRegionRegister_good (x0 x1 x2 x3 x4 x5) (h5 : Good r (x5)) :
    GoodOut r (execRegionRegister x0 x1 x2 x3 x4 x5) := 
  State.byHost_good _ _ _ _ h5 fun _ h => ctlRegionRegister_good _ _ _ _ _ _ h

theorem execRegionReset_good (x0 x1 x2 x3 x4) (h4 : Good r (x4)) :
    GoodOut r (execRegionReset x0 x1 x2 x3 x4) := 
  State.byHost_good _ _ _ _ h4 fun _ h => ctlRegionReset_good _ _ _ _ _ h

theorem execRetime_good (x0 x1 x2) (h2 : Good r (x2)) :
    GoodOut r (execRetime x0 x1 x2) := 
  State.byHost_good _ _ _ _ h2 fun _ h => ctlRetime_good _ _ _ h

theorem execSeqHalt_good (x0 x1 x2 x3) (h3 : Good r (x3)) :
    GoodOut r (execSeqHalt x0 x1 x2 x3) := 
  State.byHost_good _ _ _ _ h3 fun _ h => ctlSeqHalt_good _ _ _ _ h

theorem execSeqRun_good (x0 x1 x2 x3) (h3 : Good r (x3)) :
    GoodOut r (execSeqRun x0 x1 x2 x3) := 
  State.byHost_good _ _ _ _ h3 fun _ h => ctlSeqRun_good _ _ _ _ h

theorem execSfnBcastWrite_good (x0 x1 x2 x3 x4) (h4 : Good r (x4)) :
    GoodOut r (execSfnBcastWrite x0 x1 x2 x3 x4) := 
  State.byHost_good _ _ _ _ h4 fun _ h => ctlSfnBcastWrite_good _ _ _ _ _ h

theorem execSfnTableWrite_good (x0 x1 x2 x3 x4) (h4 : Good r (x4)) :
    GoodOut r (execSfnTableWrite x0 x1 x2 x3 x4) := 
  State.byHost_good _ _ _ _ h4 fun _ h => ctlSfnTableWrite_good _ _ _ _ _ h

theorem execSfnTdescWrite_good (x0 x1 x2 x3 x4) (h4 : Good r (x4)) :
    GoodOut r (execSfnTdescWrite x0 x1 x2 x3 x4) := 
  State.byHost_good _ _ _ _ h4 fun _ h => ctlSfnTdescWrite_good _ _ _ _ _ h

theorem execSyncCtrWrite_good (x0 x1 x2 x3 x4) (h4 : Good r (x4)) :
    GoodOut r (execSyncCtrWrite x0 x1 x2 x3 x4) := 
  State.byHost_good _ _ _ _ h4 fun _ h => ctlSyncCtrWrite_good _ _ _ _ _ h

theorem execTagAccessRead_good (x0 x1 x2) (h2 : Good r (x2)) :
    GoodOut r (execTagAccessRead x0 x1 x2) := 
  State.byHost_good _ _ _ _ h2 fun _ h => ctlTagAccessRead_good _ _ _ h

theorem execTagAccessWrite_good (x0 x1 x2) (h2 : Good r (x2)) :
    GoodOut r (execTagAccessWrite x0 x1 x2) := 
  State.byHost_good _ _ _ _ h2 fun _ h => ctlTagAccessWrite_good _ _ _ h

theorem execTierOpClean_good (x0 x1 x2 x3 x4) (h4 : Good r (x4)) :
    GoodOut r (execTierOpClean x0 x1 x2 x3 x4) := 
  State.byHost_good _ _ _ _ h4 fun _ h => ctlTierOpClean_good _ _ _ _ _ h

theorem execTierOpEvict_good (x0 x1 x2 x3 x4) (h4 : Good r (x4)) :
    GoodOut r (execTierOpEvict x0 x1 x2 x3 x4) := 
  State.byHost_good _ _ _ _ h4 fun _ h => ctlTierOpEvict_good _ _ _ _ _ h

theorem execTierOpMigrate_good (x0 x1 x2 x3 x4 x5) (h5 : Good r (x5)) :
    GoodOut r (execTierOpMigrate x0 x1 x2 x3 x4 x5) := 
  State.byHost_good _ _ _ _ h5 fun _ h => ctlTierOpMigrate_good _ _ _ _ _ _ h

theorem execTxnBegin_good (x0 x1) (h1 : Good r (x1)) :
    GoodOut r (execTxnBegin x0 x1) := 
  State.byHost_good _ _ _ _ h1 fun _ h => ctlTxnBegin_good _ _ h

theorem execTxnFieldWrite_good (x0 x1 x2 x3) (h3 : Good r (x3)) :
    GoodOut r (execTxnFieldWrite x0 x1 x2 x3) := 
  State.byHost_good _ _ _ _ h3 fun _ h => ctlTxnFieldWrite_good _ _ _ _ h

theorem execTxnLatch_good (x0 x1 x2) (h2 : Good r (x2)) :
    GoodOut r (execTxnLatch x0 x1 x2) := 
  State.byHost_good _ _ _ _ h2 fun _ h => ctlTxnLatch_good _ _ _ h

theorem execTxnRollback_good (x0 x1) (h1 : Good r (x1)) :
    GoodOut r (execTxnRollback x0 x1) := 
  State.byHost_good _ _ _ _ h1 fun _ h => ctlTxnRollback_good _ _ h

theorem execUnfence_good (x0 x1 x2) (h2 : Good r (x2)) :
    GoodOut r (execUnfence x0 x1 x2) := 
  State.byHost_good _ _ _ _ h2 fun _ h => ctlUnfence_good _ _ _ h

theorem execWalkDisable_good (x0 x1 x2 x3) (h3 : Good r (x3)) :
    GoodOut r (execWalkDisable x0 x1 x2 x3) := 
  State.byHost_good _ _ _ _ h3 fun _ h => ctlWalkDisable_good _ _ _ _ h

theorem execWalkEnable_good (x0 x1 x2 x3 x4) (h4 : Good r (x4)) :
    GoodOut r (execWalkEnable x0 x1 x2 x3 x4) := 
  State.byHost_good _ _ _ _ h4 fun _ h => ctlWalkEnable_good _ _ _ _ _ h

theorem execWalkResume_good (x0 x1 x2 x3) (h3 : Good r (x3)) :
    GoodOut r (execWalkResume x0 x1 x2 x3) := 
  State.byHost_good _ _ _ _ h3 fun _ h => ctlWalkResume_good _ _ _ _ h

theorem execXportCqDoorbell_good (x0 x1 x2 x3) (h3 : Good r (x3)) :
    GoodOut r (execXportCqDoorbell x0 x1 x2 x3) := 
  State.byHost_good _ _ _ _ h3 fun _ h => ctlXportCqDoorbell_good _ _ _ _ h

theorem execXportDoorbell_good (x0 x1 x2 x3) (h3 : Good r (x3)) :
    GoodOut r (execXportDoorbell x0 x1 x2 x3) := 
  State.byHost_good _ _ _ _ h3 fun _ h => ctlXportDoorbell_good _ _ _ _ h

end Sys2Proof.Machine
end

