-- ==== Sys2Proof/Laws/Hub.lean ====
section
/-! SUPPORT. What each operation of Sys2Proof/Machine/Hub.lean keeps: a state that is good (Laws/Good.lean) stays good. -/

namespace Sys2Proof.Machine

open Sys2Proof Sys2Proof.Safety

variable {r s : State}

theorem State.cellCtl_good (x0 x1 x2 x3 x4) (h0 : Good r (x0)) :
    Good r (State.cellCtl x0 x1 x2 x3 x4) := by
  unfold State.cellCtl
  dsimp only
  split
  · exact State.ctlEnd_good _ _ _ _ _ h0
  · split
    · exact State.ctlEnd_good _ _ _ _ _ (State.lockedRefused_good _ _ h0)
    · split
      · exact State.ctlEnd_good _ _ _ _ _ h0
      · exact State.ctlEnd_good _ _ _ _ _ (State.cellWrite_good _ _ _ _ _ _ h0)

theorem State.plainCtl_good (x0 x1 x2 x3) (h0 : Good r (x0)) :
    Good r (State.plainCtl x0 x1 x2 x3) := by
  unfold State.plainCtl
  grind [State.ctlDo_good, State.plainWrite_good]

theorem State.ringBaseCtl_good (x0 x1 x2) (h0 : Good r (x0)) :
    Good r (State.ringBaseCtl x0 x1 x2) := by
  unfold State.ringBaseCtl
  grind [State.ctlDo_good, State.plainWrite_good]

theorem afterOf_good (x0 x1) (h0 : Good r (x0)) (h1 : GoodOut r (x1)) :
    Good r (afterOf x0 x1) := by
  obtain ⟨t, rfl, h⟩ := h1
  exact h

theorem State.evtCtl_good (x0 x1 x2 x3) (h0 : Good r (x0)) :
    Good r (State.evtCtl x0 x1 x2 x3) := by
  unfold State.evtCtl
  grind [State.ringBaseCtl_good, afterOf_good, ctlEvtNandRead_good, State.drew_good, State.plainCtl_good, State.noteFull_good]

theorem State.noEffect_good (x0 x1 x2) (h0 : Good r (x0)) :
    Good r (State.noEffect x0 x1 x2) := by
  unfold State.noEffect
  grind [State.ctlDo_good]

theorem State.leadCtl_good (x0 x1 x2 x3) (h0 : Good r (x0)) :
    Good r (State.leadCtl x0 x1 x2 x3) := by
  unfold State.leadCtl
  grind [State.ctlDo_good, State.noEffect_good, afterOf_good, ctlOrderTakeLead_good, ctlOrderHandOff_good]

theorem State.halfCtl_good (x0 x1 x2 x3 x4) (h0 : Good r (x0)) :
    Good r (State.halfCtl x0 x1 x2 x3 x4) := by
  unfold State.halfCtl
  grind [State.leadCtl_good, State.bcastWrite_good, State.sfnWrite_good, State.plainCtl_good]

theorem State.slotCtl_good (x0 x1 x2 x3 x4) (h0 : Good r (x0)) :
    Good r (State.slotCtl x0 x1 x2 x3 x4) := by
  unfold State.slotCtl
  grind [State.plainCtl_good, State.ctlDo_good, State.setF_good, State.noEffect_good]

theorem State.hostCtl_good (x0 x1 x2 x3) (h0 : Good r (x0)) :
    Good r (State.hostCtl x0 x1 x2 x3) := by
  unfold State.hostCtl
  grind [State.setTol_good, State.ctlDo_good, State.plainWrite_good, State.slotCtl_good, State.plainCtl_good, State.faultWards_good]

theorem State.memCtl_good (x0 x1 x2 x3 x4) (h0 : Good r (x0)) :
    Good r (State.memCtl x0 x1 x2 x3 x4) := by
  unfold State.memCtl
  grind [State.regionWrite_good, State.noEffect_good, afterOf_good, ctlPcRetrainStart_good, ctlUnfence_good, State.plainCtl_good,
    State.ctlEnd_good]

theorem State.mgmtCtl_good (x0 x1 x2 x3) (h0 : Good r (x0)) :
    Good r (State.mgmtCtl x0 x1 x2 x3) := by
  unfold State.mgmtCtl
  grind [State.fwGo_good, State.noEffect_good, State.plainCtl_good]

theorem State.portCtl_good (x0 x1 x2 x3 x4) (h0 : Good r (x0)) :
    Good r (State.portCtl x0 x1 x2 x3 x4) := by
  unfold State.portCtl
  grind [State.ctlDo_good, State.refreshPort_good, State.plainWrite_good, State.retime_good, State.plainCtl_good]

theorem State.progCtl_good (x0 x1 x2 x3 x4 x5) (h0 : Good r (x0)) :
    Good r (State.progCtl x0 x1 x2 x3 x4 x5) := by
  unfold State.progCtl
  grind [afterOf_good, ctlImemWrite_good, State.ctlEnd_good, State.lockedRefused_good, State.ctlDo_good, ctlSyncCtrWrite_good,
    State.noEffect_good, State.csWrite_good]

theorem State.unlessLocked_good (x0 x1 x2 x3 x4) (h0 : Good r (x0)) (h4 : ∀ y0, Good r (y0) → Good r (x4 y0)) :
    Good r (State.unlessLocked x0 x1 x2 x3 x4) := by
  unfold State.unlessLocked
  grind [State.ctlEnd_good, State.lockedRefused_good]

theorem State.unsealCtl_good (x0 x1 x2 x3 x4) (h0 : Good r (x0)) :
    Good r (State.unsealCtl x0 x1 x2 x3 x4) := by
  unfold State.unsealCtl
  grind [State.unlessLocked_good, State.ctlDo_good, State.plainWrite_good]

theorem State.secCtl_good (x0 x1 x2 x3) (h0 : Good r (x0)) :
    Good r (State.secCtl x0 x1 x2 x3) := by
  unfold State.secCtl
  grind [State.ctlDo_good, State.plainWrite_good, State.unsealCtl_good, State.plainCtl_good]

theorem State.tagCtl_good (x0 x1 x2) (h0 : Good r (x0)) :
    Good r (State.tagCtl x0 x1 x2) := by
  unfold State.tagCtl
  grind [State.tagGo_good, State.noEffect_good]

theorem State.walkCtlWrite_good (x0 x1 x2 x3 x4 x5) (h0 : Good r (x0)) :
    Good r (State.walkCtlWrite x0 x1 x2 x3 x4 x5) := by
  unfold State.walkCtlWrite
  grind [State.ctlDo_good, State.walkWrite_good, State.noEffect_good, State.plainCtl_good]

theorem State.tierCtl_good (x0 x1 x2 x3 x4) (h0 : Good r (x0)) :
    Good r (State.tierCtl x0 x1 x2 x3 x4) := by
  unfold State.tierCtl
  grind [State.noEffect_good, afterOf_good, ctlTierOpMigrate_good, ctlTierOpEvict_good, ctlTierOpClean_good, State.ctlDo_good,
    State.opStatus_good, State.plainCtl_good, State.walkCtlWrite_good, State.tierOp_good]

theorem State.txnCtl_good (x0 x1 x2) (h0 : Good r (x0)) :
    Good r (State.txnCtl x0 x1 x2) := by
  unfold State.txnCtl
  grind [State.plainWrite_good, afterOf_good, ctlTxnBegin_good, ctlTxnLatch_good, ctlTxnRollback_good, State.plainCtl_good]

theorem State.xportCtl_good (x0 x1 x2 x3) (h0 : Good r (x0)) :
    Good r (State.xportCtl x0 x1 x2 x3) := by
  unfold State.xportCtl
  grind [afterOf_good, ctlXportDoorbell_good, ctlXportCqDoorbell_good, State.noEffect_good, ctlCtxCmdWrite_good, ctlCtxCmdRead_good,
    ctlRegionDeregister_good, ctlRegionRegister_good, State.plainCtl_good, ctlCollAbortWrite_good]

theorem State.hubWrite_good (x0 x1 x2 x3) (h0 : Good r (x0)) :
    Good r (State.hubWrite x0 x1 x2 x3) := by
  unfold State.hubWrite
  dsimp only
  repeat' first
    | with_reducible assumption
    | with_reducible apply State.progCtl_good
    | with_reducible apply State.txnWrite_good
    | with_reducible apply State.mgmtCtl_good
    | with_reducible apply State.cellCtl_good
    | with_reducible apply State.xportCtl_good
    | with_reducible apply State.hostCtl_good
    | with_reducible apply State.secCtl_good
    | with_reducible apply State.txnCtl_good
    | with_reducible apply State.tagCtl_good
    | with_reducible apply State.evtCtl_good
    | with_reducible apply State.halfCtl_good
    | with_reducible apply State.memCtl_good
    | with_reducible apply State.tierCtl_good
    | with_reducible apply State.portCtl_good
    | with_reducible apply State.plainCtl_good
    | with_reducible apply Good.ite
    | split

theorem State.coreWrite_good (x0 x1 x2 x3) (h0 : Good r (x0)) :
    Good r (State.coreWrite x0 x1 x2 x3) := by
  unfold State.coreWrite
  grind [State.answer_good, State.cellWrite_good]

theorem State.readClear_good (x0 x1) (h0 : Good r (x0)) :
    Good r (State.readClear x0 x1) := by
  unfold State.readClear
  grind [State.cellClear_good, State.setReg_good]

theorem State.ctlRead_good (x0 x1 x2 x3) (h0 : Good r (x0)) :
    Good r (State.ctlRead x0 x1 x2 x3) := by
  unfold State.ctlRead
  grind [State.ctlEnd_good, State.readClear_good]

theorem State.ctlWrite_good (x0 x1 x2 x3 x4) (h0 : Good r (x0)) :
    Good r (State.ctlWrite x0 x1 x2 x3 x4) := by
  unfold State.ctlWrite
  grind [State.ctlEnd_good, State.hubWrite_good]

theorem execHostBar0Access_good (x0 x1 x2 x3 x4) (h4 : Good r (x4)) :
    GoodOut r (execHostBar0Access x0 x1 x2 x3 x4) := by
  unfold execHostBar0Access
  grind [State.byHost_good, State.ctlWrite_good, State.ctlRead_good, GoodOut.next]

theorem execRegisterWrite_good (x0 x1 x2 x3 x4) (h4 : Good r (x4)) :
    GoodOut r (execRegisterWrite x0 x1 x2 x3 x4) := by
  unfold execRegisterWrite
  grind [State.coreWrite_good, State.answer_good, State.byHost_good, State.ctlWrite_good, GoodOut.next]

theorem execRcRead_good (x0 x1 x2 x3) (h3 : Good r (x3)) :
    GoodOut r (execRcRead x0 x1 x2 x3) := by
  unfold execRcRead
  grind [State.ctlRead_good, GoodOut.next]

end Sys2Proof.Machine
end

