-- ==== Sys2Proof/Laws/Bundle.lean ====
section
/-! SUPPORT. What each operation of Sys2Proof/Machine/Bundle.lean keeps: a state that is good (Laws/Good.lean) stays good. -/

namespace Sys2Proof.Machine

open Sys2Proof Sys2Proof.Safety

variable {r s : State}

theorem Pass2.s_good (x0) (h0 : Good r (x0).s) :
    Good r (Pass2.s x0) := by
  unfold Pass2.s
  grind []

theorem State.bundleWord_good (x0 x1 x2 x3) (h0 : Good r (x0)) :
    Good r (State.bundleWord x0 x1 x2 x3) := by
  unfold State.bundleWord
  grind [State.setF_good, State.hubWrite_good]

theorem State.bundleWords_good (x0 x1 x2 x3) (h0 : Good r (x0)) :
    Good r (State.bundleWords x0 x1 x2 x3).1 := by
  unfold State.bundleWords
  grind [State.bundleWord_good, Good.foldl, Good.foldl_fst, Good.foldl_snd]

theorem Pass2.perform_good (x0 x1 x2) (h0 : Good r (x0).s) :
    Good r (Pass2.perform x0 x1 x2).s := by
  unfold Pass2.perform
  grind [Pass2.s_good, State.uRead_good, State.bundleWords_good]

theorem State.bundleRun_good (x0 x1 x2) (h0 : Good r (x0)) :
    Good r (State.bundleRun x0 x1 x2) := by
  unfold State.bundleRun
  have h := Good.foldl_pass (l := bundleEntries x2) (f := fun (p : Pass2) e => p.perform x1 e) (a := { s := x0 }) h0
    (fun p e hp => Pass2.perform_good _ _ _ hp)
  dsimp only
  split
  · exact State.answer_good _ _ _ _ (State.wardEvent_good _ _ _ _ (State.faultWard_good _ _ (State.setReg_good h _ _)))
  · exact State.answer_good _ _ _ _ (State.setReg_good h _ _)

theorem execBundle_good (x0 x1 x2 x3) (h3 : Good r (x3)) :
    GoodOut r (execBundle x0 x1 x2 x3) := by
  unfold execBundle
  grind [State.request_good, State.unless_good, State.uRead_good, State.answer_good, State.bundleRun_good, GoodOut.next]

end Sys2Proof.Machine
end

