-- ==== Sys2Proof/Laws/State.lean ====
section
/-! SUPPORT. One lemma for each field of State and each base update that leaves it alone, and what a register reads as after a write. -/

namespace Sys2Proof.Machine

open Sys2Proof

variable {s : State}

/-! ## setReg -/

@[simp] theorem State.setReg_pending a v : (s.setReg a v).pending = s.pending := rfl
@[simp] theorem State.setReg_now a v : (s.setReg a v).now = s.now := rfl
@[simp] theorem State.setReg_free a v : (s.setReg a v).free = s.free := rfl
@[simp] theorem State.setReg_rnd a v : (s.setReg a v).rnd = s.rnd := rfl
@[simp] theorem State.setReg_resp a v : (s.setReg a v).resp = s.resp := rfl
@[simp] theorem State.setReg_clk a v : (s.setReg a v).clk = s.clk := rfl
@[simp] theorem State.setReg_evt a v : (s.setReg a v).evt = s.evt := rfl
@[simp] theorem State.setReg_cores a v : (s.setReg a v).cores = s.cores := rfl
@[simp] theorem State.setReg_mesh a v : (s.setReg a v).mesh = s.mesh := rfl
@[simp] theorem State.setReg_mem a v : (s.setReg a v).mem = s.mem := rfl
@[simp] theorem State.setReg_xport a v : (s.setReg a v).xport = s.xport := rfl
@[simp] theorem State.setReg_ports a v : (s.setReg a v).ports = s.ports := rfl
@[simp] theorem State.setReg_sup a v : (s.setReg a v).sup = s.sup := rfl
@[simp] theorem State.setReg_jtag a v : (s.setReg a v).jtag = s.jtag := rfl
@[simp] theorem State.setReg_nv a v : (s.setReg a v).nv = s.nv := rfl
@[simp] theorem State.setReg_mgt a v : (s.setReg a v).mgt = s.mgt := rfl
@[simp] theorem State.setReg_pwr a v : (s.setReg a v).pwr = s.pwr := rfl
@[simp] theorem State.setReg_sec a v : (s.setReg a v).sec = s.sec := rfl

/-! ## setF -/

@[simp] theorem State.setF_pending a f x : (s.setF a f x).pending = s.pending := rfl
@[simp] theorem State.setF_now a f x : (s.setF a f x).now = s.now := rfl
@[simp] theorem State.setF_free a f x : (s.setF a f x).free = s.free := rfl
@[simp] theorem State.setF_rnd a f x : (s.setF a f x).rnd = s.rnd := rfl
@[simp] theorem State.setF_resp a f x : (s.setF a f x).resp = s.resp := rfl
@[simp] theorem State.setF_clk a f x : (s.setF a f x).clk = s.clk := rfl
@[simp] theorem State.setF_evt a f x : (s.setF a f x).evt = s.evt := rfl
@[simp] theorem State.setF_cores a f x : (s.setF a f x).cores = s.cores := rfl
@[simp] theorem State.setF_mesh a f x : (s.setF a f x).mesh = s.mesh := rfl
@[simp] theorem State.setF_mem a f x : (s.setF a f x).mem = s.mem := rfl
@[simp] theorem State.setF_xport a f x : (s.setF a f x).xport = s.xport := rfl
@[simp] theorem State.setF_ports a f x : (s.setF a f x).ports = s.ports := rfl
@[simp] theorem State.setF_sup a f x : (s.setF a f x).sup = s.sup := rfl
@[simp] theorem State.setF_jtag a f x : (s.setF a f x).jtag = s.jtag := rfl
@[simp] theorem State.setF_nv a f x : (s.setF a f x).nv = s.nv := rfl
@[simp] theorem State.setF_mgt a f x : (s.setF a f x).mgt = s.mgt := rfl
@[simp] theorem State.setF_pwr a f x : (s.setF a f x).pwr = s.pwr := rfl
@[simp] theorem State.setF_sec a f x : (s.setF a f x).sec = s.sec := rfl

/-! ## bump -/

@[simp] theorem State.bump_pending a f n : (s.bump a f n).pending = s.pending := rfl
@[simp] theorem State.bump_now a f n : (s.bump a f n).now = s.now := rfl
@[simp] theorem State.bump_free a f n : (s.bump a f n).free = s.free := rfl
@[simp] theorem State.bump_rnd a f n : (s.bump a f n).rnd = s.rnd := rfl
@[simp] theorem State.bump_resp a f n : (s.bump a f n).resp = s.resp := rfl
@[simp] theorem State.bump_clk a f n : (s.bump a f n).clk = s.clk := rfl
@[simp] theorem State.bump_evt a f n : (s.bump a f n).evt = s.evt := rfl
@[simp] theorem State.bump_cores a f n : (s.bump a f n).cores = s.cores := rfl
@[simp] theorem State.bump_mesh a f n : (s.bump a f n).mesh = s.mesh := rfl
@[simp] theorem State.bump_mem a f n : (s.bump a f n).mem = s.mem := rfl
@[simp] theorem State.bump_xport a f n : (s.bump a f n).xport = s.xport := rfl
@[simp] theorem State.bump_ports a f n : (s.bump a f n).ports = s.ports := rfl
@[simp] theorem State.bump_sup a f n : (s.bump a f n).sup = s.sup := rfl
@[simp] theorem State.bump_jtag a f n : (s.bump a f n).jtag = s.jtag := rfl
@[simp] theorem State.bump_nv a f n : (s.bump a f n).nv = s.nv := rfl
@[simp] theorem State.bump_mgt a f n : (s.bump a f n).mgt = s.mgt := rfl
@[simp] theorem State.bump_pwr a f n : (s.bump a f n).pwr = s.pwr := rfl
@[simp] theorem State.bump_sec a f n : (s.bump a f n).sec = s.sec := rfl

/-! ## addF -/

@[simp] theorem State.addF_pending a f n : (s.addF a f n).pending = s.pending := rfl
@[simp] theorem State.addF_now a f n : (s.addF a f n).now = s.now := rfl
@[simp] theorem State.addF_free a f n : (s.addF a f n).free = s.free := rfl
@[simp] theorem State.addF_rnd a f n : (s.addF a f n).rnd = s.rnd := rfl
@[simp] theorem State.addF_resp a f n : (s.addF a f n).resp = s.resp := rfl
@[simp] theorem State.addF_clk a f n : (s.addF a f n).clk = s.clk := rfl
@[simp] theorem State.addF_evt a f n : (s.addF a f n).evt = s.evt := rfl
@[simp] theorem State.addF_cores a f n : (s.addF a f n).cores = s.cores := rfl
@[simp] theorem State.addF_mesh a f n : (s.addF a f n).mesh = s.mesh := rfl
@[simp] theorem State.addF_mem a f n : (s.addF a f n).mem = s.mem := rfl
@[simp] theorem State.addF_xport a f n : (s.addF a f n).xport = s.xport := rfl
@[simp] theorem State.addF_ports a f n : (s.addF a f n).ports = s.ports := rfl
@[simp] theorem State.addF_sup a f n : (s.addF a f n).sup = s.sup := rfl
@[simp] theorem State.addF_jtag a f n : (s.addF a f n).jtag = s.jtag := rfl
@[simp] theorem State.addF_nv a f n : (s.addF a f n).nv = s.nv := rfl
@[simp] theorem State.addF_mgt a f n : (s.addF a f n).mgt = s.mgt := rfl
@[simp] theorem State.addF_pwr a f n : (s.addF a f n).pwr = s.pwr := rfl
@[simp] theorem State.addF_sec a f n : (s.addF a f n).sec = s.sec := rfl

/-! ## answer -/

@[simp] theorem State.answer_pending st v bs : (s.answer st v bs).pending = s.pending := rfl
@[simp] theorem State.answer_now st v bs : (s.answer st v bs).now = s.now := rfl
@[simp] theorem State.answer_free st v bs : (s.answer st v bs).free = s.free := rfl
@[simp] theorem State.answer_rnd st v bs : (s.answer st v bs).rnd = s.rnd := rfl
@[simp] theorem State.answer_regs st v bs : (s.answer st v bs).regs = s.regs := rfl
@[simp] theorem State.answer_clk st v bs : (s.answer st v bs).clk = s.clk := rfl
@[simp] theorem State.answer_evt st v bs : (s.answer st v bs).evt = s.evt := rfl
@[simp] theorem State.answer_cores st v bs : (s.answer st v bs).cores = s.cores := rfl
@[simp] theorem State.answer_mesh st v bs : (s.answer st v bs).mesh = s.mesh := rfl
@[simp] theorem State.answer_mem st v bs : (s.answer st v bs).mem = s.mem := rfl
@[simp] theorem State.answer_xport st v bs : (s.answer st v bs).xport = s.xport := rfl
@[simp] theorem State.answer_ports st v bs : (s.answer st v bs).ports = s.ports := rfl
@[simp] theorem State.answer_sup st v bs : (s.answer st v bs).sup = s.sup := rfl
@[simp] theorem State.answer_jtag st v bs : (s.answer st v bs).jtag = s.jtag := rfl
@[simp] theorem State.answer_nv st v bs : (s.answer st v bs).nv = s.nv := rfl
@[simp] theorem State.answer_mgt st v bs : (s.answer st v bs).mgt = s.mgt := rfl
@[simp] theorem State.answer_pwr st v bs : (s.answer st v bs).pwr = s.pwr := rfl
@[simp] theorem State.answer_sec st v bs : (s.answer st v bs).sec = s.sec := rfl

/-! ## drew -/

@[simp] theorem State.drew_pending n : (s.drew n).pending = s.pending := rfl
@[simp] theorem State.drew_now n : (s.drew n).now = s.now := rfl
@[simp] theorem State.drew_rnd n : (s.drew n).rnd = s.rnd := rfl
@[simp] theorem State.drew_resp n : (s.drew n).resp = s.resp := rfl
@[simp] theorem State.drew_regs n : (s.drew n).regs = s.regs := rfl
@[simp] theorem State.drew_clk n : (s.drew n).clk = s.clk := rfl
@[simp] theorem State.drew_evt n : (s.drew n).evt = s.evt := rfl
@[simp] theorem State.drew_cores n : (s.drew n).cores = s.cores := rfl
@[simp] theorem State.drew_mesh n : (s.drew n).mesh = s.mesh := rfl
@[simp] theorem State.drew_mem n : (s.drew n).mem = s.mem := rfl
@[simp] theorem State.drew_xport n : (s.drew n).xport = s.xport := rfl
@[simp] theorem State.drew_ports n : (s.drew n).ports = s.ports := rfl
@[simp] theorem State.drew_sup n : (s.drew n).sup = s.sup := rfl
@[simp] theorem State.drew_jtag n : (s.drew n).jtag = s.jtag := rfl
@[simp] theorem State.drew_nv n : (s.drew n).nv = s.nv := rfl
@[simp] theorem State.drew_mgt n : (s.drew n).mgt = s.mgt := rfl
@[simp] theorem State.drew_pwr n : (s.drew n).pwr = s.pwr := rfl
@[simp] theorem State.drew_sec n : (s.drew n).sec = s.sec := rfl

/-! ## setCore -/

@[simp] theorem State.setCore_pending k c : (s.setCore k c).pending = s.pending := rfl
@[simp] theorem State.setCore_now k c : (s.setCore k c).now = s.now := rfl
@[simp] theorem State.setCore_free k c : (s.setCore k c).free = s.free := rfl
@[simp] theorem State.setCore_rnd k c : (s.setCore k c).rnd = s.rnd := rfl
@[simp] theorem State.setCore_resp k c : (s.setCore k c).resp = s.resp := rfl
@[simp] theorem State.setCore_regs k c : (s.setCore k c).regs = s.regs := rfl
@[simp] theorem State.setCore_clk k c : (s.setCore k c).clk = s.clk := rfl
@[simp] theorem State.setCore_evt k c : (s.setCore k c).evt = s.evt := rfl
@[simp] theorem State.setCore_mesh k c : (s.setCore k c).mesh = s.mesh := rfl
@[simp] theorem State.setCore_mem k c : (s.setCore k c).mem = s.mem := rfl
@[simp] theorem State.setCore_xport k c : (s.setCore k c).xport = s.xport := rfl
@[simp] theorem State.setCore_ports k c : (s.setCore k c).ports = s.ports := rfl
@[simp] theorem State.setCore_sup k c : (s.setCore k c).sup = s.sup := rfl
@[simp] theorem State.setCore_jtag k c : (s.setCore k c).jtag = s.jtag := rfl
@[simp] theorem State.setCore_nv k c : (s.setCore k c).nv = s.nv := rfl
@[simp] theorem State.setCore_mgt k c : (s.setCore k c).mgt = s.mgt := rfl
@[simp] theorem State.setCore_pwr k c : (s.setCore k c).pwr = s.pwr := rfl
@[simp] theorem State.setCore_sec k c : (s.setCore k c).sec = s.sec := rfl

/-! ## modCore -/

@[simp] theorem State.modCore_pending k f : (s.modCore k f).pending = s.pending := rfl
@[simp] theorem State.modCore_now k f : (s.modCore k f).now = s.now := rfl
@[simp] theorem State.modCore_free k f : (s.modCore k f).free = s.free := rfl
@[simp] theorem State.modCore_rnd k f : (s.modCore k f).rnd = s.rnd := rfl
@[simp] theorem State.modCore_resp k f : (s.modCore k f).resp = s.resp := rfl
@[simp] theorem State.modCore_regs k f : (s.modCore k f).regs = s.regs := rfl
@[simp] theorem State.modCore_clk k f : (s.modCore k f).clk = s.clk := rfl
@[simp] theorem State.modCore_evt k f : (s.modCore k f).evt = s.evt := rfl
@[simp] theorem State.modCore_mesh k f : (s.modCore k f).mesh = s.mesh := rfl
@[simp] theorem State.modCore_mem k f : (s.modCore k f).mem = s.mem := rfl
@[simp] theorem State.modCore_xport k f : (s.modCore k f).xport = s.xport := rfl
@[simp] theorem State.modCore_ports k f : (s.modCore k f).ports = s.ports := rfl
@[simp] theorem State.modCore_sup k f : (s.modCore k f).sup = s.sup := rfl
@[simp] theorem State.modCore_jtag k f : (s.modCore k f).jtag = s.jtag := rfl
@[simp] theorem State.modCore_nv k f : (s.modCore k f).nv = s.nv := rfl
@[simp] theorem State.modCore_mgt k f : (s.modCore k f).mgt = s.mgt := rfl
@[simp] theorem State.modCore_pwr k f : (s.modCore k f).pwr = s.pwr := rfl
@[simp] theorem State.modCore_sec k f : (s.modCore k f).sec = s.sec := rfl

/-! ## setPath -/

@[simp] theorem State.setPath_pending p q : (s.setPath p q).pending = s.pending := rfl
@[simp] theorem State.setPath_now p q : (s.setPath p q).now = s.now := rfl
@[simp] theorem State.setPath_free p q : (s.setPath p q).free = s.free := rfl
@[simp] theorem State.setPath_rnd p q : (s.setPath p q).rnd = s.rnd := rfl
@[simp] theorem State.setPath_resp p q : (s.setPath p q).resp = s.resp := rfl
@[simp] theorem State.setPath_regs p q : (s.setPath p q).regs = s.regs := rfl
@[simp] theorem State.setPath_clk p q : (s.setPath p q).clk = s.clk := rfl
@[simp] theorem State.setPath_cores p q : (s.setPath p q).cores = s.cores := rfl
@[simp] theorem State.setPath_mesh p q : (s.setPath p q).mesh = s.mesh := rfl
@[simp] theorem State.setPath_mem p q : (s.setPath p q).mem = s.mem := rfl
@[simp] theorem State.setPath_xport p q : (s.setPath p q).xport = s.xport := rfl
@[simp] theorem State.setPath_ports p q : (s.setPath p q).ports = s.ports := rfl
@[simp] theorem State.setPath_sup p q : (s.setPath p q).sup = s.sup := rfl
@[simp] theorem State.setPath_jtag p q : (s.setPath p q).jtag = s.jtag := rfl
@[simp] theorem State.setPath_nv p q : (s.setPath p q).nv = s.nv := rfl
@[simp] theorem State.setPath_mgt p q : (s.setPath p q).mgt = s.mgt := rfl
@[simp] theorem State.setPath_pwr p q : (s.setPath p q).pwr = s.pwr := rfl
@[simp] theorem State.setPath_sec p q : (s.setPath p q).sec = s.sec := rfl

/-! ## setRegion -/

@[simp] theorem State.setRegion_pending key x : (s.setRegion key x).pending = s.pending := rfl
@[simp] theorem State.setRegion_now key x : (s.setRegion key x).now = s.now := rfl
@[simp] theorem State.setRegion_free key x : (s.setRegion key x).free = s.free := rfl
@[simp] theorem State.setRegion_rnd key x : (s.setRegion key x).rnd = s.rnd := rfl
@[simp] theorem State.setRegion_resp key x : (s.setRegion key x).resp = s.resp := rfl
@[simp] theorem State.setRegion_regs key x : (s.setRegion key x).regs = s.regs := rfl
@[simp] theorem State.setRegion_clk key x : (s.setRegion key x).clk = s.clk := rfl
@[simp] theorem State.setRegion_evt key x : (s.setRegion key x).evt = s.evt := rfl
@[simp] theorem State.setRegion_cores key x : (s.setRegion key x).cores = s.cores := rfl
@[simp] theorem State.setRegion_mesh key x : (s.setRegion key x).mesh = s.mesh := rfl
@[simp] theorem State.setRegion_xport key x : (s.setRegion key x).xport = s.xport := rfl
@[simp] theorem State.setRegion_ports key x : (s.setRegion key x).ports = s.ports := rfl
@[simp] theorem State.setRegion_sup key x : (s.setRegion key x).sup = s.sup := rfl
@[simp] theorem State.setRegion_jtag key x : (s.setRegion key x).jtag = s.jtag := rfl
@[simp] theorem State.setRegion_nv key x : (s.setRegion key x).nv = s.nv := rfl
@[simp] theorem State.setRegion_mgt key x : (s.setRegion key x).mgt = s.mgt := rfl
@[simp] theorem State.setRegion_pwr key x : (s.setRegion key x).pwr = s.pwr := rfl
@[simp] theorem State.setRegion_sec key x : (s.setRegion key x).sec = s.sec := rfl

/-! ## setStack -/

@[simp] theorem State.setStack_pending st x : (s.setStack st x).pending = s.pending := rfl
@[simp] theorem State.setStack_now st x : (s.setStack st x).now = s.now := rfl
@[simp] theorem State.setStack_free st x : (s.setStack st x).free = s.free := rfl
@[simp] theorem State.setStack_rnd st x : (s.setStack st x).rnd = s.rnd := rfl
@[simp] theorem State.setStack_resp st x : (s.setStack st x).resp = s.resp := rfl
@[simp] theorem State.setStack_regs st x : (s.setStack st x).regs = s.regs := rfl
@[simp] theorem State.setStack_clk st x : (s.setStack st x).clk = s.clk := rfl
@[simp] theorem State.setStack_evt st x : (s.setStack st x).evt = s.evt := rfl
@[simp] theorem State.setStack_cores st x : (s.setStack st x).cores = s.cores := rfl
@[simp] theorem State.setStack_mesh st x : (s.setStack st x).mesh = s.mesh := rfl
@[simp] theorem State.setStack_xport st x : (s.setStack st x).xport = s.xport := rfl
@[simp] theorem State.setStack_ports st x : (s.setStack st x).ports = s.ports := rfl
@[simp] theorem State.setStack_sup st x : (s.setStack st x).sup = s.sup := rfl
@[simp] theorem State.setStack_jtag st x : (s.setStack st x).jtag = s.jtag := rfl
@[simp] theorem State.setStack_nv st x : (s.setStack st x).nv = s.nv := rfl
@[simp] theorem State.setStack_mgt st x : (s.setStack st x).mgt = s.mgt := rfl
@[simp] theorem State.setStack_pwr st x : (s.setStack st x).pwr = s.pwr := rfl
@[simp] theorem State.setStack_sec st x : (s.setStack st x).sec = s.sec := rfl

/-! ## modSec -/

@[simp] theorem State.modSec_pending f : (s.modSec f).pending = s.pending := rfl
@[simp] theorem State.modSec_now f : (s.modSec f).now = s.now := rfl
@[simp] theorem State.modSec_free f : (s.modSec f).free = s.free := rfl
@[simp] theorem State.modSec_rnd f : (s.modSec f).rnd = s.rnd := rfl
@[simp] theorem State.modSec_resp f : (s.modSec f).resp = s.resp := rfl
@[simp] theorem State.modSec_regs f : (s.modSec f).regs = s.regs := rfl
@[simp] theorem State.modSec_clk f : (s.modSec f).clk = s.clk := rfl
@[simp] theorem State.modSec_evt f : (s.modSec f).evt = s.evt := rfl
@[simp] theorem State.modSec_cores f : (s.modSec f).cores = s.cores := rfl
@[simp] theorem State.modSec_mesh f : (s.modSec f).mesh = s.mesh := rfl
@[simp] theorem State.modSec_mem f : (s.modSec f).mem = s.mem := rfl
@[simp] theorem State.modSec_xport f : (s.modSec f).xport = s.xport := rfl
@[simp] theorem State.modSec_ports f : (s.modSec f).ports = s.ports := rfl
@[simp] theorem State.modSec_sup f : (s.modSec f).sup = s.sup := rfl
@[simp] theorem State.modSec_jtag f : (s.modSec f).jtag = s.jtag := rfl
@[simp] theorem State.modSec_nv f : (s.modSec f).nv = s.nv := rfl
@[simp] theorem State.modSec_mgt f : (s.modSec f).mgt = s.mgt := rfl
@[simp] theorem State.modSec_pwr f : (s.modSec f).pwr = s.pwr := rfl

/-! ## modX -/

@[simp] theorem State.modX_pending f : (s.modX f).pending = s.pending := rfl
@[simp] theorem State.modX_now f : (s.modX f).now = s.now := rfl
@[simp] theorem State.modX_free f : (s.modX f).free = s.free := rfl
@[simp] theorem State.modX_rnd f : (s.modX f).rnd = s.rnd := rfl
@[simp] theorem State.modX_resp f : (s.modX f).resp = s.resp := rfl
@[simp] theorem State.modX_regs f : (s.modX f).regs = s.regs := rfl
@[simp] theorem State.modX_clk f : (s.modX f).clk = s.clk := rfl
@[simp] theorem State.modX_evt f : (s.modX f).evt = s.evt := rfl
@[simp] theorem State.modX_cores f : (s.modX f).cores = s.cores := rfl
@[simp] theorem State.modX_mesh f : (s.modX f).mesh = s.mesh := rfl
@[simp] theorem State.modX_mem f : (s.modX f).mem = s.mem := rfl
@[simp] theorem State.modX_ports f : (s.modX f).ports = s.ports := rfl
@[simp] theorem State.modX_sup f : (s.modX f).sup = s.sup := rfl
@[simp] theorem State.modX_jtag f : (s.modX f).jtag = s.jtag := rfl
@[simp] theorem State.modX_nv f : (s.modX f).nv = s.nv := rfl
@[simp] theorem State.modX_mgt f : (s.modX f).mgt = s.mgt := rfl
@[simp] theorem State.modX_pwr f : (s.modX f).pwr = s.pwr := rfl
@[simp] theorem State.modX_sec f : (s.modX f).sec = s.sec := rfl

/-! ## modPwr -/

@[simp] theorem State.modPwr_pending f : (s.modPwr f).pending = s.pending := rfl
@[simp] theorem State.modPwr_now f : (s.modPwr f).now = s.now := rfl
@[simp] theorem State.modPwr_free f : (s.modPwr f).free = s.free := rfl
@[simp] theorem State.modPwr_rnd f : (s.modPwr f).rnd = s.rnd := rfl
@[simp] theorem State.modPwr_resp f : (s.modPwr f).resp = s.resp := rfl
@[simp] theorem State.modPwr_regs f : (s.modPwr f).regs = s.regs := rfl
@[simp] theorem State.modPwr_clk f : (s.modPwr f).clk = s.clk := rfl
@[simp] theorem State.modPwr_evt f : (s.modPwr f).evt = s.evt := rfl
@[simp] theorem State.modPwr_cores f : (s.modPwr f).cores = s.cores := rfl
@[simp] theorem State.modPwr_mesh f : (s.modPwr f).mesh = s.mesh := rfl
@[simp] theorem State.modPwr_mem f : (s.modPwr f).mem = s.mem := rfl
@[simp] theorem State.modPwr_xport f : (s.modPwr f).xport = s.xport := rfl
@[simp] theorem State.modPwr_ports f : (s.modPwr f).ports = s.ports := rfl
@[simp] theorem State.modPwr_sup f : (s.modPwr f).sup = s.sup := rfl
@[simp] theorem State.modPwr_jtag f : (s.modPwr f).jtag = s.jtag := rfl
@[simp] theorem State.modPwr_nv f : (s.modPwr f).nv = s.nv := rfl
@[simp] theorem State.modPwr_mgt f : (s.modPwr f).mgt = s.mgt := rfl
@[simp] theorem State.modPwr_sec f : (s.modPwr f).sec = s.sec := rfl

/-! ## modSup -/

@[simp] theorem State.modSup_pending f : (s.modSup f).pending = s.pending := rfl
@[simp] theorem State.modSup_now f : (s.modSup f).now = s.now := rfl
@[simp] theorem State.modSup_free f : (s.modSup f).free = s.free := rfl
@[simp] theorem State.modSup_rnd f : (s.modSup f).rnd = s.rnd := rfl
@[simp] theorem State.modSup_resp f : (s.modSup f).resp = s.resp := rfl
@[simp] theorem State.modSup_regs f : (s.modSup f).regs = s.regs := rfl
@[simp] theorem State.modSup_clk f : (s.modSup f).clk = s.clk := rfl
@[simp] theorem State.modSup_evt f : (s.modSup f).evt = s.evt := rfl
@[simp] theorem State.modSup_cores f : (s.modSup f).cores = s.cores := rfl
@[simp] theorem State.modSup_mesh f : (s.modSup f).mesh = s.mesh := rfl
@[simp] theorem State.modSup_mem f : (s.modSup f).mem = s.mem := rfl
@[simp] theorem State.modSup_xport f : (s.modSup f).xport = s.xport := rfl
@[simp] theorem State.modSup_ports f : (s.modSup f).ports = s.ports := rfl
@[simp] theorem State.modSup_jtag f : (s.modSup f).jtag = s.jtag := rfl
@[simp] theorem State.modSup_nv f : (s.modSup f).nv = s.nv := rfl
@[simp] theorem State.modSup_mgt f : (s.modSup f).mgt = s.mgt := rfl
@[simp] theorem State.modSup_pwr f : (s.modSup f).pwr = s.pwr := rfl
@[simp] theorem State.modSup_sec f : (s.modSup f).sec = s.sec := rfl

/-! ## modMgt -/

@[simp] theorem State.modMgt_pending f : (s.modMgt f).pending = s.pending := rfl
@[simp] theorem State.modMgt_now f : (s.modMgt f).now = s.now := rfl
@[simp] theorem State.modMgt_free f : (s.modMgt f).free = s.free := rfl
@[simp] theorem State.modMgt_rnd f : (s.modMgt f).rnd = s.rnd := rfl
@[simp] theorem State.modMgt_resp f : (s.modMgt f).resp = s.resp := rfl
@[simp] theorem State.modMgt_regs f : (s.modMgt f).regs = s.regs := rfl
@[simp] theorem State.modMgt_clk f : (s.modMgt f).clk = s.clk := rfl
@[simp] theorem State.modMgt_evt f : (s.modMgt f).evt = s.evt := rfl
@[simp] theorem State.modMgt_cores f : (s.modMgt f).cores = s.cores := rfl
@[simp] theorem State.modMgt_mesh f : (s.modMgt f).mesh = s.mesh := rfl
@[simp] theorem State.modMgt_mem f : (s.modMgt f).mem = s.mem := rfl
@[simp] theorem State.modMgt_xport f : (s.modMgt f).xport = s.xport := rfl
@[simp] theorem State.modMgt_ports f : (s.modMgt f).ports = s.ports := rfl
@[simp] theorem State.modMgt_sup f : (s.modMgt f).sup = s.sup := rfl
@[simp] theorem State.modMgt_jtag f : (s.modMgt f).jtag = s.jtag := rfl
@[simp] theorem State.modMgt_nv f : (s.modMgt f).nv = s.nv := rfl
@[simp] theorem State.modMgt_pwr f : (s.modMgt f).pwr = s.pwr := rfl
@[simp] theorem State.modMgt_sec f : (s.modMgt f).sec = s.sec := rfl

/-! ## modNv -/

@[simp] theorem State.modNv_pending f : (s.modNv f).pending = s.pending := rfl
@[simp] theorem State.modNv_now f : (s.modNv f).now = s.now := rfl
@[simp] theorem State.modNv_free f : (s.modNv f).free = s.free := rfl
@[simp] theorem State.modNv_rnd f : (s.modNv f).rnd = s.rnd := rfl
@[simp] theorem State.modNv_resp f : (s.modNv f).resp = s.resp := rfl
@[simp] theorem State.modNv_regs f : (s.modNv f).regs = s.regs := rfl
@[simp] theorem State.modNv_clk f : (s.modNv f).clk = s.clk := rfl
@[simp] theorem State.modNv_evt f : (s.modNv f).evt = s.evt := rfl
@[simp] theorem State.modNv_cores f : (s.modNv f).cores = s.cores := rfl
@[simp] theorem State.modNv_mesh f : (s.modNv f).mesh = s.mesh := rfl
@[simp] theorem State.modNv_mem f : (s.modNv f).mem = s.mem := rfl
@[simp] theorem State.modNv_xport f : (s.modNv f).xport = s.xport := rfl
@[simp] theorem State.modNv_ports f : (s.modNv f).ports = s.ports := rfl
@[simp] theorem State.modNv_sup f : (s.modNv f).sup = s.sup := rfl
@[simp] theorem State.modNv_jtag f : (s.modNv f).jtag = s.jtag := rfl
@[simp] theorem State.modNv_mgt f : (s.modNv f).mgt = s.mgt := rfl
@[simp] theorem State.modNv_pwr f : (s.modNv f).pwr = s.pwr := rfl
@[simp] theorem State.modNv_sec f : (s.modNv f).sec = s.sec := rfl

/-! ## setPort -/

@[simp] theorem State.setPort_pending p x : (s.setPort p x).pending = s.pending := rfl
@[simp] theorem State.setPort_now p x : (s.setPort p x).now = s.now := rfl
@[simp] theorem State.setPort_free p x : (s.setPort p x).free = s.free := rfl
@[simp] theorem State.setPort_rnd p x : (s.setPort p x).rnd = s.rnd := rfl
@[simp] theorem State.setPort_resp p x : (s.setPort p x).resp = s.resp := rfl
@[simp] theorem State.setPort_regs p x : (s.setPort p x).regs = s.regs := rfl
@[simp] theorem State.setPort_clk p x : (s.setPort p x).clk = s.clk := rfl
@[simp] theorem State.setPort_evt p x : (s.setPort p x).evt = s.evt := rfl
@[simp] theorem State.setPort_cores p x : (s.setPort p x).cores = s.cores := rfl
@[simp] theorem State.setPort_mesh p x : (s.setPort p x).mesh = s.mesh := rfl
@[simp] theorem State.setPort_mem p x : (s.setPort p x).mem = s.mem := rfl
@[simp] theorem State.setPort_xport p x : (s.setPort p x).xport = s.xport := rfl
@[simp] theorem State.setPort_sup p x : (s.setPort p x).sup = s.sup := rfl
@[simp] theorem State.setPort_jtag p x : (s.setPort p x).jtag = s.jtag := rfl
@[simp] theorem State.setPort_nv p x : (s.setPort p x).nv = s.nv := rfl
@[simp] theorem State.setPort_mgt p x : (s.setPort p x).mgt = s.mgt := rfl
@[simp] theorem State.setPort_pwr p x : (s.setPort p x).pwr = s.pwr := rfl
@[simp] theorem State.setPort_sec p x : (s.setPort p x).sec = s.sec := rfl

/-! ## Registers and fields -/

@[simp] theorem State.answer_reg st v bs a : (s.answer st v bs).reg a = s.reg a := rfl
@[simp] theorem State.drew_reg n a : (s.drew n).reg a = s.reg a := rfl
@[simp] theorem State.setCore_reg k c a : (s.setCore k c).reg a = s.reg a := rfl
@[simp] theorem State.modCore_reg k f a : (s.modCore k f).reg a = s.reg a := rfl
@[simp] theorem State.setPath_reg p q a : (s.setPath p q).reg a = s.reg a := rfl
@[simp] theorem State.setRegion_reg k x a : (s.setRegion k x).reg a = s.reg a := rfl
@[simp] theorem State.setStack_reg k x a : (s.setStack k x).reg a = s.reg a := rfl
@[simp] theorem State.modSec_reg f a : (s.modSec f).reg a = s.reg a := rfl
@[simp] theorem State.modX_reg f a : (s.modX f).reg a = s.reg a := rfl
@[simp] theorem State.modPwr_reg f a : (s.modPwr f).reg a = s.reg a := rfl
@[simp] theorem State.modSup_reg f a : (s.modSup f).reg a = s.reg a := rfl
@[simp] theorem State.modMgt_reg f a : (s.modMgt f).reg a = s.reg a := rfl
@[simp] theorem State.modNv_reg f a : (s.modNv f).reg a = s.reg a := rfl
@[simp] theorem State.setPort_reg p x a : (s.setPort p x).reg a = s.reg a := rfl

/-- A register reads as it was last written. -/
@[simp] theorem State.setReg_reg_self (a : Nat) (v : W64) : (s.setReg a v).reg a = v := mget_mset_self _ _ a v

/-- A write leaves every other register alone. -/
theorem State.setReg_reg_ne {a b : Nat} (v : W64) (hb : b ≠ a) : (s.setReg a v).reg b = s.reg b :=
  mget_mset_ne _ _ _ v hb

/-- Setting a field leaves every other register alone. -/
theorem State.setF_reg_ne {a b : Nat} (f : Fld) (x : Nat) (hb : b ≠ a) :
    (s.setF a f x).reg b = s.reg b := s.setReg_reg_ne _ hb

/-- And its fields. -/
theorem State.setF_rf_ne {a b : Nat} (f g : Fld) (x : Nat) (hb : b ≠ a) :
    (s.setF a f x).rf b g = s.rf b g := by
  unfold State.rf
  rw [s.setF_reg_ne f x hb]

/-! ## Fields of a word -/

/-- `putBits` replaces the middle part of a number and nothing else. -/
theorem putBits_parts (v l w x : Nat) :
    putBits v l w x = v % 2 ^ l + 2 ^ l * (x % 2 ^ w + 2 ^ w * (v / 2 ^ (l + w))) := by
  have h1 := Nat.div_add_mod v (2 ^ l)
  have h2 := Nat.div_add_mod (v / 2 ^ l) (2 ^ w)
  rw [Nat.div_div_eq_div_mul, ← Nat.pow_add] at h2
  unfold putBits
  simp only [Nat.shiftRight_eq_div_pow, Nat.shiftLeft_eq]
  generalize v / 2 ^ (l + w) = hi at *
  generalize v / 2 ^ l % 2 ^ w = f at *
  generalize x % 2 ^ w = y
  rw [← h2] at h1
  have h3 : v = f * 2 ^ l + (v % 2 ^ l + 2 ^ l * (2 ^ w * hi)) := by
    conv_lhs => rw [← h1]
    ring
  have h4 : v - f * 2 ^ l = v % 2 ^ l + 2 ^ l * (2 ^ w * hi) := by
    rw [Nat.sub_eq_iff_eq_add (by omega)]
    omega
  rw [h4]
  ring

theorem bitsOf_putBits_self (v l w x : Nat) : bitsOf (putBits v l w x) l w = x % 2 ^ w := by
  rw [putBits_parts, bitsOf, Nat.shiftRight_eq_div_pow, Nat.add_mul_div_left _ _ (Nat.two_pow_pos l),
    Nat.div_eq_of_lt (Nat.mod_lt _ (Nat.two_pow_pos l)), Nat.zero_add, Nat.add_mul_mod_self_left, Nat.mod_mod]

/-- A field below or above the replaced one keeps its bits. -/
theorem bitsOf_putBits_ne (v x : Nat) {l w a b : Nat} (h : a + b ≤ l ∨ l + w ≤ a) : bitsOf (putBits v l w x) a b = bitsOf v a b := by
  have key : ∀ n m : Nat, (∀ k, a ≤ k → k < a + b → n.testBit k = m.testBit k) → bitsOf n a b = bitsOf m a b := by
    intro n m e
    apply Nat.eq_of_testBit_eq
    intro i
    simp only [bitsOf, Nat.testBit_mod_two_pow, Nat.testBit_shiftRight]
    by_cases hi : i < b
    · simp [hi, e (a + i) (by omega) (by omega)]
    · simp [hi]
  apply key
  intro k h1 h2
  rw [putBits_parts]
  rcases h with h | h
  · have hk : k < l := by omega
    have e : v % 2 ^ l + 2 ^ l * (x % 2 ^ w + 2 ^ w * (v / 2 ^ (l + w))) = 2 ^ l * (x % 2 ^ w + 2 ^ w * (v / 2 ^ (l + w))) + v % 2 ^ l := by omega
    rw [e, Nat.testBit_two_pow_mul_add _ (Nat.mod_lt _ (Nat.two_pow_pos l)), if_pos hk, Nat.testBit_mod_two_pow]
    simp [hk]
  · have e : v % 2 ^ l + 2 ^ l * (x % 2 ^ w + 2 ^ w * (v / 2 ^ (l + w)))
        = 2 ^ (l + w) * (v / 2 ^ (l + w)) + (2 ^ l * (x % 2 ^ w) + v % 2 ^ l) := by rw [Nat.pow_add]; ring
    have hlt : 2 ^ l * (x % 2 ^ w) + v % 2 ^ l < 2 ^ (l + w) := by
      have h3 := Nat.mod_lt x (Nat.two_pow_pos w)
      have h4 := Nat.mod_lt v (Nat.two_pow_pos l)
      rw [Nat.pow_add]
      calc 2 ^ l * (x % 2 ^ w) + v % 2 ^ l < 2 ^ l * (x % 2 ^ w) + 2 ^ l := by omega
        _ = 2 ^ l * (x % 2 ^ w + 1) := by ring
        _ ≤ 2 ^ l * 2 ^ w := Nat.mul_le_mul_left _ h3
    rw [e, Nat.testBit_two_pow_mul_add _ hlt, if_neg (by omega), Nat.testBit_div_two_pow]
    congr 1
    omega

theorem bitsOf_mod (n : Nat) {a b : Nat} (h : a + b ≤ 64) : bitsOf (n % 2 ^ 64) a b = bitsOf n a b := by
  apply Nat.eq_of_testBit_eq
  intro i
  simp only [bitsOf, Nat.testBit_mod_two_pow, Nat.testBit_shiftRight]
  by_cases hi : i < b
  · have : a + i < 64 := by omega
    simp [hi, this]
  · simp [hi]

/-- A field reads as the low bits of what was put there. -/
theorem fld_setFld_self (v : W64) (x : Nat) {l w : Nat} (h : l + w ≤ 64) : fld (setFld v l w x) l w = x % 2 ^ w := by
  rw [fld, setFld, BitVec.toNat_ofNat, bitsOf_mod _ h, bitsOf_putBits_self]

/-- And leaves every field that shares no bit with it alone. -/
theorem fld_setFld_ne (v : W64) (x : Nat) {l w a b : Nat} (h : a + b ≤ 64) (hd : a + b ≤ l ∨ l + w ≤ a) :
    fld (setFld v l w x) a b = fld v a b := by
  rw [fld, setFld, BitVec.toNat_ofNat, bitsOf_mod _ h, bitsOf_putBits_ne _ _ hd, fld]

/-- A field of a register reads as it was last set. -/
theorem State.setF_rf_self (a x : Nat) {f : Fld} (hf : f.lsb + f.width ≤ 64) :
    (s.setF a f x).rf a f = x % 2 ^ f.width := by
  rw [State.rf, State.setF, State.setReg_reg_self, fld_setFld_self _ _ hf]

/-- A field that shares no bit with the one that is set keeps its value. -/
theorem State.setF_rf_other (a x : Nat) {f g : Fld} (hg : g.lsb + g.width ≤ 64)
    (hd : g.lsb + g.width ≤ f.lsb ∨ f.lsb + f.width ≤ g.lsb) : (s.setF a f x).rf a g = s.rf a g := by
  rw [State.rf, State.setF, State.setReg_reg_self, fld_setFld_ne _ _ hg hd, State.rf]

end Sys2Proof.Machine
end

