-- ==== Sys2Proof/Laws/Events.lean ====
section
/-! SUPPORT. What raising an event changes: the paths of R495 and the loss counters of R498 and R499, and nothing else. -/

namespace Sys2Proof.Machine

open Sys2Proof

variable {s t u : State}

/-- From `s` to `t` only the event paths and the loss counters may differ. -/
structure EvFrame (s t : State) : Prop where
  rest : t = { s with evt := { s.evt with paths := t.evt.paths }, regs := t.regs }
  regs : ∀ a, (∀ p, p < 3 → a ≠ R.EVT_LOSS p) → t.reg a = s.reg a

theorem EvFrame.refl (s : State) : EvFrame s s := ⟨rfl, fun _ _ => rfl⟩

theorem EvFrame.trans (h : EvFrame s t) (k : EvFrame t u) : EvFrame s u := by
  refine ⟨?_, fun a ha => (k.regs a ha).trans (h.regs a ha)⟩
  rw [k.rest, h.rest]

theorem EvFrame.ite {c : Prop} [Decidable c] (h : EvFrame s t) (k : EvFrame s u) : EvFrame s (if c then t else u) := by
  split
  · exact h
  · exact k

theorem EvFrame.setPath (h : EvFrame s t) (p : Nat) (q : EvPath) : EvFrame s (t.setPath p q) :=
  h.trans ⟨rfl, fun _ _ => rfl⟩

theorem EvFrame.enqueue (h : EvFrame s t) (p : Nat) (r : EvRec) : EvFrame s (t.enqueue p r) := h.setPath _ _

/-- A loss counter that rises. -/
theorem EvFrame.loss (h : EvFrame s t) {p : Nat} (hp : p < 3) (f : Fld) (n : Nat) : EvFrame s (t.bump (R.EVT_LOSS p) f n) :=
  h.trans ⟨rfl, fun _ ha => State.setF_reg_ne _ _ (ha p hp)⟩

theorem EvFrame.countSummarised (h : EvFrame s t) (p n : Nat) : EvFrame s (t.countSummarised p n) := by
  unfold State.countSummarised
  split
  · next hp => exact h.loss hp _ _
  · exact h

theorem EvFrame.summarise (h : EvFrame s t) (p : Nat) (r : EvRec) : EvFrame s (t.summarise p r) := by
  unfold State.summarise
  exact (h.setPath _ _).ite ((h.setPath _ _).ite ((h.setPath _ _).ite (h.setPath _ _)))

theorem EvFrame.alarmTo (h : EvFrame s t) (p : Nat) (r : EvRec) : EvFrame s (t.alarmTo p r) := by
  unfold State.alarmTo
  exact (h.setPath _ _).ite ((h.enqueue _ _).ite (h.setPath _ _))

theorem EvFrame.logTo (h : EvFrame s t) (p : Nat) (r : EvRec) : EvFrame s (t.logTo p r) := by
  unfold State.logTo
  exact ((((h.countSummarised _ _).ite h).enqueue _ _).ite ((h.countSummarised _ _).summarise _ _)).ite h

theorem EvFrame.traceTo (h : EvFrame s t) (p : Nat) (r : EvRec) : EvFrame s (t.traceTo p r) := by
  unfold State.traceTo
  refine ((h.enqueue _ _).ite ?_).ite h
  split
  · next hp => exact h.loss hp _ _
  · exact h

theorem EvFrame.recTo (h : EvFrame s t) (p : Nat) (r : EvRec) : EvFrame s (t.recTo p r) := by
  unfold State.recTo
  split
  · exact h.alarmTo _ _
  · exact h.logTo _ _
  · exact h.traceTo _ _

theorem EvFrame.toOuter (h : EvFrame s t) (r : EvRec) : EvFrame s (t.toOuter r) := ((h.recTo 0 r).recTo 1 r).recTo 2 r

theorem EvFrame.foldl_toOuter (l : List EvRec) : ∀ {t : State}, EvFrame s t → EvFrame s (l.foldl State.toOuter t) := by
  induction l with
  | nil => intro t h; exact h
  | cons r l ih => intro t h; exact ih (h.toOuter r)

theorem EvFrame.deliver (h : EvFrame s t) (k : Nat) : EvFrame s (t.deliver k) := by
  unfold State.deliver
  exact h.ite (EvFrame.foldl_toOuter _ (h.setPath _ _))

/-- Raising an event. -/
theorem EvFrame.raise (h : EvFrame s t) (r : EvRec) : EvFrame s (t.raise r) := by
  unfold State.raise
  dsimp only
  split
  · exact (h.recTo _ _).deliver _
  · exact (h.recTo _ _).ite (h.toOuter _)

theorem State.raise_frame (s : State) (r : EvRec) : EvFrame s (s.raise r) := (EvFrame.refl s).raise r

/-- An event leaves every register but the loss counters alone. -/
theorem State.raise_reg (r : EvRec) {a : Nat} (ha : ∀ p, p < 3 → a ≠ R.EVT_LOSS p) :
    (s.raise r).reg a = s.reg a := (s.raise_frame r).regs a ha

theorem State.raise_rf (r : EvRec) {a : Nat} (f : Fld) (ha : ∀ p, p < 3 → a ≠ R.EVT_LOSS p) :
    (s.raise r).rf a f = s.rf a f := by
  unfold State.rf
  rw [s.raise_reg r ha]

@[simp] theorem State.raise_pending (r : EvRec) : (s.raise r).pending = s.pending := by rw [(s.raise_frame r).rest]
@[simp] theorem State.raise_now (r : EvRec) : (s.raise r).now = s.now := by rw [(s.raise_frame r).rest]
@[simp] theorem State.raise_free (r : EvRec) : (s.raise r).free = s.free := by rw [(s.raise_frame r).rest]
@[simp] theorem State.raise_rnd (r : EvRec) : (s.raise r).rnd = s.rnd := by rw [(s.raise_frame r).rest]
@[simp] theorem State.raise_resp (r : EvRec) : (s.raise r).resp = s.resp := by rw [(s.raise_frame r).rest]
@[simp] theorem State.raise_clk (r : EvRec) : (s.raise r).clk = s.clk := by rw [(s.raise_frame r).rest]
@[simp] theorem State.raise_cores (r : EvRec) : (s.raise r).cores = s.cores := by rw [(s.raise_frame r).rest]
@[simp] theorem State.raise_mesh (r : EvRec) : (s.raise r).mesh = s.mesh := by rw [(s.raise_frame r).rest]
@[simp] theorem State.raise_mem (r : EvRec) : (s.raise r).mem = s.mem := by rw [(s.raise_frame r).rest]
@[simp] theorem State.raise_xport (r : EvRec) : (s.raise r).xport = s.xport := by rw [(s.raise_frame r).rest]
@[simp] theorem State.raise_ports (r : EvRec) : (s.raise r).ports = s.ports := by rw [(s.raise_frame r).rest]
@[simp] theorem State.raise_sup (r : EvRec) : (s.raise r).sup = s.sup := by rw [(s.raise_frame r).rest]
@[simp] theorem State.raise_jtag (r : EvRec) : (s.raise r).jtag = s.jtag := by rw [(s.raise_frame r).rest]
@[simp] theorem State.raise_nv (r : EvRec) : (s.raise r).nv = s.nv := by rw [(s.raise_frame r).rest]
@[simp] theorem State.raise_mgt (r : EvRec) : (s.raise r).mgt = s.mgt := by rw [(s.raise_frame r).rest]
@[simp] theorem State.raise_pwr (r : EvRec) : (s.raise r).pwr = s.pwr := by rw [(s.raise_frame r).rest]
@[simp] theorem State.raise_sec (r : EvRec) : (s.raise r).sec = s.sec := by rw [(s.raise_frame r).rest]

theorem State.raise_evt (r : EvRec) : (s.raise r).evt = { s.evt with paths := (s.raise r).evt.paths } := by
  conv_lhs => rw [(s.raise_frame r).rest]

end Sys2Proof.Machine
end

