-- ==== Sys2Proof/Laws/Held.lean ====
section
/-! SUPPORT. What each operation of Sys2Proof/Machine/Held.lean keeps: a state that is good (Laws/Good.lean) stays good. -/

namespace Sys2Proof.Machine

open Sys2Proof Sys2Proof.Safety

variable {r s : State}

theorem State.replay_good (x0 x1) (h0 : Good r (x0)) :
    Good r (State.replay x0 x1) := by
  refine afterOf_good _ _ h0 ?_
  split
  · exact execSeqRun_good _ _ _ _ h0
  · exact execSeqHalt_good _ _ _ _ h0
  · exact execFgResume_good _ _ _ h0
  · exact execFgFlush_good _ _ _ h0
  · exact execFillResume_good _ _ _ h0
  · exact execFillFlush_good _ _ _ h0
  · exact execFillEnableWrite_good _ _ _ _ h0
  · exact execSyncCtrWrite_good _ _ _ _ _ h0
  · exact execImemWrite_good _ _ _ _ _ h0
  · exact execSfnTableWrite_good _ _ _ _ _ h0
  · exact execSfnTdescWrite_good _ _ _ _ _ h0
  · exact execSfnBcastWrite_good _ _ _ _ _ h0
  · exact execWalkEnable_good _ _ _ _ _ h0
  · exact execWalkDisable_good _ _ _ _ h0
  · exact execWalkResume_good _ _ _ _ h0
  · exact execTierOpMigrate_good _ _ _ _ _ _ h0
  · exact execTierOpEvict_good _ _ _ _ _ h0
  · exact execTierOpClean_good _ _ _ _ _ h0
  · exact execUnfence_good _ _ _ h0
  · exact execPcRetrainStart_good _ _ _ _ h0
  · exact execRegionReset_good _ _ _ _ _ h0
  · exact execRegionClearNow_good _ _ _ _ _ h0
  · exact execXportDoorbell_good _ _ _ _ h0
  · exact execXportCqDoorbell_good _ _ _ _ h0
  · exact execCtxCmdRead_good _ _ _ h0
  · exact execCtxCmdWrite_good _ _ _ h0
  · exact execRegionRegister_good _ _ _ _ _ _ h0
  · exact execRegionDeregister_good _ _ _ h0
  · exact execCollAbortWrite_good _ _ _ h0
  · exact execRetime_good _ _ _ h0
  · exact execTxnBegin_good _ _ h0
  · exact execTxnFieldWrite_good _ _ _ _ h0
  · exact execTxnLatch_good _ _ _ h0
  · exact execTxnRollback_good _ _ h0
  · exact execFwInstall_good _ _ _ h0
  · exact execFwSwitchNext_good _ _ h0
  · exact execFwSwitchLive_good _ _ h0
  · exact execFwConfirm_good _ _ h0
  · exact execFwInstallCal_good _ _ _ h0
  · exact execTagAccessRead_good _ _ _ h0
  · exact execTagAccessWrite_good _ _ _ h0
  · exact execOrderTakeLead_good _ _ _ _ h0
  · exact execOrderHandOff_good _ _ _ h0
  · exact execEvtNandRead_good _ _ _ _ h0
  · exact execRegisterWrite_good _ _ _ _ _ h0
  · exact execHostBar0Access_good _ _ _ _ _ h0
  · exact execHostDoorbellProd_good _ _ _ _ h0
  · exact execHostDoorbellCq_good _ _ _ _ h0
  · exact execHostPlaceFlag_good _ _ _ h0
  · exact execHostBar4Write_good _ _ _ h0
  · exact execCxlMemRead_good _ _ _ h0
  · exact execCxlMemWrite_good _ _ _ _ h0
  · exact execPmTolWrite_good _ _ _ h0
  · exact GoodOut.next h0

theorem State.replayHeld_good (x0) (h0 : Good r (x0)) :
    Good r (State.replayHeld x0) := by
  unfold State.replayHeld
  grind [State.replay_good, State.modMgt_good, Good.foldl, Good.foldl_fst, Good.foldl_snd]

theorem execStageReached_good (x0 x1) (h1 : Good r (x1)) :
    GoodOut r (execStageReached x0 x1) := by
  unfold execStageReached
  grind [State.enterStage_good, State.replayHeld_good, GoodOut.next]

end Sys2Proof.Machine
end

