-- ==== Sys2Proof/Laws/Levels.lean ====
section
/-! SUPPORT. What setting the cells' levels changes (R391, R394, R397): LEVEL, CAUSE and DIV of PWR_CELL, what a cell's supply settles to, and
from when its cycles are counted; nothing else. -/

namespace Sys2Proof.Machine

open Sys2Proof

variable {s t u : State}

/-- From `s` to `t` only levels, causes, dividers, what the cells settle to and the start of their count of cycles may differ. -/
structure LevelFrame (s t : State) : Prop where
  rest : t = { s with regs := t.regs, pwr := { s.pwr with cells := t.pwr.cells } }
  regs : ∀ a, (∀ k, a ≠ R.PWR_CELL k) → t.reg a = s.reg a
  fields : ∀ a f, f ∈ [F.PWR_CELL_VOLT_MV, F.PWR_CELL_TEMP, F.PWR_CELL_EPISODES] → t.rf a f = s.rf a f
  cells : ∀ k, { t.cellPwr k with settle := .no, cycBase := 0, cycSince := 0 } = { s.cellPwr k with settle := .no, cycBase := 0, cycSince := 0 }

theorem LevelFrame.refl (s : State) : LevelFrame s s := ⟨rfl, fun _ _ => rfl, fun _ _ _ => rfl, fun _ => rfl⟩

theorem LevelFrame.trans (h : LevelFrame s t) (k : LevelFrame t u) : LevelFrame s u := by
  refine ⟨?_, fun a ha => (k.regs a ha).trans (h.regs a ha), fun a f hf => (k.fields a f hf).trans (h.fields a f hf),
    fun c => (k.cells c).trans (h.cells c)⟩
  rw [k.rest, h.rest]

theorem LevelFrame.ite {c : Prop} [Decidable c] (h : LevelFrame s t) (k : LevelFrame s u) : LevelFrame s (if c then t else u) := by
  split
  · exact h
  · exact k

theorem LevelFrame.setF (h : LevelFrame s t) (k x : Nat) {f : Fld} (hf : f ∈ [F.PWR_CELL_LEVEL, F.PWR_CELL_CAUSE, F.PWR_CELL_DIV]) :
    LevelFrame s (t.setF (R.PWR_CELL k) f x) := by
  refine h.trans ⟨rfl, fun a ha => State.setF_reg_ne _ _ (ha k), fun a g hg => ?_, fun _ => rfl⟩
  by_cases e : a = R.PWR_CELL k
  · subst e
    simp only [List.mem_cons, List.not_mem_nil, or_false] at hf hg
    rcases hf with rfl | rfl | rfl <;> rcases hg with rfl | rfl | rfl <;>
      exact State.setF_rf_other _ _ (by decide) (by decide)
  · exact State.setF_rf_ne _ _ _ e

theorem LevelFrame.settle (h : LevelFrame s t) (k : Nat) (x : Settle) : LevelFrame s (t.modCell k (fun c => { c with settle := x })) := by
  refine h.trans ⟨rfl, fun _ _ => rfl, fun _ _ _ => rfl, fun c => ?_⟩
  by_cases e : c = k
  · subst e
    simp [State.cellPwr, State.modCell, State.modPwr]
  · simp only [State.cellPwr, State.modCell, State.modPwr]
    rw [mget_mset_ne _ _ _ _ e]

theorem LevelFrame.setDiv (h : LevelFrame s t) (k d : Nat) : LevelFrame s (t.setDiv k d) := by
  have h1 : LevelFrame s (t.modCell k (fun c => { c with cycBase := t.ck k, cycSince := t.now })) := by
    refine h.trans ⟨rfl, fun _ _ => rfl, fun _ _ _ => rfl, fun c => ?_⟩
    by_cases e : c = k
    · subst e
      simp [State.cellPwr, State.modCell, State.modPwr]
    · simp only [State.cellPwr, State.modCell, State.modPwr]
      rw [mget_mset_ne _ _ _ _ e]
  exact h1.setF k d (by simp)

theorem LevelFrame.takeLevel (h : LevelFrame s t) (k n cause : Nat) : LevelFrame s (t.takeLevel k n cause) := by
  have h2 := (h.setF k n (f := F.PWR_CELL_LEVEL) (by simp)).setF k cause (f := F.PWR_CELL_CAUSE) (by simp)
  unfold State.takeLevel
  exact (h2.ite ((h2.setDiv k _).settle k _)).ite ((h2.settle k _).ite h2)

theorem LevelFrame.foldl {β : Type} {f : State → β → State} (hf : ∀ s t x, LevelFrame s t → LevelFrame s (f t x)) (l : List β) :
    ∀ {t : State}, LevelFrame s t → LevelFrame s (l.foldl f t) := by
  induction l with
  | nil => intro t h; exact h
  | cons x l ih => intro t h; exact ih (hf _ _ x h)

theorem LevelFrame.relevel (h : LevelFrame s t) (k : Nat) : LevelFrame s (t.relevel k) := by
  unfold State.relevel
  exact LevelFrame.foldl (fun _ _ _ h => h.ite (h.takeLevel _ _ _)) _ h

/-- The levels of a half. -/
theorem State.relevel_frame (s : State) (h : Nat) : LevelFrame s (s.relevel h) := (LevelFrame.refl s).relevel h

/-- The levels of both halves. -/
theorem State.relevelAll_frame (s : State) : LevelFrame s s.relevelAll := ((LevelFrame.refl s).relevel 0).relevel 1

end Sys2Proof.Machine
end

