-- ==== Sys2Proof/Laws/MemFrame.lean ====
section
/-! SUPPORT. What an access to the unified range or to the host window may change: memory, the error records and counters of its stack, the
event paths and the place in the free values. -/

namespace Sys2Proof.Machine

open Sys2Proof

variable {r s : State}

/-- Registers that an access to memory may change: the loss counters of events, and the error counters and the error record of a stack. -/
def memReg (a : Nat) : Prop := (∃ p, a = R.EVT_LOSS p) ∨ (∃ st, a = R.MEM_ECC_COUNT st) ∨ ∃ st, a = R.MEM_ERR_ADDR st

/-- From `r` to `s` nothing but memory, those registers, the event paths and the place in the free values differs. -/
structure MemFrame (r s : State) : Prop where
  pending : s.pending = r.pending
  now : s.now = r.now
  rnd : s.rnd = r.rnd
  resp : s.resp = r.resp
  clk : s.clk = r.clk
  evt : s.evt = { r.evt with paths := s.evt.paths }
  cores : s.cores = r.cores
  mesh : s.mesh = r.mesh
  xport : s.xport = r.xport
  ports : s.ports = r.ports
  sup : s.sup = r.sup
  jtag : s.jtag = r.jtag
  nv : s.nv = r.nv
  mgt : s.mgt = r.mgt
  pwr : s.pwr = r.pwr
  sec : s.sec = r.sec
  regs : ∀ a, ¬ memReg a → s.reg a = r.reg a

theorem MemFrame.refl (s : State) : MemFrame s s := ⟨rfl, rfl, rfl, rfl, rfl, rfl, rfl, rfl, rfl, rfl, rfl, rfl, rfl, rfl, rfl, rfl, fun _ _ => rfl⟩

theorem MemFrame.trans {q : State} (h : MemFrame q r) (k : MemFrame r s) : MemFrame q s := by
  constructor
  case evt => rw [k.evt, h.evt]
  case regs => exact fun a ha => (k.regs a ha).trans (h.regs a ha)
  all_goals simp [k.pending, h.pending, k.now, h.now, k.rnd, h.rnd, k.resp, h.resp, k.clk, h.clk, k.cores, h.cores, k.mesh, h.mesh, k.xport,
    h.xport, k.ports, h.ports, k.sup, h.sup, k.jtag, h.jtag, k.nv, h.nv, k.mgt, h.mgt, k.pwr, h.pwr, k.sec, h.sec]

theorem MemFrame.set_mem (h : MemFrame r s) (m) : MemFrame r { s with mem := m } := h.trans ⟨rfl, rfl, rfl, rfl, rfl, rfl, rfl, rfl, rfl, rfl, rfl, rfl, rfl, rfl, rfl, rfl, fun _ _ => rfl⟩

theorem MemFrame.set_free (h : MemFrame r s) (n) : MemFrame r { s with free := n } := h.trans ⟨rfl, rfl, rfl, rfl, rfl, rfl, rfl, rfl, rfl, rfl, rfl, rfl, rfl, rfl, rfl, rfl, fun _ _ => rfl⟩

theorem MemFrame.setPath (h : MemFrame r s) (p : Nat) (q : EvPath) : MemFrame r (s.setPath p q) := h.trans ⟨rfl, rfl, rfl, rfl, rfl, rfl, rfl, rfl, rfl, rfl, rfl, rfl, rfl, rfl, rfl, rfl, fun _ _ => rfl⟩

theorem MemFrame.ite {c : Prop} [Decidable c] {a b : State} (ha : MemFrame r a) (hb : MemFrame r b) : MemFrame r (if c then a else b) := by
  split
  · exact ha
  · exact hb

theorem MemFrame.foldl {β : Type} {f : State → β → State} {l : List β} (h : MemFrame r s) (hf : ∀ s x, MemFrame r s → MemFrame r (f s x)) :
    MemFrame r (l.foldl f s) := by
  induction l generalizing s with
  | nil => exact h
  | cons x l ih => exact ih (hf s x h)

theorem MemFrame.foldl_fst {β γ : Type} {f : State × γ → β → State × γ} {l : List β} {a : State × γ} (h : MemFrame r a.1)
    (hf : ∀ a x, MemFrame r a.1 → MemFrame r (f a x).1) : MemFrame r (l.foldl f a).1 := by
  induction l generalizing a with
  | nil => exact h
  | cons x l ih => exact ih (hf a x h)

theorem State.drew_mframe (n : Nat) (h : MemFrame r s) : MemFrame r (s.drew n) := h.set_free _

theorem State.raise_mframe (e : EvRec) (h : MemFrame r s) : MemFrame r (s.raise e) := by
  refine h.trans ?_
  have k := s.raise_frame e
  constructor
  case evt => exact s.raise_evt e
  case regs => exact fun a ha => k.regs a fun p _ hp => ha (.inl ⟨p, hp⟩)
  all_goals simp

theorem State.bump_mframe {a : Nat} (f : Fld) (n : Nat) (ha : memReg a) (h : MemFrame r s) : MemFrame r (s.bump a f n) := by
  refine h.trans ⟨rfl, rfl, rfl, rfl, rfl, rfl, rfl, rfl, rfl, rfl, rfl, rfl, rfl, rfl, rfl, rfl, fun b hb => ?_⟩
  exact State.setF_reg_ne _ _ fun e => hb (e ▸ ha)

theorem State.setF_mframe {a : Nat} (f : Fld) (n : Nat) (ha : memReg a) (h : MemFrame r s) : MemFrame r (s.setF a f n) := by
  refine h.trans ⟨rfl, rfl, rfl, rfl, rfl, rfl, rfl, rfl, rfl, rfl, rfl, rfl, rfl, rfl, rfl, rfl, fun b hb => ?_⟩
  exact State.setF_reg_ne _ _ fun e => hb (e ▸ ha)

theorem State.setReg_mframe {a : Nat} (v : W64) (ha : memReg a) (h : MemFrame r s) : MemFrame r (s.setReg a v) := by
  refine h.trans ⟨rfl, rfl, rfl, rfl, rfl, rfl, rfl, rfl, rfl, rfl, rfl, rfl, rfl, rfl, rfl, rfl, fun b hb => ?_⟩
  exact State.setReg_reg_ne _ fun e => hb (e ▸ ha)

theorem memReg_ecc (st : Nat) : memReg (R.MEM_ECC_COUNT st) := .inr (.inl ⟨st, rfl⟩)

theorem memReg_err (st : Nat) : memReg (R.MEM_ERR_ADDR st) := .inr (.inr ⟨st, rfl⟩)

end Sys2Proof.Machine
end

