-- ==== Sys2Proof/Laws/MemOps.lean ====
section
/-! SUPPORT. What each operation on memory keeps (Laws/MemFrame.lean). -/

namespace Sys2Proof.Machine

open Sys2Proof

variable {r s : State}

theorem State.setBucket_mframe (x0 x1 x2 x3) (h0 : MemFrame r (x0)) :
    MemFrame r (State.setBucket x0 x1 x2 x3) := by
  unfold State.setBucket
  grind [MemFrame.set_mem, MemFrame.set_free]

theorem State.spendN_mframe (x0 x1 x2 x3) (h0 : MemFrame r (x0)) :
    MemFrame r (State.spendN x0 x1 x2 x3) := by
  unfold State.spendN
  grind [State.setBucket_mframe]

theorem State.charge_mframe (x0 x1 x2) (h0 : MemFrame r (x0)) :
    MemFrame r (State.charge x0 x1 x2) := by
  unfold State.charge
  grind [State.spendN_mframe]

theorem State.moverCycles_mframe (x0 x1 x2) (h0 : MemFrame r (x0)) :
    MemFrame r (State.moverCycles x0 x1 x2) := by
  unfold State.moverCycles
  grind [MemFrame.set_mem]

theorem State.tookFinds_mframe (x0 x1) (h0 : MemFrame r (x0)) :
    MemFrame r (State.tookFinds x0 x1) := by
  unfold State.tookFinds
  grind [MemFrame.set_mem]

theorem State.tookEcc_mframe (x0) (h0 : MemFrame r (x0)) :
    MemFrame r (State.tookEcc x0) := by
  unfold State.tookEcc
  grind [MemFrame.set_mem]

theorem State.noDue_mframe (x0 x1) (h0 : MemFrame r (x0)) :
    MemFrame r (State.noDue x0 x1) := by
  unfold State.noDue
  grind [MemFrame.set_mem]

theorem State.setBlk_mframe (x0 x1 x2) (h0 : MemFrame r (x0)) :
    MemFrame r (State.setBlk x0 x1 x2) := by
  unfold State.setBlk
  grind [MemFrame.set_mem, MemFrame.set_free]

theorem State.startFill_mframe (x0 x1 x2 x3 x4 x5 x6) (h0 : MemFrame r (x0)) :
    MemFrame r (State.startFill x0 x1 x2 x3 x4 x5 x6) := by
  unfold State.startFill
  grind [State.setBlk_mframe, MemFrame.set_mem]

theorem State.startDue_mframe (x0 x1) (h0 : MemFrame r (x0)) :
    MemFrame r (State.startDue x0 x1) := by
  unfold State.startDue
  grind [State.startFill_mframe, State.noDue_mframe]

theorem State.memEvent_mframe (x0 x1 x2 x3 x4 x5) (h0 : MemFrame r (x0)) :
    MemFrame r (State.memEvent x0 x1 x2 x3 x4 x5) := by
  unfold State.memEvent
  grind [State.raise_mframe]

theorem State.memErr_mframe (x0 x1 x2 x3) (h0 : MemFrame r (x0)) :
    MemFrame r (State.memErr x0 x1 x2 x3) := by
  unfold State.memErr
  grind [State.setF_mframe, memReg_ecc, memReg_err]

theorem State.setMark_mframe (x0 x1 x2) (h0 : MemFrame r (x0)) :
    MemFrame r (State.setMark x0 x1 x2) := by
  unfold State.setMark
  grind [MemFrame.set_mem, MemFrame.set_free]

theorem State.dramPoison_mframe (x0 x1) (h0 : MemFrame r (x0)) :
    MemFrame r (State.dramPoison x0 x1) := by
  unfold State.dramPoison
  grind [State.setMark_mframe, MemFrame.set_mem, MemFrame.set_free]

theorem State.dramRead_mframe (x0 x1 x2) (h0 : MemFrame r (x0)) :
    MemFrame r (State.dramRead x0 x1 x2).1 := by
  unfold State.dramRead
  dsimp only
  split
  · exact h0
  · split
    · exact State.memEvent_mframe _ _ _ _ _ _ (State.memErr_mframe _ _ _ _ (State.bump_mframe _ _ (memReg_ecc _) (State.dramPoison_mframe _ _ h0)))
    · have h : MemFrame r (if x2 = .corrected then (x0.bump (R.MEM_ECC_COUNT (homeStack (x1 * 64))) F.MEM_ECC_COUNT_CORRECTED 1).memEvent
          (homeStack (x1 * 64)) 0x01 1 (stackOff (x1 * 64)) 0 else x0) := by
        split
        · exact State.memEvent_mframe _ _ _ _ _ _ (State.bump_mframe _ _ (memReg_ecc _) h0)
        · exact h0
      generalize (if x2 = .corrected then (x0.bump (R.MEM_ECC_COUNT (homeStack (x1 * 64))) F.MEM_ECC_COUNT_CORRECTED 1).memEvent
          (homeStack (x1 * 64)) 0x01 1 (stackOff (x1 * 64)) 0 else x0) = u at h ⊢
      split
      · exact State.memEvent_mframe _ _ _ _ _ _ (State.memErr_mframe _ _ _ _ (State.bump_mframe _ _ (memReg_ecc _) (State.setMark_mframe _ _ _ h)))
      · exact h

theorem State.homeView_mframe (x0 x1 x2) (h0 : MemFrame r (x0)) :
    MemFrame r (State.homeView x0 x1 x2).1 := by
  unfold State.homeView
  grind [State.dramRead_mframe]

theorem State.setRegion_mframe (x0 x1 x2) (h0 : MemFrame r (x0)) :
    MemFrame r (State.setRegion x0 x1 x2) := by
  unfold State.setRegion
  grind [MemFrame.set_mem, MemFrame.set_free]

theorem State.finishClearing_mframe (x0 x1) (h0 : MemFrame r (x0)) :
    MemFrame r (State.finishClearing x0 x1) := by
  unfold State.finishClearing
  grind [State.setRegion_mframe]

theorem State.enterClearing_mframe (x0 x1 x2 x3) (h0 : MemFrame r (x0)) :
    MemFrame r (State.enterClearing x0 x1 x2 x3) := by
  unfold State.enterClearing
  grind [State.setRegion_mframe, MemFrame.set_mem, MemFrame.set_free]

theorem State.ensureSet_mframe (x0 x1) (h0 : MemFrame r (x0)) :
    MemFrame r (State.ensureSet x0 x1) := by
  unfold State.ensureSet
  grind [State.finishClearing_mframe, State.enterClearing_mframe]

theorem State.setStack_mframe (x0 x1 x2) (h0 : MemFrame r (x0)) :
    MemFrame r (State.setStack x0 x1 x2) := by
  unfold State.setStack
  grind [MemFrame.set_mem, MemFrame.set_free]

theorem State.startUrgent_mframe (x0 x1) (h0 : MemFrame r (x0)) :
    MemFrame r (State.startUrgent x0 x1) := by
  unfold State.startUrgent
  grind [State.setStack_mframe, State.enterClearing_mframe]

theorem State.frameUnset_mframe (x0 x1 x2) (h0 : MemFrame r (x0)) :
    MemFrame r (State.frameUnset x0 x1 x2).1 := by
  unfold State.frameUnset
  grind [State.ensureSet_mframe, State.startUrgent_mframe]

theorem State.markDirty_mframe (x0 x1 x2 x3) (h0 : MemFrame r (x0)) :
    MemFrame r (State.markDirty x0 x1 x2 x3) := by
  unfold State.markDirty
  grind [State.setBlk_mframe]

theorem State.setFmark_mframe (x0 x1 x2) (h0 : MemFrame r (x0)) :
    MemFrame r (State.setFmark x0 x1 x2) := by
  unfold State.setFmark
  grind [MemFrame.set_mem, MemFrame.set_free]

theorem State.framePut_mframe (x0 x1 x2) (h0 : MemFrame r (x0)) :
    MemFrame r (State.framePut x0 x1 x2) := by
  unfold State.framePut
  grind [MemFrame.set_mem, MemFrame.set_free]

theorem State.frameRead_mframe (x0 x1 x2 x3 x4) (h0 : MemFrame r (x0)) :
    MemFrame r (State.frameRead x0 x1 x2 x3 x4).1 := by
  unfold State.frameRead
  grind [State.raise_mframe, State.setFmark_mframe, State.framePut_mframe, State.dramRead_mframe, MemFrame.set_mem, MemFrame.set_free, State.homeView_mframe, State.charge_mframe, State.tookFinds_mframe]

theorem State.frameWrite_mframe (x0 x1 x2 x3 x4 x5 x6) (h0 : MemFrame r (x0)) :
    MemFrame r (State.frameWrite x0 x1 x2 x3 x4 x5 x6).1 := by
  unfold State.frameWrite
  grind [State.markDirty_mframe, State.setFmark_mframe, State.framePut_mframe, State.frameRead_mframe]

theorem State.serveFrame_mframe (x0 x1 x2 x3 x4 x5 x6 x7) (h0 : MemFrame r (x0)) :
    MemFrame r (State.serveFrame x0 x1 x2 x3 x4 x5 x6 x7).s := by
  unfold State.serveFrame
  grind [State.frameWrite_mframe, State.frameUnset_mframe]

theorem State.fencedRes_mframe (x0 x1) (h0 : MemFrame r (x0)) :
    MemFrame r (State.fencedRes x0 x1).s := by
  unfold State.fencedRes
  grind [State.drew_mframe]

theorem State.cdrop_mframe (x0 x1) (h0 : MemFrame r (x0)) :
    MemFrame r (State.cdrop x0 x1) := by
  unfold State.cdrop
  grind [MemFrame.set_mem, MemFrame.set_free]

theorem State.cput_mframe (x0 x1 x2) (h0 : MemFrame r (x0)) :
    MemFrame r (State.cput x0 x1 x2) := by
  unfold State.cput
  grind [MemFrame.set_mem, MemFrame.set_free]

theorem State.dramPut_mframe (x0 x1 x2) (h0 : MemFrame r (x0)) :
    MemFrame r (State.dramPut x0 x1 x2) := by
  unfold State.dramPut
  grind [State.setMark_mframe, MemFrame.set_mem, MemFrame.set_free]

theorem State.cwriteHome_mframe (x0 x1 x2) (h0 : MemFrame r (x0)) :
    MemFrame r (State.cwriteHome x0 x1 x2) := by
  unfold State.cwriteHome
  grind [State.dramPoison_mframe, State.dramPut_mframe]

theorem State.croom_mframe (x0 x1) (h0 : MemFrame r (x0)) :
    MemFrame r (State.croom x0 x1) := by
  unfold State.croom
  grind [State.cdrop_mframe, State.cwriteHome_mframe]

theorem State.homeRead_mframe (x0 x1 x2 x3 x4) (h0 : MemFrame r (x0)) :
    MemFrame r (State.homeRead x0 x1 x2 x3 x4).1 := by
  unfold State.homeRead
  grind [State.cdrop_mframe, State.cput_mframe, State.dramRead_mframe, State.croom_mframe]

theorem State.homePut_mframe (x0 x1 x2 x3) (h0 : MemFrame r (x0)) :
    MemFrame r (State.homePut x0 x1 x2 x3) := by
  unfold State.homePut
  grind [State.cput_mframe, State.croom_mframe, State.dramPut_mframe]

theorem State.homePoison_mframe (x0 x1) (h0 : MemFrame r (x0)) :
    MemFrame r (State.homePoison x0 x1) := by
  unfold State.homePoison
  grind [State.cput_mframe, State.dramPoison_mframe]

theorem State.homeMerge_mframe (x0 x1 x2) (h0 : MemFrame r (x0)) :
    MemFrame r (State.homeMerge x0 x1 x2).1 := by
  unfold State.homeMerge
  grind [State.dramRead_mframe, State.homePoison_mframe]

theorem State.homeWrite_mframe (x0 x1 x2 x3 x4 x5) (h0 : MemFrame r (x0)) :
    MemFrame r (State.homeWrite x0 x1 x2 x3 x4 x5).1 := by
  unfold State.homeWrite
  grind [State.homePut_mframe, State.homeMerge_mframe]

theorem State.homeMso_mframe (x0 x1 x2 x3 x4 x5) (h0 : MemFrame r (x0)) :
    MemFrame r (State.homeMso x0 x1 x2 x3 x4 x5).1 := by
  unfold State.homeMso
  grind [State.homeMerge_mframe, State.homePut_mframe]

theorem State.serveHome_mframe (x0 x1 x2 x3 x4) (h0 : MemFrame r (x0)) :
    MemFrame r (State.serveHome x0 x1 x2 x3 x4).s := by
  unfold State.serveHome
  grind [State.homeRead_mframe, State.startUrgent_mframe, State.homeWrite_mframe, State.ensureSet_mframe, State.homeMso_mframe, State.charge_mframe]

theorem State.backInvalidate_mframe (x0 x1) (h0 : MemFrame r (x0)) :
    MemFrame r (State.backInvalidate x0 x1) := by
  unfold State.backInvalidate
  grind [MemFrame.set_mem, MemFrame.set_free]

theorem State.takeDirty_mframe (x0 x1 x2 x3) (h0 : MemFrame r (x0)) :
    MemFrame r (State.takeDirty x0 x1 x2 x3) := by
  unfold State.takeDirty
  dsimp only
  have h := State.setFmark_mframe _ x3.1 x3.2.mark (State.framePut_mframe x0 x3.1 (if x3.2.mark = .ok then x3.2.data else zeros 64) h0)
  exact MemFrame.ite (State.setBlk_mframe _ _ _ (State.cdrop_mframe _ _ h)) (State.cput_mframe _ _ _ h)

theorem State.copyFrame_mframe (x0 x1) (h0 : MemFrame r (x0)) :
    MemFrame r (State.copyFrame x0 x1) := by
  unfold State.copyFrame
  grind [State.dramRead_mframe, MemFrame.foldl, MemFrame.foldl_fst, MemFrame.set_mem, MemFrame.set_free, State.tookFinds_mframe]

theorem State.fillCopy_mframe (x0 x1 x2) (h0 : MemFrame r (x0)) :
    MemFrame r (State.fillCopy x0 x1 x2) := by
  unfold State.fillCopy
  grind [State.takeDirty_mframe, State.copyFrame_mframe, MemFrame.foldl, MemFrame.foldl_fst, MemFrame.set_mem, MemFrame.set_free]

theorem State.finishFill_mframe (x0 x1) (h0 : MemFrame r (x0)) :
    MemFrame r (State.finishFill x0 x1) := by
  unfold State.finishFill
  grind [State.fillCopy_mframe, State.setBlk_mframe, MemFrame.set_mem, MemFrame.set_free, State.charge_mframe, State.moverCycles_mframe]

theorem State.releaseBlk_mframe (x0 x1) (h0 : MemFrame r (x0)) :
    MemFrame r (State.releaseBlk x0 x1) := by
  unfold State.releaseBlk
  grind [State.setBlk_mframe, MemFrame.set_mem, MemFrame.set_free]

theorem State.writeBack_mframe (x0 x1 x2) (h0 : MemFrame r (x0)) :
    MemFrame r (State.writeBack x0 x1 x2) := by
  unfold State.writeBack
  grind [State.ensureSet_mframe, State.homePoison_mframe, State.homePut_mframe, MemFrame.foldl, MemFrame.foldl_fst, State.charge_mframe, State.moverCycles_mframe]

theorem State.finishDrain_mframe (x0 x1) (h0 : MemFrame r (x0)) :
    MemFrame r (State.finishDrain x0 x1) := by
  unfold State.finishDrain
  grind [State.releaseBlk_mframe, State.writeBack_mframe, State.setBlk_mframe, MemFrame.set_mem, MemFrame.set_free, State.startDue_mframe]

theorem State.settle_mframe (x0 x1) (h0 : MemFrame r (x0)) :
    MemFrame r (State.settle x0 x1) := by
  unfold State.settle
  grind [State.finishFill_mframe, State.finishDrain_mframe]

theorem State.evict_mframe (x0 x1) (h0 : MemFrame r (x0)) :
    MemFrame r (State.evict x0 x1) := by
  unfold State.evict
  grind [State.releaseBlk_mframe, State.setBlk_mframe]

theorem State.serve_mframe (x0 x1 x2 x3 x4 x5) (h0 : MemFrame r (x0)) :
    MemFrame r (State.serve x0 x1 x2 x3 x4 x5).s := by
  unfold State.serve
  grind [State.fencedRes_mframe, State.serveHome_mframe, State.backInvalidate_mframe, State.homeRead_mframe, State.frameRead_mframe,
    State.frameWrite_mframe, State.settle_mframe, State.finishDrain_mframe, State.evict_mframe, State.releaseBlk_mframe, State.homeView_mframe, State.charge_mframe, State.serveFrame_mframe]

theorem State.serveAs_mframe (x0 x1 x2) (h0 : MemFrame r (x0)) :
    MemFrame r (State.serveAs x0 x1 x2).s := by
  unfold State.serveAs
  grind [State.serve_mframe, State.serveHome_mframe, State.fencedRes_mframe]

theorem State.passWaiting_mframe (x0 x1) (h0 : MemFrame r (x0)) :
    MemFrame r (State.passWaiting x0 x1) := by
  unfold State.passWaiting
  exact MemFrame.foldl (h0.set_mem _) (fun s w h => State.serveAs_mframe s w true h)

theorem State.serveNext_mframe (x0 x1 x2) (h0 : MemFrame r (x0)) :
    MemFrame r (State.serveNext x0 x1 x2).s := by
  unfold State.serveNext
  grind [State.serve_mframe, State.passWaiting_mframe, State.tookEcc_mframe, State.tookFinds_mframe]

theorem LineRes.s_mframe (x0) (h0 : MemFrame r (x0).s) :
    MemFrame r (LineRes.s x0) := by
  unfold LineRes.s
  grind []

theorem State.uRead_mframe (x0 x1 x2 x3 x4) (h0 : MemFrame r (x0)) :
    MemFrame r (State.uRead x0 x1 x2 x3 x4).1 := by
  unfold State.uRead
  grind [State.serve_mframe, LineRes.s_mframe, MemFrame.foldl, MemFrame.foldl_fst, State.serveNext_mframe]

theorem State.uWrite_mframe (x0 x1 x2 x3) (h0 : MemFrame r (x0)) :
    MemFrame r (State.uWrite x0 x1 x2 x3).1 := by
  unfold State.uWrite
  grind [State.serve_mframe, LineRes.s_mframe, MemFrame.foldl, MemFrame.foldl_fst, State.serveNext_mframe]

theorem State.dput_mframe (x0 x1 x2) (h0 : MemFrame r (x0)) :
    MemFrame r (State.dput x0 x1 x2) := by
  unfold State.dput
  grind [MemFrame.set_mem, MemFrame.set_free]

theorem State.hWrite_mframe (x0 x1 x2) (h0 : MemFrame r (x0)) :
    MemFrame r (State.hWrite x0 x1 x2).1 := by
  unfold State.hWrite
  grind [State.dput_mframe, MemFrame.foldl, MemFrame.foldl_fst]

theorem State.devWrite_mframe (x0 x1 x2 x3) (h0 : MemFrame r (x0)) :
    MemFrame r (State.devWrite x0 x1 x2 x3).1 := by
  unfold State.devWrite
  grind [State.uWrite_mframe, State.hWrite_mframe]

theorem State.hRead_mframe (x0 x1 x2) (h0 : MemFrame r (x0)) :
    MemFrame r (State.hRead x0 x1 x2).1 := by
  unfold State.hRead
  grind [State.dput_mframe, MemFrame.foldl, MemFrame.foldl_fst]

theorem State.devRead_mframe (x0 x1 x2 x3 x4) (h0 : MemFrame r (x0)) :
    MemFrame r (State.devRead x0 x1 x2 x3 x4).1 := by
  unfold State.devRead
  grind [State.uRead_mframe, State.hRead_mframe]

theorem State.uAtomic_mframe (x0 x1 x2 x3) (h0 : MemFrame r (x0)) :
    MemFrame r (State.uAtomic x0 x1 x2 x3).1 := by
  unfold State.uAtomic
  grind [State.serve_mframe, LineRes.s_mframe, State.serveNext_mframe]

theorem State.uPoison_mframe (x0 x1) (h0 : MemFrame r (x0)) :
    MemFrame r (State.uPoison x0 x1) := by
  unfold State.uPoison
  have h := State.settle_mframe _ (x1 / 1024) (State.passWaiting_mframe _ x1 h0)
  generalize (x0.passWaiting x1).settle (x1 / 1024) = u at h ⊢
  grind [State.markDirty_mframe, State.setFmark_mframe, State.framePut_mframe, State.homePoison_mframe, State.ensureSet_mframe]

end Sys2Proof.Machine
end

