-- ==== Sys2Proof/Laws/Power.lean ====
section
/-! SUPPORT. What each operation of Sys2Proof/Machine/Power.lean keeps: a state that is good (Laws/Good.lean) stays good. -/

namespace Sys2Proof.Machine

open Sys2Proof Sys2Proof.Safety

variable {r s : State}

theorem State.addEnergy_good (x0 x1 x2) (h0 : Good r (x0)) :
    Good r (State.addEnergy x0 x1 x2) := by
  unfold State.addEnergy
  grind [State.setReg_good]

theorem State.newSpan_good (x0 x1) (h0 : Good r (x0)) :
    Good r (State.newSpan x0 x1) := by
  unfold State.newSpan
  grind [State.modPwr_good]

theorem State.droopStep_good (x0 x1) (h0 : Good r (x0)) :
    Good r (State.droopStep x0 x1) := by
  unfold State.droopStep
  grind [State.pwrEvent_good, State.relevel_good, State.modCell_good]

theorem State.addEpisodes_good (x0 x1 x2) (h0 : Good r (x0)) :
    Good r (State.addEpisodes x0 x1 x2) := by
  unfold State.addEpisodes
  grind [State.modCell_good, State.droopStep_good]

theorem State.addSample_good (x0 x1 x2) (h0 : Good r (x0)) :
    Good r (State.addSample x0 x1 x2) := by
  unfold State.addSample
  grind [State.setF_good, State.modPwr_good]

theorem State.credit_good (x0 x1 x2) (h0 : Good r (x0)) :
    Good r (State.credit x0 x1 x2) := by
  unfold State.credit
  grind [State.addEnergy_good, State.modPwr_good]

theorem State.spendEnergy_good (x0 x1 x2 x3 x4) (h0 : Good r (x0)) :
    Good r (State.spendEnergy x0 x1 x2 x3 x4) := by
  unfold State.spendEnergy
  grind [State.modPwr_good, State.credit_good]

theorem State.attribute_good (x0 x1) (h0 : Good r (x0)) :
    Good r (State.attribute x0 x1) := by
  unfold State.attribute
  grind [State.credit_good, State.spendEnergy_good, State.count_good]

theorem State.attributeWay_good (x0 x1) (h0 : Good r (x0)) :
    Good r (State.attributeWay x0 x1) := by
  unfold State.attributeWay
  grind [State.credit_good, State.spendEnergy_good, State.count_good]

theorem State.breach_good (x0 x1 x2 x3 x4) (h0 : Good r (x0)) :
    Good r (State.breach x0 x1 x2 x3 x4) := by
  unfold State.breach
  grind [State.modPwr_good, State.pwrEvent_good]

theorem State.clamp_good (x0) (h0 : Good r (x0)) :
    Good r (State.clamp x0) := by
  unfold State.clamp
  grind [State.modPwr_good, State.pwrEvent_good, State.relevelAll_good, State.setF_good]

theorem State.compare_good (x0 x1 x2 x3 x4) (h0 : Good r (x0)) :
    Good r (State.compare x0 x1 x2 x3 x4) := by
  unfold State.compare
  grind [State.breach_good, Good.foldl, Good.foldl_fst, Good.foldl_snd]

theorem State.leak_good (x0 x1) (h0 : Good r (x0)) :
    Good r (State.leak x0 x1) := by
  unfold State.leak
  grind [State.spendEnergy_good]

theorem State.portEnergy_good (x0 x1) (h0 : Good r (x0)) :
    Good r (State.portEnergy x0 x1) := by
  unfold State.portEnergy
  grind [State.spendEnergy_good, Good.foldl, Good.foldl_fst, Good.foldl_snd]

theorem State.reserveChk_good (x0) (h0 : Good r (x0)) :
    Good r (State.reserveChk x0) := by
  unfold State.reserveChk
  grind [State.modPwr_good, State.pwrEvent_good]

theorem State.heatStep_good (x0 x1) (h0 : Good r (x0)) :
    Good r (State.heatStep x0 x1) := by
  unfold State.heatStep
  grind [State.modCell_good]

theorem State.heatReading_good (x0 x1 x2) (h0 : Good r (x0)) :
    Good r (State.heatReading x0 x1 x2) := by
  unfold State.heatReading
  grind [State.modCell_good, State.pwrEvent_good, State.heatStep_good]

theorem State.lsCool_good (x0 x1) (h0 : Good r (x0)) :
    Good r (State.lsCool x0 x1) := by
  unfold State.lsCool
  grind [State.modCell_good, Good.foldl, Good.foldl_fst, Good.foldl_snd]

theorem State.lsStep_good (x0 x1) (h0 : Good r (x0)) :
    Good r (State.lsStep x0 x1) := by
  unfold State.lsStep
  grind [State.modCell_good, Good.foldl, Good.foldl_fst, Good.foldl_snd]

theorem State.moveWard_good (x0 x1 x2 x3) (h0 : Good r (x0)) :
    Good r (State.moveWard x0 x1 x2 x3) := by
  unfold State.moveWard
  grind [State.raise_good, State.setWardLevel_good]

theorem State.peakDie_good (x0 x1) (h0 : Good r (x0)) :
    Good r (State.peakDie x0 x1) := by
  unfold State.peakDie
  grind [State.setF_good]

theorem State.stepHalf_good (x0 x1) (h0 : Good r (x0)) :
    Good r (State.stepHalf x0 x1) := by
  unfold State.stepHalf
  grind [State.relevel_good, State.moveWard_good, Good.foldl, Good.foldl_fst, Good.foldl_snd]

theorem execCapStepCheck_good (x0 x1 x2) (h2 : Good r (x2)) :
    GoodOut r (execCapStepCheck x0 x1 x2) := by
  unfold execCapStepCheck
  grind [State.pwrEvent_good, State.modPwr_good, State.stepHalf_good, Good.foldl, Good.foldl_fst, Good.foldl_snd, GoodOut.next]

theorem execCellSensorLost_good (x0 x1) (h1 : Good r (x1)) :
    GoodOut r (execCellSensorLost x0 x1) := by
  unfold execCellSensorLost
  grind [State.relevel_good, State.pwrEvent_good, State.modCell_good, GoodOut.next]

theorem execCellSupplySample_good (x0 x1 x2) (h2 : Good r (x2)) :
    GoodOut r (execCellSupplySample x0 x1 x2) := by
  unfold execCellSupplySample
  grind [State.relevel_good, State.compare_good, State.setF_good, GoodOut.next]

theorem execCellTempReading_good (x0 x1 x2) (h2 : Good r (x2)) :
    GoodOut r (execCellTempReading x0 x1 x2) := by
  unfold execCellTempReading
  dsimp only
  refine GoodOut.next ?_
  repeat' first
    | with_reducible assumption
    | with_reducible apply State.heatReading_good
    | with_reducible apply State.peakDie_good
    | with_reducible apply State.setF_good
    | with_reducible apply State.relevel_good
    | with_reducible apply State.compare_good
    | with_reducible apply State.modCell_good
    | with_reducible apply State.deadbolt_good
    | split

theorem execClampEnd_good (x0) (h0 : Good r (x0)) :
    GoodOut r (execClampEnd x0) := by
  unfold execClampEnd
  grind [State.setWardLevel_good, State.relevelAll_good, State.setF_good, State.modPwr_good, Good.foldl, Good.foldl_fst, Good.foldl_snd,
    GoodOut.next]

theorem execCoolantReading_good (x0 x1 x2) (h2 : Good r (x2)) :
    GoodOut r (execCoolantReading x0 x1 x2) := by
  unfold execCoolantReading
  grind [State.setF_good, State.refreshCap_good, State.modPwr_good, State.pwrEvent_good, GoodOut.next, State.deadbolt_good]

theorem execCorrUpdate_good (x0 x1 x2) (h2 : Good r (x2)) :
    GoodOut r (execCorrUpdate x0 x1 x2) := by
  unfold execCorrUpdate
  grind [State.modPwr_good, State.setF_good, State.drew_good, State.pwrEvent_good, GoodOut.next]

theorem execDeadboltTrip_good (x0 x1 x2 x3) (h3 : Good r (x3)) :
    GoodOut r (execDeadboltTrip x0 x1 x2 x3) := by
  unfold execDeadboltTrip
  grind [State.deadbolt_good, GoodOut.next]

theorem execDroopDetect_good (x0 x1 x2) (h2 : Good r (x2)) :
    GoodOut r (execDroopDetect x0 x1 x2) := by
  unfold execDroopDetect
  grind [State.pwrEvent_good, State.bump_good, State.modCell_good, State.addEpisodes_good, GoodOut.next]

theorem execDroopRecover_good (x0 x1) (h1 : Good r (x1)) :
    GoodOut r (execDroopRecover x0 x1) := by
  unfold execDroopRecover
  grind [State.pwrEvent_good, State.modCell_good, GoodOut.next]

theorem execDroopStepEnd_good (x0 x1) (h1 : Good r (x1)) :
    GoodOut r (execDroopStepEnd x0 x1) := by
  unfold execDroopStepEnd
  grind [State.relevel_good, State.modCell_good, GoodOut.next]

theorem execEnergyModelTick_good (x0 x1 x2) (h2 : Good r (x2)) :
    GoodOut r (execEnergyModelTick x0 x1 x2) := by
  unfold execEnergyModelTick
  have h := h2.foldl (l := x0) (f := State.attribute) (fun s x => State.attribute_good s x)
  have h := h.foldl (l := x1) (f := State.attributeWay) (fun s x => State.attributeWay_good s x)
  grind [Good.foldl, GoodOut.next, State.leak_good, State.portEnergy_good, State.modPwr_good, State.reserveChk_good]

theorem execGovernorDecision_good (x0 x1 x2 x3) (h3 : Good r (x3)) :
    GoodOut r (execGovernorDecision x0 x1 x2 x3) := by
  unfold execGovernorDecision
  grind [State.relevel_good, State.moveWard_good, Good.foldl, Good.foldl_fst, Good.foldl_snd, GoodOut.next, State.newSpan_good]

theorem execLsTempReading_good (x0 x1 x2 x3) (h3 : Good r (x3)) :
    GoodOut r (execLsTempReading x0 x1 x2 x3) := by
  unfold execLsTempReading
  grind [State.peakDie_good, State.modPwr_good, State.relevel_good, State.lsStep_good, State.lsCool_good, GoodOut.next,
    State.deadbolt_good]

theorem execNeighbourHoldEnd_good (x0 x1 x2) (h2 : Good r (x2)) :
    GoodOut r (execNeighbourHoldEnd x0 x1 x2) := by
  unfold execNeighbourHoldEnd
  grind [State.relevel_good, State.modPwr_good, GoodOut.next]

theorem execPInLost_good (x0) (h0 : Good r (x0)) :
    GoodOut r (execPInLost x0) := by
  unfold execPInLost
  grind [State.pwrEvent_good, State.refreshCap_good, State.modPwr_good, GoodOut.next]

theorem execPInSample_good (x0 x1 x2) (h2 : Good r (x2)) :
    GoodOut r (execPInSample x0 x1 x2) := by
  unfold execPInSample
  dsimp only
  refine GoodOut.next ?_
  repeat' first
    | with_reducible assumption
    | with_reducible apply State.addEnergy_good
    | with_reducible apply State.addSample_good
    | with_reducible apply State.refreshCap_good
    | with_reducible apply State.modPwr_good
    | with_reducible apply State.clamp_good
    | with_reducible apply GoodOut.next
    | with_reducible apply State.setReg_good
    | split

theorem execStartGrant_good (x0 x1) (h1 : Good r (x1)) :
    GoodOut r (execStartGrant x0 x1) := by
  unfold execStartGrant
  grind [State.modCore_good, State.modPwr_good, GoodOut.next]

theorem execStretchLimit_good (x0 x1) (h1 : Good r (x1)) :
    GoodOut r (execStretchLimit x0 x1) := by
  unfold execStretchLimit
  grind [State.addEpisodes_good, State.pwrEvent_good, State.modCell_good, GoodOut.next]

theorem execSupplySettled_good (x0 x1) (h1 : Good r (x1)) :
    GoodOut r (execSupplySettled x0 x1) := by
  unfold execSupplySettled
  grind [State.modCell_good, State.setF_good, GoodOut.next, State.settle_good, State.setDiv_good]

theorem execThermalStepTimer_good (x0) (h0 : Good r (x0)) :
    GoodOut r (execThermalStepTimer x0) := by
  unfold execThermalStepTimer
  refine GoodOut.next (State.relevelAll_good _ (Good.foldl (Good.foldl h0 fun s k h => ?_) fun s k h => Good.ite (State.lsStep_good _ _ h) h))
  split
  · exact State.modCell_good _ _ _ h
  · exact h

end Sys2Proof.Machine
end

