-- ==== Sys2Proof/Laws/RefLoss.lean ====
section
/-! SUPPORT. What each operation of Sys2Proof/Machine/RefLoss.lean keeps: a state that is good (Laws/Good.lean) stays good. -/

namespace Sys2Proof.Machine

open Sys2Proof Sys2Proof.Safety

variable {r s : State}

theorem State.endMsgs_good (x0) (h0 : Good r (x0)) :
    Good r (State.endMsgs x0) := by
  unfold State.endMsgs
  grind [State.endQueue_good, State.finishMsg_good, State.modX_good, Good.foldl, Good.foldl_fst, Good.foldl_snd]

theorem State.endTierOp_good (x0 x1) (h0 : Good r (x0)) :
    Good r (State.endTierOp x0 x1) := by
  unfold State.endTierOp
  grind [State.setF_good, Good.set_mem_ops]

theorem State.endWalkers_good (x0 x1) (h0 : Good r (x0)) :
    Good r (State.endWalkers x0 x1) := by
  unfold State.endWalkers
  grind [State.walkStop_good, Good.foldl, Good.foldl_fst, Good.foldl_snd]

theorem State.endRegionCmd_good (x0 x1) (h0 : Good r (x0)) :
    Good r (State.endRegionCmd x0 x1) := by
  unfold State.endRegionCmd
  grind [State.regionStatus_good, State.count_good, State.setStack_good]

theorem State.endRegCmd_good (x0) (h0 : Good r (x0)) :
    Good r (State.endRegCmd x0) := by
  unfold State.endRegCmd
  grind [State.modX_good, State.regStatus_good]

theorem State.abortAll_good (x0) (h0 : Good r (x0)) :
    Good r (State.abortAll x0) := by
  unfold State.abortAll
  have h := State.endMsgs_good _ (State.endAccesses_good _ (fun _ => true) St.aborted
    (Good.foldl (l := List.range 168) h0 fun s k h => State.forget_good (s.endAll k St.aborted) k (State.endAll_good _ _ _ h)))
  have h := Good.foldl (l := List.range 2) h fun s k h => State.endWalkers_good _ k (State.endTierOp_good _ k h)
  have h := State.endRegCmd_good _ (Good.foldl (l := List.range 8) h fun s k h => State.endRegionCmd_good _ k h)
  exact State.sfnRelease_good _ _ _ (Good.foldl (l := List.range 64) h fun s c h => State.abortJob_good _ c h)

theorem execRefHoldoverExpiry_good (x0) (h0 : Good r (x0)) :
    GoodOut r (execRefHoldoverExpiry x0) := by
  unfold execRefHoldoverExpiry
  grind [State.abortAll_good, State.raise_good, Good.set_clk, GoodOut.next]

end Sys2Proof.Machine
end

