-- ==== Sys2Proof/Laws/Rv.lean ====
section
/-! SUPPORT. What each operation of Sys2Proof/Machine/Rv.lean keeps: a state that is good (Laws/Good.lean) stays good. -/

namespace Sys2Proof.Machine

open Sys2Proof Sys2Proof.Safety

variable {r s : State}

theorem State.csrWrite_good (x0 x1 x2 x3) (h0 : Good r (x0)) :
    Good r (State.csrWrite x0 x1 x2 x3) := by
  unfold State.csrWrite
  grind [State.modCore_good]

theorem State.kenaris_good (x0 x1 x2 x3) (h0 : Good r (x0)) (h3 : ∀ y0 y1 y2, Good r (x3 y0 y1 y2)) :
    Good r (State.kenaris x0 x1 x2 x3) := by
  unfold State.kenaris
  grind []

theorem State.retire_good (x0 x1 x2) (h0 : Good r (x0)) :
    Good r (State.retire x0 x1 x2) := by
  unfold State.retire
  grind [State.modCore_good]

theorem State.kenarisEnd_good (x0 x1 x2 x3) (h0 : Good r (x0)) :
    Good r (State.kenarisEnd x0 x1 x2 x3) := by
  unfold State.kenarisEnd
  grind [State.retire_good, State.modCore_good]

theorem State.push_good (x0 x1 x2 x3) (h0 : Good r (x0)) :
    Good r (State.push x0 x1 x2 x3) := by
  unfold State.push
  grind [State.kenarisEnd_good, State.setCore_good]

theorem State.subLoad_good (x0 x1 x2) (h0 : Good r (x0)) :
    Good r (State.subLoad x0 x1 x2).2 := by
  unfold State.subLoad
  grind [State.cellClear_good, State.modCore_good]

theorem State.rvLoad_good (x0 x1 x2 x3 x4) (h0 : Good r (x0)) :
    Good r (State.rvLoad x0 x1 x2 x3 x4).1 := by
  unfold State.rvLoad
  grind [State.csScan_good, State.subLoad_good]

theorem State.rvStore_good (x0 x1 x2 x3 x4) (h0 : Good r (x0)) :
    ∀ t, State.rvStore x0 x1 x2 x3 x4 = .ok t → Good r t := by
  unfold State.rvStore
  grind [State.csWrite_good, State.cellWrite_good, State.modCore_good]

theorem State.rvTrap_good (x0 x1 x2 x3) (h0 : Good r (x0)) :
    Good r (State.rvTrap x0 x1 x2 x3) := by
  unfold State.rvTrap
  grind [State.setCore_good, State.coreEvent_good]

theorem State.rvExec_good (x0 x1 x2 x3 x4 x5) (h0 : Good r (x0)) :
    Good r (State.rvExec x0 x1 x2 x3 x4 x5) := by
  unfold State.rvExec
  grind [State.retire_good, State.modCore_good, State.rvLoad_good, State.rvTrap_good, State.rvStore_good, State.csrWrite_good]

theorem execEbreak_good (x0 x1) (h1 : Good r (x1)) :
    GoodOut r (execEbreak x0 x1) := by
  unfold execEbreak
  grind [State.haltCore_good, GoodOut.next]

theorem execKenarisIllegal_good (x0 x1) (h1 : Good r (x1)) :
    GoodOut r (execKenarisIllegal x0 x1) := by
  unfold execKenarisIllegal
  grind [State.rvTrap_good, GoodOut.next]

theorem execPushsUnstall_good (x0 x1) (h1 : Good r (x1)) :
    GoodOut r (execPushsUnstall x0 x1) := by
  unfold execPushsUnstall
  grind [State.push_good, State.modCore_good, GoodOut.next]

theorem execRvInstruction_good (x0 x1 x2) (h2 : Good r (x2)) :
    GoodOut r (execRvInstruction x0 x1 x2) := by
  unfold execRvInstruction
  grind [State.rvTrap_good, State.rvExec_good, GoodOut.next]

theorem execScAdd_good (x0 x1) (h1 : Good r (x1)) :
    GoodOut r (execScAdd x0 x1) := by
  unfold execScAdd
  grind [State.kenaris_good, State.kenarisEnd_good, State.addCtr_good, GoodOut.next]

theorem execScRead_good (x0 x1) (h1 : Good r (x1)) :
    GoodOut r (execScRead x0 x1) := by
  unfold execScRead
  grind [State.kenaris_good, State.kenarisEnd_good, GoodOut.next]

theorem execScWait_good (x0 x1) (h1 : Good r (x1)) :
    GoodOut r (execScWait x0 x1) := by
  unfold execScWait
  grind [State.kenaris_good, State.kenarisEnd_good, State.modCore_good, GoodOut.next]

theorem execScWaitRelease_good (x0 x1) (h1 : Good r (x1)) :
    GoodOut r (execScWaitRelease x0 x1) := by
  unfold execScWaitRelease
  grind [State.kenarisEnd_good, State.modCore_good, GoodOut.next]

theorem execTcDone_good (x0 x1) (h1 : Good r (x1)) :
    GoodOut r (execTcDone x0 x1) := by
  unfold execTcDone
  grind [State.kenaris_good, State.kenarisEnd_good, GoodOut.next]

theorem execTcLds_good (x0 x1 x2) (h2 : Good r (x2)) :
    GoodOut r (execTcLds x0 x1 x2) := by
  unfold execTcLds
  grind [State.kenaris_good, State.rvTrap_good, State.csScan_good, State.kenarisEnd_good, State.modCore_good, Good.foldl, Good.foldl_fst,
    Good.foldl_snd, GoodOut.next]

theorem execTcPushs_good (x0 x1) (h1 : Good r (x1)) :
    GoodOut r (execTcPushs x0 x1) := by
  unfold execTcPushs
  grind [State.kenaris_good, State.rvTrap_good, State.push_good, State.modCore_good, GoodOut.next]

theorem execTcStage_good (x0 x1) (h1 : Good r (x1)) :
    GoodOut r (execTcStage x0 x1) := by
  unfold execTcStage
  grind [State.kenaris_good, State.kenarisEnd_good, State.modCore_good, GoodOut.next]

end Sys2Proof.Machine
end

