-- ==== Sys2Proof/Laws/Supply.lean ====
section
/-! SUPPORT. What each operation of Sys2Proof/Machine/Supply.lean keeps: a state that is good (Laws/Good.lean) stays good. -/

namespace Sys2Proof.Machine

open Sys2Proof Sys2Proof.Safety

variable {r s : State}

theorem State.noteRail_good (x0 x1 x2 x3) (h0 : Good r (x0)) :
    Good r (State.noteRail x0 x1 x2 x3) := by
  unfold State.noteRail
  split
  · exact h0
  · exact h0.set_nv ⟨h0.1.2, ⟨h0.4.1, h0.4.2, h0.4.3, h0.4.4, h0.4.5⟩⟩

theorem execCmMeasurement_good (x0 x1) (h1 : Good r (x1)) :
    GoodOut r (execCmMeasurement x0 x1) := by
  have h := State.modSup_good x1 (fun x => { x with disagree := false }) h1
  exact GoodOut.next (h.set_nv ⟨h.1.2, ⟨h.4.1, h.4.2, h.4.3, h.4.4, h.4.5⟩⟩)

theorem execEmergencyStep_good (x0) (h0 : Good r (x0)) :
    GoodOut r (execEmergencyStep x0) := by
  unfold execEmergencyStep
  grind [State.modSup_good, GoodOut.next]

theorem execEnAssert_good (x0) (h0 : Good r (x0)) :
    GoodOut r (execEnAssert x0) := by
  unfold execEnAssert
  grind [State.tryStart_good, State.modSup_good, GoodOut.next]

theorem execEnDeassert_good (x0) (h0 : Good r (x0)) :
    GoodOut r (execEnDeassert x0) := by
  unfold execEnDeassert
  grind [State.modSup_good, State.finalPage_good, State.downNormal_good, GoodOut.next]

theorem execGaugeFault_good (x0) (h0 : Good r (x0)) :
    GoodOut r (execGaugeFault x0) := by
  unfold execGaugeFault
  grind [State.modSup_good, GoodOut.next]

theorem execGaugeFaultClear_good (x0) (h0 : Good r (x0)) :
    GoodOut r (execGaugeFaultClear x0) := by
  unfold execGaugeFaultClear
  grind [State.modSup_good, GoodOut.next]

theorem execHoldUpExhausted_good (x0) (h0 : Good r (x0)) :
    GoodOut r (execHoldUpExhausted x0) := by
  unfold execHoldUpExhausted
  grind [State.modSup_good, State.dropGood_good, GoodOut.next]

theorem execHostLinkL1Change_good (x0 x1) (h1 : Good r (x1)) :
    GoodOut r (execHostLinkL1Change x0 x1) := by
  unfold execHostLinkL1Change
  grind [State.modSup_good, Good.set_evt, GoodOut.next]

theorem execInputInRange20ms_good (x0) (h0 : Good r (x0)) :
    GoodOut r (execInputInRange20ms x0) := by
  unfold execInputInRange20ms
  grind [State.tryStart_good, State.modSup_good, GoodOut.next]

theorem execInputLoss_good (x0) (h0 : Good r (x0)) :
    GoodOut r (execInputLoss x0) := by
  unfold execInputLoss
  grind [State.modSup_good, State.finalPage_good, State.downEmergency_good, GoodOut.next]

theorem execInputOvervoltage_good (x0) (h0 : Good r (x0)) :
    GoodOut r (execInputOvervoltage x0) := by
  unfold execInputOvervoltage
  grind [State.downEmergency_good, State.modSup_good, GoodOut.next]

theorem execInputRemoved1s_good (x0) (h0 : Good r (x0)) :
    GoodOut r (execInputRemoved1s x0) := by
  unfold execInputRemoved1s
  grind [State.setF_good, State.modSup_good, GoodOut.next]

theorem execInputReturn_good (x0) (h0 : Good r (x0)) :
    GoodOut r (execInputReturn x0) := by
  unfold execInputReturn
  grind [State.modSup_good, GoodOut.next]

theorem execOcpTrip_good (x0 x1) (h1 : Good r (x1)) :
    GoodOut r (execOcpTrip x0 x1) := by
  unfold execOcpTrip
  grind [State.ocp_good, State.drew_good, GoodOut.next]

theorem execPowerGood_good (x0) (h0 : Good r (x0)) :
    GoodOut r (execPowerGood x0) := by
  unfold execPowerGood
  grind [State.modSup_good, Good.set_mgt, GoodOut.next]

theorem execPowerupRetry_good (x0) (h0 : Good r (x0)) :
    GoodOut r (execPowerupRetry x0) := by
  unfold execPowerupRetry
  grind [State.modSup_good, State.tryStart_good, GoodOut.next]

theorem execRailDischargeTimeout_good (x0 x1 x2 x3) (h3 : Good r (x3)) :
    GoodOut r (execRailDischargeTimeout x0 x1 x2 x3) := by
  unfold execRailDischargeTimeout
  grind [State.downEmergency_good, State.noteRail_good, GoodOut.next]

theorem execRailDischarged_good (x0 x1) (h1 : Good r (x1)) :
    GoodOut r (execRailDischarged x0 x1) := by
  unfold execRailDischarged
  grind [State.modSup_good, GoodOut.next]

theorem execRailFault_good (x0 x1 x2 x3) (h3 : Good r (x3)) :
    GoodOut r (execRailFault x0 x1 x2 x3) := by
  unfold execRailFault
  grind [State.noteRail_good, State.modSup_good, State.downEmergency_good, State.ocp_good, State.drew_good, GoodOut.next]

theorem execRailInRegulation_good (x0 x1) (h1 : Good r (x1)) :
    GoodOut r (execRailInRegulation x0 x1) := by
  unfold execRailInRegulation
  grind [State.modSup_good, GoodOut.next]

theorem execSbClearRailFaults_good (x0) (h0 : Good r (x0)) :
    GoodOut r (execSbClearRailFaults x0) := by
  exact GoodOut.next (State.sbDo_good _ _ h0 fun s h =>
    State.answer_good _ _ _ _ (h.set_nv ⟨h.1.2, ⟨h.4.1, h.4.2, h.4.3, h.4.4, h.4.5⟩⟩))

theorem execSbGetRailFaults_good (x0) (h0 : Good r (x0)) :
    GoodOut r (execSbGetRailFaults x0) := by
  unfold execSbGetRailFaults
  grind [State.answer_good, GoodOut.next, State.sbDo_good]

theorem execSbGetSupply_good (x0 x1 x2 x3) (h3 : Good r (x3)) :
    GoodOut r (execSbGetSupply x0 x1 x2 x3) := by
  unfold execSbGetSupply
  grind [State.answer_good, State.drew_good, GoodOut.next, State.sbDo_good]

theorem execSbRestart_good (x0) (h0 : Good r (x0)) :
    GoodOut r (execSbRestart x0) := by
  unfold execSbRestart
  grind [State.answer_good, State.setF_good, State.modSup_good, State.finalPage_good, State.downNormal_good, GoodOut.next, State.sbDo_good,
    State.deadbolt_good]

theorem execSbUnknownCommand_good (x0 x1) (h1 : Good r (x1)) :
    GoodOut r (execSbUnknownCommand x0 x1) := by
  unfold execSbUnknownCommand
  grind [State.answer_good, GoodOut.next, State.sbDo_good]

end Sys2Proof.Machine
end

