-- ==== Sys2Proof/Tests/Slice0.lean ====
section
/-! SUPPORT. Tests of the model, and for each statement a concrete state and operands that meet its hypotheses. Expected results come from the
spec's text and from hand calculation by its rules. -/

namespace Sys2Proof.Tests

open Sys2Proof Sys2Proof.Machine Sys2Proof.Safety

set_option Elab.async false

/-! ## States -/

/-- A state with some register fields set. -/
def put (s : State) (l : List (Nat × Fld × Nat)) : State := l.foldl (fun s e => s.setF e.1 e.2.1 e.2.2) s
/-- The module in stage 4 with everything on and the host link up. -/
def up : State :=
  put { State.reset with
    clk := { State.reset.clk with on := true }
    sup := { State.reset.sup with inRange := true, ready := true, en := true, standby := true, pwrgd := true, seq := .on, bootDue := false
                                  enabled := Safety.rails allRails, inReg := Safety.rails allRails, perst := false } }
    [(R.MGMT_STAGE, F.MGMT_STAGE_STAGE, 4), (R.HOST_LINK_STATUS, F.HOST_LINK_STATUS_SPEED, 6)]
/-- Another supply state. -/
def sup (f : Sup → Sup) : State := { up with sup := f up.sup }
/-- Cell 3 at PC 0 of a program that begins with the word `w`, changed by `f`. -/
def prog (w : Nat) (f : Core → Core) : State :=
  { up with cores := [(3, f { halted := false })], mem := { up.mem with imem := putBytes [] (3 * 65536) (leBytes 4 w) } }
/-- A command of opcode `op` with further bits of W0 and its other words. -/
def cmdw (op : Nat) (w0 : Nat := 0) (w1 : Nat := 0) (w2 : Nat := 0) (w3 : Nat := 0) : Cmd :=
  { w0 := BitVec.ofNat 64 (op + 0x100 + w0), w1 := BitVec.ofNat 64 w1, w2 := BitVec.ofNat 64 w2, w3 := BitVec.ofNat 64 w3 }
/-- It issued to its unit, in a phase. -/
def iss (c : Cmd) (p : Phase := .queued) : Issued :=
  { cmd := c, seq := 7, strm := 0, ord := 5, unit := cmdUnit c.opcode, ward := 0, seed := 0, adj := 0, ftz := 0, tableOk := true, phase := p }
/-- Core `k` with issued commands. -/
def busyWith (k : Nat) (l : List Issued) : State := { up with cores := [(k, { issued := l })] }
/-- An operand word. -/
def opw (space addr : Nat) (xtra : Nat := 0) : Nat := addr + space * 2 ^ 48 + xtra * 2 ^ 53
/-- A shape word of packed rows. -/
def shp (rows elems : Nat) : Nat := rows + elems * 2 ^ 16
/-- Ward 0 is OPEN and holds cell group 0, engine 128 and slice 0. -/
def warded (l : List (Nat × Issued)) : State :=
  let s := put up [(R.SEC_WARD_STATE 0, F.SEC_WARD_STATE_STATE, 1), (R.SEC_WARD_RES 0, F.SEC_WARD_RES_GROUPS, 1),
    (R.SEC_WARD_RES 0, F.SEC_WARD_RES_QCOUNT, 1), (R.SEC_WARD_ENG 0, F.SEC_WARD_ENG_STREAM, 1), (R.SEC_WARD_ENG 0, F.SEC_WARD_ENG_COLL, 1)]
  { s with cores := l.map (fun e => (e.1, { issued := [e.2] }))
           mem := { s.mem with regions := (sliceRegions 0).map (fun k => (k, { owner := 0, st := 2 }))
                               blocks := [(0, some { way := 0, st := .clean, ward := 0, cls := 1, tag := 0, dirty := [] })] } }
/-- A context of queue 0 for ward 0: TYPE `ty`, in service, ring and completion ring in the host window. -/
def wctx (ty : Nat) : Ctx :=
  { w0 := BitVec.ofNat 64 (1 + ty * 16 + 2 ^ 11), w1 := BitVec.ofNat 64 (0x010000000000 + 4 * 2 ^ 48), w3 := BitVec.ofNat 64 (0x010000001000 + 4 * 2 ^ 48) }
/-- Ward 0 with that context in the cache; the transport is in service as device 7. -/
def xp (c : Ctx) (l : List (Nat × Issued) := []) : State :=
  let s := put (warded l) [(R.XPORT_CFG, F.XPORT_CFG_DEVNUM, 7), (R.XPORT_CFG, F.XPORT_CFG_ENABLE, 1)]
  { s with xport := { s.xport with ctxCache := [(0, c)] } }
/-- A packet to this module from itself, on its memory fabric. -/
def lp (typ : Nat) : Packet := { (xp (wctx 1)).pkt0 typ 7 with msgLen := 16, payload := zeros 16 }
/-- The state with packet `p` on the memory fabric. -/
def onLoop (s : State) (p : Packet) : State := { s with xport := { s.xport with loop := [p] } }
/-- A region of ward 0 over slice 0. -/
def wregion (phase : Nat) : XRegion :=
  { base := 0, len := 65536, ward := 0, permWrite := true, permRead := true, permAtomic := true, sig := 0, access := 9, phase := phase }
/-- A message to this module itself. -/
def wmsg (kind : Nat) : Msg :=
  { newMsg kind (.desc 1 1 true false) 0 0 7 0 16 0 with psize := 1024, npkts := 1, cwnd := 4, retryMax := 7, pkts := [(0, { copies := [{ xmit := 0, port := 16 }], sends := 1 })] }
/-- The state with a message outstanding. -/
def withMsg (m : Msg) : State := { xp (wctx 1) with xport := { (xp (wctx 1)).xport with msgs := [m] } }
/-- What a sent copy leaves. -/
def sent (x : Except Nat (State × Msg)) : State × Msg := match x with | .ok y => y | .error _ => (up, wmsg 0)
/-- A received frame of a kind. -/
def fr (k : FrameKind) (len : Nat := 64) (tag : Option (Nat × Nat) := none) : Frame := { len := len, tag := tag, cast := .unicast, kind := k }
/-- The headers of a packet in a frame. -/
def iph : IpHead := { v6 := true, src := 0, dst := 7, dscp := 0, ecn := 2, srcPort := 0xC000, dstPort := up.rf R.XPORT_CFG F.XPORT_CFG_UDP_PORT, csumOk := true }
/-- Message 0 whose packet waits for NAK_DELAY. -/
def heldMsg : Msg := { wmsg 0 with pkts := [(0, { copies := [{ xmit := 0, port := 16 }], sends := 1, held := true })] }
/-- It waits no more. -/
def freed : Msg := heldMsg.setPkt 0 { heldMsg.pkt 0 with held := false }
/-- The state in which message 0 has timed out, and what its next copy leaves. -/
def timed : State × Msg := (withMsg (wmsg 0)).timedOut (wmsg 0) 16
def again : State × Msg := sent (timed.1.copyOut timed.2 0 1 1 (timed.1.msgPkt timed.2 0 1) true)
/-- The state with packet `pkt` in a port's receive buffer. -/
def onPort (s : State) (p : Nat) (pkt : Packet) : State :=
  s.setPort p { rxq := [fr (.sirri { iph with v6 := decide (s.rf R.XPORT_CFG F.XPORT_CFG_IPV = 1), dst := s.ipAddr p s.dev } pkt)] }
/-- A descriptor ring with one entry in host memory that the ward has registered. -/
def onRing (w0 : Nat) (len : Nat) : State :=
  let s := xp { wctx 0 with w2 := 1 }
  let s := { s with xport := { s.xport with gens := [(0, 1)], regions := [(0, some { wregion 1 with base := 0x010000000000 })] } }
  { s with mem := { s.mem with hostCfg := true, host := putBytes [] (s.hostPhys 0x010000000000) (leBytes 8 w0 ++ leBytes 8 0 ++ leBytes 8 len) } }
/-- Port 2 in mode 1 with its link up and in the routes, parking negotiated; further register fields. -/
def pup (l : List (Nat × Fld × Nat) := []) : State :=
  put up ([(R.PORT_CFG 2, F.PORT_CFG_MODE, 1), (R.PORT_CFG 2, F.PORT_CFG_PARK_EN, 1), (R.PORT_CFG 2, F.PORT_CFG_MAX_FRAME, 9216),
    (R.PORT_PARK 2, F.PORT_PARK_THRESH, 64), (R.PORT_PARK 2, F.PORT_PARK_HOLD_MS, 1), (R.PORT_PARK 2, F.PORT_PARK_WAKE_KIB, 64),
    (R.PORT_STATUS 2, F.PORT_STATUS_LINK_A, 1), (R.PORT_STATUS 2, F.PORT_STATUS_USABLE, 1), (R.PORT_STATUS 2, F.PORT_STATUS_LANE_OK, 255),
    (R.PORT_STATUS 2, F.PORT_STATUS_PEER_PARK, 1)] ++ l)
/-- Cell 3 with table 14 valid, and an SFN issued that names it. -/
def sfn14 : State :=
  { (put up [(R.HALF_SFN_TDESC 0 3 2, F.HALF_SFN_TDESC_VALID, 1)]) with cores := [(3, { issued := [iss (cmdw 0x20 0 (opw 0 0 14))] })] }

/-! ## Hypotheses met -/

theorem canonical_up : Canonical up :=
  ⟨⟨by decide +kernel, by decide +kernel, by decide +kernel, by decide +kernel, by decide +kernel⟩, by decide +kernel, by decide +kernel⟩

/-- Hypotheses of StepRunsTheFront met. -/
theorem witness_StepRunsTheFront :
    ∃ (s : State) (c : Instr) (l : List Instr), s.pending = c :: l :=
    ⟨{ up with pending := [.refLockLost] }, .refLockLost, [], by decide +kernel⟩

/-- Hypotheses of StepIdles met. -/
theorem witness_StepIdles :
    ∃ (s : State), s.pending = [] ∧ s.mgt.entering = none ∧ (s.pstate = 0 ∨ s.pstateOk s.pstate = true) :=
    ⟨up, by decide +kernel⟩

/-- Hypotheses of ResetLeaves met. -/
theorem witness_ResetLeaves :
    ∃ (w : Nat), w < 8 :=
    ⟨3, by decide +kernel⟩

/-- Hypotheses of StepsKeepMemoriesCanonical met. -/
theorem witness_StepsKeepMemoriesCanonical :
    ∃ (s : State), Canonical s :=
    ⟨up, canonical_up⟩

/-- Hypotheses of StepsKeepFusesAndQueue met. -/
theorem witness_StepsKeepFusesAndQueue :
    ∃ (s : State) (c : Instr) (t : State), Canonical s ∧ exec c s = .next t :=
    ⟨up, .refLockLost, { up with clk := { up.clk with lock := false } }, canonical_up, rfl⟩

/-- Hypotheses of StatusOrder met. -/
theorem witness_StatusOrder :
    (∃ (l : List Nat), (∀ x ∈ l, x ≤ 12)) ∧ (∃ (l : List Nat) (m : List Nat), (∀ x ∈ l, x ≤ 12) ∧ l.Perm m) :=
    ⟨⟨[1, 5, 9], by decide +kernel⟩, ⟨[1, 5], [5, 1], by decide +kernel⟩⟩

/-- Hypotheses of StackMapIsOneToOne met. -/
theorem witness_StackMapIsOneToOne :
    (∃ (a : Nat), a < 2 ^ 39) ∧ (∃ (st : Nat) (off : Nat), st < 8 ∧ off < 2 ^ 36) :=
    ⟨⟨2 ^ 39 - 1, by decide +kernel⟩, ⟨7, 2 ^ 36 - 1, by decide +kernel⟩⟩

/-- Hypotheses of IntegersAreSymmetric met. -/
theorem witness_IntegersAreSymmetric :
    (∃ (mode : Nat) (u : Nat) (m : Nat) (neg : Bool), 127 < m) ∧ (∃ (mode : Nat) (u : Nat) (m : Nat) (neg : Bool), 7 < m) :=
    ⟨⟨1, 0, 300, true, by decide +kernel⟩, ⟨1, 0, 300, true, by decide +kernel⟩⟩

/-- Hypotheses of IntegerSumsAreExact met. -/
theorem witness_IntegerSumsAreExact :
    ∃ (l : List (Int × Int)) (m : List (Int × Int)), l.Perm m :=
    ⟨[(1, 2), (3, 4)], [(3, 4), (1, 2)], by decide +kernel⟩

/-- Hypotheses of HostWritesNeedTheLink met. -/
theorem witness_HostWritesNeedTheLink :
    ∃ (s : State), s.hostUp = false :=
    ⟨State.reset, by decide +kernel⟩

/-- Hypotheses of ReferenceAndCellsComplete met. -/
theorem witness_ReferenceAndCellsComplete :
    (∃ (s : State), s.clk.lock = false ∧ s.clk.lost = false) ∧ (∃ (s : State), (s.clk.lock = true ∨ s.clk.lost = true)) ∧ (∃ (s : State),
    s.clk.lock = false ∧ s.clk.lost = false) ∧ (∃ (s : State), s.clk.lock = false ∧ s.clk.lost = true) ∧
    (∃ (s : State) (half : Nat) (row : Nat) (col : Nat) (k : Nat), half < 2 ∧ row < 8 ∧ col < 9 ∧ s.faulty half row col = false ∧
    s.rf R.MGMT_STAGE F.MGMT_STAGE_STAGE ≠ 0 ∧ s.logicalOn half row col = some k ∧ s.absent k = false) ∧
    (∃ (s : State) (half : Nat) (row : Nat) (col : Nat), half < 2 ∧ row < 8 ∧ col < 9 ∧ s.faulty half row col = false ∧
    s.logicalOn half row col = none) ∧ (∃ (s : State) (half : Nat) (row : Nat) (col : Nat), half < 2 ∧ row < 8 ∧ col < 9 ∧
    s.faulty half row col = false ∧ s.parityRate half row col = true ∧ s.logicalOn half row col = none) ∧
    (∃ (s : State) (half : Nat) (row : Nat) (col : Nat) (k : Nat), half < 2 ∧ row < 8 ∧ col < 9 ∧ s.faulty half row col = false ∧
    s.parityRate half row col = true ∧ s.rf R.MGMT_STAGE F.MGMT_STAGE_STAGE ≠ 0 ∧ s.logicalOn half row col = some k ∧ s.absent k = false) ∧
    (∃ (s : State) (half : Nat) (row : Nat) (col : Nat), s.parityRate half row col = false) ∧ (∃ (s : State) (sub : Nat),
    nmem s.clk.sublinks sub = false ∧ s.clk.sublinks.length < 255) :=
    ⟨⟨{ up with clk := { up.clk with lock := false } }, by decide +kernel⟩, ⟨up, by decide +kernel⟩,
    ⟨{ up with clk := { up.clk with lock := false } }, by decide +kernel⟩,
    ⟨{ up with clk := { up.clk with lock := false, lost := true }, cores := [(3, { issued := [] })] }, by decide +kernel⟩,
    ⟨put up [(R.HALF_CELL_MAP 1, F.HALF_CELL_MAP_SUBST 2, 3)], 1, 2, 8, 83, by decide +kernel⟩, ⟨put up [(R.HALF_CELL_MAP 1,
    F.HALF_CELL_MAP_SUBST 2, 3)], 1, 2, 3, by decide +kernel⟩,
    ⟨{ (put up [(R.HALF_CELL_MAP 1, F.HALF_CELL_MAP_SUBST 2, 3)]) with clk := { up.clk with parity := [(93, List.replicate 17 5)] } }, 1, 2,
    3, by decide +kernel⟩,
    ⟨{ (put up [(R.HALF_CELL_MAP 1, F.HALF_CELL_MAP_SUBST 2, 3)]) with clk := { up.clk with parity := [(98, List.replicate 17 5)] } }, 1, 2,
    8, 83, by decide +kernel⟩, ⟨up, 1, 2, 3, by decide +kernel⟩, ⟨up, 3, by decide +kernel⟩⟩

/-- Hypotheses of PortFramesComplete met. -/
theorem witness_PortFramesComplete :
    (∃ (s : State) (port : Nat) (sub : Nat) (f : Frame) (ok : Bool), s.linkUp port sub = false) ∧
    (∃ (s : State) (port : Nat) (sub : Nat) (f : Frame), port < 16 ∧ s.linkUp port sub = true) ∧
    (∃ (s : State) (port : Nat) (sub : Nat) (f : Frame), port < 16 ∧ s.linkUp port sub = true ∧ f.len < 64) ∧
    (∃ (s : State) (port : Nat) (sub : Nat) (f : Frame), port < 16 ∧ s.linkUp port sub = true ∧ 64 ≤ f.len ∧
    s.portCfg port F.PORT_CFG_MAX_FRAME < f.len) ∧ (∃ (s : State) (port : Nat) (sub : Nat) (f : Frame) (ip : IpHead) (pkt : Packet),
    port < 16 ∧ s.linkUp port sub = true ∧ 64 ≤ f.len ∧ f.len ≤ s.portCfg port F.PORT_CFG_MAX_FRAME ∧ s.tagOk port f = true ∧
    f.kind = .sirri ip pkt ∧ ip.dstPort = s.rf R.XPORT_CFG F.XPORT_CFG_UDP_PORT ∧ s.rxFill port + f.len ≤ 1048576) ∧
    (∃ (s : State) (port : Nat) (sub : Nat) (f : Frame) (ip : IpHead) (pkt : Packet), port < 16 ∧ s.linkUp port sub = true ∧ 64 ≤ f.len ∧
    f.len ≤ s.portCfg port F.PORT_CFG_MAX_FRAME ∧ s.tagOk port f = true ∧ f.kind = .sirri ip pkt ∧
    ip.dstPort = s.rf R.XPORT_CFG F.XPORT_CFG_UDP_PORT ∧ 1048576 < s.rxFill port + f.len) ∧
    (∃ (s : State) (port : Nat) (sub : Nat) (f : Frame), port < 16 ∧ s.linkUp port sub = true ∧ 64 ≤ f.len ∧
    f.len ≤ s.portCfg port F.PORT_CFG_MAX_FRAME ∧ s.tagOk port f = false) ∧ (∃ (s : State) (port : Nat) (sub : Nat) (f : Frame), port < 16 ∧
    s.linkUp port sub = true ∧ 64 ≤ f.len ∧ f.len ≤ s.portCfg port F.PORT_CFG_MAX_FRAME ∧ s.tagOk port f = true ∧ f.kind = .other) ∧
    (∃ (s : State) (port : Nat) (sub : Nat) (i : Nat) (f : TxFrame), port < 16 ∧ s.linkUp port sub = true ∧
    (buffered 0 (s.port port).txq).findIdx? (s.mayGoOut port sub) = some i ∧ (s.port port).txq[i]? = some f) ∧
    (∃ (s : State) (port : Nat) (sub : Nat), (buffered 0 (s.port port).txq).findIdx? (s.mayGoOut port sub) = none) ∧
    (∃ (s : State) (port : Nat) (sub : Nat) (v6 : Bool) (target : Nat) (peer : Nat), s.linkUp port sub = true ∧
    s.ownAddr port v6 target = true) ∧ (∃ (s : State) (port : Nat) (sub : Nat) (v6 : Bool) (target : Nat) (peer : Nat), port < 16 ∧
    s.linkUp port sub = true ∧ s.ownAddr port v6 target = false) ∧ (∃ (s : State) (port : Nat) (sub : Nat) (v6 : Bool) (target : Nat) (data :
    List Byte), s.linkUp port sub = true ∧ s.ownAddr port v6 target = true ∧ (s.port port).echoes < 1000) ∧
    (∃ (s : State) (port : Nat) (sub : Nat) (v6 : Bool) (target : Nat) (data : List Byte), s.linkUp port sub = true ∧
    s.ownAddr port v6 target = true ∧ 1000 ≤ (s.port port).echoes ∧ s.now < (s.port port).echoAt + 1000000 * cyclesPerUs) ∧
    (∃ (s : State) (port : Nat) (sub : Nat), port < 16 ∧ s.linkUp port sub = true) ∧ (∃ (s : State) (port : Nat) (c : FecCounts), port < 16 ∧
    s.rf (R.PORT_FEC_THRESH port) F.PORT_FEC_THRESH_DEGRADE < fecSymbols c) ∧ (∃ (s : State) (port : Nat) (c : FecCounts), port < 16 ∧
    fecSymbols c ≤ s.rf (R.PORT_FEC_THRESH port) F.PORT_FEC_THRESH_DEGRADE) :=
    ⟨⟨up, 2, 0, fr .other, true, by decide +kernel⟩, ⟨pup, 2, 0, fr .other, by decide +kernel⟩, ⟨pup, 2, 0, fr .other 63, by decide +kernel⟩,
    ⟨pup, 2, 0, fr .other 9217, by decide +kernel⟩, ⟨pup, 2, 0, fr (.sirri iph (lp 0)) 9216, iph, lp 0, by decide +kernel⟩,
    ⟨(pup).setPort 2 { rxq := [fr .other 1048576] }, 2, 0, fr (.sirri iph (lp 0)) 64, iph, lp 0, by decide +kernel⟩, ⟨pup, 2, 0,
    fr .lldp 64 (some (5, 0)), by decide +kernel⟩, ⟨pup, 2, 0, fr .other, by decide +kernel⟩,
    ⟨(pup).setPort 2 { txq := [{ frame := fr .lldp, ward := none }] }, 2, 0, 0, { frame := fr .lldp, ward := none }, by decide +kernel⟩,
    ⟨pup, 2, 0, by decide +kernel⟩, ⟨put (pup [(R.XPORT_CFG, F.XPORT_CFG_DEVNUM, 7)]) [(R.XPORT_ADDR 2, F.XPORT_ADDR_PREFIX, 100)], 2, 0,
    true, 100 * 2 ^ 64 + 7, 5, by decide +kernel⟩, ⟨put (pup [(R.XPORT_CFG, F.XPORT_CFG_DEVNUM, 7)]) [(R.XPORT_ADDR 2, F.XPORT_ADDR_PREFIX,
    100)], 2, 0, true, 100 * 2 ^ 64 + 8, 5, by decide +kernel⟩, ⟨put (pup [(R.XPORT_CFG, F.XPORT_CFG_DEVNUM, 7)]) [(R.XPORT_ADDR 2,
    F.XPORT_ADDR_PREFIX, 100)], 2, 0, true, 100 * 2 ^ 64 + 7, [1, 2], by decide +kernel⟩, ⟨(put (pup [(R.XPORT_CFG, F.XPORT_CFG_DEVNUM,
    7)]) [(R.XPORT_ADDR 2, F.XPORT_ADDR_PREFIX, 100)]).setPort 2 { echoes := 1000 }, 2, 0, true, 100 * 2 ^ 64 + 7, [1, 2],
    by decide +kernel⟩, ⟨pup, 2, 0, by decide +kernel⟩, ⟨pup, 2,
    { words := 5, corrected := 5, uncorrectable := 4294967296, lanes := [4294967296] }, by decide +kernel⟩, ⟨pup, 2,
    { words := 5, corrected := 5, uncorrectable := 0, lanes := [1] }, by decide +kernel⟩⟩

/-- Hypotheses of SupplyEventsComplete met. -/
theorem witness_SupplyEventsComplete :
    (∃ (s : State), s.sup.seq = .off ∧ s.sup.inRange = true ∧ s.sup.ready = true ∧ s.sup.standby = true ∧ s.sup.needOv = false ∧
    s.sup.bootDue = false ∧ s.sup.retryDue = false ∧ s.barred = false) ∧ (∃ (s : State), s.sup.seq = .off ∧ s.sup.en = true ∧
    s.sup.standby = true ∧ s.sup.bootDue = false ∧ s.sup.retryDue = false ∧ s.barred = false) ∧ (∃ (s : State), s.sup.seq = .up ∧
    s.sup.enabled = rails [2]) ∧ (∃ (s : State), s.sup.seq = .up ∧ allRails.all (nmem s.sup.inReg) = true) ∧ (∃ (s : State),
    s.sup.seq = .off ∧ s.sup.retryDue = true ∧ s.sup.inRange = true ∧ s.sup.ready = true ∧ s.sup.en = true ∧ s.sup.standby = true ∧
    s.sup.needOv = false ∧ s.sup.bootDue = false ∧ s.barred = false) ∧ (∃ (s : State), s.sup.seq = .normal ∧ s.sup.falling = some 11 ∧
    s.sup.enabled = rails [2, 3, 4, 5, 6, 7, 8, 9, 10]) ∧ (∃ (s : State) (mv : Nat) (timeMs : Nat), s.sup.seq = .normal ∧
    s.sup.falling = some 9) ∧ (∃ (s : State), s.sup.seq = .emergency ∧ s.sup.step = 1 ∧ s.sup.enabled = rails [2, 3, 4, 5, 6, 7, 10]) ∧
    (∃ (s : State), s.sup.standby = true ∧ s.sup.inRange = false) ∧ (∃ (s : State), s.sup.inRange = false) :=
    ⟨⟨sup (fun x => { x with seq := .off, enabled := [], en := false }), by decide +kernel⟩,
    ⟨sup (fun x => { x with seq := .off, enabled := [] }), by decide +kernel⟩,
    ⟨sup (fun x => { x with seq := .up, enabled := rails [2], inReg := [] }), by decide +kernel⟩,
    ⟨sup (fun x => { x with seq := .up, inReg := rails allRails }), by decide +kernel⟩,
    ⟨sup (fun x => { x with seq := .off, retryDue := true }), by decide +kernel⟩,
    ⟨sup (fun x => { x with seq := .normal, falling := some 11, enabled := rails [2, 3, 4, 5, 6, 7, 8, 9, 10] }), by decide +kernel⟩,
    ⟨sup (fun x => { x with seq := .normal, falling := some 9 }), 100, 7, by decide +kernel⟩,
    ⟨sup (fun x => { x with seq := .emergency, step := 1, enabled := rails [2, 3, 4, 5, 6, 7, 10] }), by decide +kernel⟩,
    ⟨sup (fun x => { x with inRange := false }), by decide +kernel⟩, ⟨sup (fun x => { x with inRange := false }), by decide +kernel⟩⟩

/-- Hypotheses of PowerDownsComplete met. -/
theorem witness_PowerDownsComplete :
    (∃ (s : State), s.sup.seq = .on ∧ s.sup.enabled = rails allRails) ∧ (∃ (s : State), s.sup.seq = .on ∧ s.sup.standby = true ∧
    s.sup.inRange = true) ∧ (∃ (s : State), s.sup.seq = .on) ∧ (∃ (s : State) (rail : Nat) (mv : Nat) (timeMs : Nat), s.sup.seq = .up ∧
    s.sup.retried = false ∧ nmem s.sup.enabled rail = true) ∧ (∃ (s : State) (amps : Nat), s.sup.seq = .on ∧ s.sup.standby = true ∧
    s.sup.trip = false ∧ s.sup.deadbolt = false) ∧ (∃ (s : State) (cause : Nat) (value : Nat) (source : Nat) (n : Nat), s.sup.seq = .on ∧
    s.sup.standby = true ∧ s.sup.deadbolt = false ∧ deadboltAt cause = some n ∧ n ≤ value) ∧ (∃ (s : State) (chargeMc : Nat), 0 < chargeMc) :=
    ⟨⟨up, by decide +kernel⟩, ⟨up, by decide +kernel⟩, ⟨up, by decide +kernel⟩, ⟨sup (fun x => { x with seq := .up }), 7, 800, 3,
    by decide +kernel⟩, ⟨up, 99, by decide +kernel⟩, ⟨up, 2, 200, 3, 115, by decide +kernel⟩, ⟨up, 3000, by decide +kernel⟩⟩

/-- Hypotheses of SidebandAndJtagComplete met. -/
theorem witness_SidebandAndJtagComplete :
    (∃ (s : State) (vin : Nat) (iin : Nat) (vhu : Nat), s.sideband = true) ∧ (∃ (s : State), s.sideband = true) ∧ (∃ (s : State),
    s.sideband = true) ∧ (∃ (s : State), s.sideband = true ∧ s.sup.deadbolt = false ∧ s.sup.seq = .on) ∧ (∃ (s : State), s.sideband = true ∧
    s.sup.deadbolt = true) ∧ (∃ (s : State) (code : Nat), s.sideband = true) ∧ (∃ (s : State) (response : List Byte), s.anyLocked = false) ∧
    (∃ (s : State) (response : List Byte), s.anyLocked = true) :=
    ⟨⟨up, 4800, 1000, 4900, by decide +kernel⟩, ⟨up, by decide +kernel⟩, ⟨up, by decide +kernel⟩, ⟨up, by decide +kernel⟩,
    ⟨sup (fun x => { x with deadbolt := true }), by decide +kernel⟩, ⟨up, 0x33, by decide +kernel⟩, ⟨up, [], by decide +kernel⟩,
    ⟨put up [(R.SEC_WARD_STATE 0, F.SEC_WARD_STATE_STATE, 2)], [], by decide +kernel⟩⟩

/-- Hypotheses of LeadMessagesComplete met. -/
theorem witness_LeadMessagesComplete :
    (∃ (s : State) (half : Nat), s.hcUp half = true ∧ s.role half = 0) ∧ (∃ (s : State) (half : Nat) (epoch : Nat), s.hears half = true ∧
    epoch < s.epoch half) ∧ (∃ (s : State) (half : Nat) (epoch : Nat), half < 2 ∧ epoch < 2 ^ 32 ∧ s.hears half = true ∧ s.role half = 1 ∧
    s.epoch half ≤ epoch) ∧ (∃ (s : State) (half : Nat) (epoch : Nat), s.hears half = true ∧ s.role half = 0 ∧ s.epoch half = epoch) ∧
    (∃ (s : State) (half : Nat) (epoch : Nat), half < 2 ∧ epoch < 2 ^ 32 ∧ s.hears half = true ∧ s.role half = 0 ∧ s.epoch half < epoch) ∧
    (∃ (s : State) (half : Nat) (epoch : Nat), half < 2 ∧ epoch < 2 ^ 32 ∧ s.hears half = true ∧ s.role half = 1 ∧ s.epoch half < epoch) ∧
    (∃ (s : State) (half : Nat) (epoch : Nat), half < 2 ∧ epoch < 2 ^ 32 ∧ s.hears half = true ∧ s.role half = 3 ∧ s.epoch half < epoch) :=
    ⟨⟨put up [(R.HALF_LEAD_STATUS 0, F.HALF_LEAD_STATUS_ROLE, 0), (R.HALF_LEAD_STATUS 0, F.HALF_LEAD_STATUS_EPOCH, 5), (R.HALF_LEAD_STATUS 1,
    F.HALF_LEAD_STATUS_ROLE, 1), (R.HALF_LEAD_STATUS 1, F.HALF_LEAD_STATUS_EPOCH, 5)], 0, by decide +kernel⟩, ⟨put up [(R.HALF_LEAD_STATUS 0,
    F.HALF_LEAD_STATUS_ROLE, 0), (R.HALF_LEAD_STATUS 0, F.HALF_LEAD_STATUS_EPOCH, 5), (R.HALF_LEAD_STATUS 1, F.HALF_LEAD_STATUS_ROLE, 1),
    (R.HALF_LEAD_STATUS 1, F.HALF_LEAD_STATUS_EPOCH, 5)], 1, 3, by decide +kernel⟩, ⟨put up [(R.HALF_LEAD_STATUS 0, F.HALF_LEAD_STATUS_ROLE,
    0), (R.HALF_LEAD_STATUS 0, F.HALF_LEAD_STATUS_EPOCH, 5), (R.HALF_LEAD_STATUS 1, F.HALF_LEAD_STATUS_ROLE, 1), (R.HALF_LEAD_STATUS 1,
    F.HALF_LEAD_STATUS_EPOCH, 5)], 1, 6, by decide +kernel⟩, ⟨put up [(R.HALF_LEAD_STATUS 0, F.HALF_LEAD_STATUS_ROLE, 0),
    (R.HALF_LEAD_STATUS 0, F.HALF_LEAD_STATUS_EPOCH, 5), (R.HALF_LEAD_STATUS 1, F.HALF_LEAD_STATUS_ROLE, 1), (R.HALF_LEAD_STATUS 1,
    F.HALF_LEAD_STATUS_EPOCH, 5)], 0, 5, by decide +kernel⟩, ⟨put up [(R.HALF_LEAD_STATUS 0, F.HALF_LEAD_STATUS_ROLE, 0),
    (R.HALF_LEAD_STATUS 0, F.HALF_LEAD_STATUS_EPOCH, 5), (R.HALF_LEAD_STATUS 1, F.HALF_LEAD_STATUS_ROLE, 1), (R.HALF_LEAD_STATUS 1,
    F.HALF_LEAD_STATUS_EPOCH, 5)], 0, 9, by decide +kernel⟩, ⟨put up [(R.HALF_LEAD_STATUS 0, F.HALF_LEAD_STATUS_ROLE, 0),
    (R.HALF_LEAD_STATUS 0, F.HALF_LEAD_STATUS_EPOCH, 5), (R.HALF_LEAD_STATUS 1, F.HALF_LEAD_STATUS_ROLE, 1), (R.HALF_LEAD_STATUS 1,
    F.HALF_LEAD_STATUS_EPOCH, 5)], 1, 6, by decide +kernel⟩, ⟨put up [(R.HALF_LEAD_STATUS 0, F.HALF_LEAD_STATUS_EPOCH, 5),
    (R.HALF_LEAD_STATUS 0, F.HALF_LEAD_STATUS_ROLE, 3)], 0, 6, by decide +kernel⟩⟩

/-- Hypotheses of LeadTimersComplete met. -/
theorem witness_LeadTimersComplete :
    (∃ (s : State) (half : Nat), half < 2 ∧ s.hcUp half = true ∧ s.role half = 1 ∧ (s.leaseOver half = true ∨ s.hinged = false)) ∧
    (∃ (s : State) (half : Nat), half < 2 ∧ s.hcUp half = true ∧ s.role half = 0 ∧
    s.rf (R.HALF_LEAD_STATUS half) F.HALF_LEAD_STATUS_NO_ACK = 0 ∧ s.leaseOver half = true) ∧ (∃ (s : State) (half : Nat),
    s.hcUp half = true ∧ s.role half = 3 ∧ mget 0 s.mgt.roleAt half + 1800000 ≤ s.now) ∧ (∃ (s : State) (half : Nat) (epoch : Nat),
    half < 2 ∧ epoch < 2 ^ 32 ∧ s.reach .mc (R.HALF_LEAD_CTRL half) = St.ok ∧ s.hcUp half = true ∧ s.role half = 1 ∧ s.epoch half < epoch) ∧
    (∃ (s : State) (half : Nat), half < 2 ∧ s.reach .mc (R.HALF_LEAD_CTRL half) = St.ok ∧ s.hcUp half = true ∧ s.role half = 0) ∧
    (∃ (s : State), s.evt.mcDown = false ∧ s.mgt.switching = [] ∧ s.mgt.live = false) ∧ (∃ (s : State) (half : Nat), s.evt.mcDown = false ∧
    s.hcUp half = true ∧ s.role half ≠ 0) ∧ (∃ (s : State), s.evt.mcDown = false ∧ s.sup.standby = true) ∧ (∃ (s : State) (half : Nat),
    half < 2 ∧ nmem s.evt.hcDown half = true ∧ s.role half = 1 ∧ s.evt.mcDown = false ∧ s.mgt.switching = []) ∧ (∃ (s : State),
    s.evt.mcDown = true ∧ s.mgt.switching = []) :=
    ⟨⟨{ put up [(R.HALF_LEAD_STATUS 0, F.HALF_LEAD_STATUS_ROLE, 0), (R.HALF_LEAD_STATUS 0, F.HALF_LEAD_STATUS_EPOCH, 5), (R.HALF_LEAD_STATUS 1, F.HALF_LEAD_STATUS_ROLE, 1), (R.HALF_LEAD_STATUS 1, F.HALF_LEAD_STATUS_EPOCH, 5)] with now := 5000000 },
    1, by decide +kernel⟩,
    ⟨{ put up [(R.HALF_LEAD_STATUS 0, F.HALF_LEAD_STATUS_ROLE, 0), (R.HALF_LEAD_STATUS 0, F.HALF_LEAD_STATUS_EPOCH, 5), (R.HALF_LEAD_STATUS 1, F.HALF_LEAD_STATUS_ROLE, 1), (R.HALF_LEAD_STATUS 1, F.HALF_LEAD_STATUS_EPOCH, 5)] with now := 5000000 },
    0, by decide +kernel⟩,
    ⟨{ (put up [(R.HALF_LEAD_STATUS 0, F.HALF_LEAD_STATUS_EPOCH, 5), (R.HALF_LEAD_STATUS 0, F.HALF_LEAD_STATUS_ROLE, 3)]) with now := 1800000 },
    0, by decide +kernel⟩, ⟨put up [(R.HALF_LEAD_STATUS 0, F.HALF_LEAD_STATUS_ROLE, 0), (R.HALF_LEAD_STATUS 0, F.HALF_LEAD_STATUS_EPOCH, 5),
    (R.HALF_LEAD_STATUS 1, F.HALF_LEAD_STATUS_ROLE, 1), (R.HALF_LEAD_STATUS 1, F.HALF_LEAD_STATUS_EPOCH, 5)], 1, 8, by decide +kernel⟩,
    ⟨put up [(R.HALF_LEAD_STATUS 0, F.HALF_LEAD_STATUS_ROLE, 0), (R.HALF_LEAD_STATUS 0, F.HALF_LEAD_STATUS_EPOCH, 5), (R.HALF_LEAD_STATUS 1,
    F.HALF_LEAD_STATUS_ROLE, 1), (R.HALF_LEAD_STATUS 1, F.HALF_LEAD_STATUS_EPOCH, 5)], 0, by decide +kernel⟩, ⟨put up [(R.HALF_LEAD_STATUS 0,
    F.HALF_LEAD_STATUS_ROLE, 0), (R.HALF_LEAD_STATUS 0, F.HALF_LEAD_STATUS_EPOCH, 5), (R.HALF_LEAD_STATUS 1, F.HALF_LEAD_STATUS_ROLE, 1),
    (R.HALF_LEAD_STATUS 1, F.HALF_LEAD_STATUS_EPOCH, 5)], by decide +kernel⟩, ⟨put up [(R.HALF_LEAD_STATUS 0, F.HALF_LEAD_STATUS_ROLE, 0),
    (R.HALF_LEAD_STATUS 0, F.HALF_LEAD_STATUS_EPOCH, 5), (R.HALF_LEAD_STATUS 1, F.HALF_LEAD_STATUS_ROLE, 1), (R.HALF_LEAD_STATUS 1,
    F.HALF_LEAD_STATUS_EPOCH, 5)], 1, by decide +kernel⟩, ⟨up, by decide +kernel⟩,
    ⟨{ put up [(R.HALF_LEAD_STATUS 0, F.HALF_LEAD_STATUS_ROLE, 0), (R.HALF_LEAD_STATUS 0, F.HALF_LEAD_STATUS_EPOCH, 5), (R.HALF_LEAD_STATUS 1, F.HALF_LEAD_STATUS_ROLE, 1), (R.HALF_LEAD_STATUS 1, F.HALF_LEAD_STATUS_EPOCH, 5)] with evt := { up.evt with hcDown := [(1, true)] } },
    1, by decide +kernel⟩, ⟨{ up with evt := { up.evt with mcDown := true } }, by decide +kernel⟩⟩

/-- Hypotheses of EventPathsComplete met. -/
theorem witness_EventPathsComplete :
    (∃ (s : State) (p : Nat) (r : EvRec) (l : List EvRec), (s.path p).alarms = r :: l ∧ s.pathTakes p 0 = true ∧ 0 < s.pathFree p) ∧
    (∃ (s : State) (p : Nat) (r : EvRec) (l : List EvRec), (s.path p).sums = r :: l ∧ s.pathTakes p 1 = true ∧
    alarmReserve p < s.pathFree p) ∧ (∃ (s : State) (r : EvRec) (l : List EvRec), s.ringReady = true ∧ s.nextRecs 0 1 = r :: l) ∧
    (∃ (s : State), s.rf R.EVT_CTRL F.EVT_CTRL_HOST_EN = 1 ∧ s.ringFull = true ∧ s.evt.stalled = false ∧ s.evt.fullAt + 1800000000 ≤ s.now) ∧
    (∃ (s : State) (v : Nat), s.evt.holdOff = [(v, true)]) ∧ (∃ (s : State), s.sideband = true) ∧ (∃ (s : State) (n : Nat) (r : EvRec),
    s.sideband = true ∧ s.evt.returned = [n] ∧ r.seq = n ∧ (s.path 1).queue = [r]) ∧ (∃ (s : State), s.evt.mcDown = false ∧ s.sup.seq = .on ∧
    (s.nextRecs 2 64).isEmpty = false ∧ s.pageDue = true ∧ s.pageAllowed = true ∧ s.sup.disagree = true) ∧ (∃ (s : State),
    s.evt.mcDown = false ∧ s.sup.seq = .on ∧ (s.nextRecs 2 64).isEmpty = false ∧ s.pageDue = true ∧ s.pageAllowed = true) ∧
    (∃ (s : State) (page : Nat), page < 2 ^ 17 ∧ s.reach .mc R.EVT_NAND_READ = St.ok) :=
    ⟨⟨{ up with evt := { up.evt with paths := [(1, { alarms := [{ code := 0x0002, cls := 0, seq := 4 }] })] } }, 1,
    { code := 0x0002, cls := 0, seq := 4 }, [], by decide +kernel⟩,
    ⟨{ up with evt := { up.evt with paths := [(2, { sums := [{ code := 0x0002, cls := 0, seq := 4 }] })] } }, 2,
    { code := 0x0002, cls := 0, seq := 4 }, [], by decide +kernel⟩,
    ⟨(({ put up [(R.EVT_CTRL, F.EVT_CTRL_HOST_EN, 1)] with evt := { up.evt with paths := [(0, { queue := [{ code := 0x0002, cls := 0, seq := 4 }] })] } }).setRegion
    (regionKey 0) { owner := 9, st := 2 }), { code := 0x0002, cls := 0, seq := 4 }, [], by decide +kernel⟩,
    ⟨{ (put up [(R.EVT_CTRL, F.EVT_CTRL_HOST_EN, 1), (R.EVT_HOST_PROD, F.EVT_HOST_PROD_PROD, 4096)]) with now := 1800000000 },
    by decide +kernel⟩, ⟨{ up with evt := { up.evt with holdOff := [(7, true)] } }, 7, by decide +kernel⟩, ⟨up, by decide +kernel⟩,
    ⟨{ up with evt := { up.evt with returned := [4], paths := [(1, { queue := [{ code := 0x0002, cls := 0, seq := 4 }] })] } }, 4,
    { code := 0x0002, cls := 0, seq := 4 }, by decide +kernel⟩,
    ⟨{ up with now := 18000000001, evt := { up.evt with paths := [(2, { queue := [{ code := 0x0002, cls := 0, seq := 4 }] })] }, sup := { up.sup with disagree := true } },
    by decide +kernel⟩,
    ⟨{ up with now := 18000000001, evt := { up.evt with paths := [(2, { queue := [{ code := 0x0002, cls := 0, seq := 4 }] })] } },
    by decide +kernel⟩, ⟨up, 3, by decide +kernel⟩⟩

/-- Hypotheses of TransactionsComplete met. -/
theorem witness_TransactionsComplete :
    (∃ (s : State), s.reach .mc R.CFG_TXN_CTRL = St.ok ∧ s.rf R.CFG_TXN_STATUS F.CFG_TXN_STATUS_STATE = 0) ∧ (∃ (s : State),
    s.reach .mc R.CFG_TXN_CTRL = St.ok ∧ s.rf R.CFG_TXN_STATUS F.CFG_TXN_STATUS_STATE = 1) ∧ (∃ (s : State) (a : Nat) (v : W64),
    s.reach .mc a = St.ok ∧ a % 8 = 0 ∧ (txnFields a).isEmpty = false ∧ s.rf R.CFG_TXN_STATUS F.CFG_TXN_STATUS_STATE = 1 ∧
    s.rf R.CFG_TXN_STATUS F.CFG_TXN_STATUS_OWNER = 1 ∧ s.mgt.staged.length < 8192) ∧ (∃ (s : State) (persist : Bool),
    s.reach .mc R.CFG_TXN_CTRL = St.ok ∧ s.rf R.CFG_TXN_STATUS F.CFG_TXN_STATUS_STATE = 1 ∧
    s.rf R.CFG_TXN_STATUS F.CFG_TXN_STATUS_OWNER = 1 ∧ s.rf R.CFG_TXN_STATUS F.CFG_TXN_STATUS_OVERFLOW = 0 ∧
    (s.latchFails s.mgt.staged false).isEmpty = true) ∧ (∃ (s : State) (persist : Bool), s.reach .mc R.CFG_TXN_CTRL = St.ok ∧
    s.rf R.CFG_TXN_STATUS F.CFG_TXN_STATUS_STATE = 1 ∧ s.rf R.CFG_TXN_STATUS F.CFG_TXN_STATUS_OWNER = 1 ∧
    s.rf R.CFG_TXN_STATUS F.CFG_TXN_STATUS_OVERFLOW = 0 ∧ (s.latchFails s.mgt.staged false).isEmpty = false) ∧ (∃ (s : State),
    s.mgt.accepted = some [(R.XPORT_TIMING, 0)] ∧ s.mgt.persist = false) ∧ (∃ (s : State), s.reach .mc R.CFG_TXN_CTRL = St.ok ∧
    s.rf R.CFG_TXN_STATUS F.CFG_TXN_STATUS_STATE = 1 ∧ s.rf R.CFG_TXN_STATUS F.CFG_TXN_STATUS_OWNER = 1) ∧ (∃ (s : State),
    s.rf R.CFG_TXN_STATUS F.CFG_TXN_STATUS_STATE = 1 ∧
    s.mgt.touched + max 1 (s.rf R.CFG_TXN_CTRL F.CFG_TXN_CTRL_TIMEOUT_S) * 1800000000 ≤ s.now) :=
    ⟨⟨up, by decide +kernel⟩, ⟨put up [(R.CFG_TXN_STATUS, F.CFG_TXN_STATUS_STATE, 1), (R.CFG_TXN_STATUS, F.CFG_TXN_STATUS_OWNER, 1)],
    by decide +kernel⟩, ⟨put up [(R.CFG_TXN_STATUS, F.CFG_TXN_STATUS_STATE, 1), (R.CFG_TXN_STATUS, F.CFG_TXN_STATUS_OWNER, 1)],
    R.XPORT_TIMING, 3, by decide +kernel⟩, ⟨put up [(R.CFG_TXN_STATUS, F.CFG_TXN_STATUS_STATE, 1), (R.CFG_TXN_STATUS, F.CFG_TXN_STATUS_OWNER,
    1)], false, by decide +kernel⟩,
    ⟨{ put up [(R.CFG_TXN_STATUS, F.CFG_TXN_STATUS_STATE, 1), (R.CFG_TXN_STATUS, F.CFG_TXN_STATUS_OWNER, 1)] with mgt := { up.mgt with staged := [(R.PWR_CAP, 0xFFFF)] } },
    false, by decide +kernel⟩, ⟨{ up with mgt := { up.mgt with accepted := some [(R.XPORT_TIMING, 0)] } }, by decide +kernel⟩,
    ⟨put up [(R.CFG_TXN_STATUS, F.CFG_TXN_STATUS_STATE, 1), (R.CFG_TXN_STATUS, F.CFG_TXN_STATUS_OWNER, 1)], by decide +kernel⟩,
    ⟨{ put up [(R.CFG_TXN_STATUS, F.CFG_TXN_STATUS_STATE, 1), (R.CFG_TXN_STATUS, F.CFG_TXN_STATUS_OWNER, 1)] with now := 2 ^ 60 },
    by decide +kernel⟩⟩

/-- Hypotheses of FirmwareOpsComplete met. -/
theorem witness_FirmwareOpsComplete :
    (∃ (s : State) (len : Nat), s.reach .mc R.MGMT_FW_CTRL = St.ok ∧ s.rf R.MGMT_FW_OPSTATUS F.MGMT_FW_OPSTATUS_BUSY = 0 ∧
    s.fwChk 1 len (s.rf R.MGMT_FW_ADDR F.MGMT_FW_ADDR_ADDR) = St.ok) ∧ (∃ (s : State), s.reach .mc R.MGMT_FW_CTRL = St.ok ∧
    s.rf R.MGMT_FW_OPSTATUS F.MGMT_FW_OPSTATUS_BUSY = 0 ∧ s.fwChk 2 0 (s.rf R.MGMT_FW_ADDR F.MGMT_FW_ADDR_ADDR) = St.ok) ∧ (∃ (s : State),
    s.reach .mc R.MGMT_FW_CTRL = St.ok ∧ s.rf R.MGMT_FW_OPSTATUS F.MGMT_FW_OPSTATUS_BUSY = 0 ∧
    s.fwChk 3 0 (s.rf R.MGMT_FW_ADDR F.MGMT_FW_ADDR_ADDR) = St.ok ∧ s.committing = true) ∧ (∃ (s : State),
    s.reach .mc R.MGMT_FW_CTRL = St.ok ∧ s.rf R.MGMT_FW_OPSTATUS F.MGMT_FW_OPSTATUS_BUSY = 0 ∧
    s.fwChk 4 0 (s.rf R.MGMT_FW_ADDR F.MGMT_FW_ADDR_ADDR) = St.ok) ∧ (∃ (s : State) (len : Nat), s.reach .mc R.MGMT_FW_CTRL = St.ok ∧
    s.rf R.MGMT_FW_OPSTATUS F.MGMT_FW_OPSTATUS_BUSY = 0 ∧ s.fwChk 5 len (s.rf R.MGMT_FW_ADDR F.MGMT_FW_ADDR_ADDR) = St.ok) ∧
    (∃ (s : State) (n : Nat) (a : Nat), s.mcUp = true ∧ s.mgt.fwOp = some { op := 2, len := n, addr := a }) ∧
    (∃ (s : State) (n : Nat) (a : Nat), s.mcUp = true ∧ s.mgt.fwOp = some { op := 4, len := n, addr := a }) ∧ (∃ (s : State), s.mcUp = true ∧
    s.rf R.MGMT_STAGE F.MGMT_STAGE_STAGE = 4 ∧ s.slotState s.runSlot = 2 ∧ s.bootRec.1 = s.runSlot ∧ s.slotState s.otherSlot = 1 ∧
    s.mgt.live = false ∧ s.mgt.trialAt + s.rf R.MGMT_FW_STATUS F.MGMT_FW_STATUS_CONFIRM_MIN * 108000000000 ≤ s.now) :=
    ⟨⟨put up [(R.HOST_SHW, F.HOST_SHW_SIZE_32M, 8)], 4096, by decide +kernel⟩, ⟨{ up with nv := { up.nv with slot1 := 1 } },
    by decide +kernel⟩, ⟨{ up with nv := { up.nv with slot1 := 1 }, mgt := { up.mgt with nandOps := [.commit 0 0] } }, by decide +kernel⟩,
    ⟨{ up with nv := { up.nv with slot0 := 2 } }, by decide +kernel⟩, ⟨put up [(R.HOST_SHW, F.HOST_SHW_SIZE_32M, 8)], 4096,
    by decide +kernel⟩, ⟨{ up with mgt := { up.mgt with fwOp := some { op := 2, len := 0, addr := 0 } } }, 0, 0, by decide +kernel⟩,
    ⟨{ up with mgt := { up.mgt with fwOp := some { op := 4, len := 0, addr := 0 } } }, 0, 0, by decide +kernel⟩,
    ⟨{ up with now := 108000000000 * 2 ^ 20, nv := { up.nv with slot0 := 2, slot1 := 1 } }, by decide +kernel⟩⟩

/-- Hypotheses of TagFieldComplete met. -/
theorem witness_TagFieldComplete :
    (∃ (s : State), s.mgt.tagLock = none) ∧ (∃ (s : State), s.mgt.tagLock = none) ∧ (∃ (s : State), s.mgt.tagLock = none) ∧
    (∃ (s : State) (block : Nat), s.mgt.tagLock = none ∧ block < 2048) ∧ (∃ (s : State) (first : Nat) (count : Nat), s.mgt.tagLock = none ∧
    0 < count ∧ count ≤ 32 ∧ first + count ≤ 2048) ∧ (∃ (s : State) (block : Nat) (data : List Byte), s.mgt.tagLock = none ∧ 384 ≤ block ∧
    block < 448 ∧ data.length = 4) ∧ (∃ (s : State) (block : Nat) (data : List Byte), s.mgt.tagLock = none ∧ (block < 384 ∨ 448 ≤ block)) ∧
    (∃ (s : State) (code : Nat), s.mgt.tagLock = none) ∧ (∃ (s : State) (m : TagMaster), s.mgt.tagLock = some m) :=
    ⟨⟨up, by decide +kernel⟩, ⟨up, by decide +kernel⟩, ⟨up, by decide +kernel⟩, ⟨up, 2047, by decide +kernel⟩, ⟨up, 2016, 32,
    by decide +kernel⟩, ⟨up, 384, [1, 2, 3, 4], by decide +kernel⟩, ⟨up, 448, [], by decide +kernel⟩, ⟨up, 7, by decide +kernel⟩,
    ⟨{ up with mgt := { up.mgt with tagLock := some .rack } }, .rack, by decide +kernel⟩⟩

/-- Hypotheses of TagWiredComplete met. -/
theorem witness_TagWiredComplete :
    (∃ (s : State) (addr : Nat) (len : Nat), s.mgt.tagLock = none ∧ addr + len ≤ 0x2000) ∧ (∃ (s : State) (r : TagReq), r.master = .mc ∧
    s.mgt.tagHeld = [r] ∧ r.since + 54000000 ≤ s.now) ∧ (∃ (s : State) (m : TagMaster), s.mgt.tagLock = some m ∧ s.mgt.tagHeld = [] ∧
    s.mgt.tagLockAt + 90000000 ≤ s.now) ∧ (∃ (s : State) (addr : Nat), s.reach .mc R.TAG_ACCESS = St.ok ∧
    s.rf R.TAG_STATUS F.TAG_STATUS_BUSY = 0 ∧ addr % 8 = 0 ∧ addr + 8 ≤ 0x2000) ∧ (∃ (s : State) (addr : Nat),
    s.reach .mc R.TAG_ACCESS = St.ok ∧ s.rf R.TAG_STATUS F.TAG_STATUS_BUSY = 0 ∧ addr % 8 = 0 ∧ addr + 8 ≤ 0x2000 ∧
    tagMayWrite .rack addr 8 = true) ∧ (∃ (s : State) (addr : Nat), s.mcUp = true ∧ s.mgt.tagLock = none ∧ s.mgt.tagOp = some (false,
    addr)) ∧ (∃ (s : State) (wr : Bool) (addr : Nat), s.mcUp = true ∧ s.mgt.tagOp = some (wr, addr)) ∧ (∃ (s : State), s.mboxReady = true ∧
    s.mbox 0 = 1 ∧ s.mbox 1 = 1) ∧ (∃ (s : State), s.mboxReady = true ∧ s.mbox 0 = 1 ∧ s.mbox 1 = 2) ∧ (∃ (s : State), s.mboxReady = true ∧
    2 < s.mbox 1) ∧ (∃ (s : State) (x : Snap), s.newest = some x ∧ s.mcUp = true ∧ s.mgt.digestDue = true ∧ s.mgt.digestAt = 0) ∧
    (∃ (s : State), s.mcUp = true) :=
    ⟨⟨up, 0x400, 16, by decide +kernel⟩,
    ⟨{ up with now := 90000000, mgt := { up.mgt with tagHeld := [{ master := .mc, wr := false, addr := 0, len := 4, data := [], lock := false }] } },
    { master := .mc, wr := false, addr := 0, len := 4, data := [], lock := false }, by decide +kernel⟩,
    ⟨{ up with now := 90000000, mgt := { up.mgt with tagLock := some .rack } }, .rack, by decide +kernel⟩, ⟨up, 0x1FF8, by decide +kernel⟩,
    ⟨up, 0x400, by decide +kernel⟩, ⟨{ up with mgt := { up.mgt with tagOp := some (false, 0) } }, 0, by decide +kernel⟩,
    ⟨{ up with mgt := { up.mgt with tagOp := some (true, 0) } }, true, 0, by decide +kernel⟩,
    ⟨{ up with nv := { up.nv with tag := putBytes [] 0x600 [1, 1] }, mgt := { up.mgt with mboxDue := true } }, by decide +kernel⟩,
    ⟨{ up with nv := { up.nv with tag := putBytes [] 0x600 [1, 2] }, mgt := { up.mgt with mboxDue := true } }, by decide +kernel⟩,
    ⟨{ up with nv := { up.nv with tag := putBytes [] 0x600 [1, 3] }, mgt := { up.mgt with mboxDue := true } }, by decide +kernel⟩,
    ⟨{ up with nv := { up.nv with snap0 := some { seq := 1, entries := [] } }, mgt := { up.mgt with digestDue := true } },
    { seq := 1, entries := [] }, by decide +kernel⟩, ⟨up, by decide +kernel⟩⟩

/-- Hypotheses of NandAndStagesComplete met. -/
theorem witness_NandAndStagesComplete :
    (∃ (s : State) (b : Bool) (s0 : Bool) (s1 : Bool), s.sup.standby = false) ∧ (∃ (s : State) (n : Nat), s.mcUp = true ∧
    s.sup.pwrgd = true ∧ s.rf R.MGMT_STAGE F.MGMT_STAGE_HALTED = 0 ∧ 1 < n ∧ n ≤ 4 ∧ n ≠ 3 ∧ s.stageNow + 1 = n ∧ s.clk.lock = true ∧
    s.clk.on = true ∧ (n = 2 → s.sec.rngBad = false)) ∧ (∃ (s : State) (cause : Nat), s.mcUp = true ∧
    s.rf R.MGMT_STAGE F.MGMT_STAGE_HALTED = 0 ∧ cause = 3 ∧ s.stageNow = 0) ∧ (∃ (s : State) (b : Nat) (l : List NandOp), s.nandUp = true ∧
    s.mgt.nandOps = .page b :: l) ∧ (∃ (s : State) (b : Nat) (l : List NandOp), s.nandUp = true ∧ s.mgt.nandOps = .page b :: l) ∧
    (∃ (s : State) (slot : Nat), s.nandUp = true ∧ s.mgt.nandOps = [.commit slot 0] ∧ s.mgt.commitDue = false ∧ slot < 2) ∧
    (∃ (s : State) (page : Nat) (corrected : Nat), s.nandUp = true ∧ s.nandFree = true) ∧ (∃ (s : State), s.nandUp = true ∧
    s.nandFree = true ∧ s.mgt.boot = none ∧ s.mgt.commitDue = true ∧ s.committing = false ∧ 64 ≤ s.ringGood s.nextSlot) :=
    ⟨⟨State.reset, true, true, true, by decide +kernel⟩, ⟨put up [(R.MGMT_STAGE, F.MGMT_STAGE_STAGE, 3)], 4, by decide +kernel⟩,
    ⟨put up [(R.MGMT_STAGE, F.MGMT_STAGE_STAGE, 0)], 3, by decide +kernel⟩, ⟨{ up with mgt := { up.mgt with nandOps := [.page 5] } }, 5, [],
    by decide +kernel⟩, ⟨{ up with mgt := { up.mgt with nandOps := [.page 5] } }, 5, [], by decide +kernel⟩,
    ⟨{ up with mgt := { up.mgt with nandOps := [.commit 0 0] } }, 0, by decide +kernel⟩, ⟨up, 640, 2, by decide +kernel⟩,
    ⟨{ up with mgt := { up.mgt with commitDue := true } }, by decide +kernel⟩⟩

/-- Hypotheses of PowerGovernorCompletes met. -/
theorem witness_PowerGovernorCompletes :
    (∃ (s : State) (pin : Nat) (prsv : Nat), pin ≤ 2400 ∧ s.pwr.pinLost = false) ∧ (∃ (s : State) (pin : Nat) (prsv : Nat), 2400 < pin ∧
    s.pwr.pinLost = false ∧ s.rf R.PWR_STATUS F.PWR_STATUS_CLAMP = 0) ∧ (∃ (s : State), s.rf R.PWR_STATUS F.PWR_STATUS_CLAMP = 1) ∧
    (∃ (s : State) (half : Nat) (sum : Nat) (n : Nat), half < 2 ∧ s.rf R.PWR_STATUS F.PWR_STATUS_CLAMP = 0) ∧
    (∃ (s : State) (half : Nat) (sum : Nat) (n : Nat), s.rf R.PWR_STATUS F.PWR_STATUS_CLAMP = 1) ∧ (∃ (s : State) (a : Nat) (b : Nat),
    a ≤ s.capEff ∧ b ≤ s.capEff) ∧ (∃ (s : State) (a : Nat) (b : Nat), s.capEff < a ∧ s.rf R.PWR_STATUS F.PWR_STATUS_CLAMP = 1) ∧
    (∃ (s : State) (k : Nat), (s.cellPwr k).settle = .down ∧ s.cellDiv k < levelDiv (s.cellLevel k)) ∧ (∃ (s : State) (core : Nat) (b : Nat),
    s.clk.on = true ∧ s.bucketOf core = some b ∧ s.slope = true ∧ core < 128 ∧ s.nextGrant b = some core ∧
    s.lacks b + 7200 ≤ s.rf R.PWR_SLOPE F.PWR_SLOPE_BURST * 7200) ∧ (∃ (s : State) (half : Nat) (us : Nat), s.leads half = true ∧
    0 < s.pwr.model ∧ 0 < s.pwr.msN) :=
    ⟨⟨up, 1000, 50, by decide +kernel⟩, ⟨up, 2401, 50, by decide +kernel⟩, ⟨put up [(R.PWR_STATUS, F.PWR_STATUS_CLAMP, 1)],
    by decide +kernel⟩, ⟨put up [(R.PWR_WARD_SHARE 0, F.PWR_WARD_SHARE_SHARE 0, 100)], 0, 9000000, 10000, by decide +kernel⟩,
    ⟨put up [(R.PWR_STATUS, F.PWR_STATUS_CLAMP, 1)], 0, 9000000, 10000, by decide +kernel⟩, ⟨put up [(R.PWR_STATUS, F.PWR_STATUS_CAP_EFF_W,
    1200)], 1000, 900, by decide +kernel⟩, ⟨put up [(R.PWR_STATUS, F.PWR_STATUS_CLAMP, 1)], 3000, 0, by decide +kernel⟩,
    ⟨{ (put up [(R.PWR_CELL 3, F.PWR_CELL_LEVEL, 5)]) with pwr := { up.pwr with cells := [(3, { settle := .down })] } }, 3,
    by decide +kernel⟩,
    ⟨{ (put up [(R.HALF_LEAD_STATUS 0, F.HALF_LEAD_STATUS_ROLE, 0), (R.PWR_DROOP_CTRL, F.PWR_DROOP_CTRL_MODE, 1), (R.PWR_SLOPE, F.PWR_SLOPE_BURST, 2)]) with cores := [(3, { wantGrant := true })] },
    3, 0, by decide +kernel⟩,
    ⟨{ (put up [(R.HALF_LEAD_STATUS 0, F.HALF_LEAD_STATUS_ROLE, 0)]) with pwr := { up.pwr with model := 100, msN := 2, msIn := 500 } }, 0,
    1000, by decide +kernel⟩⟩

/-- Hypotheses of ThermalAndDroopComplete met. -/
theorem witness_ThermalAndDroopComplete :
    (∃ (s : State) (k : Nat) (mv : Nat), k < 128 ∧ mv < 1024) ∧ (∃ (s : State) (k : Nat) (j : Nat) (x : Bound), s.pwr.bounds = [x] ∧
    x.a = k ∧ x.b = j ∧ x.supply = true ∧ distance (s.cellMv k) (s.cellMv j) ≤ 50) ∧ (∃ (s : State) (k : Nat) (mv : Nat), k < 128 ∧
    s.slope = false ∧ s.rf R.PWR_DROOP_CTRL F.PWR_DROOP_CTRL_STRETCH_MV ≤ s.setPoint k - mv ∧ (s.cellPwr k).stretch = false) ∧
    (∃ (s : State) (k : Nat), (s.cellPwr k).stretch = true) ∧ (∃ (s : State) (k : Nat), k < 128 ∧ (s.cellPwr k).stretch = true) ∧
    (∃ (s : State) (k : Nat) (c : Nat), k < 128 ∧ c < 115) ∧ (∃ (s : State) (k : Nat) (c : Nat), k < 128 ∧ c ≤ 92) ∧
    (∃ (s : State) (k : Nat) (c : Nat), 115 ≤ c ∧ (s.cellPwr k).at115 = true ∧ s.sup.standby = true ∧ s.sup.deadbolt = false) ∧
    (∃ (s : State) (k : Nat), k < 128 ∧ (s.cellPwr k).hot = true) ∧ (∃ (s : State) (half : Nat) (n : Nat) (c : Nat), n < 16 ∧ 100 < c ∧
    c < 115) ∧ (∃ (s : State) (i : Nat) (o : Nat), i < 128 ∧ o < 85 ∧ s.pwr.pinLost = false) :=
    ⟨⟨up, 127, 700, by decide +kernel⟩,
    ⟨{ up with pwr := { up.pwr with bounds := [{ cell := 3, level := 2, a := 3, b := 4, supply := true }] } }, 3, 4,
    { cell := 3, level := 2, a := 3, b := 4, supply := true }, by decide +kernel⟩, ⟨up, 5, 200, by decide +kernel⟩,
    ⟨{ up with pwr := { up.pwr with cells := [(3, { stretch := true })] } }, 3, by decide +kernel⟩,
    ⟨{ up with pwr := { up.pwr with cells := [(3, { stretch := true })] } }, 3, by decide +kernel⟩, ⟨up, 0, 96, by decide +kernel⟩,
    ⟨{ up with pwr := { up.pwr with cells := [(3, { hot := true, heat := 4 })] } }, 3, 92, by decide +kernel⟩,
    ⟨{ up with pwr := { up.pwr with cells := [(3, { at115 := true })] } }, 3, 115, by decide +kernel⟩,
    ⟨{ up with pwr := { up.pwr with cells := [(3, { hot := true, heat := 4 })] } }, 3, by decide +kernel⟩, ⟨up, 1, 15, 101,
    by decide +kernel⟩, ⟨up, 47, 60, by decide +kernel⟩⟩

/-- Hypotheses of StackThermalCompletes met. -/
theorem witness_StackThermalCompletes :
    (∃ (s : State) (st : Nat) (c : Nat), st < 8 ∧ c < 105 ∧ s.thermLevel st ≠ 3) ∧ (∃ (s : State) (st : Nat) (c : Nat), st < 8 ∧ 105 ≤ c ∧
    c < 256 ∧ s.mem.waiting = [] ∧ s.xport.colls = []) ∧ (∃ (s : State) (st : Nat), st < 8 ∧ s.thermLevel st ≠ 3) ∧
    (∃ (s : State) (who : Requester) (st : Nat), st < 8 ∧ ServedNow s who = true ∧ s.reach who (R.MEM_THERM_CTRL st) = St.ok ∧
    s.thermLevel st = 3 ∧ s.rf (R.MEM_THERM_STATUS st) F.MEM_THERM_STATUS_VALID = 1 ∧
    s.rf (R.MEM_THERM_STATUS st) F.MEM_THERM_STATUS_TEMP ≤ 82) ∧ (∃ (s : State) (who : Requester) (st : Nat), st < 8 ∧ who ≠ .host ∧
    s.reach who (R.MEM_THERM_CTRL st) = St.ok ∧ s.thermLevel st = 3 ∧ 92 < s.rf (R.MEM_THERM_STATUS st) F.MEM_THERM_STATUS_TEMP) :=
    ⟨⟨up, 7, 96, by decide +kernel⟩, ⟨up, 7, 105, by decide +kernel⟩, ⟨up, 7, by decide +kernel⟩, ⟨put up [(R.MEM_THERM_STATUS 2,
    F.MEM_THERM_STATUS_LEVEL, 3), (R.MEM_THERM_STATUS 2, F.MEM_THERM_STATUS_VALID, 1), (R.MEM_THERM_STATUS 2, F.MEM_THERM_STATUS_TEMP, 80)],
    .mc, 2, by decide +kernel⟩, ⟨put up [(R.MEM_THERM_STATUS 2, F.MEM_THERM_STATUS_LEVEL, 3), (R.MEM_THERM_STATUS 2,
    F.MEM_THERM_STATUS_VALID, 1), (R.MEM_THERM_STATUS 2, F.MEM_THERM_STATUS_TEMP, 93)], .mc, 2, by decide +kernel⟩⟩

/-- Hypotheses of SpdmCompletes met. -/
theorem witness_SpdmCompletes :
    (∃ (s : State), Answers s = true) ∧ (∃ (s : State) (q : SpdmReq), Answers s = true) ∧ (∃ (s : State) (q : SpdmReq), Answers s = true) ∧
    (∃ (s : State), Answers s = true ∧ s.sec.negotiated = true) ∧ (∃ (s : State) (off : Nat) (len : Nat), Answers s = true ∧
    s.sec.negotiated = true ∧ s.isBlank = false) ∧ (∃ (s : State) (q : SpdmReq), Answers s = true ∧ s.sec.negotiated = true ∧
    s.isBlank = false) ∧ (∃ (s : State) (i : Nat) (sig : Bool) (raw : Bool) (q : SpdmReq), Answers s = true ∧ s.sec.negotiated = true ∧
    (s.blocks i raw).isSome = true) ∧ (∃ (s : State), Answers s = true ∧ s.sec.negotiated = false) ∧ (∃ (s : State) (id : Nat) (q : SpdmReq),
    Answers s = true ∧ s.sec.negotiated = true ∧ s.isBlank = false ∧ s.sec.sessions.length < 4 ∧ s.session id = none ∧ s.rngOk = true) ∧
    (∃ (s : State) (id : Nat) (q : SpdmReq), Answers s = true ∧ s.sec.negotiated = true ∧ s.isBlank = false ∧ s.sec.sessions.length < 4 ∧
    s.session id = none ∧ s.rngOk = false) ∧ (∃ (s : State) (id : Nat) (q : SpdmReq), Answers s = true ∧ s.sec.negotiated = true ∧
    s.isBlank = false ∧ 4 ≤ s.sec.sessions.length) ∧ (∃ (s : State) (id : Nat) (x : Session), Answers s = true ∧ s.sec.negotiated = true ∧
    s.session id = some x) ∧ (∃ (s : State) (id : Nat) (x : Session), Answers s = true ∧ s.sec.negotiated = true ∧ s.session id = some x) ∧
    (∃ (s : State) (id : Nat) (x : Session), Answers s = true ∧ s.sec.negotiated = true ∧ s.session id = some x ∧ x.finished = true) ∧
    (∃ (s : State) (id : Nat) (op : Nat) (x : Session), Answers s = true ∧ s.sec.negotiated = true ∧ s.session id = some x ∧
    x.finished = true ∧ (op = 1 ∨ op = 2)) ∧ (∃ (s : State) (id : Nat) (x : Session), Answers s = true ∧ s.sec.negotiated = true ∧
    s.session id = some x) :=
    ⟨⟨up, by decide +kernel⟩, ⟨up, ⟨[]⟩, by decide +kernel⟩, ⟨up, ⟨[]⟩, by decide +kernel⟩,
    ⟨{ up with sec := { up.sec with negotiated := true } }, by decide +kernel⟩, ⟨{ up with sec := { up.sec with negotiated := true } }, 0,
    100, by decide +kernel⟩, ⟨{ up with sec := { up.sec with negotiated := true } }, ⟨[]⟩, by decide +kernel⟩,
    ⟨{ up with sec := { up.sec with negotiated := true } }, 1, true, false, ⟨[]⟩, by decide +kernel⟩, ⟨up, by decide +kernel⟩,
    ⟨{ put up [(R.SEC_STATUS, F.SEC_STATUS_RNG_OK, 1)] with sec := { up.sec with negotiated := true } }, 9, ⟨[]⟩, by decide +kernel⟩,
    ⟨{ up with sec := { up.sec with negotiated := true } }, 9, ⟨[]⟩, by decide +kernel⟩,
    ⟨{ up with sec := { up.sec with negotiated := true, sessions := [{ id := 1, finished := true }, { id := 2, finished := true }, { id := 3, finished := true }, { id := 4, finished := true }] } },
    9, ⟨[]⟩, by decide +kernel⟩, ⟨{ up with sec := { up.sec with negotiated := true, sessions := [{ id := 7, finished := false }] } }, 7,
    { id := 7, finished := false }, by decide +kernel⟩,
    ⟨{ up with sec := { up.sec with negotiated := true, sessions := [{ id := 7, finished := false }] } }, 7, { id := 7, finished := false },
    by decide +kernel⟩, ⟨{ up with sec := { up.sec with negotiated := true, sessions := [{ id := 7, finished := true }] } }, 7,
    { id := 7, finished := true }, by decide +kernel⟩,
    ⟨{ up with sec := { up.sec with negotiated := true, sessions := [{ id := 7, finished := true }] } }, 7, 2, { id := 7, finished := true },
    by decide +kernel⟩, ⟨{ up with sec := { up.sec with negotiated := true, sessions := [{ id := 7, finished := true }] } }, 7,
    { id := 7, finished := true }, by decide +kernel⟩⟩

/-- Hypotheses of WardRequestsComplete met. -/
theorem witness_WardRequestsComplete :
    (∃ (s : State) (w : Nat) (g : Nat) (st : Nat) (co : Nat) (qb : Nat) (qc : Nat), Answers s = true ∧ w < 8 ∧ s.wardState w = 0 ∧
    s.taken g st co qb qc = false ∧ qb + qc ≤ 256 ∧ s.rngOk = true) ∧ (∃ (s : State) (w : Nat) (g : Nat) (st : Nat) (co : Nat) (qb : Nat) (qc
    : Nat), Answers s = true ∧ w < 8 ∧ s.wardState w ≠ 0) ∧ (∃ (s : State) (b : Nat) (f : Nat) (n : Nat) (w : Nat), Answers s = true ∧
    w < 8 ∧ s.sliceChk f n w = St.ok ∧ s.mem.waiting = []) ∧ (∃ (s : State) (w : Nat) (key : List Byte), Answers s = true ∧ w < 8 ∧
    97 ≤ key.length ∧ s.wardState w = 1 ∧ s.isBlank = false ∧ s.debugOn = false ∧ s.uctxsOf w = []) ∧
    (∃ (s : State) (w : Nat) (blob : List Byte), Answers s = true ∧ w < 8 ∧ 256 ≤ blob.length ∧ s.wardState w = 1 ∧ s.isBlank = false) ∧
    (∃ (s : State) (w : Nat) (id : Nat) (peer : Nat) (pub : List Byte) (nonce : List Byte), Answers s = true ∧ w < 8 ∧ 97 ≤ pub.length ∧
    32 ≤ nonce.length ∧ s.wardState w = 1 ∧ (List.range 256).any (fun j => s.linkValid j && s.rf (R.SEC_LINK j) F.SEC_LINK_KEY_ID = id %
    65536) = false ∧ s.freeLink = some 0) ∧ (∃ (s : State) (code : Nat) (w : Nat) (l : List Byte), Answers s = true ∧
    payloadLen code = none) ∧ (∃ (s : State) (w : Nat), Answers s = true ∧ w < 8 ∧ s.wardState w = 1) ∧ (∃ (s : State) (w : Nat), w < 8 ∧
    s.wardState w = 4 ∧ (s.ward w).gating = true) ∧ (∃ (s : State) (w : Nat), w < 8 ∧ s.wardState w = 4 ∧ (s.ward w).gating = true) :=
    ⟨⟨put up [(R.SEC_WARD_STATE 0, F.SEC_WARD_STATE_STATE, 0), (R.SEC_STATUS, F.SEC_STATUS_RNG_OK, 1)], 3, 2, 0, 0, 0, 1, by decide +kernel⟩,
    ⟨put up [(R.SEC_WARD_STATE 3, F.SEC_WARD_STATE_STATE, 1), (R.SEC_STATUS, F.SEC_STATUS_RNG_OK, 1)], 3, 2, 0, 0, 0, 1, by decide +kernel⟩,
    ⟨put up [(R.SEC_WARD_STATE 3, F.SEC_WARD_STATE_STATE, 1), (R.SEC_STATUS, F.SEC_STATUS_RNG_OK, 1)], 0, 5, 2, 3, by decide +kernel⟩,
    ⟨put up [(R.SEC_WARD_STATE 3, F.SEC_WARD_STATE_STATE, 1), (R.SEC_STATUS, F.SEC_STATUS_RNG_OK, 1)], 3, zeros 97, by decide +kernel⟩,
    ⟨put up [(R.SEC_WARD_STATE 3, F.SEC_WARD_STATE_STATE, 1), (R.SEC_STATUS, F.SEC_STATUS_RNG_OK, 1)], 3, zeros 256, by decide +kernel⟩,
    ⟨put up [(R.SEC_WARD_STATE 3, F.SEC_WARD_STATE_STATE, 1), (R.SEC_STATUS, F.SEC_STATUS_RNG_OK, 1)], 3, 7, 9, zeros 97, zeros 32,
    by decide +kernel⟩, ⟨up, 0x77, 0, [], by decide +kernel⟩, ⟨put up [(R.SEC_WARD_STATE 3, F.SEC_WARD_STATE_STATE, 1), (R.SEC_STATUS,
    F.SEC_STATUS_RNG_OK, 1)], 3, by decide +kernel⟩,
    ⟨{ (put up [(R.SEC_WARD_STATE 3, F.SEC_WARD_STATE_STATE, 4)]) with sec := { up.sec with wards := [(3, { gating := true })] } }, 3,
    by decide +kernel⟩,
    ⟨{ (put up [(R.SEC_WARD_STATE 3, F.SEC_WARD_STATE_STATE, 4)]) with sec := { up.sec with wards := [(3, { gating := true })] } }, 3,
    by decide +kernel⟩⟩

/-- Hypotheses of UnsealAndRngComplete met. -/
theorem witness_UnsealAndRngComplete :
    (∃ (s : State) (w : Nat) (c : Nat) (base : Nat) (lg : Nat), Answers s = true ∧ w < 8 ∧ c < 64 ∧ base % 64 = 0 ∧ base < 2 ^ 48 ∧ 2 ≤ lg ∧
    lg ≤ 12 ∧ s.wardState w = 1 ∧ s.bound c = false ∧ s.uringOk w base lg = true) ∧ (∃ (s : State), s.clk.on = true ∧ (∀ c,
    c < 64 → s.polled c = false)) ∧ (∃ (s : State) (c : Nat), s.clk.on = true ∧ c < 64 ∧ s.polled c = true ∧ (∀ d,
    d < 64 → d ≠ c → s.polled d = false) ∧ (s.devRead (s.uringBase c) 4 0 false).1.regs = s.regs ∧
    badStatus (s.devRead (s.uringBase c) 4 0 false).2.2 = false ∧ leNat (s.devRead (s.uringBase c) 4 0 false).2.1 = (s.uctx c).cons) ∧
    (∃ (s : State) (c : Nat) (j : UJob), s.clk.on = true ∧ s.nextCtx = some c ∧ (s.uctx c).job = some j ∧ (s.uctx c).abort = true) ∧
    (∃ (s : State) (c : Nat) (j : UJob), s.clk.on = true ∧ s.nextCtx = some c ∧ (s.uctx c).job = some j ∧ (s.uctx c).abort = false ∧
    j.moved % segBytes ≠ 0 ∧ ((s.modSec (fun x => { x with turn := (c + 1) % 64 })).moveChunk c j).polled c = false) :=
    ⟨⟨((put up [(R.SEC_WARD_STATE 3, F.SEC_WARD_STATE_STATE, 1), (R.SEC_STATUS, F.SEC_STATUS_RNG_OK,
    1)]).setRegion (regionKey 0) { owner := 3, st := 2 }), 3, 1, 0, 2, by decide +kernel⟩, ⟨up, by decide +kernel⟩,
    ⟨{ (put up [(R.SEC_UNS_RING 2, F.SEC_UNS_RING_BASE, 0x010000000000), (R.SEC_UNS_RING 2, F.SEC_UNS_RING_RING_LOG2, 2), (R.SEC_UNS_CTL 2, F.SEC_UNS_CTL_EN, 1), (R.SEC_WARD_STATE 0, F.SEC_WARD_STATE_STATE, 1)]) with mem := { up.mem with hostCfg := true } },
    2, by decide +kernel⟩,
    ⟨{ up with sec := { up.sec with uctx := [(2, { job := some { words := [0, 0, 0, 0, 0, 0, 0, 0], index := 0, moved := 4096, plain := none }, abort := true })] } },
    2, { words := [0, 0, 0, 0, 0, 0, 0, 0], index := 0, moved := 4096, plain := none }, by decide +kernel⟩,
    ⟨{ up with sec := { up.sec with uctx := [(2, { job := some { words := [0, 0, 0, 0, 0, 0, 0, 0], index := 0, moved := 4096, plain := none } })] } },
    2, { words := [0, 0, 0, 0, 0, 0, 0, 0], index := 0, moved := 4096, plain := none }, by decide +kernel⟩⟩

/-- Hypotheses of RegisterAccessesComplete met. -/
theorem witness_RegisterAccessesComplete :
    (∃ (s : State) (who : Requester) (a : Nat) (v : W64), (∀ k, who ≠ .core k) ∧ ServedNow s who = true ∧ s.reach who a = St.ok ∧ a % 8 = 0 ∧
    windowOf a = 0x28 ∧ hasAcc a .txn = false) ∧ (∃ (s : State) (a : Nat) (n : Nat) (v : W64), s.reach .mc a = St.ok ∧ n ≠ 8) ∧
    (∃ (s : State) (who : Requester) (a : Nat), s.reach who a = St.ok ∧ a % 8 = 0 ∧ progOf a = none ∧ windowOf a ≠ 0x08) ∧
    (∃ (s : State) (who : Requester) (k : Nat) (off : Nat), s.reach who (0x8000000 + k * 0x20000 + off) = St.ok ∧ k < 128 ∧ off < 0x20000 ∧
    off % 8 = 0 ∧ off ≠ 0x220) ∧ (∃ (s : State) (a : Nat), s.reach .mc a = St.ok ∧ a % 8 ≠ 0) :=
    ⟨⟨up, .mc, R.PWR_MODEL_COEF 3, 1, by simp, by decide +kernel, by decide +kernel, by decide +kernel, by decide +kernel,
    by decide +kernel⟩, ⟨up, R.PWR_DROOP_CTRL, 4, 1, by decide +kernel⟩, ⟨up, .mc, R.PWR_STATUS, by decide +kernel⟩, ⟨up, .mc, 3, 0x100,
    by decide +kernel⟩, ⟨up, R.PWR_STATUS + 4, by decide +kernel⟩⟩

/-- Hypotheses of CoreStartsAndWritesComplete met. -/
theorem witness_CoreStartsAndWritesComplete :
    (∃ (s : State) (who : Requester) (core : Nat) (th : Bool), s.awake = true ∧ s.reach who (seqAddr core) = St.ok ∧ core < 128 ∧
    s.runChk core = St.ok ∧ (s.core core).halted = true) ∧ (∃ (s : State) (who : Requester) (core : Nat) (th : Bool), s.awake = true ∧
    s.reach who (seqAddr core) = St.ok ∧ 128 ≤ core ∧ s.runChk core = St.ok ∧ (s.core core).halted = true) ∧
    (∃ (s : State) (who : Requester) (core : Nat) (th : Bool), who ≠ .host ∧ s.reach who (seqAddr core) = St.ok ∧ 128 ≤ core ∧
    s.wardOfCore core = none) ∧ (∃ (s : State) (who : Requester) (core : Nat) (th : Bool), ServedNow s who = true ∧
    s.reach who (seqAddr core) = St.ok ∧ core < 128) ∧ (∃ (s : State) (who : Requester) (core : Nat) (ctr : Nat) (val : Nat),
    ServedNow s who = true ∧ s.reach who (ctrAddr core ctr) = St.ok) ∧ (∃ (s : State) (who : Requester) (core : Nat) (off : Nat) (val : W64),
    ServedNow s who = true ∧ s.reach who (imemAddr core off) = St.ok ∧ off % 8 = 0 ∧ off + 8 ≤ imemSize core ∧ (s.core core).halted = true ∧
    s.lockRefuses who core = false) ∧ (∃ (s : State) (who : Requester) (core : Nat) (off : Nat) (val : W64), who ≠ .host ∧
    s.reach who (imemAddr core off) = St.ok ∧ off % 8 = 0 ∧ off + 8 ≤ imemSize core ∧ (s.core core).halted = false ∧
    s.lockRefuses who core = false) :=
    ⟨⟨{ up with cores := [(3, { halted := true, pc := 64 })] }, .mc, 3, true, by decide +kernel⟩,
    ⟨{ (put up [(R.SEC_WARD_STATE 0, F.SEC_WARD_STATE_STATE, 1), (R.SEC_WARD_ENG 0, F.SEC_WARD_ENG_STREAM, 1)]) with cores := [(128, { halted := true })] },
    .mc, 128, false, by decide +kernel⟩, ⟨up, .mc, 128, false, by decide +kernel⟩,
    ⟨{ up with cores := [(3, { halted := false, pc := 64 })] }, .mc, 3, false, by decide +kernel⟩, ⟨up, .mc, 3, 63, 70000,
    by decide +kernel⟩, ⟨up, .mc, 3, 65528, 0x123456789, by decide +kernel⟩, ⟨{ up with cores := [(3, { halted := false })] }, .mc, 3, 8, 1,
    by decide +kernel⟩⟩

/-- Hypotheses of StreamControlsComplete met. -/
theorem witness_StreamControlsComplete :
    (∃ (s : State) (who : Requester) (core : Nat), ServedNow s who = true ∧ s.reach who (R.CELL_STREAM_CTRL core) = St.ok ∧ core < 128 ∧
    ((s.core core).stream 0).state = .stopped) ∧ (∃ (s : State) (who : Requester) (core : Nat), ServedNow s who = true ∧
    s.reach who (R.CELL_STREAM_CTRL core) = St.ok ∧ core < 128 ∧ ((s.core core).stream 1).state = .stopped) ∧
    (∃ (s : State) (who : Requester) (core : Nat), ServedNow s who = true ∧ s.reach who (R.CELL_STREAM_CTRL core) = St.ok ∧ core < 128 ∧
    ((s.core core).stream 0).state ≠ .flushing) ∧ (∃ (s : State) (who : Requester) (core : Nat), ServedNow s who = true ∧
    s.reach who (R.CELL_STREAM_CTRL core) = St.ok ∧ core < 128 ∧ ((s.core core).stream 1).state ≠ .flushing) ∧
    (∃ (s : State) (who : Requester) (core : Nat), ServedNow s who = true ∧ s.reach who (R.CELL_STREAM_CTRL core) = St.ok ∧ core < 128 ∧
    ((s.core core).stream 0).state = .flushing) ∧ (∃ (s : State) (who : Requester) (core : Nat) (en : Bool), ServedNow s who = true ∧
    s.reach who (R.CELL_STREAM_CTRL core) = St.ok ∧ core < 128) :=
    ⟨⟨{ up with cores := [(3, { strm0 := { state := .stopped, fault := 7 } })] }, .mc, 3, by decide +kernel⟩,
    ⟨{ up with cores := [(3, { strm1 := { state := .stopped, fault := 7 } })] }, .mc, 3, by decide +kernel⟩,
    ⟨{ up with cores := [(3, { strm0 := { state := .stopped, fault := 7, queue := [{ cmd := {}, seq := 4 }], nextSeq := 5 } })] }, .mc, 3,
    by decide +kernel⟩,
    ⟨{ up with cores := [(3, { strm1 := { state := .stopped, fault := 7, queue := [{ cmd := {}, seq := 4 }], nextSeq := 5 } })] }, .mc, 3,
    by decide +kernel⟩, ⟨{ up with cores := [(3, { strm0 := { state := .flushing } })] }, .mc, 3, by decide +kernel⟩, ⟨up, .mc, 3, true,
    by decide +kernel⟩⟩

/-- Hypotheses of SfnTablesComplete met. -/
theorem witness_SfnTablesComplete :
    (∃ (s : State) (who : Requester) (cell : Nat) (off : Nat) (v : W64), ServedNow s who = true ∧ s.reach who (sfnPage cell + off) = St.ok ∧
    off % 8 = 0 ∧ off < 0x10000 ∧ isTdesc off = false ∧ (∀ t, tableOf off = some t → s.tableValid cell t = false)) ∧
    (∃ (s : State) (who : Requester) (cell : Nat) (off : Nat) (tbl : Nat) (v : W64), who ≠ .host ∧ s.reach who (sfnPage cell + off) = St.ok ∧
    off < 0x10000 ∧ isTdesc off = false ∧ tableOf off = some tbl ∧ (off < 0x4000 ∨ off % 0x40 < 0x20) ∧ s.tableValid cell tbl = true) ∧
    (∃ (s : State) (who : Requester) (cell : Nat) (tbl : Nat) (v : W64), ServedNow s who = true ∧
    s.reach who (sfnPage cell + (0x8000 + 0x40 * tbl)) = St.ok ∧ tbl < 4 ∧ s.tableValid cell tbl = false ∧
    (bitAt v.toNat 32 && tdescReserved v) = false) ∧ (∃ (s : State) (who : Requester) (cell : Nat) (tbl : Nat) (v : W64), who ≠ .host ∧
    s.reach who (sfnPage cell + (0x8000 + 0x40 * tbl)) = St.ok ∧ tbl < 4 ∧ s.tableValid cell tbl = false ∧ bitAt v.toNat 32 = true ∧
    tdescReserved v = true) ∧ (∃ (s : State) (who : Requester) (cell : Nat) (tbl : Nat) (v : W64), who ≠ .host ∧
    s.reach who (sfnPage cell + (0x8000 + 0x40 * tbl)) = St.ok ∧ tbl < 4 ∧ s.tableValid cell tbl = true ∧
    tdescFields v ≠ tdescFields (s.tdesc cell tbl)) ∧ (∃ (s : State) (who : Requester) (cell : Nat) (tbl : Nat) (v : W64),
    ServedNow s who = true ∧ s.reach who (sfnPage cell + (0x8000 + 0x40 * tbl)) = St.ok ∧ tbl < 4 ∧ s.tableValid cell tbl = true ∧
    tdescFields v = tdescFields (s.tdesc cell tbl) ∧ bitAt v.toNat 32 = false ∧ s.sfnNames cell tbl = false) ∧
    (∃ (s : State) (who : Requester) (cell : Nat) (tbl : Nat) (v : W64), ServedNow s who = true ∧
    s.reach who (sfnPage cell + (0x8000 + 0x40 * tbl)) = St.ok ∧ tbl < 4 ∧ s.tableValid cell tbl = true ∧
    tdescFields v = tdescFields (s.tdesc cell tbl) ∧ bitAt v.toNat 32 = false ∧ s.sfnNames cell tbl = true) ∧
    (∃ (s : State) (cell : Nat) (tbl : Nat) (w : SfnClear), s.clk.on = true ∧ s.mgt.sfnClear = [w] ∧ w.cell = cell ∧ w.tbl = tbl ∧
    s.sfnNames cell tbl = false) ∧ (∃ (s : State) (cell : Nat) (tbl : Nat), s.sfnNames cell tbl = true) ∧
    (∃ (s : State) (who : Requester) (half : Nat) (off : Nat) (v : W64), who ≠ .host ∧ s.reach who (bcastPage half + off) = St.ok ∧
    off < 0x4000 ∧ off % 8 = 0 ∧ (s.bcastCells half).any (fun k => s.absent k || s.tableValid k (off / 0x1000)) = true) ∧
    (∃ (s : State) (who : Requester) (half : Nat) (off : Nat) (v : W64), ServedNow s who = true ∧
    s.reach who (bcastPage half + off) = St.ok ∧ half < 2 ∧ off % 8 = 0 ∧ off < 0x4000 ∧
    (s.bcastCells half).all (fun k => !s.absent k && !s.tableValid k (off / 0x1000)) = true) ∧
    (∃ (s : State) (who : Requester) (half : Nat) (v : W64), ServedNow s who = true ∧ s.reach who (bcastPage half + 0xF000) = St.ok ∧
    half < 2) :=
    ⟨⟨up, .mc, 3, 8, 5, by decide +kernel, by decide +kernel, by decide +kernel, by decide +kernel, by decide +kernel,
    fun t h => by cases h; decide +kernel⟩, ⟨put up [(R.HALF_SFN_TDESC 0 3 0, F.HALF_SFN_TDESC_VALID, 1)], .mc, 3, 8, 0, 5,
    by decide +kernel⟩, ⟨up, .mc, 3, 2, 0x100000000, by decide +kernel⟩, ⟨up, .mc, 3, 2, 0x100000C00, by decide +kernel⟩,
    ⟨put up [(R.HALF_SFN_TDESC 0 3 2, F.HALF_SFN_TDESC_VALID, 1)], .mc, 3, 2, 0x100000100, by decide +kernel⟩,
    ⟨put up [(R.HALF_SFN_TDESC 0 3 2, F.HALF_SFN_TDESC_VALID, 1)], .mc, 3, 2, 0, by decide +kernel⟩, ⟨sfn14, .mc, 3, 2, 0,
    by decide +kernel⟩,
    ⟨{ (put up [(R.HALF_SFN_TDESC 0 3 2, F.HALF_SFN_TDESC_VALID, 1)]) with mgt := { up.mgt with sfnClear := [{ cell := 3, tbl := 2, who := .mc, off := sfnPage 3 + 0x8080, val := 0 }] } },
    3, 2, { cell := 3, tbl := 2, who := .mc, off := sfnPage 3 + 0x8080, val := 0 }, by decide +kernel⟩, ⟨sfn14, 3, 2, by decide +kernel⟩,
    ⟨put up [(R.HALF_SFN_TDESC 0 3 0, F.HALF_SFN_TDESC_VALID, 1), (R.HALF_SFN_BCAST_MASK 0, F.HALF_SFN_BCAST_MASK_MASK, 9)], .mc, 0, 8, 5,
    by decide +kernel⟩, ⟨put up [(R.HALF_SFN_BCAST_MASK 0, F.HALF_SFN_BCAST_MASK_MASK, 9)], .mc, 0, 8, 5, by decide +kernel⟩, ⟨up, .mc, 0, 5,
    by decide +kernel⟩⟩

/-- Hypotheses of RvInstructionsComplete met. -/
theorem witness_RvInstructionsComplete :
    (∃ (s : State) (core : Nat) (len : Nat) (raw : Nat) (errs : List (Nat × Bool)) (f3 : Nat) (rd : Nat) (rs1 : Nat) (alt : Bool) (imm :
    W32), s.rvReady core = true ∧ s.rvFetch core = .ok (.opImm f3 rd rs1 alt imm, len, raw)) ∧
    (∃ (s : State) (core : Nat) (len : Nat) (raw : Nat) (errs : List (Nat × Bool)) (f3 : Nat) (rd : Nat) (rs1 : Nat) (rs2 : Nat) (alt :
    Bool), s.rvReady core = true ∧ s.rvFetch core = .ok (.op f3 rd rs1 rs2 alt, len, raw)) ∧
    (∃ (s : State) (core : Nat) (len : Nat) (raw : Nat) (errs : List (Nat × Bool)) (f3 : Nat) (rd : Nat) (rs1 : Nat) (rs2 : Nat),
    s.rvReady core = true ∧ s.rvFetch core = .ok (.mul f3 rd rs1 rs2, len, raw)) ∧ (∃ (s : State) (core : Nat) (len : Nat) (raw : Nat) (errs
    : List (Nat × Bool)) (rd : Nat) (imm : W32), s.rvReady core = true ∧ s.rvFetch core = .ok (.lui rd imm, len, raw)) ∧
    (∃ (s : State) (core : Nat) (len : Nat) (raw : Nat) (errs : List (Nat × Bool)) (rd : Nat) (imm : W32), s.rvReady core = true ∧
    s.rvFetch core = .ok (.auipc rd imm, len, raw)) ∧ (∃ (s : State) (core : Nat) (len : Nat) (raw : Nat) (errs : List (Nat × Bool)) (rd :
    Nat) (off : W32), s.rvReady core = true ∧ s.rvFetch core = .ok (.jal rd off, len, raw)) ∧
    (∃ (s : State) (core : Nat) (len : Nat) (raw : Nat) (errs : List (Nat × Bool)) (rd : Nat) (rs1 : Nat) (imm : W32),
    s.rvReady core = true ∧ s.rvFetch core = .ok (.jalr rd rs1 imm, len, raw)) ∧ (∃ (s : State) (core : Nat) (len : Nat) (raw : Nat) (errs :
    List (Nat × Bool)) (f3 : Nat) (rs1 : Nat) (rs2 : Nat) (off : W32), s.rvReady core = true ∧ s.rvFetch core = .ok (.branch f3 rs1 rs2 off,
    len, raw)) ∧ (∃ (s : State) (core : Nat) (len : Nat) (raw : Nat) (errs : List (Nat × Bool)) (f3 : Nat) (rd : Nat) (rs1 : Nat) (off : Nat)
    (imm : W32), s.rvReady core = true ∧ s.rvFetch core = .ok (.load f3 rd rs1 imm, len, raw) ∧ errs = [] ∧
    ((s.core core).rx rs1 + imm).toNat % 2 ^ (f3 % 4) = 0 ∧ coreMap core ((s.core core).rx rs1 + imm).toNat = .data off ∧
    s.csBad core off (2 ^ (f3 % 4)) = false) ∧ (∃ (s : State) (core : Nat) (len : Nat) (raw : Nat) (errs : List (Nat × Bool)) (f3 : Nat) (rs1
    : Nat) (rs2 : Nat) (off : Nat) (imm : W32), s.rvReady core = true ∧ s.rvFetch core = .ok (.store f3 rs1 rs2 imm, len, raw) ∧
    ((s.core core).rx rs1 + imm).toNat % 2 ^ f3 = 0 ∧ coreMap core ((s.core core).rx rs1 + imm).toNat = .data off ∧ f3 ≤ 2) ∧
    (∃ (s : State) (core : Nat) (len : Nat) (raw : Nat) (errs : List (Nat × Bool)) (f3 : Nat) (rd : Nat) (rs1 : Nat) (a : Nat) (old : W32),
    s.rvReady core = true ∧ s.rvFetch core = .ok (.csr f3 rd rs1 a, len, raw) ∧ f3 = 1 ∧ a = 0x340 ∧ s.csrRead core a = some old) :=
    ⟨⟨prog 0xFFF30293 (fun c => { c with x := [(6, 9)] }), 3, 4, 0xFFF30293, [], 0, 5, 6, false, (-1), by decide +kernel⟩,
    ⟨prog 0x007302B3 (fun c => { c with x := [(6, 9), (7, 4)] }), 3, 4, 0x007302B3, [], 0, 5, 6, 7, false, by decide +kernel⟩,
    ⟨prog 0x027302B3 (fun c => { c with x := [(6, 9), (7, 4)] }), 3, 4, 0x027302B3, [], 0, 5, 6, 7, by decide +kernel⟩,
    ⟨prog 0x000012B7 (fun c => c), 3, 4, 0x000012B7, [], 5, 4096, by decide +kernel⟩, ⟨prog 0x00001297 (fun c => c), 3, 4, 0x00001297, [], 5,
    4096, by decide +kernel⟩, ⟨prog 0x008000EF (fun c => c), 3, 4, 0x008000EF, [], 1, 8, by decide +kernel⟩,
    ⟨prog 0x004302E7 (fun c => { c with x := [(6, 17)] }), 3, 4, 0x004302E7, [], 5, 6, 4, by decide +kernel⟩, ⟨prog 0x00628463 (fun c => c),
    3, 4, 0x00628463, [], 0, 5, 6, 8, by decide +kernel⟩, ⟨prog 0x00432283 (fun c => { c with x := [(6, 0x400004)] }), 3, 4, 0x00432283, [],
    2, 5, 6, 8, 4, by decide +kernel⟩, ⟨prog 0x00532223 (fun c => { c with x := [(5, 77), (6, 0x400004)] }), 3, 4, 0x00532223, [], 2, 6, 5,
    8, 4, by decide +kernel⟩, ⟨prog 0x340312F3 (fun c => { c with x := [(6, 9)], csr := [(0x340, 7)] }), 3, 4, 0x340312F3, [], 1, 5, 6,
    0x340, 7, by decide +kernel⟩⟩

/-- Hypotheses of KenarisInstructionsComplete met. -/
theorem witness_KenarisInstructionsComplete :
    (∃ (s : State) (core : Nat) (rd : Nat) (rs1 : Nat) (rs2 : Nat) (len : Nat) (raw : Nat), s.rvReady core = true ∧
    s.rvFetch core = .ok (.kenaris 0 0 rd rs1 rs2, len, raw)) ∧ (∃ (s : State) (core : Nat) (rd : Nat) (rs1 : Nat) (rs2 : Nat) (len : Nat)
    (raw : Nat), s.rvReady core = true ∧ s.rvFetch core = .ok (.kenaris 1 0 rd rs1 rs2, len, raw) ∧ ((s.core core).rx rs1).toNat % 32 = 0 ∧
    ((s.core core).rx rs1).toNat + 32 ≤ storeSize core ∧ s.csBad core ((s.core core).rx rs1).toNat 32 = false) ∧
    (∃ (s : State) (core : Nat) (rd : Nat) (rs1 : Nat) (rs2 : Nat) (len : Nat) (raw : Nat), s.rvReady core = true ∧
    s.rvFetch core = .ok (.kenaris 2 0 rd rs1 rs2, len, raw) ∧
    pushBad core (((s.core core).rx rs2).toNat % 2) (cmdOfStaging (s.core core).staging) = false ∧
    s.pushRoom core (((s.core core).rx rs2).toNat % 2) = true) ∧ (∃ (s : State) (core : Nat) (rd : Nat) (rs1 : Nat) (rs2 : Nat) (len : Nat)
    (raw : Nat), s.rvReady core = true ∧ s.rvFetch core = .ok (.kenaris 2 0 rd rs1 rs2, len, raw) ∧
    pushBad core (((s.core core).rx rs2).toNat % 2) (cmdOfStaging (s.core core).staging) = false ∧
    s.pushRoom core (((s.core core).rx rs2).toNat % 2) = false) ∧ (∃ (s : State) (core : Nat) (rd : Nat) (rs1 : Nat) (rs2 : Nat) (len : Nat)
    (raw : Nat) (f7 : Nat), s.clk.on = true ∧ (s.core core).stall = .pushs ∧ s.rvFetch core = .ok (.kenaris 2 f7 rd rs1 rs2, len, raw) ∧
    s.pushRoom core (((s.core core).rx rs2).toNat % 2) = true) ∧ (∃ (s : State) (core : Nat) (rd : Nat) (rs1 : Nat) (rs2 : Nat) (len : Nat)
    (raw : Nat), s.rvReady core = true ∧ s.rvFetch core = .ok (.kenaris 3 0 rd rs1 rs2, len, raw)) ∧
    (∃ (s : State) (core : Nat) (rd : Nat) (rs1 : Nat) (rs2 : Nat) (len : Nat) (raw : Nat), s.rvReady core = true ∧
    s.rvFetch core = .ok (.kenaris 4 0 rd rs1 rs2, len, raw)) ∧ (∃ (s : State) (core : Nat) (rd : Nat) (rs1 : Nat) (rs2 : Nat) (len : Nat)
    (raw : Nat), s.rvReady core = true ∧ s.rvFetch core = .ok (.kenaris 5 0 rd rs1 rs2, len, raw) ∧
    reached (s.ctr core (((s.core core).rx rs1).toNat % 64)) (((s.core core).rx rs2).toNat % 65536) = true) ∧
    (∃ (s : State) (core : Nat) (rd : Nat) (rs1 : Nat) (rs2 : Nat) (len : Nat) (raw : Nat), s.rvReady core = true ∧
    s.rvFetch core = .ok (.kenaris 5 0 rd rs1 rs2, len, raw) ∧
    reached (s.ctr core (((s.core core).rx rs1).toNat % 64)) (((s.core core).rx rs2).toNat % 65536) = false) ∧
    (∃ (s : State) (core : Nat) (rd : Nat) (rs1 : Nat) (rs2 : Nat) (len : Nat) (raw : Nat) (f7 : Nat), s.clk.on = true ∧
    (s.core core).stall = .scWait ∧ s.rvFetch core = .ok (.kenaris 5 f7 rd rs1 rs2, len, raw) ∧
    reached (s.ctr core (((s.core core).rx rs1).toNat % 64)) (((s.core core).rx rs2).toNat % 65536) = true) ∧
    (∃ (s : State) (core : Nat) (rd : Nat) (rs1 : Nat) (rs2 : Nat) (len : Nat) (raw : Nat), s.rvReady core = true ∧
    s.rvFetch core = .ok (.kenaris 6 0 rd rs1 rs2, len, raw)) :=
    ⟨⟨prog 0x73000b (fun c => { c with x := [(6, 9), (7, 3)] }), 3, 0, 6, 7, 4, 0x73000b, by decide +kernel⟩,
    ⟨prog 0x73100b (fun c => { c with x := [(6, 64)] }), 3, 0, 6, 7, 4, 0x73100b, by decide +kernel⟩,
    ⟨prog 0x73228b (fun c => { c with x := [(7, 1)], staging := [(0, 0x150)] }), 3, 5, 6, 7, 4, 0x73228b, by decide +kernel⟩,
    ⟨prog 0x73228b (fun c => { c with x := [(7, 1)], staging := [(0, 0x150)], strm1 := { state := .flushing } }), 3, 5, 6, 7, 4, 0x73228b,
    by decide +kernel⟩, ⟨prog 0x73228b (fun c => { c with x := [(7, 1)], staging := [(0, 0x150)], stall := .pushs }), 3, 5, 6, 7, 4,
    0x73228b, 0, by decide +kernel⟩, ⟨prog 0x73328b (fun c => c), 3, 5, 6, 7, 4, 0x73328b, by decide +kernel⟩,
    ⟨prog 0x73428b (fun c => { c with x := [(6, 2)], ctrs := [(2, 99)] }), 3, 5, 6, 7, 4, 0x73428b, by decide +kernel⟩,
    ⟨prog 0x73500b (fun c => c), 3, 0, 6, 7, 4, 0x73500b, by decide +kernel⟩, ⟨prog 0x73500b (fun c => { c with x := [(7, 3)] }), 3, 0, 6, 7,
    4, 0x73500b, by decide +kernel⟩, ⟨prog 0x73500b (fun c => { c with stall := .scWait }), 3, 0, 6, 7, 4, 0x73500b, 0, by decide +kernel⟩,
    ⟨prog 0x73600b (fun c => { c with x := [(6, 2), (7, 65535)], ctrs := [(2, 99)] }), 3, 0, 6, 7, 4, 0x73600b, by decide +kernel⟩⟩

/-- Hypotheses of CoreTrapsTaken met. -/
theorem witness_CoreTrapsTaken :
    (∃ (s : State) (core : Nat) (len : Nat) (raw : Nat), s.rvReady core = true ∧ s.rvFetch core = .ok (.ebreak, len, raw)) ∧
    (∃ (s : State) (core : Nat) (f3 : Nat) (f7 : Nat) (rd : Nat) (rs1 : Nat) (rs2 : Nat) (len : Nat) (raw : Nat), s.rvReady core = true ∧
    s.rvFetch core = .ok (.kenaris f3 f7 rd rs1 rs2, len, raw) ∧ (f3 = 7 ∨ f7 ≠ 0) ∧ (s.core core).trapHalt = true) ∧
    (∃ (s : State) (core : Nat) (f3 : Nat) (f7 : Nat) (rd : Nat) (rs1 : Nat) (rs2 : Nat) (len : Nat) (raw : Nat), s.rvReady core = true ∧
    s.rvFetch core = .ok (.kenaris f3 f7 rd rs1 rs2, len, raw) ∧ (f3 = 7 ∨ f7 ≠ 0) ∧ (s.core core).trapHalt = false) ∧
    (∃ (s : State) (core : Nat) (len : Nat) (raw : Nat), s.rvReady core = true ∧ s.rvFetch core = .ok (.ecall, len, raw) ∧
    (s.core core).trapHalt = false) ∧ (∃ (s : State) (core : Nat) (len : Nat) (raw : Nat), s.rvReady core = true ∧
    s.rvFetch core = .ok (.mret, len, raw)) ∧ (∃ (s : State) (core : Nat), s.rvReady core = true ∧ (s.core core).pc % 2 ≠ 0 ∧
    (s.core core).trapHalt = false) :=
    ⟨⟨prog 0x00100073 (fun c => c), 3, 4, 0x00100073, by decide +kernel⟩, ⟨prog 0x700b (fun c => { c with trapHalt := true }), 3, 7, 0, 0, 0,
    0, 4, 0x700b, by decide +kernel⟩, ⟨prog 0x700b (fun c => { c with trapHalt := false, csr := [(0x305, 256)] }), 3, 7, 0, 0, 0, 0, 4,
    0x700b, by decide +kernel⟩, ⟨prog 0x73 (fun c => { c with trapHalt := false, csr := [(0x305, 256)] }), 3, 4, 0x73, by decide +kernel⟩,
    ⟨prog 0x30200073 (fun c => { c with csr := [(0x341, 64)] }), 3, 4, 0x30200073, by decide +kernel⟩,
    ⟨prog 0 (fun c => { c with pc := 3, trapHalt := false }), 3, by decide +kernel⟩⟩

/-- Hypotheses of ArrayPassesComplete met. -/
theorem witness_ArrayPassesComplete :
    (∃ (s : State) (core : Nat) (e : Issued), s.front core 0x01 = some e ∧ matmulChk core e.cmd = St.ok) ∧
    (∃ (s : State) (core : Nat) (e : Issued), s.front core 0x01 = some e ∧ matmulChk core e.cmd ≠ St.ok) ∧
    (∃ (s : State) (core : Nat) (e : Issued), s.front core 0x02 = some e ∧ e.cmd.descOff % 64 ≠ 0) ∧
    (∃ (s : State) (core : Nat) (e : Issued), s.front core 0x02 = some e ∧ e.cmd.descOff % 64 = 0 ∧ pairOf e.cmd.fmtA e.cmd.fmtB = none) ∧
    (∃ (s : State) (core : Nat) (e : Issued) (d : ConvDesc), s.front core 0x02 = some e ∧ e.cmd.descOff % 64 = 0 ∧
    s.csBad core e.cmd.descOff 64 = false ∧ d = convDesc (s.csBytes core e.cmd.descOff 64) ∧
    passChk core e.cmd e.cmd.conv.2.2 (min e.cmd.depth (d.k - e.cmd.conv.1)) = St.ok ∧
    d.bad e.cmd.fmtA e.cmd.conv.2.1 e.cmd.conv.2.2 e.cmd.conv.1 e.cmd.depth = false) ∧ (∃ (s : State) (core : Nat) (e : Issued) (p : Pass),
    s.clk.on = true ∧ (s.core core).passIn 1 = some (e, p) ∧ (s.core core).wantGrant = false ∧
    ((s.core core).formBefore e.ord != p.shallow && (s.core core).earlierPass e.ord) = false ∧ (s.core core).passIn 2 = none) ∧
    (∃ (s : State) (core : Nat) (e : Issued) (p : Pass), s.clk.on = true ∧ (s.core core).passIn 2 = some (e, p) ∧
    (s.core core).wantGrant = false ∧ ((s.core core).formBefore e.ord != p.shallow && (s.core core).earlierPass e.ord) = false ∧
    (s.core core).interlocked e = false) ∧ (∃ (s : State) (core : Nat) (e : Issued) (p : Pass) (new : List Nat), s.clk.on = true ∧
    (s.core core).passIn 3 = some (e, p) ∧ p.sub = [new] ∧ new.length = p.rows * p.width ∧ p.add = false) ∧
    (∃ (s : State) (core : Nat) (e : Issued) (p : Pass) (new : List Nat), s.clk.on = true ∧ (s.core core).passIn 3 = some (e, p) ∧
    p.sub = [new] ∧ new.length = p.rows * p.width ∧ p.add = true ∧ isIntFmt p.fmtA = false) ∧
    (∃ (s : State) (core : Nat) (e : Issued) (p : Pass) (new : List Nat), s.clk.on = true ∧ (s.core core).passIn 3 = some (e, p) ∧
    p.sub = [new] ∧ new.length = p.rows * p.width ∧ p.add = true ∧ isIntFmt p.fmtA = true) :=
    ⟨⟨busyWith 3 [iss (cmdw 0x01 0x33000 (opw 0 0) (opw 0 65536) (shp 1 16))], 3, iss (cmdw 0x01 0x33000 (opw 0 0) (opw 0 65536) (shp 1 16)),
    by decide +kernel⟩, ⟨busyWith 3 [iss (cmdw 0x01 0x33000 (opw 0 0) (opw 0 65536) (shp 0 16))], 3,
    iss (cmdw 0x01 0x33000 (opw 0 0) (opw 0 65536) (shp 0 16)), by decide +kernel⟩, ⟨busyWith 3 [iss (cmdw 0x02 0x33000 8 (opw 0 65536) 1)],
    3, iss (cmdw 0x02 0x33000 8 (opw 0 65536) 1), by decide +kernel⟩, ⟨busyWith 3 [iss (cmdw 0x02 0x83000 0 (opw 0 65536) 1)], 3,
    iss (cmdw 0x02 0x83000 0 (opw 0 65536) 1), by decide +kernel⟩, ⟨(busyWith 3 [iss (cmdw 0x02 0x33000 0 (opw 0 65536) 1)]).csWrite 3 0
    (leBytes 8 (1 + 2 ^ 16 + 2 ^ 32 + 2 ^ 48) ++ leBytes 8 (16 + 2 ^ 16 + 2 ^ 24 + 2 ^ 32 + 2 ^ 40 + 2 ^ 48 + 2 ^ 56) ++ leBytes 8 0 ++
    leBytes 8 (64 + 16 * 2 ^ 32) ++ leBytes 8 (16 + 16 * 2 ^ 24)), 3, iss (cmdw 0x02 0x33000 0 (opw 0 65536) 1),
    convDesc (leBytes 8 (1 + 2 ^ 16 + 2 ^ 32 + 2 ^ 48) ++ leBytes 8 (16 + 2 ^ 16 + 2 ^ 24 + 2 ^ 32 + 2 ^ 40 + 2 ^ 48 + 2 ^ 56) ++ leBytes 8 0
    ++ leBytes 8 (64 + 16 * 2 ^ 32) ++ leBytes 8 (16 + 16 * 2 ^ 24)), by decide +kernel⟩,
    ⟨busyWith 3 [iss (cmdw 0x01 0x33000 (opw 0 0) (opw 0 65536) (shp 1 16)) (.pass
    { stage := 1, shallow := false, fmtA := 3, fmtB := 3, depth := 128, width := 128, rows := 1, kUsed := 1, accRow := 2, add := false, desc := [], wtile := [], sub := [], poison := false })],
    3, iss (cmdw 0x01 0x33000 (opw 0 0) (opw 0 65536) (shp 1 16)) (.pass
    { stage := 1, shallow := false, fmtA := 3, fmtB := 3, depth := 128, width := 128, rows := 1, kUsed := 1, accRow := 2, add := false, desc := [], wtile := [], sub := [], poison := false }),
    { stage := 1, shallow := false, fmtA := 3, fmtB := 3, depth := 128, width := 128, rows := 1, kUsed := 1, accRow := 2, add := false, desc := [], wtile := [], sub := [], poison := false },
    by decide +kernel⟩, ⟨busyWith 3 [iss (cmdw 0x01 0x33000 (opw 0 0) (opw 0 65536) (shp 1 16)) (.pass
    { stage := 2, shallow := false, fmtA := 3, fmtB := 3, depth := 128, width := 128, rows := 1, kUsed := 1, accRow := 2, add := false, desc := [], wtile := List.replicate 128 0, sub := [], poison := false })],
    3, iss (cmdw 0x01 0x33000 (opw 0 0) (opw 0 65536) (shp 1 16)) (.pass
    { stage := 2, shallow := false, fmtA := 3, fmtB := 3, depth := 128, width := 128, rows := 1, kUsed := 1, accRow := 2, add := false, desc := [], wtile := List.replicate 128 0, sub := [], poison := false }),
    { stage := 2, shallow := false, fmtA := 3, fmtB := 3, depth := 128, width := 128, rows := 1, kUsed := 1, accRow := 2, add := false, desc := [], wtile := List.replicate 128 0, sub := [], poison := false },
    by decide +kernel⟩, ⟨busyWith 3 [iss (cmdw 0x01 0x33000 (opw 0 0) (opw 0 65536) (shp 1 16)) (.pass
    { stage := 3, shallow := false, fmtA := 3, fmtB := 3, depth := 128, width := 128, rows := 1, kUsed := 1, accRow := 2, add := false, desc := [], wtile := [], sub := [List.replicate 128 0x3F800000], poison := false })],
    3, iss (cmdw 0x01 0x33000 (opw 0 0) (opw 0 65536) (shp 1 16)) (.pass
    { stage := 3, shallow := false, fmtA := 3, fmtB := 3, depth := 128, width := 128, rows := 1, kUsed := 1, accRow := 2, add := false, desc := [], wtile := [], sub := [List.replicate 128 0x3F800000], poison := false }),
    { stage := 3, shallow := false, fmtA := 3, fmtB := 3, depth := 128, width := 128, rows := 1, kUsed := 1, accRow := 2, add := false, desc := [], wtile := [], sub := [List.replicate 128 0x3F800000], poison := false },
    List.replicate 128 0x3F800000, by decide +kernel⟩, ⟨busyWith 3 [iss (cmdw 0x01 0x33000 (opw 0 0) (opw 0 65536) (shp 1 16)) (.pass
    { stage := 3, shallow := false, fmtA := 3, fmtB := 3, depth := 128, width := 128, rows := 1, kUsed := 1, accRow := 2, add := true, desc := [], wtile := [], sub := [List.replicate 128 0x3F800000], poison := false })],
    3, iss (cmdw 0x01 0x33000 (opw 0 0) (opw 0 65536) (shp 1 16)) (.pass
    { stage := 3, shallow := false, fmtA := 3, fmtB := 3, depth := 128, width := 128, rows := 1, kUsed := 1, accRow := 2, add := true, desc := [], wtile := [], sub := [List.replicate 128 0x3F800000], poison := false }),
    { stage := 3, shallow := false, fmtA := 3, fmtB := 3, depth := 128, width := 128, rows := 1, kUsed := 1, accRow := 2, add := true, desc := [], wtile := [], sub := [List.replicate 128 0x3F800000], poison := false },
    List.replicate 128 0x3F800000, by decide +kernel⟩, ⟨busyWith 3 [iss (cmdw 0x01 0x33000 (opw 0 0) (opw 0 65536) (shp 1 16)) (.pass
    { stage := 3, shallow := false, fmtA := 8, fmtB := 8, depth := 128, width := 128, rows := 1, kUsed := 1, accRow := 2, add := true, desc := [], wtile := [], sub := [List.replicate 128 5], poison := false })],
    3, iss (cmdw 0x01 0x33000 (opw 0 0) (opw 0 65536) (shp 1 16)) (.pass
    { stage := 3, shallow := false, fmtA := 8, fmtB := 8, depth := 128, width := 128, rows := 1, kUsed := 1, accRow := 2, add := true, desc := [], wtile := [], sub := [List.replicate 128 5], poison := false }),
    { stage := 3, shallow := false, fmtA := 8, fmtB := 8, depth := 128, width := 128, rows := 1, kUsed := 1, accRow := 2, add := true, desc := [], wtile := [], sub := [List.replicate 128 5], poison := false },
    List.replicate 128 5, by decide +kernel⟩⟩

/-- Hypotheses of VectorCommandsComplete met. -/
theorem witness_VectorCommandsComplete :
    (∃ (s : State) (core : Nat) (e : Issued), s.front core 0x18 = some e ∧ (s.core core).interlocked e = false ∧
    quantChk core e.cmd = St.ok) ∧ (∃ (s : State) (core : Nat) (e : Issued), s.front core 0x18 = some e ∧
    (s.core core).interlocked e = false ∧ quantChk core e.cmd ≠ St.ok) ∧ (∃ (s : State) (core : Nat) (e : Issued),
    s.front core 0x19 = some e ∧ (s.core core).interlocked e = false ∧ dequantChk core e.cmd = St.ok) ∧
    (∃ (s : State) (core : Nat) (e : Issued), s.front core 0x20 = some e ∧ (s.core core).interlocked e = false ∧ sfnChk core e = St.ok) ∧
    (∃ (s : State) (core : Nat) (e : Issued), s.front core 0x28 = some e ∧ (s.core core).interlocked e = false ∧ normChk core e.cmd = St.ok ∧
    s.csBad core e.cmd.paramOff 16 = false) ∧ (∃ (s : State) (core : Nat) (e : Issued), s.front core 0x30 = some e ∧
    (s.core core).interlocked e = false ∧ reduceChk core e.cmd = St.ok) ∧ (∃ (s : State) (core : Nat) (e : Issued),
    s.front core 0x38 = some e ∧ (s.core core).interlocked e = false) ∧ (∃ (s : State) (core : Nat) (e : Issued) (n : Nat),
    s.front core 0x38 = some e ∧ (s.core core).interlocked e = false ∧ fld e.cmd.w0 28 2 = 0 ∧ n = fld e.cmd.w3 0 11 * fld e.cmd.w3 16 16 ∧
    0 < n ∧ fld e.cmd.w3 0 11 ≤ 1024 ∧ fld e.cmd.w2 0 22 % 16 = 0 ∧ fld e.cmd.w2 0 22 + 4 * n ≤ 2 ^ 22) ∧
    (∃ (s : State) (core : Nat) (e : Issued), s.front core 0x40 = some e ∧ (s.core core).interlocked e = false ∧ e.cmd.descOff % 64 = 0) :=
    ⟨⟨busyWith 3 [iss (cmdw 0x18 0x300000 (opw 0 0) (opw 0 65536) (shp 2 16))], 3,
    iss (cmdw 0x18 0x300000 (opw 0 0) (opw 0 65536) (shp 2 16)), by decide +kernel⟩,
    ⟨busyWith 3 [iss (cmdw 0x18 0x300000 (opw 0 0) (opw 0 65536) (shp 0 16))], 3,
    iss (cmdw 0x18 0x300000 (opw 0 0) (opw 0 65536) (shp 0 16)), by decide +kernel⟩,
    ⟨busyWith 3 [iss (cmdw 0x19 0x3000 (opw 0 0) (opw 0 65536) (shp 2 16))], 3, iss (cmdw 0x19 0x3000 (opw 0 0) (opw 0 65536) (shp 2 16)),
    by decide +kernel⟩, ⟨busyWith 3 [iss (cmdw 0x20 0 (opw 0 0 1) (opw 0 65536) (shp 1 4))], 3,
    iss (cmdw 0x20 0 (opw 0 0 1) (opw 0 65536) (shp 1 4)), by decide +kernel⟩,
    ⟨(busyWith 3 [iss (cmdw 0x28 0x10000000 (opw 0 0) (opw 0 65536 1) (shp 1 4))]).csWrite 3 2048 [1], 3,
    iss (cmdw 0x28 0x10000000 (opw 0 0) (opw 0 65536 1) (shp 1 4)), by decide +kernel⟩,
    ⟨busyWith 3 [iss (cmdw 0x30 0 (opw 0 0) (opw 0 65536) (shp 2 8))], 3, iss (cmdw 0x30 0 (opw 0 0) (opw 0 65536) (shp 2 8)),
    by decide +kernel⟩, ⟨busyWith 3 [iss (cmdw 0x38 0 9 0 (shp 1 4))], 3, iss (cmdw 0x38 0 9 0 (shp 1 4)), by decide +kernel⟩,
    ⟨busyWith 3 [iss (cmdw 0x38 0 9 0 (shp 1 4))], 3, iss (cmdw 0x38 0 9 0 (shp 1 4)), 4, by decide +kernel⟩,
    ⟨busyWith 3 [iss (cmdw 0x40 0 0 0 16)], 3, iss (cmdw 0x40 0 0 0 16), by decide +kernel⟩⟩

/-- Hypotheses of VectorFrames met. -/
theorem witness_VectorFrames :
    (∃ (s : State) (core : Nat) (e : Issued), s.front core 0x18 = some e ∧ (s.core core).interlocked e = false ∧
    quantChk core e.cmd = St.ok) ∧ (∃ (s : State) (core : Nat) (e : Issued), s.front core 0x19 = some e ∧
    (s.core core).interlocked e = false ∧ dequantChk core e.cmd = St.ok) ∧ (∃ (s : State) (core : Nat) (e : Issued),
    s.front core 0x20 = some e ∧ (s.core core).interlocked e = false ∧ sfnChk core e = St.ok) ∧ (∃ (s : State) (core : Nat) (e : Issued),
    s.front core 0x30 = some e ∧ (s.core core).interlocked e = false ∧ reduceChk core e.cmd = St.ok) :=
    ⟨⟨busyWith 3 [iss (cmdw 0x18 0x10300000 (opw 0 0) (opw 0 65536 3) (shp 2 16))], 3,
    iss (cmdw 0x18 0x10300000 (opw 0 0) (opw 0 65536 3) (shp 2 16)), by decide +kernel⟩,
    ⟨busyWith 3 [iss (cmdw 0x19 0x3000 (opw 0 0) (opw 0 65536) (shp 2 16))], 3, iss (cmdw 0x19 0x3000 (opw 0 0) (opw 0 65536) (shp 2 16)),
    by decide +kernel⟩, ⟨busyWith 3 [iss (cmdw 0x20 0 (opw 0 0 1) (opw 0 65536) (shp 1 4))], 3,
    iss (cmdw 0x20 0 (opw 0 0 1) (opw 0 65536) (shp 1 4)), by decide +kernel⟩, ⟨busyWith 3 [iss (cmdw 0x30 0 (opw 0 0) (opw 0 65536) (shp 2
    8))], 3, iss (cmdw 0x30 0 (opw 0 0) (opw 0 65536) (shp 2 8)), by decide +kernel⟩⟩

/-- Hypotheses of MovesComplete met. -/
theorem witness_MovesComplete :
    (∃ (s : State) (core : Nat) (e : Issued), core < 128 ∧ s.front core 0x10 = some e) ∧ (∃ (s : State) (core : Nat) (e : Issued),
    core < 128 ∧ s.front core 0x11 = some e) ∧ (∃ (s : State) (core : Nat) (e : Issued) (x : Blk), core < 128 ∧ s.front core 0x10 = some e ∧
    fmtReserved e.cmd.fmtA = false ∧ (shape e.cmd.w3).rows = 1 ∧ (shape e.cmd.w3).srcPitch = 0 ∧ (shape e.cmd.w3).dstPitch = 0 ∧
    rowBytes e.cmd.fmtA (shape e.cmd.w3).elems = 64 ∧ wholeBytes e.cmd.fmtA (shape e.cmd.w3).elems = true ∧ 0 < (shape e.cmd.w3).elems ∧
    s.moveChk core [2] (operand e.cmd.w1) 1 64 64 = St.ok ∧ s.moveChk core [0] (operand e.cmd.w2) 1 64 64 = St.ok ∧
    spaceOf (operand e.cmd.w1).addr = .unified ∧ (operand e.cmd.w1).addr % 64 = 0 ∧ s.fenced (operand e.cmd.w1).addr = false ∧
    s.blk ((operand e.cmd.w1).addr / 65536) = some x ∧ (x.st = .clean ∨ x.st = .dirty) ∧ s.fmark ((operand e.cmd.w1).addr / 64) = .ok ∧
    s.mem.eccs = [] ∧ s.mem.waiting.any (fun w => w.line = (operand e.cmd.w1).addr / 64) = false) ∧
    (∃ (s : State) (core : Nat) (e : Issued) (x : Blk), core < 128 ∧ s.front core 0x11 = some e ∧ fmtReserved e.cmd.fmtA = false ∧
    (shape e.cmd.w3).rows = 1 ∧ (shape e.cmd.w3).srcPitch = 0 ∧ (shape e.cmd.w3).dstPitch = 0 ∧
    rowBytes e.cmd.fmtA (shape e.cmd.w3).elems = 64 ∧ wholeBytes e.cmd.fmtA (shape e.cmd.w3).elems = true ∧ 0 < (shape e.cmd.w3).elems ∧
    s.moveChk core [0] (operand e.cmd.w1) 1 64 64 = St.ok ∧ s.moveChk core [2] (operand e.cmd.w2) 1 64 64 = St.ok ∧
    spaceOf (operand e.cmd.w2).addr = .unified ∧ (operand e.cmd.w2).addr % 64 = 0 ∧ s.fenced (operand e.cmd.w2).addr = false ∧
    s.blk ((operand e.cmd.w2).addr / 65536) = some x ∧ (x.st = .clean ∨ x.st = .dirty) ∧ s.csBad core (operand e.cmd.w1).off 64 = false ∧
    s.fmark ((operand e.cmd.w2).addr / 64) ≠ .unset ∧ s.mem.waiting.any (fun w => w.line = (operand e.cmd.w2).addr / 64) = false) ∧
    (∃ (s : State) (core : Nat) (e : Issued), 128 ≤ core ∧ core < 160 ∧ s.front core 0x10 = some e ∧ fmtReserved e.cmd.fmtA = false ∧
    (shape e.cmd.w3).rows = 1 ∧ (shape e.cmd.w3).srcPitch = 0 ∧ (shape e.cmd.w3).dstPitch = 0 ∧
    rowBytes e.cmd.fmtA (shape e.cmd.w3).elems = 64 ∧ wholeBytes e.cmd.fmtA (shape e.cmd.w3).elems = true ∧ 0 < (shape e.cmd.w3).elems ∧
    (operand e.cmd.w1).space = 0 ∧ (operand e.cmd.w2).space = 0 ∧ s.moveChk core [0, 2, 3] (operand e.cmd.w1) 1 64 64 = St.ok ∧
    s.moveChk core [0, 2, 3] (operand e.cmd.w2) 1 64 64 = St.ok ∧ s.csBad core (operand e.cmd.w1).off 64 = false) ∧
    (∃ (s : State) (core : Nat) (e : Issued), s.front core 0x12 = some e) :=
    ⟨⟨warded [(3, iss (cmdw 0x10 0x3000 (opw 2 0) (opw 0 65536) (shp 1 64)))], 3, iss (cmdw 0x10 0x3000 (opw 2 0) (opw 0 65536) (shp 1 64)),
    by decide +kernel⟩, ⟨warded [(3, iss (cmdw 0x11 0x3000 (opw 0 65536) (opw 2 0) (shp 1 64)))], 3,
    iss (cmdw 0x11 0x3000 (opw 0 65536) (opw 2 0) (shp 1 64)), by decide +kernel⟩, ⟨warded [(3,
    iss (cmdw 0x10 0x3000 (opw 2 0) (opw 0 65536) (shp 1 64)))], 3, iss (cmdw 0x10 0x3000 (opw 2 0) (opw 0 65536) (shp 1 64)),
    { way := 0, st := .clean, ward := 0, cls := 1, tag := 0, dirty := [] }, by decide +kernel⟩, ⟨warded [(3,
    iss (cmdw 0x11 0x3000 (opw 0 65536) (opw 2 0) (shp 1 64)))], 3, iss (cmdw 0x11 0x3000 (opw 0 65536) (opw 2 0) (shp 1 64)),
    { way := 0, st := .clean, ward := 0, cls := 1, tag := 0, dirty := [] }, by decide +kernel⟩, ⟨warded [(128,
    iss (cmdw 0x10 0x3000 (opw 0 0) (opw 0 4096) (shp 1 64)))], 128, iss (cmdw 0x10 0x3000 (opw 0 0) (opw 0 4096) (shp 1 64)),
    by decide +kernel⟩, ⟨(warded [(128, iss (cmdw 0x12 0x3000 (opw 2 0) (opw 2 65536) (shp 1 64)))]), 128,
    iss (cmdw 0x12 0x3000 (opw 2 0) (opw 2 65536) (shp 1 64)), by decide +kernel⟩⟩

/-- Hypotheses of StreamsAndSignalsComplete met. -/
theorem witness_StreamsAndSignalsComplete :
    (∃ (s : State) (core : Nat) (strm : Nat) (q : QCmd) (rest : List QCmd), s.canIssue core strm = true ∧
    ((s.core core).stream strm).queue = q :: rest) ∧ (∃ (s : State) (core : Nat) (e : Issued) (unit : Nat), s.clk.on = true ∧
    (s.core core).issued.find? (fun x => x.unit = unit && (match x.phase with | .done _ => true | _ => false)) = some e ∧
    (s.core core).issued.find? (fun x => x.ord = e.ord) = some e ∧ e.phase = .done St.ok ∧ ((s.core core).stream e.strm).state = .run ∧
    e.cmd.sigEn = true) ∧ (∃ (s : State) (core : Nat) (e : Issued) (unit : Nat) (st : Nat), s.clk.on = true ∧
    (s.core core).issued.find? (fun x => x.unit = unit && (match x.phase with | .done _ => true | _ => false)) = some e ∧
    (s.core core).issued.find? (fun x => x.ord = e.ord) = some e ∧ e.phase = .done st ∧ badStatus st = true ∧
    ((s.core core).stream e.strm).state = .run) ∧ (∃ (s : State) (core : Nat) (e : Issued), s.front core 0x50 = some e) ∧
    (∃ (s : State) (core : Nat) (e : Issued), s.front core 0x51 = some e) ∧ (∃ (s : State) (core : Nat) (e : Issued),
    s.front core 0x52 = some e ∧ fld e.cmd.w1 39 2 ≠ 3 ∧ bitAt e.cmd.w1.toNat 41 = false ∧ bitAt e.cmd.w1.toNat 42 = false ∧
    s.targetChk core (targetCore (fld e.cmd.w1 39 2) (fld e.cmd.w1 32 7)) = St.ok) ∧ (∃ (s : State) (core : Nat) (e : Issued),
    s.front core 0x52 = some e ∧ fld e.cmd.w1 39 2 = 0 ∧ bitAt e.cmd.w1.toNat 41 = false ∧ s.absent (fld e.cmd.w1 32 7) = false ∧
    s.wardOfCore (fld e.cmd.w1 32 7) ≠ s.wardOfCore core) ∧ (∃ (s : State) (core : Nat) (e : Issued), s.front core 0x60 = some e ∧
    e.cmd.dkind = 0 ∧ s.sendChk core e.cmd = St.ok ∧ (operand e.cmd.w1).space = 0 ∧
    s.csBad core (operand e.cmd.w1).off e.cmd.length = false) ∧ (∃ (s : State) (idx : Nat) (ctr : Nat) (p : MeshPkt), s.clk.on = true ∧
    s.mesh[idx]? = some p ∧ s.takesMesh p.dst = true ∧ p.bad = [] ∧ p.ctr = some ctr ∧ p.src ≠ p.dst) ∧
    (∃ (s : State) (idx : Nat) (p : MeshPkt), s.clk.on = true ∧ s.mesh[idx]? = some p ∧ s.takesMesh p.dst = false) :=
    ⟨⟨{ up with cores := [(3, { strm0 := { queue := [{ cmd := cmdw 0x50, seq := 4 }], nextSeq := 5 } })] }, 3, 0,
    { cmd := cmdw 0x50, seq := 4 }, [], by decide +kernel⟩, ⟨busyWith 3 [iss (cmdw 0x50 (2 ^ 46 + 9 * 2 ^ 40)) (.done 0)], 3,
    iss (cmdw 0x50 (2 ^ 46 + 9 * 2 ^ 40)) (.done 0), 6, by decide +kernel⟩, ⟨busyWith 3 [iss (cmdw 0x50) (.done 5)], 3,
    iss (cmdw 0x50) (.done 5), 6, 5, by decide +kernel⟩, ⟨busyWith 3 [iss (cmdw 0x50)], 3, iss (cmdw 0x50), by decide +kernel⟩,
    ⟨busyWith 3 [iss (cmdw 0x51)], 3, iss (cmdw 0x51), by decide +kernel⟩, ⟨warded [(3, iss (cmdw 0x52 0 (7 + 5 * 2 ^ 16 + 4 * 2 ^ 32)))], 3,
    iss (cmdw 0x52 0 (7 + 5 * 2 ^ 16 + 4 * 2 ^ 32)), by decide +kernel⟩, ⟨warded [(3, iss (cmdw 0x52 0 (7 + 5 * 2 ^ 16 + 40 * 2 ^ 32)))], 3,
    iss (cmdw 0x52 0 (7 + 5 * 2 ^ 16 + 40 * 2 ^ 32)), by decide +kernel⟩, ⟨warded [(3, iss (cmdw 0x60 0 (opw 0 64) (128 + 4 * 2 ^ 22) 32))],
    3, iss (cmdw 0x60 0 (opw 0 64) (128 + 4 * 2 ^ 22) 32), by decide +kernel⟩,
    ⟨{ warded [(3, iss (cmdw 0x60) .flying)] with mesh := [{ src := 3, ord := 5, dst := 4, off := 128, data := [1, 2], bad := [], ctr := some 2, status := 0 }] },
    0, 2, { src := 3, ord := 5, dst := 4, off := 128, data := [1, 2], bad := [], ctr := some 2, status := 0 }, by decide +kernel⟩,
    ⟨{ put (warded [(3, iss (cmdw 0x60) .flying)]) [(R.HALF_CELL_ABSENT 0, F.HALF_CELL_ABSENT_ABSENT, 16)] with mesh := [{ src := 3, ord := 5, dst := 4, off := 128, data := [1, 2], bad := [], ctr := some 2, status := 0 }] },
    0, { src := 3, ord := 5, dst := 4, off := 128, data := [1, 2], bad := [], ctr := some 2, status := 0 }, by decide +kernel⟩⟩

/-- Hypotheses of LinesOfMemoryComplete met. -/
theorem witness_LinesOfMemoryComplete :
    (∃ (s : State) (line : Nat) (f : LineFault), s.clk.on = true ∧ s.owner (line * 64) ≠ 15 ∧ s.stalls .mc = false ∧
    s.mem.waiting.any (fun x => x.who = .mc && x.line = line) = false ∧ s.pcOut line = false ∧
    s.mayGo (homeStack (line * 64)) (s.owner (line * 64)) = true ∧ s.fenced (line * 64) = false ∧
    (s.region (regionKey (line * 64))).st = 0) ∧ (∃ (s : State) (line : Nat), s.clk.on = true ∧ s.owner (line * 64) ≠ 15 ∧
    s.stalls .mc = false ∧ s.mem.waiting.any (fun x => x.who = .mc && x.line = line) = false ∧ s.pcOut line = false ∧
    s.mayGo (homeStack (line * 64)) (s.owner (line * 64)) = true ∧ s.fenced (line * 64) = false ∧ (s.region (regionKey (line * 64))).st = 2 ∧
    s.cline line = none ∧ s.mark line = .ok) ∧ (∃ (s : State) (line : Nat), s.clk.on = true ∧ s.owner (line * 64) ≠ 15 ∧
    s.stalls .mc = false ∧ s.mem.waiting.any (fun x => x.who = .mc && x.line = line) = false ∧ s.pcOut line = false ∧
    s.mayGo (homeStack (line * 64)) (s.owner (line * 64)) = true ∧ s.fenced (line * 64) = false ∧ (s.region (regionKey (line * 64))).st = 2 ∧
    s.cline line = none ∧ s.mark line ≠ .poison) ∧ (∃ (s : State) (line : Nat) (f : LineFault), s.clk.on = true ∧ s.owner (line * 64) ≠ 15 ∧
    s.stalls .mc = false ∧ s.mem.waiting.any (fun x => x.who = .mc && x.line = line) = false ∧ s.pcOut line = false ∧
    s.mayGo (homeStack (line * 64)) (s.owner (line * 64)) = true ∧ s.fenced (line * 64) = false ∧ (s.region (regionKey (line * 64))).st = 2 ∧
    s.cline line = none ∧ s.mark line = .poison) ∧ (∃ (s : State) (line : Nat) (data : List Byte) (f : LineFault), s.clk.on = true ∧
    s.owner (line * 64) ≠ 15 ∧ s.stalls .mc = false ∧ s.mem.waiting.any (fun x => x.who = .mc && x.line = line) = false ∧
    s.pcOut line = false ∧ s.mayGo (homeStack (line * 64)) (s.owner (line * 64)) = true ∧ s.fenced (line * 64) = false ∧
    (s.region (regionKey (line * 64))).st = 2 ∧ s.cline line = none ∧ data.length = 64) ∧
    (∃ (s : State) (line : Nat) (off : Nat) (data : List Byte), s.clk.on = true ∧ s.owner (line * 64) ≠ 15 ∧ s.stalls .mc = false ∧
    s.mem.waiting.any (fun x => x.who = .mc && x.line = line) = false ∧ s.pcOut line = false ∧
    s.mayGo (homeStack (line * 64)) (s.owner (line * 64)) = true ∧ s.fenced (line * 64) = false ∧ (s.region (regionKey (line * 64))).st = 2 ∧
    s.cline line = none ∧ s.mark line = .ok ∧ off + data.length ≤ 64 ∧ 0 < data.length ∧ data.length < 64) ∧
    (∃ (s : State) (line : Nat) (off : Nat) (data : List Byte) (f : LineFault), s.clk.on = true ∧ s.owner (line * 64) ≠ 15 ∧
    s.stalls .mc = false ∧ s.mem.waiting.any (fun x => x.who = .mc && x.line = line) = false ∧ s.pcOut line = false ∧
    s.mayGo (homeStack (line * 64)) (s.owner (line * 64)) = true ∧ s.fenced (line * 64) = false ∧ (s.region (regionKey (line * 64))).st = 2 ∧
    s.cline line = none ∧ s.mark line = .poison ∧ data.length < 64) ∧ (∃ (s : State) (line : Nat) (off : Nat) (op : W64) (operand : List
    Byte) (f : LineFault), s.clk.on = true ∧ s.owner (line * 64) ≠ 15 ∧ s.stalls .mc = false ∧
    s.mem.waiting.any (fun x => x.who = .mc && x.line = line) = false ∧ s.pcOut line = false ∧
    s.mayGo (homeStack (line * 64)) (s.owner (line * 64)) = true ∧ s.fenced (line * 64) = false ∧ s.blk (line / 1024) = none ∧
    msoBad off op operand = true) ∧ (∃ (s : State) (line : Nat) (off : Nat) (op : W64) (operand : List Byte), s.clk.on = true ∧
    s.owner (line * 64) ≠ 15 ∧ s.stalls .mc = false ∧ s.mem.waiting.any (fun x => x.who = .mc && x.line = line) = false ∧
    s.pcOut line = false ∧ s.mayGo (homeStack (line * 64)) (s.owner (line * 64)) = true ∧ s.fenced (line * 64) = false ∧
    s.blk (line / 1024) = none ∧ (s.region (regionKey (line * 64))).st = 2 ∧ s.cline line = none ∧ s.mark line = .ok ∧
    s.mem.cache.length < 1048576 ∧ msoBad off op operand = false) ∧ (∃ (s : State) (who : Requester) (line : Nat) (hint : Nat) (last : Bool)
    (x : Blk), s.clk.on = true ∧ s.lineChk who line = St.ok ∧ s.stalls who = false ∧
    s.mem.waiting.any (fun x => x.who = who && x.line = line) = false ∧ s.fenced (line * 64) = false ∧ s.blk (line / 1024) = some x ∧
    x.st ≠ .filling ∧ s.fmark line = .ok) ∧ (∃ (s : State) (who : Requester) (line : Nat) (hint : Nat) (data : List Byte) (x : Blk),
    s.clk.on = true ∧ s.lineChk who line = St.ok ∧ s.stalls who = false ∧ s.mem.waiting.any (fun x => x.who = who && x.line = line) = false ∧
    s.fenced (line * 64) = false ∧ s.blk (line / 1024) = some x ∧ (x.st = .clean ∨ x.st = .dirty) ∧ data.length = 64 ∧
    s.fmark line ≠ .unset) ∧ (∃ (s : State) (core : Nat) (line : Nat) (acc : LineAccess) (ecc : Ecc), s.clk.on = true ∧ line < 2 ^ 33 ∧
    s.owner (line * 64) ≠ 15 ∧ s.wardOfCore core ≠ some (s.owner (line * 64))) :=
    ⟨⟨{ up with mem := { up.mem with regions := [(0, { owner := 0 })] } }, 5, .good, by decide +kernel⟩, ⟨warded [], 1025,
    by decide +kernel⟩, ⟨warded [], 1025, by decide +kernel⟩, ⟨(warded []).setMark 1025 .poison, 1025, .good, by decide +kernel⟩,
    ⟨(warded []).setMark 1025 .poison, 1025, List.replicate 64 7, .good, by decide +kernel⟩, ⟨warded [], 1025, 62, [1, 2],
    by decide +kernel⟩, ⟨(warded []).setMark 1025 .poison, 1025, 0, [1], .good, by decide +kernel⟩, ⟨warded [], 1025, 2, 0, [1, 0, 0, 0],
    .good, by decide +kernel⟩, ⟨warded [], 1025, 4, 0x12, [1, 0, 0, 0], by decide +kernel⟩, ⟨(warded []).framePut 3 (zeros 63 ++ [7]),
    .core 3, 3, 0, false, { way := 0, st := .clean, ward := 0, cls := 1, tag := 0, dirty := [] }, by decide +kernel⟩,
    ⟨(warded []).framePut 3 (zeros 63 ++ [7]), .core 3, 3, 0, List.replicate 64 7,
    { way := 0, st := .clean, ward := 0, cls := 1, tag := 0, dirty := [] }, by decide +kernel⟩, ⟨warded [], 40, 3, .read 0 false, .ok,
    by decide +kernel⟩⟩

/-- Hypotheses of MemoryControllersComplete met. -/
theorem witness_MemoryControllersComplete :
    (∃ (s : State) (st : Nat) (region : Nat), s.clk.on = true ∧ (s.region (st * 65536 + region)).st = 1 ∧ s.thermLevel st ≠ 3 ∧
    (s.region (st * 65536 + region)).urgent = false ∧ s.urgentBusy st = false ∧ s.mem.waiting = []) ∧ (∃ (s : State) (st : Nat) (r : Nat),
    s.clk.on = true ∧ s.rf (R.MEM_SCRUB_CTRL st) F.MEM_SCRUB_CTRL_BG_CLEAR_EN = 1 ∧ s.clearRate st ≠ 0 ∧ s.thermLevel st ≠ 3 ∧
    s.mem.regions.any (fun e => e.1 / 65536 = st && e.2.st = 1) = false ∧ s.bgRegion st = some r) ∧
    (∃ (s : State) (st : Nat) (pc : Nat) (bank : Nat), s.clk.on = true ∧ (s.stack st).selfRefresh = false) ∧
    (∃ (s : State) (st : Nat) (pc : Nat) (bank : Nat), s.clk.on = true ∧ (s.stack st).selfRefresh = true) ∧ (∃ (s : State) (st : Nat),
    s.clk.on = true) ∧ (∃ (s : State) (st : Nat), s.clk.on = true ∧ st < 8 ∧ s.rf (R.MEM_SCRUB_CTRL st) F.MEM_SCRUB_CTRL_PATROL_EN = 1 ∧
    s.thermLevel st ≠ 3 ∧
    s.patrolLine st (s.rf (R.MEM_SCRUB_STATUS st) F.MEM_SCRUB_STATUS_PATROL_POS) = some (s.rf (R.MEM_SCRUB_STATUS st) F.MEM_SCRUB_STATUS_PATROL_POS)
    ∧ s.rf (R.MEM_SCRUB_STATUS st) F.MEM_SCRUB_STATUS_PATROL_POS + 1 < 2 ^ 30 ∧
    s.mark (stackAddr st (s.rf (R.MEM_SCRUB_STATUS st) F.MEM_SCRUB_STATUS_PATROL_POS * 64) / 64) = .ok) ∧
    (∃ (s : State) (who : Requester) (st : Nat) (pc : Nat), ServedNow s who = true ∧ s.reach who (R.MEM_PC_CTRL st) = St.ok ∧
    s.mem.schedOn = false ∧ (s.stack st).retrain = none ∧ pc < 64) ∧ (∃ (s : State) (who : Requester) (st : Nat) (pc : Nat),
    ServedNow s who = true ∧ s.reach who (R.MEM_PC_CTRL st) = St.ok ∧ s.mem.schedOn = false ∧ (s.stack st).retrain.isSome = true) ∧
    (∃ (s : State) (st : Nat) (pc : Nat), s.clk.on = true ∧ st < 8 ∧ pc < 64 ∧ (s.stack st).retrain = some pc ∧ s.mem.schedOn = false ∧
    s.mem.waiting = []) ∧ (∃ (s : State) (p : Nat), s.clk.on = true ∧ s.rf R.CFG_LIVE_CTRL F.CFG_LIVE_CTRL_RETRAIN_EN = 1 ∧
    s.evt.mcDown = false ∧ (List.range 8).any (fun st => (s.stack st).retrain.isSome) = false ∧
    (s.mem.schedAt = 0 ∨ s.mem.schedAt + 18000000 ≤ s.now) ∧ ((List.range 512).map (fun i => (s.mem.retrainPos + i) % 512)).find? (fun p =>
    s.thermLevel (p / 64) = 0) = some p) ∧ (∃ (s : State) (st : Nat) (first : Nat) (count : Nat), s.reach .mc (R.MEM_REGION_CMD st) = St.ok ∧
    (s.stack st).cmd = none ∧ 0 < count ∧ first + count ≤ 65536 ∧ s.rangeLocked st first count = none ∧ s.rangeFixed st first count = false ∧
    s.mem.waiting = []) ∧ (∃ (s : State) (st : Nat) (first : Nat) (count : Nat), s.reach .mc (R.MEM_REGION_CMD st) = St.ok ∧
    (s.stack st).cmd = none ∧ 0 < count ∧ first + count ≤ 65536 ∧ s.rangeLocked st first count = none) ∧
    (∃ (s : State) (st : Nat) (c : RegionCmd), s.clk.on = true ∧ (s.stack st).cmd = some c ∧
    (regionRange st c.first c.count).any (fun k => ((s.region k).st = 1 && (s.region k).urgent) || (s.stack st).urgentQ.contains (k % 65536))
    = false ∧ c.count < 2 ^ 17) :=
    ⟨⟨{ (warded []) with mem := { (warded []).mem with regions := [(5, { owner := 0, st := 1 })] } }, 0, 5, by decide +kernel⟩,
    ⟨{ put (warded []) [(R.MEM_SCRUB_CTRL 0, F.MEM_SCRUB_CTRL_BG_CLEAR_EN, 1), (R.MEM_SCRUB_CTRL 0, F.MEM_SCRUB_CTRL_CLEAR_RATE, 4)] with mem := { (warded []).mem with regions := [(5, { owner := 0, st := 0 })] } },
    0, 5, by decide +kernel⟩, ⟨up, 7, 3, 1, by decide +kernel⟩, ⟨up.setStack 7 { selfRefresh := true }, 7, 3, 1, by decide +kernel⟩, ⟨up, 3,
    by decide +kernel⟩, ⟨put (warded []) [(R.MEM_SCRUB_CTRL 0, F.MEM_SCRUB_CTRL_PATROL_EN, 1), (R.MEM_SCRUB_STATUS 0,
    F.MEM_SCRUB_STATUS_PATROL_POS, 9)], 0, by decide +kernel⟩, ⟨up, .mc, 3, 63, by decide +kernel⟩, ⟨up.setStack 3 { retrain := some 2 },
    .mc, 3, 63, by decide +kernel⟩, ⟨put (up.setStack 3 { retrain := some 2 }) [(R.MEM_PC_ONLINE 3, F.MEM_PC_ONLINE_ONLINE, 0)], 3, 2,
    by decide +kernel⟩, ⟨put up [(R.CFG_LIVE_CTRL, F.CFG_LIVE_CTRL_RETRAIN_EN, 1)], 0, by decide +kernel⟩,
    ⟨{ (warded []) with mem := { (warded []).mem with regions := [(5, { owner := 0, st := 2 })] } }, 0, 4, 3, by decide +kernel⟩,
    ⟨{ (warded []) with mem := { (warded []).mem with regions := [(5, { owner := 0, st := 2 })] } }, 0, 4, 3, by decide +kernel⟩,
    ⟨up.setStack 3 { cmd := some { op := 0, first := 4, count := 3 } }, 3, { op := 0, first := 4, count := 3 }, by decide +kernel⟩⟩

/-- Hypotheses of BlocksComplete met. -/
theorem witness_BlocksComplete :
    (∃ (s : State) (h : Nat) (w : Nat) (b : Nat) (cls : Nat) (tag : Nat) (way : Nat), s.clk.on = true ∧ s.owner (b * 65536) = w ∧
    b < 2 ^ 23 ∧ cls < 3 ∧ blkHalf b = h ∧ s.fixed b = false ∧ s.fenced (b * 65536) = false ∧ s.blk b = none ∧ s.dueOf b = none ∧
    s.findFrame h w b cls = .free way) ∧ (∃ (s : State) (h : Nat) (w : Nat) (b : Nat) (cls : Nat) (tag : Nat) (x : Blk), s.clk.on = true ∧
    s.owner (b * 65536) = w ∧ b < 2 ^ 23 ∧ cls < 3 ∧ blkHalf b = h ∧ s.fixed b = false ∧ s.fenced (b * 65536) = false ∧ s.blk b = some x ∧
    (x.st = .clean ∨ x.st = .dirty)) ∧ (∃ (s : State) (h : Nat) (w : Nat) (b : Nat) (cls : Nat) (tag : Nat), s.clk.on = true ∧
    (blkHalf b ≠ h ∨ s.fixed b = true)) ∧ (∃ (s : State) (b : Nat) (x : Blk), s.clk.on = true ∧ s.blk b = some x ∧ x.st = .filling ∧
    x.dirty = [] ∧ s.fenced (b * 65536) = false ∧ (s.region (blkRegion b)).st = 2 ∧ s.mem.cache = [] ∧
    s.mem.marks.filter (fun e => e.1 / 1024 = b) = [] ∧ s.mem.waiting = [] ∧ s.mem.finds = [] ∧ s.mem.walkers = []) ∧
    (∃ (s : State) (b : Nat) (i : Nat) (x : Blk), s.clk.on = true ∧ s.blk b = some x ∧ x.st = .drainKeep ∧ x.dirty = [(i, true)] ∧ i < 1024 ∧
    s.fenced (b * 65536) = false ∧ (s.region (blkRegion b)).st = 2 ∧ s.mem.cache = [] ∧ s.fmark (b * 1024 + i) = .ok ∧ s.mem.waiting = [] ∧
    s.mem.walkers = []) ∧ (∃ (s : State) (b : Nat) (x : Blk), s.clk.on = true ∧ s.blk b = some x ∧ x.st = .drainRelease ∧
    s.fenced (b * 65536) = false ∧ (s.region (blkRegion b)).st = 2 ∧ s.mem.waiting = [] ∧ mget none s.mem.due b = none ∧
    s.mem.walkers = []) ∧ (∃ (s : State) (st : Nat) (bank : Nat) (w : WaitAcc), s.clk.on = true ∧ s.slotWinner st bank = some w) ∧
    (∃ (s : State) (st : Nat) (bank : Nat), s.clk.on = true ∧ s.slotWinner st bank = none) :=
    ⟨⟨{ (put (warded []) [(R.TIER_WARD_WAYS 0 0, F.TIER_WARD_WAYS_WAYS, 0xFF)]) with mem := { (warded []).mem with blocks := [] } }, 0, 0, 0,
    1, 7, 0, by decide +kernel⟩, ⟨put (warded []) [(R.TIER_WARD_WAYS 0 0, F.TIER_WARD_WAYS_WAYS, 0xFF)], 0, 0, 0, 2, 7,
    { way := 0, st := .clean, ward := 0, cls := 1, tag := 0, dirty := [] }, by decide +kernel⟩, ⟨put (warded []) [(R.TIER_WARD_WAYS 0 0,
    F.TIER_WARD_WAYS_WAYS, 0xFF)], 1, 0, 0, 2, 7, by decide +kernel⟩,
    ⟨{ (warded []) with mem := { (warded []).mem with blocks := [(0, some { way := 0, st := .filling, ward := 0, cls := 1, tag := 0, dirty := [] })] } },
    0, { way := 0, st := .filling, ward := 0, cls := 1, tag := 0, dirty := [] }, by decide +kernel⟩,
    ⟨{ (warded []) with mem := { (warded []).mem with blocks := [(0, some { way := 0, st := .drainKeep, ward := 0, cls := 1, tag := 0, dirty := [(4, true)] })] } },
    0, 4, { way := 0, st := .drainKeep, ward := 0, cls := 1, tag := 0, dirty := [(4, true)] }, by decide +kernel⟩,
    ⟨{ (warded []) with mem := { (warded []).mem with blocks := [(0, some { way := 0, st := .drainRelease, ward := 0, cls := 1, tag := 0, dirty := [] })] } },
    0, { way := 0, st := .drainRelease, ward := 0, cls := 1, tag := 0, dirty := [] }, by decide +kernel⟩,
    ⟨{ (warded []) with mem := { (warded []).mem with blocks := [], waiting := [{ who := .core 3, line := 3, acc := .read 0 false }] } },
    homeStack 192, bankOf 3, { who := .core 3, line := 3, acc := .read 0 false }, by decide +kernel⟩, ⟨up, 0, 0, by decide +kernel⟩⟩

/-- Hypotheses of WalkersComplete met. -/
theorem witness_WalkersComplete :
    (∃ (s : State) (who : Requester) (h : Nat) (w : Nat) (v : W64), h < 2 ∧ w < 8 ∧ ServedNow s who = true ∧
    s.reach who (R.TIER_WALK_CTRL h w) = St.ok ∧ s.rf (R.TIER_WALK_CTRL h w) F.TIER_WALK_CTRL_ENABLE = 0 ∧
    (((s.plainWrite (R.TIER_WALK_CTRL h w) (setFld v 0 1 1) 0 64).setReg (R.TIER_WALK_STATUS h w) 0).setWalker h w {}).foreignEngine h
    ((s.plainWrite (R.TIER_WALK_CTRL h w) (setFld v 0 1 1) 0 64).walkCtl h w F.TIER_WALK_CTRL_LC_ENGINE) w = false ∧
    s.rf (R.TIER_WALK_LEN h w) F.TIER_WALK_LEN_ENTRIES ≠ 0) ∧ (∃ (s : State) (who : Requester) (h : Nat) (w : Nat), h < 2 ∧ w < 8 ∧
    ServedNow s who = true ∧ s.reach who (R.TIER_WALK_CTRL h w) = St.ok) ∧ (∃ (s : State) (who : Requester) (h : Nat) (w : Nat), h < 2 ∧
    w < 8 ∧ ServedNow s who = true ∧ s.reach who (R.TIER_WALK_CTRL h w) = St.ok ∧ s.walkSt h w F.TIER_WALK_STATUS_STOPPED = 1 ∧
    s.rf (R.TIER_WALK_CTRL h w) F.TIER_WALK_CTRL_ENABLE = 1 ∧ s.walkForeign h w = false) ∧ (∃ (s : State) (h : Nat) (w : Nat) (r : State ×
    W64 × W64 × Nat), s.clk.on = true ∧ s.walkSt h w F.TIER_WALK_STATUS_RUNNING = 1 ∧ (s.walker h w).active = false ∧ s.readEntry h w = r ∧
    r.2.2.2 = St.ok ∧ r.1.layerReached h w (fld r.2.1 48 16) = false) ∧ (∃ (s : State) (h : Nat) (w : Nat) (st : Nat) (r : State × W64 × W64
    × Nat), s.clk.on = true ∧ h < 2 ∧ w < 8 ∧ s.walkSt h w F.TIER_WALK_STATUS_RUNNING = 1 ∧ (s.walker h w).active = false ∧
    s.readEntry h w = r ∧ r.2.2.2 = St.ok ∧ r.1.layerReached h w (fld r.2.1 48 16) = true ∧
    worst (chk (fld r.2.2.1 32 4 ≠ 1) St.bounds) (r.1.objectChk (fld r.2.2.1 24 2) (fld r.2.2.1 26 2) (fld r.2.1 0 48) (fld r.2.2.1 0 23) w)
    = st ∧ st ≠ St.ok ∧ st < 16) ∧ (∃ (s : State) (h : Nat) (w : Nat) (r : State × W64 × W64 × Nat), s.clk.on = true ∧
    s.walkSt h w F.TIER_WALK_STATUS_RUNNING = 1 ∧ (s.walker h w).active = false ∧ s.readEntry h w = r ∧ r.2.2.2 = St.ok ∧
    r.1.layerReached h w (fld r.2.1 48 16) = true ∧ fld r.2.2.1 32 4 = 1 ∧
    r.1.objectChk (fld r.2.2.1 24 2) (fld r.2.2.1 26 2) (fld r.2.1 0 48) (fld r.2.2.1 0 23) w = St.ok) ∧ (∃ (s : State) (h : Nat) (w : Nat),
    s.clk.on = true ∧ s.walkSt h w F.TIER_WALK_STATUS_RUNNING = 1 ∧ (s.walker h w).active = true ∧
    s.walkSt h w F.TIER_WALK_STATUS_WAITING = 1) ∧ (∃ (s : State) (h : Nat) (w : Nat), s.clk.on = true ∧ h < 2 ∧ w < 8 ∧
    s.walkSt h w F.TIER_WALK_STATUS_RUNNING = 1 ∧ (s.walker h w).active = true ∧
    (s.walker h w).next = (s.walker h w).first + (s.walker h w).count ∧ s.moving h (s.walker h w).first (s.walker h w).count = false ∧
    s.walkCtl h w F.TIER_WALK_CTRL_SIG_EN = 0 ∧
    s.walkSt h w F.TIER_WALK_STATUS_POS + 1 < s.rf (R.TIER_WALK_LEN h w) F.TIER_WALK_LEN_ENTRIES) ∧
    (∃ (s : State) (who : Requester) (h : Nat) (count : Nat) (cls : Nat) (w : Nat), h < 2 ∧ ServedNow s who = true ∧
    s.reach who (R.TIER_OP_CTRL h) = St.ok ∧ mget none s.mem.ops h = none ∧
    s.objectChk 0 cls (s.rf (R.TIER_OP_ADDR h) F.TIER_OP_ADDR_ADDR) count w = St.ok) ∧
    (∃ (s : State) (who : Requester) (h : Nat) (count : Nat) (w : Nat), h < 2 ∧ ServedNow s who = true ∧
    s.reach who (R.TIER_OP_CTRL h) = St.ok ∧ mget none s.mem.ops h = none ∧
    s.objectChk 1 0 (s.rf (R.TIER_OP_ADDR h) F.TIER_OP_ADDR_ADDR) count w = St.ok) ∧ (∃ (s : State) (who : Requester) (h : Nat) (count : Nat)
    (w : Nat), h < 2 ∧ ServedNow s who = true ∧ s.reach who (R.TIER_OP_CTRL h) = St.ok ∧ mget none s.mem.ops h = none ∧
    s.objectChk 2 0 (s.rf (R.TIER_OP_ADDR h) F.TIER_OP_ADDR_ADDR) count w = St.ok) ∧ (∃ (s : State) (who : Requester) (h : Nat) (count : Nat)
    (w : Nat), h < 2 ∧ ServedNow s who = true ∧ s.reach who (R.TIER_OP_CTRL h) = St.ok ∧ mget none s.mem.ops h = none ∧ count = 0) ∧
    (∃ (s : State) (h : Nat) (o : TierOp), s.clk.on = true ∧ mget none s.mem.ops h = some o ∧ s.moving h o.first o.count = false) :=
    ⟨⟨put (warded []) [(R.TIER_WALK_LEN 0 0, F.TIER_WALK_LEN_ENTRIES, 2)], .mc, 0, 0, 1, by decide +kernel⟩,
    ⟨put (warded []) [(R.TIER_WALK_STATUS 0 0, F.TIER_WALK_STATUS_RUNNING, 1), (R.TIER_WALK_CTRL 0 0, F.TIER_WALK_CTRL_ENABLE, 1),
    (R.TIER_WALK_LEN 0 0, F.TIER_WALK_LEN_ENTRIES, 2)], .mc, 0, 0, by decide +kernel⟩, ⟨put (put (warded []) [(R.TIER_WALK_STATUS 0 0,
    F.TIER_WALK_STATUS_RUNNING, 1), (R.TIER_WALK_CTRL 0 0, F.TIER_WALK_CTRL_ENABLE, 1), (R.TIER_WALK_LEN 0 0, F.TIER_WALK_LEN_ENTRIES,
    2)]) [(R.TIER_WALK_STATUS 0 0, F.TIER_WALK_STATUS_STOPPED, 1)], .mc, 0, 0, by decide +kernel⟩,
    ⟨((put (warded []) [(R.TIER_WALK_STATUS 0 0, F.TIER_WALK_STATUS_RUNNING, 1), (R.TIER_WALK_CTRL 0 0, F.TIER_WALK_CTRL_ENABLE, 1),
    (R.TIER_WALK_LEN 0 0, F.TIER_WALK_LEN_ENTRIES, 2)]).uWrite 0 0 (leBytes 8 (9 * 2 ^ 48))).1, 0, 0,
    (((put (warded []) [(R.TIER_WALK_STATUS 0 0, F.TIER_WALK_STATUS_RUNNING, 1), (R.TIER_WALK_CTRL 0 0, F.TIER_WALK_CTRL_ENABLE, 1),
    (R.TIER_WALK_LEN 0 0, F.TIER_WALK_LEN_ENTRIES, 2)]).uWrite 0 0 (leBytes 8 (9 * 2 ^ 48))).1).readEntry 0 0, by decide +kernel⟩,
    ⟨((put (warded []) [(R.TIER_WALK_STATUS 0 0, F.TIER_WALK_STATUS_RUNNING, 1), (R.TIER_WALK_CTRL 0 0, F.TIER_WALK_CTRL_ENABLE, 1),
    (R.TIER_WALK_LEN 0 0, F.TIER_WALK_LEN_ENTRIES, 2)]).uWrite 0 0 (leBytes 8 0)).1, 0, 0, 5, (((put (warded []) [(R.TIER_WALK_STATUS 0 0,
    F.TIER_WALK_STATUS_RUNNING, 1), (R.TIER_WALK_CTRL 0 0, F.TIER_WALK_CTRL_ENABLE, 1), (R.TIER_WALK_LEN 0 0, F.TIER_WALK_LEN_ENTRIES,
    2)]).uWrite 0 0 (leBytes 8 0)).1).readEntry 0 0, by decide +kernel⟩, ⟨((put (warded []) [(R.TIER_WALK_STATUS 0 0,
    F.TIER_WALK_STATUS_RUNNING, 1), (R.TIER_WALK_CTRL 0 0, F.TIER_WALK_CTRL_ENABLE, 1), (R.TIER_WALK_LEN 0 0, F.TIER_WALK_LEN_ENTRIES,
    2)]).uWrite 0 0 (leBytes 8 65536 ++ leBytes 8 (1 + 2 ^ 24 + 2 ^ 32))).1, 0, 0, (((put (warded []) [(R.TIER_WALK_STATUS 0 0,
    F.TIER_WALK_STATUS_RUNNING, 1), (R.TIER_WALK_CTRL 0 0, F.TIER_WALK_CTRL_ENABLE, 1), (R.TIER_WALK_LEN 0 0, F.TIER_WALK_LEN_ENTRIES,
    2)]).uWrite 0 0 (leBytes 8 65536 ++ leBytes 8 (1 + 2 ^ 24 + 2 ^ 32))).1).readEntry 0 0, by decide +kernel⟩,
    ⟨((put (warded []) [(R.TIER_WALK_STATUS 0 0, F.TIER_WALK_STATUS_RUNNING, 1), (R.TIER_WALK_CTRL 0 0, F.TIER_WALK_CTRL_ENABLE, 1),
    (R.TIER_WALK_LEN 0 0, F.TIER_WALK_LEN_ENTRIES,
    2)]).setWalker 0 0 { active := true, next := 0, entry := { w0 := 0, w1 := 1 } }).setWalkSt 0 0 F.TIER_WALK_STATUS_WAITING 1, 0, 0,
    by decide +kernel⟩, ⟨(put (warded []) [(R.TIER_WALK_STATUS 0 0, F.TIER_WALK_STATUS_RUNNING, 1), (R.TIER_WALK_CTRL 0 0,
    F.TIER_WALK_CTRL_ENABLE, 1), (R.TIER_WALK_LEN 0 0, F.TIER_WALK_LEN_ENTRIES,
    2)]).setWalker 0 0 { active := true, next := 1, entry := { w0 := 0, w1 := 1 } }, 0, 0, by decide +kernel⟩,
    ⟨put (warded []) [(R.TIER_WARD_WAYS 0 0, F.TIER_WARD_WAYS_WAYS, 0xFF)], .mc, 0, 1, 1, 0, by decide +kernel⟩,
    ⟨put (warded []) [(R.TIER_WARD_WAYS 0 0, F.TIER_WARD_WAYS_WAYS, 0xFF)], .mc, 0, 1, 0, by decide +kernel⟩,
    ⟨put (warded []) [(R.TIER_WARD_WAYS 0 0, F.TIER_WARD_WAYS_WAYS, 0xFF)], .mc, 0, 1, 0, by decide +kernel⟩,
    ⟨put (warded []) [(R.TIER_WARD_WAYS 0 0, F.TIER_WARD_WAYS_WAYS, 0xFF)], .mc, 0, 0, 0, by decide +kernel⟩,
    ⟨{ up with mem := { up.mem with ops := [(0, some { op := 1, first := 3, count := 2 })] } }, 0, { op := 1, first := 3, count := 2 },
    by decide +kernel⟩⟩

/-- Hypotheses of ContextsAndRegionsComplete met. -/
theorem witness_ContextsAndRegionsComplete :
    (∃ (s : State) (who : Requester) (q : Nat) (v : Nat) (c : Ctx), ServedNow s who = true ∧ s.reach who (R.XPORT_DOORBELL) = St.ok ∧
    s.ctxCached q = some c ∧ c.enable = true ∧ c.typ = 0) ∧ (∃ (s : State) (who : Requester) (q : Nat) (v : Nat) (c : Ctx),
    ServedNow s who = true ∧ s.reach who (R.XPORT_CQ_DOORBELL) = St.ok ∧ s.ctxCached q = some c ∧ c.enable = true ∧ c.typ = 0) ∧
    (∃ (s : State) (who : Requester) (q : Nat) (v : Nat) (c : Ctx), ServedNow s who = true ∧ s.reach who (R.XPORT_DOORBELL) = St.ok ∧
    s.ctxCached q = some c ∧ (c.enable = false ∨ c.typ ≠ 0)) ∧ (∃ (s : State) (who : Requester) (q : Nat) (c : Ctx), ServedNow s who = true ∧
    s.reach who (R.XPORT_CTX_CMD) = St.ok ∧ s.ctxCached q = some c) ∧ (∃ (s : State) (who : Requester) (q : Nat) (old : Ctx) (new : Ctx),
    ServedNow s who = true ∧ s.reach who R.XPORT_CTX_CMD = St.ok ∧ s.ctxCached q = some old ∧ s.ctxData = new ∧
    s.ctxWriteChk q old new = St.ok ∧ (lockable who && (match s.wardOfQueue q with | some w => s.locked w | none => false)) = false) ∧
    (∃ (s : State) (who : Requester) (q : Nat) (old : Ctx) (new : Ctx), ServedNow s who = true ∧ s.reach who R.XPORT_CTX_CMD = St.ok ∧
    s.ctxCached q = some old ∧ s.ctxData = new ∧ s.ctxWriteChk q old new ≠ St.ok ∧ s.ctxWriteChk q old new < 256 ∧
    (lockable who && (match s.wardOfQueue q with | some w => s.locked w | none => false)) = false) ∧
    (∃ (s : State) (w : Nat) (a : Nat) (n : Nat) (i : Nat), spaceOfRange a n = .unified ∧ 0 < n ∧ n ≤ 2 ^ 39 ∧ i ≤ (a + n - 1) / 2 ^ 25 - a /
    2 ^ 25 ∧ s.sliceOwner (a / 2 ^ 25 + i) ≠ w) ∧ (∃ (s : State) (who : Requester) (w : Nat) (i : Nat) (pw : Bool) (pr : Bool) (pa : Bool),
    ServedNow s who = true ∧ s.reach who R.XPORT_REG_CTRL = St.ok ∧ (lockable who && s.locked w) = false ∧ s.xport.regBusy = none ∧
    s.wardState w = 1 ∧ s.regionChkReg w (s.rf R.XPORT_REG_ADDR F.XPORT_REG_ADDR_ADDR) (s.rf R.XPORT_REG_LEN F.XPORT_REG_LEN_LEN) = St.ok ∧
    s.freeRegion = some i ∧ s.rf R.SEC_STATUS F.SEC_STATUS_RNG_OK = 1) ∧ (∃ (s : State) (i : Nat) (r : XRegion), s.clk.on = true ∧
    s.xport.regBusy = some i ∧ s.xregion i = some r ∧ r.phase = 0 ∧ s.rangeMoving r.base r.len = false ∧ i < 65536 ∧
    mget 0 s.xport.gens i < 65536 ∧ r.access < 2 ^ 32) ∧ (∃ (s : State) (who : Requester) (w : Nat) (r : XRegion), ServedNow s who = true ∧
    s.reach who (R.XPORT_REG_CTRL) = St.ok ∧ s.xport.regBusy = none ∧
    s.xregion (s.rf R.XPORT_REG_KEY F.XPORT_REG_KEY_REGION_KEY % 65536) = some r ∧
    mget 0 s.xport.gens (s.rf R.XPORT_REG_KEY F.XPORT_REG_KEY_REGION_KEY % 65536) = s.rf R.XPORT_REG_KEY F.XPORT_REG_KEY_REGION_KEY / 65536 ∧
    r.ward = w) ∧ (∃ (s : State) (i : Nat) (r : XRegion), s.clk.on = true ∧ s.xport.regBusy = some i ∧ s.xregion i = some r ∧ r.phase ≠ 0) :=
    ⟨⟨xp (wctx 0), .mc, 0, 3, wctx 0, by decide +kernel⟩, ⟨xp (wctx 0), .mc, 0, 3, wctx 0, by decide +kernel⟩, ⟨xp (wctx 1), .mc, 0, 3,
    wctx 1, by decide +kernel⟩, ⟨xp (wctx 1), .mc, 0, wctx 1, by decide +kernel⟩, ⟨put (xp {}) [(R.XPORT_CTX_DATA 0, ⟨0, 64⟩, 1)], .mc, 0,
    {}, { w0 := 1 }, by decide +kernel⟩, ⟨put (xp (wctx 1)) [(R.XPORT_CTX_DATA 0, ⟨0, 64⟩, 1)], .mc, 0, wctx 1, { w0 := 1 },
    by decide +kernel⟩, ⟨up, 0, 0, 4096, 0, by decide +kernel⟩, ⟨put (xp (wctx 1)) [(R.SEC_STATUS, F.SEC_STATUS_RNG_OK, 1), (R.XPORT_REG_LEN,
    F.XPORT_REG_LEN_LEN, 4096)], .mc, 0, 0, true, true, false, by decide +kernel⟩,
    ⟨{ xp (wctx 1) with xport := { (xp (wctx 1)).xport with regBusy := some 0, gens := [(0, 1)], regions := [(0, some (wregion 0))] } }, 0,
    wregion 0, by decide +kernel⟩,
    ⟨put ({ xp (wctx 1) with xport := { (xp (wctx 1)).xport with gens := [(0, 1)], regions := [(0, some (wregion 1))] } }) [(R.XPORT_REG_KEY,
    F.XPORT_REG_KEY_REGION_KEY, 65536)], .mc, 0, wregion 1, by decide +kernel⟩,
    ⟨{ xp (wctx 1) with xport := { (xp (wctx 1)).xport with regBusy := some 0, gens := [(0, 1)], regions := [(0, some (wregion 2))] } }, 0,
    wregion 2, by decide +kernel⟩⟩

/-- Hypotheses of DescriptorsComplete met. -/
theorem witness_DescriptorsComplete :
    (∃ (s : State) (q : Nat) (d : Desc) (s0 : State) (s1 : State), s.clk.on = true ∧ (s.ctxLoad q).1 = s0 ∧ s0.descReady q = true ∧
    s0.descNext q = (s1, d, St.ok) ∧ d.bad = false ∧ d.op = 1 ∧ (s1.descTaken q).localBad q d.loc d.len = false) ∧
    (∃ (s : State) (q : Nat) (d : Desc) (s0 : State) (s1 : State), s.clk.on = true ∧ (s.ctxLoad q).1 = s0 ∧ s0.descReady q = true ∧
    s0.descNext q = (s1, d, St.ok) ∧ d.bad = false ∧ d.op = 2 ∧ (s1.descTaken q).localBad q d.loc d.len = false) ∧
    (∃ (s : State) (q : Nat) (d : Desc) (s0 : State) (s1 : State), s.clk.on = true ∧ (s.ctxLoad q).1 = s0 ∧ s0.descReady q = true ∧
    s0.descNext q = (s1, d, St.ok) ∧ d.bad = false ∧ d.op = 3 ∧ (s1.descTaken q).localBad q d.loc d.len = false) ∧
    (∃ (s : State) (q : Nat) (d : Desc) (s0 : State) (s1 : State), s.clk.on = true ∧ (s.ctxLoad q).1 = s0 ∧ s0.descReady q = true ∧
    s0.descNext q = (s1, d, St.ok) ∧ d.bad = false ∧ d.op = 4 ∧ (s1.descTaken q).localBad q d.loc d.len = false ∧
    (fetchBytes d.w6 = 0 ∨ (s1.descTaken q).localBad q (d.loc + 64) (fetchBytes d.w6) = false)) ∧
    (∃ (s : State) (q : Nat) (d : Desc) (s0 : State) (s1 : State), s.clk.on = true ∧ (s.ctxLoad q).1 = s0 ∧ s0.descReady q = true ∧
    s0.descNext q = (s1, d, St.ok) ∧ d.bad = false ∧ d.op = 5 ∧ (s1.descTaken q).localBad q d.loc d.len = false) ∧
    (∃ (s : State) (q : Nat) (d : Desc) (s0 : State) (s1 : State), s.clk.on = true ∧ (s.ctxLoad q).1 = s0 ∧ s0.descReady q = true ∧
    s0.descNext q = (s1, d, St.ok) ∧ d.bad = true) ∧ (∃ (s : State) (q : Nat) (c : Ctx), s.clk.on = true ∧ s.ctxCached q = some c ∧
    c.prod = c.cons) ∧ (∃ (s : State) (q : Nat) (c : Ctx) (e : CqE) (rest : List CqE), s.clk.on = true ∧ s.ctxCached q = some c ∧
    mget [] s.xport.cqWait q = e :: rest ∧ e.cq = true ∧ e.sig = false ∧ e.ack = none ∧ c.cqFull = false) ∧
    (∃ (s : State) (core : Nat) (e : Issued) (s1 : State), s.front core 0x60 = some e ∧ e.cmd.dkind = 1 ∧ s.aborting core = false ∧
    s.queueChk core (fld e.cmd.w2 36 20) = (s1, St.ok) ∧ e.cmd.length % 16 = 0 ∧ s.moveChk core [0,
    2] (operand e.cmd.w1) 1 e.cmd.length e.cmd.length = St.ok ∧ (operand e.cmd.w1).space = 2) ∧
    (∃ (s : State) (core : Nat) (e : Issued) (s1 : State), s.front core 0x61 = some e ∧ s.aborting core = false ∧
    s.queueChk core (fld e.cmd.w2 0 20) = (s1, St.ok) ∧ fld e.cmd.w2 20 22 % 8 = 0 ∧ fld e.cmd.w2 20 22 + 8 ≤ storeSize core ∧
    s.moveChk core [0, 2] (operand e.cmd.w1) 1 (fld e.cmd.w3 0 32) (fld e.cmd.w3 0 32) = St.ok) ∧
    (∃ (s : State) (core : Nat) (e : Issued) (b : RecvBuf), s.clk.on = true ∧
    (s.core core).issued.find? (fun x => x.cmd.opcode = 0x61 && x.phase = .held && fld x.cmd.w3 32 16 ≠ 0 && (mget [] s.xport.posted (fld
    x.cmd.w2 0 20)).any (fun c => c.origin = .cmd core x.ord)) = some e ∧ (s.core core).issued.find? (fun x => x.ord = e.ord) = some e ∧
    (mget [] s.xport.posted (fld e.cmd.w2 0 20)).find? (fun c => c.origin = .cmd core e.ord) = some b ∧ b.origin = .cmd core e.ord ∧
    s.aborting core = false ∧ (s.ctxCached (fld e.cmd.w2 0 20)).any (fun c => !bitAt c.w7.toNat 6) = true) :=
    ⟨⟨onRing (1 + 256 + 7 * 2 ^ 32) 16, 0, (((onRing (1 + 256 + 7 * 2 ^ 32) 16).ctxLoad 0 |>.1).descNext 0).2.1,
    ((onRing (1 + 256 + 7 * 2 ^ 32) 16).ctxLoad 0 |>.1), (((onRing (1 + 256 + 7 * 2 ^ 32) 16).ctxLoad 0 |>.1).descNext 0).1,
    by decide +kernel⟩, ⟨onRing (2 + 256 + 7 * 2 ^ 32) 16, 0, (((onRing (2 + 256 + 7 * 2 ^ 32) 16).ctxLoad 0 |>.1).descNext 0).2.1,
    ((onRing (2 + 256 + 7 * 2 ^ 32) 16).ctxLoad 0 |>.1), (((onRing (2 + 256 + 7 * 2 ^ 32) 16).ctxLoad 0 |>.1).descNext 0).1,
    by decide +kernel⟩, ⟨onRing (3 + 256 + 7 * 2 ^ 32) 16, 0, (((onRing (3 + 256 + 7 * 2 ^ 32) 16).ctxLoad 0 |>.1).descNext 0).2.1,
    ((onRing (3 + 256 + 7 * 2 ^ 32) 16).ctxLoad 0 |>.1), (((onRing (3 + 256 + 7 * 2 ^ 32) 16).ctxLoad 0 |>.1).descNext 0).1,
    by decide +kernel⟩, ⟨onRing (4 + 256 + 7 * 2 ^ 32) 16, 0, (((onRing (4 + 256 + 7 * 2 ^ 32) 16).ctxLoad 0 |>.1).descNext 0).2.1,
    ((onRing (4 + 256 + 7 * 2 ^ 32) 16).ctxLoad 0 |>.1), (((onRing (4 + 256 + 7 * 2 ^ 32) 16).ctxLoad 0 |>.1).descNext 0).1,
    by decide +kernel⟩, ⟨onRing (5 + 256 + 7 * 2 ^ 32) 16, 0, (((onRing (5 + 256 + 7 * 2 ^ 32) 16).ctxLoad 0 |>.1).descNext 0).2.1,
    ((onRing (5 + 256 + 7 * 2 ^ 32) 16).ctxLoad 0 |>.1), (((onRing (5 + 256 + 7 * 2 ^ 32) 16).ctxLoad 0 |>.1).descNext 0).1,
    by decide +kernel⟩, ⟨onRing (9 + 256 + 7 * 2 ^ 32) 16, 0, (((onRing (9 + 256 + 7 * 2 ^ 32) 16).ctxLoad 0 |>.1).descNext 0).2.1,
    ((onRing (9 + 256 + 7 * 2 ^ 32) 16).ctxLoad 0 |>.1), (((onRing (9 + 256 + 7 * 2 ^ 32) 16).ctxLoad 0 |>.1).descNext 0).1,
    by decide +kernel⟩, ⟨xp (wctx 0), 0, wctx 0, by decide +kernel⟩,
    ⟨{ xp (wctx 0) with xport := { (xp (wctx 0)).xport with cqWait := [(0, [{ status := 0, op := 1, tag := 7, bytes := 16, src := 0, cq := true, sig := false }])] } },
    0, wctx 0, { status := 0, op := 1, tag := 7, bytes := 16, src := 0, cq := true, sig := false }, [], by decide +kernel⟩, ⟨xp (wctx 1) [(3,
    iss (cmdw 0x60 0 (opw 2 0) (2 ^ 56) 16))], 3, iss (cmdw 0x60 0 (opw 2 0) (2 ^ 56) 16), ((xp (wctx 1) [(3,
    iss (cmdw 0x60 0 (opw 2 0) (2 ^ 56) 16))]).queueChk 3 0).1, by decide +kernel⟩, ⟨xp (wctx 1) [(3,
    iss (cmdw 0x61 0 (opw 2 0) (64 * 2 ^ 20) 16))], 3, iss (cmdw 0x61 0 (opw 2 0) (64 * 2 ^ 20) 16), ((xp (wctx 1) [(3,
    iss (cmdw 0x61 0 (opw 2 0) (64 * 2 ^ 20) 16))]).queueChk 3 0).1, by decide +kernel⟩,
    ⟨{ xp (wctx 1) [(3, iss (cmdw 0x61 0 (opw 2 0) (64 * 2 ^ 20) (16 + 2 ^ 32)) .held)] with xport := { (xp (wctx 1) [(3, iss (cmdw 0x61 0 (opw 2 0) (64 * 2 ^ 20) (16 + 2 ^ 32)) .held)]).xport with posted := [(0, [recvBuf 3 5 0 (operand 0) 16])] } },
    3, iss (cmdw 0x61 0 (opw 2 0) (64 * 2 ^ 20) (16 + 2 ^ 32)) .held, recvBuf 3 5 0 (operand 0) 16, by decide +kernel⟩⟩

/-- Hypotheses of ReceivedPacketsComplete met. -/
theorem witness_ReceivedPacketsComplete :
    (∃ (s : State) (s1 : State) (rx : RxInfo) (pkt : Packet), s.clk.on = true ∧ pkt.typ = 0 ∧ s.rxGate rx pkt true = (s1, false)) ∧
    (∃ (s : State) (s1 : State) (rx : RxInfo) (pkt : Packet), s.clk.on = true ∧ pkt.typ = 0 ∧ s.rxGate rx pkt true = (s1, true) ∧
    s1.collDrops pkt = false ∧ s1.asleep = false ∧ pkt.coll = false ∧ pkt.msgLen ≤ s1.maxMsg ∧ pkt.last = false ∧
    s1.regionByKey pkt.regionKey pkt.accessKey = none) ∧ (∃ (s : State) (s1 : State) (rx : RxInfo) (pkt : Packet) (r : XRegion) (x : State ×
    Nat), s.clk.on = true ∧ pkt.typ = 0 ∧ s.rxGate rx pkt true = (s1, true) ∧ s1.collDrops pkt = false ∧ s1.asleep = false ∧
    pkt.coll = false ∧ pkt.msgLen ≤ s1.maxMsg ∧ pkt.last = false ∧ pkt.xmit = 0 ∧
    s1.regionChk rx pkt (·.permWrite) (fun _ => decide (pkt.msgLen < pkt.pktIndex * s1.psize + pkt.payload.length)) pkt.offset pkt.msgLen =
    (St.ok, some r) ∧ (s1.chargeRx rx.port r.ward pkt.payload.length).devWrite (r.base + pkt.offset + pkt.pktIndex * s1.psize) 0 pkt.payload
    = x ∧ x.2 = St.ok ∧ s1.xport.coal.find? (fun e => e.1 = msgKey pkt.srcDev pkt.msgId) = none) ∧
    (∃ (s : State) (s1 : State) (rx : RxInfo) (pkt : Packet) (r : XRegion) (x : State × Nat), s.clk.on = true ∧ pkt.typ = 1 ∧
    s.rxGate rx pkt true = (s1, true) ∧ s1.collDrops pkt = false ∧ s1.asleep = false ∧ pkt.coll = false ∧ pkt.msgLen ≤ s1.maxMsg ∧
    s1.regionChk rx pkt (·.permRead) (fun _ => false) (pkt.offset + pkt.pktIndex * s1.psize) pkt.msgLen = (St.ok, some r) ∧
    (s1.chargeRx rx.port r.ward 0).readOut rx pkt r.ward (r.base + (pkt.offset + pkt.pktIndex * s1.psize)) = x ∧ x.2 = St.ok) ∧
    (∃ (s : State) (s1 : State) (rx : RxInfo) (pkt : Packet) (a : Packet) (w : Nat), s.clk.on = true ∧ pkt.typ = 4 ∧
    s.rxGate rx pkt true = (s1, true) ∧ s1.collDrops pkt = false ∧ s1.asleep = false ∧ pkt.coll = false ∧
    s1.xport.filter.find? (fun e => e.1 = msgKey pkt.srcDev pkt.msgId) = some (msgKey pkt.srcDev pkt.msgId, some (a, w))) ∧
    (∃ (s : State) (s1 : State) (rx : RxInfo) (pkt : Packet), s.clk.on = true ∧ pkt.typ = 4 ∧ s.rxGate rx pkt true = (s1, true) ∧
    s1.collDrops pkt = false ∧ s1.asleep = false ∧ pkt.coll = false ∧ pkt.msgLen ≤ s1.maxMsg ∧
    s1.xport.filter.find? (fun e => e.1 = msgKey pkt.srcDev pkt.msgId) = none ∧ s1.xport.filter.length < 65536 ∧
    s1.regionByKey pkt.regionKey pkt.accessKey = none) ∧ (∃ (s : State) (s1 : State) (rx : RxInfo) (pkt : Packet) (r : XRegion) (x : State ×
    List Byte × Nat), s.clk.on = true ∧ pkt.typ = 4 ∧ s.rxGate rx pkt true = (s1, true) ∧ s1.collDrops pkt = false ∧ s1.asleep = false ∧
    pkt.coll = false ∧ s1.xport.filter.find? (fun e => e.1 = msgKey pkt.srcDev pkt.msgId) = none ∧ s1.xport.filter.length < 65536 ∧
    pkt.msgLen ≤ s1.maxMsg ∧
    s1.regionChk rx pkt (·.permAtomic) (atomicBad pkt (BitVec.ofNat 64 (leNat (pkt.payload.take 8))) (pkt.payload.drop 8)) pkt.offset
    pkt.msgLen = (St.ok, some r) ∧
    ((s1.modX (fun y => { y with filter := y.filter ++ [(msgKey pkt.srcDev pkt.msgId, none)] })).chargeRx rx.port r.ward
    pkt.payload.length).uAtomic (r.base + pkt.offset) (BitVec.ofNat 64 (leNat (pkt.payload.take 8))) (pkt.payload.drop 8) = x ∧
    x.2.2 = St.ok) ∧ (∃ (s : State) (s1 : State) (rx : RxInfo) (pkt : Packet) (c : Ctx), s.clk.on = true ∧ pkt.typ = 3 ∧
    s.rxGate rx pkt true = (s1, true) ∧ s1.collDrops pkt = false ∧ s1.asleep = false ∧ pkt.coll = false ∧ pkt.msgLen ≤ s1.maxMsg ∧
    pkt.last = false ∧ s1.ctxCached pkt.dstQueue = some c ∧ s1.wardTakes c.ward rx pkt = true ∧
    s1.xport.asm.find? (fun e => e.1 = msgKey pkt.srcDev pkt.msgId) = none ∧ mget [] s1.xport.posted pkt.dstQueue = []) ∧
    (∃ (s : State) (s1 : State) (rx : RxInfo) (pkt : Packet) (c : Ctx) (b : RecvBuf) (k : Nat) (rest : List RecvBuf), s.clk.on = true ∧
    pkt.typ = 3 ∧ s.rxGate rx pkt true = (s1, true) ∧ s1.collDrops pkt = false ∧ s1.asleep = false ∧ pkt.coll = false ∧
    pkt.msgLen ≤ s1.maxMsg ∧ pkt.last = false ∧ s1.ctxCached pkt.dstQueue = some c ∧ s1.wardTakes c.ward rx pkt = true ∧
    s1.xport.asm.find? (fun e => e.1 = msgKey pkt.srcDev pkt.msgId) = none ∧ mget [] s1.xport.posted pkt.dstQueue = b :: rest ∧
    s1.xport.asm.length < 4096 ∧ b.core = some k ∧ pkt.pktIndex * s1.psize + pkt.payload.length ≤ b.cap ∧ pkt.msgLen ≤ b.cap) ∧
    (∃ (s : State) (s1 : State) (rx : RxInfo) (pkt : Packet) (m : Msg), s.clk.on = true ∧ pkt.typ = 5 ∧ s.rxGate rx pkt true = (s1, true) ∧
    s1.answered rx pkt = some m ∧ m.kind ≠ 1 ∧ m.kind ≠ 4 ∧ m.coll = none ∧ pkt.msgLen = 1 ∧ pkt.pktIndex + 1 = m.npkts ∧
    (m.pkt pkt.pktIndex).acked = none ∧ (m.pkt pkt.pktIndex).copies ≠ []) ∧ (∃ (s : State) (s1 : State) (rx : RxInfo) (pkt : Packet),
    s.clk.on = true ∧ pkt.typ = 5 ∧ s.rxGate rx pkt true = (s1, true) ∧ s1.answered rx pkt = none) ∧
    (∃ (s : State) (s1 : State) (rx : RxInfo) (pkt : Packet) (m : Msg), s.clk.on = true ∧ pkt.typ = 6 ∧ s.rxGate rx pkt true = (s1, true) ∧
    s1.answered rx pkt = some m ∧ s1.msg m.id = some m ∧ m.kind ≠ 1 ∧ pkt.status = 0x80 ∧ bitAt pkt.msgLen 0 = false ∧
    pkt.pktIndex < m.npkts ∧ (m.pkt pkt.pktIndex).acked = none) ∧ (∃ (s : State) (s1 : State) (rx : RxInfo) (pkt : Packet) (m : Msg) (x :
    State × Nat), s.clk.on = true ∧ pkt.typ = 2 ∧ s.rxGate rx pkt true = (s1, true) ∧ pkt.coll = false ∧ s1.answered rx pkt = some m ∧
    m.kind = 1 ∧ pkt.pktIndex < m.npkts ∧ nmem m.got pkt.pktIndex = false ∧
    ((s1.answerIn rx m pkt.payload.length).clearMiss m 0 pkt.xmit).devWrite (m.loc + pkt.pktIndex * m.psize) m.hint (pkt.payload.take (m.len
    - pkt.pktIndex * m.psize)) = x ∧ ({ m with got := nput m.got pkt.pktIndex true } : Msg).missing ≠ []) ∧
    (∃ (s : State) (s1 : State) (rx : RxInfo) (pkt : Packet), s.clk.on = true ∧ pkt.typ = 7 ∧ pkt.ctrlOp = 1 ∧ s.rxGate rx pkt true = (s1,
    true)) ∧ (∃ (s : State) (s1 : State) (rx : RxInfo) (pkt : Packet) (i : Nat), s.clk.on = true ∧ pkt.typ = 7 ∧ pkt.ctrlOp = 2 ∧
    s.rxGate rx pkt true = (s1, true) ∧ s1.routeOf pkt.srcDev = some i ∧ i < 4096 ∧ rx.port < 16 ∧
    bitAt (s1.rf (R.XPORT_ROUTE i) F.XPORT_ROUTE_DOWN) rx.port = true) ∧ (∃ (s : State) (s1 : State) (rx : RxInfo) (pkt : Packet),
    s.clk.on = true ∧ pkt.typ = 7 ∧ pkt.ctrlOp = 3 ∧ s.rxGate rx pkt true = (s1, true) ∧ s1.collSeq pkt.collId (fun c => c.isOpen) = none ∧
    s1.collSeq pkt.collId (fun c => c.abort.isSome) = none ∧ 1 ≤ pkt.status ∧ pkt.status ≤ 0x0C) :=
    ⟨⟨xp (wctx 1), (xp (wctx 1)), { port := 16, csumOk := true, tagOk := true, ce := false }, lp 0, by decide +kernel⟩,
    ⟨onLoop (xp (wctx 1)) (lp 0),
    ((onLoop (xp (wctx 1)) (lp 0)).rxGate ({ port := 16, csumOk := true, tagOk := true, ce := false }) (lp 0) true).1,
    { port := 16, csumOk := true, tagOk := true, ce := false }, lp 0, by decide +kernel⟩,
    ⟨onLoop ({ xp (wctx 1) with xport := { (xp (wctx 1)).xport with gens := [(0, 1)], regions := [(0, some (wregion 1))] } })
    ({ lp 0 with regionKey := 65536, accessKey := 9 }), ((onLoop
    ({ xp (wctx 1) with xport := { (xp (wctx 1)).xport with gens := [(0, 1)], regions := [(0, some (wregion 1))] } })
    ({ lp 0 with regionKey := 65536, accessKey := 9 })).rxGate ({ port := 16, csumOk := true, tagOk := true, ce := false })
    ({ lp 0 with regionKey := 65536, accessKey := 9 }) true).1, { port := 16, csumOk := true, tagOk := true, ce := false },
    { lp 0 with regionKey := 65536, accessKey := 9 }, wregion 1,
    (((((onLoop ({ xp (wctx 1) with xport := { (xp (wctx 1)).xport with gens := [(0, 1)], regions := [(0, some (wregion 1))] } })
    ({ lp 0 with regionKey := 65536, accessKey := 9 })).rxGate ({ port := 16, csumOk := true, tagOk := true, ce := false })
    ({ lp 0 with regionKey := 65536, accessKey := 9 }) true).1).chargeRx 16 0 16).devWrite 0 0 (zeros 16)), by decide +kernel⟩,
    ⟨onLoop ({ xp (wctx 1) with xport := { (xp (wctx 1)).xport with gens := [(0, 1)], regions := [(0, some (wregion 1))] } })
    ({ lp 1 with regionKey := 65536, accessKey := 9 }), ((onLoop
    ({ xp (wctx 1) with xport := { (xp (wctx 1)).xport with gens := [(0, 1)], regions := [(0, some (wregion 1))] } })
    ({ lp 1 with regionKey := 65536, accessKey := 9 })).rxGate ({ port := 16, csumOk := true, tagOk := true, ce := false })
    ({ lp 1 with regionKey := 65536, accessKey := 9 }) true).1, { port := 16, csumOk := true, tagOk := true, ce := false },
    { lp 1 with regionKey := 65536, accessKey := 9 }, wregion 1,
    (((((onLoop ({ xp (wctx 1) with xport := { (xp (wctx 1)).xport with gens := [(0, 1)], regions := [(0, some (wregion 1))] } })
    ({ lp 1 with regionKey := 65536, accessKey := 9 })).rxGate ({ port := 16, csumOk := true, tagOk := true, ce := false })
    ({ lp 1 with regionKey := 65536, accessKey := 9 }) true).1).chargeRx 16 0 0).readOut
    ({ port := 16, csumOk := true, tagOk := true, ce := false }) ({ lp 1 with regionKey := 65536, accessKey := 9 }) 0 0), by decide +kernel⟩,
    ⟨{ (onLoop (xp (wctx 1)) (lp 4)) with xport := { (onLoop (xp (wctx 1)) (lp 4)).xport with filter := [(msgKey 7 0, some (lp 5, 0))] } },
    (({ (onLoop (xp (wctx 1)) (lp 4)) with xport := { (onLoop (xp (wctx 1)) (lp 4)).xport with filter := [(msgKey 7 0, some (lp 5, 0))] } }).rxGate
    { port := 16, csumOk := true, tagOk := true, ce := false } (lp 4) true).1, { port := 16, csumOk := true, tagOk := true, ce := false },
    lp 4, lp 5, 0, by decide +kernel⟩, ⟨onLoop (xp (wctx 1)) (lp 4),
    ((onLoop (xp (wctx 1)) (lp 4)).rxGate ({ port := 16, csumOk := true, tagOk := true, ce := false }) (lp 4) true).1,
    { port := 16, csumOk := true, tagOk := true, ce := false }, lp 4, by decide +kernel⟩,
    ⟨onLoop ({ xp (wctx 1) with xport := { (xp (wctx 1)).xport with gens := [(0, 1)], regions := [(0, some { wregion 1 with base := 1048576 })] } })
    ({ lp 4 with regionKey := 65536, accessKey := 9 }), ((onLoop
    ({ xp (wctx 1) with xport := { (xp (wctx 1)).xport with gens := [(0, 1)], regions := [(0, some { wregion 1 with base := 1048576 })] } })
    ({ lp 4 with regionKey := 65536, accessKey := 9 })).rxGate ({ port := 16, csumOk := true, tagOk := true, ce := false })
    ({ lp 4 with regionKey := 65536, accessKey := 9 }) true).1, { port := 16, csumOk := true, tagOk := true, ce := false },
    { lp 4 with regionKey := 65536, accessKey := 9 }, { wregion 1 with base := 1048576 },
    ((((((onLoop ({ xp (wctx 1) with xport := { (xp (wctx 1)).xport with gens := [(0, 1)], regions := [(0, some { wregion 1 with base := 1048576 })] } })
    ({ lp 4 with regionKey := 65536, accessKey := 9 })).rxGate ({ port := 16, csumOk := true, tagOk := true, ce := false })
    ({ lp 4 with regionKey := 65536, accessKey := 9 }) true).1).modX (fun y =>
    { y with filter := y.filter ++ [(msgKey 7 0, none)] })).chargeRx 16 0 16).uAtomic 1048576 0 (zeros 8)), by decide +kernel⟩,
    ⟨onLoop (xp (wctx 1)) (lp 3),
    ((onLoop (xp (wctx 1)) (lp 3)).rxGate ({ port := 16, csumOk := true, tagOk := true, ce := false }) (lp 3) true).1,
    { port := 16, csumOk := true, tagOk := true, ce := false }, lp 3, wctx 1, by decide +kernel⟩,
    ⟨{ (onLoop (xp (wctx 1)) (lp 3)) with xport := { (onLoop (xp (wctx 1)) (lp 3)).xport with posted := [(0, [{ origin := .cmd 3 5, core := some 3, addr := 64, cap := 32, ward := 0 }])] } },
    (({ (onLoop (xp (wctx 1)) (lp 3)) with xport := { (onLoop (xp (wctx 1)) (lp 3)).xport with posted := [(0, [{ origin := .cmd 3 5, core := some 3, addr := 64, cap := 32, ward := 0 }])] } }).rxGate
    { port := 16, csumOk := true, tagOk := true, ce := false } (lp 3) true).1, { port := 16, csumOk := true, tagOk := true, ce := false },
    lp 3, wctx 1, { origin := .cmd 3 5, core := some 3, addr := 64, cap := 32, ward := 0 }, 3, [], by decide +kernel⟩,
    ⟨{ (withMsg (wmsg 0)) with xport := { (withMsg (wmsg 0)).xport with loop := [{ lp 5 with msgLen := 1 }] } },
    (({ (withMsg (wmsg 0)) with xport := { (withMsg (wmsg 0)).xport with loop := [{ lp 5 with msgLen := 1 }] } }).rxGate
    { port := 16, csumOk := true, tagOk := true, ce := false } ({ lp 5 with msgLen := 1 }) true).1,
    { port := 16, csumOk := true, tagOk := true, ce := false }, { lp 5 with msgLen := 1 }, wmsg 0, by decide +kernel⟩,
    ⟨onLoop (xp (wctx 1)) (lp 5),
    ((onLoop (xp (wctx 1)) (lp 5)).rxGate ({ port := 16, csumOk := true, tagOk := true, ce := false }) (lp 5) true).1,
    { port := 16, csumOk := true, tagOk := true, ce := false }, lp 5, by decide +kernel⟩,
    ⟨{ (withMsg (wmsg 0)) with xport := { (withMsg (wmsg 0)).xport with loop := [{ lp 6 with status := 0x80 }] } },
    (({ (withMsg (wmsg 0)) with xport := { (withMsg (wmsg 0)).xport with loop := [{ lp 6 with status := 0x80 }] } }).rxGate
    { port := 16, csumOk := true, tagOk := true, ce := false } ({ lp 6 with status := 0x80 }) true).1,
    { port := 16, csumOk := true, tagOk := true, ce := false }, { lp 6 with status := 0x80 }, wmsg 0, by decide +kernel⟩,
    ⟨{ (withMsg { wmsg 1 with npkts := 2, len := 1040 }) with xport := { (withMsg { wmsg 1 with npkts := 2, len := 1040 }).xport with loop := [lp 2] } },
    (({ (withMsg { wmsg 1 with npkts := 2, len := 1040 }) with xport := { (withMsg { wmsg 1 with npkts := 2, len := 1040 }).xport with loop := [lp 2] } }).rxGate
    { port := 16, csumOk := true, tagOk := true, ce := false } (lp 2) true).1, { port := 16, csumOk := true, tagOk := true, ce := false },
    lp 2, { wmsg 1 with npkts := 2, len := 1040 },
    ((({ (withMsg { wmsg 1 with npkts := 2, len := 1040 }) with xport := { (withMsg { wmsg 1 with npkts := 2, len := 1040 }).xport with loop := [lp 2] } }).rxGate
    { port := 16, csumOk := true, tagOk := true, ce := false } (lp 2) true).1).devWrite 0 0 (zeros 16), by decide +kernel⟩,
    ⟨onLoop (xp (wctx 1)) ({ lp 7 with ctrlOp := 1 }),
    ((onLoop (xp (wctx 1)) ({ lp 7 with ctrlOp := 1 })).rxGate ({ port := 16, csumOk := true, tagOk := true, ce := false })
    ({ lp 7 with ctrlOp := 1 }) true).1, { port := 16, csumOk := true, tagOk := true, ce := false }, { lp 7 with ctrlOp := 1 },
    by decide +kernel⟩, ⟨onPort (put (xp (wctx 1)) [(R.XPORT_ROUTE 7, F.XPORT_ROUTE_VALID, 1), (R.XPORT_ROUTE 7, F.XPORT_ROUTE_DOWN,
    5)]) 2 ({ lp 7 with ctrlOp := 2 }), ((onPort (put (xp (wctx 1)) [(R.XPORT_ROUTE 7, F.XPORT_ROUTE_VALID, 1), (R.XPORT_ROUTE 7,
    F.XPORT_ROUTE_DOWN, 5)]) 2 ({ lp 7 with ctrlOp := 2 })).rxGate ({ port := 2, csumOk := true, tagOk := true, ce := false })
    ({ lp 7 with ctrlOp := 2 }) true).1, { port := 2, csumOk := true, tagOk := true, ce := false }, { lp 7 with ctrlOp := 2 }, 7,
    by decide +kernel⟩, ⟨onLoop (xp (wctx 1)) ({ lp 7 with ctrlOp := 3, status := 8, collId := 5 }),
    ((onLoop (xp (wctx 1)) ({ lp 7 with ctrlOp := 3, status := 8, collId := 5 })).rxGate
    ({ port := 16, csumOk := true, tagOk := true, ce := false }) ({ lp 7 with ctrlOp := 3, status := 8, collId := 5 }) true).1,
    { port := 16, csumOk := true, tagOk := true, ce := false }, { lp 7 with ctrlOp := 3, status := 8, collId := 5 }, by decide +kernel⟩⟩

/-- Hypotheses of TransportTimersComplete met. -/
theorem witness_TransportTimersComplete :
    (∃ (s : State) (i : Nat) (m : Msg) (k : Nat) (c : Copy) (l : List Copy) (s0 : State) (s1 : State) (m0 : Msg) (m1 : Msg),
    s.clk.on = true ∧ s.msg i = some m ∧ m.kind ≠ 1 ∧ s.xportOn = true ∧ (m.pkt k).copies = c :: l ∧ (m.pkt k).acked = none ∧
    (m.pkt k).held = false ∧ (m.pkt k).sends < m.retryMax + 1 ∧ s.timedOut m c.port = (s0, m0) ∧
    s0.copyOut m0 k (c.xmit + 1) ((c.port + 1) % 16) (s0.msgPkt m0 k (c.xmit + 1)) true = .ok (s1, m1)) ∧
    (∃ (s : State) (i : Nat) (m : Msg) (k : Nat) (c : Copy) (l : List Copy), s.clk.on = true ∧ s.msg i = some m ∧ m.kind ≠ 1 ∧
    m.coll = none ∧ s.xportOn = true ∧ (m.pkt k).copies = c :: l ∧ (m.pkt k).acked = none ∧ (m.pkt k).held = false ∧
    m.retryMax + 1 ≤ (m.pkt k).sends) ∧ (∃ (s : State) (i : Nat) (k : Nat), s.clk.on = true ∧ s.msg i = none) ∧
    (∃ (s : State) (i : Nat) (m : Msg) (k : Nat) (c : Copy) (l : List Copy) (s1 : State) (m0 : Msg) (m1 : Msg), s.clk.on = true ∧
    s.msg i = some m ∧ m.kind ≠ 1 ∧ s.xportOn = true ∧ (m.pkt k).copies = c :: l ∧ (m.pkt k).held = true ∧
    m.setPkt k { m.pkt k with held := false } = m0 ∧ s.copyOut m0 k (c.xmit + 1) ((c.port + 1) % 16) (s.msgPkt m0 k (c.xmit + 1)) false = .ok
    (s1, m1)) ∧ (∃ (s : State) (i : Nat) (m : Msg) (p : Bool) (s1 : State) (m1 : Msg), s.clk.on = true ∧ s.msg i = some m ∧
    s.xportOn = true ∧ s.tryLast m p = (s1, m1, none)) ∧ (∃ (s : State) (src : Nat) (mid : Nat), s.clk.on = true) ∧
    (∃ (s : State) (src : Nat) (mid : Nat), s.clk.on = true) ∧ (∃ (s : State) (i : Nat) (m : Msg), s.clk.on = true ∧ s.msg i = some m ∧
    m.coll = none ∧ m.pkts.any (fun e => e.2.held) = true ∧ ((s.loadFor m).ctx m.queue).timeoutUs * cyclesPerUs ≤ s.now - m.start) ∧
    (∃ (s : State) (m : Msg), s.clk.on = true ∧ s.xport.waitMsgs.find? (fun m => (s.loadFor m).mayBegin m) = some m) ∧
    (∃ (s : State) (q : Nat), s.clk.on = true ∧ (s.coll q).isOpen = true ∧ (s.coll q).deadline ≤ s.us ∧ (s.coll q).abort = none) ∧
    (∃ (s : State) (q : Nat), s.clk.on = true ∧ s.us < (s.coll q).deadline) ∧ (∃ (s : State) (who : Requester) (q : Nat),
    ServedNow s who = true ∧ s.reach who (R.XPORT_COLL_CTRL q) = St.ok ∧ (s.coll q).isOpen = true ∧ (s.coll q).abort = none) ∧
    (∃ (s : State) (q : Nat) (st : Nat), s.clk.on = true ∧ q < 8 ∧ (s.coll q).isOpen = true ∧ (s.coll q).abort = some st ∧ st < 256) ∧
    (∃ (s : State) (cid : Nat), s.clk.on = true) :=
    ⟨⟨withMsg (wmsg 0), 0, wmsg 0, 0, { xmit := 0, port := 16 }, [], timed.1, again.1, timed.2, again.2, by decide +kernel⟩,
    ⟨withMsg ({ wmsg 0 with pkts := [(0, { copies := [{ xmit := 0, port := 16 }], sends := 8 })] }), 0,
    { wmsg 0 with pkts := [(0, { copies := [{ xmit := 0, port := 16 }], sends := 8 })] }, 0, { xmit := 0, port := 16 }, [],
    by decide +kernel⟩, ⟨up, 3, 0, by decide +kernel⟩, ⟨withMsg heldMsg, 0, heldMsg, 0, { xmit := 0, port := 16 }, [],
    (sent ((withMsg heldMsg).copyOut freed 0 1 1 ((withMsg heldMsg).msgPkt freed 0 1) false)).1, freed,
    (sent ((withMsg heldMsg).copyOut freed 0 1 1 ((withMsg heldMsg).msgPkt freed 0 1) false)).2, by decide +kernel⟩,
    ⟨withMsg ({ wmsg 0 with pkts := [] }), 0, { wmsg 0 with pkts := [] }, true,
    ((withMsg ({ wmsg 0 with pkts := [] })).tryLast ({ wmsg 0 with pkts := [] }) true).1,
    ((withMsg ({ wmsg 0 with pkts := [] })).tryLast ({ wmsg 0 with pkts := [] }) true).2.1, by decide +kernel⟩, ⟨up, 7, 4,
    by decide +kernel⟩, ⟨up, 7, 4, by decide +kernel⟩, ⟨{ withMsg heldMsg with now := 10 ^ 9 }, 0, heldMsg, by decide +kernel⟩,
    ⟨{ xp (wctx 1) with xport := { (xp (wctx 1)).xport with waitMsgs := [wmsg 0] } }, wmsg 0, by decide +kernel⟩,
    ⟨{ xp (wctx 1) with xport := { (xp (wctx 1)).xport with colls := [(0, { isOpen := true, deadline := 0 })] } }, 0, by decide +kernel⟩,
    ⟨{ xp (wctx 1) with xport := { (xp (wctx 1)).xport with colls := [(0, { isOpen := true, deadline := 9 })] } }, 0, by decide +kernel⟩,
    ⟨{ xp (wctx 1) with xport := { (xp (wctx 1)).xport with colls := [(0, { isOpen := true, deadline := 9 })] } }, .mc, 0,
    by decide +kernel⟩, ⟨{ xp (wctx 1) with xport := { (xp (wctx 1)).xport with colls := [(0, { isOpen := true, abort := some 6 })] } }, 0,
    6, by decide +kernel⟩, ⟨up, 5, by decide +kernel⟩⟩

/-- Hypotheses of CollectiveStepsComplete met. -/
theorem witness_CollectiveStepsComplete :
    (∃ (s : State) (q : Nat) (e : Issued), q < 8 ∧ s.aborting (160 + q) = false ∧ s.front (160 + q) 0x6A = some e ∧
    (s.coll q).isOpen = false ∧ 0 < fld e.cmd.w1 24 13 ∧ fld e.cmd.w1 24 13 ≤ 4096 ∧ fld e.cmd.w2 32 16 ≠ 0 ∧ fld e.cmd.w2 0 16 % 8 = 0 ∧
    fld e.cmd.w2 0 16 + 8 * fld e.cmd.w1 24 13 ≤ 65536 ∧ s.xport.aborted.find? (fun a => a.1 = fld e.cmd.w1 0 16) = none ∧
    s.slowMask (fld e.cmd.w1 16 8) = false ∧ (List.range 8).any (fun i => bitAt (fld e.cmd.w1 16 8) i && s.thermLevel i = 3) = false) ∧
    (∃ (s : State) (core : Nat) (e : Issued), s.aborting core = false ∧ s.front core 0x6A = some e ∧ (s.coll (core - 160)).isOpen = true) ∧
    (∃ (s : State) (q : Nat) (e : Issued), q < 8 ∧ s.aborting (160 + q) = false ∧ s.front (160 + q) 0x6B = some e ∧
    (s.core (160 + q)).issued.any (fun f => decide (f.ord < e.ord)) = false ∧ (s.coll q).isOpen = true ∧ (s.coll q).id = fld e.cmd.w1 0 16) ∧
    (∃ (s : State) (core : Nat) (e : Issued) (s1 : State) (s2 : State) (r : State × List Byte × CqOut), s.aborting core = false ∧
    s.front core 0x68 = some e ∧ s.queueChk core (fld e.cmd.w2 0 20) = (s1, St.ok) ∧ s1.cqsendChk core e.cmd = St.ok ∧ s1.cqRows core e = r ∧
    r.2.2.st = St.ok ∧ r.1.setTally core e.ord [(e.cmd.fmtD, r.2.2.cats), (2, r.2.2.errCats)] = s2) ∧
    (∃ (s : State) (core : Nat) (e : Issued) (r : State × Nat × List Nat), s.aborting core = false ∧ s.front core 0x69 = some e ∧
    (s.core core).issued.any (fun f => f.cmd.opcode = 0x69 && decide (f.ord < e.ord)) = false ∧ s.caddChk core e.cmd = St.ok ∧
    s.caddRows e.cmd = r) :=
    ⟨⟨busyWith 160 [iss (cmdw 0x6A 0 (5 + 2 ^ 24) (2 ^ 36))], 0, iss (cmdw 0x6A 0 (5 + 2 ^ 24) (2 ^ 36)), by decide +kernel⟩,
    ⟨{ busyWith 160 [iss (cmdw 0x6A 0 (5 + 2 ^ 24) (2 ^ 36))] with xport := { up.xport with colls := [(0, { isOpen := true })] } }, 160,
    iss (cmdw 0x6A 0 (5 + 2 ^ 24) (2 ^ 36)), by decide +kernel⟩,
    ⟨{ busyWith 160 [iss (cmdw 0x6B 0 5)] with xport := { up.xport with colls := [(0, { isOpen := true, id := 5 })] } }, 0,
    iss (cmdw 0x6B 0 5), by decide +kernel⟩, ⟨xp (wctx 2) [(160, iss (cmdw 0x68 0x300000 (opw 2 0) (2 ^ 42)))], 160,
    iss (cmdw 0x68 0x300000 (opw 2 0) (2 ^ 42)), ((xp (wctx 2) [(160, iss (cmdw 0x68 0x300000 (opw 2 0) (2 ^ 42)))]).queueChk 160 0).1,
    ((((xp (wctx 2) [(160, iss (cmdw 0x68 0x300000 (opw 2 0) (2 ^ 42)))]).queueChk 160 0).1).cqRows 160 (iss (cmdw 0x68 0x300000 (opw 2 0) (2
    ^ 42)))).1.setTally 160 (iss (cmdw 0x68 0x300000 (opw 2 0) (2 ^ 42))).ord [((iss (cmdw 0x68 0x300000 (opw 2 0) (2 ^ 42))).cmd.fmtD,
    ((((xp (wctx 2) [(160, iss (cmdw 0x68 0x300000 (opw 2 0) (2 ^ 42)))]).queueChk 160 0).1).cqRows 160 (iss (cmdw 0x68 0x300000 (opw 2 0) (2
    ^ 42)))).2.2.cats), (2, ((((xp (wctx 2) [(160, iss (cmdw 0x68 0x300000 (opw 2 0) (2 ^ 42)))]).queueChk 160 0).1).cqRows 160 (iss (cmdw
    0x68 0x300000 (opw 2 0) (2 ^ 42)))).2.2.errCats)], (((xp (wctx 2) [(160,
    iss (cmdw 0x68 0x300000 (opw 2 0) (2 ^ 42)))]).queueChk 160 0).1).cqRows 160 (iss (cmdw 0x68 0x300000 (opw 2 0) (2 ^ 42))),
    by decide +kernel, by decide +kernel, by decide +kernel, by decide +kernel, rfl, by decide +kernel, rfl⟩, ⟨xp (wctx 2) [(160,
    iss (cmdw 0x69 0x3000 (opw 2 0) (opw 2 65536) 1))], 160, iss (cmdw 0x69 0x3000 (opw 2 0) (opw 2 65536) 1), (xp (wctx 2) [(160,
    iss (cmdw 0x69 0x3000 (opw 2 0) (opw 2 65536) 1))]).caddRows (iss (cmdw 0x69 0x3000 (opw 2 0) (opw 2 65536) 1)).cmd, by decide +kernel⟩⟩

/-- Hypotheses of FlowControlCompletes met. -/
theorem witness_FlowControlCompletes :
    (∃ (s : State) (port : Nat) (sub : Nat) (prios : Nat) (quanta : Nat), port < 16 ∧ s.linkUp port sub = true ∧
    s.portCfg port F.PORT_CFG_PFC_EN = 1 ∧ bitAt prios (s.portCfg port F.PORT_CFG_PCP) = true ∧ quanta ≠ 0 ∧
    s.portSt port F.PORT_STATUS_TX_PAUSED = 0) ∧ (∃ (s : State) (port : Nat) (sub : Nat) (prios : Nat), port < 16 ∧
    s.linkUp port sub = true ∧ s.portCfg port F.PORT_CFG_PFC_EN = 1 ∧ bitAt prios (s.portCfg port F.PORT_CFG_PCP) = true ∧
    s.portSt port F.PORT_STATUS_TX_PAUSED = 1) ∧ (∃ (s : State) (port : Nat) (sub : Nat) (prios : Nat) (quanta : Nat),
    s.linkUp port sub = true ∧ ¬(s.portCfg port F.PORT_CFG_PFC_EN = 1 ∧ bitAt prios (s.portCfg port F.PORT_CFG_PCP) = true)) ∧
    (∃ (s : State) (port : Nat) (us : Nat), port < 16 ∧ s.portSt port F.PORT_STATUS_TX_PAUSED = 1) ∧ (∃ (s : State) (port : Nat) (us : Nat),
    s.portSt port F.PORT_STATUS_TX_PAUSED ≠ 1) ∧ (∃ (s : State) (port : Nat), s.portSt port F.PORT_STATUS_XOFF_SENT = 1 ∧
    s.rf (R.PORT_PFC port) F.PORT_PFC_XON_KIB * 1024 ≤ s.rxFill port) ∧ (∃ (s : State) (port : Nat), port < 16 ∧
    s.portSt port F.PORT_STATUS_TX_PAUSED = 1 ∧ s.portSt port F.PORT_STATUS_STORM = 0) ∧ (∃ (s : State) (port : Nat), port < 16 ∧
    s.portSt port F.PORT_STATUS_STORM = 1 ∧ s.linkUp port 0 = true ∧ (s.port port).holdA = false ∧
    s.rf (R.PORT_LINK_CTRL port) F.PORT_LINK_CTRL_LOOPBACK = 0 ∧ (s.port port).retiming = false) ∧ (∃ (s : State) (port : Nat),
    s.portSt port F.PORT_STATUS_STORM = 0) :=
    ⟨⟨pup [(R.PORT_CFG 2, F.PORT_CFG_PFC_EN, 1)], 2, 0, 1, 5, by decide +kernel⟩, ⟨pup [(R.PORT_CFG 2, F.PORT_CFG_PFC_EN, 1),
    (R.PORT_STATUS 2, F.PORT_STATUS_TX_PAUSED, 1)], 2, 0, 1, by decide +kernel⟩, ⟨pup, 2, 0, 1, 5, by decide +kernel⟩,
    ⟨pup [(R.PORT_STATUS 2, F.PORT_STATUS_TX_PAUSED, 1)], 2, 7, by decide +kernel⟩, ⟨pup, 2, 7, by decide +kernel⟩, ⟨(pup [(R.PORT_CFG 2,
    F.PORT_CFG_PFC_EN, 1), (R.PORT_STATUS 2, F.PORT_STATUS_XOFF_SENT, 1)]).setPort 2 { rxq := [fr .other 1048576] }, 2, by decide +kernel⟩,
    ⟨pup [(R.PORT_STATUS 2, F.PORT_STATUS_TX_PAUSED, 1)], 2, by decide +kernel⟩, ⟨pup [(R.PORT_STATUS 2, F.PORT_STATUS_STORM, 1),
    (R.PORT_STATUS 2, F.PORT_STATUS_USABLE, 0)], 2, by decide +kernel⟩, ⟨pup, 2, by decide +kernel⟩⟩

/-- Hypotheses of LinkStatesComplete met. -/
theorem witness_LinkStatesComplete :
    (∃ (s : State) (port : Nat) (sub : Nat) (l : Nat) (a : Bool) (fr : Bool), port < 16 ∧ s.linkUp port sub = true) ∧
    (∃ (s : State) (port : Nat) (sub : Nat) (fr : Bool), port < 16 ∧ s.linkUp port sub = true) ∧
    (∃ (s : State) (port : Nat) (sub : Nat) (l : Option Nat) (a : Bool) (fr : Bool), s.linkUp port sub = false) ∧
    (∃ (s : State) (port : Nat) (sub : Nat), s.hasSub port sub = true ∧ s.linkUp port sub = false ∧
    s.rf R.HOST_PM_STATUS F.HOST_PM_STATUS_STATE ≠ 4 ∧ 3 ≤ s.rf R.MGMT_STAGE F.MGMT_STAGE_STAGE) ∧ (∃ (s : State) (port : Nat) (sub : Nat),
    (s.rf R.HOST_PM_STATUS F.HOST_PM_STATUS_STATE = 4 ∨ s.rf R.MGMT_STAGE F.MGMT_STAGE_STAGE < 3)) ∧ (∃ (s : State) (port : Nat) (sub : Nat),
    port < 16 ∧ s.linkUp port sub = true ∧ (s.port port).holding sub = true ∧ s.portSt port F.PORT_STATUS_STORM = 0 ∧
    s.rf (R.PORT_LINK_CTRL port) F.PORT_LINK_CTRL_LOOPBACK = 0 ∧ (s.port port).retiming = false) ∧ (∃ (s : State) (port : Nat) (sub : Nat),
    (s.port port).holding sub = false) ∧ (∃ (s : State) (who : Requester) (port : Nat), port < 16 ∧ ServedNow s who = true ∧
    s.reach who (R.PORT_LINK_CTRL port) = St.ok ∧ s.portMode port ≠ 0) ∧ (∃ (s : State) (who : Requester) (port : Nat),
    ServedNow s who = true ∧ s.reach who (R.PORT_LINK_CTRL port) = St.ok ∧ s.portMode port = 0) :=
    ⟨⟨pup, 2, 0, 5, true, true, by decide +kernel⟩, ⟨pup, 2, 0, true, by decide +kernel⟩, ⟨up, 2, 0, none, true, false, by decide +kernel⟩,
    ⟨put (pup) [(R.PORT_STATUS 2, F.PORT_STATUS_LINK_A, 0)], 2, 0, by decide +kernel⟩, ⟨put (pup) [(R.PORT_STATUS 2, F.PORT_STATUS_LINK_A,
    0), (R.HOST_PM_STATUS, F.HOST_PM_STATUS_STATE, 4)], 2, 0, by decide +kernel⟩, ⟨(put (pup) [(R.PORT_STATUS 2, F.PORT_STATUS_USABLE,
    0)]).setPort 2 { holdA := true }, 2, 0, by decide +kernel⟩, ⟨pup, 2, 0, by decide +kernel⟩, ⟨pup, .mc, 2, by decide +kernel⟩,
    ⟨put up [(R.PORT_CFG 2, F.PORT_CFG_MODE, 0)], .mc, 2, by decide +kernel⟩⟩

/-- Hypotheses of LaneParkingCompletes met. -/
theorem witness_LaneParkingCompletes :
    (∃ (s : State) (port : Nat) (q : Nat), s.parkOk port = false) ∧ (∃ (s : State) (port : Nat) (sent : Nat) (rcvd : Nat),
    s.parkOk port = true ∧ s.linkUp port 0 = true ∧ s.portSt port F.PORT_STATUS_PARK_STATE = 0 ∧ (s.port port).wakeOwed = none ∧
    s.txFill port + 64 ≤ s.rf (R.PORT_PARK port) F.PORT_PARK_WAKE_KIB * 1024 ∧ s.lowTraffic port sent rcvd = true ∧
    s.rf (R.PORT_PARK port) F.PORT_PARK_HOLD_MS * 10 ≤ (s.port port).lowWindows + 1) ∧ (∃ (s : State) (port : Nat) (sent : Nat) (rcvd : Nat),
    s.portSt port F.PORT_STATUS_PARK_STATE = 0 ∧ s.wakeCond port = false ∧
    (s.port port).lowWindows + 1 < s.rf (R.PORT_PARK port) F.PORT_PARK_HOLD_MS * 10) ∧ (∃ (s : State) (port : Nat) (q : Nat),
    s.parkOk port = true ∧ s.linkUp port 0 = true ∧ s.portSt port F.PORT_STATUS_PARK_STATE = 0 ∧ (s.port port).lastLow = true ∧
    s.wakeCond port = false) ∧ (∃ (s : State) (port : Nat) (q : Nat), s.parkOk port = true ∧ s.linkUp port 0 = true ∧
    s.portSt port F.PORT_STATUS_PARK_STATE = 0 ∧ ((s.port port).lastLow = false ∨ s.wakeCond port = true)) ∧
    (∃ (s : State) (port : Nat) (q : Nat) (r : Nat), s.parkOk port = true ∧ s.linkUp port 0 = true ∧
    s.portSt port F.PORT_STATUS_PARK_STATE = 1 ∧ (s.port port).reqSeq = some r) ∧ (∃ (s : State) (port : Nat) (q : Nat),
    s.parkOk port = true ∧ s.linkUp port 0 = true ∧ s.portSt port F.PORT_STATUS_PARK_STATE = 1 ∧ (s.port port).reqSeq = some q) ∧
    (∃ (s : State) (port : Nat) (q : Nat), (s.port port).reqSeq ≠ some q) ∧ (∃ (s : State) (port : Nat) (q : Nat), s.parkOk port = true ∧
    s.linkUp port 0 = true ∧ s.portSt port F.PORT_STATUS_PARK_STATE = 1 ∧ (s.port port).reqSeq = some q) ∧
    (∃ (s : State) (port : Nat) (q : Nat), s.parkOk port = true ∧ s.linkUp port 0 = true ∧ s.portSt port F.PORT_STATUS_PARK_STATE = 1) ∧
    (∃ (s : State) (port : Nat), s.portSt port F.PORT_STATUS_PARK_STATE = 1) ∧ (∃ (s : State) (port : Nat),
    s.portSt port F.PORT_STATUS_PARK_STATE ≠ 1) ∧ (∃ (s : State) (port : Nat) (q : Nat), s.parkOk port = true ∧ s.linkUp port 0 = true ∧
    s.portSt port F.PORT_STATUS_PARK_STATE = 0) ∧ (∃ (s : State) (port : Nat) (q : Nat), s.parkOk port = true ∧ s.linkUp port 0 = true ∧
    s.portSt port F.PORT_STATUS_PARK_STATE = 2) ∧ (∃ (s : State) (port : Nat) (q : Nat), s.portSt port F.PORT_STATUS_PARK_STATE = 3 ∧
    (s.port port).wakeOwed = some q) ∧ (∃ (s : State) (port : Nat), s.portSt port F.PORT_STATUS_PARK_STATE = 3 ∧
    (s.port port).wakeOwed = none ∧ (s.port port).wakeAcked = false) ∧ (∃ (s : State) (port : Nat) (q : Nat), s.parkOk port = true ∧
    s.linkUp port 0 = true ∧ s.portSt port F.PORT_STATUS_PARK_STATE = 3 ∧ (s.port port).reqSeq = some q ∧ (s.port port).lanesLocked = true) ∧
    (∃ (s : State) (port : Nat) (q : Nat), s.parkOk port = true ∧ s.linkUp port 0 = true ∧ s.portSt port F.PORT_STATUS_PARK_STATE = 3 ∧
    (s.port port).reqSeq = some q ∧ (s.port port).lanesLocked = false) ∧ (∃ (s : State) (port : Nat) (q : Nat),
    s.portSt port F.PORT_STATUS_PARK_STATE = 3 ∧ (s.port port).wakeAcked = false ∧ (s.port port).reqSeq = some q ∧ (s.port port).wakes < 3) ∧
    (∃ (s : State) (port : Nat) (q : Nat), port < 16 ∧ s.portSt port F.PORT_STATUS_PARK_STATE = 3 ∧ (s.port port).wakeAcked = false ∧
    (s.port port).reqSeq = some q ∧ 3 ≤ (s.port port).wakes) ∧ (∃ (s : State) (port : Nat) (m : Nat),
    s.portSt port F.PORT_STATUS_PARK_STATE = 2 ∧ [4, 5, 6, 7].any (fun l => decide (3 ≤ mget 0 (missUpdate (s.port port).missRun m) l)) =
    false) ∧ (∃ (s : State) (port : Nat) (m : Nat), port < 16 ∧ s.portSt port F.PORT_STATUS_PARK_STATE = 2 ∧ [4, 5, 6,
    7].any (fun l => decide (3 ≤ mget 0 (missUpdate (s.port port).missRun m) l)) = true) :=
    ⟨⟨up, 2, 5, by decide +kernel⟩, ⟨(put (pup) [(R.PORT_STATUS 2, F.PORT_STATUS_PARK_STATE,
    0)]).setPort 2 ({ lowWindows := 9, parkSeq := 5 }), 2, 0, 0, by decide +kernel⟩, ⟨(put (pup) [(R.PORT_STATUS 2, F.PORT_STATUS_PARK_STATE,
    0)]).setPort 2 ({ }), 2, 0, 0, by decide +kernel⟩, ⟨(put (pup) [(R.PORT_STATUS 2, F.PORT_STATUS_PARK_STATE,
    0)]).setPort 2 ({ lastLow := true }), 2, 5, by decide +kernel⟩, ⟨(put (pup) [(R.PORT_STATUS 2, F.PORT_STATUS_PARK_STATE,
    0)]).setPort 2 ({ }), 2, 5, by decide +kernel⟩, ⟨(put (pup) [(R.PORT_STATUS 2, F.PORT_STATUS_PARK_STATE,
    1)]).setPort 2 ({ reqSeq := some 4 }), 2, 5, 4, by decide +kernel⟩, ⟨(put (pup) [(R.PORT_STATUS 2, F.PORT_STATUS_PARK_STATE,
    1)]).setPort 2 ({ reqSeq := some 4 }), 2, 4, by decide +kernel⟩, ⟨(put (pup) [(R.PORT_STATUS 2, F.PORT_STATUS_PARK_STATE,
    1)]).setPort 2 ({ }), 2, 4, by decide +kernel⟩, ⟨(put (pup) [(R.PORT_STATUS 2, F.PORT_STATUS_PARK_STATE,
    1)]).setPort 2 ({ reqSeq := some 4 }), 2, 4, by decide +kernel⟩, ⟨(put (pup) [(R.PORT_STATUS 2, F.PORT_STATUS_PARK_STATE,
    1)]).setPort 2 ({ }), 2, 4, by decide +kernel⟩, ⟨(put (pup) [(R.PORT_STATUS 2, F.PORT_STATUS_PARK_STATE, 1)]).setPort 2 ({ }), 2,
    by decide +kernel⟩, ⟨(put (pup) [(R.PORT_STATUS 2, F.PORT_STATUS_PARK_STATE, 2)]).setPort 2 ({ }), 2, by decide +kernel⟩,
    ⟨(put (pup) [(R.PORT_STATUS 2, F.PORT_STATUS_PARK_STATE, 0)]).setPort 2 ({ }), 2, 5, by decide +kernel⟩, ⟨(put (pup) [(R.PORT_STATUS 2,
    F.PORT_STATUS_PARK_STATE, 2)]).setPort 2 ({ lanesIdle := true }), 2, 5, by decide +kernel⟩, ⟨(put (pup) [(R.PORT_STATUS 2,
    F.PORT_STATUS_PARK_STATE, 3)]).setPort 2 ({ wakeOwed := some 5 }), 2, 5, by decide +kernel⟩, ⟨(put (pup) [(R.PORT_STATUS 2,
    F.PORT_STATUS_PARK_STATE, 3)]).setPort 2 ({ lanesLocked := false }), 2, by decide +kernel⟩, ⟨(put (pup) [(R.PORT_STATUS 2,
    F.PORT_STATUS_PARK_STATE, 3)]).setPort 2 ({ reqSeq := some 5 }), 2, 5, by decide +kernel⟩, ⟨(put (pup) [(R.PORT_STATUS 2,
    F.PORT_STATUS_PARK_STATE, 3)]).setPort 2 ({ reqSeq := some 5, lanesLocked := false }), 2, 5, by decide +kernel⟩,
    ⟨(put (pup) [(R.PORT_STATUS 2, F.PORT_STATUS_PARK_STATE, 3)]).setPort 2 ({ reqSeq := some 5, wakes := 2 }), 2, 5, by decide +kernel⟩,
    ⟨(put (pup) [(R.PORT_STATUS 2, F.PORT_STATUS_PARK_STATE, 3)]).setPort 2 ({ reqSeq := some 5, wakes := 3 }), 2, 5, by decide +kernel⟩,
    ⟨(put (pup) [(R.PORT_STATUS 2, F.PORT_STATUS_PARK_STATE, 2)]).setPort 2 ({ }), 2, 16, by decide +kernel⟩, ⟨(put (pup) [(R.PORT_STATUS 2,
    F.PORT_STATUS_PARK_STATE, 2)]).setPort 2 ({ missRun := [(4, 2)] }), 2, 16, by decide +kernel⟩⟩

/-- Hypotheses of HostAccessesComplete met. -/
theorem witness_HostAccessesComplete :
    (∃ (s : State) (a : Nat), s.hostUp = true ∧ s.reach .host a = St.ok ∧ a % 8 = 0 ∧ progOf a = none ∧ windowOf a ≠ 0x08) ∧
    (∃ (s : State) (a : Nat) (v : W64), s.hostUp = true ∧ s.awake = true ∧ s.reach .host a = St.ok ∧ a % 8 = 0 ∧ windowOf a = 0x28 ∧
    hasAcc a .txn = false) ∧ (∃ (s : State) (a : Nat) (n : Nat), s.hostUp = true ∧ s.reach .host a = St.bounds) ∧
    (∃ (s : State) (wr : Bool) (a : Nat) (n : Nat) (v : W64), s.hostUp = false ∧ wr = true) ∧ (∃ (s : State) (q : Nat) (v : W64) (c : Ctx),
    s.hostUp = true ∧ s.awake = true ∧ q < 2 ^ 20 ∧ s.ctxCached q = some c ∧ c.enable = true ∧ c.typ = 0) ∧
    (∃ (s : State) (q : Nat) (v : W64) (c : Ctx), s.hostUp = true ∧ s.awake = true ∧ q < 2 ^ 20 ∧ s.ctxCached q = some c ∧ c.enable = true ∧
    c.typ = 0) ∧ (∃ (s : State) (off : Nat) (n : Nat) (v : W64), s.hostUp = true ∧ s.awake = true ∧ (n ≠ 8 ∨ off % 8 ≠ 0)) ∧
    (∃ (s : State) (off : Nat) (d : List Byte) (r : XRegion) (x : State × Nat), s.clk.on = true ∧ s.hostUp = true ∧ s.awake = true ∧
    s.placeChk (off / 2 ^ 30) (off % 2 ^ 30) d.length = (St.ok, some r) ∧
    s.devWrite (r.base + s.rf (R.HOST_PLACE_CTL (off / 2 ^ 30)) F.HOST_PLACE_CTL_OFFSET * 4096 + off % 2 ^ 30) 0 d = x ∧ x.2 = St.ok) ∧
    (∃ (s : State) (off : Nat) (d : List Byte), s.clk.on = true ∧ s.hostUp = true ∧ s.awake = true ∧ s.slotEn (off / 2 ^ 30) = false) ∧
    (∃ (s : State) (off : Nat) (d : List Byte), s.clk.on = true ∧ s.hostUp = true ∧ s.awake = true ∧ off / 2 ^ 30 < s.slots ∧
    s.slotEn (off / 2 ^ 30) = true ∧ off % 2 ^ 30 + d.length ≤ 2 ^ 30 ∧ s.slotRegion (off / 2 ^ 30) = none) ∧ (∃ (s : State) (off : Nat),
    s.hostUp = true) ∧ (∃ (s : State) (n : Nat) (rel : Bool) (r : XRegion), s.clk.on = true ∧ s.hostUp = true ∧ s.awake = true ∧
    n < s.slots ∧ s.slotEn n = true ∧ s.slotRegion n = some r ∧ bitAt r.sig.toNat 6 = true ∧ bitAt r.sig.toNat 37 = false) ∧
    (∃ (s : State) (n : Nat) (rel : Bool), s.clk.on = true ∧ s.hostUp = true ∧ s.awake = true ∧ n < s.slots ∧ s.slotEn n = false) ∧
    (∃ (s : State) (a : Nat) (f : LineFault), s.clk.on = true ∧ s.cxlTakes a = true ∧ s.awake = true ∧ s.fenced a = false ∧
    (s.region (regionKey (a / 64 * 64))).st = 0) ∧ (∃ (s : State) (a : Nat), s.clk.on = true ∧ s.cxlTakes a = true ∧ s.awake = true ∧
    s.fenced a = false ∧ (s.region (regionKey (a / 64 * 64))).st = 2 ∧ s.cline (a / 64) = none ∧ s.mark (a / 64) = .ok) ∧
    (∃ (s : State) (a : Nat) (d : List Byte), s.clk.on = true ∧ s.cxlTakes a = true ∧ s.awake = true ∧ s.fenced a = false ∧
    (s.region (regionKey (a / 64 * 64))).st = 2 ∧ s.cline (a / 64) = none ∧ s.mark (a / 64) = .ok ∧ a % 64 + d.length ≤ 64 ∧ 0 < d.length) ∧
    (∃ (s : State) (a : Nat) (f : LineFault), s.unready = false ∧ s.cxlTakes a = false) ∧ (∃ (s : State) (a : Nat) (f : LineFault) (d : List
    Byte), s.rf R.HOST_LINK_STATUS F.HOST_LINK_STATUS_SPEED ≠ 0 ∧ s.rf R.MGMT_STAGE F.MGMT_STAGE_STAGE < 3) ∧
    (∃ (s : State) (who : Requester) (v : W64), ServedNow s who = true ∧ s.reach who R.HOST_PM_TOL = St.ok ∧ s.pstate = 0) :=
    ⟨⟨up, R.PWR_STATUS, by decide +kernel⟩, ⟨up, R.PWR_MODEL_COEF 3, 1, by decide +kernel⟩, ⟨up, 2 ^ 31, 8, by decide +kernel⟩, ⟨State.reset,
    true, R.PWR_STATUS, 8, 0, by decide +kernel⟩, ⟨xp (wctx 0), 0, 3, wctx 0, by decide +kernel⟩, ⟨xp (wctx 0), 0, 3, wctx 0,
    by decide +kernel⟩, ⟨up, 16, 4, 3, by decide +kernel⟩,
    ⟨{ (put (xp (wctx 1)) ([(R.HOST_PLACE_CTL 3, F.HOST_PLACE_CTL_EN, 1), (R.HOST_PLACE_KEY 3, F.HOST_PLACE_KEY_REGION_KEY, 65536), (R.HOST_PLACE_KEY 3, F.HOST_PLACE_KEY_ACCESS_KEY, 9)])) with xport := { (xp (wctx 1)).xport with gens := [(0, 1)], regions := [(0, some (wregion 1))] } },
    3 * 2 ^ 30 + 64, [1, 2], wregion 1,
    ({ (put (xp (wctx 1)) ([(R.HOST_PLACE_CTL 3, F.HOST_PLACE_CTL_EN, 1), (R.HOST_PLACE_KEY 3, F.HOST_PLACE_KEY_REGION_KEY, 65536), (R.HOST_PLACE_KEY 3, F.HOST_PLACE_KEY_ACCESS_KEY, 9)])) with xport := { (xp (wctx 1)).xport with gens := [(0, 1)], regions := [(0, some (wregion 1))] } }).devWrite
    64 0 [1, 2], by decide +kernel⟩, ⟨up, 3 * 2 ^ 30 + 64, [1, 2], by decide +kernel⟩, ⟨put up [(R.HOST_PLACE_CTL 3, F.HOST_PLACE_CTL_EN,
    1)], 3 * 2 ^ 30 + 64, [1, 2], by decide +kernel⟩, ⟨up, 64, by decide +kernel⟩,
    ⟨{ (put (xp (wctx 1)) ([(R.HOST_PLACE_CTL 3, F.HOST_PLACE_CTL_EN, 1), (R.HOST_PLACE_KEY 3, F.HOST_PLACE_KEY_REGION_KEY, 65536), (R.HOST_PLACE_KEY 3, F.HOST_PLACE_KEY_ACCESS_KEY, 9)])) with xport := { (xp (wctx 1)).xport with gens := [(0, 1)], regions := [(0, some ({ wregion 1 with sig := 64 }))] } },
    3, false, { wregion 1 with sig := 64 }, by decide +kernel⟩, ⟨up, 3, false, by decide +kernel⟩,
    ⟨{ (put (warded []) [(R.HOST_LINK_STATUS, F.HOST_LINK_STATUS_CXL, 1), (R.HOST_SHW, F.HOST_SHW_BASE_32M, 0), (R.HOST_SHW, F.HOST_SHW_SIZE_32M, 8)]) with mem := { (warded []).mem with regions := [], hdm := some 8 } },
    640, .good, by decide +kernel⟩,
    ⟨{ (put (warded []) [(R.HOST_LINK_STATUS, F.HOST_LINK_STATUS_CXL, 1), (R.HOST_SHW, F.HOST_SHW_BASE_32M, 0), (R.HOST_SHW, F.HOST_SHW_SIZE_32M, 8)]) with mem := { (warded []).mem with hdm := some 8 } },
    640, by decide +kernel⟩,
    ⟨{ (put (warded []) [(R.HOST_LINK_STATUS, F.HOST_LINK_STATUS_CXL, 1), (R.HOST_SHW, F.HOST_SHW_BASE_32M, 0), (R.HOST_SHW, F.HOST_SHW_SIZE_32M, 8)]) with mem := { (warded []).mem with hdm := some 8 } },
    642, [1, 2], by decide +kernel⟩, ⟨up, 640, .good, by decide +kernel⟩, ⟨put up [(R.MGMT_STAGE, F.MGMT_STAGE_STAGE, 2)], 640, .good, [1,
    2], by decide +kernel⟩, ⟨up, .mc, 77, by decide +kernel⟩⟩

/-- Hypotheses of HostLinkAndPowerComplete met. -/
theorem witness_HostLinkAndPowerComplete :
    (∃ (s : State) (wr : Bool) (off : Nat) (v : W32), s.rf R.HOST_LINK_STATUS F.HOST_LINK_STATUS_SPEED ≠ 0 ∧
    s.rf R.HOST_LINK_STATUS F.HOST_LINK_STATUS_RRS = 1) ∧ (∃ (s : State) (v : W32), s.rf R.HOST_LINK_STATUS F.HOST_LINK_STATUS_SPEED ≠ 0 ∧
    s.rf R.HOST_LINK_STATUS F.HOST_LINK_STATUS_RRS ≠ 1) ∧ (∃ (s : State) (off : Nat) (v : W32),
    s.rf R.HOST_LINK_STATUS F.HOST_LINK_STATUS_SPEED ≠ 0 ∧ s.rf R.HOST_LINK_STATUS F.HOST_LINK_STATUS_RRS ≠ 1) ∧
    (∃ (s : State) (wr : Bool) (off : Nat) (v : W32), s.rf R.HOST_LINK_STATUS F.HOST_LINK_STATUS_SPEED = 0) ∧ (∃ (s : State) (line : Nat),
    s.dline line = none) ∧ (∃ (s : State) (line : Nat) (c : CLine), s.dline line = some c ∧ c.dirty = true) ∧
    (∃ (s : State) (line : Nat) (c : CLine) (d : List Byte), s.dline line = some c ∧ c.dirty = true ∧ d.length = 64 ∧ c.data.length = 64) ∧
    (∃ (s : State) (w : Nat) (cxl : Bool), s.sup.pwrgd = true ∧ s.sup.perst = false ∧ s.rf R.HOST_LINK_STATUS F.HOST_LINK_STATUS_SPEED = 0 ∧
    (w = 4 ∨ w = 8 ∨ w = 16)) ∧ (∃ (s : State), s.rf R.HOST_LINK_STATUS F.HOST_LINK_STATUS_SPEED ≠ 0) ∧ (∃ (s : State),
    s.rf R.HOST_LINK_STATUS F.HOST_LINK_STATUS_SPEED = 0) ∧ (∃ (s : State), s.sup.pwrgd = true) ∧ (∃ (s : State),
    s.rf R.HOST_LINK_STATUS F.HOST_LINK_STATUS_SPEED ≠ 0) ∧ (∃ (s : State) (q : Nat) (c : Ctx), s.hostUp = true ∧ s.listedQueues = [q] ∧
    s.ctxCached q = some c ∧ c.enable = true ∧ c.typ = 0) ∧ (∃ (s : State), s.hostUp = false) ∧ (∃ (s : State) (p : Nat), s.pstate < p ∧
    p ≤ min 4 (s.rf R.HOST_PM_CTRL F.HOST_PM_CTRL_MAX_STATE) ∧ s.rf R.HOST_PM_TOL F.HOST_PM_TOL_TOL_US ≠ 0 ∧
    (wakeUs[p]?).getD 0 ≤ s.rf R.HOST_PM_TOL F.HOST_PM_TOL_TOL_US ∧ s.stageNow = 4 ∧ s.clk.on = true ∧ s.mayEnter p = true) ∧
    (∃ (s : State) (p : Nat), s.pending = [] ∧ s.mgt.entering = some p ∧ 1 ≤ p ∧ p ≤ 2 ∧ s.pstateOk p = true) ∧ (∃ (s : State),
    s.pending = [] ∧ s.mgt.entering = some 3 ∧ s.pstateOk 3 = true) ∧ (∃ (s : State), s.pending = [] ∧ s.mgt.entering = some 4 ∧
    s.pstateOk 4 = true) ∧ (∃ (s : State) (p : Nat), s.pending = [] ∧ s.mgt.entering = some p ∧ s.pstateOk p = false) ∧
    (∃ (s : State) (p : Nat),
    (s.rf R.HOST_PM_TOL F.HOST_PM_TOL_TOL_US = 0 ∨ s.rf R.HOST_PM_TOL F.HOST_PM_TOL_TOL_US < (wakeUs[p]?).getD 0)) ∧ (∃ (s : State),
    s.awake = true) ∧ (∃ (s : State) (p : Nat), s.pstate = 0 ∧ s.mgt.entering = some p) ∧ (∃ (s : State), s.pstate = 1) ∧ (∃ (s : State),
    s.pstate = 2) ∧ (∃ (s : State), s.pstate = 3) ∧ (∃ (s : State), s.pstate = 4) :=
    ⟨⟨put up [(R.HOST_LINK_STATUS, F.HOST_LINK_STATUS_RRS, 1)], true, 4, 5, by decide +kernel⟩, ⟨put up [(R.HOST_LINK_STATUS,
    F.HOST_LINK_STATUS_RRS, 0)], 5, by decide +kernel⟩, ⟨put up [(R.HOST_LINK_STATUS, F.HOST_LINK_STATUS_RRS, 0)], 16, 5, by decide +kernel⟩,
    ⟨State.reset, true, 4, 5, by decide +kernel⟩, ⟨up, 5, by decide +kernel⟩,
    ⟨{ up with mem := { up.mem with dcache := [(5, { data := zeros 64, dirty := true })], hostCfg := true } }, 5,
    { data := zeros 64, dirty := true }, by decide +kernel⟩,
    ⟨{ up with mem := { up.mem with dcache := [(5, { data := zeros 64, dirty := true })], hostCfg := true } }, 5,
    { data := zeros 64, dirty := true }, List.replicate 64 7, by decide +kernel⟩, ⟨put up [(R.HOST_LINK_STATUS, F.HOST_LINK_STATUS_SPEED,
    0)], 8, true, by decide +kernel⟩,
    ⟨{ up with mem := { up.mem with dcache := [(5, { data := zeros 64, dirty := true })], hostCfg := true } }, by decide +kernel⟩,
    ⟨State.reset, by decide +kernel⟩,
    ⟨{ up with mem := { up.mem with dcache := [(5, { data := zeros 64, dirty := true })], hostCfg := true } }, by decide +kernel⟩,
    ⟨{ up with mem := { up.mem with dcache := [(5, { data := zeros 64, dirty := true })], hostCfg := true } }, by decide +kernel⟩,
    ⟨xp (wctx 0), 0, wctx 0, by decide +kernel⟩, ⟨State.reset, by decide +kernel⟩,
    ⟨{ (put up [(R.HOST_PM_CTRL, F.HOST_PM_CTRL_MAX_STATE, 4), (R.HOST_PM_TOL, F.HOST_PM_TOL_TOL_US, 1000000)]) with cores := (List.range 168).map (fun k => (k, { halted := true })) },
    2, by decide +kernel⟩,
    ⟨{ (put up [(R.HOST_PM_CTRL, F.HOST_PM_CTRL_MAX_STATE, 4), (R.HOST_PM_TOL, F.HOST_PM_TOL_TOL_US, 1000000)]) with cores := (List.range 168).map (fun k => (k, { halted := true })), mgt := { up.mgt with entering := some 2 } },
    2, by decide +kernel⟩,
    ⟨{ (put up [(R.HOST_PM_CTRL, F.HOST_PM_CTRL_MAX_STATE, 4), (R.HOST_PM_TOL, F.HOST_PM_TOL_TOL_US, 1000000)]) with cores := (List.range 168).map (fun k => (k, { halted := true })), mgt := { up.mgt with entering := some 3 } },
    by decide +kernel⟩,
    ⟨{ (put up [(R.HOST_PM_CTRL, F.HOST_PM_CTRL_MAX_STATE, 4), (R.HOST_PM_TOL, F.HOST_PM_TOL_TOL_US, 1000000)]) with cores := (List.range 168).map (fun k => (k, { halted := true })), mgt := { up.mgt with entering := some 4 } },
    by decide +kernel⟩, ⟨{ up with mgt := { up.mgt with entering := some 2 } }, 2, by decide +kernel⟩, ⟨up, 3, by decide +kernel⟩, ⟨up,
    by decide +kernel⟩, ⟨{ up with mgt := { up.mgt with entering := some 2 } }, 2, by decide +kernel⟩, ⟨put up [(R.HOST_PM_STATUS,
    F.HOST_PM_STATUS_STATE, 1)], by decide +kernel⟩,
    ⟨{ (put up [(R.HOST_PM_STATUS, F.HOST_PM_STATUS_STATE, 2)]) with cores := [(3, { halted := false })] }, by decide +kernel⟩,
    ⟨(put up [(R.HOST_PM_STATUS, F.HOST_PM_STATUS_STATE, 3)]).setStack 2 { selfRefresh := true }, by decide +kernel⟩,
    ⟨put up [(R.HOST_PM_STATUS, F.HOST_PM_STATUS_STATE, 4)], by decide +kernel⟩⟩

/-- Hypotheses of DiscoveryCompletes met. -/
theorem witness_DiscoveryCompletes :
    (∃ (s : State) (port : Nat), s.portMode port ≠ 2 ∧ s.linkUp port 0 = true) ∧ (∃ (s : State) (port : Nat), s.portMode port = 2 ∧
    s.linkUp port 0 = true ∧ s.linkUp port 1 = true ∧ s.parkState port = 0) ∧ (∃ (s : State) (port : Nat), s.linkUp port 0 = false ∧
    s.linkUp port 1 = false) ∧ (∃ (s : State) (port : Nat) (sub : Nat) (i : Lldp), s.linkUp port sub = true ∧ i.generation = 0) ∧
    (∃ (s : State) (port : Nat) (sub : Nat) (i : Lldp), s.linkUp port sub = true ∧ i.generation ≠ 0 ∧
    s.rf R.XPORT_CFG F.XPORT_CFG_DEV_MODE ≠ 1 ∧ port < 16 ∧ i.devnum ≠ s.dev) ∧ (∃ (s : State) (port : Nat) (sub : Nat) (i : Lldp),
    s.linkUp port sub = true ∧ i.generation ≠ 0 ∧ s.rf R.XPORT_CFG F.XPORT_CFG_DEV_MODE ≠ 1 ∧ port < 16 ∧ i.devnum = s.dev ∧
    s.dev ≠ 0xFFFF) ∧ (∃ (s : State) (port : Nat) (sub : Nat) (i : Lldp), s.linkUp port sub = false) ∧ (∃ (s : State),
    s.rf R.XPORT_CFG F.XPORT_CFG_DEV_MODE ≠ 1) ∧ (∃ (s : State), s.rf R.XPORT_CFG F.XPORT_CFG_DEV_MODE = 1) ∧ (∃ (s : State),
    s.rf R.XPORT_CFG F.XPORT_CFG_DEV_MODE = 1 ∧ s.xport.peers = [] ∧
    s.latchFails [s.withDev (s.rf R.XPORT_ELECT F.XPORT_ELECT_ASSIGN_BASE)] false = []) ∧ (∃ (s : State),
    s.rf R.XPORT_CFG F.XPORT_CFG_DEV_MODE = 1 ∧ s.xport.peers = [] ∧
    s.latchFails [s.withDev (s.rf R.XPORT_ELECT F.XPORT_ELECT_ASSIGN_BASE)] false ≠ []) :=
    ⟨⟨pup, 2, by decide +kernel⟩, ⟨put (pup) [(R.PORT_CFG 2, F.PORT_CFG_MODE, 2), (R.PORT_STATUS 2, F.PORT_STATUS_LINK_B, 1)], 2,
    by decide +kernel⟩, ⟨up, 2, by decide +kernel⟩, ⟨put (pup) [(R.XPORT_NEXTHOP 2, F.XPORT_NEXTHOP_LEARN, 1)], 2, 0,
    { sub := 0, mac := 5, devnum := 9, portIndex := 1, generation := 0, serial := 77, linkMode := 1, linkFlags := 1, prio := 3, bestSerial := 77, assignDev := none, assignPrefix := 0 },
    by decide +kernel⟩, ⟨pup, 2, 0,
    { sub := 0, mac := 5, devnum := 9, portIndex := 1, generation := 1, serial := 77, linkMode := 1, linkFlags := 1, prio := 3, bestSerial := 77, assignDev := none, assignPrefix := 0 },
    by decide +kernel⟩, ⟨pup [(R.XPORT_CFG, F.XPORT_CFG_DEVNUM, 9)], 2, 0,
    { sub := 0, mac := 5, devnum := 9, portIndex := 1, generation := 1, serial := 77, linkMode := 1, linkFlags := 1, prio := 3, bestSerial := 77, assignDev := none, assignPrefix := 0 },
    by decide +kernel⟩, ⟨up, 2, 0,
    { sub := 0, mac := 5, devnum := 9, portIndex := 1, generation := 1, serial := 77, linkMode := 1, linkFlags := 1, prio := 3, bestSerial := 77, assignDev := none, assignPrefix := 0 },
    by decide +kernel⟩, ⟨up, by decide +kernel⟩,
    ⟨{ (put up [(R.XPORT_CFG, F.XPORT_CFG_DEV_MODE, 1), (R.XPORT_ELECT, F.XPORT_ELECT_PRIORITY, 128)]) with xport := { up.xport with peers := [(2, some { mac := 5, dev := 9, port := 1, gen := 1, serial := 77, prio := 3, best := 77 })] } },
    by decide +kernel⟩, ⟨put up [(R.XPORT_CFG, F.XPORT_CFG_DEV_MODE, 1)], by decide +kernel⟩, ⟨put up [(R.XPORT_CFG, F.XPORT_CFG_DEVNUM, 7),
    (R.XPORT_CFG, F.XPORT_CFG_ENABLE, 1), (R.XPORT_CFG, F.XPORT_CFG_DEV_MODE, 1), (R.XPORT_ELECT, F.XPORT_ELECT_ASSIGN_BASE, 1000)],
    by decide +kernel⟩⟩

/-- Hypotheses of BundlesComplete met. -/
theorem witness_BundlesComplete :
    (∃ (s : State) (w : Nat) (a : Nat) (len : Nat), Answers s = true ∧ w < 8 ∧ 256 ≤ len ∧ len ≤ 65536 ∧ s.inShared a len = true ∧
    s.wardState w ≠ 2) ∧ (∃ (s : State) (w : Nat) (a : Nat) (len : Nat), Answers s = true ∧ w < 8 ∧ s.wardState w = 2 ∧
    s.inShared a len = false) ∧ (∃ (s : State) (w : Nat) (a : Nat) (len : Nat) (r : State × List Byte × Nat), Answers s = true ∧ w < 8 ∧
    256 ≤ len ∧ len ≤ 65536 ∧ s.inShared a len = true ∧ s.wardState w = 2 ∧ s.uRead a len 0 false = r) :=
    ⟨⟨put up [(R.SEC_WARD_STATE 3, F.SEC_WARD_STATE_STATE, 1), (R.HOST_SHW, F.HOST_SHW_SIZE_32M, 8)], 3, 0, 256, by decide +kernel⟩,
    ⟨put up [(R.SEC_WARD_STATE 3, F.SEC_WARD_STATE_STATE, 2), (R.HOST_SHW, F.HOST_SHW_SIZE_32M, 8)], 3, 2 ^ 30, 256, by decide +kernel⟩,
    ⟨put up [(R.SEC_WARD_STATE 3, F.SEC_WARD_STATE_STATE, 2), (R.HOST_SHW, F.HOST_SHW_SIZE_32M, 8)], 3, 0, 256, (put up [(R.SEC_WARD_STATE 3,
    F.SEC_WARD_STATE_STATE, 2), (R.HOST_SHW, F.HOST_SHW_SIZE_32M, 8)]).uRead 0 256 0 false, by decide +kernel⟩⟩

/-! ## Well-formed commands -/

/-- A receiving port. -/
def rx0 : RxInfo := { port := 2, csumOk := true, tagOk := true, ce := false }
/-- A packet of zeros. -/
def pk0 : Packet := lp 0
/-- What a port's FEC has counted. -/
def fc0 : FecCounts := { words := 5, corrected := 1, uncorrectable := 0, lanes := [1] }
/-- An LLDP frame of a neighbour. -/
def ll0 : Lldp :=
  { sub := 0, mac := 5, devnum := 9, portIndex := 1, generation := 1, serial := 77, linkMode := 1, linkFlags := 1, prio := 3, bestSerial := 77, assignDev := none, assignPrefix := 0 }

/-- Each has one operand beyond its range. -/
theorem test_wf_refuses_0 : ([
    .registerWrite (.core 168) 0 0 0, .rcRead (.core 168) 0 0, .cellCheckFail 2 0 0, .cellCheckFail 0 8 0, .cellCheckFail 0 0 9,
    .parityRateLimit 2 0 0, .parityRateLimit 0 8 0, .parityRateLimit 0 0 9, .hingeSublinkDown 32, .rvInstruction 168 [], .ebreak 168,
    .tcStage 168, .tcLds 168 [], .tcPushs 168, .pushsUnstall 168, .tcDone 168, .scRead 168, .scWait 168, .scWaitRelease 168, .scAdd 168,
    .kenarisIllegal 168, .seqRun (.core 168) 0 false, .seqRun .mc 168 false, .seqHalt (.core 168) 0 false, .seqHalt .mc 168 false,
    .fgResume (.core 168) 0, .fgResume .mc 168, .fgFlush (.core 168) 0, .fgFlush .mc 168, .fillResume (.core 168) 0, .fillResume .mc 168,
    .fillFlush (.core 168) 0, .fillFlush .mc 168, .fillEnableWrite (.core 168) 0 false, .fillEnableWrite .mc 168 false,
    .syncCtrWrite (.core 168) 0 0 0, .syncCtrWrite .mc 168 0 0, .syncCtrWrite .mc 0 64 0, .imemWrite (.core 168) 0 0 0,
    .imemWrite .mc 168 0 0] : List Instr).all (fun i => !i.wf) = true := by decide +kernel

/-- Each has one operand beyond its range. -/
theorem test_wf_refuses_1 : ([
    .commandIssue 168 0, .commandIssue 0 2, .commandComplete 168 0, .commandComplete 0 8, .matmul 168 [], .conv 168 [],
    .weightLoadDone 168, .passStart 168 false, .passDone 168 false, .load 168 [], .store 168 [], .gather 168, .quant 168 [],
    .dequant 168 [], .sfn 168 [], .norm 168 [], .reduce 168 [], .rng 168, .optUpdate 168 [], .sync 168, .wait 168, .signal 168,
    .send 168 [], .sendQueue 168 [], .recv 168, .recvTimeout 168, .cqsend 168, .cadd 168, .cbegin 168, .cend 168,
    .sfnTableWrite (.core 168) 0 0 0, .sfnTableWrite .mc 128 0 0, .sfnTdescWrite (.core 168) 0 0 0, .sfnTdescWrite .mc 128 0 0,
    .sfnTdescWrite .mc 0 4 0, .sfnValidClearDone 128 0, .sfnValidClearDone 0 4, .sfnBcastWrite (.core 168) 0 0 0,
    .sfnBcastWrite .mc 2 0 0, .blockAccess (.core 168) 0 (.read 0 false) .ok] : List Instr).all (fun i => !i.wf) = true := by decide +kernel

/-- Each has one operand beyond its range. -/
theorem test_wf_refuses_2 : ([
    .blockAccess .mc (2 ^ 33) (.read 0 false) .ok, .blockAccess .mc 0 (.write 0 63 [1, 2]) .ok, .fillStart 2 0 0 0 0,
    .fillStart 0 8 0 0 0, .fillStart 0 0 (2 ^ 23) 0 0, .fillDone (2 ^ 23), .drainDone (2 ^ 23), .bankSlotGrant 8 0, .bankSlotGrant 0 4096,
    .walkEnable (.core 168) 0 0 0, .walkEnable .mc 2 0 0, .walkEnable .mc 0 8 0, .walkDisable (.core 168) 0 0, .walkDisable .mc 2 0,
    .walkDisable .mc 0 8, .walkResume (.core 168) 0 0, .walkResume .mc 2 0, .walkResume .mc 0 8, .walkEntryStart 2 0, .walkEntryStart 0 8,
    .walkFrameAvailable 2 0, .walkFrameAvailable 0 8, .walkEntryDone 2 0, .walkEntryDone 0 8, .tierOpMigrate (.core 168) 0 0 0 0,
    .tierOpMigrate .mc 2 0 0 0, .tierOpMigrate .mc 0 0 0 8, .tierOpEvict (.core 168) 0 0 0, .tierOpEvict .mc 2 0 0,
    .tierOpEvict .mc 0 0 8, .tierOpClean (.core 168) 0 0 0, .tierOpClean .mc 2 0 0, .tierOpClean .mc 0 0 8, .tierOpDone 2,
    .hbmLineRead (2 ^ 33) .good, .hbmLineWrite (2 ^ 33) 0 [] .good, .hbmLineWrite 0 64 [] .good, .msoOperation (2 ^ 33) 0 0 [] .good,
    .msoOperation 0 64 0 [] .good, .clearingDone 8 0] : List Instr).all (fun i => !i.wf) = true := by decide +kernel

/-- Each has one operand beyond its range. -/
theorem test_wf_refuses_3 : ([
    .clearingDone 0 65536, .bgClearStart 8, .refresh 8 0 0, .refresh 0 64 0, .refresh 0 0 64, .patrolRead 8 .good, .hbmTempReading 8 0,
    .hbmTempLost 8, .unfence (.core 168) 0, .unfence .mc 8, .pcRetrainStart (.core 168) 0 0, .pcRetrainStart .mc 8 0,
    .pcRetrainStart .mc 0 64, .pcRetrainDone 8 false, .regionReset (.core 168) 0 0 0, .regionReset .mc 8 0 0,
    .regionClearNow (.core 168) 0 0 0, .regionClearNow .mc 8 0 0, .regionCmdDone 8, .rxWrite ({ rx0 with port := 17 }) pk0,
    .rxWrite rx0 ({ pk0 with ver := 16 }), .rxReadReq ({ rx0 with port := 17 }) pk0, .rxReadReq rx0 ({ pk0 with ver := 16 }),
    .rxReadResp ({ rx0 with port := 17 }) pk0, .rxReadResp rx0 ({ pk0 with ver := 16 }), .rxSend ({ rx0 with port := 17 }) pk0,
    .rxSend rx0 ({ pk0 with ver := 16 }), .rxAtomic ({ rx0 with port := 17 }) pk0, .rxAtomic rx0 ({ pk0 with ver := 16 }),
    .rxAck ({ rx0 with port := 17 }) pk0, .rxAck rx0 ({ pk0 with ver := 16 }), .rxNak ({ rx0 with port := 17 }) pk0,
    .rxNak rx0 ({ pk0 with ver := 16 }), .rxProbe ({ rx0 with port := 17 }) pk0, .rxProbe rx0 ({ pk0 with ver := 16 }),
    .rxProbeEcho ({ rx0 with port := 17 }) pk0, .rxProbeEcho rx0 ({ pk0 with ver := 16 }), .rxCtrlAbort ({ rx0 with port := 17 }) pk0,
    .rxCtrlAbort rx0 ({ pk0 with ver := 16 }), .xportDoorbell (.core 168) 0 0] : List Instr).all (fun i => !i.wf) = true := by decide +kernel

/-- Each has one operand beyond its range. -/
theorem test_wf_refuses_4 : ([
    .xportDoorbell .mc (2 ^ 20) 0, .xportCqDoorbell (.core 168) 0 0, .xportCqDoorbell .mc (2 ^ 20) 0, .descWrite (2 ^ 20),
    .descRead (2 ^ 20), .descSend (2 ^ 20), .descAtomic (2 ^ 20), .descRecv (2 ^ 20), .descInvalid (2 ^ 20), .cqEntryWrite (2 ^ 20),
    .ctxCmdRead (.core 168) 0, .ctxCmdRead .mc (2 ^ 20), .ctxCmdWrite (.core 168) 0, .ctxCmdWrite .mc (2 ^ 20),
    .regionRegister (.core 168) 0 false false false, .regionRegister .mc 8 false false false, .regionDeregister (.core 168) 0,
    .regionDeregister .mc 8, .lldpTx 16, .lldpRx 16 ll0, .lldpRx 0 ({ ll0 with sub := 2 }), .lldpRx 0 ({ ll0 with mac := 2 ^ 48 }), .collAbortWrite (.core 168) 0,
    .portFrameRx 16 0 (fr .other) false, .portFrameRx 0 2 (fr .other) false, .portFrameRx 0 0 (fr .other 64 (some (4096, 0))) false,
    .portFrameTx 16 0, .portFrameTx 0 2, .arpNdRequest 16 0 false 0 0, .arpNdRequest 0 2 false 0 0, .icmpEcho 16 0 false 0 [],
    .icmpEcho 0 2 false 0 [], .rxPfc 16 0 0 0, .rxPfc 0 2 0 0, .pfcPauseExpiry 16 0, .rxPause 16 0, .rxPause 0 2, .pfcRefresh 16,
    .pfcStorm 16, .pfcStormEnd 16, .linkDown 16 0 none { alignLoss := false, fragment := false }] : List Instr).all (fun i => !i.wf) = true := by decide +kernel

/-- Each has one operand beyond its range. -/
theorem test_wf_refuses_5 : ([
    .linkDown 0 2 none { alignLoss := false, fragment := false }, .linkAligned 16 0, .linkAligned 0 2, .linkupHoldExpiry 16 0, .linkupHoldExpiry 0 2, .fecDegrade 16 fc0, .fecDegrade 0 ({ fc0 with lanes := List.replicate 9 0 }),
    .retime (.core 168) 0, .retime .mc 16, .parkWindow 16 0 0, .parkReq 16 0, .parkAck 16 0, .parkNak 16 0, .parkGo 16 0,
    .parkAnswerTimeout 16, .wake 16 0, .lanesLocked 16, .wakeAck 16 0, .wakeTimeout 16, .parkRefresh 16 0,
    .hostSnoop (2 ^ 35) .current none, .hostSnoop 0 .current none, .pmTolWrite (.core 168) 0, .governorDecision 2 0 1, .corrUpdate 2 1000, .supplySettled 128, .cellSupplySample 128 0,
    .neighbourHoldEnd 128 { other := 0, supply := false }, .neighbourHoldEnd 0 { other := 128, supply := false }, .droopDetect 128 0, .droopRecover 128, .stretchLimit 128, .droopStepEnd 128,
    .startGrant 168, .cellTempReading 128 0, .lsTempReading 2 0 0, .cellSensorLost 128, .wardOpen 256 0 0 0 0 0, .setPolicy 256 [],
    .installKey 256 [], .bundle 256 0 0, .linkKey 256 0 0 [] [] none, .unsealRing 256 0 0 0 0 0 0 0 none] : List Instr).all (fun i => !i.wf) = true := by decide +kernel

/-- Each has one operand beyond its range. -/
theorem test_wf_refuses_6 : ([
    .wardRelease 256, .wardRequestUnknown 0 256 [], .wardGateVerified 8, .gateFailTimeout 8 [], .txnBegin (.core 168),
    .txnFieldWrite (.core 168) 0 0, .txnLatch (.core 168) false, .txnRollback (.core 168), .fwInstall (.core 168) 0,
    .fwSwitchNext (.core 168), .fwSwitchLive (.core 168), .fwConfirm (.core 168), .fwInstallCal (.core 168) 0,
    .tagAccessRead (.core 168) 0, .tagAccessWrite (.core 168) 0, .leaseTx 2, .leaseRx 2 0, .leaseAckRx 2 0, .leaseNakRx 2 0,
    .handoffRx 2 0, .acceptRx 2 0, .leaseLapse 2, .leaseNoAck 2, .handoffStall 2, .orderTakeLead (.core 168) 0 0, .orderTakeLead .mc 2 0,
    .orderHandOff (.core 168) 0, .orderHandOff .mc 2, .hcHang 2, .alarmDequeue 5, .summaryDequeue 5, .evtNandRead (.core 168) 0 false,
    .railFault 16 0 0, .railDischarged 16, .railDischargeTimeout 16 0 0, .railInRegulation 16, .controllerRestartDone (.halfCtl 2),
    .refreshManagementRequest 8, .irqMinExpiry 64] : List Instr).all (fun i => !i.wf) = true := by decide +kernel

/-- With every operand in range. -/
theorem test_wf_takes_0 : ([
    .registerWrite .mc 0 0 0, .rcRead .mc 0 0, .cellCheckFail 0 0 0, .parityRateLimit 0 0 0, .hingeSublinkDown 0, .rvInstruction 0 [],
    .ebreak 0, .tcStage 0, .tcLds 0 [], .tcPushs 0, .pushsUnstall 0, .tcDone 0, .scRead 0, .scWait 0, .scWaitRelease 0, .scAdd 0,
    .kenarisIllegal 0, .seqRun .mc 0 false, .seqHalt .mc 0 false, .fgResume .mc 0, .fgFlush .mc 0, .fillResume .mc 0, .fillFlush .mc 0,
    .fillEnableWrite .mc 0 false, .syncCtrWrite .mc 0 0 0, .imemWrite .mc 0 0 0, .commandIssue 0 0, .commandComplete 0 0, .matmul 0 [],
    .conv 0 [], .weightLoadDone 0, .passStart 0 false, .passDone 0 false, .load 0 [], .store 0 [], .gather 0, .quant 0 [], .dequant 0 [],
    .sfn 0 [], .norm 0 []] : List Instr).all Instr.wf = true := by decide +kernel

/-- With every operand in range. -/
theorem test_wf_takes_1 : ([
    .reduce 0 [], .rng 0, .optUpdate 0 [], .sync 0, .wait 0, .signal 0, .send 0 [], .sendQueue 0 [], .recv 0, .recvTimeout 0, .cqsend 0,
    .cadd 0, .cbegin 0, .cend 0, .sfnTableWrite .mc 0 0 0, .sfnTdescWrite .mc 0 0 0, .sfnValidClearDone 0 0, .sfnBcastWrite .mc 0 0 0,
    .blockAccess .mc 0 (.read 0 false) .ok, .fillStart 0 0 0 0 0, .fillDone 0, .drainDone 0, .bankSlotGrant 0 0, .walkEnable .mc 0 0 0,
    .walkDisable .mc 0 0, .walkResume .mc 0 0, .walkEntryStart 0 0, .walkFrameAvailable 0 0, .walkEntryDone 0 0,
    .tierOpMigrate .mc 0 0 0 0, .tierOpEvict .mc 0 0 0, .tierOpClean .mc 0 0 0, .tierOpDone 0, .hbmLineRead 0 .good,
    .hbmLineWrite 0 0 [] .good, .msoOperation 0 0 0 [] .good, .clearingDone 0 0, .bgClearStart 0, .refresh 0 0 0, .patrolRead 0 .good] : List Instr).all Instr.wf = true := by decide +kernel

/-- With every operand in range. -/
theorem test_wf_takes_2 : ([
    .hbmTempReading 0 0, .hbmTempLost 0, .unfence .mc 0, .pcRetrainStart .mc 0 0, .pcRetrainDone 0 false, .regionReset .mc 0 0 0,
    .regionClearNow .mc 0 0 0, .regionCmdDone 0, .rxWrite rx0 pk0, .rxReadReq rx0 pk0, .rxReadResp rx0 pk0, .rxSend rx0 pk0,
    .rxAtomic rx0 pk0, .rxAck rx0 pk0, .rxNak rx0 pk0, .rxProbe rx0 pk0, .rxProbeEcho rx0 pk0, .rxCtrlAbort rx0 pk0,
    .xportDoorbell .mc 0 0, .xportCqDoorbell .mc 0 0, .descWrite 0, .descRead 0, .descSend 0, .descAtomic 0, .descRecv 0, .descInvalid 0,
    .cqEntryWrite 0, .ctxCmdRead .mc 0, .ctxCmdWrite .mc 0, .regionRegister .mc 0 false false false, .regionDeregister .mc 0, .lldpTx 0,
    .lldpRx 0 ll0, .collAbortWrite .mc 0, .portFrameRx 0 0 (fr .other) false, .portFrameTx 0 0, .arpNdRequest 0 0 false 0 0,
    .icmpEcho 0 0 false 0 [], .rxPfc 0 0 0 0, .pfcPauseExpiry 0 0] : List Instr).all Instr.wf = true := by decide +kernel

/-- With every operand in range. -/
theorem test_wf_takes_3 : ([
    .rxPause 0 0, .pfcRefresh 0, .pfcStorm 0, .pfcStormEnd 0, .linkDown 0 0 none { alignLoss := false, fragment := false }, .linkAligned 0 0, .linkupHoldExpiry 0 0,
    .fecDegrade 0 fc0, .retime .mc 0, .parkWindow 0 0 0, .parkReq 0 0, .parkAck 0 0, .parkNak 0 0, .parkGo 0 0, .parkAnswerTimeout 0,
    .wake 0 0, .lanesLocked 0, .wakeAck 0 0, .wakeTimeout 0, .parkRefresh 0 0, .hostSnoop (2 ^ 34) .current none, .pmTolWrite .mc 0,
    .governorDecision 0 0 1, .supplySettled 0, .cellSupplySample 0 0, .neighbourHoldEnd 0 { other := 0, supply := false }, .droopDetect 0 0, .droopRecover 0,
    .stretchLimit 0, .droopStepEnd 0, .startGrant 0, .cellTempReading 0 0, .lsTempReading 0 0 0, .cellSensorLost 0, .wardOpen 0 0 0 0 0 0,
    .setPolicy 0 [], .installKey 0 [], .bundle 0 0 0, .linkKey 0 0 0 [] [] none, .unsealRing 0 0 0 0 0 0 0 0 none] : List Instr).all Instr.wf = true := by decide +kernel

/-- With every operand in range. -/
theorem test_wf_takes_4 : ([
    .wardRelease 0, .wardRequestUnknown 0 0 [], .wardGateVerified 0, .gateFailTimeout 0 [], .txnBegin .mc, .txnFieldWrite .mc 0 0,
    .txnLatch .mc false, .txnRollback .mc, .fwInstall .mc 0, .fwSwitchNext .mc, .fwSwitchLive .mc, .fwConfirm .mc, .fwInstallCal .mc 0,
    .tagAccessRead .mc 0, .tagAccessWrite .mc 0, .leaseTx 0, .leaseRx 0 0, .leaseAckRx 0 0, .leaseNakRx 0 0, .handoffRx 0 0,
    .acceptRx 0 0, .leaseLapse 0, .leaseNoAck 0, .handoffStall 0, .orderTakeLead .mc 0 0, .orderHandOff .mc 0, .hcHang 0, .alarmDequeue 0,
    .summaryDequeue 0, .evtNandRead .mc 0 false, .railFault 0 0 0, .railDischarged 0, .railDischargeTimeout 0 0 0, .railInRegulation 0,
    .controllerRestartDone .moduleCtl, .refreshManagementRequest 0, .irqMinExpiry 0, .hostLinkL1Change false] : List Instr).all Instr.wf = true := by decide +kernel

/-- Each header field beyond its width. -/
theorem test_packet_wf_refuses : ([
    { pk0 with ver := 16 }, { pk0 with typ := 16 }, { pk0 with srcDev := 2 ^ 16 }, { pk0 with dstDev := 2 ^ 16 },
    { pk0 with dstQueue := 2 ^ 20 }, { pk0 with srcQueue := 2 ^ 20 }, { pk0 with msgId := 2 ^ 32 }, { pk0 with pktIndex := 2 ^ 20 },
    { pk0 with xmit := 16 }, { pk0 with ctrlOp := 256 }, { pk0 with regionKey := 2 ^ 32 }, { pk0 with accessKey := 2 ^ 32 },
    { pk0 with keyId := 2 ^ 16 }, { pk0 with offset := 2 ^ 48 }, { pk0 with msgLen := 2 ^ 32 }, { pk0 with status := 256 },
    { pk0 with collId := 2 ^ 16 }, { pk0 with payload := zeros 4097 }] : List Packet).all (fun p => !p.wf) = true := by decide +kernel

/-- TLV fields. -/
theorem test_lldp_wf_refuses : ([
    { ll0 with mac := 2 ^ 48 }, { ll0 with devnum := 2 ^ 16 }, { ll0 with portIndex := 256 }, { ll0 with prio := 256 }] : List Lldp).all (fun p => !p.wf) = true := by decide +kernel

/-- Tags and contents of frames. -/
theorem test_frame_wf_refuses : ([
    fr .other 64 (some (4096, 0)), fr .other 64 (some (0, 8)), fr (.sirri iph { pk0 with xmit := 16 }), fr (.sirri { iph with ecn := 4 } pk0), fr (.pfc 256 0), fr (.pfc 0 65536),
    fr (.parking 256 0), fr (.parking 0 65536)] : List Frame).all (fun p => !p.wf) = true := by decide +kernel

/-- Line accesses. -/
theorem test_access_wf_refuses : ([
    .read 4 false, .write 4 0 [1], .write 0 0 [], .write 0 63 [1, 2], .atomic 64 0 [], .atomic 0 0 (zeros 129)] : List LineAccess).all (fun p => !p.wf) = true := by decide +kernel

/-- Requesters and controllers. -/
theorem test_requester_wf_refuses :
    ([.hc 2, .core 168] : List Requester).all (fun r => !r.wf) = true ∧ (Controller.halfCtl 2).wf = false ∧ ({ rx0 with port := 17 } : RxInfo).wf = false := by
  decide +kernel

/-- No row of the table gives bits, so no word spells a command and a state is unchanged. -/
theorem test_no_word_spells_a_command : decodeTableWord 32 0x13 = none ∧ up.withFetchWord 32 0x13 = up := by decide +kernel

/-! ## Worked examples of the spec -/

/-- The FP32 row of the worked example of chapter 4: 1000.0, −3.3, 0.01, −250.0, 0.0, 1.0 × 10^−5, 37.0 and −0.0015. -/
def exampleRow : List FVal :=
  [0x447A0000, 0xC0533333, 0x3C23D70A, 0xC37A0000, 0x00000000, 0x3727C5AC, 0x42140000, 0xBAC49BA6].map f32

/-- Chapter 4: the scale bytes 0x81 and, with SCALE_ADJ −1, 0x80. -/
theorem test_example_scales : computeScale 4 0 exampleRow = 0x81 ∧ computeScale 4 (-1) exampleRow = 0x80 := by decide +kernel

/-- Chapter 4: codes and categories (0 NORM, 1 SUBN, 2 ZERO, 3 SAT) with scale 4. -/
theorem test_example_quant_4 : exampleRow.map (fun v => roundTo 4 0 0 (v.scale (-2))) =
    [(0x78, 0), (0xB5, 0), (0x01, 1), (0xE8, 0), (0x00, 0), (0x00, 2), (0x51, 0), (0x80, 2)] := by decide +kernel

/-- Chapter 4: with scale 2. -/
theorem test_example_quant_2 : exampleRow.map (fun v => roundTo 4 0 0 (v.scale (-1))) =
    [(0x7E, 3), (0xBD, 0), (0x03, 1), (0xF0, 0), (0x00, 0), (0x00, 2), (0x59, 0), (0x80, 2)] := by decide +kernel

/-- Chapter 4: mode 3 writes 9.25 as 10 when its random bits are below 0x4000. -/
theorem test_example_stochastic :
    ((roundTo 4 3 0x3FFF (.fin false 37 (-2))).1, (roundTo 4 3 0x4000 (.fin false 37 (-2))).1) = (0x52, 0x51) := by decide +kernel

/-- Chapter 4: the same row widened to BF16. -/
theorem test_example_dequant :
    [0x78, 0xB5, 0x01, 0xE8, 0x00, 0x51, 0x80].map (fun c => roundTo 1 1 0 ((decodeElem 4 c).scale 2)) =
    [(0x4480, 0), (0xC050, 0), (0x3C00, 0), (0xC380, 0), (0x0000, 0), (0x4210, 0), (0x8000, 0)] := by decide +kernel

/-- R131: four FP6 E3M2 codes in three bytes. -/
theorem test_packs_six_bit_codes : packElems 5 [1, 2, 3, 4] = [0x81, 0x30, 0x10] ∧ unpackElems 5 4 [0x81, 0x30, 0x10] = [1, 2, 3, 4] := by
  decide +kernel

/-- Chapter 5: exp(1.5) = 4.481689 rounds to 0x408F in BF16 and, with RND 0, to 0x49 in E4M3. -/
theorem test_example_exp_rounding :
    ((roundTo 1 1 0 (.fin false 4481689 (-20))).2, (roundTo 1 1 0 (f32 0x408F69FF)).1, (roundTo 4 0 0 (f32 0x408F69FF)).1) = (0, 0x408F, 0x49) := by
  decide +kernel

/-- R24: the windows of logical cell 127 and of the controller of stack 6. -/
theorem test_window_examples : R.CELL_SEQ_CTRL 127 / 0x20000 * 0x20000 = 0x08FE0000 ∧ R.MEM_SCRUB_CTRL 6 / 0x400000 * 0x400000 = 0x50800000 := by
  decide +kernel

/-- R251: MEM_REGION_STATE_1557 of stack 1. -/
theorem test_region_state_example : R.MEM_REGION_STATE 1 1557 = 0x105030A8 := by decide +kernel

/-- R22, R233: the line of chapter 7's example lies in region 1,557 of stack 1. -/
theorem test_home_of_example_line : homeStack 0x00030ABCD5C0 = 1 ∧ regionKey 0x00030ABCD5C0 = 65536 + 1557 := by decide +kernel

/-- R14: unset lines and one poisoned line give POISON, unset and written ones UNSET, written ones OK. -/
theorem test_status_examples : worstOf [0, 1, 2, 1] = St.poison ∧ worstOf [0, 1, 0] = St.unset ∧ worstOf [0, 0] = St.ok := by decide +kernel

/-- R112: a target is reached up to 32,767 counts later, across the wrap. -/
theorem test_counter_reached : (reached 3 65535, reached 65535 3, reached 0x8000 0, reached 0x7FFF 0) = (true, false, false, true) := by decide +kernel

/-- R128: specials of E4M3 and E5M2, and an INT4 code. -/
theorem test_decode_specials :
    (decodeElem 4 0x7F, decodeElem 3 0x7C, decodeElem 3 0xFD, decodeElem 9 0xF) = (.nan, .inf false, .nan, .fin true 1 0) := by decide +kernel

/-! ## One step -/

/-- A register field after one step. -/
def stepRf (s : State) (c : Instr) (a : Nat) (f : Fld) : Option Nat :=
  match step { s with pending := [c] } with
  | .next t => some (t.rf a f)
  | _ => none

/-- Something of the state after one step. -/
def after {α : Type} (s : State) (c : Instr) (f : State → α) : Option α :=
  match step { s with pending := [c] } with
  | .next t => some (f t)
  | _ => none

/-- The front command is taken from the queue. -/
theorem test_step_takes_the_front : after up .refLockLost (fun t => (t.pending.length, t.clk.lock)) = some (0, false) := by decide +kernel

/-- An empty queue idles. -/
theorem test_step_idles : (match step up with | .next t => some (t.now, t.pending.length) | _ => none) = some (1, 0) := by decide +kernel

/-- ADDI x5, x6, −1 with x6 = 0 wraps to 2^32 − 1. -/
theorem test_addi_wraps : after (prog 0xFFF30293 id) (.rvInstruction 3 []) (fun t => ((t.core 3).rx 5, (t.core 3).pc)) = some (0xFFFFFFFF, 4) := by
  decide +kernel

/-- DIV of −2^31 by −1 gives −2^31 (the RISC-V standard). -/
theorem test_div_overflow :
    after (prog 0x027342B3 (fun c => { c with x := [(6, 0x80000000), (7, 0xFFFFFFFF)] })) (.rvInstruction 3 []) (fun t => (t.core 3).rx 5) =
      some 0x80000000 := by decide +kernel

/-- A write to x0 is discarded. -/
theorem test_x0_stays_zero : after (prog 0x00500013 id) (.rvInstruction 3 []) (fun t => (t.core 3).rx 0) = some 0 := by decide +kernel

/-- R85: EBREAK halts with the PC at the EBREAK. -/
theorem test_ebreak_halts : after (prog 0x00100073 id) (.ebreak 3) (fun t => ((t.core 3).halted, (t.core 3).pc)) = some (true, 0) := by
  decide +kernel

/-- R30: after REF_LOST the main clocks are off. -/
theorem test_holdover_stops_the_clocks :
    after { up with clk := { up.clk with lock := false } } .refHoldoverExpiry (fun t => (t.clk.on, t.clk.lost)) = some (false, true) := by decide +kernel

/-- R40: cell 83 becomes absent when its physical cell fails. -/
theorem test_failed_cell_is_absent :
    after (put up [(R.HALF_CELL_MAP 1, F.HALF_CELL_MAP_SUBST 2, 3)]) (.cellCheckFail 1 2 8) (fun t => t.absent 83) = some true := by decide +kernel

/-- R334: a frame of 63 bytes counts as RX_UNDERSIZE (counter 15) and is dropped. -/
theorem test_short_frame :
    after pup (.portFrameRx 2 0 (fr .other 63) true) (fun t => (t.reg (R.PORT_RX_COUNTER 2 15), (t.port 2).rxq.length)) = some (1, 0) := by decide +kernel

/-- R351: a counter rolls over and raises CTR_HALF, which names the counter's offset. -/
theorem test_counter_rolls_over :
    after ((pup).setReg (R.PORT_RX_COUNTER 2 19) 0xFFFFFFFFFFFF) (.rxPause 2 0) (fun t => (t.reg (R.PORT_RX_COUNTER 2 19), (t.path 2).queue.map (fun r => (r.code, r.addr)))) =
      some (0, [(0x1906, 0x1098)]) := by decide +kernel

/-- R348: PARK_REQ crossing the port's own parks it. -/
theorem test_crossing_requests :
    after ((put pup [(R.PORT_STATUS 2, F.PORT_STATUS_PARK_STATE, 1)]).setPort 2 { reqSeq := some 4 }) (.parkReq 2 9) (fun t => t.parkState 2) = some 2 := by
  decide +kernel

/-- R372: before the link the host is answered with BOUNDS. -/
theorem test_host_without_link : after State.reset (.hostBar0Access true R.PWR_CAP 8 5) (fun t => t.resp.status) = some 5 := by decide +kernel

/-- R359: vendor and device identifiers. -/
theorem test_config_identifiers : after (put up [(R.HOST_LINK_STATUS, F.HOST_LINK_STATUS_RRS, 0)]) (.hostConfigRequest false 0 0) (fun t => t.resp.val) = some 0x01281F5B := by decide +kernel

/-- R362: BAR4 is not read; HOST_ERR names BAR4. -/
theorem test_bar4_read : stepRf up (.hostBar4Read 64) R.HOST_ERR F.HOST_ERR_SOURCE = some 2 := by decide +kernel

/-- R229: a read of an UNSET region gives zeros and UNSET. -/
theorem test_unset_read : after { up with mem := { up.mem with regions := [(0, { owner := 0 })] } } (.hbmLineRead 5 .good) (fun t => (t.resp.status, t.resp.bytes)) = some (1, zeros 64) := by decide +kernel

/-- R231: an uncorrectable error poisons the line, and a full write ends it. -/
theorem test_poison : after (warded []) (.hbmLineRead 1025 .uncorrectable) (fun t => (t.resp.status, t.mark 1025)) = some (2, .poison) := by decide +kernel

/-- R7: an access of 4 bytes is refused. -/
theorem test_register_access_size : after up (.registerWrite .mc R.PWR_CAP 4 5) (fun t => t.resp.status) = some 5 := by decide +kernel

/-- R9: a TXN field is not written without a transaction. -/
theorem test_txn_field : after up (.registerWrite .mc (R.PORT_CFG 2) 8 0) (fun t => (t.resp.status, t.reg (R.PORT_CFG 2))) =
    some (5, up.reg (R.PORT_CFG 2)) := by decide +kernel


end Sys2Proof.Tests
end

section
/-! PROOFS. The order of statuses (R14): `worst` is the minimum under `statusRank`, and the rank tells the statuses of R13 apart. -/

namespace Sys2Proof.Machine

open Sys2Proof

/-- `worst` keeps its first operand exactly when the second does not rank before it. -/
theorem worst_eq_left_iff {a b : Nat} : worst a b = a ↔ statusRank a ≤ statusRank b := by
  unfold worst
  split
  next h => exact ⟨fun e => by rw [e], fun hle => absurd h (Nat.not_lt.2 hle)⟩
  next h => simp [Nat.not_lt.1 h]

/-- The status reported ranks no later than either of the two. -/
theorem statusRank_worst (a b : Nat) : statusRank (worst a b) = min (statusRank a) (statusRank b) := by
  unfold worst
  split <;> omega

/-- OK ranks last. -/
theorem statusRank_le_ok (a : Nat) : statusRank a ≤ statusRank St.ok := by
  unfold statusRank
  split <;> decide

/-- OK beside a status adds nothing. -/
@[simp] theorem worst_ok_right (a : Nat) : worst a St.ok = a := worst_eq_left_iff.2 (statusRank_le_ok a)

/-- Two statuses of R13 with the same place in R14 are the same. -/
theorem eq_of_statusRank_eq {a b : Nat} (ha : a ≤ 12) (hb : b ≤ 12) (h : statusRank a = statusRank b) : a = b := by
  have key : ∀ x < 13, ∀ y < 13, statusRank x = statusRank y → x = y := by decide
  exact key a (by omega) b (by omega) h

/-- The status reported is one of the two. -/
theorem worst_eq_or (a b : Nat) : worst a b = a ∨ worst a b = b := by
  unfold worst
  split
  · exact .inr rfl
  · exact .inl rfl

/-- Folding `worst` over a list gives the start or one of the list. -/
theorem foldl_worst_mem (l : List Nat) : ∀ a : Nat, l.foldl worst a ∈ a :: l := by
  induction l with
  | nil => simp
  | cons b l ih =>
    intro a
    rw [List.foldl_cons]
    rcases List.mem_cons.1 (ih (worst a b)) with hfirst | hrest
    · rcases worst_eq_or a b with h | h <;> rw [hfirst, h] <;> simp
    · simp [hrest]

/-- Neither the start nor any of the list ranks before the result of the fold. -/
theorem statusRank_foldl_worst_le (l : List Nat) : ∀ a : Nat, ∀ x ∈ a :: l, statusRank (l.foldl worst a) ≤ statusRank x := by
  induction l with
  | nil => simp
  | cons b l ih =>
    intro a x hx
    have hrank := statusRank_worst a b
    have hfirst := ih (worst a b) (worst a b) List.mem_cons_self
    rw [List.foldl_cons]
    simp only [List.mem_cons] at hx
    rcases hx with rfl | rfl | hx
    · omega
    · omega
    · exact ih _ x (List.mem_cons_of_mem _ hx)

/-- The status reported of a list is OK or one of the list. -/
theorem worstOf_mem (l : List Nat) : worstOf l ∈ St.ok :: l := foldl_worst_mem l St.ok

/-- No status of the list ranks before the one reported. -/
theorem statusRank_worstOf_le {l : List Nat} {x : Nat} (hx : x ∈ St.ok :: l) : statusRank (worstOf l) ≤ statusRank x :=
  statusRank_foldl_worst_le l St.ok x hx

/-- The status reported of statuses of R13 is a status of R13. -/
theorem worstOf_le {l : List Nat} (h : ∀ x ∈ l, x ≤ 12) : worstOf l ≤ 12 := by
  rcases List.mem_cons.1 (worstOf_mem l) with e | hl
  · rw [e]; decide
  · exact h _ hl

/-- What is reported does not depend on the order of the list. -/
theorem worstOf_perm {l m : List Nat} (h : ∀ x ∈ l, x ≤ 12) (hp : l.Perm m) : worstOf l = worstOf m := by
  have hp' : (St.ok :: l).Perm (St.ok :: m) := hp.cons _
  have hm : ∀ x ∈ m, x ≤ 12 := fun x hx => h x (hp.mem_iff.2 hx)
  refine eq_of_statusRank_eq (worstOf_le h) (worstOf_le hm) (Nat.le_antisymm ?_ ?_)
  · exact statusRank_worstOf_le (hp'.mem_iff.2 (worstOf_mem m))
  · exact statusRank_worstOf_le (hp'.mem_iff.1 (worstOf_mem l))

/-- Settles O8: `worst` is the minimum under `statusRank`, and the rank is one-to-one on the statuses of R13. -/
theorem statusOrder : Obligations.StatusOrder := by
  unfold Obligations.StatusOrder
  refine ⟨by decide, fun l _ => ⟨worstOf_mem l, fun x hx => ?_⟩, fun l m h hp => worstOf_perm h hp⟩
  exact worst_eq_left_iff.2 (statusRank_worstOf_le (List.mem_cons_of_mem _ hx))

end Sys2Proof.Machine
end

section
/-! PROOFS. The store of a core and its issued commands: what a read returns after a write, what a write leaves unchanged, and what a change
of phase does to the cores. -/

namespace Sys2Proof.Machine

open Sys2Proof Sys2Proof.Safety

variable {s : State}

/-! ## The store of a core -/

@[simp] theorem length_leBytes (n : Nat) : ∀ v : Nat, (leBytes n v).length = n := by
  induction n with
  | zero => intro v; rfl
  | succ n ih => intro v; rw [leBytes, List.length_cons, ih]

/-- Reading the bytes that were just written. -/
theorem bytesAt_putBytes_self (bs : List Byte) : ∀ (m : List Host.Cell) (a : Nat), bytesAt (putBytes m a bs) a bs.length = bs := by
  induction bs with
  | nil => intro m a; rfl
  | cons x bs ih =>
    intro m a
    have hfirst : byteAt (putBytes m a (x :: bs)) a = x := by simpa using byteAt_putBytes_at (x :: bs) m a 0 (by simp)
    rw [List.length_cons, bytesAt, hfirst, putBytes, ih]

/-- A core's store reads as it was last written. -/
theorem State.csBytes_csWrite_self (k off : Nat) (bs : List Byte) : (s.csWrite k off bs).csBytes k off bs.length = bs :=
  bytesAt_putBytes_self bs _ _

theorem State.csWrite_aborting (k off : Nat) (bs : List Byte) (j : Nat) : (s.csWrite k off bs).aborting j = s.aborting j := rfl

theorem State.csWrite_ctxCached (k off : Nat) (bs : List Byte) (q : Nat) : (s.csWrite k off bs).ctxCached q = s.ctxCached q := rfl

/-- A write to a core's store changes no byte outside it. -/
theorem State.csWrite_storeFrame (k off : Nat) (bs : List Byte) : StoreFrame s (s.csWrite k off bs) k [(off, bs.length)] :=
  fun _ ha => byteAt_putBytes_ne bs _ _ (ha _ List.mem_cons_self)

@[simp] theorem length_recvRecord (len st src : Nat) : (recvRecord len st src).length = 8 := length_leBytes 8 _

/-! ## Cores and their issued commands -/

@[simp] theorem State.setCore_core_self (k : Nat) (c : Core) : (s.setCore k c).core k = c := mget_mset_self _ _ k c

theorem State.setCore_core_ne {j k : Nat} (c : Core) (h : j ≠ k) : (s.setCore k c).core j = s.core j := mget_mset_ne _ _ _ c h

/-- `c'` is `c` with the issued commands `l`; only the unit accounting of R67 and R121 may differ besides. -/
def Core.Reissued (c : Core) (l : List Issued) (c' : Core) : Prop :=
  c'.issued = l ∧ c' = { c with
    issued := c'.issued, busy := c'.busy, busySince := c'.busySince
    actBase := c'.actBase, actSince := c'.actSince, wantGrant := c'.wantGrant }

theorem Core.withIssued_reissued (c : Core) (now : Nat) (slope : Bool) (l : List Issued) :
    c.Reissued l (c.withIssued now slope l) := by
  unfold Core.withIssued
  refine List.foldlRecOn (motive := c.Reissued l) _ _ ?_ fun x ⟨hl, hx⟩ u _ => ?_
  · dsimp only
    split <;> exact ⟨rfl, rfl⟩
  · split
    · exact ⟨hl, hx⟩
    · split
      · exact ⟨hl, by rw [hx]⟩
      · exact ⟨hl, by rw [hx]⟩

/-- A change of phase is what `Ended` says of the cores. -/
theorem State.setPhase_ended (s : State) (k ord : Nat) (p : Phase) : Ended s (s.setPhase k ord p) k ord p := by
  obtain ⟨hl, hc⟩ := (s.core k).withIssued_reissued (s.ck k) s.slope
    ((s.core k).issued.map (fun e => if e.ord = ord then { e with phase := p } else e))
  have hcore : (s.setPhase k ord p).core k = _ := State.setCore_core_self k _
  exact ⟨by rw [hcore, hl], by rw [hcore]; exact hc, fun j hj => State.setCore_core_ne _ hj⟩

end Sys2Proof.Machine
end

section
/-! PROOFS. Queue contexts (R297) in the cache, and what the transport's operations leave unchanged beside them. -/

namespace Sys2Proof.Machine

open Sys2Proof Sys2Proof.Safety

variable {r s : State} {q : Nat} {c : Ctx}

/-- What may differ after accesses to memory, as one equation. -/
theorem MemFrame.eq (h : MemFrame r s) : s = { r with mem := s.mem, regs := s.regs, evt := s.evt, free := s.free } := by
  rw [← h.pending, ← h.now, ← h.rnd, ← h.resp, ← h.clk, ← h.cores, ← h.mesh, ← h.xport, ← h.ports, ← h.sup, ← h.jtag, ← h.nv, ← h.mgt,
    ← h.pwr, ← h.sec]

theorem MemFrame.modX (h : MemFrame r s) (f : Xport → Xport) : MemFrame (r.modX f) (s.modX f) :=
  { h with xport := congrArg f h.xport, regs := h.regs }

/-! ## The cache -/

theorem State.ctx_of_cached (h : s.ctxCached q = some c) : s.ctx q = c := by rw [State.ctx, h, Option.getD_some]

/-- A context kept is in the cache. -/
@[simp] theorem State.ctxKeep_ctxCached_self (s : State) (q : Nat) (c : Ctx) : (s.ctxKeep q c).ctxCached q = some c := by
  simp [State.ctxKeep, State.modX, State.ctxCached]

@[simp] theorem State.ctxKeep_ctx_self (s : State) (q : Nat) (c : Ctx) : (s.ctxKeep q c).ctx q = c :=
  State.ctx_of_cached (State.ctxKeep_ctxCached_self s q c)

/-- A context in the cache is not read from memory. -/
theorem State.ctxLoad_of_cached (h : s.ctxCached q = some c) : s.ctxLoad q = (s.ctxKeep q c, St.ok) := by
  rw [State.ctxLoad, h]

/-- A context reads the same from the same transport. -/
theorem State.ctx_congr (h : s.xport = r.xport) (q : Nat) : s.ctx q = r.ctx q := by
  rw [State.ctx, State.ctx, State.ctxCached, State.ctxCached, h]

/-- Writing a context through to memory is an access to memory beside the cache. -/
theorem State.ctxPut_mframe (s : State) (q : Nat) (c : Ctx) : MemFrame (s.ctxKeep q c) (s.ctxPut q c) :=
  State.uWrite_mframe _ _ _ _ (MemFrame.refl _)

/-- A context whose signal is off signals nothing. -/
theorem State.ctxSignal_of_off (h : bitAt (s.ctx q).w7.toNat 6 = false) : s.ctxSignal q = s := by
  simp [State.ctxSignal, h]

/-! ## Interrupts -/

/-- An interrupt touches the event machinery only. -/
theorem State.irq_frame (s : State) (v minUs : Nat) : s.irq v minUs = { s with evt := (s.irq v minUs).evt } := by
  unfold State.irq
  split <;> rfl

theorem State.cqIrq_frame (s : State) (q : Nat) : s.cqIrq q = { s with evt := (s.cqIrq q).evt } := by
  unfold State.cqIrq
  refine List.foldlRecOn (motive := fun t : State => t = { s with evt := t.evt }) _ _ rfl fun t ht i _ => ?_
  dsimp only
  split
  · rw [State.irq_frame, ht]
  · exact ht

@[simp] theorem State.cqIrq_xport (s : State) (q : Nat) : (s.cqIrq q).xport = s.xport := by rw [State.cqIrq_frame]

@[simp] theorem State.cqIrq_cores (s : State) (q : Nat) : (s.cqIrq q).cores = s.cores := by rw [State.cqIrq_frame]

@[simp] theorem State.cqIrq_ctx (s : State) (q p : Nat) : (s.cqIrq q).ctx p = s.ctx p := State.ctx_congr (State.cqIrq_xport s q) p

end Sys2Proof.Machine
end

section
/-! PROOFS. Descriptors, completion entries, and SEND and RECV through queues (R299 to R302). -/

namespace Sys2Proof.Machine

open Sys2Proof Sys2Proof.Safety

variable {s s1 : State} {q : Nat} {d : Desc}

/-! ## Descriptors (R299) -/

/-- Queue `q` takes descriptor `d` now; reading it from the ring leaves `s1`. -/
structure DescTurn (s : State) (q : Nat) (d : Desc) (s1 : State) : Prop where
  clk : s.clk.on = true
  ready : (s.ctxLoad q).1.descReady q = true
  next : (s.ctxLoad q).1.descNext q = (s1, d, St.ok)

/-- A descriptor of the kind asked for is taken and run. -/
theorem DescTurn.descRun {p : Desc → Nat → Bool} (h : DescTurn s q d s1) (f : State → Desc → Nat → State) (hp : p d St.ok = true) :
    s.descRun q p f = f (s1.descTaken q) d St.ok := by
  simp only [State.descRun, h.ready, h.next, hp, if_true]

/-- A descriptor of the OP asked for, whose data lies in the queue's ward, is taken and run. -/
theorem DescTurn.descDo {op : Nat} (h : DescTurn s q d s1) (f : State → Desc → State) (hbad : d.bad = false) (hop : d.op = op)
    (hloc : (s1.descTaken q).localBad q d.loc d.len = false) : s.descDo q op f = f (s1.descTaken q) d := by
  rw [State.descDo, h.descRun _ (by simp [hbad, hop]), hloc]
  rfl

/-- The same as the commands run it, behind their clock. -/
theorem DescTurn.clocked_descDo {op : Nat} (h : DescTurn s q d s1) (f : State → Desc → State) (hbad : d.bad = false) (hop : d.op = op)
    (hloc : (s1.descTaken q).localBad q d.loc d.len = false) : (if !s.clk.on then s else s.descDo q op f) = f (s1.descTaken q) d := by
  rw [h.clk, h.descDo f hbad hop hloc]
  rfl

/-- A queue that is not ready takes nothing. -/
theorem State.descDo_of_not_ready (op : Nat) (f : State → Desc → State) (h : (s.ctxLoad q).1.descReady q = false) :
    s.descDo q op f = (s.ctxLoad q).1 := by
  simp only [State.descDo, State.descRun, h, Bool.false_eq_true, if_false]

/-- A queue whose PROD and CONS agree has no descriptor. -/
theorem State.descReady_of_empty (h : (s.ctx q).prod = (s.ctx q).cons) : s.descReady q = false := by
  simp [State.descReady, h]

/-- The status of a bad descriptor that could be read (R14). -/
theorem State.badDescSt_ok (s : State) (q : Nat) (d : Desc) :
    s.badDescSt q d St.ok = if s.localBad q d.loc (max 1 d.len) then St.wardFault else St.bounds := by
  unfold State.badDescSt
  cases s.localBad q d.loc (max 1 d.len) <;> rfl

/-- A DESC_WRITE for a queue without a descriptor only brings its context in. -/
theorem exec_descWrite_of_empty {c : Ctx} (hclk : s.clk.on = true) (hc : s.ctxCached q = some c) (hsame : c.prod = c.cons) :
    exec (.descWrite q) s = .next (s.ctxLoad q).1 := by
  have hready : (s.ctxLoad q).1.descReady q = false := State.descReady_of_empty (by simpa [State.ctxLoad_of_cached hc] using hsame)
  change execDescWrite q s = _
  rw [execDescWrite, hclk, State.descDo_of_not_ready _ _ hready]
  rfl

/-- A completion joins those that wait for the queue's ring. -/
@[simp] theorem State.queueDone_cqWait (s : State) (q : Nat) (e : CqE) :
    mget [] (s.queueDone q e).xport.cqWait q = mget [] s.xport.cqWait q ++ [e] := mget_mset_self _ _ _ _

section
variable (h : DescTurn s q d s1)
include h

theorem DescTurn.exec_descWrite (hbad : d.bad = false) (hop : d.op = 1) (hloc : (s1.descTaken q).localBad q d.loc d.len = false) :
    exec (.descWrite q) s = .next ((s1.descTaken q).submit ((s1.descTaken q).descMsg q d 0)) :=
  congrArg Host.Outcome.next (h.clocked_descDo _ hbad hop hloc)

theorem DescTurn.exec_descRead (hbad : d.bad = false) (hop : d.op = 2) (hloc : (s1.descTaken q).localBad q d.loc d.len = false) :
    exec (.descRead q) s = .next ((s1.descTaken q).submit ((s1.descTaken q).descMsg q d 1)) :=
  congrArg Host.Outcome.next (h.clocked_descDo _ hbad hop hloc)

theorem DescTurn.exec_descSend (hbad : d.bad = false) (hop : d.op = 3) (hloc : (s1.descTaken q).localBad q d.loc d.len = false) :
    exec (.descSend q) s = .next ((s1.descTaken q).submit ((s1.descTaken q).descMsg q d 3)) :=
  congrArg Host.Outcome.next (h.clocked_descDo _ hbad hop hloc)

theorem DescTurn.exec_descAtomic (hbad : d.bad = false) (hop : d.op = 4) (hloc : (s1.descTaken q).localBad q d.loc d.len = false)
    (hfetch : fetchBytes d.w6 = 0 ∨ (s1.descTaken q).localBad q (d.loc + 64) (fetchBytes d.w6) = false) :
    exec (.descAtomic q) s =
      .next ((s1.descTaken q).submit { (s1.descTaken q).descMsg q d 4 with data := leBytes 8 d.w6.toNat }) := by
  refine congrArg Host.Outcome.next ((h.clocked_descDo _ hbad hop hloc).trans (if_neg ?_))
  rcases hfetch with hf | hf <;> simp [hf]

theorem DescTurn.exec_descRecv (hbad : d.bad = false) (hop : d.op = 5) (hloc : (s1.descTaken q).localBad q d.loc d.len = false) :
    exec (.descRecv q) s = .next ((s1.descTaken q).modX (fun x => { x with posted := mmod [] x.posted q (· ++
      [{ origin := d.origin, core := none, addr := d.loc, cap := d.len, ward := ((s1.descTaken q).ctx q).ward, hint := d.hint }]) })) :=
  congrArg Host.Outcome.next (h.clocked_descDo _ hbad hop hloc)

theorem DescTurn.exec_descInvalid (hbad : d.bad = true) :
    exec (.descInvalid q) s = .next ((s1.descTaken q).descFail q d
      (if (s1.descTaken q).localBad q d.loc (max 1 d.len) then St.wardFault else St.bounds)) := by
  change execDescInvalid q s = _
  rw [execDescInvalid, h.clk, h.descRun _ (by simp [hbad]), State.badDescSt_ok]
  rfl

end

/-! ## Completion entries (R300) -/

/-- The context after one more entry: CQ_PROD has advanced. -/
def Ctx.cqAdvanced (c : Ctx) : Ctx := { c with w4 := setFld c.w4 0 32 (c.cqProd + 1) }

@[simp] theorem Ctx.cqAdvanced_cqProd (c : Ctx) : c.cqAdvanced.cqProd = (c.cqProd + 1) % 2 ^ 32 := fld_setFld_self _ _ (by decide)

@[simp] theorem Ctx.cqAdvanced_cqCons (c : Ctx) : c.cqAdvanced.cqCons = c.cqCons := fld_setFld_ne _ _ (by decide) (by decide)

section
variable {c : Ctx} (e : CqE) (hc : s.ctxCached q = some c)
include hc

/-- Writing an entry to its ring is accesses to memory beside the context. -/
theorem State.cqWrite_mframe : MemFrame (s.ctxKeep q c.cqAdvanced) (s.cqWrite q e) := by
  rw [State.cqWrite, State.ctx_of_cached hc]
  refine MemFrame.trans (MemFrame.modX ?_ _) (State.ctxPut_mframe _ _ _)
  exact MemFrame.ite (State.devWrite_mframe _ _ _ _ (MemFrame.refl s)) (MemFrame.refl s)

theorem State.cqWrite_ctx : (s.cqWrite q e).ctx q = c.cqAdvanced := by
  rw [State.ctx_congr (State.cqWrite_mframe e hc).xport, State.ctxKeep_ctx_self]

/-- An entry leaves the other completions waiting. -/
theorem State.cqWrite_cqWait : (s.cqWrite q e).xport.cqWait = s.xport.cqWait :=
  (congrArg Xport.cqWait (State.cqWrite_mframe e hc).xport :)

/-- The entry and its interrupts change memory, the transport and events. -/
theorem State.cqWrite_cqIrq_frame {t : State} (ht : t = (s.cqWrite q e).cqIrq q) :
    t = { s with mem := t.mem, regs := t.regs, evt := t.evt, free := t.free, xport := t.xport } := by
  have h := (State.cqWrite_mframe e hc).eq
  rw [State.cqIrq_frame, h] at ht
  rw [ht]
  rfl

end

/-- The oldest completion leaves those that wait for queue `q`, whose context is brought in. -/
def State.cqTaken (s : State) (q : Nat) (c : Ctx) (rest : List CqE) : State :=
  (s.ctxKeep q c).modX (fun x => { x with cqWait := mset [] x.cqWait q rest })

theorem State.cqTaken_ctxCached (s : State) (q : Nat) (c : Ctx) (rest : List CqE) : (s.cqTaken q c rest).ctxCached q = some c :=
  State.ctxKeep_ctxCached_self s q c

theorem State.cqTaken_cqWait (s : State) (q : Nat) (c : Ctx) (rest : List CqE) :
    mget [] (s.cqTaken q c rest).xport.cqWait q = rest := mget_mset_self _ _ _ _

/-- The oldest completion of a queue, when it has an entry and neither a signal nor an ACK, goes to a ring that is not full. -/
theorem exec_cqEntryWrite {c : Ctx} {e : CqE} {rest : List CqE} (hclk : s.clk.on = true) (hc : s.ctxCached q = some c)
    (hwait : mget [] s.xport.cqWait q = e :: rest) (hcq : e.cq = true) (hsig : e.sig = false) (hack : e.ack = none)
    (hfull : c.cqFull = false) :
    exec (.cqEntryWrite q) s = .next (((s.cqTaken q c rest).cqWrite q e).cqIrq q) := by
  change execCqEntryWrite q s = _
  simp [execCqEntryWrite, hclk, hwait, State.ctxLoad_of_cached hc, hfull, hcq, hsig, State.cqAck, hack, State.cqTaken]

/-! ## SEND and RECV through queues (R302, R117) -/

/-- A SEND from device memory whose checks are met is submitted. -/
theorem exec_sendQueue {core : Nat} {e : Issued} (hfront : s.front core 0x60 = some e) (hkind : e.cmd.dkind = 1)
    (habort : s.aborting core = false) (hq : s.queueChk core (fld e.cmd.w2 36 20) = (s1, St.ok)) (hlen : e.cmd.length % 16 = 0)
    (hmove : s.moveChk core [0, 2] (operand e.cmd.w1) 1 e.cmd.length e.cmd.length = St.ok) (hspace : (operand e.cmd.w1).space = 2) :
    exec (.sendQueue core []) s =
      .next (s1.submit { s1.queueMsg core e.ord (fld e.cmd.w2 36 20) (if bitAt (s1.ctx (fld e.cmd.w2 36 20)).w7.toNat 17 then
        3 else 0) e.cmd.length (operand e.cmd.w1).addr (if bitAt (s1.ctx (fld e.cmd.w2 36 20)).w7.toNat 17 then
        0 else fld e.cmd.w2 0 22 * 64) with hint := (operand e.cmd.w1).hint }) := by
  change execSendQueue core [] s = _
  simp [execSendQueue, hfront, hkind, habort, hq, hlen, hmove, hspace, chk]

/-- A RECV whose checks are met posts its buffer and is held. -/
theorem exec_recv {core : Nat} {e : Issued} (hfront : s.front core 0x61 = some e) (habort : s.aborting core = false)
    (hq : s.queueChk core (fld e.cmd.w2 0 20) = (s1, St.ok)) (halign : fld e.cmd.w2 20 22 % 8 = 0)
    (hroom : fld e.cmd.w2 20 22 + 8 ≤ storeSize core)
    (hmove : s.moveChk core [0, 2] (operand e.cmd.w1) 1 (fld e.cmd.w3 0 32) (fld e.cmd.w3 0 32) = St.ok) :
    exec (.recv core) s = .next ((s1.modX (fun y => { y with posted := mmod [] y.posted (fld e.cmd.w2 0 20) (· ++
      [recvBuf core e.ord ((s1.wardOfCore core).getD 0xFF) (operand e.cmd.w1) (fld e.cmd.w3 0 32)]) })).setPhase core e.ord .held) := by
  change execRecv core s = _
  have hrec : (decide (fld e.cmd.w2 20 22 % 8 ≠ 0) || decide (storeSize core < fld e.cmd.w2 20 22 + 8)) = false := by
    rw [halign, decide_eq_false (Nat.not_lt.2 hroom)]
    rfl
  simp only [execRecv, hfront, habort, hq, hrec, hmove]
  rfl

/-- The buffer of a RECV completes: its record is written, the queue's context signals, and the command is done. -/
theorem State.bufDone_cmd {b : RecvBuf} {k ord : Nat} {e : Issued} (st len src : Nat) (hb : b.origin = .cmd k ord)
    (hissued : (s.core k).issued.find? (fun x => x.ord = ord) = some e) (habort : s.aborting k = false) :
    s.bufDone q b st len src =
      (((s.csWrite k (fld e.cmd.w2 20 22) (recvRecord len st src)).ctxLoad q).1.ctxSignal q).setPhase k ord (.done st) := by
  rw [State.bufDone, hb]
  simp only [hissued]
  rw [State.csWrite_aborting, habort]
  rfl

/-- The same where the context is in the cache and its signal off. -/
theorem State.bufDone_cmd_of_off {b : RecvBuf} {k ord : Nat} {e : Issued} {c : Ctx} (st len src : Nat) (hb : b.origin = .cmd k ord)
    (hissued : (s.core k).issued.find? (fun x => x.ord = ord) = some e) (habort : s.aborting k = false)
    (hc : s.ctxCached q = some c) (hoff : bitAt c.w7.toNat 6 = false) :
    s.bufDone q b st len src =
      ((s.csWrite k (fld e.cmd.w2 20 22) (recvRecord len st src)).ctxKeep q c).setPhase k ord (.done st) := by
  rw [State.bufDone_cmd _ _ _ hb hissued habort, State.ctxLoad_of_cached ((s.csWrite_ctxCached _ _ _ q).trans hc),
    State.ctxSignal_of_off (by simpa using hoff)]

/-- The buffers of one origin are taken back from a queue. -/
def State.unpost (s : State) (q : Nat) (o : Origin) : State :=
  s.modX (fun x => { x with posted := mmod [] x.posted q (fun l => l.filter (fun b => b.origin ≠ o)) })

/-- What a RECV that times out leaves, before its command is done: its buffer is gone and its record written. -/
def State.recvExpired (s : State) (core : Nat) (e : Issued) (c : Ctx) : State :=
  (((s.unpost (fld e.cmd.w2 0 20) (.cmd core e.ord)).drew 1).csWrite core (fld e.cmd.w2 20 22)
    (recvRecord 0 St.timeout (s.freeW.toNat % 65536))).ctxKeep (fld e.cmd.w2 0 20) c

/-- The oldest RECV that waits with a TIMEOUT completes with it; a context whose signal is off signals nothing. -/
theorem exec_recvTimeout {core : Nat} {e : Issued} {b : RecvBuf} {c : Ctx} (hclk : s.clk.on = true)
    (hwaits : (s.core core).issued.find? (fun x => x.cmd.opcode = 0x61 && x.phase = .held && fld x.cmd.w3 32 16 ≠ 0 &&
      (mget [] s.xport.posted (fld x.cmd.w2 0 20)).any (fun c => c.origin = .cmd core x.ord)) = some e)
    (hissued : (s.core core).issued.find? (fun x => x.ord = e.ord) = some e)
    (hposted : (mget [] s.xport.posted (fld e.cmd.w2 0 20)).find? (fun c => c.origin = .cmd core e.ord) = some b)
    (hb : b.origin = .cmd core e.ord) (habort : s.aborting core = false) (hc : s.ctxCached (fld e.cmd.w2 0 20) = some c)
    (hoff : bitAt c.w7.toNat 6 = false) :
    exec (.recvTimeout core) s = .next ((s.recvExpired core e c).setPhase core e.ord (.done St.timeout)) := by
  change execRecvTimeout core s = _
  have hexec : execRecvTimeout core s = .next (((s.unpost (fld e.cmd.w2 0 20) (.cmd core e.ord)).drew 1).bufDone (fld e.cmd.w2 0 20) b
      St.timeout 0 (s.freeW.toNat % 65536)) := by
    simp only [execRecvTimeout, hclk, Bool.not_true, Bool.false_eq_true, if_false, hwaits, hposted]
    rfl
  rw [hexec, State.bufDone_cmd_of_off (s := (s.unpost (fld e.cmd.w2 0 20) (.cmd core e.ord)).drew 1) _ _ _ hb hissued habort hc hoff]
  rfl

/-! ## The statement -/

/-- Settles O50: each command's next state, and what that state says of rings, posted buffers, contexts and stores. -/
theorem descriptorsComplete : Obligations.DescriptorsComplete := by
  unfold Obligations.DescriptorsComplete
  refine ⟨?write, ?read, ?send, ?atomic, ?recvDesc, ?invalid, ?empty, ?entry, ?sendQueue, ?recv, ?timeout⟩
  case write =>
    rintro s q d _ s1 hclk rfl hready hnext hbad hop hloc
    exact ⟨_, DescTurn.exec_descWrite ⟨hclk, hready, hnext⟩ hbad hop hloc, rfl, rfl, rfl, rfl⟩
  case read =>
    rintro s q d _ s1 hclk rfl hready hnext hbad hop hloc
    exact ⟨_, DescTurn.exec_descRead ⟨hclk, hready, hnext⟩ hbad hop hloc, rfl, rfl, rfl, rfl⟩
  case send =>
    rintro s q d _ s1 hclk rfl hready hnext hbad hop hloc
    exact ⟨_, DescTurn.exec_descSend ⟨hclk, hready, hnext⟩ hbad hop hloc, rfl, rfl, rfl, rfl⟩
  case atomic =>
    rintro s q d _ s1 hclk rfl hready hnext hbad hop hloc hfetch
    exact ⟨_, DescTurn.exec_descAtomic ⟨hclk, hready, hnext⟩ hbad hop hloc hfetch, rfl⟩
  case recvDesc =>
    rintro s q d _ s1 hclk rfl hready hnext hbad hop hloc
    exact ⟨_, DescTurn.exec_descRecv ⟨hclk, hready, hnext⟩ hbad hop hloc, mget_mset_self _ _ _ _, rfl⟩
  case invalid =>
    rintro s q d _ s1 hclk rfl hready hnext hbad
    exact ⟨_, DescTurn.exec_descInvalid ⟨hclk, hready, hnext⟩ hbad, State.queueDone_cqWait _ _ _, rfl⟩
  case empty =>
    intro s q c hclk hc hsame
    exact ⟨_, exec_descWrite_of_empty hclk hc hsame, rfl, by rw [State.ctxLoad_of_cached hc, State.ctxKeep_ctx_self]⟩
  case entry =>
    intro s q c e rest hclk hc hwait hcq hsig hack hfull
    refine ⟨_, exec_cqEntryWrite hclk hc hwait hcq hsig hack hfull, ?_⟩
    have hc' := s.cqTaken_ctxCached q c rest
    have hctx := State.cqWrite_ctx e hc'
    refine ⟨?wait, ?prod, ?cons, ?cores, State.cqWrite_cqIrq_frame e hc' rfl⟩
    case wait => rw [State.cqIrq_xport, State.cqWrite_cqWait e hc', State.cqTaken_cqWait]
    case prod => rw [State.cqIrq_ctx, hctx, Ctx.cqAdvanced_cqProd]
    case cons => rw [State.cqIrq_ctx, hctx, Ctx.cqAdvanced_cqCons]
    case cores => rw [State.cqIrq_cores]; exact (State.cqWrite_mframe e hc').cores
  case sendQueue =>
    intro s core e s1 hfront hkind habort hq hlen hmove hspace
    exact ⟨_, exec_sendQueue hfront hkind habort hq hlen hmove hspace, rfl⟩
  case recv =>
    intro s core e s1 hfront habort hq halign hroom hmove
    exact ⟨_, exec_recv hfront habort hq halign hroom hmove, State.setPhase_ended _ _ _ _, mget_mset_self _ _ _ _, rfl⟩
  case timeout =>
    intro s core e b hclk hwaits hissued hposted hb habort hctx
    obtain ⟨c, hc, hoff⟩ := (Option.any_eq_true _ _).1 hctx
    refine ⟨_, exec_recvTimeout hclk hwaits hissued hposted hb habort hc (by simpa using hoff), State.setPhase_ended _ _ _ _,
      mget_mset_self _ _ _ _, ?record, ?frame, rfl, rfl⟩
    case record =>
      rw [← length_recvRecord 0 St.timeout (s.freeW.toNat % 65536)]
      exact State.csBytes_csWrite_self _ _ _
    case frame =>
      rw [← length_recvRecord 0 St.timeout (s.freeW.toNat % 65536)]
      exact State.csWrite_storeFrame _ _ _

end Sys2Proof.Machine
end

section
/-! PROOFS. Every command and every step keeps the canonical form, the fuses, the clock and the queue. -/

namespace Sys2Proof.Machine

open Sys2Proof Sys2Proof.Safety

variable {r s : State}

/-- Every command of the table answers a good state from a good state: one arm per row, as in Machine/Dispatch.lean. -/
theorem exec_good (h : Good r s) (c : Instr) : GoodOut r (exec c s) := by
  cases c with
  | registerWrite who addr size val => exact execRegisterWrite_good who addr size val s h
  | rcRead who addr size => exact execRcRead_good who addr size s h
  | refLockLost => exact execRefLockLost_good s h
  | refHoldoverExpiry => exact execRefHoldoverExpiry_good s h
  | refLockRegained => exact execRefLockRegained_good s h
  | cellCheckFail half row col => exact execCellCheckFail_good half row col s h
  | parityRateLimit half row col => exact execParityRateLimit_good half row col s h
  | meshPacketArrive idx => exact execMeshPacketArrive_good idx s h
  | hingeSublinkDown sublink => exact execHingeSublinkDown_good sublink s h
  | rvInstruction core errs => exact execRvInstruction_good core errs s h
  | ebreak core => exact execEbreak_good core s h
  | tcStage core => exact execTcStage_good core s h
  | tcLds core errs => exact execTcLds_good core errs s h
  | tcPushs core => exact execTcPushs_good core s h
  | pushsUnstall core => exact execPushsUnstall_good core s h
  | tcDone core => exact execTcDone_good core s h
  | scRead core => exact execScRead_good core s h
  | scWait core => exact execScWait_good core s h
  | scWaitRelease core => exact execScWaitRelease_good core s h
  | scAdd core => exact execScAdd_good core s h
  | kenarisIllegal core => exact execKenarisIllegal_good core s h
  | seqRun who core trapHalt => exact execSeqRun_good who core trapHalt s h
  | seqHalt who core trapHalt => exact execSeqHalt_good who core trapHalt s h
  | fgResume who core => exact execFgResume_good who core s h
  | fgFlush who core => exact execFgFlush_good who core s h
  | fillResume who core => exact execFillResume_good who core s h
  | fillFlush who core => exact execFillFlush_good who core s h
  | fillEnableWrite who core en => exact execFillEnableWrite_good who core en s h
  | syncCtrWrite who core ctr val => exact execSyncCtrWrite_good who core ctr val s h
  | imemWrite who core off val => exact execImemWrite_good who core off val s h
  | commandIssue core strm => exact execCommandIssue_good core strm s h
  | commandComplete core unit => exact execCommandComplete_good core unit s h
  | matmul core errs => exact execMatmul_good core errs s h
  | conv core errs => exact execConv_good core errs s h
  | weightLoadDone core => exact execWeightLoadDone_good core s h
  | passStart core wparity => exact execPassStart_good core wparity s h
  | passDone core aparity => exact execPassDone_good core aparity s h
  | load core errs => exact execLoad_good core errs s h
  | store core errs => exact execStore_good core errs s h
  | gather core => exact execGather_good core s h
  | quant core errs => exact execQuant_good core errs s h
  | dequant core errs => exact execDequant_good core errs s h
  | sfn core errs => exact execSfn_good core errs s h
  | norm core errs => exact execNorm_good core errs s h
  | reduce core errs => exact execReduce_good core errs s h
  | rng core => exact execRng_good core s h
  | optUpdate core errs => exact execOptUpdate_good core errs s h
  | sync core => exact execSync_good core s h
  | wait core => exact execWait_good core s h
  | signal core => exact execSignal_good core s h
  | send core errs => exact execSend_good core errs s h
  | sendQueue core errs => exact execSendQueue_good core errs s h
  | recv core => exact execRecv_good core s h
  | recvTimeout core => exact execRecvTimeout_good core s h
  | cqsend core => exact execCqsend_good core s h
  | cadd core => exact execCadd_good core s h
  | cbegin core => exact execCbegin_good core s h
  | cend core => exact execCend_good core s h
  | sfnTableWrite who cell off val => exact execSfnTableWrite_good who cell off val s h
  | sfnTdescWrite who cell tbl val => exact execSfnTdescWrite_good who cell tbl val s h
  | sfnValidClearDone cell tbl => exact execSfnValidClearDone_good cell tbl s h
  | sfnBcastWrite who half off val => exact execSfnBcastWrite_good who half off val s h
  | blockAccess who line acc ecc => exact execBlockAccess_good who line acc ecc s h
  | fillStart half ward block cls tag => exact execFillStart_good half ward block cls tag s h
  | fillDone block => exact execFillDone_good block s h
  | drainDone block => exact execDrainDone_good block s h
  | bankSlotGrant stack bank => exact execBankSlotGrant_good stack bank s h
  | walkEnable who half ward val => exact execWalkEnable_good who half ward val s h
  | walkDisable who half ward => exact execWalkDisable_good who half ward s h
  | walkResume who half ward => exact execWalkResume_good who half ward s h
  | walkEntryStart half ward => exact execWalkEntryStart_good half ward s h
  | walkFrameAvailable half ward => exact execWalkFrameAvailable_good half ward s h
  | walkEntryDone half ward => exact execWalkEntryDone_good half ward s h
  | tierOpMigrate who half count cls ward => exact execTierOpMigrate_good who half count cls ward s h
  | tierOpEvict who half count ward => exact execTierOpEvict_good who half count ward s h
  | tierOpClean who half count ward => exact execTierOpClean_good who half count ward s h
  | tierOpDone half => exact execTierOpDone_good half s h
  | hbmLineRead line fault => exact execHbmLineRead_good line fault s h
  | hbmLineWrite line off data fault => exact execHbmLineWrite_good line off data fault s h
  | msoOperation line off op operand fault => exact execMsoOperation_good line off op operand fault s h
  | clearingDone stack region => exact execClearingDone_good stack region s h
  | bgClearStart stack => exact execBgClearStart_good stack s h
  | refresh stack pc bank => exact execRefresh_good stack pc bank s h
  | patrolRead stack fault => exact execPatrolRead_good stack fault s h
  | hbmTempReading stack temp => exact execHbmTempReading_good stack temp s h
  | hbmTempLost stack => exact execHbmTempLost_good stack s h
  | unfence who stack => exact execUnfence_good who stack s h
  | pcRetrainStart who stack pc => exact execPcRetrainStart_good who stack pc s h
  | pcRetrainDone stack ok => exact execPcRetrainDone_good stack ok s h
  | pcRetrainSchedule => exact execPcRetrainSchedule_good s h
  | regionReset who stack first count => exact execRegionReset_good who stack first count s h
  | regionClearNow who stack first count => exact execRegionClearNow_good who stack first count s h
  | regionCmdDone stack => exact execRegionCmdDone_good stack s h
  | rxWrite rx pkt => exact execRxWrite_good rx pkt s h
  | rxReadReq rx pkt => exact execRxReadReq_good rx pkt s h
  | rxReadResp rx pkt => exact execRxReadResp_good rx pkt s h
  | rxSend rx pkt => exact execRxSend_good rx pkt s h
  | rxAtomic rx pkt => exact execRxAtomic_good rx pkt s h
  | rxAck rx pkt => exact execRxAck_good rx pkt s h
  | rxNak rx pkt => exact execRxNak_good rx pkt s h
  | rxProbe rx pkt => exact execRxProbe_good rx pkt s h
  | rxProbeEcho rx pkt => exact execRxProbeEcho_good rx pkt s h
  | rxCtrlAbort rx pkt => exact execRxCtrlAbort_good rx pkt s h
  | retxTimeout msg pkt => exact execRetxTimeout_good msg pkt s h
  | nakRetryTimer msg pkt => exact execNakRetryTimer_good msg pkt s h
  | ackCoalesceTimeout srcDev msgId => exact execAckCoalesceTimeout_good srcDev msgId s h
  | lastPacketSend msg lifePassed => exact execLastPacketSend_good msg lifePassed s h
  | filterEntryExpire srcDev msgId => exact execFilterEntryExpire_good srcDev msgId s h
  | msgTimeout msg => exact execMsgTimeout_good msg s h
  | probeTimer => exact execProbeTimer_good s h
  | msgContextGrant => exact execMsgContextGrant_good s h
  | xportDoorbell who queue prod => exact execXportDoorbell_good who queue prod s h
  | xportCqDoorbell who queue cons => exact execXportCqDoorbell_good who queue cons s h
  | descWrite queue => exact execDescWrite_good queue s h
  | descRead queue => exact execDescRead_good queue s h
  | descSend queue => exact execDescSend_good queue s h
  | descAtomic queue => exact execDescAtomic_good queue s h
  | descRecv queue => exact execDescRecv_good queue s h
  | descInvalid queue => exact execDescInvalid_good queue s h
  | cqEntryWrite queue => exact execCqEntryWrite_good queue s h
  | ctxCmdRead who queue => exact execCtxCmdRead_good who queue s h
  | ctxCmdWrite who queue => exact execCtxCmdWrite_good who queue s h
  | regionRegister who ward permWrite permRead permAtomic => exact execRegionRegister_good who ward permWrite permRead permAtomic s h
  | regionDeregister who ward => exact execRegionDeregister_good who ward s h
  | regCmdDone => exact execRegCmdDone_good s h
  | lldpTx port => exact execLldpTx_good port s h
  | lldpRx port info => exact execLldpRx_good port info s h
  | electionSettled => exact execElectionSettled_good s h
  | collDeadline seq => exact execCollDeadline_good seq s h
  | collAbortWrite who seq => exact execCollAbortWrite_good who seq s h
  | abortWindowExpiry seq => exact execAbortWindowExpiry_good seq s h
  | abortTableExpire collId => exact execAbortTableExpire_good collId s h
  | portFrameRx port sub frame fcsOk => exact execPortFrameRx_good port sub frame fcsOk s h
  | portFrameTx port sub => exact execPortFrameTx_good port sub s h
  | arpNdRequest port sub v6 target peerMac => exact execArpNdRequest_good port sub v6 target peerMac s h
  | icmpEcho port sub v6 target data => exact execIcmpEcho_good port sub v6 target data s h
  | rxPfc port sub prios quanta => exact execRxPfc_good port sub prios quanta s h
  | pfcPauseExpiry port pausedUs => exact execPfcPauseExpiry_good port pausedUs s h
  | rxPause port sub => exact execRxPause_good port sub s h
  | pfcRefresh port => exact execPfcRefresh_good port s h
  | pfcStorm port => exact execPfcStorm_good port s h
  | pfcStormEnd port => exact execPfcStormEnd_good port s h
  | linkDown port sub lane fault => exact execLinkDown_good port sub lane fault s h
  | linkAligned port sub => exact execLinkAligned_good port sub s h
  | linkupHoldExpiry port sub => exact execLinkupHoldExpiry_good port sub s h
  | fecDegrade port counts => exact execFecDegrade_good port counts s h
  | retime who port => exact execRetime_good who port s h
  | parkWindow port sent received => exact execParkWindow_good port sent received s h
  | parkReq port seq => exact execParkReq_good port seq s h
  | parkAck port seq => exact execParkAck_good port seq s h
  | parkNak port seq => exact execParkNak_good port seq s h
  | parkGo port seq => exact execParkGo_good port seq s h
  | parkAnswerTimeout port => exact execParkAnswerTimeout_good port s h
  | wake port seq => exact execWake_good port seq s h
  | lanesLocked port => exact execLanesLocked_good port s h
  | wakeAck port seq => exact execWakeAck_good port seq s h
  | wakeTimeout port => exact execWakeTimeout_good port s h
  | parkRefresh port missed => exact execParkRefresh_good port missed s h
  | hostConfigRequest wr off val => exact execHostConfigRequest_good wr off val s h
  | hostBar0Access wr off size val => exact execHostBar0Access_good wr off size val s h
  | hostDoorbellProd off size val => exact execHostDoorbellProd_good off size val s h
  | hostDoorbellCq off size val => exact execHostDoorbellCq_good off size val s h
  | hostPlaceFlag slot write => exact execHostPlaceFlag_good slot write s h
  | hostBar4Write off data => exact execHostBar4Write_good off data s h
  | hostBar4Read off => exact execHostBar4Read_good off s h
  | cxlMemRead addr fault => exact execCxlMemRead_good addr fault s h
  | cxlMemWrite addr data fault => exact execCxlMemWrite_good addr data fault s h
  | hostSnoop line kind hostData => exact execHostSnoop_good line kind hostData s h
  | hostLinkUp speed width cxl => exact execHostLinkUp_good speed width cxl s h
  | hostLinkDown => exact execHostLinkDown_good s h
  | perstAssert => exact execPerstAssert_good s h
  | perstDeassert => exact execPerstDeassert_good s h
  | hotReset => exact execHotReset_good s h
  | flr => exact execFlr_good s h
  | pstateEntry pstate => exact execPstateEntry_good pstate s h
  | pstateWake => exact execPstateWake_good s h
  | pmTolWrite who val => exact execPmTolWrite_good who val s h
  | pInSample pin prsv => exact execPInSample_good pin prsv s h
  | clampEnd => exact execClampEnd_good s h
  | ocpTrip amps => exact execOcpTrip_good amps s h
  | governorDecision half sum10ms samples => exact execGovernorDecision_good half sum10ms samples s h
  | capStepCheck avg100us avg10ms => exact execCapStepCheck_good avg100us avg10ms s h
  | supplySettled cell => exact execSupplySettled_good cell s h
  | cellSupplySample cell mv => exact execCellSupplySample_good cell mv s h
  | neighbourHoldEnd cell bound => exact execNeighbourHoldEnd_good cell bound s h
  | droopDetect cell mv => exact execDroopDetect_good cell mv s h
  | droopRecover cell => exact execDroopRecover_good cell s h
  | stretchLimit cell => exact execStretchLimit_good cell s h
  | droopStepEnd cell => exact execDroopStepEnd_good cell s h
  | startGrant core => exact execStartGrant_good core s h
  | energyModelTick counts ways => exact execEnergyModelTick_good counts ways s h
  | corrUpdate half us => exact execCorrUpdate_good half us s h
  | cellTempReading cell temp => exact execCellTempReading_good cell temp s h
  | thermalStepTimer => exact execThermalStepTimer_good s h
  | lsTempReading half sensor temp => exact execLsTempReading_good half sensor temp s h
  | coolantReading inlet outlet => exact execCoolantReading_good inlet outlet s h
  | cellSensorLost cell => exact execCellSensorLost_good cell s h
  | pInLost => exact execPInLost_good s h
  | deadboltTrip cause value source => exact execDeadboltTrip_good cause value source s h
  | inputRemoved1s => exact execInputRemoved1s_good s h
  | spdmGetVersion => exact execSpdmGetVersion_good s h
  | spdmGetCapabilities req => exact execSpdmGetCapabilities_good req s h
  | spdmNegotiateAlgorithms req => exact execSpdmNegotiateAlgorithms_good req s h
  | spdmGetDigests => exact execSpdmGetDigests_good s h
  | spdmGetCertificate slot offset length => exact execSpdmGetCertificate_good slot offset length s h
  | spdmChallenge slot req => exact execSpdmChallenge_good slot req s h
  | spdmGetMeasurements index sig raw req => exact execSpdmGetMeasurements_good index sig raw req s h
  | spdmKeyExchange slot session req => exact execSpdmKeyExchange_good slot session req s h
  | spdmFinish session macOk => exact execSpdmFinish_good session macOk s h
  | spdmHeartbeat session => exact execSpdmHeartbeat_good session s h
  | spdmKeyUpdate session op => exact execSpdmKeyUpdate_good session op s h
  | spdmEndSession session => exact execSpdmEndSession_good session s h
  | wardOpen ward groups streamMask collMask qbase qcount => exact execWardOpen_good ward groups streamMask collMask qbase qcount s h
  | sliceAssign wardByte first count target => exact execSliceAssign_good wardByte first count target s h
  | setPolicy ward key => exact execSetPolicy_good ward key s h
  | installKey ward blob => exact execInstallKey_good ward blob s h
  | bundle ward addr len => exact execBundle_good ward addr len s h
  | linkKey ward keyId peer peerPub peerNonce auth => exact execLinkKey_good ward keyId peer peerPub peerNonce auth s h
  | unsealRing ward ctx base log2 sigCtr sigTkind sigTarget sigAllward auth => exact execUnsealRing_good ward ctx base log2 sigCtr sigTkind sigTarget sigAllward auth s h
  | wardRelease ward => exact execWardRelease_good ward s h
  | wardRequestUnknown code ward payload => exact execWardRequestUnknown_good code ward payload s h
  | wardGateVerified ward => exact execWardGateVerified_good ward s h
  | gateFailTimeout ward cells => exact execGateFailTimeout_good ward cells s h
  | rngHealthFail => exact execRngHealthFail_good s h
  | rngHealthPass => exact execRngHealthPass_good s h
  | unsealPoll => exact execUnsealPoll_good s h
  | unsealChunk => exact execUnsealChunk_good s h
  | standbyUp bootRecordOk slot0Ok slot1Ok => exact execStandbyUp_good bootRecordOk slot0Ok slot1Ok s h
  | stageReached stage => exact execStageReached_good stage s h
  | stageTimeout cause => exact execStageTimeout_good cause s h
  | nandOpDone res => exact execNandOpDone_good res s h
  | nandPatrol page corrected => exact execNandPatrol_good page corrected s h
  | commitStart => exact execCommitStart_good s h
  | txnBegin who => exact execTxnBegin_good who s h
  | txnFieldWrite who addr val => exact execTxnFieldWrite_good who addr val s h
  | txnLatch who persist => exact execTxnLatch_good who persist s h
  | latchEffect => exact execLatchEffect_good s h
  | txnRollback who => exact execTxnRollback_good who s h
  | txnTimeout => exact execTxnTimeout_good s h
  | fwInstall who len => exact execFwInstall_good who len s h
  | fwSwitchNext who => exact execFwSwitchNext_good who s h
  | fwSwitchLive who => exact execFwSwitchLive_good who s h
  | fwConfirm who => exact execFwConfirm_good who s h
  | fwInstallCal who len => exact execFwInstallCal_good who len s h
  | fwOpDone => exact execFwOpDone_good s h
  | fwConfirmTimeout => exact execFwConfirmTimeout_good s h
  | tagInventory => exact execTagInventory_good s h
  | tagGetSystemInfo => exact execTagGetSystemInfo_good s h
  | tagExtGetSystemInfo => exact execTagExtGetSystemInfo_good s h
  | tagReadSingleBlock block => exact execTagReadSingleBlock_good block s h
  | tagReadMultipleBlocks first count => exact execTagReadMultipleBlocks_good first count s h
  | tagWriteSingleBlock block data => exact execTagWriteSingleBlock_good block data s h
  | tagFieldUnsupported code => exact execTagFieldUnsupported_good code s h
  | tagWiredAccess master wr addr len data lock => exact execTagWiredAccess_good master wr addr len data lock s h
  | tagWiredHoldTimeout master => exact execTagWiredHoldTimeout_good master s h
  | tagLockTimeout => exact execTagLockTimeout_good s h
  | tagAccessRead who addr => exact execTagAccessRead_good who addr s h
  | tagAccessWrite who addr => exact execTagAccessWrite_good who addr s h
  | tagAccessDone nak => exact execTagAccessDone_good nak s h
  | mboxAssetNote => exact execMboxAssetNote_good s h
  | mboxServiceMark => exact execMboxServiceMark_good s h
  | mboxInvalid => exact execMboxInvalid_good s h
  | configDigestWrite => exact execConfigDigestWrite_good s h
  | tagFault => exact execTagFault_good s h
  | leaseTx half => exact execLeaseTx_good half s h
  | leaseRx half epoch => exact execLeaseRx_good half epoch s h
  | leaseAckRx half epoch => exact execLeaseAckRx_good half epoch s h
  | leaseNakRx half epoch => exact execLeaseNakRx_good half epoch s h
  | handoffRx half epoch => exact execHandoffRx_good half epoch s h
  | acceptRx half epoch => exact execAcceptRx_good half epoch s h
  | leaseLapse half => exact execLeaseLapse_good half s h
  | leaseNoAck half => exact execLeaseNoAck_good half s h
  | handoffStall half => exact execHandoffStall_good half s h
  | orderTakeLead who half epoch => exact execOrderTakeLead_good who half epoch s h
  | orderHandOff who half => exact execOrderHandOff_good who half s h
  | hcStatusPoll => exact execHcStatusPoll_good s h
  | hcHang half => exact execHcHang_good half s h
  | mcWatchdog => exact execMcWatchdog_good s h
  | alarmDequeue path => exact execAlarmDequeue_good path s h
  | summaryDequeue path => exact execSummaryDequeue_good path s h
  | hostRingWrite => exact execHostRingWrite_good s h
  | hostRingStall => exact execHostRingStall_good s h
  | getEvents => exact execGetEvents_good s h
  | ackEvents seq => exact execAckEvents_good seq s h
  | incidentPageProgram => exact execIncidentPageProgram_good s h
  | evtNandRead who page readable => exact execEvtNandRead_good who page readable s h
  | enAssert => exact execEnAssert_good s h
  | powerGood => exact execPowerGood_good s h
  | enDeassert => exact execEnDeassert_good s h
  | inputLoss => exact execInputLoss_good s h
  | inputOvervoltage => exact execInputOvervoltage_good s h
  | railFault rail mv timeMs => exact execRailFault_good rail mv timeMs s h
  | railDischarged rail => exact execRailDischarged_good rail s h
  | railDischargeTimeout rail mv timeMs => exact execRailDischargeTimeout_good rail mv timeMs s h
  | emergencyStep => exact execEmergencyStep_good s h
  | powerupRetry => exact execPowerupRetry_good s h
  | inputReturn => exact execInputReturn_good s h
  | sbGetSupply vin iin vhu => exact execSbGetSupply_good vin iin vhu s h
  | sbGetRailFaults => exact execSbGetRailFaults_good s h
  | sbClearRailFaults => exact execSbClearRailFaults_good s h
  | sbRestart => exact execSbRestart_good s h
  | sbUnknownCommand code => exact execSbUnknownCommand_good code s h
  | jtagBypass => exact execJtagBypass_good s h
  | jtagIdcode => exact execJtagIdcode_good s h
  | jtagSamplePreload preload => exact execJtagSamplePreload_good preload s h
  | jtagExtest => exact execJtagExtest_good s h
  | jtagClamp => exact execJtagClamp_good s h
  | jtagHighz => exact execJtagHighz_good s h
  | jtagUnlock response => exact execJtagUnlock_good response s h
  | cmMeasurement chargeMc => exact execCmMeasurement_good chargeMc s h
  | gaugeFault => exact execGaugeFault_good s h
  | gaugeFaultClear => exact execGaugeFaultClear_good s h
  | railInRegulation rail => exact execRailInRegulation_good rail s h
  | inputInRange20ms => exact execInputInRange20ms_good s h
  | holdUpExhausted => exact execHoldUpExhausted_good s h
  | controllerRestartDone which => exact execControllerRestartDone_good which s h
  | refreshManagementRequest stack => exact execRefreshManagementRequest_good stack s h
  | irqMinExpiry vector => exact execIrqMinExpiry_good vector s h
  | hostLinkL1Change inL12 => exact execHostLinkL1Change_good inL12 s h

/-- The queue and the clock are no part of the canonical form. -/
theorem canonical_with_pending_now (h : Canonical s) (l : List Instr) (n : Nat) : Canonical { s with pending := l, now := n } :=
  ⟨h.mem, h.tag, h.regs⟩

/-- An idle step keeps the canonical form. -/
theorem idleTick_canonical (h : Canonical s) : Canonical (idleTick s) :=
  canonical_with_pending_now (State.settlePstate_good s (Good.refl h)).canon _ _

/-- A command answers a next state, and from a canonical state that state is good. -/
theorem exec_good_of_canonical (h : Canonical s) (c : Instr) : GoodOut s (exec c s) := exec_good (Good.refl h) c

/-- Settles O4: reset lists nothing in any memory or in the register file. -/
theorem memoriesCanonicalAtReset : Obligations.MemoriesCanonicalAtReset :=
  ⟨⟨rfl, rfl, rfl, rfl, rfl⟩, rfl, rfl⟩

/-- Settles O5: an idle step settles the power state, and any other step is the effect of the front command. -/
theorem stepsKeepMemoriesCanonical : Obligations.StepsKeepMemoriesCanonical := by
  intro s h
  unfold step
  cases hq : s.pending with
  | nil => exact ⟨_, rfl, idleTick_canonical h⟩
  | cons c rest =>
    obtain ⟨t, ht, hgood⟩ := exec_good_of_canonical (canonical_with_pending_now h rest s.now) c
    exact ⟨t, ht, hgood.canon⟩

/-- Settles O6: what `Good` says of a command's next state. -/
theorem stepsKeepFusesAndQueue : Obligations.StepsKeepFusesAndQueue := by
  intro s c t h ht
  obtain ⟨u, hu, hgood⟩ := exec_good_of_canonical h c
  obtain rfl : u = t := by simpa using hu.symm.trans ht
  exact ⟨hgood.fuses, hgood.pending, hgood.now⟩

end Sys2Proof.Machine
end

section
/-! PROOFS. The home of a unified-range address (R22). -/

namespace Sys2Proof.Machine

open Sys2Proof Sys2Proof.Safety

/-- A bit field as a quotient and a remainder. -/
theorem bitsOf_eq_div_mod (v l w : Nat) : bitsOf v l w = v / 2 ^ l % 2 ^ w := by
  rw [bitsOf, Nat.shiftRight_eq_div_pow]

/-- The home stack that R22 gives: the exclusive or of three fields of three bits. -/
theorem homeStack_eq (a : Nat) : homeStack a = ((a / 2 ^ 16 % 8) ^^^ (a / 2 ^ 19 % 8)) ^^^ (a / 2 ^ 22 % 8) := by
  unfold homeStack
  rw [bitsOf_eq_div_mod, bitsOf_eq_div_mod, bitsOf_eq_div_mod]
  rfl

theorem homeStack_lt (a : Nat) : homeStack a < 8 := by
  rw [homeStack_eq]
  exact Nat.xor_lt_two_pow (n := 3) (Nat.xor_lt_two_pow (Nat.mod_lt _ (by decide)) (Nat.mod_lt _ (by decide))) (Nat.mod_lt _ (by decide))

/-- The offset in the home stack, of an address of the unified range. -/
theorem stackOff_eq {a : Nat} (h : a < 2 ^ 39) : stackOff a = a / 2 ^ 19 * 2 ^ 16 + a % 2 ^ 16 := by
  rw [stackOff, bitsOf_eq_div_mod]
  omega

/-- Bits [18:16] of the address of an offset in a stack. -/
def stackMid (st off : Nat) : Nat := (st ^^^ (off / 2 ^ 16 % 8)) ^^^ (off / 2 ^ 19 % 8)

theorem stackMid_lt {st : Nat} (h : st < 8) (off : Nat) : stackMid st off < 8 :=
  Nat.xor_lt_two_pow (n := 3) (Nat.xor_lt_two_pow h (Nat.mod_lt _ (by decide))) (Nat.mod_lt _ (by decide))

theorem stackAddr_eq (st off : Nat) : stackAddr st off = off / 2 ^ 16 * 2 ^ 19 + stackMid st off * 2 ^ 16 + off % 2 ^ 16 := by
  simp [stackAddr, stackMid, bitsOf_eq_div_mod, Nat.div_div_eq_div_mul]

/-- Adding the same two fields twice gives the number back. -/
theorem xor_twice (x y z : Nat) : (((x ^^^ y) ^^^ z) ^^^ y) ^^^ z = x := by
  rw [Nat.xor_right_comm _ z y, Nat.xor_assoc _ z z, Nat.xor_self, Nat.xor_zero, Nat.xor_assoc, Nat.xor_self, Nat.xor_zero]

/-- The address of an address's home is the address. -/
theorem stackAddr_home {a : Nat} (h : a < 2 ^ 39) : stackAddr (homeStack a) (stackOff a) = a := by
  have hhi : stackOff a / 2 ^ 16 = a / 2 ^ 19 := by rw [stackOff_eq h]; omega
  have hhi' : stackOff a / 2 ^ 19 = a / 2 ^ 22 := by rw [stackOff_eq h]; omega
  have hlo : stackOff a % 2 ^ 16 = a % 2 ^ 16 := by rw [stackOff_eq h]; omega
  have hmid : stackMid (homeStack a) (stackOff a) = a / 2 ^ 16 % 8 := by
    rw [stackMid, hhi, hhi', homeStack_eq, xor_twice]
  rw [stackAddr_eq, hhi, hlo, hmid]
  omega

section
variable {st off : Nat} (hst : st < 8)
include hst

theorem stackAddr_lt (hoff : off < 2 ^ 36) : stackAddr st off < 2 ^ 39 := by
  have := stackMid_lt hst off
  rw [stackAddr_eq]
  omega

/-- The address of an offset in a stack has that stack as its home. -/
theorem homeStack_stackAddr (off : Nat) : homeStack (stackAddr st off) = st := by
  have hmid := stackMid_lt hst off
  have h16 : stackAddr st off / 2 ^ 16 % 8 = stackMid st off := by rw [stackAddr_eq]; omega
  have h19 : stackAddr st off / 2 ^ 19 = off / 2 ^ 16 := by rw [stackAddr_eq]; omega
  have h22 : stackAddr st off / 2 ^ 22 = off / 2 ^ 19 := by rw [stackAddr_eq]; omega
  rw [homeStack_eq, h16, h19, h22, stackMid, xor_twice]

/-- And that offset. -/
theorem stackOff_stackAddr (hoff : off < 2 ^ 36) : stackOff (stackAddr st off) = off := by
  have := stackMid_lt hst off
  rw [stackOff_eq (stackAddr_lt hst hoff), stackAddr_eq]
  omega

end

/-- Settles O9: the fields of R22, and the two maps inverse to each other. -/
theorem stackMapIsOneToOne : Obligations.StackMapIsOneToOne := by
  refine ⟨fun a ha => ⟨homeStack_eq a, stackOff_eq ha, rfl, homeStack_lt a, ?_, stackAddr_home ha⟩,
    fun st off hst hoff => ⟨stackAddr_lt hst hoff, homeStack_stackAddr hst off, stackOff_stackAddr hst hoff⟩⟩
  rw [stackOff_eq ha]
  omega

end Sys2Proof.Machine
end

section
/-! PROOFS. The reference (R30), physical cells that fail (R37, R40, R77), and failed sublinks of the hinge (R491). -/

namespace Sys2Proof.Machine

open Sys2Proof Sys2Proof.Safety

variable {s t u : State}

/-! ## Bits of a field -/

/-- A bit that was just set. -/
theorem bitAt_lor_two_pow (f : Nat) {i w : Nat} (h : i < w) : bitAt (Nat.lor f (2 ^ i) % 2 ^ w) i = true := by
  have hbit : (Nat.lor f (2 ^ i) % 2 ^ w).testBit i = true := by
    change ((f ||| 2 ^ i) % 2 ^ w).testBit i = true
    rw [Nat.testBit_mod_two_pow, Nat.testBit_or, Nat.testBit_two_pow_self]
    simp [h]
  simpa [bitAt, Nat.testBit_eq_decide_div_mod_eq, Nat.shiftRight_eq_div_pow] using hbit

/-- Setting a bit of a register's field. -/
theorem State.bitAt_rf_setF_lor (a f : Nat) {g : Fld} {i : Nat} (hg : g.lsb + g.width ≤ 64) (hi : i < g.width) :
    bitAt ((s.setF a g (Nat.lor f (2 ^ i))).rf a g) i = true := by
  rw [State.setF_rf_self _ _ hg, bitAt_lor_two_pow f hi]

/-! ## Registers alone -/

/-- From `s` to `t` only registers named by `p` may differ. -/
structure RegFrame (p : Nat → Prop) (s t : State) : Prop where
  rest : t = { s with regs := t.regs }
  regs : ∀ a, ¬ p a → t.reg a = s.reg a

theorem RegFrame.refl (p : Nat → Prop) (s : State) : RegFrame p s s := ⟨rfl, fun _ _ => rfl⟩

theorem RegFrame.setF {p : Nat → Prop} (h : RegFrame p s t) {a : Nat} (ha : p a) (f : Fld) (x : Nat) : RegFrame p s (t.setF a f x) := by
  refine ⟨?_, fun b hb => ?_⟩
  · conv_lhs => rw [h.rest]
    rfl
  · have hne : b ≠ a := fun e => hb (e.symm ▸ ha)
    exact (State.setF_reg_ne f x hne).trans (h.regs b hb)

/-- An event changes the event machinery and registers. -/
theorem State.raise_eq (s : State) (e : EvRec) : s.raise e = { s with evt := (s.raise e).evt, regs := (s.raise e).regs } := by
  conv_lhs => rw [(s.raise_frame e).rest, ← s.raise_evt e]

/-- An event over changed registers. -/
theorem RegFrame.raise_eq {p : Nat → Prop} (h : RegFrame p s t) (e : EvRec) :
    t.raise e = { s with evt := (t.raise e).evt, regs := (t.raise e).regs } := by
  conv_lhs => rw [State.raise_eq]
  generalize (t.raise e).evt = x, (t.raise e).regs = y
  rw [h.rest]

/-- Counting the wards' cells changes SEC_WARD_STATE alone. -/
theorem State.countCells_frame (s : State) : RegFrame (fun a => ∃ w < 8, a = R.SEC_WARD_STATE w) s s.countCells :=
  List.foldlRecOn (motive := RegFrame _ s) _ _ (RegFrame.refl _ s) fun _ h w hw => h.setF ⟨w, List.mem_range.1 hw, rfl⟩ _ _

@[simp] theorem State.countCells_nv (s : State) : s.countCells.nv = s.nv := by rw [s.countCells_frame.rest]

@[simp] theorem State.countCells_clk (s : State) : s.countCells.clk = s.clk := by rw [s.countCells_frame.rest]

@[simp] theorem State.countCells_cores (s : State) : s.countCells.cores = s.cores := by rw [s.countCells_frame.rest]

/-! ## Stopping a core -/

/-- What stopping a core leaves alone: the non-volatile part, the clocks, every register but the loss counters of events, and that a core
is halted. -/
structure StopFrame (s t : State) : Prop where
  nv : t.nv = s.nv
  clk : t.clk = s.clk
  regs : ∀ a, (∀ p, p < 3 → a ≠ R.EVT_LOSS p) → t.reg a = s.reg a
  halted : ∀ j, (s.core j).halted = true → (t.core j).halted = true

theorem StopFrame.refl (s : State) : StopFrame s s := ⟨rfl, rfl, fun _ _ => rfl, fun _ h => h⟩

theorem StopFrame.trans (h : StopFrame s t) (k : StopFrame t u) : StopFrame s u :=
  ⟨k.nv.trans h.nv, k.clk.trans h.clk, fun a ha => (k.regs a ha).trans (h.regs a ha), fun j hj => k.halted j (h.halted j hj)⟩

theorem StopFrame.ite {c : Prop} [Decidable c] (h : StopFrame s t) (k : StopFrame s u) : StopFrame s (if c then t else u) := by
  split
  · exact h
  · exact k

/-- A change of a core that does not start it. -/
theorem StopFrame.modCore (h : StopFrame s t) (k : Nat) (f : Core → Core) (hf : ∀ c : Core, c.halted = true → (f c).halted = true) :
    StopFrame s (t.modCore k f) := by
  refine h.trans ⟨rfl, rfl, fun _ _ => rfl, fun j hj => ?_⟩
  by_cases e : j = k
  · subst e
    rw [State.modCore, State.setCore_core_self]
    exact hf _ hj
  · rwa [State.modCore, State.setCore_core_ne _ e]

theorem StopFrame.raise (h : StopFrame s t) (e : EvRec) : StopFrame s (t.raise e) :=
  h.trans ⟨t.raise_nv e, t.raise_clk e, fun _ ha => t.raise_reg e ha, fun j hj => by rwa [State.core, t.raise_cores e]⟩

@[simp] theorem Core.settle_halted (c : Core) (now : Nat) : (c.settle now).halted = c.halted := by
  unfold Core.settle
  split <;> rfl

@[simp] theorem Core.setStream_halted (c : Core) (n : Nat) (x : Stream) : (c.setStream n x).halted = c.halted := by
  unfold Core.setStream
  split <;> rfl

@[simp] theorem Core.flushDone_halted (c : Core) (n : Nat) : (c.flushDone n).halted = c.halted := by
  unfold Core.flushDone
  split
  · exact Core.setStream_halted _ _ _
  · rfl

@[simp] theorem Core.withIssued_halted (c : Core) (now : Nat) (slope : Bool) (l : List Issued) :
    (c.withIssued now slope l).halted = c.halted := by
  rw [(c.withIssued_reissued now slope l).2]

theorem StopFrame.sig (h : StopFrame s t) (k : Nat) (c : Cmd) : StopFrame s (t.sig k c) := by
  unfold State.sig State.addCtr State.setCtr
  refine StopFrame.ite ?_ h
  exact h.modCore k _ fun _ hc => hc

/-- A command that completes starts no core. -/
theorem StopFrame.complete (h : StopFrame s t) (k ord st : Nat) : StopFrame s (t.complete k ord st) := by
  unfold State.complete
  split
  · exact h
  · next e _ =>
    extract_lets gone counted x ended
    have hgone : StopFrame s gone := h.modCore k _ fun _ hc => by simpa using hc
    have hcounted : StopFrame s counted := by
      refine StopFrame.ite ?_ hgone
      exact hgone.modCore k _ fun _ hc => hc
    refine StopFrame.modCore ?_ k _ fun _ hc => by simpa using hc
    refine StopFrame.ite (hcounted.sig k e.cmd) ?_
    split
    · exact (hcounted.modCore k _ fun _ hc => by simpa using hc).raise _
    · exact hcounted.modCore k _ fun _ hc => by simpa using hc
    · exact hcounted

theorem StopFrame.dropRecv (h : StopFrame s t) (k : Nat) (e : Issued) (st : Nat) : StopFrame s (t.dropRecv k e st) := by
  unfold State.dropRecv
  refine StopFrame.ite ?_ h
  exact h.trans ⟨rfl, rfl, fun _ _ => rfl, fun _ hj => hj⟩

theorem StopFrame.endAll (h : StopFrame s t) (k st : Nat) : StopFrame s (t.endAll k st) :=
  List.foldlRecOn (motive := StopFrame s) _ _ h fun _ h e _ => (h.dropRecv k e st).complete k e.ord st

theorem StopFrame.forget (h : StopFrame s t) (k : Nat) : StopFrame s (t.forget k) := h.trans ⟨rfl, rfl, fun _ _ => rfl, fun _ hj => hj⟩

theorem StopFrame.endAccesses (h : StopFrame s t) (p : WaitAcc → Bool) (st : Nat) : StopFrame s (t.endAccesses p st) := by
  unfold State.endAccesses
  refine StopFrame.ite ?_ h
  exact h.trans ⟨rfl, rfl, fun _ _ => rfl, fun _ hj => hj⟩

/-- What follows the halt of a core that is stopped. -/
theorem StopFrame.stopCore {k : Nat} (h : StopFrame s (t.haltCore k)) : StopFrame s (t.stopCore k) := by
  unfold State.stopCore
  extract_lets ended
  have hended : StopFrame s ended := ((h.endAll k St.aborted).forget k).endAccesses _ _
  exact hended.modCore k _ fun _ hc => by simpa using hc

/-- Stopping a core. -/
theorem State.stopCore_frame (s : State) (k : Nat) : StopFrame s (s.stopCore k) :=
  StopFrame.stopCore ((StopFrame.refl s).modCore k _ fun _ _ => by simp)

/-- A core that is stopped has halted. -/
theorem State.stopCore_halted (s : State) (k : Nat) : ((s.stopCore k).core k).halted = true := by
  refine (StopFrame.stopCore (StopFrame.refl _)).halted k ?_
  rw [State.haltCore, State.modCore, State.setCore_core_self, Core.settle_halted]

/-! ## A logical cell that is lost (R40) -/

/-- HALF_CELL_ABSENT with the cell's bit set. -/
def State.setAbsent (s : State) (k : Nat) : State :=
  s.setF (R.HALF_CELL_ABSENT (k / 64)) F.HALF_CELL_ABSENT_ABSENT
    (Nat.lor (s.rf (R.HALF_CELL_ABSENT (k / 64)) F.HALF_CELL_ABSENT_ABSENT) (2 ^ (k % 64)))

theorem State.setAbsent_absent (s : State) (k : Nat) : (s.setAbsent k).absent k = true :=
  State.bitAt_rf_setF_lor _ _ (by decide) (Nat.mod_lt _ (by decide))

/-- A lost cell is stopped, marked absent, no longer counted, and reported. -/
theorem State.loseCell_eq (s : State) (k : Nat) :
    s.loseCell k = ((s.stopCore k).setAbsent k).countCells.raise (ev (halfCode 0x0110 (k / 64)) 0 k 2) := by
  unfold State.loseCell
  rfl

theorem State.loseCell_nv (s : State) (k : Nat) : (s.loseCell k).nv = s.nv := by
  rw [State.loseCell_eq, State.raise_nv, State.countCells_nv, State.setAbsent, State.setF_nv, (s.stopCore_frame k).nv]

theorem State.loseCell_clk (s : State) (k : Nat) : (s.loseCell k).clk = s.clk := by
  rw [State.loseCell_eq, State.raise_clk, State.countCells_clk, State.setAbsent, State.setF_clk, (s.stopCore_frame k).clk]

theorem State.loseCell_halted (s : State) (k : Nat) : ((s.loseCell k).core k).halted = true := by
  rw [State.core, State.loseCell_eq, State.raise_cores, State.countCells_cores, State.setAbsent, State.setF_cores]
  exact s.stopCore_halted k

/-- The registers of a half's cells: HALF_CELL_ABSENT and HALF_CELL_FAULT. -/
def cellReg (a : Nat) : Prop := ∃ h < 2, a = R.HALF_CELL_ABSENT h ∨ a = R.HALF_CELL_FAULT_LO h ∨ a = R.HALF_CELL_FAULT_HI h

theorem cellReg_absent {h : Nat} (hh : h < 2) : cellReg (R.HALF_CELL_ABSENT h) := ⟨h, hh, .inl rfl⟩

theorem cellReg_faultReg {h : Nat} (hh : h < 2) (r : Nat) : cellReg (faultReg h r) := by
  unfold faultReg
  split
  · exact ⟨h, hh, .inr (.inl rfl)⟩
  · exact ⟨h, hh, .inr (.inr rfl)⟩

/-- Where the registers of cells lie, apart from those that the loss of a cell changes besides. -/
theorem cellReg.apart {a : Nat} (ha : cellReg a) :
    a ≠ R.MGMT_STAGE ∧ (∀ h, a ≠ R.HALF_CELL_MAP h) ∧ (∀ p, p < 3 → a ≠ R.EVT_LOSS p) ∧ ∀ w, w < 8 → a ≠ R.SEC_WARD_STATE w := by
  unfold R.MGMT_STAGE R.HALF_CELL_MAP R.EVT_LOSS R.SEC_WARD_STATE
  unfold cellReg R.HALF_CELL_ABSENT R.HALF_CELL_FAULT_LO R.HALF_CELL_FAULT_HI at ha
  obtain ⟨h, hh, ha⟩ := ha
  exact ⟨by omega, fun _ => by omega, fun _ _ => by omega, fun _ _ => by omega⟩

theorem faultReg_ne_absent (h r k : Nat) : faultReg h r ≠ R.HALF_CELL_ABSENT k := by
  unfold faultReg R.HALF_CELL_FAULT_LO R.HALF_CELL_FAULT_HI R.HALF_CELL_ABSENT
  split <;> omega

/-- Once HALF_CELL_ABSENT is set, the registers of cells stay as they are. -/
theorem State.loseCell_reg (s : State) (k : Nat) {a : Nat} (ha : cellReg a) : (s.loseCell k).reg a = ((s.stopCore k).setAbsent k).reg a := by
  obtain ⟨-, -, hloss, hward⟩ := ha.apart
  rw [State.loseCell_eq, State.raise_reg _ hloss, (State.countCells_frame _).regs a fun ⟨w, hw, e⟩ => hward w hw e]

theorem State.loseCell_absent (s : State) {k : Nat} (hk : k < 128) : (s.loseCell k).absent k = true := by
  have h : (s.loseCell k).absent k = ((s.stopCore k).setAbsent k).absent k := by
    unfold State.absent State.rf
    rw [s.loseCell_reg k (cellReg_absent (by omega))]
  rw [h, State.setAbsent_absent]

/-- The loss of a cell marks no physical cell. -/
theorem State.loseCell_faulty (s : State) (k : Nat) {h : Nat} (hh : h < 2) (r p : Nat) : (s.loseCell k).faulty h r p = s.faulty h r p := by
  have hreg := cellReg_faultReg hh r
  obtain ⟨-, -, hstop, -⟩ := hreg.apart
  unfold State.faulty State.rf
  rw [s.loseCell_reg k hreg, State.setAbsent, State.setF_reg_ne _ _ (faultReg_ne_absent _ _ _), (s.stopCore_frame k).regs _ hstop]

/-! ## A physical cell that is marked (R37) -/

/-- The marks of a row are nine bits within a register's word. -/
theorem faultFld_bounds {r : Nat} (hr : r < 8) : (faultFld r).lsb + (faultFld r).width ≤ 64 ∧ (faultFld r).width = 9 := by
  unfold faultFld
  split
  · have hlo : 16 * r + 9 ≤ 64 := by omega
    exact ⟨hlo, rfl⟩
  · have hhi : 16 * (r - 4) + 9 ≤ 64 := by omega
    exact ⟨hhi, rfl⟩

section
variable {h r p : Nat} (hh : h < 2) (hr : r < 8) (hp : p < 9)

include hr hp in
theorem State.markFaulty_faulty (s : State) : (s.markFaulty h r p).faulty h r p = true := by
  obtain ⟨hword, hwidth⟩ := faultFld_bounds hr
  exact State.bitAt_rf_setF_lor _ _ hword (hwidth ▸ hp)

theorem State.markFaulty_reg (s : State) {a : Nat} (ha : a ≠ faultReg h r) : (s.markFaulty h r p).reg a = s.reg a :=
  State.setF_reg_ne _ _ ha

include hh in
/-- What decides on the loss of a cell is not the mark. -/
theorem State.markFaulty_stage (s : State) : (s.markFaulty h r p).rf R.MGMT_STAGE F.MGMT_STAGE_STAGE = s.rf R.MGMT_STAGE F.MGMT_STAGE_STAGE :=
  State.setF_rf_ne _ _ _ (cellReg_faultReg hh r).apart.1.symm

include hh in
theorem State.markFaulty_logicalOn (s : State) : (s.markFaulty h r p).logicalOn h r p = s.logicalOn h r p := by
  obtain ⟨-, hspare, -⟩ := (cellReg_faultReg hh r).apart
  unfold State.logicalOn
  rw [State.markFaulty, State.setF_rf_ne _ _ _ (hspare h).symm]

theorem State.markFaulty_absent (s : State) (k : Nat) : (s.markFaulty h r p).absent k = s.absent k := by
  unfold State.absent State.markFaulty
  rw [State.setF_rf_ne _ _ _ (faultReg_ne_absent _ _ _).symm]

include hh hr hp in
/-- The logical cell on a physical cell of a half is a cell. -/
theorem State.logicalOn_lt {k : Nat} (hk : s.logicalOn h r p = some k) : k < 128 := by
  by_cases hspare : p = 8
  · simp only [State.logicalOn, hspare, if_true, Option.ite_none_right_eq_some, Option.some.injEq] at hk
    omega
  · simp only [State.logicalOn, hspare, if_false, Option.ite_none_left_eq_some, Option.some.injEq] at hk
    omega

include hh in
/-- A spare, or a cell without a logical cell, is only marked. -/
theorem State.failCell_spare (hfaulty : s.faulty h r p = false) (hk : s.logicalOn h r p = none) : s.failCell h r p = s.markFaulty h r p := by
  simp [State.failCell, hfaulty, State.markFaulty_logicalOn hh, hk]

include hh in
/-- A cell in service takes its logical cell with it. -/
theorem State.failCell_serving {k : Nat} (hfaulty : s.faulty h r p = false) (hstage : s.rf R.MGMT_STAGE F.MGMT_STAGE_STAGE ≠ 0)
    (hk : s.logicalOn h r p = some k) (habsent : s.absent k = false) : s.failCell h r p = (s.markFaulty h r p).loseCell k := by
  simp [State.failCell, hfaulty, State.markFaulty_stage hh, hstage, State.markFaulty_logicalOn hh, hk, State.markFaulty_absent, habsent]

end

/-- R40: what the failure of a cell in service leaves. -/
structure CellLost (s t : State) (h r p k : Nat) : Prop where
  faulty : t.faulty h r p = true
  absent : t.absent k = true
  halted : (t.core k).halted = true
  nv : t.nv = s.nv
  clk : t.clk = s.clk

theorem State.failCell_lost {h r p k : Nat} (hh : h < 2) (hr : r < 8) (hp : p < 9) (hfaulty : s.faulty h r p = false)
    (hstage : s.rf R.MGMT_STAGE F.MGMT_STAGE_STAGE ≠ 0) (hk : s.logicalOn h r p = some k) (habsent : s.absent k = false) :
    CellLost s (s.failCell h r p) h r p k := by
  rw [State.failCell_serving hh hfaulty hstage hk habsent]
  exact ⟨(State.loseCell_faulty _ k hh r p).trans (State.markFaulty_faulty hr hp s), State.loseCell_absent _ (State.logicalOn_lt hh hr hp hk),
    State.loseCell_halted _ k, State.loseCell_nv _ k, State.loseCell_clk _ k⟩

/-- More than 16 events within a second fail the cell (R77). -/
theorem exec_parityRateLimit {h r p : Nat} (hrate : s.parityRate h r p = true) :
    exec (.parityRateLimit h r p) s = .next (s.failCell h r p) := by
  change execParityRateLimit h r p s = _
  rw [execParityRateLimit, hrate]
  rfl

/-! ## The reference (R30) -/

/-- A key that a filter drops reads as unlisted. -/
theorem mget_filter_of_not {α : Type} (d : α) {p : Nat × α → Bool} {a : Nat} (hp : ∀ x, p (a, x) = false) :
    ∀ m : List (Nat × α), mget d (m.filter p) a = d := by
  intro m
  induction m with
  | nil => rfl
  | cons e m ih =>
    obtain ⟨k, v⟩ := e
    rw [List.filter_cons]
    split
    · next hkeep =>
      have hne : k ≠ a := fun e => by simp [e, hp] at hkeep
      rw [mget, if_neg hne, ih]
    · exact ih

/-- A warm restart writes two fields over the registers that it keeps. -/
theorem State.warmRestart_eq (s : State) : ∃ (t : State) (debug : Nat), t.regs = s.regs.filter (fun e => warmKept e.1) ∧
    s.warmRestart = (t.setF R.SEC_STATUS F.SEC_STATUS_DEBUG debug).setF R.MGMT_STAGE F.MGMT_STAGE_WARM 1 :=
  ⟨_, _, rfl, rfl⟩

/-- A warm restart starts from stage 0, marked WARM. -/
theorem State.warmRestart_stage (s : State) :
    s.warmRestart.rf R.MGMT_STAGE F.MGMT_STAGE_WARM = 1 ∧ s.warmRestart.rf R.MGMT_STAGE F.MGMT_STAGE_STAGE = 0 := by
  obtain ⟨t, debug, hregs, heq⟩ := s.warmRestart_eq
  have hreset : t.reg R.MGMT_STAGE = regReset R.MGMT_STAGE := by
    rw [State.reg, hregs]
    exact mget_filter_of_not _ (fun _ => (by decide : warmKept R.MGMT_STAGE = false)) s.regs
  rw [heq]
  refine ⟨State.setF_rf_self _ _ (by decide), ?_⟩
  rw [State.setF_rf_other _ _ (by decide) (by decide), State.setF_rf_ne _ _ _ (by decide), State.rf, hreset]
  decide

/-! ## Failed sublinks (R491) -/

theorem length_minsert_le {α : Type} (a : Nat) (x : α) (m : List (Nat × α)) : (minsert a x m).length ≤ m.length + 1 := by
  induction m with
  | nil => exact Nat.le_refl _
  | cons e m ih =>
    obtain ⟨k, v⟩ := e
    unfold minsert
    split
    · exact Nat.le_refl _
    · split
      · exact Nat.le_succ _
      · exact Nat.succ_le_succ ih

/-- A set grows by at most one. -/
theorem length_nput_true_le (m : NatSet) (a : Nat) : (nput m a true).length ≤ m.length + 1 := by
  rw [nput, mset, if_neg (by decide)]
  exact length_minsert_le _ _ _

/-- Both halves count the failed sublinks. -/
def State.countSublinks (s : State) (n : Nat) : State :=
  (s.setF (R.HALF_LEAD_COUNT 0) F.HALF_LEAD_COUNT_SUBLINKS_DOWN n).setF (R.HALF_LEAD_COUNT 1) F.HALF_LEAD_COUNT_SUBLINKS_DOWN n

theorem State.countSublinks_rf (s : State) {n : Nat} (hn : n < 256) :
    (s.countSublinks n).rf (R.HALF_LEAD_COUNT 0) F.HALF_LEAD_COUNT_SUBLINKS_DOWN = n ∧
    (s.countSublinks n).rf (R.HALF_LEAD_COUNT 1) F.HALF_LEAD_COUNT_SUBLINKS_DOWN = n := by
  have hmod : n % 2 ^ F.HALF_LEAD_COUNT_SUBLINKS_DOWN.width = n := Nat.mod_eq_of_lt hn
  unfold State.countSublinks
  rw [State.setF_rf_ne _ _ _ (by decide), State.setF_rf_self _ _ (by decide), State.setF_rf_self _ _ (by decide), hmod]
  exact ⟨rfl, rfl⟩

/-- The state in which a sublink has failed. -/
def State.loseSublink (s : State) (x : Nat) : State := { s with clk := { s.clk with sublinks := nput s.clk.sublinks x true } }

theorem State.countSublinks_sublinks (s : State) (x n : Nat) :
    ((s.loseSublink x).countSublinks n).clk.sublinks = nput s.clk.sublinks x true := rfl

theorem State.countSublinks_frame (s : State) (n : Nat) : RegFrame (fun a => ∃ h, a = R.HALF_LEAD_COUNT h) s (s.countSublinks n) :=
  ((RegFrame.refl _ s).setF ⟨0, rfl⟩ _ _).setF ⟨1, rfl⟩ _ _

/-- A sublink that fails is counted by both halves and reported. -/
theorem exec_hingeSublinkDown {x : Nat} (h : nmem s.clk.sublinks x = false) :
    ∃ e, exec (.hingeSublinkDown x) s = .next (((s.loseSublink x).countSublinks (nput s.clk.sublinks x true).length).raise e) := by
  change ∃ e, execHingeSublinkDown x s = _
  unfold execHingeSublinkDown
  rw [h]
  exact ⟨_, rfl⟩

/-! ## The statement -/

/-- Settles O14: the reference's rows by their branches, the failed cells by `State.failCell_lost` and `State.failCell_spare`, and the
sublinks by what both halves count. -/
theorem referenceAndCellsComplete : Obligations.ReferenceAndCellsComplete := by
  unfold Obligations.ReferenceAndCellsComplete
  refine ⟨?lockLost, ?expiry, ?expiryIdle, ?regained, ?restart, ?failed, ?spare, ?rateSpare, ?rateServing, ?rateLow, ?sublink⟩
  case lockLost => exact fun s => rfl
  case expiry =>
    intro s hlock hlost
    have hexec : exec .refHoldoverExpiry s =
        .next ({ s.abortAll with clk := { s.abortAll.clk with on := false, lost := true } }.raise (ev 0x0010 0 0 0)) := by
      change execRefHoldoverExpiry s = _
      simp [execRefHoldoverExpiry, hlock, hlost]
    refine ⟨_, hexec, by rw [State.raise_clk], by rw [State.raise_clk], ?_⟩
    generalize s.abortAll = a
    exact State.raise_eq _ _
  case expiryIdle =>
    intro s h
    refine ⟨s, ?_, rfl⟩
    change execRefHoldoverExpiry s = _
    simp [execRefHoldoverExpiry, h]
  case regained =>
    intro s hlock hlost
    refine ⟨_, ?_, rfl⟩
    change execRefLockRegained s = _
    simp [execRefLockRegained, hlock, hlost]
  case restart =>
    intro s hlock hlost
    have hexec : exec .refLockRegained s = .next s.warmRestart := by
      change execRefLockRegained s = _
      simp [execRefLockRegained, hlock, hlost]
    exact ⟨_, hexec, s.warmRestart_stage.1, s.warmRestart_stage.2, rfl, rfl, rfl, rfl, rfl, rfl, rfl⟩
  case failed =>
    intro s half row col k hh hr hp hfaulty hstage hk habsent
    obtain ⟨h1, h2, h3, h4, h5⟩ := State.failCell_lost hh hr hp hfaulty hstage hk habsent
    exact ⟨_, rfl, h1, h2, h3, h4, h5⟩
  case spare =>
    intro s half row col hh hr hp hfaulty hk
    refine ⟨s.markFaulty half row col, ?_, State.markFaulty_faulty hr hp s, fun a ha => State.markFaulty_reg s ha, rfl⟩
    rw [← State.failCell_spare hh hfaulty hk]
    rfl
  case rateSpare =>
    intro s half row col hh hr hp hfaulty hrate hk
    refine ⟨s.markFaulty half row col, ?_, State.markFaulty_faulty hr hp s, fun a ha => State.markFaulty_reg s ha, rfl⟩
    rw [← State.failCell_spare hh hfaulty hk, ← exec_parityRateLimit hrate]
  case rateServing =>
    intro s half row col k hh hr hp hfaulty hrate hstage hk habsent
    obtain ⟨h1, h2, h3, h4, h5⟩ := State.failCell_lost hh hr hp hfaulty hstage hk habsent
    exact ⟨_, exec_parityRateLimit hrate, h1, h2, h3, h4, h5⟩
  case rateLow =>
    intro s half row col hrate
    refine ⟨s, ?_, rfl⟩
    change execParityRateLimit half row col s = _
    rw [execParityRateLimit, hrate]
    rfl
  case sublink =>
    intro s x hmem hlen
    obtain ⟨e, hexec⟩ := exec_hingeSublinkDown hmem
    have hgrow := length_nput_true_le s.clk.sublinks x
    obtain ⟨h0, h1⟩ := (s.loseSublink x).countSublinks_rf (n := (nput s.clk.sublinks x true).length) (by omega)
    refine ⟨_, hexec, ?self, ?others, ?half0, ?half1, ?frame⟩
    case self => rw [State.raise_clk, State.countSublinks_sublinks, nmem_nput_self]
    case others => intro y hy; rw [State.raise_clk, State.countSublinks_sublinks, nmem_nput_ne _ _ hy]
    case half0 => rw [State.raise_rf _ _ (by decide), State.raise_clk, h0, State.countSublinks_sublinks]
    case half1 => rw [State.raise_rf _ _ (by decide), State.raise_clk, h1, State.countSublinks_sublinks]
    case frame =>
      rw [State.raise_clk]
      exact ((s.loseSublink x).countSublinks_frame _).raise_eq e

end Sys2Proof.Machine
end

section
/-! PROOFS. Lines of memory as their addresses, marks and cache entries read after a change (R229 to R232). -/

namespace Sys2Proof.Machine

open Sys2Proof Sys2Proof.Safety

variable {s : State} {line : Nat}

/-! ## Bytes and marks -/

/-- A key that a filter keeps reads as before. -/
theorem mget_filter_of_keep {α : Type} (d : α) {p : Nat × α → Bool} {a : Nat} (hp : ∀ x, p (a, x) = true) :
    ∀ m : List (Nat × α), mget d (m.filter p) a = mget d m a := by
  intro m
  induction m with
  | nil => rfl
  | cons e m ih =>
    obtain ⟨k, v⟩ := e
    rw [List.filter_cons]
    split
    · rw [mget, mget, ih]
    · next hdrop =>
      have hne : k ≠ a := fun e => hdrop (e ▸ hp v)
      rw [mget, if_neg hne, ih]

/-- Bytes outside the range that is zeroed stay. -/
theorem byteAt_zeroBytes_ne (m : List Host.Cell) (a n : Nat) {b : Nat} (hb : b < a ∨ a + n ≤ b) :
    byteAt (zeroBytes m a n) b = byteAt m b :=
  mget_filter_of_keep _ (fun _ => by simpa using hb) m

/-- Bytes read alike where every byte of the range does. -/
theorem bytesAt_congr {m m' : List Host.Cell} (n : Nat) : ∀ a : Nat, (∀ b, a ≤ b → b < a + n → byteAt m b = byteAt m' b) →
    bytesAt m a n = bytesAt m' a n := by
  induction n with
  | zero => intro a _; rfl
  | succ n ih =>
    intro a h
    rw [bytesAt, bytesAt, h a (Nat.le_refl _) (by omega), ih (a + 1) fun b h1 h2 => h b (by omega) (by omega)]

@[simp] theorem length_bytesAt (m : List Host.Cell) (n : Nat) : ∀ a : Nat, (bytesAt m a n).length = n := by
  induction n with
  | zero => intro a; rfl
  | succ n ih => intro a; rw [bytesAt, List.length_cons, ih]

@[simp] theorem length_padTo (n : Nat) (bs : List Byte) : (padTo n bs).length = n := by
  simp [padTo, zeros]
  omega

/-- Bytes of the right number need no padding. -/
theorem padTo_of_length {n : Nat} {bs : List Byte} (h : bs.length = n) : padTo n bs = bs := by
  simp [padTo, zeros, h]

/-- Laying bytes over others keeps their number, where they fit. -/
theorem length_overlay {old new : List Byte} {off : Nat} (h : off + new.length ≤ old.length) :
    (overlay old off new).length = old.length := by
  simp [overlay]
  omega

/-- A line of 64 bytes reads as it was last written. -/
theorem bytesAt_putBytes_line (m : List Host.Cell) (line : Nat) {data : List Byte} (h : data.length = 64) :
    bytesAt (putBytes m (line * 64) (padTo 64 data)) (line * 64) 64 = data := by
  have hread := bytesAt_putBytes_self data m (line * 64)
  rw [h] at hread
  rw [padTo_of_length h, hread]

/-- Writing one line leaves every other line alone. -/
theorem bytesAt_putBytes_line_ne (m : List Host.Cell) {line l : Nat} (data : List Byte) (h : l ≠ line) :
    bytesAt (putBytes m (line * 64) (padTo 64 data)) (l * 64) 64 = bytesAt m (l * 64) 64 :=
  bytesAt_congr 64 _ fun b h1 h2 => byteAt_putBytes_ne _ _ _ (by rw [length_padTo]; omega)

/-- Zeroing one line leaves every other line alone. -/
theorem bytesAt_zeroBytes_line_ne (m : List Host.Cell) {line l : Nat} (h : l ≠ line) :
    bytesAt (zeroBytes m (line * 64) 64) (l * 64) 64 = bytesAt m (l * 64) 64 :=
  bytesAt_congr 64 _ fun b h1 h2 => byteAt_zeroBytes_ne _ _ _ (by omega)

/-- An entry just put is found. -/
theorem find?_minsert_self {α : Type} (a : Nat) (x : α) (m : List (Nat × α)) :
    (minsert a x m).find? (fun e => e.1 = a) = some (a, x) := by
  induction m with
  | nil => simp [minsert]
  | cons e m ih =>
    obtain ⟨k, v⟩ := e
    unfold minsert
    split
    · simp
    · split
      · simp
      · next hne =>
        rw [List.find?_cons_of_neg (by simpa using Ne.symm hne), ih]

/-! ## Home lines (R229 to R231) -/

theorem State.dramPut_dramLine_self {data : List Byte} (h : data.length = 64) : (s.dramPut line data).dramLine line = data :=
  bytesAt_putBytes_line _ _ h

theorem State.dramPut_dramLine_ne {l : Nat} (data : List Byte) (h : l ≠ line) : (s.dramPut line data).dramLine l = s.dramLine l :=
  bytesAt_putBytes_line_ne _ data h

theorem State.dramPoison_dramLine_ne {l : Nat} (h : l ≠ line) : (s.dramPoison line).dramLine l = s.dramLine l :=
  bytesAt_zeroBytes_line_ne _ h

@[simp] theorem State.setMark_mark_self (s : State) (line : Nat) (m : Mark) : (s.setMark line m).mark line = m := mget_mset_self _ _ _ _

theorem State.setMark_mark_ne {l : Nat} (m : Mark) (h : l ≠ line) : (s.setMark line m).mark l = s.mark l := mget_mset_ne _ _ _ _ h

theorem State.dramPut_mark_self (s : State) (line : Nat) (data : List Byte) : (s.dramPut line data).mark line = .ok :=
  State.setMark_mark_self _ _ _

theorem State.dramPut_mark_ne {l : Nat} (data : List Byte) (h : l ≠ line) : (s.dramPut line data).mark l = s.mark l :=
  State.setMark_mark_ne _ h

theorem State.dramPoison_mark_self (s : State) (line : Nat) : (s.dramPoison line).mark line = .poison := State.setMark_mark_self _ _ _

theorem State.dramPoison_mark_ne {l : Nat} (h : l ≠ line) : (s.dramPoison line).mark l = s.mark l := State.setMark_mark_ne _ h

/-! ## Reads from DRAM (R229, R231) -/

/-- What an uncorrectable error of a line counts, records and raises. -/
def State.reportPoison (s : State) (line : Nat) : State :=
  ((s.bump (R.MEM_ECC_COUNT (homeStack (line * 64))) F.MEM_ECC_COUNT_UNCORRECTED 1).memErr (homeStack (line * 64)) (stackOff (line * 64))
    St.poison).memEvent (homeStack (line * 64)) 0x02 1 (stackOff (line * 64)) St.poison

theorem State.reportPoison_frame (s : State) (line : Nat) :
    s.reportPoison line = { s with evt := (s.reportPoison line).evt, regs := (s.reportPoison line).regs } :=
  RegFrame.raise_eq (p := fun _ => True) (((RegFrame.setF (RegFrame.refl _ s) trivial _ _).setF trivial _ _).setF trivial _ _) _

theorem State.reportPoison_mem (s : State) (line : Nat) : (s.reportPoison line).mem = s.mem := by rw [State.reportPoison_frame]

theorem State.reportPoison_mark (s : State) (line l : Nat) : (s.reportPoison line).mark l = s.mark l := by
  rw [State.mark, State.reportPoison_mem, State.mark]

theorem State.reportPoison_dramLine (s : State) (line l : Nat) : (s.reportPoison line).dramLine l = s.dramLine l := by
  rw [State.dramLine, State.reportPoison_mem, State.dramLine]

theorem State.dramRead_of_ok (h : s.mark line = .ok) : s.dramRead line .good = (s, s.dramLine line, .ok) := by
  simp [State.dramRead, h]

theorem State.dramRead_of_poison (f : LineFault) (h : s.mark line = .poison) : s.dramRead line f = (s, zeros 64, .poison) := by
  simp [State.dramRead, h]

theorem State.dramRead_uncorrectable (h : s.mark line ≠ .poison) :
    s.dramRead line .uncorrectable = ((s.dramPoison line).reportPoison line, zeros 64, .poison) := by
  rw [State.dramRead, if_neg h]
  rfl

/-- An UNSET region reads zeros (R229). -/
theorem State.homeRead_of_unset (hst : (s.region (regionKey (line * 64))).st = 0) {hint : Nat} {last : Bool} {f : LineFault} :
    s.homeRead line hint last f = (s, zeros 64, St.unset) := by
  simp only [State.homeRead, hst]

section
variable (hcache : s.cline line = none)
include hcache

/-- A read of a line of a SET region that the memory-side cache does not hold, without a hint. -/
theorem State.homeRead_of_dram (hst : (s.region (regionKey (line * 64))).st = 2) {f : LineFault} {t : State} {data : List Byte} {m : Mark}
    (hread : s.dramRead line f = (t, data, m)) : s.homeRead line 0 false f = (t, data, m.status) := by
  simp only [State.homeRead, hst, hcache, hread]
  rfl

theorem State.homePut_of_dram (data : List Byte) : s.homePut line 0 data = s.dramPut line data := by
  simp only [State.homePut, hcache]
  rfl

theorem State.homeMerge_of_ok (h : s.mark line = .ok) : s.homeMerge line .good = (s, .ok (s.dramLine line)) := by
  simp only [State.homeMerge, hcache, State.dramRead_of_ok h]

theorem State.homeMerge_of_poison (f : LineFault) (h : s.mark line = .poison) : s.homeMerge line f = (s, .error St.poison) := by
  simp only [State.homeMerge, hcache, State.dramRead_of_poison f h]

/-- A whole line is written (R230). -/
theorem State.homeWrite_full {data : List Byte} (f : LineFault) (h : data.length = 64) :
    s.homeWrite line 0 0 data f = (s.dramPut line data, St.ok) := by
  have htake : data.take 64 = data := List.take_of_length_le (by omega)
  rw [State.homeWrite, if_pos ⟨rfl, by omega⟩, htake, State.homePut_of_dram hcache]

/-- Part of a good line is merged (R230). -/
theorem State.homeWrite_part {data : List Byte} (off : Nat) (h : data.length < 64) (hmark : s.mark line = .ok) :
    s.homeWrite line 0 off data .good = (s.dramPut line (overlay (s.dramLine line) off data), St.ok) := by
  rw [State.homeWrite, if_neg (by omega), State.homeMerge_of_ok hcache hmark]
  simp only [State.homePut_of_dram hcache]

/-- Part of a poisoned line is not written (R231). -/
theorem State.homeWrite_poisoned {data : List Byte} (off : Nat) (f : LineFault) (h : data.length < 64) (hmark : s.mark line = .poison) :
    s.homeWrite line 0 off data f = (s, St.poison) := by
  rw [State.homeWrite, if_neg (by omega), State.homeMerge_of_poison hcache f hmark]

end

/-! ## Requests that are served at once (R206 to R209) -/

/-- The ward's bucket apart, a charged request leaves the state as it was. -/
def State.withBucket (s : State) (b : List (Nat × (Nat × Nat))) : State := { s with mem := { s.mem with bucket := b } }

@[simp] theorem State.withBucket_hbm (s : State) (b) : (s.withBucket b).mem.hbm = s.mem.hbm := rfl

theorem State.charge_eq (s : State) (line n : Nat) : ∃ b, s.charge line n = s.withBucket b := by
  unfold State.charge State.spendN
  dsimp only
  split
  · exact ⟨_, rfl⟩
  · exact ⟨s.mem.bucket, rfl⟩

/-- An access that neither stalls nor follows another one, and that is served, is answered. -/
theorem State.lineAccess_of_served {w : WaitAcc} (hstall : s.stalls w.who = false) (hbehind : s.behind w = false)
    (hserved : (s.tryLine w).waits = false) :
    s.lineAccess w = (s.tryLine w).s.answer (s.tryLine w).status 0 (s.tryLine w).data := by
  simp [State.lineAccess, hstall, hbehind, hserved]

/-- R206, R223: the line's controller takes a request now. -/
theorem State.tryLine_of_ready {w : WaitAcc} (hpc : s.pcOut w.line = false)
    (hgo : s.mayGo (homeStack (w.line * 64)) (s.owner (w.line * 64)) = true) : s.tryLine w = s.serveAs w false := by
  simp [State.tryLine, hpc, hgo]

/-- A request that ends with BOUNDS waits for nothing. -/
theorem State.tryLine_of_opBad {w : WaitAcc} (hbad : s.opBad w.line w.acc = true) : s.tryLine w = s.serveAs w false := by
  simp [State.tryLine, hbad]

/-- A request that does not reach the line's controller does not wait for it. -/
theorem State.tryLine_of_frame {w : WaitAcc} (hhome : s.goesHome w = false) : s.tryLine w = s.serveAs w false := by
  simp [State.tryLine, hhome]

/-- A region that is SET needs no clearing (R230). -/
theorem State.ensureSet_of_set {key : Nat} (hst : (s.region key).st = 2) : s.ensureSet key = s := by
  simp only [State.ensureSet, hst]

/-- A request of the module controller for a line whose controller takes it now (R26, R206, R209, R223, R247). -/
structure HomeTurn (s : State) (line : Nat) : Prop where
  clk : s.clk.on = true
  owner : s.owner (line * 64) ≠ 15
  stalls : s.stalls .mc = false
  behind : s.mem.waiting.any (fun x => x.who = .mc && x.line = line) = false
  pc : s.pcOut line = false
  go : s.mayGo (homeStack (line * 64)) (s.owner (line * 64)) = true
  fenced : s.fenced (line * 64) = false

section
variable (h : HomeTurn s line)
include h

/-- A request of the module controller that is served is answered. -/
theorem HomeTurn.ctrlAccess {w : WaitAcc} (hwho : w.who = .mc) (hline : w.line = line) {r : LineRes} (hr : s.serveAs w false = r)
    (hserved : r.waits = false) : s.ctrlAccess w = r.s.answer r.status 0 r.data := by
  obtain ⟨-, howner, hstalls, hbehind, hpc, hgo, -⟩ := h
  subst hline
  have htry : s.tryLine w = r := (State.tryLine_of_ready hpc hgo).trans hr
  rw [← hwho] at hstalls hbehind
  rw [State.ctrlAccess, if_neg howner, State.lineAccess_of_served hstalls hbehind (by rw [htry, hserved]), htry]

/-- A read at the controller (R229). -/
theorem HomeTurn.exec_hbmLineRead (f : LineFault) : ∃ b, ∀ t data st, (s.withBucket b).homeRead line 0 false f = (t, data, st) →
    exec (.hbmLineRead line f) s = .next (t.answer st 0 data) := by
  obtain ⟨b, hb⟩ := s.charge_eq line 1
  refine ⟨b, fun t data st hread => ?_⟩
  have hserve : s.serveAs { who := .mc, line := line, acc := .read 0 false, home := true, fault := f } false =
      { s := t, data := data, status := st } := by
    simp [State.serveAs, State.opBad, h.fenced, State.serveHome, hb, hread]
  change execHbmLineRead line f s = _
  rw [execHbmLineRead, h.clk, h.ctrlAccess rfl rfl hserve rfl]
  rfl

/-- A write at the controller, to a SET region (R230). -/
theorem HomeTurn.exec_hbmLineWrite (off : Nat) (data : List Byte) (f : LineFault) (hst : (s.region (regionKey (line * 64))).st = 2) :
    ∃ b, ∀ t st, (s.withBucket b).homeWrite line 0 off data f = (t, st) → exec (.hbmLineWrite line off data f) s = .next (t.answer st) := by
  obtain ⟨b, hb⟩ := s.charge_eq line 1
  refine ⟨b, fun t st hwrite => ?_⟩
  have hset : (s.withBucket b).ensureSet (regionKey (line * 64)) = s.withBucket b := State.ensureSet_of_set hst
  have hserve : s.serveAs { who := .mc, line := line, acc := .write 0 off data, home := true, fault := f } false =
      { s := t, status := st } := by
    simp [State.serveAs, State.opBad, h.fenced, State.serveHome, hst, hb, hset, hwrite]
  change execHbmLineWrite line off data f s = _
  rw [execHbmLineWrite, h.clk, h.ctrlAccess rfl rfl hserve rfl]
  rfl

end

end Sys2Proof.Machine
end

section
/-! PROOFS. Single lines of the unified range: memory-side operations at home (R241 to R244), resident lines (R187, R192), and the
statement about both. -/

namespace Sys2Proof.Machine

open Sys2Proof Sys2Proof.Safety

variable {s : State} {line : Nat}

/-! ## Memory alone -/

/-- From `s` to `t` only memory may differ. -/
def MemOnly (s t : State) : Prop := t = { s with mem := t.mem }

theorem MemOnly.refl (s : State) : MemOnly s s := rfl

theorem MemOnly.set_mem {t : State} (h : MemOnly s t) (m : Mem) : MemOnly s { t with mem := m } := by
  unfold MemOnly
  conv_lhs => rw [h]

/-- What an access that is answered changes. -/
theorem MemOnly.answer_eq {t : State} (h : MemOnly s t) (st : Nat) (v : W64) (bs : List Byte) :
    t.answer st v bs = { s with mem := (t.answer st v bs).mem, resp := (t.answer st v bs).resp } := by
  conv_lhs => rw [h]
  rfl

/-! ## Memory-side operations (R241, R242, R244) -/

@[simp] theorem State.cput_hbm (s : State) (line : Nat) (c : CLine) : (s.cput line c).mem.hbm = s.mem.hbm := rfl

theorem State.cput_cline_self (s : State) (line : Nat) (c : CLine) : (s.cput line c).cline line = some { c with stamp := s.mem.stamp } := by
  rw [State.cline, State.cput, find?_minsert_self]
  rfl

/-- A cache that is not full has room in every stack (R203). -/
theorem State.croom_of_room (h : s.mem.cache.length < 1048576) (st : Nat) : s.croom st = s := by
  have hmine : (s.mem.cache.filter (fun e => homeStack (e.1 * 64) = st)).length < 1048576 :=
    Nat.lt_of_le_of_lt (List.length_filter_le _ _) h
  rw [State.croom]
  exact if_pos hmine

/-- The line after an operation on a good home line, as the memory-side cache takes it. -/
def State.msoLine (s : State) (line off : Nat) (op : W64) (operand : List Byte) : CLine :=
  { data := (msoApply (s.dramLine line) off op operand).1, dirty := true, hint2 := false, mark := .ok }

/-- An operation on a good home line allocates it dirty in the memory-side cache (R244). -/
theorem State.homeMso_of_ok {off : Nat} {op : W64} {operand : List Byte} (hcache : s.cline line = none) (hmark : s.mark line = .ok)
    (hroom : s.mem.cache.length < 1048576) (hbad : msoBad off op operand = false) :
    s.homeMso line off op operand .good = (s.cput line (s.msoLine line off op operand),
      if bitAt op.toNat 4 || 4 ≤ fld op 0 4 then (msoApply (s.dramLine line) off op operand).2 else [], St.ok) := by
  simp only [State.homeMso, hbad, Bool.false_eq_true, if_false, State.homeMerge_of_ok hcache hmark, State.homePut, hcache,
    State.croom_of_room hroom]
  rfl

/-- The lines that the host may hold apart, a snoop leaves the state as it was (R366). -/
def State.withSnoop (s : State) (l : List Nat) : State := { s with mem := { s.mem with snoop := l } }

@[simp] theorem State.withSnoop_hbm (s : State) (l : List Nat) : (s.withSnoop l).mem.hbm = s.mem.hbm := rfl

theorem State.backInvalidate_eq (s : State) (line : Nat) : ∃ l, s.backInvalidate line = s.withSnoop l := by
  unfold State.backInvalidate
  split
  · exact ⟨_, rfl⟩
  · exact ⟨s.mem.snoop, rfl⟩

/-- An operation that R241 refuses ends with BOUNDS. -/
theorem State.opBad_of_msoBad {off : Nat} {op : W64} {operand : List Byte} (h : msoBad off op operand = true) :
    s.opBad line (.atomic off op operand) = true := by
  simp [State.opBad, h]

/-- On a block without a frame an operation is refused by R241 alone. -/
theorem State.opBad_of_home {off : Nat} {op : W64} {operand : List Byte} (h : s.blk (line / 1024) = none) :
    s.opBad line (.atomic off op operand) = msoBad off op operand := by
  simp [State.opBad, h]

section
variable (h : HomeTurn s line)
include h

theorem HomeTurn.exec_msoOperation_bad {off : Nat} {op : W64} {operand : List Byte} (f : LineFault) (hbad : msoBad off op operand = true) :
    exec (.msoOperation line off op operand f) s = .next (s.answer St.bounds) := by
  change execMsoOperation line off op operand f s = _
  rw [execMsoOperation, h.clk, h.ctrlAccess rfl rfl (r := { s := s, status := St.bounds })
    (by simp [State.serveAs, State.serve, State.opBad_of_msoBad hbad]) rfl]
  rfl

/-- An operation on a good home line of a SET region, whose block has no frame (R244). -/
theorem HomeTurn.exec_msoOperation {off : Nat} {op : W64} {operand : List Byte} (hblk : s.blk (line / 1024) = none)
    (hst : (s.region (regionKey (line * 64))).st = 2) (hbad : msoBad off op operand = false) :
    ∃ l b, ∀ t data st, ((s.withSnoop l).withBucket b).homeMso line off op operand .good = (t, data, st) →
      exec (.msoOperation line off op operand .good) s = .next (t.answer st 0 data) := by
  obtain ⟨l, hl⟩ := s.backInvalidate_eq line
  obtain ⟨b, hb⟩ := (s.withSnoop l).charge_eq line 1
  refine ⟨l, b, fun t data st hmso => ?_⟩
  have hstl : ((s.withSnoop l).region (regionKey (line * 64))).st = 2 := hst
  have hset : ((s.withSnoop l).withBucket b).ensureSet (regionKey (line * 64)) = (s.withSnoop l).withBucket b := State.ensureSet_of_set hst
  have hserve : s.serveAs { who := .mc, line := line, acc := .atomic off op operand } false =
      { s := t, data := data, status := st } := by
    simp [State.serveAs, State.serve, State.opBad_of_home hblk, hbad, h.fenced, hblk, hl, State.serveHome, hstl, hb, hset, hmso]
  change execMsoOperation line off op operand .good s = _
  rw [execMsoOperation, h.clk, h.ctrlAccess rfl rfl hserve rfl]
  rfl

end

/-! ## Resident lines (R187, R192) -/

/-- A request for a line of a resident block, which R26 lets its requester make and which nothing delays. -/
structure FrameTurn (s : State) (who : Requester) (line : Nat) (x : Blk) : Prop where
  clk : s.clk.on = true
  chk : s.lineChk who line = St.ok
  stalls : s.stalls who = false
  behind : s.mem.waiting.any (fun x => x.who = who && x.line = line) = false
  fenced : s.fenced (line * 64) = false
  blk : s.blk (line / 1024) = some x

section
variable {who : Requester} {x : Blk} (h : FrameTurn s who line x)
include h

/-- A request for a resident line that is served is answered. -/
theorem FrameTurn.lineAccess {w : WaitAcc} (hwho : w.who = who) (hline : w.line = line) (hhome : s.goesHome w = false) {r : LineRes}
    (hr : s.serveAs w false = r) (hserved : r.waits = false) : s.lineAccess w = r.s.answer r.status 0 r.data := by
  obtain ⟨-, -, hstalls, hbehind, -, -⟩ := h
  subst hline hwho
  have htry : s.tryLine w = r := (State.tryLine_of_frame hhome).trans hr
  rw [State.lineAccess_of_served hstalls hbehind (by rw [htry, hserved]), htry]

/-- A read (R187). -/
theorem FrameTurn.exec_blockAccess_read (hint : Nat) (last : Bool) (hst : x.st ≠ .filling) (hmark : s.fmark line = .ok) :
    exec (.blockAccess who line (.read hint last) .ok) s = .next (s.answer St.ok 0 (s.frameLine line)) := by
  have hserve : s.serveAs { who := who, line := line, acc := .read hint last, ecc := .ok } false =
      { s := s, data := s.frameLine line, status := St.ok } := by
    simp [State.serveAs, State.serve, State.opBad, h.fenced, h.blk, State.frameRead, hmark, Mark.status]
  have hhome : s.goesHome { who := who, line := line, acc := .read hint last, ecc := .ok } = false := by
    cases hx : x.st with
    | filling => exact absurd hx hst
    | _ => simp [State.goesHome, h.blk, hx]
  have hframe : s.inFrame line = true := by simp [State.inFrame, h.blk, hst]
  change execBlockAccess who line (.read hint last) .ok s = _
  simp only [execBlockAccess, h.clk, h.chk, hframe, h.lineAccess rfl rfl hhome hserve rfl]
  rfl

/-- The state after a whole resident line is written. -/
def State.frameWritten (s : State) (x : Blk) (line : Nat) (data : List Byte) : State :=
  ((s.framePut line data).setFmark line .ok).markDirty (line / 1024) x line

/-- A write of a whole line (R192). -/
theorem FrameTurn.exec_blockAccess_write (hint : Nat) {data : List Byte} (hst : x.st = .clean ∨ x.st = .dirty) (hlen : data.length = 64)
    (hmark : s.fmark line ≠ .unset) :
    exec (.blockAccess who line (.write hint 0 data) .ok) s = .next ((s.frameWritten x line data).answer St.ok) := by
  have hwrite : s.serveFrame (line / 1024) x line 0 data .ok false = { s := s.frameWritten x line data, status := St.ok } := by
    simp [State.serveFrame, State.frameUnset, hmark, State.frameWrite, hlen, State.frameWritten]
  have hserve : s.serveAs { who := who, line := line, acc := .write hint 0 data, ecc := .ok } false =
      { s := s.frameWritten x line data, status := St.ok } := by
    rcases hst with e | e <;> simp [State.serveAs, State.serve, State.opBad, h.fenced, h.blk, e, hwrite]
  have hhome : s.goesHome { who := who, line := line, acc := .write hint 0 data, ecc := .ok } = false := by
    simp [State.goesHome, h.blk]
  have hwhole : (s.inFrame line || !readsLine (.write hint 0 data)) = true := by simp [readsLine, hlen]
  change execBlockAccess who line (.write hint 0 data) .ok s = _
  simp only [execBlockAccess, h.clk, h.chk, hwhole, h.lineAccess rfl rfl hhome hserve rfl]
  rfl

end

theorem State.setFmark_fmark_self (s : State) (line : Nat) (m : Mark) : (s.setFmark line m).fmark line = m := mget_mset_self _ _ _ _

theorem State.setFmark_fmark_ne {l : Nat} (m : Mark) (h : l ≠ line) : (s.setFmark line m).fmark l = s.fmark l := mget_mset_ne _ _ _ _ h

theorem State.setBlk_blk_self (s : State) (b : Nat) (x : Option Blk) : (s.setBlk b x).blk b = x := mget_mset_self _ _ _ _

/-- A line that is written whole reads as written and leaves the others alone; its block is DIRTY (R192). -/
theorem State.frameWritten_frameLine_self {data : List Byte} (x : Blk) (h : data.length = 64) :
    (s.frameWritten x line data).frameLine line = data := bytesAt_putBytes_line _ _ h

theorem State.frameWritten_frameLine_ne {l : Nat} (x : Blk) (data : List Byte) (h : l ≠ line) :
    (s.frameWritten x line data).frameLine l = s.frameLine l := bytesAt_putBytes_line_ne _ data h

theorem State.frameWritten_fmark_self (x : Blk) (data : List Byte) : (s.frameWritten x line data).fmark line = .ok :=
  State.setFmark_fmark_self (s.framePut line data) line .ok

theorem State.frameWritten_fmark_ne {l : Nat} (x : Blk) (data : List Byte) (h : l ≠ line) :
    (s.frameWritten x line data).fmark l = s.fmark l := State.setFmark_fmark_ne (s := s.framePut line data) .ok h

theorem State.frameWritten_blk {x : Blk} (data : List Byte) (h : x.st = .clean ∨ x.st = .dirty) :
    ((s.frameWritten x line data).blk (line / 1024)).map (·.st) = some .dirty := by
  rw [State.frameWritten, State.markDirty, State.setBlk_blk_self]
  rcases h with e | e <;> simp [e]

theorem State.frameWritten_memOnly (s : State) (x : Blk) (line : Nat) (data : List Byte) : MemOnly s (s.frameWritten x line data) :=
  (((MemOnly.refl s).set_mem _).set_mem _).set_mem _

theorem State.frameWritten_hbm (s : State) (x : Blk) (line : Nat) (data : List Byte) :
    (s.frameWritten x line data).mem.hbm = s.mem.hbm := rfl

/-- A core of another ward is refused (R26). -/
theorem exec_blockAccess_foreign {core : Nat} (acc : LineAccess) (ecc : Ecc) (hclk : s.clk.on = true) (hline : line < 2 ^ 33)
    (howner : s.owner (line * 64) ≠ 15) (hward : s.wardOfCore core ≠ some (s.owner (line * 64))) :
    exec (.blockAccess (.core core) line acc ecc) s = .next (s.answer St.wardFault) := by
  have hchk : s.lineChk (.core core) line = St.wardFault := by
    simp only [State.lineChk, if_neg (Nat.not_le.2 hline), if_neg howner, chk]
    simp [hward]
  change execBlockAccess (.core core) line acc ecc s = _
  simp only [execBlockAccess, hclk, hchk]
  rfl

/-! ## The statement -/

/-- Settles O45: each access's next state, by `HomeTurn` at the controller and by `FrameTurn` in the layer store. -/
theorem linesOfMemoryComplete : Obligations.LinesOfMemoryComplete := by
  unfold Obligations.LinesOfMemoryComplete
  refine ⟨?unset, ?good, ?bad, ?poisoned, ?full, ?part, ?partPoisoned, ?refused, ?op, ?readFrame, ?writeFrame, ?foreign⟩
  case unset =>
    intro s line f hclk howner hstalls hbehind hpc hgo hfenced hst
    obtain ⟨b, hexec⟩ := HomeTurn.exec_hbmLineRead ⟨hclk, howner, hstalls, hbehind, hpc, hgo, hfenced⟩ f
    exact ⟨_, hexec _ _ _ (State.homeRead_of_unset (s := s.withBucket b) hst), rfl, rfl, rfl⟩
  case good =>
    intro s line hclk howner hstalls hbehind hpc hgo hfenced hst hcache hmark
    obtain ⟨b, hexec⟩ := HomeTurn.exec_hbmLineRead ⟨hclk, howner, hstalls, hbehind, hpc, hgo, hfenced⟩ .good
    exact ⟨_, hexec _ _ _ (State.homeRead_of_dram (s := s.withBucket b) hcache hst (State.dramRead_of_ok hmark)), rfl, rfl, rfl⟩
  case bad =>
    intro s line hclk howner hstalls hbehind hpc hgo hfenced hst hcache hmark
    obtain ⟨b, hexec⟩ := HomeTurn.exec_hbmLineRead ⟨hclk, howner, hstalls, hbehind, hpc, hgo, hfenced⟩ .uncorrectable
    refine ⟨_, hexec _ _ _ (State.homeRead_of_dram (s := s.withBucket b) hcache hst (State.dramRead_uncorrectable hmark)), rfl, ?mark,
      fun l hl => ⟨?markOther, ?lineOther⟩, ?frame⟩
    case mark => exact (State.reportPoison_mark _ _ _).trans (State.dramPoison_mark_self _ _)
    case markOther => exact (State.reportPoison_mark _ _ _).trans (State.dramPoison_mark_ne hl)
    case lineOther => exact (State.reportPoison_dramLine _ _ _).trans (State.dramPoison_dramLine_ne hl)
    case frame =>
      have hreport := ((s.withBucket b).dramPoison line).reportPoison_frame line
      generalize ((s.withBucket b).dramPoison line).reportPoison line = t at hreport ⊢
      rw [hreport]
      rfl
  case poisoned =>
    intro s line f hclk howner hstalls hbehind hpc hgo hfenced hst hcache hmark
    obtain ⟨b, hexec⟩ := HomeTurn.exec_hbmLineRead ⟨hclk, howner, hstalls, hbehind, hpc, hgo, hfenced⟩ f
    exact ⟨_, hexec _ _ _ (State.homeRead_of_dram (s := s.withBucket b) hcache hst (State.dramRead_of_poison f hmark)), rfl, rfl, rfl⟩
  case full =>
    intro s line data f hclk howner hstalls hbehind hpc hgo hfenced hst hcache hlen
    obtain ⟨b, hexec⟩ := HomeTurn.exec_hbmLineWrite ⟨hclk, howner, hstalls, hbehind, hpc, hgo, hfenced⟩ 0 data f hst
    exact ⟨_, hexec _ _ (State.homeWrite_full (s := s.withBucket b) hcache f hlen), rfl,
      State.dramPut_dramLine_self hlen, State.dramPut_mark_self _ _ _, fun l hl => ⟨State.dramPut_mark_ne _ hl, State.dramPut_dramLine_ne _ hl⟩, rfl⟩
  case part =>
    intro s line off data hclk howner hstalls hbehind hpc hgo hfenced hst hcache hmark hfit _ hlen
    obtain ⟨b, hexec⟩ := HomeTurn.exec_hbmLineWrite ⟨hclk, howner, hstalls, hbehind, hpc, hgo, hfenced⟩ off data .good hst
    have hold : (s.dramLine line).length = 64 := length_bytesAt _ _ _
    have hnew : (overlay (s.dramLine line) off data).length = 64 := (length_overlay (by omega)).trans hold
    exact ⟨_, hexec _ _ (State.homeWrite_part (s := s.withBucket b) hcache off hlen hmark), rfl, State.dramPut_dramLine_self hnew,
      fun l hl => ⟨State.dramPut_mark_ne _ hl, State.dramPut_dramLine_ne _ hl⟩, rfl⟩
  case partPoisoned =>
    intro s line off data f hclk howner hstalls hbehind hpc hgo hfenced hst hcache hmark hlen
    obtain ⟨b, hexec⟩ := HomeTurn.exec_hbmLineWrite ⟨hclk, howner, hstalls, hbehind, hpc, hgo, hfenced⟩ off data f hst
    exact ⟨_, hexec _ _ (State.homeWrite_poisoned (s := s.withBucket b) hcache off f hlen hmark), rfl, rfl⟩
  case refused =>
    intro s line off op operand f hclk howner hstalls hbehind hpc hgo hfenced _ hbad
    exact ⟨_, HomeTurn.exec_msoOperation_bad ⟨hclk, howner, hstalls, hbehind, hpc, hgo, hfenced⟩ f hbad, rfl, rfl, rfl, rfl⟩
  case op =>
    intro s line off op operand hclk howner hstalls hbehind hpc hgo hfenced hblk hst hcache hmark hroom hbad
    obtain ⟨l, b, hexec⟩ := HomeTurn.exec_msoOperation ⟨hclk, howner, hstalls, hbehind, hpc, hgo, hfenced⟩ hblk hst hbad
    refine ⟨_, hexec _ _ _ (State.homeMso_of_ok hcache hmark hroom hbad), rfl, ?line, rfl, ?hbm, ?frame⟩
    case line => exact congrArg (Option.map _) (State.cput_cline_self _ _ _)
    case hbm => simp
    case frame => exact MemOnly.answer_eq ((((MemOnly.refl s).set_mem _).set_mem _).set_mem _) _ _ _
  case readFrame =>
    intro s who line hint last x hclk hchk hstalls hbehind hfenced hblk hst hmark
    exact ⟨_, FrameTurn.exec_blockAccess_read ⟨hclk, hchk, hstalls, hbehind, hfenced, hblk⟩ hint last hst hmark, rfl, rfl, rfl⟩
  case writeFrame =>
    intro s who line hint data x hclk hchk hstalls hbehind hfenced hblk hst hlen hmark
    exact ⟨_, FrameTurn.exec_blockAccess_write ⟨hclk, hchk, hstalls, hbehind, hfenced, hblk⟩ hint hst hlen hmark, rfl,
      State.frameWritten_frameLine_self x hlen, State.frameWritten_fmark_self x data,
      fun l hl => ⟨State.frameWritten_frameLine_ne x data hl, State.frameWritten_fmark_ne x data hl⟩,
      State.frameWritten_blk data hst, State.frameWritten_hbm _ _ _ _,
      (State.frameWritten_memOnly _ _ _ _).answer_eq _ _ _⟩
  case foreign =>
    intro s core line acc ecc hclk hline howner hward
    exact ⟨_, exec_blockAccess_foreign acc ecc hclk hline howner hward, rfl, rfl⟩

end Sys2Proof.Machine
end

section
/-! PROOFS. Sums of integer columns (R59): exact, and wrapped once modulo 2^32. -/

namespace Sys2Proof.Machine

open Sys2Proof

/-- Wrapping keeps an integer's remainder. -/
theorem wrapInt_cast (w : Nat) (x : Int) : (wrapInt w x : Int) = x % ((2 ^ w : Nat) : Int) :=
  Int.toNat_of_nonneg (Int.emod_nonneg x (by positivity))

/-- The sum of a column before it wraps. -/
theorem foldl_products_eq_sum (l : List (Int × Int)) :
    l.foldl (fun a x => a + x.1 * x.2) 0 = (l.map (fun x => x.1 * x.2)).sum := by
  rw [List.sum_eq_foldl, List.foldl_map]

/-- A column's sum is the exact sum of its products modulo 2^32. -/
theorem dotInt_cast (l : List (Int × Int)) : (dotInt l : Int) = (l.map (fun x => x.1 * x.2)).sum % 2 ^ 32 := by
  rw [dotInt, wrapInt_cast, foldl_products_eq_sum]
  norm_num

/-- The order of a column's rows does not matter. -/
theorem dotInt_perm {l m : List (Int × Int)} (h : l.Perm m) : dotInt l = dotInt m := by
  have hsum := (h.map (fun x => x.1 * x.2)).sum_eq
  rw [← Int.ofNat_inj, dotInt_cast, dotInt_cast, hsum]

/-- Settles O12: the value by `dotInt_cast`, and a sum of integers does not depend on their order. -/
theorem integerSumsAreExact : Obligations.IntegerSumsAreExact := by
  unfold Obligations.IntegerSumsAreExact
  exact ⟨dotInt_cast, fun _ _ h => dotInt_perm h⟩

end Sys2Proof.Machine
end

section
/-! PROOFS. The passes of the matrix array: MATMUL and CONV (R105, R106), the stages of a pass (R50, R51), and what its end writes (R57, R59,
R60, R80). -/

namespace Sys2Proof.Machine

open Sys2Proof Sys2Proof.Safety

variable {s : State} {core : Nat} {e : Issued} {p : Pass}

/-! ## Checks -/

/-- A passed check adds no status. -/
@[simp] theorem chk_false (st : Nat) : chk false st = St.ok := rfl

/-- A status that ranks before OK is reported, or one before it. -/
theorem worst_ne_ok_of_rank_lt {a : Nat} (b : Nat) (h : statusRank a < statusRank St.ok) : worst a b ≠ St.ok := by
  intro e
  have hrank := statusRank_worst a b
  rw [e] at hrank
  omega

/-- Only a valid pair of formats passes the checks of a pass (R53). -/
theorem pairOf_ne_none_of_passChk_ok {c : Cmd} {rows kUsed : Nat} (h : passChk core c rows kUsed = St.ok) :
    pairOf c.fmtA c.fmtB ≠ none := by
  intro hpair
  refine absurd h ?_
  rw [passChk, decide_eq_true hpair]
  exact worst_ne_ok_of_rank_lt _ (by decide)

/-- Reads that meet no error change nothing. -/
@[simp] theorem State.csScan_nil (s : State) (k : Nat) (ranges : List (Nat × Nat)) : s.csScan k ranges [] = s := by
  unfold State.csScan
  split <;> rfl

/-! ## MATMUL (R105) -/

theorem exec_matmul_of_ok (hfront : s.front core 0x01 = some e) (hchk : matmulChk core e.cmd = St.ok) :
    exec (.matmul core []) s =
      .next (s.setPhase core e.ord (.pass (newPass e.cmd e.cmd.depth (shape e.cmd.w3).rows (shape e.cmd.w3).elems [] false))) := by
  change execMatmul core [] s = _
  simp [execMatmul, hfront, hchk]

theorem exec_matmul_of_bad (hfront : s.front core 0x01 = some e) (hchk : matmulChk core e.cmd ≠ St.ok) :
    exec (.matmul core []) s = .next (s.setPhase core e.ord (.done (matmulChk core e.cmd))) := by
  change execMatmul core [] s = _
  simp [execMatmul, hfront, hchk]

/-! ## CONV (R106) -/

theorem exec_conv_misaligned (hfront : s.front core 0x02 = some e) (hoff : e.cmd.descOff % 64 ≠ 0) :
    exec (.conv core []) s = .next (s.setPhase core e.ord
      (.done (if pairOf e.cmd.fmtA e.cmd.fmtB = none then worst St.formatInvalid St.bounds else St.bounds))) := by
  have hst : worst (chk (pairOf e.cmd.fmtA e.cmd.fmtB = none) St.formatInvalid) St.bounds =
      if pairOf e.cmd.fmtA e.cmd.fmtB = none then worst St.formatInvalid St.bounds else St.bounds := by
    by_cases hpair : pairOf e.cmd.fmtA e.cmd.fmtB = none
    · rw [if_pos hpair, decide_eq_true hpair]; rfl
    · rw [if_neg hpair, decide_eq_false hpair]; rfl
  change execConv core [] s = _
  simp only [execConv, hfront, hoff, hst, ne_eq, not_false_eq_true, if_true]

theorem exec_conv_noPair (hfront : s.front core 0x02 = some e) (hoff : e.cmd.descOff % 64 = 0)
    (hpair : pairOf e.cmd.fmtA e.cmd.fmtB = none) :
    exec (.conv core []) s = .next (s.setPhase core e.ord (.done (passChk core e.cmd e.cmd.conv.2.2 0))) := by
  change execConv core [] s = _
  simp [execConv, hfront, hoff, hpair]

/-- A CONV whose descriptor can be read and passes the checks of R74 begins to load its weights. -/
theorem exec_conv_of_ok {d : ConvDesc} (hfront : s.front core 0x02 = some e) (hoff : e.cmd.descOff % 64 = 0)
    (hread : s.csBad core e.cmd.descOff 64 = false) (hdesc : d = convDesc (s.csBytes core e.cmd.descOff 64))
    (hpass : passChk core e.cmd e.cmd.conv.2.2 (min e.cmd.depth (d.k - e.cmd.conv.1)) = St.ok)
    (hgood : d.bad e.cmd.fmtA e.cmd.conv.2.1 e.cmd.conv.2.2 e.cmd.conv.1 e.cmd.depth = false) :
    exec (.conv core []) s = .next (s.setPhase core e.ord (.pass (newPass e.cmd e.cmd.depth e.cmd.conv.2.2
      (min e.cmd.depth (d.k - e.cmd.conv.1)) (s.csBytes core e.cmd.descOff 64) false))) := by
  subst hdesc
  have hpair := pairOf_ne_none_of_passChk_ok hpass
  change execConv core [] s = _
  simp [execConv, hfront, hoff, hpair, hread, hpass, hgood]

/-! ## The stages of a pass (R50, R51) -/

/-- `Ended` does not see a change of the unit accounting alone (R67, R121) before the change of phase. -/
theorem State.setPhase_ended_of_accounting (s : State) (k ord : Nat) (ph : Phase) (base since : Nat) :
    Ended s ((s.modCore k (fun c => { c with actBase := base, actSince := since })).setPhase k ord ph) k ord ph := by
  have hcore := State.setCore_core_self (s := s) k { s.core k with actBase := base, actSince := since }
  obtain ⟨hissued, hrest, hothers⟩ :=
    State.setPhase_ended (s.modCore k (fun c => { c with actBase := base, actSince := since })) k ord ph
  rw [State.modCore, hcore] at hissued hrest
  exact ⟨hissued, hrest, fun j hj => (hothers j hj).trans (State.setCore_core_ne _ hj)⟩

/-- `Ended` speaks of the cores alone. -/
theorem ended_of_cores {r t : State} {k ord : Nat} {ph : Phase} (h : Ended r t k ord ph) (hcores : r.cores = s.cores) :
    Ended s t k ord ph := by
  unfold Ended State.core at h ⊢
  rwa [hcores] at h

/-- The weight tile that a pass reads, row after row, each element with its poison. -/
def State.weightTile (s : State) (k : Nat) (e : Issued) (p : Pass) : List (Nat × Bool) :=
  ((List.range p.kUsed).map (fun i =>
    s.csElems k ((operand e.cmd.w2).off + i * rowBytes p.fmtB p.width) p.fmtB p.width)).flatten

theorem exec_weightLoadDone (hclk : s.clk.on = true) (hpass : (s.core core).passIn 1 = some (e, p))
    (hgrant : (s.core core).wantGrant = false)
    (hform : ((s.core core).formBefore e.ord != p.shallow && (s.core core).earlierPass e.ord) = false)
    (hback : (s.core core).passIn 2 = none) :
    exec (.weightLoadDone core) s =
      .next ((s.modCore core (fun c => { c with actBase := 128, actSince := s.ck core })).setPhase core e.ord (.pass { p with
        stage := 2, wtile := (s.weightTile core e p).map (·.1), poison := p.poison || (s.weightTile core e p).any (·.2) })) := by
  change execWeightLoadDone core s = _
  simp only [execWeightLoadDone, hclk, hpass, hgrant, hform, hback]
  rfl

theorem exec_passStart (hclk : s.clk.on = true) (hpass : (s.core core).passIn 2 = some (e, p))
    (hgrant : (s.core core).wantGrant = false)
    (hform : ((s.core core).formBefore e.ord != p.shallow && (s.core core).earlierPass e.ord) = false)
    (hlock : (s.core core).interlocked e = false) :
    exec (.passStart core false) s =
      .next ((s.modCore core (fun c => { c with lastShallow := p.shallow })).setPhase core e.ord (.pass { p with
        stage := 3, sub := (s.passResults core e.cmd p).1, poison := p.poison || (s.passResults core e.cmd p).2 })) := by
  change execPassStart core false s = _
  simp only [execPassStart, hclk, hpass, hgrant, hform, hlock]
  rfl

/-! ## The accumulator (R60) -/

/-- Writing accumulator words changes nothing but the accumulator. -/
theorem State.accPut_frame (k : Nat) (vs : List W32) : ∀ (s : State) (w : Nat),
    s.accPut k w vs = { s with mem := { s.mem with acc := (s.accPut k w vs).mem.acc } } := by
  induction vs with
  | nil => intro s w; rfl
  | cons v vs ih =>
    intro s w
    rw [State.accPut]
    conv_lhs => rw [ih]

/-- Words outside those written keep their value. -/
theorem State.accPut_accWord_ne (k : Nat) (vs : List W32) : ∀ (s : State) {w a : Nat}, a < w ∨ w + vs.length ≤ a →
    (s.accPut k w vs).accWord k a = s.accWord k a := by
  induction vs with
  | nil => intro s w a _; rfl
  | cons v vs ih =>
    intro s w a ha
    rw [List.length_cons] at ha
    rw [State.accPut, ih _ (by omega)]
    exact mget_mset_ne _ _ _ _ (by omega)

/-- Each word written reads as it was written. -/
theorem State.accPut_accWord_at (k : Nat) (vs : List W32) : ∀ (s : State) (w : Nat) {i : Nat} (hi : i < vs.length),
    (s.accPut k w vs).accWord k (w + i) = vs[i] := by
  induction vs with
  | nil => intro s w i hi; exact absurd hi (Nat.not_lt_zero i)
  | cons v vs ih =>
    intro s w i hi
    rw [State.accPut]
    cases i with
    | zero =>
      rw [State.accPut_accWord_ne _ _ _ (by omega)]
      exact mget_mset_self _ _ _ _
    | succ i =>
      rw [show w + (i + 1) = w + 1 + i by omega, ih _ _ (by simpa using hi), List.getElem_cons_succ]

/-! ## The results of a pass (R57, R59) -/

/-- The accumulator words that a pass writes, as they stand. -/
def State.accOld (s : State) (core : Nat) (p : Pass) : List Nat :=
  (List.range (p.rows * p.width)).map (fun i => (s.accWord core (p.accRow * 128 + i)).toNat)

@[simp] theorem State.length_accOld (s : State) (core : Nat) (p : Pass) : (s.accOld core p).length = p.rows * p.width := by
  simp [State.accOld]

/-- The words and flags that a pass of one sub-pass leaves. -/
def State.passOut (s : State) (core : Nat) (p : Pass) (new : List Nat) : List Nat × PassFlags :=
  writeSub (isIntFmt p.fmtA) p.add (s.accOld core p) new {}

section
variable (s core) {new : List Nat} {i : Nat}

/-- A pass writes a word for each result. -/
theorem State.length_passOut (hlen : new.length = p.rows * p.width) : (s.passOut core p new).1.length = p.rows * p.width := by
  unfold State.passOut
  cases p.add <;> simp [writeSub, hlen]

/-- A pass that stores writes its results. -/
theorem State.passOut_store (hadd : p.add = false) : (s.passOut core p new).1 = new := by
  rw [State.passOut, hadd]
  rfl

/-- A floating-point pass adds by `fadd`. -/
theorem State.passOut_addFp (hlen : new.length = p.rows * p.width) (hadd : p.add = true) (hfmt : isIntFmt p.fmtA = false)
    (hi : i < p.rows * p.width) :
    (s.passOut core p new).1.getD i 0 = fadd (s.accWord core (p.accRow * 128 + i)).toNat (new.getD i 0) := by
  simp [State.passOut, writeSub, State.accOld, hadd, hfmt, hlen, hi]

/-- An integer pass adds modulo 2^32. -/
theorem State.passOut_addInt (hlen : new.length = p.rows * p.width) (hadd : p.add = true) (hfmt : isIntFmt p.fmtA = true)
    (hi : i < p.rows * p.width) :
    (s.passOut core p new).1.getD i 0 = ((s.accWord core (p.accRow * 128 + i)).toNat + new.getD i 0) % 2 ^ 32 := by
  simp [State.passOut, writeSub, State.accOld, hadd, hfmt, hlen, hi]

end

/-! ## The end of a pass (R60, R80) -/

/-- A status bit of the array changes CELL_ARRAY_STATUS alone. -/
theorem RegFrame.arrayFlag {t : State} (h : RegFrame (· = R.CELL_ARRAY_STATUS core) s t) (f : Fld) (b : Bool) :
    RegFrame (· = R.CELL_ARRAY_STATUS core) s (t.arrayFlag core f b) := by
  cases b with
  | false => exact h
  | true => exact h.setF rfl f 1

/-- The flags of a pass change CELL_ARRAY_STATUS alone. -/
theorem State.passFlags_frame (s : State) (core : Nat) (f : PassFlags) :
    RegFrame (· = R.CELL_ARRAY_STATUS core) s (s.passFlags core f) :=
  (((RegFrame.refl _ s).arrayFlag _ _).arrayFlag _ _).arrayFlag _ _

theorem macs_ne_status (core : Nat) : R.CELL_ARRAY_MACS core ≠ R.CELL_ARRAY_STATUS core := by
  unfold R.CELL_ARRAY_MACS R.CELL_ARRAY_STATUS
  omega

/-- The words and flags of a pass are written, and its MACs counted. -/
def State.passWritten (s : State) (core : Nat) (p : Pass) (r : List Nat × PassFlags) : State :=
  ((s.accPut core (p.accRow * 128) (r.1.map (BitVec.ofNat 32))).passFlags core r.2).addF (R.CELL_ARRAY_MACS core)
    F.CELL_ARRAY_MACS_MACS p.macs

/-- The end of a pass of one sub-pass that meets no parity error. -/
theorem exec_passDone {new : List Nat} (hclk : s.clk.on = true) (hpass : (s.core core).passIn 3 = some (e, p)) (hsub : p.sub = [new]) :
    exec (.passDone core false) s = .next ((s.passWritten core p (s.passOut core p new)).setPhase core e.ord
      (.done (if p.poison then St.poison else St.ok))) := by
  change execPassDone core false s = _
  simp only [execPassDone, hclk, hpass, hsub]
  rfl

section
variable (s core p) (r : List Nat × PassFlags)

/-- The flags and the count of MACs leave the accumulator as the words were put there. -/
theorem State.passWritten_mem :
    (s.passWritten core p r).mem = (s.accPut core (p.accRow * 128) (r.1.map (BitVec.ofNat 32))).mem :=
  (congrArg State.mem (State.passFlags_frame (s.accPut core (p.accRow * 128) (r.1.map (BitVec.ofNat 32))) core r.2).rest :)

theorem State.passWritten_accWord (w : Nat) : (s.passWritten core p r).accWord core w =
    (s.accPut core (p.accRow * 128) (r.1.map (BitVec.ofNat 32))).accWord core w := by
  rw [State.accWord, State.passWritten_mem, State.accWord]

/-- The words of the pass. -/
theorem State.passWritten_accWord_at {i : Nat} (hi : i < r.1.length) :
    (s.passWritten core p r).accWord core (p.accRow * 128 + i) = BitVec.ofNat 32 (r.1.getD i 0) := by
  rw [State.passWritten_accWord, State.accPut_accWord_at _ _ _ _ (by simpa using hi), List.getElem_map, List.getD_eq_getElem _ _ hi]

/-- The words of other rows. -/
theorem State.passWritten_accWord_ne {w : Nat} (hw : w < p.accRow * 128 ∨ p.accRow * 128 + r.1.length ≤ w) :
    (s.passWritten core p r).accWord core w = s.accWord core w := by
  rw [State.passWritten_accWord, State.accPut_accWord_ne _ _ _ (by simpa using hw)]

/-- From the state before to the state after, memory differs in the accumulator, and nothing else but registers. -/
theorem State.passWritten_frame : s.passWritten core p r =
    { s with mem := { s.mem with acc := (s.passWritten core p r).mem.acc }, regs := (s.passWritten core p r).regs } := by
  have hacc := State.accPut_frame core (r.1.map (BitVec.ofNat 32)) s (p.accRow * 128)
  unfold State.passWritten
  generalize s.accPut core (p.accRow * 128) (r.1.map (BitVec.ofNat 32)) = t at hacc ⊢
  have hflags := (t.passFlags_frame core r.2).rest
  generalize t.passFlags core r.2 = u at hflags ⊢
  rw [hflags, hacc]
  rfl

theorem State.passWritten_cores : (s.passWritten core p r).cores = s.cores := by rw [State.passWritten_frame]

/-- Every register but those of the array's flags and MACs. -/
theorem State.passWritten_reg {a : Nat} (hmacs : a ≠ R.CELL_ARRAY_MACS core) (hstatus : a ≠ R.CELL_ARRAY_STATUS core) :
    (s.passWritten core p r).reg a = s.reg a := by
  rw [State.passWritten, State.addF, State.setF_reg_ne _ _ hmacs, (State.passFlags_frame _ core r.2).regs a hstatus,
    State.accPut_frame]
  rfl

/-- The MACs of the pass are counted (R80). -/
theorem State.passWritten_macs : (s.passWritten core p r).rf (R.CELL_ARRAY_MACS core) F.CELL_ARRAY_MACS_MACS =
    (s.rf (R.CELL_ARRAY_MACS core) F.CELL_ARRAY_MACS_MACS + p.macs) % 2 ^ F.CELL_ARRAY_MACS_MACS.width := by
  have hold := (State.passFlags_frame (s.accPut core (p.accRow * 128) (r.1.map (BitVec.ofNat 32))) core r.2).regs _ (macs_ne_status core)
  rw [State.accPut_frame] at hold
  rw [State.passWritten, State.addF, State.setF_rf_self _ _ (by decide), State.rf, State.rf, State.accPut_frame, hold]
  rfl

end

/-- The end of a pass of whole rows, whose written words are `f`: the accumulator, the phase, the MACs, the other registers, and nothing else
changes. -/
theorem exec_passDone_words {new : List Nat} {f : Nat → Nat} (hclk : s.clk.on = true) (hpass : (s.core core).passIn 3 = some (e, p))
    (hsub : p.sub = [new]) (hlen : new.length = p.rows * p.width)
    (hf : ∀ i < p.rows * p.width, (s.passOut core p new).1.getD i 0 = f i) :
    ∃ t, exec (.passDone core false) s = .next t ∧
      (∀ i, i < p.rows * p.width → t.accWord core (p.accRow * 128 + i) = BitVec.ofNat 32 (f i)) ∧
      (∀ w, (w < p.accRow * 128 ∨ p.accRow * 128 + p.rows * p.width ≤ w) → t.accWord core w = s.accWord core w) ∧
      Ended s t core e.ord (.done (if p.poison then St.poison else St.ok)) ∧
      t.rf (R.CELL_ARRAY_MACS core) F.CELL_ARRAY_MACS_MACS =
        (s.rf (R.CELL_ARRAY_MACS core) F.CELL_ARRAY_MACS_MACS + p.macs) % 2 ^ F.CELL_ARRAY_MACS_MACS.width ∧
      (∀ a, a ≠ R.CELL_ARRAY_MACS core → a ≠ R.CELL_ARRAY_STATUS core → t.reg a = s.reg a) ∧
      t = { s with mem := { s.mem with acc := t.mem.acc }, regs := t.regs, cores := t.cores } := by
  have hout := State.length_passOut s core hlen
  refine ⟨_, exec_passDone hclk hpass hsub, ?words, ?others, ?ended, ?macs, ?regs, ?frame⟩
  case words =>
    intro i hi
    rw [← hf i hi]
    exact State.passWritten_accWord_at s core p _ (hout ▸ hi)
  case others => exact fun w hw => State.passWritten_accWord_ne s core p _ (hout ▸ hw)
  case ended => exact ended_of_cores (State.setPhase_ended _ _ _ _) (State.passWritten_cores s core p _)
  case macs => exact State.passWritten_macs s core p _
  case regs => exact fun a => State.passWritten_reg s core p _
  case frame =>
    have hframe := State.passWritten_frame s core p (s.passOut core p new)
    generalize s.passWritten core p (s.passOut core p new) = u at hframe ⊢
    rw [hframe]
    rfl

/-- Settles O40: each command's and stage's next state, and the three ends of a pass by `exec_passDone_words`. -/
theorem arrayPassesComplete : Obligations.ArrayPassesComplete := by
  unfold Obligations.ArrayPassesComplete
  refine ⟨?matmul, ?matmulBad, ?misaligned, ?noPair, ?conv, ?load, ?start, ?store, ?addFp, ?addInt⟩
  case matmul =>
    intro s core e hfront hchk
    exact ⟨_, exec_matmul_of_ok hfront hchk, State.setPhase_ended _ _ _ _, rfl⟩
  case matmulBad =>
    intro s core e hfront hchk
    exact ⟨_, exec_matmul_of_bad hfront hchk, State.setPhase_ended _ _ _ _, rfl⟩
  case misaligned =>
    intro s core e hfront hoff
    exact ⟨_, exec_conv_misaligned hfront hoff, State.setPhase_ended _ _ _ _, rfl⟩
  case noPair =>
    intro s core e hfront hoff hpair
    exact ⟨_, exec_conv_noPair hfront hoff hpair, State.setPhase_ended _ _ _ _, rfl⟩
  case conv =>
    intro s core e d hfront hoff hread hdesc hpass hgood
    exact ⟨_, exec_conv_of_ok hfront hoff hread hdesc hpass hgood, State.setPhase_ended _ _ _ _, rfl⟩
  case load =>
    intro s core e p hclk hpass hgrant hform hback
    exact ⟨_, exec_weightLoadDone hclk hpass hgrant hform hback, State.setPhase_ended_of_accounting _ _ _ _ _ _, rfl⟩
  case start =>
    intro s core e p hclk hpass hgrant hform hlock
    exact ⟨_, exec_passStart hclk hpass hgrant hform hlock, State.setPhase_ended _ _ _ _, rfl⟩
  case store =>
    intro s core e p new hclk hpass hsub hlen hadd
    exact exec_passDone_words hclk hpass hsub hlen fun i _ => by rw [State.passOut_store s core hadd]
  case addFp =>
    intro s core e p new hclk hpass hsub hlen hadd hfmt
    exact exec_passDone_words hclk hpass hsub hlen fun i hi => State.passOut_addFp s core hlen hadd hfmt hi
  case addInt =>
    intro s core e p new hclk hpass hsub hlen hadd hfmt
    obtain ⟨t, hexec, hwords, hothers, hended, hmacs, _, hframe⟩ :=
      exec_passDone_words hclk hpass hsub hlen fun i hi => State.passOut_addInt s core hlen hadd hfmt hi
    exact ⟨t, hexec, hwords, hothers, hended, hmacs, hframe⟩

end Sys2Proof.Machine
end

section
/-! PROOFS. The units that convert and evaluate rows (QUANT, DEQUANT, SFN, NORM, REDUCE, RNG, OPT_UPDATE): which bytes of the core stores and
which registers they change (R108 to R110, R149 to R156, R174 to R176, R267). -/

namespace Sys2Proof.Machine

open Sys2Proof Sys2Proof.Safety

variable {s t u : State} {p : Nat → Prop} {k : Nat} {e : Issued}

/-! ## What such a unit may change -/

/-- From `s` to `t` only the core stores, at keys named by `p`, their poison, the health counts and the place in the free values may
differ. -/
structure UnitFrame (p : Nat → Prop) (s t : State) : Prop where
  rest : t = { s with mem := { s.mem with cstore := t.mem.cstore, cpoison := t.mem.cpoison }, regs := t.regs, free := t.free }
  store : ∀ a, ¬ p a → byteAt t.mem.cstore a = byteAt s.mem.cstore a
  health : HealthOnly s t

theorem UnitFrame.refl (p : Nat → Prop) (s : State) : UnitFrame p s s := ⟨rfl, fun _ _ => rfl, fun _ _ _ => rfl⟩

theorem UnitFrame.trans (h : UnitFrame p s t) (g : UnitFrame p t u) : UnitFrame p s u := by
  refine ⟨?_, fun a ha => (g.store a ha).trans (h.store a ha), fun a hcell hward => (g.health a hcell hward).trans (h.health a hcell hward)⟩
  rw [g.rest, h.rest]

theorem UnitFrame.drew (h : UnitFrame p s t) (n : Nat) : UnitFrame p s (t.drew n) :=
  h.trans ⟨rfl, fun _ _ => rfl, fun _ _ _ => rfl⟩

theorem UnitFrame.ite {c : Prop} [Decidable c] (h : UnitFrame p s t) (g : UnitFrame p s u) : UnitFrame p s (if c then t else u) := by
  split
  · exact h
  · exact g

/-- A write whose every byte `p` names. -/
theorem UnitFrame.csWrite (h : UnitFrame p s t) {off : Nat} {bs : List Byte} (hp : ∀ i < bs.length, p (csKey k off + i)) :
    UnitFrame p s (t.csWrite k off bs) := by
  refine h.trans ⟨rfl, fun a ha => byteAt_putBytes_ne bs _ _ ?_, fun _ _ _ => rfl⟩
  by_contra hin
  refine ha ?_
  rw [show a = csKey k off + (a - csKey k off) by omega]
  exact hp _ (by omega)

/-- A health count that changes. -/
theorem UnitFrame.setF (h : UnitFrame p s t) {a : Nat} (ha : (∃ h i f c, a = R.HALF_FH h i f c) ∨ ∃ w f c, a = R.MGMT_FH_W w f c)
    (f : Fld) (x : Nat) : UnitFrame p s (t.setF a f x) := by
  refine h.trans ⟨rfl, fun _ _ => rfl, fun b hcell hward => State.setF_reg_ne f x ?_⟩
  rintro rfl
  rcases ha with ⟨_, _, _, _, e⟩ | ⟨_, _, _, e⟩
  · exact hcell _ _ _ _ e
  · exact hward _ _ _ e

/-- Counting the elements of a category (R149 to R156). -/
theorem UnitFrame.count (h : UnitFrame p s t) (k w f c n : Nat) : UnitFrame p s (t.count k w f c n) := by
  have hcell : UnitFrame p s (if isCell k then t.addF (R.HALF_FH (k / 64) (k % 64) f c) F.HALF_FH_COUNT n else t) :=
    UnitFrame.ite (h.setF (.inl ⟨_, _, _, _, rfl⟩) _ _) h
  unfold State.count
  exact h.ite (UnitFrame.ite (hcell.setF (.inr ⟨_, _, _, rfl⟩) _ _) hcell)

theorem UnitFrame.countAll (h : UnitFrame p s t) (k w f : Nat) (cats : List Nat) : UnitFrame p s (t.countAll k w f cats) :=
  List.foldlRecOn (motive := UnitFrame p s) _ _ h fun _ h _ _ => h.count _ _ _ _ _

/-- Where `p` names the keys of these ranges alone, the rest of the stores is as it was. -/
theorem UnitFrame.storeFrame {l : List (Nat × Nat)} (h : UnitFrame p s t)
    (hp : ∀ a, p a → ∃ r ∈ l, csKey k r.1 ≤ a ∧ a < csKey k r.1 + r.2) : StoreFrame s t k l := by
  refine fun a ha => h.store a fun hpa => ?_
  obtain ⟨r, hr, hlo, hhi⟩ := hp a hpa
  have := ha r hr
  omega

/-- The end of a command whose effect is `t`. -/
theorem UnitFrame.ended (h : UnitFrame p s t) (k ord : Nat) (ph : Phase) : Ended s (t.setPhase k ord ph) k ord ph :=
  ended_of_cores (State.setPhase_ended _ _ _ _) (by rw [h.rest])

theorem UnitFrame.setPhase_eq (h : UnitFrame p s t) (k ord : Nat) (ph : Phase) :
    t.setPhase k ord ph = { s with
      mem := { s.mem with cstore := (t.setPhase k ord ph).mem.cstore, cpoison := (t.setPhase k ord ph).mem.cpoison }
      regs := (t.setPhase k ord ph).regs, cores := (t.setPhase k ord ph).cores, free := (t.setPhase k ord ph).free } :=
  congrArg (fun u : State => { u with cores := (t.setPhase k ord ph).cores }) h.rest

/-! ## Rows (R131, R146) -/

/-- Four elements of any format fill whole bytes, two half of them. -/
theorem elemBits_even (c : Nat) : elemBits c % 2 = 0 := by
  unfold elemBits
  split <;> rfl

/-- Packed elements take the bytes of a row (R131). -/
theorem length_packElems (c : Nat) (codes : List Nat) : (packElems c codes).length = rowBytes c codes.length := by
  have hgroups : ∀ (n : Nat) (l : List Nat), l.length ≤ n →
      (((chunks 4 n l).map (fun g => leBytes ((elemBits c * g.length + 7) / 8) (packNat (elemBits c) g))).flatten).length =
        rowBytes c l.length := by
    intro n
    induction n with
    | zero =>
      intro l hl
      simp [chunks, rowBytes, Nat.le_zero.1 hl]
    | succ n ih =>
      intro l hl
      cases l with
      | nil => simp [chunks, rowBytes]
      | cons x l =>
        have heven := elemBits_even c
        rw [List.length_cons] at hl
        simp only [chunks, List.isEmpty_cons, Bool.false_eq_true, if_false, List.map_cons, List.flatten_cons, List.length_append,
          length_leBytes, ih _ (show ((x :: l).drop 4).length ≤ n by simp; omega), List.length_take, List.length_drop, rowBytes,
          List.length_cons]
        generalize elemBits c = w at heven ⊢
        obtain ⟨v, rfl⟩ := Nat.dvd_of_mod_eq_zero heven
        rcases Nat.le_total (l.length + 1) 4 with hshort | hlong
        · rw [Nat.min_eq_right hshort, Nat.sub_eq_zero_of_le hshort]
          omega
        · obtain ⟨m, hm⟩ := Nat.exists_eq_add_of_le hlong
          rw [Nat.min_eq_left hlong, hm, Nat.add_sub_cancel_left, Nat.mul_add, show 2 * v * 4 = 8 * v by ring]
          omega
  exact hgroups _ _ (Nat.le_refl _)

/-- Fewer elements take no more bytes. -/
theorem rowBytes_mono (c : Nat) {m n : Nat} (h : m ≤ n) : rowBytes c m ≤ rowBytes c n :=
  Nat.div_le_div_right (Nat.add_le_add_right (Nat.mul_le_mul_left _ h) 7)

/-- Rows written one by one, each as `f` gives it: `p` names the bytes of the rows and what `f` writes besides. -/
theorem UnitFrame.runRows {fmtD rows elems : Nat} {d : Dest} {f : State → Nat → State × RowOut}
    (hrows : ∀ r < rows, ∀ i < rowBytes fmtD elems, p (csKey k (d.off + r * d.step) + i))
    (hf : ∀ t r, r < rows → UnitFrame p s t → UnitFrame p s (f t r).1)
    (hlen : ∀ t r, (f t r).2.codes.length ≤ elems) :
    UnitFrame p s (s.runRows k e fmtD rows elems d f).1 := by
  unfold State.runRows
  refine List.foldlRecOn (motive := fun a : State × Nat => UnitFrame p s a.1) _ _ (UnitFrame.refl p s) fun a ha r hr => ?_
  have hlt := List.mem_range.1 hr
  refine UnitFrame.drew (UnitFrame.countAll (UnitFrame.csWrite (hf a.1 r hlt ha) fun i hi => hrows r hlt i ?_) _ _ _ _) _
  rw [length_packElems] at hi
  exact Nat.lt_of_lt_of_le hi (rowBytes_mono _ (hlen a.1 r))

/-- The keys of the bytes in these ranges of a core's store. -/
def inRanges (k : Nat) (l : List (Nat × Nat)) (a : Nat) : Prop := ∃ r ∈ l, csKey k r.1 ≤ a ∧ a < csKey k r.1 + r.2

/-- The rows of a command's destination. -/
def Cmd.destRows (c : Cmd) : List (Nat × Nat) :=
  rowRanges (operand c.w2).off (shape c.w3).rows (rowStep (shape c.w3).dstPitch (rowBytes c.fmtD (shape c.w3).elems))
    (rowBytes c.fmtD (shape c.w3).elems)

/-- The bytes of the scales that a QUANT computes (R132). -/
def Cmd.scaleBytes (c : Cmd) : List (Nat × Nat) :=
  if c.flag 0 && !c.flag 1 then [(slotOff (operand c.w2).xtra, (shape c.w3).rows)] else []

/-- A command that writes the rows of its destination, each as `f` gives it, and nothing besides but ranges `l`. -/
theorem UnitFrame.destRows {l : List (Nat × Nat)} {f : State → Nat → State × RowOut}
    (hf : ∀ t r, r < (shape e.cmd.w3).rows → UnitFrame (inRanges k (e.cmd.destRows ++ l)) s t →
      UnitFrame (inRanges k (e.cmd.destRows ++ l)) s (f t r).1)
    (hlen : ∀ t r, (f t r).2.codes.length ≤ (shape e.cmd.w3).elems) :
    UnitFrame (inRanges k (e.cmd.destRows ++ l)) s (s.runRows k e e.cmd.fmtD (shape e.cmd.w3).rows (shape e.cmd.w3).elems
      (destOf (operand e.cmd.w2) e.cmd.fmtD (shape e.cmd.w3).elems (shape e.cmd.w3).dstPitch) f).1 :=
  UnitFrame.runRows (fun r hr _ hi => ⟨_, List.mem_append_left _ (List.mem_map.2 ⟨r, List.mem_range.2 hr, rfl⟩), Nat.le_add_right _ _,
    Nat.add_lt_add_left hi _⟩) hf hlen

@[simp] theorem length_convertRow_codes (e : Issued) (k fmtD rnd r elems : Nat) (down : Bool) (sc : ScaleUse) (vals : List (FVal × Bool)) :
    (convertRow e k fmtD rnd r elems down sc vals).codes.length = min elems vals.length := by
  simp [convertRow]

theorem ite_le {c : Prop} [Decidable c] {m n b : Nat} (hm : m ≤ b) (hn : n ≤ b) : (if c then m else n) ≤ b := by
  split
  · exact hm
  · exact hn

/-! ## The commands -/

/-- QUANT: its rows, and the scales that it computes (R108, R132). -/
theorem State.quant_frame (hchk : quantChk k e.cmd = St.ok) :
    UnitFrame (inRanges k (e.cmd.destRows ++ e.cmd.scaleBytes)) s (s.quant k [] e).1 := by
  simp only [State.quant, hchk, ne_eq, not_true_eq_false, if_false, State.csScan_nil]
  refine UnitFrame.destRows (fun t r hr ht => ?_) fun t r => ?_
  · split
    · next hscale =>
      refine ht.csWrite fun i hi => ⟨(slotOff (operand e.cmd.w2).xtra, (shape e.cmd.w3).rows), List.mem_append_right _ ?_, ?_⟩
      · rw [Cmd.scaleBytes, if_pos hscale]
        exact List.mem_cons_self
      · rw [List.length_singleton] at hi
        simp only [csKey]
        omega
    · exact ht
  · split <;> simp

/-- DEQUANT: its rows (R108). -/
theorem State.dequant_frame (hchk : dequantChk k e.cmd = St.ok) :
    UnitFrame (inRanges k (e.cmd.destRows ++ [])) s (s.dequant k [] e).1 := by
  simp only [State.dequant, hchk, ne_eq, not_true_eq_false, if_false, State.csScan_nil]
  exact UnitFrame.destRows (fun _ _ _ ht => ht) fun _ _ => by simp

/-- SFN: its rows (R109). -/
theorem State.sfn_frame (hchk : Machine.sfnChk k e = St.ok) :
    UnitFrame (inRanges k (e.cmd.destRows ++ [])) s (s.sfn k [] e).1 := by
  simp only [State.sfn, hchk, ne_eq, not_true_eq_false, if_false, State.csScan_nil]
  refine UnitFrame.destRows (fun t r _ ht => ?_) fun t r => ?_
  · rwa [apply_ite Prod.fst, ite_self]
  · rw [apply_ite Prod.snd, apply_ite RowOut.codes, apply_ite List.length]
    refine ite_le ?_ ?_ <;> simp

/-- The words that a REDUCE writes: one for each row, or for each column. -/
def Cmd.reduceCount (c : Cmd) : Nat := if c.flag 3 then (shape c.w3).elems else (shape c.w3).rows

/-- REDUCE is one write of its words (R175). -/
theorem State.reduce_eq (hchk : reduceChk k e.cmd = St.ok) :
    ∃ bs : List Byte, bs.length = 4 * e.cmd.reduceCount ∧ (s.reduce k [] e).1 = s.csWrite k (operand e.cmd.w2).off bs := by
  simp only [State.reduce, hchk, ne_eq, not_true_eq_false, if_false, State.csScan_nil]
  refine ⟨_, ?_, rfl⟩
  unfold Cmd.reduceCount
  split <;> simp [Function.comp_def]
  all_goals omega

/-! ## The command at the front of its unit -/

/-- A command that is not interlocked runs and ends. -/
theorem State.runVec_eq {op : Nat} {f : Issued → State × Nat} (hfront : s.front k op = some e)
    (hlock : (s.core k).interlocked e = false) : s.runVec k op f = (f e).1.setPhase k e.ord (.done (f e).2) := by
  simp [State.runVec, hfront, hlock]

/-- The end of a command leaves the stores. -/
theorem storeFrame_setPhase {l : List (Nat × Nat)} (h : StoreFrame s t k l) (j ord : Nat) (ph : Phase) :
    StoreFrame s (t.setPhase j ord ph) k l := fun a ha => h a ha

/-- The end of a command leaves the registers. -/
theorem healthOnly_setPhase (h : HealthOnly s t) (j ord : Nat) (ph : Phase) : HealthOnly s (t.setPhase j ord ph) :=
  fun a hcell hward => h a hcell hward

/-- A command that writes the ranges `l` of its core's store and counts health. -/
theorem UnitFrame.runVec_frames {op : Nat} {f : Issued → State × Nat} {l : List (Nat × Nat)} (h : UnitFrame (inRanges k l) s (f e).1)
    (hfront : s.front k op = some e) (hlock : (s.core k).interlocked e = false) :
    ∃ t, (Host.Outcome.next (s.runVec k op f) : Host.Outcome State Fault Refusal) = .next t ∧ StoreFrame s t k l ∧ HealthOnly s t :=
  ⟨_, congrArg Host.Outcome.next (State.runVec_eq hfront hlock), storeFrame_setPhase (h.storeFrame fun _ => id) _ _ _,
    healthOnly_setPhase h.health _ _ _⟩

/-- Settles O42: each row is one write of as many bytes as its elements take, and a REDUCE is one write of its words. -/
theorem vectorFrames : Obligations.VectorFrames := by
  unfold Obligations.VectorFrames
  refine ⟨?quant, ?dequant, ?sfn, ?reduce⟩
  case quant =>
    intro s core e hfront hlock hchk
    exact (State.quant_frame hchk).runVec_frames hfront hlock
  case dequant =>
    intro s core e hfront hlock hchk
    have h := State.dequant_frame (s := s) hchk
    rw [List.append_nil] at h
    exact h.runVec_frames hfront hlock
  case sfn =>
    intro s core e hfront hlock hchk
    have h := State.sfn_frame (s := s) hchk
    rw [List.append_nil] at h
    exact h.runVec_frames hfront hlock
  case reduce =>
    intro s core e hfront hlock hchk
    obtain ⟨bs, hlen, heq⟩ := State.reduce_eq (s := s) hchk
    refine ⟨_, congrArg Host.Outcome.next (State.runVec_eq hfront hlock), ?_, ?_⟩
    · rw [heq, ← Cmd.reduceCount, ← hlen]
      exact storeFrame_setPhase (State.csWrite_storeFrame _ _ _) _ _ _
    · rw [heq]
      rfl

end Sys2Proof.Machine
end

section
/-! PROOFS. The commands of the CVT, SFU and VEC units end with their status and change of memory the core stores alone (R108 to R110, R174 to
R176, R267). -/

namespace Sys2Proof.Machine

open Sys2Proof Sys2Proof.Safety

variable {s t : State} {k : Nat} {e : Issued}

/-! ## NORM and OPT_UPDATE: writes in several places -/

/-- A command that may write any byte of the core stores. -/
abbrev StoresFrame (s t : State) : Prop := UnitFrame (fun _ => True) s t

theorem StoresFrame.csWrite (h : StoresFrame s t) (k off : Nat) (bs : List Byte) : StoresFrame s (t.csWrite k off bs) :=
  UnitFrame.csWrite h fun _ _ => trivial

/-- Rows and what their computation writes besides. -/
theorem StoresFrame.runRows {fmtD rows elems : Nat} {d : Dest} {f : State → Nat → State × RowOut}
    (hf : ∀ t r, StoresFrame s t → StoresFrame s (f t r).1) : StoresFrame s (s.runRows k e fmtD rows elems d f).1 := by
  unfold State.runRows
  refine List.foldlRecOn (motive := fun a : State × Nat => StoresFrame s a.1) _ _ (UnitFrame.refl _ s) fun a ha r _ => ?_
  exact UnitFrame.drew (UnitFrame.countAll (StoresFrame.csWrite (hf a.1 r ha) _ _ _) _ _ _ _) _

/-- A run of bytes, written where there is one. -/
theorem StoresFrame.flushRun (h : StoresFrame s t) (k start : Nat) (run : List Byte) :
    StoresFrame s (if run.isEmpty then t else t.csWrite k start run) := UnitFrame.ite h (h.csWrite _ _ _)

/-- Element codes written over an area, some of its elements left as they are (R267). -/
theorem StoresFrame.putRuns (h : StoresFrame s t) (k off fmt : Nat) (codes : List (Option Nat)) :
    StoresFrame s (t.putRuns k off fmt codes) := by
  unfold State.putRuns
  refine UnitFrame.ite (h.csWrite _ _ _) (StoresFrame.flushRun ?_ _ _ _)
  refine List.foldlRecOn (motive := fun a : State × Nat × List Byte => StoresFrame s a.1) _ _ h fun a ha g _ => ?_
  split
  · exact ha
  · have hrun := ha.flushRun k a.2.1 a.2.2
    split
    · exact hrun.csWrite _ _ _
    · exact hrun

/-- NORM with a good header (R176, R177). -/
theorem State.norm_frame (hchk : normChk k e.cmd = St.ok) (hgood : s.csBad k e.cmd.paramOff 16 = false) :
    StoresFrame s (s.norm k [] e).1 := by
  simp only [State.norm, hchk, hgood, ne_eq, not_true_eq_false, false_and, Bool.false_eq_true, if_false, State.csScan_nil]
  split
  · exact UnitFrame.refl _ s
  · refine StoresFrame.runRows fun t r ht => ?_
    rw [apply_ite Prod.fst, ite_self]
    exact UnitFrame.ite ((ht.csWrite _ _ _).csWrite _ _ _) ht

/-- An area of an OPT_UPDATE: its codes, and their categories counted. -/
theorem StoresFrame.putArea (h : StoresFrame s t) (k w off fmt : Nat) (codes : List (Option Nat)) (cats : List Nat) :
    StoresFrame s ((t.putRuns k off fmt codes).countAll k w fmt cats) := UnitFrame.countAll (h.putRuns _ _ _ _) _ _ _ _

/-- A case distinction over what a command does and the status it ends with. -/
theorem StoresFrame.fst_ite {c : Prop} [Decidable c] {a b : State × Nat} (ha : StoresFrame s a.1) (hb : StoresFrame s b.1) :
    StoresFrame s (if c then a else b).1 := by
  split
  · exact ha
  · exact hb

/-- Writes one after another. -/
theorem StoresFrame.foldl {α : Type} {f : State → α → State} {l : List α} (h : StoresFrame s t)
    (hf : ∀ t x, StoresFrame s t → StoresFrame s (f t x)) : StoresFrame s (l.foldl f t) :=
  List.foldlRecOn (motive := StoresFrame s) _ _ h fun t ht x _ => hf t x ht

/-- Reading without ECC errors. -/
theorem StoresFrame.scan (h : StoresFrame s t) (k : Nat) (l : List (Nat × Nat)) : StoresFrame s (t.csScan k l []) := by
  rwa [State.csScan_nil]

/-- OPT_UPDATE (R265 to R267): its areas, its row scales, and the bytes where areas overlap. -/
theorem State.optUpdate_frame : StoresFrame s (s.optUpdate k [] e).1 := by
  have hrefl : StoresFrame s s := UnitFrame.refl _ s
  refine StoresFrame.fst_ite hrefl ?_
  rw [State.csScan_nil]
  refine StoresFrame.fst_ite hrefl (StoresFrame.fst_ite hrefl (UnitFrame.drew
    (UnitFrame.ite (StoresFrame.foldl ?scales fun t i ht => ?overlap) ?scales) _))
  case overlap =>
    split
    · exact ht
    · refine StoresFrame.foldl ht fun t j ht => UnitFrame.ite (ht.csWrite _ _ _) ht
  case scales =>
    refine StoresFrame.foldl (UnitFrame.ite (StoresFrame.putArea ?moments _ _ _ _ _ _)
      (StoresFrame.putArea (StoresFrame.putArea ?moments _ _ _ _ _ _) _ _ _ _ _ _)) fun t x ht => ?scale
    case scale =>
      split
      · exact ht.csWrite _ _ _
      · exact ht
    case moments =>
      have hscan := StoresFrame.scan hrefl
      exact UnitFrame.ite (StoresFrame.putArea (StoresFrame.putArea (hscan _ _) _ _ _ _ _ _) _ _ _ _ _ _)
        (StoresFrame.putArea (hscan _ _) _ _ _ _ _ _)

/-! ## RNG -/

/-- RNG writes its bytes, or nothing. -/
theorem State.rng_cases (s : State) (k : Nat) (e : Issued) : (s.rng k e).1 = s ∨ ∃ bs, (s.rng k e).1 = s.csWrite k (fld e.cmd.w2 0 22) bs := by
  unfold State.rng
  dsimp only
  split
  · exact .inl rfl
  · exact .inr ⟨_, rfl⟩

theorem putBytes_append (bs post : List Byte) :
    ∀ (m : List Host.Cell) (a : Nat), putBytes m a (bs ++ post) = putBytes (putBytes m a bs) (a + bs.length) post := by
  induction bs with
  | nil => exact fun _ _ => rfl
  | cons x bs ih =>
    intro m a
    rw [List.cons_append, putBytes, putBytes, ih, List.length_cons, Nat.add_right_comm, Nat.add_assoc]

theorem bytesAt_putBytes_append (m : List Host.Cell) (a : Nat) (pre bs post : List Byte) :
    bytesAt (putBytes m a (pre ++ (bs ++ post))) (a + pre.length) bs.length = bs := by
  rw [putBytes_append, putBytes_append,
    bytesAt_congr _ _ fun b _ hb => byteAt_putBytes_ne post _ _ (.inl hb), bytesAt_putBytes_self]

theorem length_flatten_map_leBytes (n : Nat) (l : List Nat) : (l.map (leBytes n)).flatten.length = n * l.length := by
  induction l with
  | nil => rfl
  | cons x l ih =>
    rw [List.map_cons, List.flatten_cons, List.length_append, length_leBytes, ih, List.length_cons]
    ring

/-- A word of a row of words. -/
theorem State.csBytes_csWrite_word (s : State) (k off : Nat) (l : List Nat) {i : Nat} (h : i < l.length) :
    (s.csWrite k off (l.map (leBytes 4)).flatten).csBytes k (off + 4 * i) 4 = leBytes 4 l[i] := by
  have hsplit : (l.map (leBytes 4)).flatten =
      ((l.take i).map (leBytes 4)).flatten ++ (leBytes 4 l[i] ++ ((l.drop (i + 1)).map (leBytes 4)).flatten) := by
    rw [← List.flatten_cons, ← List.flatten_append, ← List.map_cons, ← List.map_append, List.cons_getElem_drop_succ,
      List.take_append_drop]
  have hlen := length_flatten_map_leBytes 4 (l.take i)
  rw [List.length_take_of_le h.le] at hlen
  have hread := bytesAt_putBytes_append s.mem.cstore (csKey k off) ((l.take i).map (leBytes 4)).flatten (leBytes 4 l[i])
    ((l.drop (i + 1)).map (leBytes 4)).flatten
  rw [← hsplit, hlen, length_leBytes] at hread
  rw [show csKey k off + 4 * i = csKey k (off + 4 * i) by unfold csKey; omega] at hread
  exact hread

/-- RNG of words (R110). -/
theorem State.rng_words {n : Nat} (hmode : fld e.cmd.w0 28 2 = 0) (hn : n = fld e.cmd.w3 0 11 * fld e.cmd.w3 16 16) (hpos : 0 < n)
    (hrows : fld e.cmd.w3 0 11 ≤ 1024) (halign : fld e.cmd.w2 0 22 % 16 = 0) (hfits : fld e.cmd.w2 0 22 + 4 * n ≤ 2 ^ 22) :
    s.rng k e = (s.csWrite k (fld e.cmd.w2 0 22) (((List.range n).map (fun i =>
      rngWord e.cmd.w1.toNat (fld e.cmd.w3 32 16) (fld e.cmd.w3 48 16) (fld e.cmd.w2 32 32 + i))).map (leBytes 4)).flatten, St.ok) := by
  have hne : ¬(fld e.cmd.w3 0 11 = 0 ∨ fld e.cmd.w3 16 16 = 0) := by
    rintro (h | h) <;> simp [hn, h] at hpos
  have hgood : ¬(fld e.cmd.w0 28 2 = 3 ∨ fld e.cmd.w3 0 11 = 0 ∨ 1024 < fld e.cmd.w3 0 11 ∨ fld e.cmd.w3 16 16 = 0 ∨
      fld e.cmd.w2 0 22 % 16 ≠ 0 ∨ 2 ^ 22 < fld e.cmd.w2 0 22 + rngBytes (fld e.cmd.w0 28 2) n) := by
    rw [hmode, rngBytes, if_neg (by decide)]
    omega
  rw [hmode] at hgood
  rw [State.rng]
  simp only [← hn, hgood, if_false, hmode]

/-! ## The commands end -/

/-- A command of these units ends with its status. -/
theorem UnitFrame.runVec {p : Nat → Prop} {op : Nat} {f : Issued → State × Nat} (h : UnitFrame p s (f e).1) (hfront : s.front k op = some e)
    (hlock : (s.core k).interlocked e = false) : ∃ t, (Host.Outcome.next (s.runVec k op f) : Host.Outcome State Fault Refusal) = .next t ∧
      Ended s t k e.ord (.done (f e).2) ∧ t = { s with
        mem := { s.mem with cstore := t.mem.cstore, cpoison := t.mem.cpoison }, regs := t.regs, cores := t.cores, free := t.free } :=
  ⟨_, congrArg Host.Outcome.next (State.runVec_eq hfront hlock), h.ended _ _ _, h.setPhase_eq _ _ _⟩

/-- Settles O41: what a command does is a chain of writes to the core stores and of counts, and its end is one change of its phase. -/
theorem vectorCommandsComplete : Obligations.VectorCommandsComplete := by
  unfold Obligations.VectorCommandsComplete
  refine ⟨?quant, ?quantBad, ?dequant, ?sfn, ?norm, ?reduce, ?rng, ?rngWords, ?opt⟩
  case quant =>
    intro s core e hfront hlock hchk
    exact (State.quant_frame hchk).runVec hfront hlock
  case quantBad =>
    intro s core e hfront hlock hchk
    have heff : s.quant core [] e = (s, quantChk core e.cmd) := if_pos hchk
    refine ⟨_, congrArg Host.Outcome.next (State.runVec_eq hfront hlock), ?_⟩
    rw [heff]
    exact ⟨State.setPhase_ended _ _ _ _, rfl⟩
  case dequant =>
    intro s core e hfront hlock hchk
    exact (State.dequant_frame hchk).runVec hfront hlock
  case sfn =>
    intro s core e hfront hlock hchk
    exact (State.sfn_frame hchk).runVec hfront hlock
  case norm =>
    intro s core e hfront hlock hchk hgood
    exact (State.norm_frame hchk hgood).runVec hfront hlock
  case reduce =>
    intro s core e hfront hlock hchk
    obtain ⟨bs, _, heq⟩ := State.reduce_eq (s := s) hchk
    have h : StoresFrame s (s.reduce core [] e).1 := heq ▸ (UnitFrame.refl _ s).csWrite fun _ _ => trivial
    exact h.runVec hfront hlock
  case rng =>
    intro s core e hfront hlock
    refine ⟨_, congrArg Host.Outcome.next (State.runVec_eq hfront hlock), ?_⟩
    obtain heq | ⟨bs, heq⟩ := s.rng_cases core e
    · rw [heq]
      exact ⟨State.setPhase_ended _ _ _ _, rfl⟩
    · rw [heq]
      exact ⟨ended_of_cores (State.setPhase_ended _ _ _ _) rfl, rfl⟩
  case rngWords =>
    intro s core e n hfront hlock hmode hn hpos hrows halign hfits
    refine ⟨_, congrArg Host.Outcome.next (State.runVec_eq hfront hlock), ?_⟩
    rw [State.rng_words hmode hn hpos hrows halign hfits]
    refine ⟨ended_of_cores (State.setPhase_ended _ _ _ _) rfl, fun i hi => ?_, storeFrame_setPhase ?_ _ _ _⟩
    · refine (State.csBytes_csWrite_word s core _ _ (by simpa using hi)).trans ?_
      rw [List.getElem_map, List.getElem_range]
    · have hframe := State.csWrite_storeFrame (s := s) core (fld e.cmd.w2 0 22) (((List.range n).map (fun i =>
        rngWord e.cmd.w1.toNat (fld e.cmd.w3 32 16) (fld e.cmd.w3 48 16) (fld e.cmd.w2 32 32 + i))).map (leBytes 4)).flatten
      rwa [length_flatten_map_leBytes, List.length_map, List.length_range] at hframe
  case opt =>
    intro s core e hfront hlock _
    exact State.optUpdate_frame.runVec hfront hlock

end Sys2Proof.Machine
end

section
/-! PROOFS. What power-up leaves (R85, R89, R185, R229, R416, R480): every memory of the reset state is empty. -/

namespace Sys2Proof.Machine

open Sys2Proof Sys2Proof.Safety

/-- An empty memory reads zero. -/
theorem bytesAt_nil (n : Nat) : ∀ a : Nat, bytesAt [] a n = zeros n := by
  induction n with
  | zero => exact fun _ => rfl
  | succ n ih => exact fun a => congrArg (List.cons 0) (ih (a + 1))

/-- The reset value of a ward's state is FREE (R416). -/
theorem wardState_reset {w : Nat} (hw : w < 8) : State.reset.wardState w = 0 := by
  have hall : ∀ w : Fin 8, State.reset.wardState w = 0 := by decide
  exact hall ⟨w, hw⟩

/-- Settles O3: the lists of the reset state are empty, so each of its memories reads its default. -/
theorem resetLeaves : Obligations.ResetLeaves := by
  unfold Obligations.ResetLeaves
  refine ⟨?control, fun k => ?cores, fun w hw => wardState_reset hw, fun key b => ⟨rfl, rfl⟩, fun k a n => bytesAt_nil n _⟩
  case control => exact ⟨rfl, by decide, rfl, rfl⟩
  case cores => exact ⟨rfl, rfl, rfl, rfl, rfl⟩

end Sys2Proof.Machine
end

section
/-! PROOFS. Control writes that are served at once (R7, R26, R376), and what they do to the streams of a cell (R95, R96). -/

namespace Sys2Proof.Machine

open Sys2Proof Sys2Proof.Safety

variable {s t : State} {who : Requester} {a : Nat}

/-! ## A control write that reaches its register -/

/-- In P0 with no entry in progress there is nothing to wake. -/
theorem State.rouse_of_awake (h : s.awake = true) : s.rouse = s := by
  simp only [State.awake, Bool.and_eq_true, decide_eq_true_eq, Option.isNone_iff_eq_none] at h
  obtain ⟨hp, hentering⟩ := h
  simp [State.rouse, State.abandon, hentering, hp]

theorem State.wake_of_awake (h : s.awake = true) : s.wake = s := by
  have hp : s.pstate ≠ 4 := by
    simp only [State.awake, Bool.and_eq_true, decide_eq_true_eq] at h
    omega
  rw [State.wake, if_neg hp, State.rouse_of_awake h]

/-- A host reaches a register only while its link is served. -/
theorem State.hostUp_of_reach (h : s.reach .host a = St.ok) : s.hostUp = true := by
  by_contra hdown
  have hreaches : s.reaches .host a = false := by simp [State.reaches, hdown]
  have hbounds : s.reach .host a = worst St.bounds (chk (s.evt.mcDown && mcWindow (windowOf a)) St.timeout) := by
    simp [State.reach, hreaches, chk]
  exact worst_ne_ok_of_rank_lt _ (by decide) (hbounds.symm.trans h)

/-- A write that is served now has its register's effect at once. -/
theorem State.byHost_eq {i : Instr} {f : State → Host.Outcome State Fault Refusal} (hnow : ServedNow s who = true)
    (hreach : s.reach who a = St.ok) : s.byHost who i f = f s := by
  unfold State.byHost
  split
  · rfl
  · next hhost =>
    obtain rfl : who = .host := not_not.1 hhost
    have hawake : s.awake = true := by simpa [ServedNow] using hnow
    have hp : s.pstate ≠ 4 := by
      simp only [State.awake, Bool.and_eq_true, decide_eq_true_eq] at hawake
      omega
    rw [State.hostUp_of_reach hreach, if_neg (by decide), if_neg hp, State.wake_of_awake hawake]

/-- A write that passes every check takes effect. -/
theorem State.ctlDo_ok {f : State → State} {own : Nat} (hreach : s.reach who a = St.ok) (hown : own = St.ok) :
    s.ctlDo who a own f = (f s).answer St.ok := by
  have hst : worst (s.reach who a) own = St.ok := by rw [hreach, hown]; rfl
  simp [State.ctlDo, hst, State.ctlEnd]

/-- A write by another than the host that fails a check of its register has no other effect. -/
theorem State.ctlDo_refused {f : State → State} {own : Nat} (hwho : who ≠ .host) (hreach : s.reach who a = St.ok)
    (hown : statusRank own < statusRank St.ok) : s.ctlDo who a own f = s.answer own := by
  have hst : worst (s.reach who a) own = own := by rw [hreach, worst, if_pos hown]
  have hne : own ≠ St.ok := by
    rintro rfl
    exact lt_irrefl _ hown
  simp [State.ctlDo, hst, State.ctlEnd, hne, hwho]

/-! ## The streams of a core -/

section
variable {c : Core} {k n m : Nat}

/-- A core that has settled differs in its elapsed time alone (R121). -/
theorem Core.settle_eq (c : Core) (now : Nat) :
    c.settle now = { c with elapsedRun := (c.settle now).elapsedRun, elapsed := (c.settle now).elapsed } := by
  unfold Core.settle
  split <;> rfl

@[simp] theorem Core.settle_issued (now : Nat) : (c.settle now).issued = c.issued := by rw [Core.settle_eq]
@[simp] theorem Core.settle_pc (now : Nat) : (c.settle now).pc = c.pc := by rw [Core.settle_eq]
@[simp] theorem Core.settle_stall (now : Nat) : (c.settle now).stall = c.stall := by rw [Core.settle_eq]
@[simp] theorem Core.settle_stream (now n : Nat) : (c.settle now).stream n = c.stream n := by
  rw [Core.settle_eq]
  rfl

@[simp] theorem Core.setStream_issued (n : Nat) (x : Stream) : (c.setStream n x).issued = c.issued := by
  unfold Core.setStream
  split <;> rfl

@[simp] theorem Core.setStream_stream_self (n : Nat) (x : Stream) : (c.setStream n x).stream n = x := by
  unfold Core.setStream Core.stream
  split <;> rfl

theorem Core.setStream_stream_other (x : Stream) (h : ¬(n = 0 ↔ m = 0)) : (c.setStream n x).stream m = c.stream m := by
  unfold Core.setStream Core.stream
  by_cases hm : m = 0
  · have hn : n ≠ 0 := fun hn => h (by simp [hn, hm])
    simp [hn, hm]
  · have hn : n = 0 := not_not.1 fun hn => h (by simp [hn, hm])
    simp [hn, hm]

@[simp] theorem Core.flushDone_issued (n : Nat) : (c.flushDone n).issued = c.issued := by
  unfold Core.flushDone
  split
  · exact Core.setStream_issued _ _
  · rfl

theorem Core.flushDone_stream_other (h : ¬(n = 0 ↔ m = 0)) : (c.flushDone n).stream m = c.stream m := by
  unfold Core.flushDone
  split
  · exact Core.setStream_stream_other _ h
  · rfl

/-- A flushing stream is back in RUN once nothing of it is issued (R96). -/
theorem Core.flushDone_stream_self (h : (c.stream n).state = .flushing) : (c.flushDone n).stream n =
    if c.issued.any (fun e => e.strm = n) then c.stream n else { c.stream n with state := .run, fault := 0, nextSeq := 0 } := by
  unfold Core.flushDone
  rw [h]
  cases hany : c.issued.any (fun e => decide (e.strm = n)) <;> simp

@[simp] theorem State.modCore_core_self (k : Nat) (f : Core → Core) : (s.modCore k f).core k = f (s.core k) :=
  State.setCore_core_self k _

theorem Core.flushDone_setStream_stream {x : Stream} (h : x.state = .flushing) : ((c.setStream n x).flushDone n).stream n =
    if c.issued.any (fun e => e.strm = n) then x else { x with state := .run, fault := 0, nextSeq := 0 } := by
  rw [Core.flushDone_stream_self (by rw [Core.setStream_stream_self, h]), Core.setStream_stream_self, Core.setStream_issued]

theorem State.modCore_core_ne {j : Nat} (f : Core → Core) (h : j ≠ k) : (s.modCore k f).core j = s.core j :=
  State.setCore_core_ne _ h

@[simp] theorem State.answer_core (st : Nat) (v : W64) (bs : List Byte) (k : Nat) : (s.answer st v bs).core k = s.core k := rfl

/-- A STOPPED stream goes on with its queue (R96). -/
theorem State.resume_core (h : ((s.core k).stream n).state = .stopped) :
    (s.resume k n).core k = (s.core k).setStream n { (s.core k).stream n with state := .run, fault := 0 } := by
  rw [State.resume, State.modCore_core_self, if_pos h]

theorem State.resume_spec (hother : ¬(n = 0 ↔ m = 0)) (h : ((s.core k).stream n).state = .stopped)
    (ht : t = (s.resume k n).answer St.ok) :
    ((t.core k).stream n).state = .run ∧ ((t.core k).stream n).fault = 0 ∧
      ((t.core k).stream n).queue = ((s.core k).stream n).queue ∧ (t.core k).stream m = (s.core k).stream m ∧
      (t.core k).issued = (s.core k).issued ∧ (∀ j, j ≠ k → t.core j = s.core j) ∧ t.resp.status = St.ok ∧
      t = { s with cores := t.cores, resp := t.resp } := by
  subst ht
  rw [State.answer_core, State.resume_core h]
  simp only [Core.setStream_stream_self, Core.setStream_issued, true_and]
  exact ⟨Core.setStream_stream_other _ hother, fun j hj => State.modCore_core_ne _ hj, rfl, rfl⟩

/-- The queue of a stream is emptied (R96). -/
theorem State.flush_core (h : ((s.core k).stream n).state ≠ .flushing) : (s.flush k n).core k =
    (((s.core k).setStream n { (s.core k).stream n with queue := [], state := .flushing }).flushDone n).settle (s.ck k) := by
  rw [State.flush, State.modCore_core_self, if_neg h]

theorem State.flush_spec (hother : ¬(n = 0 ↔ m = 0)) (h : ((s.core k).stream n).state ≠ .flushing)
    (ht : t = (s.flush k n).answer St.ok) :
    ((t.core k).stream n).queue = [] ∧
      ((t.core k).stream n).state = (if (s.core k).issued.any (fun e => e.strm = n) then .flushing else .run) ∧
      (t.core k).stream m = (s.core k).stream m ∧ (t.core k).issued = (s.core k).issued ∧ (∀ j, j ≠ k → t.core j = s.core j) ∧
      t.resp.status = St.ok ∧ t = { s with cores := t.cores, resp := t.resp } := by
  subst ht
  rw [State.answer_core, State.flush_core h]
  simp only [Core.settle_stream, Core.settle_issued, Core.flushDone_issued, Core.setStream_issued,
    Core.flushDone_stream_other hother, Core.setStream_stream_other _ hother, true_and]
  rw [Core.flushDone_setStream_stream rfl]
  refine ⟨?_, ?_, fun j hj => ?_, rfl, rfl⟩
  · split <;> rfl
  · split <;> rfl
  · rw [State.answer_core, State.flush, State.modCore_core_ne _ hj]

end

/-! ## The writes -/

/-- A write to a cell's CELL_STREAM_CTRL has its effect and answers OK. -/
theorem State.streamCtrl_eq {core : Nat} {i : Instr} {f : State → State} (hnow : ServedNow s who = true)
    (hreach : s.reach who (R.CELL_STREAM_CTRL core) = St.ok) (hcell : core < 128) :
    s.byHost who i (fun s => .next (s.ctlDo who (R.CELL_STREAM_CTRL core) (chk (!isCell core) St.bounds) f)) =
      .next ((f s).answer St.ok) := by
  rw [State.byHost_eq hnow hreach, State.ctlDo_ok hreach (by simp [isCell, hcell])]

/-- Settles O35: each write is one change of its core, of the stream it names alone. -/
theorem streamControlsComplete : Obligations.StreamControlsComplete := by
  unfold Obligations.StreamControlsComplete
  refine ⟨?fgResume, ?fillResume, ?fgFlush, ?fillFlush, ?flushing, ?fillEnable⟩
  case fgResume =>
    intro s who core hnow hreach hcell hstopped
    exact ⟨_, State.streamCtrl_eq hnow hreach hcell, State.resume_spec (by decide) hstopped rfl⟩
  case fillResume =>
    intro s who core hnow hreach hcell hstopped
    exact ⟨_, State.streamCtrl_eq hnow hreach hcell, State.resume_spec (by decide) hstopped rfl⟩
  case fgFlush =>
    intro s who core hnow hreach hcell hst
    exact ⟨_, State.streamCtrl_eq hnow hreach hcell, State.flush_spec (by decide) hst rfl⟩
  case fillFlush =>
    intro s who core hnow hreach hcell hst
    exact ⟨_, State.streamCtrl_eq hnow hreach hcell, State.flush_spec (by decide) hst rfl⟩
  case flushing =>
    intro s who core hnow hreach hcell hst
    refine ⟨_, State.streamCtrl_eq hnow hreach hcell, ?_, rfl, rfl⟩
    rw [State.answer_core, State.flush, State.modCore_core_self, if_pos hst]
  case fillEnable =>
    intro s who core en hnow hreach hcell
    refine ⟨_, State.streamCtrl_eq hnow hreach hcell, ?_, fun k hk => ?_, rfl, rfl⟩
    · rw [State.answer_core, State.modCore_core_self]
    · rw [State.answer_core, State.modCore_core_ne _ hk]

end Sys2Proof.Machine
end

section
/-! PROOFS. Starting, halting and writing a core (R85, R86, R113, R120, R121, R152, R413). A start restarts the core's elapsed time and its
health page; the levels that are set anew with it (R395) count no cycle of their own. -/

namespace Sys2Proof.Machine

open Sys2Proof Sys2Proof.Safety

variable {s t : State} {who : Requester} {k j n : Nat}

/-! ## A cell's cycles and registers where levels change (R388, R391) -/

/-- The registers of the levels lie apart from the health counts and the cells' control registers. -/
theorem healthAddr_ne_level {core f c j : Nat} (hf : f < 10) (hc : c < 4) (hj : j < 128) :
    R.HALF_FH (core / 64) (core % 64) f c ≠ R.PWR_CELL j := by
  unfold R.HALF_FH R.PWR_CELL
  omega

theorem seqCtrl_ne_level {core j : Nat} (hcore : core < 128) : R.CELL_SEQ_CTRL core ≠ R.PWR_CELL j := by
  unfold R.CELL_SEQ_CTRL R.PWR_CELL
  omega

theorem seqCtrl_ne_healthAddr {core i : Nat} (hcore : core < 128) (hi : i < 40) :
    R.CELL_SEQ_CTRL core ≠ R.HALF_FH (core / 64) (core % 64) (i / 4) (i % 4) := by
  unfold R.CELL_SEQ_CTRL R.HALF_FH
  omega

/-- A core's cycles depend on what is set for it and on its divider alone. -/
theorem State.ck_congr (hcells : t.pwr.cells = s.pwr.cells) (hnow : t.now = s.now) (hclk : t.clk = s.clk)
    (hdiv : t.rf (R.PWR_CELL j) F.PWR_CELL_DIV = s.rf (R.PWR_CELL j) F.PWR_CELL_DIV) : t.ck j = s.ck j := by
  unfold State.ck
  rw [hcells, hnow, hclk, hdiv]

/-- And so where registers other than its divider's and cores change. -/
theorem State.ck_of_rest (h : t = { s with regs := t.regs, cores := t.cores }) (hreg : t.reg (R.PWR_CELL j) = s.reg (R.PWR_CELL j)) :
    t.ck j = s.ck j := by
  refine State.ck_congr ?_ ?_ ?_ ?_
  · rw [h]
  · rw [h]
  · rw [h]
  · rw [State.rf, hreg, State.rf]

theorem State.ck_setF_ne {a : Nat} {f : Fld} {x : Nat} (h : R.PWR_CELL j ≠ a) : (s.setF a f x).ck j = s.ck j :=
  State.ck_congr rfl rfl rfl (State.setF_rf_ne _ _ _ h)

/-- LEVEL and CAUSE leave the divider. -/
theorem State.ck_setF_level {x : Nat} {f : Fld} (hf : f = F.PWR_CELL_LEVEL ∨ f = F.PWR_CELL_CAUSE) :
    (s.setF (R.PWR_CELL k) f x).ck j = s.ck j := by
  refine State.ck_congr rfl rfl rfl ?_
  by_cases h : R.PWR_CELL j = R.PWR_CELL k
  · rw [h]
    rcases hf with rfl | rfl <;> exact State.setF_rf_other _ _ (by decide) (by decide)
  · exact State.setF_rf_ne _ _ _ h

theorem State.modCell_rf (f : CellPwr → CellPwr) (a : Nat) (g : Fld) : (s.modCell k f).rf a g = s.rf a g := rfl

/-- A core's cycles depend on what is set for that core alone. -/
theorem State.ck_modCell {f : CellPwr → CellPwr} (h : (s.modCell k f).pwr.cells = mset {} s.pwr.cells k (f (s.cellPwr k))) (j : Nat) :
    (s.modCell k f).ck j = if isCell j then
      (mget {} (mset {} s.pwr.cells k (f (s.cellPwr k))) j).cycBase +
        (s.now - max (mget {} (mset {} s.pwr.cells k (f (s.cellPwr k))) j).cycSince s.clk.restartAt) * 4 /
          (4 + s.rf (R.PWR_CELL j) F.PWR_CELL_DIV)
      else s.now - s.clk.restartAt := by
  rw [State.ck, h, State.modCell_rf]
  rfl

/-- What is set for a cell changes the cycles of no other. -/
theorem State.ck_modCell_ne {f : CellPwr → CellPwr} (h : j ≠ k) : (s.modCell k f).ck j = s.ck j := by
  rw [State.ck_modCell rfl, mget_mset_ne _ _ _ _ h, State.ck]

/-- What the supply settles to counts no cycles. -/
theorem State.ck_settle {x : Settle} : (s.modCell k (fun c => { c with settle := x })).ck j = s.ck j := by
  by_cases h : j = k
  · subst h
    rw [State.ck_modCell rfl, mget_mset_self, State.ck, State.cellPwr]
  · exact State.ck_modCell_ne h

/-- A cell whose divider changes has counted its cycles up to now (R391). -/
theorem State.ck_setDiv_self {d : Nat} : (s.setDiv k d).ck k = s.ck k := by
  unfold State.ck
  split
  · simp [State.setDiv, State.modCell, State.modPwr, State.ck, *]
  · rfl

theorem State.ck_setDiv {d : Nat} : (s.setDiv k d).ck j = s.ck j := by
  by_cases h : j = k
  · subst h
    exact State.ck_setDiv_self
  · have haddr : R.PWR_CELL j ≠ R.PWR_CELL k := by
      unfold R.PWR_CELL
      omega
    exact (State.ck_setF_ne haddr).trans (State.ck_modCell_ne h)

/-- From `s` to `t` no core's cycles differ, nor any register but the levels'. -/
structure CyclesKept (s t : State) : Prop where
  ck : ∀ j, t.ck j = s.ck j
  regs : ∀ a, (∀ k < 128, a ≠ R.PWR_CELL k) → t.reg a = s.reg a

theorem CyclesKept.refl (s : State) : CyclesKept s s := ⟨fun _ => rfl, fun _ _ => rfl⟩

theorem CyclesKept.takeLevel (h : CyclesKept s t) {lev cause : Nat} (hk : k < 128) : CyclesKept s (t.takeLevel k lev cause) := by
  have hset : CyclesKept s ((t.setF (R.PWR_CELL k) F.PWR_CELL_LEVEL lev).setF (R.PWR_CELL k) F.PWR_CELL_CAUSE cause) := by
    refine ⟨fun j => ?_, fun a ha => ?_⟩
    · rw [State.ck_setF_level (.inr rfl), State.ck_setF_level (.inl rfl), h.ck j]
    · rw [State.setF_reg_ne _ _ (ha k hk), State.setF_reg_ne _ _ (ha k hk), h.regs a ha]
  have hsettle : ∀ {u : State} (x : Settle), CyclesKept s u → CyclesKept s (u.modCell k (fun c => { c with settle := x })) :=
    fun x hu => ⟨fun j => State.ck_settle.trans (hu.ck j), hu.regs⟩
  have hdiv : ∀ {u : State} (d : Nat), CyclesKept s u → CyclesKept s (u.setDiv k d) :=
    fun d hu => ⟨fun j => State.ck_setDiv.trans (hu.ck j), fun a ha => (State.setF_reg_ne _ _ (ha k hk)).trans (hu.regs a ha)⟩
  unfold State.takeLevel
  dsimp only
  split
  · split
    · exact hset
    · exact hsettle _ (hdiv _ hset)
  · split
    · exact hsettle _ hset
    · exact hset

theorem CyclesKept.relevel (s : State) {half : Nat} (hhalf : half < 2) : CyclesKept s (s.relevel half) := by
  unfold State.relevel
  refine List.foldlRecOn (motive := CyclesKept s) _ _ (CyclesKept.refl s) fun t ht e he => ?_
  obtain ⟨i, hi, rfl⟩ := List.mem_map.1 he
  have hlt : half * 64 + i < 128 := by
    have := List.mem_range.1 hi
    omega
  split
  · exact ht
  · exact ht.takeLevel hlt

/-! ## The health page of a cell (R152, R159) -/

/-- Registers set to 0 one after another. -/
theorem State.reg_foldl_zero_ne {a : Nat} {g : Nat → Nat} (l : List Nat) (h : ∀ i ∈ l, a ≠ g i) :
    (l.foldl (fun s i => s.setReg (g i) 0) s).reg a = s.reg a :=
  List.foldlRecOn (motive := fun t : State => t.reg a = s.reg a) _ _ rfl fun _ ht i hi => (State.setReg_reg_ne _ (h i hi)).trans ht

theorem State.reg_foldl_zero_mem {a : Nat} {g : Nat → Nat} (l : List Nat) (h : ∃ i ∈ l, a = g i) :
    (l.foldl (fun s i => s.setReg (g i) 0) s).reg a = 0 := by
  obtain ⟨i, hi, rfl⟩ := h
  obtain ⟨before, after, rfl⟩ := List.append_of_mem hi
  rw [List.foldl_append, List.foldl_cons]
  exact List.foldlRecOn (motive := fun t : State => t.reg (g i) = 0) _ _ (State.setReg_reg_self _ _) fun t ht j _ => by
    by_cases e : g i = g j
    · rw [e, State.setReg_reg_self]
    · rw [State.setReg_reg_ne _ e, ht]

theorem State.zeroFh_eq {core : Nat} (hcore : core < 128) : s.zeroFh core =
    (List.range 40).foldl (fun s i => s.setReg (R.HALF_FH (core / 64) (core % 64) (i / 4) (i % 4)) 0) s :=
  if_pos (by simp [isCell, hcore])

theorem State.zeroFh_reg_health {core f c : Nat} (hcore : core < 128) (hf : f < 10) (hc : c < 4) :
    (s.zeroFh core).reg (R.HALF_FH (core / 64) (core % 64) f c) = 0 := by
  rw [State.zeroFh_eq hcore]
  refine State.reg_foldl_zero_mem _ ⟨4 * f + c, List.mem_range.2 (by omega), ?_⟩
  rw [show (4 * f + c) / 4 = f by omega, show (4 * f + c) % 4 = c by omega]

theorem State.zeroFh_reg_ne {core a : Nat} (hcore : core < 128)
    (h : ∀ i < 40, a ≠ R.HALF_FH (core / 64) (core % 64) (i / 4) (i % 4)) : (s.zeroFh core).reg a = s.reg a := by
  rw [State.zeroFh_eq hcore]
  exact State.reg_foldl_zero_ne _ fun i hi => h i (List.mem_range.1 hi)

theorem State.zeroFh_rest (s : State) (k : Nat) : s.zeroFh k = { s with regs := (s.zeroFh k).regs } := by
  unfold State.zeroFh
  split
  · exact List.foldlRecOn (motive := fun t : State => t = { s with regs := t.regs }) _ _ rfl fun t ht i _ => by rw [ht]; rfl
  · rfl

/-! ## Starting a core (R85) -/

/-- A core as it starts. -/
def Core.started (c : Core) (trapHalt : Bool) (now : Nat) : Core :=
  { c with
    trapHalt := trapHalt, halted := false, trapped := false, stall := .none, startPc := c.pc, elapsedRun := true, elapsedStart := now
    elapsed := 0 }

/-- RUN and TRAP_HALT as last written: two fields of one register of a cell. -/
theorem State.setSeqCtrl_eq (s : State) (core : Nat) (run th : Bool) : s.setSeqCtrl core run th =
    (if isCell core then (s.setF (R.CELL_SEQ_CTRL core) F.CELL_SEQ_CTRL_RUN (b2n run)).setF (R.CELL_SEQ_CTRL core)
      F.CELL_SEQ_CTRL_TRAP_HALT (b2n th) else s).modCore core (fun c => { c with trapHalt := th }) := rfl

@[simp] theorem State.setF_core (a : Nat) (f : Fld) (x k : Nat) : (s.setF a f x).core k = s.core k := rfl

/-- Fields and a core that are written leave the rest. -/
theorem State.setF_setF_modCore_rest (a : Nat) (f g : Fld) (x y k : Nat) (h : Core → Core) : ((s.setF a f x).setF a g y).modCore k h =
    { s with
      regs := (((s.setF a f x).setF a g y).modCore k h).regs, cores := (((s.setF a f x).setF a g y).modCore k h).cores } := rfl

theorem State.setSeqCtrl_core (s : State) (core : Nat) (run th : Bool) :
    (s.setSeqCtrl core run th).core core = { s.core core with trapHalt := th } := by
  rw [State.setSeqCtrl_eq, State.modCore_core_self]
  split
  · rw [State.setF_core, State.setF_core]
  · rfl

theorem State.setSeqCtrl_core_ne {core : Nat} (run th : Bool) (h : j ≠ core) : (s.setSeqCtrl core run th).core j = s.core j := by
  rw [State.setSeqCtrl_eq, State.modCore_core_ne _ h]
  split
  · rw [State.setF_core, State.setF_core]
  · rfl

theorem State.setSeqCtrl_rest (s : State) (core : Nat) (run th : Bool) : s.setSeqCtrl core run th =
    { s with regs := (s.setSeqCtrl core run th).regs, cores := (s.setSeqCtrl core run th).cores } := by
  rw [State.setSeqCtrl_eq]
  split
  · exact State.setF_setF_modCore_rest _ _ _ _ _ _ _
  · rfl

theorem State.setSeqCtrl_reg_ne {core a : Nat} (run th : Bool) (h : a ≠ R.CELL_SEQ_CTRL core) :
    (s.setSeqCtrl core run th).reg a = s.reg a := by
  rw [State.setSeqCtrl_eq, State.modCore_reg]
  split
  · rw [State.setF_reg_ne _ _ h, State.setF_reg_ne _ _ h]
  · rfl

theorem State.setSeqCtrl_run {core : Nat} (hcore : core < 128) (run th : Bool) :
    (s.setSeqCtrl core run th).rf (R.CELL_SEQ_CTRL core) F.CELL_SEQ_CTRL_RUN = b2n run := by
  rw [State.setSeqCtrl_eq, if_pos (by simp [isCell, hcore]), State.rf, State.modCore_reg, ← State.rf,
    State.setF_rf_other _ _ (by decide) (by decide), State.setF_rf_self _ _ (by decide)]
  cases run <;> rfl

/-- A halted cell that starts: its core, its cycles, RUN and its health page. -/
theorem State.writeSeqCtrl_start {core : Nat} {th : Bool} (hcore : core < 128) (hhalted : (s.core core).halted = true)
    (ht : t = s.writeSeqCtrl core true th) :
    t.core core = (s.core core).started th (s.ck core) ∧ (∀ k, k ≠ core → t.core k = s.core k) ∧ t.ck core = s.ck core ∧
      t.rf (R.CELL_SEQ_CTRL core) F.CELL_SEQ_CTRL_RUN = 1 ∧
      (∀ f c, f < 10 → c < 4 → t.reg (R.HALF_FH (core / 64) (core % 64) f c) = 0) ∧
      t = { s with regs := t.regs, cores := t.cores } := by
  have hck : (s.setSeqCtrl core true th).ck core = s.ck core :=
    State.ck_of_rest (State.setSeqCtrl_rest _ _ _ _) (State.setSeqCtrl_reg_ne _ _ (seqCtrl_ne_level hcore).symm)
  obtain ⟨u, hu⟩ : ∃ u, u = (s.setSeqCtrl core true th).setCore core ((s.core core).started th (s.ck core)) := ⟨_, rfl⟩
  have hstart : s.writeSeqCtrl core true th = u.zeroFh core := by
    rw [hu, State.writeSeqCtrl]
    simp only [if_true, State.startCore, State.setSeqCtrl_core, hhalted, hck]
    rfl
  have hucore : u.core core = (s.core core).started th (s.ck core) := by rw [hu, State.setCore_core_self]
  have hune : ∀ k, k ≠ core → u.core k = s.core k := fun k hk => by
    rw [hu, State.setCore_core_ne _ hk, State.setSeqCtrl_core_ne _ _ hk]
  have hurest : u = { s with regs := u.regs, cores := u.cores } := by
    rw [hu, State.setSeqCtrl_rest]
    rfl
  have hzrest : u.zeroFh core = { u with regs := (u.zeroFh core).regs } := State.zeroFh_rest u core
  have hzcore : ∀ k, (u.zeroFh core).core k = u.core k := fun k => by rw [State.core, hzrest, State.core]
  rw [ht, hstart]
  refine ⟨(hzcore _).trans hucore, fun k hk => (hzcore k).trans (hune k hk), ?ck, ?runBit, ?health, ?rest⟩
  case ck =>
    have hzck : (u.zeroFh core).ck core = u.ck core :=
      State.ck_of_rest (by rw [hzrest]) (State.zeroFh_reg_ne hcore fun i hi => (healthAddr_ne_level (by omega) (by omega) hcore).symm)
    rw [hzck, ← hck, hu]
    rfl
  case runBit =>
    rw [State.rf, State.zeroFh_reg_ne hcore fun i hi => seqCtrl_ne_healthAddr hcore hi, hu, State.setCore_reg]
    exact State.setSeqCtrl_run hcore true th
  case health => exact fun f c hf hc => State.zeroFh_reg_health hcore hf hc
  case rest =>
    rw [State.zeroFh_rest, hurest]

/-- The levels of a cell that starts (R395) leave the cores. -/
theorem LevelFrame.core (h : LevelFrame s t) (k : Nat) : t.core k = s.core k := by rw [State.core, h.rest, State.core]

/-- SEQ_RUN of a halted core with the module awake. -/
theorem State.seqRun_halted {core : Nat} {th : Bool} (hawake : s.awake = true) (hreach : s.reach who (seqAddr core) = St.ok)
    (hchk : s.runChk core = St.ok) (hhalted : (s.core core).halted = true) :
    exec (.seqRun who core th) s = .next ((if isCell core then (s.writeSeqCtrl core true th).relevel (core / 64)
      else s.writeSeqCtrl core true th).answer St.ok) := by
  have hnow : ServedNow s who = true := by simp [ServedNow, hawake]
  refine (State.byHost_eq hnow hreach).trans ?_
  rw [ctlSeqRun, State.ctlDo_ok hreach hchk, if_pos hhalted, State.rouse_of_awake hawake]

/-- A core that is no cell has no health page and no register of its control. -/
theorem State.writeSeqCtrl_start_engine {core : Nat} {th : Bool} (hcore : 128 ≤ core) (hhalted : (s.core core).halted = true) :
    s.writeSeqCtrl core true th =
      (s.modCore core (fun c => { c with trapHalt := th })).setCore core ((s.core core).started th (s.ck core)) := by
  have hcell : isCell core = false := by simp [isCell, hcore]
  have hck : (s.modCore core (fun c => { c with trapHalt := th })).ck core = s.ck core := rfl
  rw [State.writeSeqCtrl, State.setSeqCtrl_eq, hcell]
  simp only [Bool.false_eq_true, if_false, if_true, State.startCore, State.modCore_core_self, hhalted, State.zeroFh, hcell, hck]
  rfl

/-- A core that is halted keeps its PC and its commands (R86). -/
theorem State.haltCore_core (s : State) (k : Nat) :
    (s.haltCore k).core k = ({ s.core k with halted := true, stall := .none } : Core).settle (s.ck k) := State.modCore_core_self k _

theorem State.haltCore_rest (s : State) (k : Nat) : s.haltCore k = { s with cores := (s.haltCore k).cores } := rfl

/-- 8 aligned bytes of an instruction memory (R120). -/
theorem imemRange_ok {core off : Nat} (halign : off % 8 = 0) (hfits : off + 8 ≤ imemSize core) :
    chk (decide (off % 8 ≠ 0) || decide (imemSize core < off + 8)) St.bounds = St.ok := by
  have hfits' : ¬imemSize core < off + 8 := by omega
  simp [halign, hfits']

/-- Settles O34: a start or halt is one change of the core and of its control register; the health page and the levels that follow a
start are registers of their own. -/
theorem coreStartsAndWritesComplete : Obligations.CoreStartsAndWritesComplete := by
  unfold Obligations.CoreStartsAndWritesComplete
  refine ⟨?startCell, ?startEngine, ?noWard, ?halt, ?counter, ?imem, ?imemRunning⟩
  case startCell =>
    intro s who core th hawake hreach hcore hchk hhalted
    obtain ⟨u, hu⟩ : ∃ u, u = s.writeSeqCtrl core true th := ⟨_, rfl⟩
    obtain ⟨hstarted, hothers, hck, hrun, hhealth, hrest⟩ := State.writeSeqCtrl_start hcore hhalted hu
    have hcell : isCell core = true := by simp [isCell, hcore]
    have hlevels := State.relevel_frame u (core / 64)
    have hcycles := CyclesKept.relevel u (half := core / 64) (by omega)
    refine ⟨(u.relevel (core / 64)).answer St.ok, ?_, ?_⟩
    · rw [State.seqRun_halted hawake hreach hchk hhalted, if_pos hcell, hu]
    generalize hv : u.relevel (core / 64) = v at hlevels hcycles
    have hcore' : (v.answer St.ok).core core = (s.core core).started th (s.ck core) := (hlevels.core core).trans hstarted
    have hckv : (v.answer St.ok).ck core = s.ck core := (hcycles.ck core).trans hck
    rw [hcore', hckv]
    refine ⟨rfl, rfl, rfl, ?_, rfl, ?_, fun f c hf hc => ?_, fun k hk => (hlevels.core k).trans (hothers k hk), rfl, ?_⟩
    · simp [Core.started, Core.elapsedNow]
    · exact (congrArg (fun x => fld x _ _) (hcycles.regs _ fun k _ => seqCtrl_ne_level hcore)).trans hrun
    · exact (hcycles.regs _ fun k hk => healthAddr_ne_level hf hc hk).trans (hhealth f c hf hc)
    · rw [hlevels.rest, hrest]
      rfl
  case startEngine =>
    intro s who core th hawake hreach hcore hchk hhalted
    have hcell : isCell core = false := by simp [isCell, hcore]
    refine ⟨((s.modCore core (fun c => { c with trapHalt := th })).setCore core ((s.core core).started th (s.ck core))).answer St.ok,
      ?_, ?_⟩
    · rw [State.seqRun_halted hawake hreach hchk hhalted, hcell, State.writeSeqCtrl_start_engine hcore hhalted]
      rfl
    · rw [State.answer_core, State.setCore_core_self]
      exact ⟨rfl, rfl, rfl, rfl, rfl⟩
  case noWard =>
    intro s who core th hwho hreach hcore hward
    have hchk : s.runChk core = St.wardFault := by simp [State.runChk, hward, isCell, hcore, chk]
    refine ⟨s.answer St.wardFault, ?_, rfl, rfl⟩
    refine (State.byHost_eq (by simp [ServedNow, hwho]) hreach).trans ?_
    rw [ctlSeqRun, hchk, State.ctlDo_refused hwho hreach (by decide)]
  case halt =>
    intro s who core th hnow hreach hcore
    refine ⟨((s.setSeqCtrl core false th).haltCore core).answer St.ok, ?_, ?_⟩
    · refine (State.byHost_eq hnow hreach).trans ?_
      rw [ctlSeqHalt, State.ctlDo_ok hreach rfl]
      rfl
    obtain ⟨u, hu⟩ : ∃ u, u = s.setSeqCtrl core false th := ⟨_, rfl⟩
    have hucore : u.core core = { s.core core with trapHalt := th } := hu ▸ State.setSeqCtrl_core s core false th
    have hrun : u.rf (R.CELL_SEQ_CTRL core) F.CELL_SEQ_CTRL_RUN = 0 := hu ▸ State.setSeqCtrl_run hcore false th
    have hregs : ∀ a, a ≠ R.CELL_SEQ_CTRL core → u.reg a = s.reg a := fun a ha => hu ▸ State.setSeqCtrl_reg_ne false th ha
    have hothers : ∀ k, k ≠ core → u.core k = s.core k := fun k hk => hu ▸ State.setSeqCtrl_core_ne false th hk
    have hrest : u = { s with regs := u.regs, cores := u.cores } := hu ▸ State.setSeqCtrl_rest s core false th
    rw [← hu, State.answer_core, State.haltCore_core, Core.settle_halted, Core.settle_stall, Core.settle_pc, Core.settle_issued, hucore]
    refine ⟨rfl, rfl, rfl, rfl, hrun, hregs, fun k hk => ?_, rfl, ?_⟩
    · rw [State.answer_core, State.haltCore, State.modCore_core_ne _ hk, hothers k hk]
    · rw [State.haltCore_rest, hrest]
      rfl
  case counter =>
    intro s who core ctr val hnow hreach
    refine ⟨(s.setCtr core ctr val).answer St.ok, ?_, ?_, fun n hn => ?_, fun k hk => ?_, rfl, rfl⟩
    · refine (State.byHost_eq hnow hreach).trans ?_
      rw [ctlSyncCtrWrite, State.ctlDo_ok hreach rfl]
    · rw [State.ctr, State.answer_core, State.setCtr, State.modCore_core_self, mget_mset_self]
    · rw [State.ctr, State.answer_core, State.setCtr, State.modCore_core_self, mget_mset_ne _ _ _ _ hn, State.ctr]
    · rw [State.answer_core, State.setCtr, State.modCore_core_ne _ hk]
  case imem =>
    intro s who core off val hnow hreach halign hfits hhalted hlock
    refine ⟨(s.imemPut core off (leBytes 8 val.toNat)).answer St.ok, ?_, ?_, fun a ha => ?_, rfl, rfl⟩
    · refine (State.byHost_eq hnow hreach).trans ?_
      have hown : worst (chk (decide (off % 8 ≠ 0) || decide (imemSize core < off + 8)) St.bounds) (s.imemChk core) = St.ok := by
        rw [imemRange_ok halign hfits, State.imemChk, hhalted]
        rfl
      simp only [ctlImemWrite, hlock, Bool.and_false, Bool.false_eq_true, if_false]
      rw [State.ctlDo_ok hreach hown]
    · have hread := bytesAt_putBytes_self (leBytes 8 val.toNat) s.mem.imem (core * 65536 + off)
      rwa [length_leBytes] at hread
    · exact byteAt_putBytes_ne _ _ _ (by rwa [length_leBytes])
  case imemRunning =>
    intro s who core off val hwho hreach halign hfits hrunning hlock
    refine ⟨s.answer St.bounds, ?_, rfl, rfl⟩
    refine (State.byHost_eq (by simp [ServedNow, hwho]) hreach).trans ?_
    have hown : worst (chk (decide (off % 8 ≠ 0) || decide (imemSize core < off + 8)) St.bounds) (s.imemChk core) = St.bounds := by
      rw [imemRange_ok halign hfits, State.imemChk, hrunning]
      rfl
    simp only [ctlImemWrite, hlock, Bool.and_false, Bool.false_eq_true, if_false]
    rw [hown, State.ctlDo_refused hwho hreach (by decide)]

end Sys2Proof.Machine
end

section
/-! PROOFS. The standard instructions of a sequencer core (R82, R83): each is a write of its destination register and of the PC, and nothing
else. -/

namespace Sys2Proof.Machine

open Sys2Proof Sys2Proof.Safety

variable {s t : State} {k : Nat}

/-! ## The registers of a core -/

/-- A register reads as it was last written; x0 reads zero. -/
theorem Core.rx_wx_self (c : Core) (i : Nat) (v : W32) : (c.wx i v).rx i = if i = 0 then 0 else v := by
  unfold Core.rx Core.wx
  split
  · rfl
  · exact mget_mset_self _ _ _ _

theorem Core.rx_wx_ne (c : Core) {i j : Nat} (v : W32) (h : j ≠ i) : (c.wx i v).rx j = c.rx j := by
  unfold Core.rx Core.wx
  split
  · rfl
  · split
    · rfl
    · exact mget_mset_ne _ _ _ _ h

theorem Core.wx_eq (c : Core) (i : Nat) (v : W32) : c.wx i v = { c with x := (c.wx i v).x } := by
  unfold Core.wx
  split <;> rfl

theorem Core.rx_of_x {c d : Core} (h : c.x = d.x) (i : Nat) : c.rx i = d.rx i := by rw [Core.rx, h, Core.rx]

/-! ## Retiring -/

/-- A core whose instruction retires. -/
def Core.retireTo (c : Core) (pc : Nat) : Core := { c with pc := pc % 2 ^ 32, minstret := (c.minstret + 1) % 2 ^ 64 }

theorem State.retire_core (s : State) (k pc : Nat) : (s.retire k pc).core k = (s.core k).retireTo pc := State.modCore_core_self k _

theorem State.retire_core_ne {j : Nat} (pc : Nat) (h : j ≠ k) : (s.retire k pc).core j = s.core j := State.modCore_core_ne _ h

/-- An instruction that writes one register. -/
theorem State.finish_spec {rd pc : Nat} {v : W32} (ht : t = (s.modCore k (fun c => c.wx rd v)).retire k pc) :
    (t.core k).rx rd = (if rd = 0 then 0 else v) ∧ (∀ i, i ≠ rd → (t.core k).rx i = (s.core k).rx i) ∧
      t.core k = { s.core k with x := (t.core k).x, pc := pc % 2 ^ 32, minstret := ((s.core k).minstret + 1) % 2 ^ 64 } ∧
      (∀ j, j ≠ k → t.core j = s.core j) ∧ t = { s with cores := t.cores } := by
  have hcore : t.core k = ((s.core k).wx rd v).retireTo pc := by rw [ht, State.retire_core, State.modCore_core_self]
  rw [hcore]
  refine ⟨((s.core k).wx rd v).rx_of_x rfl rd |>.trans (Core.rx_wx_self _ _ _), fun i hi => ?_, ?_, fun j hj => ?_, by rw [ht]; rfl⟩
  · exact (Core.rx_of_x rfl i).trans (Core.rx_wx_ne _ _ hi)
  · rw [Core.wx_eq]
    rfl
  · rw [ht, State.retire_core_ne _ hj, State.modCore_core_ne _ hj]

/-- An instruction that writes none. -/
theorem State.retire_spec {pc : Nat} (ht : t = s.retire k pc) :
    t.core k = { s.core k with pc := pc % 2 ^ 32, minstret := ((s.core k).minstret + 1) % 2 ^ 64 } ∧
      (∀ j, j ≠ k → t.core j = s.core j) ∧ t = { s with cores := t.cores } := by
  subst ht
  exact ⟨State.retire_core _ _ _, fun j hj => State.retire_core_ne _ hj, rfl⟩

/-! ## A standard instruction of a ready core -/

/-- Whether an instruction is one of RV_INSTRUCTION's: EBREAK and the Kenaris instructions have commands of their own. -/
def RvIns.standard : RvIns → Bool
  | .ebreak => false
  | .kenaris _ _ _ _ _ => false
  | _ => true

theorem exec_rvInstruction {core len raw : Nat} {errs : List (Nat × Bool)} {i : RvIns} (hready : s.rvReady core = true)
    (hfetch : s.rvFetch core = .ok (i, len, raw)) (hi : i.standard = true) :
    exec (.rvInstruction core errs) s = .next (s.rvExec core i len raw errs) := by
  change execRvInstruction core errs s = _
  rw [execRvInstruction, if_pos hready, hfetch]
  cases i with
  | ebreak => cases hi
  | kenaris => cases hi
  | _ => rfl

/-- A load of bytes that no error touches (R83). -/
theorem State.rvLoad_data {a n off : Nat} (halign : a % n = 0) (hmap : coreMap k a = .data off) (hgood : s.csBad k off n = false) :
    s.rvLoad k a n [] = (s, .ok (leNat (s.csBytes k off n))) := by
  simp [State.rvLoad, halign, hmap, hgood]

/-- A store of bytes (R83). -/
theorem State.rvStore_data {a n off v : Nat} (halign : a % n = 0) (hmap : coreMap k a = .data off) :
    s.rvStore k a n v = .ok (s.csWrite k off (leBytes n v)) := by
  simp [State.rvStore, halign, hmap]

/-- Fewer bytes than a line cover none, so no poison goes. -/
theorem State.csWrite_cpoison_of_short {off : Nat} {bs : List Byte} (h : bs.length < 64) :
    (s.csWrite k off bs).mem.cpoison = s.mem.cpoison := by
  refine List.foldlRecOn (motive := fun p => p = s.mem.cpoison) _ _ rfl fun p hp line _ => ?_
  rw [if_neg (by omega), hp]

/-- What a CSR instruction that writes mscratch does: its destination takes the old value, then the CSR the new one. -/
theorem State.rvExec_csrrw {rd rs1 len raw : Nat} {errs : List (Nat × Bool)} {old : W32} (hold : s.csrRead k 0x340 = some old) :
    s.rvExec k (.csr 1 rd rs1 0x340) len raw errs =
      ((s.modCore k (fun c => c.wx rd old)).retire k ((s.core k).pc + len)).modCore k
        (fun c => { c with csr := mset 0 c.csr 0x340 ((s.core k).rx rs1) }) := by
  simp only [State.rvExec, hold]
  rfl

/-- Settles O37: each form is a write of its destination and of the PC; a store writes its bytes besides, CSRRW its CSR. -/
theorem rvInstructionsComplete : Obligations.RvInstructionsComplete := by
  unfold Obligations.RvInstructionsComplete
  refine ⟨?opImm, ?op, ?mul, ?lui, ?auipc, ?jal, ?jalr, ?branch, ?load, ?store, ?csr⟩
  case opImm =>
    intro s core len raw errs f3 rd rs1 alt imm hready hfetch
    exact ⟨_, exec_rvInstruction hready hfetch rfl, State.finish_spec rfl⟩
  case op =>
    intro s core len raw errs f3 rd rs1 rs2 alt hready hfetch
    exact ⟨_, exec_rvInstruction hready hfetch rfl, State.finish_spec rfl⟩
  case mul =>
    intro s core len raw errs f3 rd rs1 rs2 hready hfetch
    exact ⟨_, exec_rvInstruction hready hfetch rfl, State.finish_spec rfl⟩
  case lui =>
    intro s core len raw errs rd imm hready hfetch
    exact ⟨_, exec_rvInstruction hready hfetch rfl, State.finish_spec rfl⟩
  case auipc =>
    intro s core len raw errs rd imm hready hfetch
    exact ⟨_, exec_rvInstruction hready hfetch rfl, State.finish_spec rfl⟩
  case jal =>
    intro s core len raw errs rd off hready hfetch
    exact ⟨_, exec_rvInstruction hready hfetch rfl, State.finish_spec rfl⟩
  case jalr =>
    intro s core len raw errs rd rs1 imm hready hfetch
    exact ⟨_, exec_rvInstruction hready hfetch rfl, State.finish_spec rfl⟩
  case branch =>
    intro s core len raw errs f3 rs1 rs2 off hready hfetch
    exact ⟨_, exec_rvInstruction hready hfetch rfl, State.retire_spec rfl⟩
  case load =>
    intro s core len raw errs f3 rd rs1 off imm hready hfetch herrs halign hmap hgood
    subst herrs
    refine ⟨_, exec_rvInstruction hready hfetch rfl, State.finish_spec (pc := (s.core core).pc + len) ?_⟩
    simp only [State.rvExec, State.rvLoad_data halign hmap hgood]
  case store =>
    intro s core len raw errs f3 rs1 rs2 off imm hready hfetch halign hmap hf3
    obtain ⟨bs, hbs⟩ : ∃ bs, bs = leBytes (2 ^ f3) ((s.core core).rx rs2).toNat := ⟨_, rfl⟩
    have hlen : bs.length = 2 ^ f3 := by rw [hbs, length_leBytes]
    have hshort : bs.length < 64 := by
      have := Nat.pow_le_pow_right (n := 2) (by decide) hf3
      omega
    refine ⟨(s.csWrite core off bs).retire core ((s.core core).pc + len), ?_, ?_, fun a ha => ?_, ?_, fun j hj => ?_, ?_, rfl⟩
    · rw [exec_rvInstruction hready hfetch rfl]
      simp only [State.rvExec, State.rvStore_data halign hmap, ← hbs]
    · rw [← hbs, ← hlen]
      exact bytesAt_putBytes_self bs _ _
    · rw [← hlen] at ha
      exact byteAt_putBytes_ne bs _ _ ha
    · exact State.retire_core _ _ _
    · exact State.retire_core_ne _ hj
    · exact State.csWrite_cpoison_of_short hshort
  case csr =>
    intro s core len raw errs f3 rd rs1 a old hready hfetch hf3 ha hold
    subst hf3 ha
    obtain ⟨u, hu⟩ : ∃ u, u = (s.modCore core (fun c => c.wx rd old)).retire core ((s.core core).pc + len) := ⟨_, rfl⟩
    obtain ⟨hrd, hregs, _, hothers, hrest⟩ := State.finish_spec hu
    refine ⟨u.modCore core (fun c => { c with csr := mset 0 c.csr 0x340 ((s.core core).rx rs1) }), ?_, ?_, fun i hi => ?_, ?_,
      fun j hj => ?_, ?_⟩
    · rw [exec_rvInstruction hready hfetch rfl, State.rvExec_csrrw hold, hu]
    · rw [State.modCore_core_self, ← hrd]
      exact Core.rx_of_x rfl rd
    · rw [State.modCore_core_self, ← hregs i hi]
      exact Core.rx_of_x rfl i
    · rw [State.modCore_core_self, mget_mset_self]
    · rw [State.modCore_core_ne _ hj, hothers j hj]
    · rw [hrest]
      rfl

end Sys2Proof.Machine
end

section
/-! PROOFS. The Kenaris instructions of a sequencer core (R87, R88, R98, R112, R113): each acts on the core alone and retires, or leaves the core
stalled at its own PC. -/

namespace Sys2Proof.Machine

open Sys2Proof Sys2Proof.Safety

variable {s t : State} {k f3 rd rs1 rs2 len raw : Nat}

/-! ## Which instruction stands at the PC -/

/-- A ready core's Kenaris instruction runs with the values of its registers. -/
theorem State.kenaris_eq {f : W32 → W32 → Nat → State} (hready : s.rvReady k = true)
    (hfetch : s.rvFetch k = .ok (.kenaris f3 0 rd rs1 rs2, len, raw)) :
    s.kenaris k f3 f = f ((s.core k).rx rs1) ((s.core k).rx rs2) rd := by
  simp [State.kenaris, hready, hfetch]

/-- And the one that a stalled core stands at. -/
theorem State.stalledAt_eq {f7 : Nat} (hfetch : s.rvFetch k = .ok (.kenaris f3 f7 rd rs1 rs2, len, raw)) :
    s.stalledAt k f3 = some ((s.core k).rx rs1, (s.core k).rx rs2, rd) := by
  simp [State.stalledAt, hfetch]

/-! ## Its end -/

theorem State.kenarisEnd_core (v : W32) : (s.kenarisEnd k rd v).core k = ((s.core k).wx rd v).retireTo ((s.core k).pc + 4) := by
  rw [State.kenarisEnd, State.retire_core, State.modCore_core_self]

theorem State.kenarisEnd_core_ne {j : Nat} (v : W32) (h : j ≠ k) : (s.kenarisEnd k rd v).core j = s.core j := by
  rw [State.kenarisEnd, State.retire_core_ne _ h, State.modCore_core_ne _ h]

theorem State.kenarisEnd_rest (v : W32) : s.kenarisEnd k rd v = { s with cores := (s.kenarisEnd k rd v).cores } := rfl

/-- An instruction without a result. -/
theorem State.kenarisEnd_core_zero : (s.kenarisEnd k 0 0).core k = (s.core k).retireTo ((s.core k).pc + 4) := State.kenarisEnd_core 0

/-- An instruction that changes its core by `f`, and neither the PC nor the count of retired instructions, and has no result. -/
theorem State.modCore_kenarisEnd_spec {f : Core → Core} (hpc : (f (s.core k)).pc = (s.core k).pc)
    (ht : t = (s.modCore k f).kenarisEnd k 0 0) :
    t.core k = (f (s.core k)).retireTo ((s.core k).pc + 4) ∧ (∀ j, j ≠ k → t.core j = s.core j) ∧ t = { s with cores := t.cores } := by
  subst ht
  refine ⟨?_, fun j hj => ?_, rfl⟩
  · rw [State.kenarisEnd_core_zero, State.modCore_core_self, hpc]
  · rw [State.kenarisEnd_core_ne _ hj, State.modCore_core_ne _ hj]

/-! ## Staging words -/

/-- Words put in their places one after another. -/
theorem mget_foldl_mset (g : Nat → W32) (m : List (Nat × W32)) (n : Nat) {i : Nat} (hi : i < n) :
    mget 0 ((List.range n).foldl (fun m i => mset 0 m i (g i)) m) i = g i := by
  induction n with
  | zero => omega
  | succ n ih =>
    rw [List.range_succ, List.foldl_append, List.foldl_cons, List.foldl_nil]
    by_cases h : i = n
    · rw [h, mget_mset_self]
    · rw [mget_mset_ne _ _ _ _ h, ih (by omega)]

/-! ## A push (R88, R89, R98) -/

section
variable {c : Core} {n : Nat}

@[simp] theorem Core.setStream_pc (n : Nat) (x : Stream) : (c.setStream n x).pc = c.pc := by
  unfold Core.setStream
  split <;> rfl

@[simp] theorem Core.setStream_x (n : Nat) (x : Stream) : (c.setStream n x).x = c.x := by
  unfold Core.setStream
  split <;> rfl

@[simp] theorem Core.setStream_stall (n : Nat) (x : Stream) : (c.setStream n x).stall = c.stall := by
  unfold Core.setStream
  split <;> rfl

theorem Core.wx_retireTo_stream (rd pc : Nat) (v : W32) (n : Nat) : ((c.wx rd v).retireTo pc).stream n = c.stream n := by
  rw [Core.wx_eq]
  rfl

theorem Core.wx_retireTo_stall (rd pc : Nat) (v : W32) : ((c.wx rd v).retireTo pc).stall = c.stall := by
  rw [Core.wx_eq]
  rfl

end

/-- The staged command joins the stream and its number is the result; the PC moves. -/
theorem State.push_spec {n : Nat} (ht : t = s.push k n rd) :
    ((t.core k).stream n).queue =
        ((s.core k).stream n).queue ++ [{ cmd := cmdOfStaging (s.core k).staging, seq := ((s.core k).stream n).nextSeq }] ∧
      ((t.core k).stream n).nextSeq = ((s.core k).stream n).nextSeq + 1 ∧
      (t.core k).rx rd = (if rd = 0 then 0 else BitVec.ofNat 32 ((s.core k).stream n).nextSeq) ∧
      (∀ i, i ≠ rd → (t.core k).rx i = (s.core k).rx i) ∧ (t.core k).pc = ((s.core k).pc + 4) % 2 ^ 32 ∧
      (t.core k).stall = (s.core k).stall ∧ (∀ j, j ≠ k → t.core j = s.core j) ∧ t = { s with cores := t.cores } := by
  obtain ⟨x, hx⟩ : ∃ x : Stream, x = { (s.core k).stream n with
    queue := ((s.core k).stream n).queue ++ [{ cmd := cmdOfStaging (s.core k).staging, seq := ((s.core k).stream n).nextSeq }]
    nextSeq := ((s.core k).stream n).nextSeq + 1 } := ⟨_, rfl⟩
  have hpush : t = (s.setCore k ((s.core k).setStream n x)).kenarisEnd k rd (BitVec.ofNat 32 ((s.core k).stream n).nextSeq) := by
    rw [ht, hx]
    rfl
  have hcore : t.core k = (((s.core k).setStream n x).wx rd (BitVec.ofNat 32 ((s.core k).stream n).nextSeq)).retireTo
      ((s.core k).pc + 4) := by
    rw [hpush, State.kenarisEnd_core, State.setCore_core_self, Core.setStream_pc]
  rw [hcore, Core.wx_retireTo_stream, Core.wx_retireTo_stall, Core.setStream_stream_self, Core.setStream_stall]
  refine ⟨by rw [hx], by rw [hx], ?_, fun i hi => ?_, rfl, rfl, fun j hj => ?_, by rw [hpush]; rfl⟩
  · exact (Core.rx_of_x rfl rd).trans (Core.rx_wx_self _ _ _)
  · exact ((Core.rx_of_x rfl i).trans (Core.rx_wx_ne _ _ hi)).trans (Core.rx_of_x (Core.setStream_x _ _) i)
  · rw [hpush, State.kenarisEnd_core_ne _ hj, State.setCore_core_ne _ hj]

/-! ## The instructions -/

/-- TC.LDS of 32 bytes that no error touches. -/
theorem State.tcLds_eq {a : W32} (halign : a.toNat % 32 = 0) (hfits : a.toNat + 32 ≤ storeSize k) (hgood : s.csBad k a.toNat 32 = false)
    (hready : s.rvReady k = true) (hfetch : s.rvFetch k = .ok (.kenaris 1 0 rd rs1 rs2, len, raw)) (ha : a = (s.core k).rx rs1) :
    exec (.tcLds k []) s = .next ((s.modCore k (fun c => { c with
      staging := (List.range 8).foldl (fun m i => mset 0 m i (BitVec.ofNat 32 (leNat (slice (s.csBytes k a.toNat 32) (4 * i) 4)))) c.staging
      })).kenarisEnd k 0 0) := by
  subst ha
  have hfits' : ¬storeSize k < ((s.core k).rx rs1).toNat + 32 := by omega
  refine (congrArg Host.Outcome.next (State.kenaris_eq hready hfetch)).trans ?_
  simp [halign, hfits', hgood]

/-- Settles O38: each instruction is one change of its core, with the PC and the count of retired instructions where it does not stall. -/
theorem kenarisInstructionsComplete : Obligations.KenarisInstructionsComplete := by
  unfold Obligations.KenarisInstructionsComplete
  refine ⟨?stage, ?lds, ?pushs, ?pushsStall, ?unstall, ?done, ?read, ?wait, ?waitStall, ?release, ?add⟩
  case stage =>
    intro s core rd rs1 rs2 len raw hready hfetch
    obtain ⟨t, ht⟩ : ∃ t, t = (s.modCore core (fun c => { c with
      staging := mset 0 c.staging (((s.core core).rx rs2).toNat % 8) ((s.core core).rx rs1) })).kenarisEnd core 0 0 := ⟨_, rfl⟩
    obtain ⟨hcore, hothers, hrest⟩ := State.modCore_kenarisEnd_spec (by rfl) ht
    refine ⟨t, ht ▸ congrArg Host.Outcome.next (State.kenaris_eq hready hfetch), ?_, fun i hi => ?_, ?_, hothers, hrest⟩
    · rw [hcore]
      exact mget_mset_self _ _ _ _
    · rw [hcore]
      exact mget_mset_ne _ _ _ _ hi
    · rw [hcore]
      rfl
  case lds =>
    intro s core rd rs1 rs2 len raw hready hfetch halign hfits hgood
    obtain ⟨t, ht⟩ : ∃ t, t = (s.modCore core (fun c => { c with
      staging := (List.range 8).foldl (fun m i => mset 0 m i (BitVec.ofNat 32 (leNat (slice
        (s.csBytes core ((s.core core).rx rs1).toNat 32) (4 * i) 4)))) c.staging })).kenarisEnd core 0 0 := ⟨_, rfl⟩
    obtain ⟨hcore, hothers, hrest⟩ := State.modCore_kenarisEnd_spec (by rfl) ht
    refine ⟨t, ht ▸ State.tcLds_eq halign hfits hgood hready hfetch rfl, fun i hi => ?_, ?_, hothers, hrest⟩
    · rw [hcore]
      exact mget_foldl_mset (fun i => BitVec.ofNat 32 (leNat (slice (s.csBytes core ((s.core core).rx rs1).toNat 32) (4 * i) 4))) _ 8 hi
    · rw [hcore]
      rfl
  case pushs =>
    intro s core rd rs1 rs2 len raw hready hfetch hgood hroom
    obtain ⟨hqueue, hseq, hrd, hregs, hpc, _, hothers, hrest⟩ := State.push_spec (s := s) (k := core) (rd := rd)
      (n := ((s.core core).rx rs2).toNat % 2) rfl
    refine ⟨s.push core (((s.core core).rx rs2).toNat % 2) rd, ?_, hqueue, hseq, hrd, hregs, hpc, hothers, hrest⟩
    refine (congrArg Host.Outcome.next (State.kenaris_eq hready hfetch)).trans ?_
    simp [hgood, hroom]
  case pushsStall =>
    intro s core rd rs1 rs2 len raw hready hfetch hgood hroom
    refine ⟨s.modCore core (fun c => { c with stall := .pushs }), ?_, State.modCore_core_self _ _, fun k hk => State.modCore_core_ne _ hk, rfl⟩
    refine (congrArg Host.Outcome.next (State.kenaris_eq hready hfetch)).trans ?_
    simp [hgood, hroom]
  case unstall =>
    intro s core rd rs1 rs2 len raw f7 hclk hstall hfetch hroom
    obtain ⟨u, hu⟩ : ∃ u, u = s.modCore core (fun c => { c with stall := .none }) := ⟨_, rfl⟩
    have hucore : u.core core = { s.core core with stall := .none } := hu ▸ State.modCore_core_self _ _
    obtain ⟨hqueue, _, _, _, hpc, hnone, hothers, hrest⟩ := State.push_spec (s := u) (k := core) (rd := rd)
      (n := ((s.core core).rx rs2).toNat % 2) rfl
    refine ⟨u.push core (((s.core core).rx rs2).toNat % 2) rd, ?_, ?_, ?_, ?_, fun k hk => ?_, ?_⟩
    · refine congrArg Host.Outcome.next ?_
      simp [hclk, hstall, State.stalledAt_eq hfetch, hroom, hu]
    · rw [hnone, hucore]
    · rw [hpc, hucore]
    · rw [hqueue, hucore, List.length_append]
      rfl
    · rw [hothers k hk, hu, State.modCore_core_ne _ hk]
    · rw [hrest, hu]
      rfl
  case done =>
    intro s core rd rs1 rs2 len raw hready hfetch
    exact ⟨_, congrArg Host.Outcome.next (State.kenaris_eq hready hfetch), State.finish_spec rfl⟩
  case read =>
    intro s core rd rs1 rs2 len raw hready hfetch
    exact ⟨_, congrArg Host.Outcome.next (State.kenaris_eq hready hfetch), State.finish_spec rfl⟩
  case wait =>
    intro s core rd rs1 rs2 len raw hready hfetch hreached
    refine ⟨s.kenarisEnd core 0 0, ?_, State.kenarisEnd_core_zero, fun k hk => State.kenarisEnd_core_ne _ hk, rfl⟩
    refine (congrArg Host.Outcome.next (State.kenaris_eq hready hfetch)).trans ?_
    simp [hreached]
  case waitStall =>
    intro s core rd rs1 rs2 len raw hready hfetch hreached
    refine ⟨s.modCore core (fun c => { c with stall := .scWait }), ?_, State.modCore_core_self _ _, fun k hk => State.modCore_core_ne _ hk, rfl⟩
    refine (congrArg Host.Outcome.next (State.kenaris_eq hready hfetch)).trans ?_
    simp [hreached]
  case release =>
    intro s core rd rs1 rs2 len raw f7 hclk hstall hfetch hreached
    refine ⟨_, ?_, State.modCore_kenarisEnd_spec (f := fun c => { c with stall := .none }) rfl rfl⟩
    refine congrArg Host.Outcome.next ?_
    simp [hclk, hstall, State.stalledAt_eq hfetch, hreached]
  case add =>
    intro s core rd rs1 rs2 len raw hready hfetch
    obtain ⟨n, hn⟩ : ∃ n, n = ((s.core core).rx rs1).toNat % 64 := ⟨_, rfl⟩
    obtain ⟨v, hv⟩ : ∃ v, v = ((s.core core).rx rs2).toNat % 65536 := ⟨_, rfl⟩
    obtain ⟨t, ht⟩ : ∃ t, t = (s.addCtr core n v).kenarisEnd core 0 0 := ⟨_, rfl⟩
    obtain ⟨hcore, hothers, hrest⟩ := State.modCore_kenarisEnd_spec (by rfl) ht
    refine ⟨t, ?_, ?_, fun m hm => ?_, ?_, hothers, hrest⟩
    · rw [ht, hn, hv]
      exact congrArg Host.Outcome.next (State.kenaris_eq hready hfetch)
    · rw [← hn, ← hv, State.ctr, hcore]
      exact mget_mset_self _ _ _ _
    · rw [← hn] at hm
      rw [State.ctr, hcore]
      exact mget_mset_ne _ _ _ _ hm
    · rw [hcore]
      rfl

end Sys2Proof.Machine
end

section
/-! PROOFS. The exceptions of a sequencer core (R85, R87): what is recorded, and where the core goes on. -/

namespace Sys2Proof.Machine

open Sys2Proof Sys2Proof.Safety

variable {s t : State} {k cause : Nat} {tval : W32}

/-! ## What an exception records -/

/-- A core with an exception recorded: mepc, mcause, mtval and mstatus, and the fault register. -/
def Core.recorded (c : Core) (cause : Nat) (tval : W32) : Core :=
  { c with
    csr := mset 0 (mset 0 (mset 0 (mset 0 c.csr 0x341 (BitVec.ofNat 32 c.pc)) 0x342 (BitVec.ofNat 32 cause)) 0x343 tval) 0x300
      (if mget 0 c.csr 0x300 &&& 8 = 0 then 0 else 0x80)
    seqFault := BitVec.ofNat 64 (c.pc + cause * 2 ^ 32) }

theorem Core.recorded_mcause (c : Core) (cause : Nat) (tval : W32) :
    mget 0 (c.recorded cause tval).csr 0x342 = BitVec.ofNat 32 cause := by
  simp only [Core.recorded]
  rw [mget_mset_ne _ _ _ _ (by decide), mget_mset_ne _ _ _ _ (by decide), mget_mset_self]

theorem Core.recorded_mepc (c : Core) (cause : Nat) (tval : W32) :
    mget 0 (c.recorded cause tval).csr 0x341 = BitVec.ofNat 32 c.pc := by
  simp only [Core.recorded]
  rw [mget_mset_ne _ _ _ _ (by decide), mget_mset_ne _ _ _ _ (by decide), mget_mset_ne _ _ _ _ (by decide), mget_mset_self]

theorem Core.recorded_mtvec (c : Core) (cause : Nat) (tval : W32) :
    mget 0 (c.recorded cause tval).csr 0x305 = mget 0 c.csr 0x305 := by
  simp only [Core.recorded]
  rw [mget_mset_ne _ _ _ _ (by decide), mget_mset_ne _ _ _ _ (by decide), mget_mset_ne _ _ _ _ (by decide),
    mget_mset_ne _ _ _ _ (by decide)]

/-! ## Where the core goes on -/

theorem State.rvTrap_eq : s.rvTrap k cause tval = (s.setCore k
    (if (s.core k).trapHalt then ({ (s.core k).recorded cause tval with halted := true, trapped := true } : Core).settle (s.ck k)
      else { (s.core k).recorded cause tval with
        pc := (mget 0 ((s.core k).recorded cause tval).csr 0x305).toNat / 4 * 4 })).coreEvent k 0x01 0 0 0 := rfl

theorem State.coreEvent_core (k low strm st addr j : Nat) : (s.coreEvent k low strm st addr).core j = s.core j := by
  rw [State.coreEvent, State.core, State.raise_cores, State.core]

theorem State.coreEvent_rest (k low strm st addr : Nat) : s.coreEvent k low strm st addr =
    { s with regs := (s.coreEvent k low strm st addr).regs, evt := (s.coreEvent k low strm st addr).evt } := by
  conv_lhs => rw [State.coreEvent, State.raise_eq]
  rfl

/-- An exception changes its core alone, and raises its event. -/
theorem State.rvTrap_frame (ht : t = s.rvTrap k cause tval) :
    (∀ j, j ≠ k → t.core j = s.core j) ∧ t = { s with cores := t.cores, regs := t.regs, evt := t.evt } := by
  subst ht
  rw [State.rvTrap_eq]
  refine ⟨fun j hj => ?_, ?_⟩
  · rw [State.coreEvent_core, State.setCore_core_ne _ hj]
  · rw [State.coreEvent_rest]
    rfl

/-- An exception of a core that halts on traps. -/
theorem State.rvTrap_core_halt (hhalt : (s.core k).trapHalt = true) : (s.rvTrap k cause tval).core k =
    ({ (s.core k).recorded cause tval with halted := true, trapped := true } : Core).settle (s.ck k) := by
  rw [State.rvTrap_eq, State.coreEvent_core, State.setCore_core_self, if_pos hhalt]

/-- An exception of a core that vectors to mtvec. -/
theorem State.rvTrap_core_vector (hvector : (s.core k).trapHalt = false) : (s.rvTrap k cause tval).core k =
    { (s.core k).recorded cause tval with pc := (mget 0 (s.core k).csr 0x305).toNat / 4 * 4 } := by
  rw [State.rvTrap_eq, State.coreEvent_core, State.setCore_core_self, hvector, if_neg (by decide), Core.recorded_mtvec]

/-- Cause, PC and registers after an exception that halts. -/
theorem State.rvTrap_halt_spec (hhalt : (s.core k).trapHalt = true) (ht : t = s.rvTrap k cause tval) :
    mget 0 (t.core k).csr 0x342 = BitVec.ofNat 32 cause ∧ mget 0 (t.core k).csr 0x341 = BitVec.ofNat 32 (s.core k).pc ∧
      (t.core k).x = (s.core k).x ∧ (t.core k).halted = true ∧ (t.core k).trapped = true ∧ (t.core k).pc = (s.core k).pc ∧
      (t.core k).seqFault = BitVec.ofNat 64 ((s.core k).pc + cause * 2 ^ 32) := by
  rw [ht, State.rvTrap_core_halt hhalt, Core.settle_eq]
  exact ⟨Core.recorded_mcause _ _ _, Core.recorded_mepc _ _ _, rfl, rfl, rfl, rfl, rfl⟩

/-- Cause, PC and registers after an exception that vectors. -/
theorem State.rvTrap_vector_spec (hvector : (s.core k).trapHalt = false) (ht : t = s.rvTrap k cause tval) :
    mget 0 (t.core k).csr 0x342 = BitVec.ofNat 32 cause ∧ mget 0 (t.core k).csr 0x341 = BitVec.ofNat 32 (s.core k).pc ∧
      (t.core k).x = (s.core k).x ∧ (t.core k).halted = (s.core k).halted ∧
      (t.core k).pc = (mget 0 (s.core k).csr 0x305).toNat / 4 * 4 := by
  rw [ht, State.rvTrap_core_vector hvector]
  exact ⟨Core.recorded_mcause _ _ _, Core.recorded_mepc _ _ _, rfl, rfl, rfl⟩

/-! ## The instructions that trap -/

/-- A write of mstatus leaves the registers. -/
theorem State.csrWrite_mstatus_x (k : Nat) (v : W32) : ((s.csrWrite k 0x300 v).core k).x = (s.core k).x := by
  have hcore : (s.csrWrite k 0x300 v).core k = { s.core k with csr := mset 0 (s.core k).csr 0x300 (v &&& 0x88) } :=
    State.modCore_core_self k _
  rw [hcore]

/-- A Kenaris code that is illegal raises the illegal-instruction exception (R87). -/
theorem exec_kenarisIllegal {core f3 f7 rd rs1 rs2 len raw : Nat} (hready : s.rvReady core = true)
    (hfetch : s.rvFetch core = .ok (.kenaris f3 f7 rd rs1 rs2, len, raw)) (hbad : f3 = 7 ∨ f7 ≠ 0) :
    exec (.kenarisIllegal core) s = .next (s.rvTrap core 2 (BitVec.ofNat 32 raw)) := by
  change execKenarisIllegal core s = _
  simp [execKenarisIllegal, hready, hfetch, hbad]

/-- A fetch that fails raises its exception (R83). -/
theorem exec_rvInstruction_fault {core e : Nat} {errs : List (Nat × Bool)} (hready : s.rvReady core = true)
    (hfetch : s.rvFetch core = .error e) :
    exec (.rvInstruction core errs) s = .next (s.rvTrap core e (BitVec.ofNat 32 (s.core core).pc)) := by
  change execRvInstruction core errs s = _
  rw [execRvInstruction, if_pos hready, hfetch]

theorem State.not_halted_of_rvReady {core : Nat} (hready : s.rvReady core = true) : (s.core core).halted = false := by
  simp only [State.rvReady, Bool.and_eq_true, Bool.not_eq_true'] at hready
  exact hready.1.2

/-- Settles O39: an exception is one change of its core, by what it records, and one event. -/
theorem coreTrapsTaken : Obligations.CoreTrapsTaken := by
  unfold Obligations.CoreTrapsTaken
  refine ⟨?ebreak, ?illegalHalt, ?illegalVector, ?ecall, ?mret, ?oddPc⟩
  case ebreak =>
    intro s core len raw hready hfetch
    refine ⟨s.haltCore core, ?_, ?_, ?_, ?_, ?_, fun k hk => State.modCore_core_ne _ hk, rfl⟩
    · change execEbreak core s = _
      rw [execEbreak, if_pos hready, hfetch]
    all_goals rw [State.haltCore_core, Core.settle_eq]
  case illegalHalt =>
    intro s core f3 f7 rd rs1 rs2 len raw hready hfetch hbad hhalt
    obtain ⟨t, ht⟩ : ∃ t, t = s.rvTrap core 2 (BitVec.ofNat 32 raw) := ⟨_, rfl⟩
    obtain ⟨hothers, hrest⟩ := State.rvTrap_frame ht
    obtain ⟨hcause, hmepc, hx, hhalted, htrapped, hpc, hfault⟩ := State.rvTrap_halt_spec hhalt ht
    exact ⟨t, ht ▸ exec_kenarisIllegal hready hfetch hbad, hcause, hmepc, hx, hhalted, htrapped, hpc, hfault, hothers, hrest⟩
  case illegalVector =>
    intro s core f3 f7 rd rs1 rs2 len raw hready hfetch hbad hvector
    obtain ⟨t, ht⟩ : ∃ t, t = s.rvTrap core 2 (BitVec.ofNat 32 raw) := ⟨_, rfl⟩
    obtain ⟨hothers, hrest⟩ := State.rvTrap_frame ht
    obtain ⟨hcause, hmepc, hx, hhalted, hpc⟩ := State.rvTrap_vector_spec hvector ht
    exact ⟨t, ht ▸ exec_kenarisIllegal hready hfetch hbad, hcause, hmepc, hx, hhalted.trans (State.not_halted_of_rvReady hready), hpc,
      hothers, hrest⟩
  case ecall =>
    intro s core len raw hready hfetch hvector
    obtain ⟨t, ht⟩ : ∃ t, t = s.rvTrap core 11 0 := ⟨_, rfl⟩
    obtain ⟨hothers, hrest⟩ := State.rvTrap_frame ht
    obtain ⟨hcause, hmepc, hx, _, hpc⟩ := State.rvTrap_vector_spec hvector ht
    exact ⟨t, ht ▸ exec_rvInstruction hready hfetch rfl, hcause, hmepc, hx, hpc, hothers, hrest⟩
  case mret =>
    intro s core len raw hready hfetch
    refine ⟨_, exec_rvInstruction hready hfetch rfl, ?_, ?_, fun k hk => ?_, rfl⟩
    · exact congrArg Core.pc (State.retire_core _ _ _)
    · refine (congrArg Core.x (State.retire_core _ _ _)).trans ?_
      exact State.csrWrite_mstatus_x _ _
    · exact (State.retire_core_ne _ hk).trans (State.modCore_core_ne _ hk)
  case oddPc =>
    intro s core hready hodd hvector
    have hfetch : s.rvFetch core = .error 0 := by
      rw [State.rvFetch]
      exact if_pos hodd
    obtain ⟨t, ht⟩ : ∃ t, t = s.rvTrap core 0 (BitVec.ofNat 32 (s.core core).pc) := ⟨_, rfl⟩
    obtain ⟨hothers, hrest⟩ := State.rvTrap_frame ht
    obtain ⟨hcause, hmepc, hx, _, _⟩ := State.rvTrap_vector_spec hvector ht
    exact ⟨t, ht ▸ exec_rvInstruction_fault hready hfetch, hcause, hmepc, hx, hothers, hrest⟩

end Sys2Proof.Machine
end

section
/-! PROOFS. Issue and completion of commands, counters and the mesh (R41, R89 to R97, R104, R111 to R115). -/

namespace Sys2Proof.Machine

open Sys2Proof Sys2Proof.Safety

variable {s t : State} {k j n : Nat}

/-! ## A core's issued commands -/

section
variable {c : Core}

@[simp] theorem Core.withIssued_issued (now : Nat) (slope : Bool) (l : List Issued) : (c.withIssued now slope l).issued = l :=
  (c.withIssued_reissued now slope l).1

@[simp] theorem Core.withIssued_stream (now : Nat) (slope : Bool) (l : List Issued) (n : Nat) :
    (c.withIssued now slope l).stream n = c.stream n := by
  rw [(c.withIssued_reissued now slope l).2]
  rfl

@[simp] theorem Core.withIssued_nextOrd (now : Nat) (slope : Bool) (l : List Issued) :
    (c.withIssued now slope l).nextOrd = c.nextOrd := by
  rw [(c.withIssued_reissued now slope l).2]

@[simp] theorem Core.withIssued_ctrs (now : Nat) (slope : Bool) (l : List Issued) : (c.withIssued now slope l).ctrs = c.ctrs := by
  rw [(c.withIssued_reissued now slope l).2]

@[simp] theorem Core.setStream_ctrs (n : Nat) (x : Stream) : (c.setStream n x).ctrs = c.ctrs := by
  unfold Core.setStream
  split <;> rfl

@[simp] theorem Core.setStream_nextOrd (n : Nat) (x : Stream) : (c.setStream n x).nextOrd = c.nextOrd := by
  unfold Core.setStream
  split <;> rfl

@[simp] theorem Core.settle_ctrs (now : Nat) : (c.settle now).ctrs = c.ctrs := by rw [Core.settle_eq]

/-- A stream that is not flushing does not come back from it. -/
theorem Core.flushDone_of_ne (h : (c.stream n).state ≠ .flushing) : c.flushDone n = c := by
  unfold Core.flushDone
  rw [if_neg (by simp [h])]

end

theorem State.setIssued_core (l : List Issued) : (s.setIssued k l).core k = (s.core k).withIssued (s.ck k) s.slope l :=
  State.modCore_core_self k _

theorem State.setIssued_core_ne (l : List Issued) (h : j ≠ k) : (s.setIssued k l).core j = s.core j := State.modCore_core_ne _ h

/-- COMMAND_ISSUE (R91). -/
theorem State.issue_spec {strm : Nat} {e : Issued} {rest : List QCmd}
    (ht : t = (s.modCore k (fun c => { c.setStream strm { c.stream strm with queue := rest } with nextOrd := c.nextOrd + 1 })).setIssued k
      ((s.core k).issued ++ [e])) :
    ((t.core k).stream strm).queue = rest ∧ (t.core k).issued = (s.core k).issued ++ [e] ∧ (t.core k).nextOrd = (s.core k).nextOrd + 1 ∧
      (∀ j, j ≠ k → t.core j = s.core j) ∧ t = { s with cores := t.cores } := by
  have hcore : ∃ now slope, t.core k = ({ (s.core k).setStream strm { (s.core k).stream strm with queue := rest } with
      nextOrd := (s.core k).nextOrd + 1 } : Core).withIssued now slope ((s.core k).issued ++ [e]) :=
    ⟨_, _, by rw [ht, State.setIssued_core, State.modCore_core_self]⟩
  obtain ⟨now, slope, hcore⟩ := hcore
  rw [hcore, Core.withIssued_stream, Core.withIssued_issued, Core.withIssued_nextOrd]
  refine ⟨?_, rfl, rfl, fun j hj => ?_, by rw [ht]; rfl⟩
  · exact congrArg Stream.queue (Core.setStream_stream_self strm _)
  · rw [ht, State.setIssued_core_ne _ hj, State.modCore_core_ne _ hj]

/-! ## Completion (R96, R97, R113) -/

/-- The end of a completion. -/
def State.completed (s : State) (k n : Nat) : State := s.modCore k (fun c => (c.flushDone n).settle (s.ck k))

/-- A command of a running stream that ends OK. -/
theorem State.complete_ok {e : Issued} (hfind : (s.core k).issued.find? (fun x => x.ord = e.ord) = some e) (hsig : e.cmd.sigEn = true) :
    s.complete k e.ord St.ok =
      ((s.setIssued k ((s.core k).issued.filter (fun x => x.ord ≠ e.ord))).addCtr k e.cmd.sigCtr 1).completed k e.strm := by
  simp only [State.complete, hfind, State.sig, hsig]
  rfl

/-- A command of a running stream that fails. -/
theorem State.complete_bad {e : Issued} {st : Nat} (hfind : (s.core k).issued.find? (fun x => x.ord = e.ord) = some e)
    (hbad : badStatus st = true) (hrun : ((s.core k).stream e.strm).state = .run) : s.complete k e.ord st =
      (((s.setIssued k ((s.core k).issued.filter (fun x => x.ord ≠ e.ord))).modCore k (fun c => c.setStream e.strm
        { (s.core k).stream e.strm with state := .stopped, fault := faultWord e st })).coreEvent k 0x02 e.strm st 0).completed k e.strm := by
  have hunset : st ≠ St.unset := by
    rintro rfl
    simp [badStatus] at hbad
  have hstream : ((s.setIssued k ((s.core k).issued.filter (fun x => x.ord ≠ e.ord))).core k).stream e.strm = (s.core k).stream e.strm := by
    rw [State.setIssued_core, Core.withIssued_stream]
  simp only [State.complete, hfind, hunset, if_false, hbad, Bool.not_true, Bool.false_eq_true, hstream, hrun]
  rfl

theorem State.completed_core (hne : ((s.core k).stream n).state ≠ .flushing) : (s.completed k n).core k = (s.core k).settle (s.ck k) := by
  rw [State.completed, State.modCore_core_self, Core.flushDone_of_ne hne]

theorem State.completed_core_ne (h : j ≠ k) : (s.completed k n).core j = s.core j := State.modCore_core_ne _ h

theorem State.complete_ok_spec {e : Issued} (hfind : (s.core k).issued.find? (fun x => x.ord = e.ord) = some e)
    (hrun : ((s.core k).stream e.strm).state = .run) (hsig : e.cmd.sigEn = true) (ht : t = s.complete k e.ord St.ok) :
    (t.core k).issued = (s.core k).issued.filter (fun x => x.ord ≠ e.ord) ∧
      t.ctr k e.cmd.sigCtr = (s.ctr k e.cmd.sigCtr + 1) % 65536 ∧ ((t.core k).stream e.strm).state = .run ∧
      (∀ j, j ≠ k → t.core j = s.core j) ∧ t = { s with cores := t.cores } := by
  obtain ⟨u, hu⟩ : ∃ u, u = (s.setIssued k ((s.core k).issued.filter (fun x => x.ord ≠ e.ord))).addCtr k e.cmd.sigCtr 1 := ⟨_, rfl⟩
  obtain ⟨c, hc⟩ : ∃ c, c = (s.core k).withIssued (s.ck k) s.slope ((s.core k).issued.filter (fun x => x.ord ≠ e.ord)) := ⟨_, rfl⟩
  have hctr : (s.setIssued k ((s.core k).issued.filter (fun x => x.ord ≠ e.ord))).ctr k e.cmd.sigCtr = s.ctr k e.cmd.sigCtr := by
    rw [State.ctr, State.setIssued_core, Core.withIssued_ctrs, State.ctr]
  have hucore : u.core k = { c with ctrs := mset 0 c.ctrs e.cmd.sigCtr ((s.ctr k e.cmd.sigCtr + 1) % 65536) } := by
    rw [hu, State.addCtr, hctr, State.setCtr, State.modCore_core_self, State.setIssued_core, ← hc]
  have hstream : (u.core k).stream e.strm = (s.core k).stream e.strm := by
    rw [hucore]
    exact (congrArg (fun c => Core.stream c e.strm) hc).trans (Core.withIssued_stream _ _ _ _)
  have hcore : t.core k = (u.core k).settle (u.ck k) := by
    rw [ht, State.complete_ok hfind hsig, ← hu, State.completed_core (by rw [hstream, hrun]; decide)]
  refine ⟨?_, ?_, ?_, fun j hj => ?_, ?_⟩
  · rw [hcore, Core.settle_issued, hucore, hc, Core.withIssued_issued]
  · rw [State.ctr, hcore, Core.settle_ctrs, hucore, mget_mset_self]
  · rw [hcore, Core.settle_stream, hstream, hrun]
  · rw [ht, State.complete_ok hfind hsig, State.completed_core_ne hj, State.addCtr, State.setCtr, State.modCore_core_ne _ hj,
      State.setIssued_core_ne _ hj]
  · rw [ht, State.complete_ok hfind hsig]
    rfl

theorem State.complete_bad_spec {e : Issued} {st : Nat} (hfind : (s.core k).issued.find? (fun x => x.ord = e.ord) = some e)
    (hbad : badStatus st = true) (hrun : ((s.core k).stream e.strm).state = .run) (ht : t = s.complete k e.ord st) :
    (t.core k).issued = (s.core k).issued.filter (fun x => x.ord ≠ e.ord) ∧ ((t.core k).stream e.strm).state = .stopped ∧
      ((t.core k).stream e.strm).fault = faultWord e st ∧ (t.core k).ctrs = (s.core k).ctrs ∧ (∀ j, j ≠ k → t.core j = s.core j) ∧
      t = { s with cores := t.cores, regs := t.regs, evt := t.evt } := by
  obtain ⟨x, hx⟩ : ∃ x : Stream, x = { (s.core k).stream e.strm with state := .stopped, fault := faultWord e st } := ⟨_, rfl⟩
  obtain ⟨u, hu⟩ : ∃ u, u = (s.setIssued k ((s.core k).issued.filter (fun x => x.ord ≠ e.ord))).modCore k (fun c => c.setStream e.strm x) :=
    ⟨_, rfl⟩
  have hucore : u.core k = ((s.core k).withIssued (s.ck k) s.slope ((s.core k).issued.filter (fun x => x.ord ≠ e.ord))).setStream e.strm x := by
    rw [hu, State.modCore_core_self, State.setIssued_core]
  have heq : t = (u.coreEvent k 0x02 e.strm st 0).completed k e.strm := by
    rw [ht, State.complete_bad hfind hbad hrun, hu, hx]
  have hstream : ((u.coreEvent k 0x02 e.strm st 0).core k).stream e.strm = x := by
    rw [State.coreEvent_core, hucore, Core.setStream_stream_self]
  have hcore : t.core k = (u.core k).settle ((u.coreEvent k 0x02 e.strm st 0).ck k) := by
    rw [heq, State.completed_core (by rw [hstream, hx]; exact StreamState.noConfusion), State.coreEvent_core]
  refine ⟨?_, ?_, ?_, ?_, fun j hj => ?_, ?_⟩
  · rw [hcore, Core.settle_issued, hucore, Core.setStream_issued, Core.withIssued_issued]
  · rw [hcore, Core.settle_stream, hucore, Core.setStream_stream_self, hx]
  · rw [hcore, Core.settle_stream, hucore, Core.setStream_stream_self, hx]
  · rw [hcore, Core.settle_ctrs, hucore, Core.setStream_ctrs, Core.withIssued_ctrs]
  · rw [heq, State.completed_core_ne hj, State.coreEvent_core, hu, State.modCore_core_ne _ hj, State.setIssued_core_ne _ hj]
  · rw [heq, State.coreEvent_rest, hu]
    rfl

/-- Whether a command is executed to the end. -/
def Phase.isDone (p : Phase) : Bool :=
  match p with
  | .done _ => true
  | _ => false

/-- COMMAND_COMPLETE of the oldest executed command of a unit (R114). -/
theorem exec_commandComplete {core unit st : Nat} {e : Issued} (hclk : s.clk.on = true)
    (hfind : (s.core core).issued.find? (fun x => x.unit = unit && x.phase.isDone) = some e) (hphase : e.phase = .done st) :
    exec (.commandComplete core unit) s = .next (s.complete core e.ord st) := by
  change execCommandComplete core unit s = _
  unfold execCommandComplete
  rw [hclk]
  simp only [Bool.not_true, Bool.false_eq_true, if_false]
  split
  · next e' he' =>
    have heq : e' = e := Option.some.inj (he'.symm.trans hfind)
    rw [heq, hphase]
  · next he' => exact absurd (he'.symm.trans hfind) (by simp)

/-! ## SIGNAL, SEND and the mesh (R41, R114, R115) -/

/-- A counter that is added to. -/
theorem State.addCtr_ctr (k n v : Nat) : (s.addCtr k n v).ctr k n = (s.ctr k n + v) % 65536 := by
  rw [State.ctr, State.addCtr, State.setCtr, State.modCore_core_self, mget_mset_self]

theorem State.addCtr_issued (k n v j : Nat) : ((s.addCtr k n v).core j).issued = (s.core j).issued := by
  by_cases h : j = k
  · rw [h, State.addCtr, State.setCtr, State.modCore_core_self]
  · rw [State.addCtr, State.setCtr, State.modCore_core_ne _ h]

theorem State.addCtr_core_ne (n v : Nat) (h : j ≠ k) : (s.addCtr k n v).core j = s.core j := State.modCore_core_ne _ h

/-- The end of a command leaves the counters. -/
theorem State.setPhase_ctr (k ord : Nat) (p : Phase) (j n : Nat) : (s.setPhase k ord p).ctr j n = s.ctr j n := by
  by_cases h : j = k
  · rw [h, State.ctr, State.setPhase, State.setIssued_core, Core.withIssued_ctrs, State.ctr]
  · rw [State.ctr, State.setPhase, State.setIssued_core_ne _ h, State.ctr]

theorem State.setPhase_issued (k ord : Nat) (p : Phase) :
    ((s.setPhase k ord p).core k).issued = (s.core k).issued.map (fun e => if e.ord = ord then { e with phase := p } else e) :=
  (State.setPhase_ended s k ord p).1

theorem State.setPhase_core_ne (ord : Nat) (p : Phase) (h : j ≠ k) : (s.setPhase k ord p).core j = s.core j :=
  State.setIssued_core_ne _ h

/-- Bytes of lines that are not poisoned. -/
theorem State.badParts_nil {off n : Nat} (h : s.csBad k off n = false) : s.badParts k off n = [] := by
  refine List.filterMap_eq_nil_iff.2 fun l hl => ?_
  have hgood : s.csLineBad k l = false := by
    by_contra hbad
    have hany : s.csBad k off n = true := List.any_eq_true.2 ⟨l, hl, by simpa using hbad⟩
    rw [h] at hany
    exact Bool.noConfusion hany
  rw [hgood, if_neg (by decide)]

/-- A good range of the own store, as a side of a move. -/
theorem State.readSide_store {o : Operand} {i n : Nat} (hspace : o.space = 0) (h : s.csBad k (o.off + i) n = false) :
    s.readSide k o i n = { s := s, data := s.csBytes k (o.off + i) n, bad := [], status := St.ok } := by
  have hstore : storeOf k o = k := by rw [storeOf, hspace, if_neg (by decide)]
  simp [State.readSide, hspace, hstore, State.badParts_nil h]

/-- SIGNAL of one core that passes its checks (R115). -/
theorem exec_signal {core : Nat} {e : Issued} (hfront : s.front core 0x52 = some e) (hkind : fld e.cmd.w1 39 2 ≠ 3)
    (hone : bitAt e.cmd.w1.toNat 41 = false) (hfence : bitAt e.cmd.w1.toNat 42 = false)
    (hchk : s.targetChk core (targetCore (fld e.cmd.w1 39 2) (fld e.cmd.w1 32 7)) = St.ok) : exec (.signal core) s =
      .next ((s.addCtr (targetCore (fld e.cmd.w1 39 2) (fld e.cmd.w1 32 7)) (fld e.cmd.w1 16 6) (fld e.cmd.w1 0 16)).setPhase core e.ord
        (.done St.ok)) := by
  change execSignal core s = _
  simp [execSignal, hfront, State.signalChk, hkind, hone, hfence, hchk, State.signalTo]

/-- SIGNAL of a core of another ward. -/
theorem exec_signal_otherWard {core : Nat} {e : Issued} (hfront : s.front core 0x52 = some e) (hkind : fld e.cmd.w1 39 2 = 0)
    (hone : bitAt e.cmd.w1.toNat 41 = false) (habsent : s.absent (fld e.cmd.w1 32 7) = false)
    (hward : s.wardOfCore (fld e.cmd.w1 32 7) ≠ s.wardOfCore core) :
    exec (.signal core) s = .next (s.setPhase core e.ord (.done St.wardFault)) := by
  have hchk : s.signalChk core e.cmd.w1 = St.wardFault := by
    simp [State.signalChk, hkind, hone, targetCore, State.targetChk, habsent, hward, chk]
    rfl
  have hne : St.wardFault ≠ St.ok := by decide
  change execSignal core s = _
  simp only [execSignal, hfront, hchk, ne_eq, hne, not_false_eq_true, if_true]

/-- The mesh packet of a SEND from good bytes of the store. -/
def State.storePacket (s : State) (core : Nat) (e : Issued) : MeshPkt where
  src := core
  ord := e.ord
  dst := fld e.cmd.w2 22 7
  off := fld e.cmd.w2 0 22
  data := s.csBytes core (operand e.cmd.w1).off e.cmd.length
  bad := []
  ctr := if bitAt e.cmd.w2.toNat 35 then some (fld e.cmd.w2 29 6) else none
  status := St.ok

/-- SEND to a cell of good bytes of the store (R114). -/
theorem exec_send {core : Nat} {e : Issued} (hfront : s.front core 0x60 = some e) (hkind : e.cmd.dkind = 0)
    (hchk : s.sendChk core e.cmd = St.ok) (hspace : (operand e.cmd.w1).space = 0)
    (hgood : s.csBad core (operand e.cmd.w1).off e.cmd.length = false) : exec (.send core []) s =
      .next (({ s with mesh := s.mesh ++ [s.storePacket core e] } : State).setPhase core e.ord .flying) := by
  change execSend core [] s = _
  have hread := State.readSide_store (s := s) (i := 0) hspace hgood
  simp only [execSend, hfront, hkind, hchk, hspace, State.csScan_nil, hread, ne_eq, not_true_eq_false, if_false, if_true, Nat.add_zero]
  rfl

/-- A mesh packet whose destination takes it, good and with a counter, lands (R114). -/
theorem exec_meshPacketArrive {idx ctr : Nat} {p : MeshPkt} (hclk : s.clk.on = true) (hget : s.mesh[idx]? = some p)
    (htakes : s.takesMesh p.dst = true) (hbad : p.bad = []) (hctr : p.ctr = some ctr) : exec (.meshPacketArrive idx) s =
      .next (((({ s with mesh := s.mesh.eraseIdx idx } : State).csWrite p.dst p.off p.data).addCtr p.dst ctr 1).setPhase p.src p.ord
        (.done p.status)) := by
  have htakes' : ({ s with mesh := s.mesh.eraseIdx idx } : State).takesMesh p.dst = true := htakes
  change execMeshPacketArrive idx s = _
  simp only [execMeshPacketArrive, hclk, Bool.not_true, Bool.false_eq_true, if_false, hget, htakes', if_true, hbad, hctr, List.foldl_nil]

/-- One whose destination takes none is discarded (R41). -/
theorem exec_meshPacketArrive_discard {idx : Nat} {p : MeshPkt} (hclk : s.clk.on = true) (hget : s.mesh[idx]? = some p)
    (htakes : s.takesMesh p.dst = false) : exec (.meshPacketArrive idx) s =
      .next (({ s with mesh := s.mesh.eraseIdx idx } : State).setPhase p.src p.ord (.done St.aborted)) := by
  have htakes' : ({ s with mesh := s.mesh.eraseIdx idx } : State).takesMesh p.dst = false := htakes
  change execMeshPacketArrive idx s = _
  simp only [execMeshPacketArrive, hclk, Bool.not_true, Bool.false_eq_true, if_false, hget, htakes']

/-- Settles O44: issue and completion are changes of one core; SYNC, WAIT, SIGNAL and SEND change the phase of their command; a mesh packet
is one write, one count and one change of phase. -/
theorem streamsAndSignalsComplete : Obligations.StreamsAndSignalsComplete := by
  unfold Obligations.StreamsAndSignalsComplete
  refine ⟨?issue, ?complete, ?fail, ?sync, ?wait, ?signal, ?otherWard, ?send, ?arrive, ?discard⟩
  case issue =>
    intro s core strm q rest hissue hqueue
    refine ⟨_, ?_, State.issue_spec rfl⟩
    change execCommandIssue core strm s = _
    rw [execCommandIssue, if_pos hissue, hqueue]
    dsimp only
    rw [State.modCore_core_self, Core.setStream_issued]
  case complete =>
    intro s core e unit hclk hunit hfind hphase hrun hsig
    exact ⟨_, exec_commandComplete hclk hunit hphase, State.complete_ok_spec hfind hrun hsig rfl⟩
  case fail =>
    intro s core e unit st hclk hunit hfind hphase hbad hrun
    exact ⟨_, exec_commandComplete hclk hunit hphase, State.complete_bad_spec hfind hbad hrun rfl⟩
  case sync =>
    intro s core e hfront
    refine ⟨_, ?_, State.setPhase_ended s core e.ord _, rfl⟩
    change execSync core s = _
    simp [execSync, State.runFront, hfront]
  case wait =>
    intro s core e hfront
    refine ⟨_, ?_, State.setPhase_ended s core e.ord _, rfl⟩
    change execWait core s = _
    simp [execWait, State.runFront, hfront]
  case signal =>
    intro s core e hfront hkind hone hfence hchk
    refine ⟨_, exec_signal hfront hkind hone hfence hchk, ?_, ?_, fun k hcore htarget => ?_, rfl⟩
    · rw [State.setPhase_ctr, State.addCtr_ctr]
    · rw [State.setPhase_issued, State.addCtr_issued]
    · rw [State.setPhase_core_ne _ _ hcore, State.addCtr_core_ne _ _ htarget]
  case otherWard =>
    intro s core e hfront hkind hone habsent hward
    exact ⟨_, exec_signal_otherWard hfront hkind hone habsent hward, State.setPhase_ended _ _ _ _, rfl⟩
  case send =>
    intro s core e hfront hkind hchk hspace hgood
    refine ⟨_, exec_send hfront hkind hchk hspace hgood, ended_of_cores (State.setPhase_ended _ _ _ _) rfl, ?_, ?_, rfl⟩
    · exact congrArg (List.map _) (List.drop_left (l₁ := s.mesh))
    · exact List.take_left (l₁ := s.mesh)
  case arrive =>
    intro s idx ctr p hclk hget htakes hbad hctr hne
    obtain ⟨u, hu⟩ : ∃ u, u = ({ s with mesh := s.mesh.eraseIdx idx } : State).csWrite p.dst p.off p.data := ⟨_, rfl⟩
    have hcores : ∀ k, u.core k = s.core k := fun k => by rw [hu]; rfl
    refine ⟨(u.addCtr p.dst ctr 1).setPhase p.src p.ord (.done p.status), ?_, ?_, ?_, ?_, ?_, ?_, ?_⟩
    · rw [exec_meshPacketArrive hclk hget htakes hbad hctr, hu]
    · rw [hu]
      exact State.csBytes_csWrite_self (s := { s with mesh := s.mesh.eraseIdx idx }) p.dst p.off p.data
    · rw [hu]
      exact State.csWrite_storeFrame (s := { s with mesh := s.mesh.eraseIdx idx }) p.dst p.off p.data
    · rw [State.setPhase_ctr, State.addCtr_ctr, State.ctr, hcores, State.ctr]
    · rw [State.setPhase_issued, State.addCtr_issued, hcores]
    · rw [hu]
      rfl
    · rw [hu]
      rfl
  case discard =>
    intro s idx p hclk hget htakes
    exact ⟨_, exec_meshPacketArrive_discard hclk hget htakes, ended_of_cores (State.setPhase_ended _ _ _ _) rfl, rfl, rfl⟩

end Sys2Proof.Machine
end

section
/-! PROOFS. What an access to the unified range or to the host window leaves: the cores' data memories, instruction memories and
accumulators. One lemma for each operation of the memory system, in the order of Machine/Hbm.lean and Machine/Tier.lean. -/

namespace Sys2Proof.Machine

open Sys2Proof Sys2Proof.Safety

variable {s : State}

/-- The memories beside the cores: data memory with its poison, instruction memory, accumulators. -/
structure CoreMem where
  cstore : List Host.Cell
  cpoison : NatSet
  imem : List Host.Cell
  acc : List (Nat × W32)

/-- Those of a state. -/
def State.coreMem (s : State) : CoreMem := ⟨s.mem.cstore, s.mem.cpoison, s.mem.imem, s.mem.acc⟩

theorem coreMem_foldl {β : Type} {f : State → β → State} {l : List β} (hf : ∀ t x, (f t x).coreMem = t.coreMem) :
    (l.foldl f s).coreMem = s.coreMem :=
  List.foldlRecOn (motive := fun t : State => t.coreMem = s.coreMem) _ _ rfl fun t ht x _ => (hf t x).trans ht

theorem coreMem_foldl_fst {β γ : Type} {f : State × γ → β → State × γ} {l : List β} {a : State × γ}
    (hf : ∀ a x, (f a x).1.coreMem = a.1.coreMem) : (l.foldl f a).1.coreMem = a.1.coreMem :=
  List.foldlRecOn (motive := fun b : State × γ => b.1.coreMem = a.1.coreMem) _ _ rfl fun b hb x _ => (hf b x).trans hb

theorem State.drew_coreMem (n : Nat) : (s.drew n).coreMem = s.coreMem := rfl

theorem State.raise_coreMem (e : EvRec) : (s.raise e).coreMem = s.coreMem := by rw [State.coreMem, State.raise_mem, State.coreMem]

theorem State.setF_coreMem (a : Nat) (f : Fld) (x : Nat) : (s.setF a f x).coreMem = s.coreMem := rfl

theorem State.bump_coreMem (a : Nat) (f : Fld) (n : Nat) : (s.bump a f n).coreMem = s.coreMem := rfl

theorem State.setBucket_coreMem (st w d : Nat) : (s.setBucket st w d).coreMem = s.coreMem := rfl

theorem State.spendN_coreMem (st owner n : Nat) : (s.spendN st owner n).coreMem = s.coreMem := by
  unfold State.spendN
  grind [State.setBucket_coreMem]

theorem State.charge_coreMem (line n : Nat) : (s.charge line n).coreMem = s.coreMem := by
  unfold State.charge
  grind [State.spendN_coreMem]

theorem State.moverCycles_coreMem (h lines : Nat) : (s.moverCycles h lines).coreMem = s.coreMem := rfl

theorem State.tookFinds_coreMem (n : Nat) : (s.tookFinds n).coreMem = s.coreMem := rfl

theorem State.tookEcc_coreMem : s.tookEcc.coreMem = s.coreMem := rfl

theorem State.noDue_coreMem (v : Nat) : (s.noDue v).coreMem = s.coreMem := rfl

theorem State.setBlk_coreMem (b : Nat) (x : Option Blk) : (s.setBlk b x).coreMem = s.coreMem := rfl

theorem State.startFill_coreMem (h w b cls tag way : Nat) : (s.startFill h w b cls tag way).coreMem = s.coreMem := rfl

theorem State.startDue_coreMem (v : Nat) : (s.startDue v).coreMem = s.coreMem := by
  unfold State.startDue
  grind [State.startFill_coreMem, State.noDue_coreMem]

theorem State.memEvent_coreMem (st low cls off status : Nat) : (s.memEvent st low cls off status).coreMem = s.coreMem :=
  State.raise_coreMem _

theorem State.memErr_coreMem (st off status : Nat) : (s.memErr st off status).coreMem = s.coreMem := by
  unfold State.memErr
  grind [State.setF_coreMem]

theorem State.setMark_coreMem (line : Nat) (m : Mark) : (s.setMark line m).coreMem = s.coreMem := rfl

theorem State.dramPoison_coreMem (line : Nat) : (s.dramPoison line).coreMem = s.coreMem := rfl

theorem State.dramRead_coreMem (line : Nat) (f : LineFault) : (s.dramRead line f).1.coreMem = s.coreMem := by
  unfold State.dramRead
  dsimp only
  split
  · rfl
  · split
    · rw [State.memEvent_coreMem, State.memErr_coreMem, State.bump_coreMem, State.dramPoison_coreMem]
    · rw [apply_ite Prod.fst, apply_ite State.coreMem]
      dsimp only
      rw [State.memEvent_coreMem, State.memErr_coreMem, State.bump_coreMem, State.setMark_coreMem, apply_ite State.coreMem,
        State.memEvent_coreMem, State.bump_coreMem, ite_self, ite_self]

theorem State.homeView_coreMem (line : Nat) (f : LineFault) : (s.homeView line f).1.coreMem = s.coreMem := by
  unfold State.homeView
  grind [State.dramRead_coreMem]

theorem State.setRegion_coreMem (key : Nat) (r : Region) : (s.setRegion key r).coreMem = s.coreMem := rfl

theorem State.finishClearing_coreMem (key : Nat) : (s.finishClearing key).coreMem = s.coreMem := rfl

theorem State.enterClearing_coreMem (key rate : Nat) (urgent : Bool) : (s.enterClearing key rate urgent).coreMem = s.coreMem := rfl

theorem State.ensureSet_coreMem (key : Nat) : (s.ensureSet key).coreMem = s.coreMem := by
  unfold State.ensureSet
  grind [State.finishClearing_coreMem, State.enterClearing_coreMem]

theorem State.setStack_coreMem (st : Nat) (x : Stack) : (s.setStack st x).coreMem = s.coreMem := rfl

theorem State.startUrgent_coreMem (key : Nat) : (s.startUrgent key).coreMem = s.coreMem := by
  unfold State.startUrgent
  grind [State.setStack_coreMem, State.enterClearing_coreMem]

theorem State.frameUnset_coreMem (line : Nat) (force : Bool) : (s.frameUnset line force).1.coreMem = s.coreMem := by
  unfold State.frameUnset
  grind [State.ensureSet_coreMem, State.startUrgent_coreMem]

theorem State.markDirty_coreMem (b : Nat) (x : Blk) (line : Nat) : (s.markDirty b x line).coreMem = s.coreMem := rfl

theorem State.setFmark_coreMem (line : Nat) (m : Mark) : (s.setFmark line m).coreMem = s.coreMem := rfl

theorem State.framePut_coreMem (line : Nat) (data : List Byte) : (s.framePut line data).coreMem = s.coreMem := rfl

theorem State.frameRead_coreMem (b : Nat) (x : Blk) (line : Nat) (ecc : Ecc) : (s.frameRead b x line ecc).1.coreMem = s.coreMem := by
  unfold State.frameRead
  grind [State.raise_coreMem, State.setFmark_coreMem, State.framePut_coreMem, State.dramRead_coreMem, State.homeView_coreMem,
    State.charge_coreMem, State.tookFinds_coreMem]

theorem State.frameWrite_coreMem (b : Nat) (x : Blk) (line off : Nat) (data : List Byte) (ecc : Ecc) : (s.frameWrite b x line off data
    ecc).1.coreMem = s.coreMem := by
  unfold State.frameWrite
  grind [State.markDirty_coreMem, State.setFmark_coreMem, State.framePut_coreMem, State.frameRead_coreMem]

theorem State.serveFrame_coreMem (b : Nat) (x : Blk) (line off : Nat) (data : List Byte) (ecc : Ecc) (force : Bool) : (s.serveFrame b x
    line off data ecc force).s.coreMem = s.coreMem := by
  unfold State.serveFrame
  grind [State.frameWrite_coreMem, State.frameUnset_coreMem]

theorem State.fencedRes_coreMem (acc : LineAccess) : (s.fencedRes acc).s.coreMem = s.coreMem := by
  unfold State.fencedRes
  grind [State.drew_coreMem]

theorem State.cdrop_coreMem (line : Nat) : (s.cdrop line).coreMem = s.coreMem := rfl

theorem State.cput_coreMem (line : Nat) (c : CLine) : (s.cput line c).coreMem = s.coreMem := rfl

theorem State.dramPut_coreMem (line : Nat) (data : List Byte) : (s.dramPut line data).coreMem = s.coreMem := rfl

theorem State.cwriteHome_coreMem (line : Nat) (c : CLine) : (s.cwriteHome line c).coreMem = s.coreMem := by
  unfold State.cwriteHome
  grind [State.dramPoison_coreMem, State.dramPut_coreMem]

theorem State.croom_coreMem (st : Nat) : (s.croom st).coreMem = s.coreMem := by
  unfold State.croom
  grind [State.cdrop_coreMem, State.cwriteHome_coreMem]

theorem State.homeRead_coreMem (line hint : Nat) (last : Bool) (f : LineFault) : (s.homeRead line hint last f).1.coreMem = s.coreMem := by
  unfold State.homeRead
  grind [State.cdrop_coreMem, State.cput_coreMem, State.dramRead_coreMem, State.croom_coreMem]

theorem State.homePut_coreMem (line hint : Nat) (data : List Byte) : (s.homePut line hint data).coreMem = s.coreMem := by
  unfold State.homePut
  grind [State.cput_coreMem, State.croom_coreMem, State.dramPut_coreMem]

theorem State.homePoison_coreMem (line : Nat) : (s.homePoison line).coreMem = s.coreMem := by
  unfold State.homePoison
  grind [State.cput_coreMem, State.dramPoison_coreMem]

theorem State.homeMerge_coreMem (line : Nat) (f : LineFault) : (s.homeMerge line f).1.coreMem = s.coreMem := by
  unfold State.homeMerge
  grind [State.dramRead_coreMem, State.homePoison_coreMem]

theorem State.homeWrite_coreMem (line hint off : Nat) (data : List Byte) (f : LineFault) : (s.homeWrite line hint off data f).1.coreMem =
    s.coreMem := by
  unfold State.homeWrite
  grind [State.homePut_coreMem, State.homeMerge_coreMem]

theorem State.homeMso_coreMem (line off : Nat) (op : W64) (operand : List Byte) (f : LineFault) : (s.homeMso line off op operand
    f).1.coreMem = s.coreMem := by
  unfold State.homeMso
  grind [State.homeMerge_coreMem, State.homePut_coreMem]

theorem State.serveHome_coreMem (line : Nat) (acc : LineAccess) (f : LineFault) (force : Bool) : (s.serveHome line acc f force).s.coreMem
    = s.coreMem := by
  unfold State.serveHome
  grind [State.homeRead_coreMem, State.startUrgent_coreMem, State.homeWrite_coreMem, State.ensureSet_coreMem, State.homeMso_coreMem,
    State.charge_coreMem]

theorem State.backInvalidate_coreMem (line : Nat) : (s.backInvalidate line).coreMem = s.coreMem := by
  unfold State.backInvalidate
  split <;> rfl

theorem State.takeDirty_coreMem (b : Nat) (x : Blk) (e : Nat × CLine) : (s.takeDirty b x e).coreMem = s.coreMem := by
  unfold State.takeDirty
  grind [State.setBlk_coreMem, State.cdrop_coreMem, State.cput_coreMem, State.setFmark_coreMem, State.framePut_coreMem]

theorem State.copyFrame_coreMem (b : Nat) : (s.copyFrame b).coreMem = s.coreMem := by
  have hreads := coreMem_foldl (s := s) (l := s.fillReads b) (f := fun s e => (s.dramRead e.1 e.2).1) fun _ _ => State.dramRead_coreMem _ _
  exact hreads

theorem State.fillCopy_coreMem (b : Nat) (x : Blk) : (s.fillCopy b x).coreMem = s.coreMem := by
  unfold State.fillCopy
  split
  · rfl
  · rfl
  · exact (coreMem_foldl fun _ _ => State.takeDirty_coreMem _ _ _).trans (State.copyFrame_coreMem _)

theorem State.finishFill_coreMem (b : Nat) : (s.finishFill b).coreMem = s.coreMem := by
  unfold State.finishFill
  grind [State.fillCopy_coreMem, State.setBlk_coreMem, State.charge_coreMem, State.moverCycles_coreMem]

theorem State.releaseBlk_coreMem (b : Nat) : (s.releaseBlk b).coreMem = s.coreMem := rfl

theorem State.writeBack_coreMem (b : Nat) (x : Blk) : (s.writeBack b x).coreMem = s.coreMem := by
  unfold State.writeBack
  grind [State.ensureSet_coreMem, State.homePoison_coreMem, State.homePut_coreMem, coreMem_foldl, coreMem_foldl_fst,
    State.charge_coreMem, State.moverCycles_coreMem]

theorem State.finishDrain_coreMem (b : Nat) : (s.finishDrain b).coreMem = s.coreMem := by
  unfold State.finishDrain
  grind [State.releaseBlk_coreMem, State.writeBack_coreMem, State.setBlk_coreMem, State.startDue_coreMem]

theorem State.settle_coreMem (b : Nat) : (s.settle b).coreMem = s.coreMem := by
  unfold State.settle
  grind [State.finishFill_coreMem, State.finishDrain_coreMem]

theorem State.evict_coreMem (b : Nat) : (s.evict b).coreMem = s.coreMem := by
  unfold State.evict
  grind [State.releaseBlk_coreMem, State.setBlk_coreMem]

theorem State.serve_coreMem (line : Nat) (acc : LineAccess) (ecc : Ecc) (f : LineFault) (force : Bool) : (s.serve line acc ecc f
    force).s.coreMem = s.coreMem := by
  unfold State.serve
  grind [State.fencedRes_coreMem, State.serveHome_coreMem, State.backInvalidate_coreMem, State.homeRead_coreMem, State.frameRead_coreMem,
    State.frameWrite_coreMem, State.settle_coreMem, State.finishDrain_coreMem, State.evict_coreMem, State.releaseBlk_coreMem,
    State.homeView_coreMem, State.charge_coreMem, State.serveFrame_coreMem]

theorem State.serveAs_coreMem (w : WaitAcc) (force : Bool) : (s.serveAs w force).s.coreMem = s.coreMem := by
  unfold State.serveAs
  grind [State.serve_coreMem, State.serveHome_coreMem, State.fencedRes_coreMem]

theorem State.passWaiting_coreMem (line : Nat) : (s.passWaiting line).coreMem = s.coreMem :=
  coreMem_foldl fun _ _ => State.serveAs_coreMem _ _

theorem State.serveNext_coreMem (line : Nat) (acc : LineAccess) : (s.serveNext line acc).s.coreMem = s.coreMem := by
  unfold State.serveNext
  grind [State.serve_coreMem, State.passWaiting_coreMem, State.tookEcc_coreMem, State.tookFinds_coreMem]

theorem State.uRead_coreMem (a n hint : Nat) (last : Bool) : (s.uRead a n hint last).1.coreMem = s.coreMem := by
  unfold State.uRead
  grind [State.serve_coreMem, coreMem_foldl, coreMem_foldl_fst, State.serveNext_coreMem]

theorem State.uWrite_coreMem (a hint : Nat) (data : List Byte) : (s.uWrite a hint data).1.coreMem = s.coreMem := by
  unfold State.uWrite
  grind [State.serve_coreMem, coreMem_foldl, coreMem_foldl_fst, State.serveNext_coreMem]

theorem State.dput_coreMem (line : Nat) (c : CLine) : (s.dput line c).coreMem = s.coreMem := by
  have hroom : ∀ t : State, t.coreMem = s.coreMem →
      ({ t with mem := { t.mem with dcache := minsert line { c with stamp := t.mem.stamp } t.mem.dcache, stamp := t.mem.stamp + 1 } } :
        State).coreMem = s.coreMem := fun _ h => h
  refine hroom _ ?_
  split
  · rfl
  · split
    · dsimp only
      split <;> rfl
    · rfl

theorem State.hWrite_coreMem (a : Nat) (data : List Byte) : (s.hWrite a data).1.coreMem = s.coreMem := by
  unfold State.hWrite
  grind [State.dput_coreMem, coreMem_foldl, coreMem_foldl_fst]

theorem State.devWrite_coreMem (a hint : Nat) (data : List Byte) : (s.devWrite a hint data).1.coreMem = s.coreMem := by
  unfold State.devWrite
  grind [State.uWrite_coreMem, State.hWrite_coreMem]

theorem State.hRead_coreMem (a n : Nat) : (s.hRead a n).1.coreMem = s.coreMem := by
  unfold State.hRead
  grind [State.dput_coreMem, coreMem_foldl, coreMem_foldl_fst]

theorem State.devRead_coreMem (a n hint : Nat) (last : Bool) : (s.devRead a n hint last).1.coreMem = s.coreMem := by
  unfold State.devRead
  grind [State.uRead_coreMem, State.hRead_coreMem]

theorem State.uPoison_coreMem (line : Nat) : (s.uPoison line).coreMem = s.coreMem := by
  unfold State.uPoison
  grind [State.passWaiting_coreMem, State.settle_coreMem, State.markDirty_coreMem, State.setFmark_coreMem, State.framePut_coreMem,
    State.homePoison_coreMem, State.ensureSet_coreMem]

end Sys2Proof.Machine
end

section
/-! PROOFS. LOAD, STORE and GATHER (R107, R119, R211): what a move may change, and the exact copy of one line. -/

namespace Sys2Proof.Machine

open Sys2Proof Sys2Proof.Safety

variable {r s t : State} {k : Nat}

/-! ## What a move may change -/

/-- From `r` to `s` memory changed as accesses change it (Laws/MemFrame.lean), and of the memories beside the cores what `g` tells did not. -/
structure Moved {α : Type} (g : CoreMem → α) (r s : State) : Prop where
  mem : MemFrame r s
  core : g s.coreMem = g r.coreMem

section
variable {α : Type} {g : CoreMem → α}

theorem Moved.refl (g : CoreMem → α) (s : State) : Moved g s s := ⟨MemFrame.refl s, rfl⟩

/-- An access leaves all of them. -/
theorem Moved.access (h : Moved g r s) (hmem : MemFrame r t) (hcore : t.coreMem = s.coreMem) : Moved g r t :=
  ⟨hmem, (congrArg g hcore).trans h.core⟩

theorem Moved.devRead (h : Moved g r s) (a n hint : Nat) (last : Bool) : Moved g r (s.devRead a n hint last).1 :=
  h.access (State.devRead_mframe _ _ _ _ _ h.mem) (State.devRead_coreMem _ _ _ _)

theorem Moved.devWrite (h : Moved g r s) (a hint : Nat) (data : List Byte) : Moved g r (s.devWrite a hint data).1 :=
  h.access (State.devWrite_mframe _ _ _ _ h.mem) (State.devWrite_coreMem _ _ _)

theorem Moved.readSide (h : Moved g r s) (k : Nat) (o : Operand) (i n : Nat) : Moved g r (s.readSide k o i n).s := by
  unfold State.readSide
  split
  · exact h.devRead _ _ _ _
  · exact h

/-- What an access to device memory writes; a line of the host window that would receive poison is left out (R548). -/
theorem Moved.devPut (h : Moved g r s) (a hint : Nat) (data : List Byte) (bad : List (Nat × Nat)) :
    Moved g r (s.devPut a hint data bad).1 := by
  unfold State.devPut
  split
  · exact h.devWrite _ _ _
  · refine List.foldlRecOn (motive := fun x : State × Nat => Moved g r x.1) _ _ h fun x hx line _ => ?_
    split
    · exact hx
    · exact hx.access (State.hWrite_mframe _ _ _ hx.mem) (State.hWrite_coreMem _ _)

theorem Moved.uPoison (h : Moved g r s) (line : Nat) : Moved g r (s.uPoison line) :=
  h.access (State.uPoison_mframe _ _ h.mem) (State.uPoison_coreMem _)

/-- A destination in device memory. -/
theorem Moved.writeSide_device (h : Moved g r s) (k : Nat) {o : Operand} (ho : o.space = 2) (i : Nat) (data : List Byte)
    (bad : List (Nat × Nat)) : Moved g r (s.writeSide k o i data bad).1 := by
  rw [State.writeSide, if_pos ho]
  exact h.devPut _ _ _ _

theorem Moved.poisonSide_device (h : Moved g r s) (k : Nat) {o : Operand} (ho : o.space = 2) (bad : List (Nat × Nat)) :
    Moved g r (s.poisonSide k o bad) := by
  unfold State.poisonSide
  rw [if_pos ho]
  split
  · exact h
  · exact List.foldlRecOn (motive := Moved g r) _ _ h fun _ hx line _ => hx.uPoison line

end

/-- Instruction memories and accumulators, which no move writes. -/
def CoreMem.others (m : CoreMem) : List Host.Cell × List (Nat × W32) := (m.imem, m.acc)

/-- A destination in a core's store or in device memory. -/
theorem Moved.writeSide (h : Moved CoreMem.others r s) (k : Nat) (o : Operand) (i : Nat) (data : List Byte) (bad : List (Nat × Nat)) :
    Moved CoreMem.others r (s.writeSide k o i data bad).1 := by
  by_cases ho : o.space = 2
  · exact h.writeSide_device k ho i data bad
  · rw [State.writeSide, if_neg ho]
    exact ⟨h.mem.set_mem _, h.core⟩

theorem Moved.poisonSide (h : Moved CoreMem.others r s) (k : Nat) (o : Operand) (bad : List (Nat × Nat)) :
    Moved CoreMem.others r (s.poisonSide k o bad) := by
  by_cases ho : o.space = 2
  · exact h.poisonSide_device k ho bad
  · unfold State.poisonSide
    rw [if_neg ho]
    exact List.foldlRecOn (motive := Moved CoreMem.others r) _ _ h fun _ hx _ _ => ⟨hx.mem.set_mem _, hx.core⟩

/-! ## Copies -/

/-- What reads of the source, writes of the destination and poisoned lines keep, a copy of rows keeps. -/
theorem State.copyRows_of {P : State → Prop} {src dst : Operand} (h : P s) (hread : ∀ t i n, P t → P (t.readSide k src i n).s)
    (hwrite : ∀ t i data bad, P t → P (t.writeSide k dst i data bad).1) (hpoison : ∀ t bad, P t → P (t.poisonSide k dst bad))
    (rows sstep dstep rb : Nat) : P (s.copyRows k src dst rows sstep dstep rb).1 := by
  unfold State.copyRows
  refine hpoison _ _ (List.foldlRecOn (motive := fun x : (State × Nat) × Nat => P x.1.1) _ _ ?reads fun x hx sp _ => hwrite _ _ _ _ hx)
  exact List.foldlRecOn (motive := fun x : ReadRes => P x.s) _ _ h fun x hx sp _ => hread _ _ _ hx

/-- A status that is OK came of statuses that are. -/
theorem statusRank_ok_le_worst {a b : Nat} :
    statusRank St.ok ≤ statusRank (worst a b) ↔ statusRank St.ok ≤ statusRank a ∧ statusRank St.ok ≤ statusRank b := by
  rw [statusRank_worst, le_min_iff]

/-- An operand that passes its checks lies in a space that the command may name. -/
theorem State.space_mem_of_moveChk {spaces : List Nat} {o : Operand} {rows step rb : Nat}
    (h : statusRank St.ok ≤ statusRank (s.moveChk k spaces o rows step rb)) : o.space ∈ spaces := by
  have hspace := (statusRank_ok_le_worst.1 h).1
  by_contra hmem
  have hbad : (!spaces.contains o.space) = true := by simp [hmem]
  rw [hbad] at hspace
  exact absurd hspace (by decide)

/-- What the reads and writes of a LOAD or STORE keep, the command keeps: one that fails a check does nothing. -/
theorem State.loadStore_of {P : State → Prop} {srcs dsts : List Nat} {e : Issued} (h : P s)
    (hread : ∀ t i n, P t → P (t.readSide k (operand e.cmd.w1) i n).s)
    (hwrite : (operand e.cmd.w2).space ∈ dsts → ∀ t i data bad, P t → P (t.writeSide k (operand e.cmd.w2) i data bad).1)
    (hpoison : (operand e.cmd.w2).space ∈ dsts → ∀ t bad, P t → P (t.poisonSide k (operand e.cmd.w2) bad)) :
    P (s.loadStore k [] srcs dsts e).1 := by
  unfold State.loadStore
  simp only [State.csScan_nil, ite_self]
  split
  · exact h
  · next hst =>
    have hdst : (operand e.cmd.w2).space ∈ dsts :=
      State.space_mem_of_moveChk (statusRank_ok_le_worst.1 (statusRank_ok_le_worst.1 (congrArg statusRank (not_not.1 hst)).ge).2).2
    exact State.copyRows_of h hread (hwrite hdst) (hpoison hdst) _ _ _ _

theorem Moved.gather (e : Issued) : Moved CoreMem.others s (s.gather k e).1 := by
  have hlist := (Moved.refl CoreMem.others s).devRead (operand e.cmd.w1).addr (8 * (shape e.cmd.w3).rows) (operand e.cmd.w1).hint
    (operand e.cmd.w1).last
  unfold State.gather
  dsimp only
  split
  · exact Moved.refl _ s
  split
  · exact hlist
  split
  · exact hlist
  refine Moved.writeSide ?_ _ _ _ _ _
  exact List.foldlRecOn (motive := fun x : State × List Byte × Nat => Moved CoreMem.others s x.1) _ _ hlist fun x hx a _ =>
    hx.devRead _ _ _ _

/-! ## The command at the front -/

theorem State.runFront_eq {op : Nat} {f : Issued → State × Nat} {e : Issued} (hfront : s.front k op = some e) :
    s.runFront k op f = (f e).1.setPhase k e.ord (.done (f e).2) := by
  simp [State.runFront, hfront]

/-- A move ends with its status; of the state it changes memory, what an access to memory counts, and its phase. -/
theorem Moved.ended {α : Type} {g : CoreMem → α} (h : Moved g s t) (k ord : Nat) (p : Phase) :
    Ended s (t.setPhase k ord p) k ord p ∧ g (t.setPhase k ord p).coreMem = g s.coreMem ∧
      t.setPhase k ord p = { s with
        mem := (t.setPhase k ord p).mem, regs := (t.setPhase k ord p).regs, cores := (t.setPhase k ord p).cores
        evt := (t.setPhase k ord p).evt, free := (t.setPhase k ord p).free } :=
  ⟨ended_of_cores (State.setPhase_ended _ _ _ _) h.mem.cores, h.core,
    congrArg (fun u : State => { u with cores := (t.setPhase k ord p).cores }) h.mem.eq⟩

/-! ## One line of 64 bytes -/

/-- Shape, format and checks of a move of one row of 64 bytes. -/
structure LineMove (s : State) (k : Nat) (srcs dsts : List Nat) (e : Issued) : Prop where
  fmt : fmtReserved e.cmd.fmtA = false
  rows : (shape e.cmd.w3).rows = 1
  srcPitch : (shape e.cmd.w3).srcPitch = 0
  dstPitch : (shape e.cmd.w3).dstPitch = 0
  bytes : rowBytes e.cmd.fmtA (shape e.cmd.w3).elems = 64
  whole : wholeBytes e.cmd.fmtA (shape e.cmd.w3).elems = true
  elems : 0 < (shape e.cmd.w3).elems
  src : s.moveChk k srcs (operand e.cmd.w1) 1 64 64 = St.ok
  dst : s.moveChk k dsts (operand e.cmd.w2) 1 64 64 = St.ok

theorem State.poisonSide_nil (o : Operand) : s.poisonSide k o [] = s := by
  unfold State.poisonSide
  split
  · split <;> rfl
  · rfl

/-- All of a list. -/
theorem slice_all {α : Type} {l : List α} {n : Nat} (h : l.length = n) : slice l 0 n = l := by
  rw [slice, List.drop_zero, ← h, List.take_length]

/-- A copy of one good line. -/
theorem State.copyRows_line {src dst : Operand} {data : List Byte} (hlen : data.length = 64)
    (hread : s.readSide k src 0 64 = { s := s, data := data, bad := [], status := St.ok })
    (hwrite : s.writeSide k dst 0 data [] = (t, St.ok)) : s.copyRows k src dst 1 64 64 64 = (t, St.ok) := by
  have hslice : slice data 0 64 = data := slice_all hlen
  have hspans : spansOf 1 64 64 = [(0, 64)] := rfl
  simp [State.copyRows, hspans, hread, badSpans, cutParts, hslice, hwrite, State.poisonSide_nil]

theorem LineMove.loadStore_eq {srcs dsts : List Nat} {e : Issued} (h : LineMove s k srcs dsts e) {data : List Byte}
    (hlen : data.length = 64) (hread : s.readSide k (operand e.cmd.w1) 0 64 = { s := s, data := data, bad := [], status := St.ok })
    (hwrite : s.writeSide k (operand e.cmd.w2) 0 data [] = (t, St.ok)) : s.loadStore k [] srcs dsts e = (t, St.ok) := by
  have hshape : shapeBad (shape e.cmd.w3) = false := by
    have hne := h.elems.ne'
    simp [shapeBad, h.rows, hne]
  simp [State.loadStore, rowStep, h.fmt, h.rows, h.srcPitch, h.dstPitch, h.bytes, h.whole, hshape, h.src, h.dst,
    State.copyRows_line hlen hread hwrite]

/-- The own store as the destination of a move. -/
theorem State.writeSide_store {o : Operand} (ho : o.space = 0) (data : List Byte) (bad : List (Nat × Nat)) :
    s.writeSide k o 0 data bad = (s.csWrite k o.off data, St.ok) := by
  have hstore : storeOf k o = k := by rw [storeOf, ho, if_neg (by decide)]
  rw [State.writeSide, if_neg (by rw [ho]; decide), hstore, Nat.add_zero]

/-! ## A line of the layer store -/

/-- A line of device memory that is good to access: unified, aligned, unfenced, in a block that holds its frame, and with nothing that
waits for it. -/
structure FrameLine (s : State) (a : Nat) (x : Blk) : Prop where
  space : spaceOf a = .unified
  align : a % 64 = 0
  fenced : s.fenced a = false
  blk : s.blk (a / 65536) = some x
  st : x.st = .clean ∨ x.st = .dirty
  waiting : s.mem.waiting.any (fun w => w.line = a / 64) = false

/-- Nothing waits for the line. -/
theorem State.passWaiting_eq {line : Nat} (h : s.mem.waiting.any (fun w => w.line = line) = false) : s.passWaiting line = s := by
  have hne : ∀ w ∈ s.mem.waiting, w.line ≠ line := by simpa using h
  have hnone : s.mem.waiting.filter (fun w => w.line = line) = [] := List.filter_eq_nil_iff.2 fun w hw => by simpa using hne w hw
  have hall : s.mem.waiting.filter (fun w => w.line ≠ line) = s.mem.waiting := List.filter_eq_self.2 fun w hw => by simpa using hne w hw
  rw [State.passWaiting, hnone, hall]
  rfl

/-- 64 aligned bytes are one line. -/
theorem linesOf_line {a : Nat} (h : a % 64 = 0) : linesOf a 64 = [a / 64] := by
  have hn : (a + 64 - 1) / 64 - a / 64 + 1 = 1 := by omega
  rw [linesOf, if_neg (by decide), hn]
  rfl

/-- The block of an address's line. -/
theorem lineBlock (a : Nat) : a / 64 / 1024 = a / 65536 := Nat.div_div_eq_div_mul a 64 1024

section
variable {a : Nat} {x : Blk} (h : FrameLine s a x)
include h

theorem FrameLine.line_mul : a / 64 * 64 = a := by
  have := h.align
  omega

/-- A read of the line (R187). -/
theorem FrameLine.serveNext_read (hint : Nat) (last : Bool) (hecc : s.mem.eccs = []) (hmark : s.fmark (a / 64) = .ok) :
    s.serveNext (a / 64) (.read hint last) = { s := s, data := s.frameLine (a / 64), status := St.ok } := by
  have hst : x.st ≠ .filling := by
    rcases h.st with e | e <;> simp [e]
  have hframe : s.inFrame (a / 64) = true := by simp [State.inFrame, lineBlock, h.blk, hst]
  have htook : s.tookEcc = s := by
    have htail : s.mem.eccs.tail = s.mem.eccs := by rw [hecc, List.tail_nil]
    rw [State.tookEcc, htail]
  have hnext : s.nextEcc = .ok := by rw [State.nextEcc, hecc, List.headD_nil]
  simp [State.serveNext, State.passWaiting_eq h.waiting, readsLine, hframe, htook, hnext, State.serve, State.opBad, h.line_mul, h.fenced,
    lineBlock, h.blk, State.frameRead, hmark, Mark.status]

/-- A write of the whole line (R192). -/
theorem FrameLine.serveNext_write (hint : Nat) {data : List Byte} (hlen : data.length = 64) (hmark : s.fmark (a / 64) ≠ .unset) :
    s.serveNext (a / 64) (.write hint 0 data) = { s := s.frameWritten x (a / 64) data, status := St.ok } := by
  have hwrite : s.serveFrame (a / 65536) x (a / 64) 0 data .ok true = { s := s.frameWritten x (a / 64) data, status := St.ok } := by
    simp [State.serveFrame, State.frameUnset, hmark, State.frameWrite, hlen, State.frameWritten, lineBlock]
  rcases h.st with e | e <;>
    simp [State.serveNext, State.passWaiting_eq h.waiting, readsLine, hlen, State.serve, State.opBad, h.line_mul, h.fenced, lineBlock,
      h.blk, e, hwrite]

/-- The line as the source of a move. -/
theorem FrameLine.readSide {o : Operand} (ho : o.space = 2) (ha : o.addr = a) (hecc : s.mem.eccs = [])
    (hmark : s.fmark (a / 64) = .ok) :
    s.readSide k o 0 64 = { s := s, data := s.frameLine (a / 64), bad := [], status := St.ok } := by
  subst ha
  have hlen : (s.frameLine (o.addr / 64)).length = 64 := length_bytesAt _ _ _
  have hslice : slice (padTo 64 (s.frameLine (o.addr / 64))) 0 64 = s.frameLine (o.addr / 64) := by
    rw [padTo_of_length hlen, slice_all hlen]
  simp [State.readSide, ho, State.devRead, h.space, State.uRead, linesOf_line h.align, h.line_mul, h.serveNext_read _ _ hecc hmark, hslice]

/-- The line as the destination of a move. -/
theorem FrameLine.writeSide {o : Operand} (ho : o.space = 2) (ha : o.addr = a) {data : List Byte} (hlen : data.length = 64)
    (hmark : s.fmark (a / 64) ≠ .unset) : s.writeSide k o 0 data [] = (s.frameWritten x (a / 64) data, St.ok) := by
  subst ha
  have hslice : slice data 0 64 = data := slice_all hlen
  simp [State.writeSide, ho, State.devPut, State.devWrite, h.space, State.uWrite, hlen, linesOf_line h.align, h.line_mul, hslice,
    h.serveNext_write _ hlen hmark]

end

/-! ## The statement -/

theorem exec_load {core : Nat} {e : Issued} (hfront : s.front core 0x10 = some e) : exec (.load core []) s =
    .next ((s.loadStore core [] (if isCell core then [2] else [0, 2, 3]) (if isCell core then [0] else [0, 2, 3]) e).1.setPhase core e.ord
      (.done (s.loadStore core [] (if isCell core then [2] else [0, 2, 3]) (if isCell core then [0] else [0, 2, 3]) e).2)) :=
  congrArg Host.Outcome.next (State.runFront_eq hfront)

theorem exec_store {core : Nat} {e : Issued} (hfront : s.front core 0x11 = some e) : exec (.store core []) s =
    .next ((s.loadStore core [] (if isCell core then [0] else [0, 2, 3]) (if isCell core then [2] else [0, 2, 3]) e).1.setPhase core e.ord
      (.done (s.loadStore core [] (if isCell core then [0] else [0, 2, 3]) (if isCell core then [2] else [0, 2, 3]) e).2)) :=
  congrArg Host.Outcome.next (State.runFront_eq hfront)

/-- A move whose whole effect is one row written to a core's store. -/
theorem State.csWrite_move_spec {off ord : Nat} {data : List Byte} (hlen : data.length = 64)
    (ht : t = (s.csWrite k off data).setPhase k ord (.done St.ok)) :
    Ended s t k ord (.done St.ok) ∧ t.csBytes k off 64 = data ∧ StoreFrame s t k [(off, 64)] ∧
      t = { s with mem := { s.mem with cstore := t.mem.cstore, cpoison := t.mem.cpoison }, cores := t.cores } := by
  subst ht
  refine ⟨ended_of_cores (State.setPhase_ended _ _ _ _) rfl, ?_, storeFrame_setPhase ?_ _ _ _, rfl⟩
  · have hread := State.csBytes_csWrite_self (s := s) k off data
    rwa [hlen] at hread
  · have hframe := State.csWrite_storeFrame (s := s) k off data
    rwa [hlen] at hframe

/-- A line of a frame that is written whole. -/
theorem State.frameWritten_spec {line : Nat} {x : Blk} {data : List Byte} (hlen : data.length = 64) (hst : x.st = .clean ∨ x.st = .dirty)
    (ht : t = s.frameWritten x line data) :
    t.frameLine line = data ∧ t.fmark line = .ok ∧ (∀ l, l ≠ line → t.frameLine l = s.frameLine l) ∧
      (t.blk (line / 1024)).map (·.st) = some .dirty ∧
      t = { s with mem := { s.mem with frame := t.mem.frame, fmarks := t.mem.fmarks, blocks := t.mem.blocks } } := by
  subst ht
  exact ⟨State.frameWritten_frameLine_self x hlen, State.frameWritten_fmark_self x data,
    fun l hl => State.frameWritten_frameLine_ne x data hl, State.frameWritten_blk data hst, rfl⟩

/-- Settles O43: a move is reads of its source and writes of its destination, each an access that leaves the memories beside the cores or
one write to a core's store; for one resident line both are exact. -/
theorem movesComplete : Obligations.MovesComplete := by
  unfold Obligations.MovesComplete
  refine ⟨?load, ?store, ?loadLine, ?storeLine, ?engine, ?gather⟩
  case load =>
    intro s core e hcore hfront
    have hcell : isCell core = true := by simp [isCell, hcore]
    have hmoved : Moved CoreMem.others s (s.loadStore core [] [2] [0] e).1 :=
      State.loadStore_of (Moved.refl _ s) (fun _ _ _ h => h.readSide _ _ _ _) (fun _ _ _ _ _ h => h.writeSide _ _ _ _ _)
        fun _ _ _ h => h.poisonSide _ _ _
    obtain ⟨hended, hothers, hrest⟩ := hmoved.ended core e.ord (.done (s.loadStore core [] [2] [0] e).2)
    refine ⟨_, ?_, hended, congrArg Prod.snd hothers, congrArg Prod.fst hothers, hrest⟩
    rw [exec_load hfront, hcell, if_pos rfl, if_pos rfl]
  case store =>
    intro s core e hcore hfront
    have hcell : isCell core = true := by simp [isCell, hcore]
    have hmoved : Moved id s (s.loadStore core [] [0] [2] e).1 :=
      State.loadStore_of (Moved.refl _ s) (fun _ _ _ h => h.readSide _ _ _ _)
        (fun hdst _ _ _ _ h => h.writeSide_device _ (List.mem_singleton.1 hdst) _ _ _)
        fun hdst _ _ h => h.poisonSide_device _ (List.mem_singleton.1 hdst) _
    obtain ⟨hended, hcoreMem, hrest⟩ := hmoved.ended core e.ord (.done (s.loadStore core [] [0] [2] e).2)
    refine ⟨_, ?_, hended, congrArg CoreMem.cstore hcoreMem, congrArg CoreMem.cpoison hcoreMem, congrArg CoreMem.acc hcoreMem, hrest⟩
    rw [exec_store hfront, hcell, if_pos rfl, if_pos rfl]
  case loadLine =>
    intro s core e x hcore hfront hfmt hrows hsp hdp hbytes hwhole helems hsrc hdst hspace halign hfenced hblk hst hmark hecc hwaiting
    have hcell : isCell core = true := by simp [isCell, hcore]
    have hmove : LineMove s core [2] [0] e := ⟨hfmt, hrows, hsp, hdp, hbytes, hwhole, helems, hsrc, hdst⟩
    have hframe : FrameLine s (operand e.cmd.w1).addr x := ⟨hspace, halign, hfenced, hblk, hst, hwaiting⟩
    have h2 : (operand e.cmd.w1).space = 2 := List.mem_singleton.1 (State.space_mem_of_moveChk (congrArg statusRank hsrc).ge)
    have h0 : (operand e.cmd.w2).space = 0 := List.mem_singleton.1 (State.space_mem_of_moveChk (congrArg statusRank hdst).ge)
    have hlen : (s.frameLine ((operand e.cmd.w1).addr / 64)).length = 64 := length_bytesAt _ _ _
    have heff := hmove.loadStore_eq hlen (hframe.readSide h2 rfl hecc hmark) (State.writeSide_store h0 _ _)
    refine ⟨_, ?_, State.csWrite_move_spec hlen rfl⟩
    rw [exec_load hfront, hcell, if_pos rfl, if_pos rfl, heff]
  case storeLine =>
    intro s core e x hcore hfront hfmt hrows hsp hdp hbytes hwhole helems hsrc hdst hspace halign hfenced hblk hst hgood hmark hwaiting
    have hcell : isCell core = true := by simp [isCell, hcore]
    have hmove : LineMove s core [0] [2] e := ⟨hfmt, hrows, hsp, hdp, hbytes, hwhole, helems, hsrc, hdst⟩
    have hframe : FrameLine s (operand e.cmd.w2).addr x := ⟨hspace, halign, hfenced, hblk, hst, hwaiting⟩
    have h0 : (operand e.cmd.w1).space = 0 := List.mem_singleton.1 (State.space_mem_of_moveChk (congrArg statusRank hsrc).ge)
    have h2 : (operand e.cmd.w2).space = 2 := List.mem_singleton.1 (State.space_mem_of_moveChk (congrArg statusRank hdst).ge)
    have hlen : (s.csBytes core (operand e.cmd.w1).off 64).length = 64 := length_bytesAt _ _ _
    have heff := hmove.loadStore_eq hlen (State.readSide_store h0 hgood) (hframe.writeSide h2 rfl hlen hmark)
    obtain ⟨u, hu⟩ : ∃ u, u = s.frameWritten x ((operand e.cmd.w2).addr / 64) (s.csBytes core (operand e.cmd.w1).off 64) := ⟨_, rfl⟩
    obtain ⟨hwritten, hmarked, hothers, hdirty, hrest⟩ := State.frameWritten_spec hlen hst hu
    have hhbm : u.mem.hbm = s.mem.hbm := by rw [hrest]
    refine ⟨u.setPhase core e.ord (.done St.ok), ?_, ended_of_cores (State.setPhase_ended _ _ _ _) (by rw [hrest]), hwritten, hmarked, hothers,
      lineBlock (operand e.cmd.w2).addr ▸ hdirty, hhbm, ?_⟩
    · rw [exec_store hfront, hcell, if_pos rfl, if_pos rfl, heff, hu]
    · exact congrArg (fun t : State => { t with cores := (u.setPhase core e.ord (.done St.ok)).cores }) hrest
  case engine =>
    intro s core e hlo hhi hfront hfmt hrows hsp hdp hbytes hwhole helems h0 h0' hsrc hdst hgood
    have hcell : isCell core = false := by simp [isCell, hlo]
    have hmove : LineMove s core [0, 2, 3] [0, 2, 3] e := ⟨hfmt, hrows, hsp, hdp, hbytes, hwhole, helems, hsrc, hdst⟩
    have hlen : (s.csBytes core (operand e.cmd.w1).off 64).length = 64 := length_bytesAt _ _ _
    have heff := hmove.loadStore_eq hlen (State.readSide_store h0 hgood) (State.writeSide_store h0' _ _)
    refine ⟨_, ?_, State.csWrite_move_spec hlen rfl⟩
    rw [exec_load hfront, hcell, if_neg Bool.false_ne_true, if_neg Bool.false_ne_true, heff]
  case gather =>
    intro s core e hfront
    obtain ⟨hended, hothers, hrest⟩ := (Moved.gather (s := s) (k := core) e).ended core e.ord (.done (s.gather core e).2)
    exact ⟨_, congrArg Host.Outcome.next (State.runFront_eq hfront), hended, congrArg Prod.snd hothers, congrArg Prod.fst hothers, hrest⟩

end Sys2Proof.Machine
end

section
/-! PROOFS. Counters that fill their register (R156): one that wraps and one that stops. -/

namespace Sys2Proof.Machine

open Sys2Proof

variable {s : State}

/-- The field that is the whole register reads as the register. -/
theorem fld_whole (v : W64) : fld v 0 64 = v.toNat := by
  rw [fld, bitsOf, Nat.shiftRight_zero, Nat.mod_eq_of_lt v.isLt]

/-- A write of the field that is the whole register replaces the register. -/
theorem setFld_whole (v : W64) (x : Nat) : setFld v 0 64 x = BitVec.ofNat 64 x := by
  apply BitVec.eq_of_toNat_eq
  rw [← fld_whole, fld_setFld_self v x le_rfl, BitVec.toNat_ofNat]

/-- A wrapping counter of 64 bits. -/
theorem State.addF_reg_whole (a n : Nat) : (s.addF a ⟨0, 64⟩ n).reg a = BitVec.ofNat 64 ((s.reg a).toNat + n) := by
  rw [State.addF, State.setF, State.setReg_reg_self, setFld_whole, State.rf, fld_whole]

/-- A counter of 64 bits that stops at its maximum. -/
theorem State.bump_reg_whole (a n : Nat) : ((s.bump a ⟨0, 64⟩ n).reg a).toNat = min ((s.reg a).toNat + n) (2 ^ 64 - 1) := by
  have hfits : satAdd 64 (s.reg a).toNat n < 2 ^ 64 := by
    unfold satAdd
    omega
  rw [State.bump, State.setF, State.setReg_reg_self, setFld_whole, State.rf, fld_whole, BitVec.toNat_ofNat, Nat.mod_eq_of_lt hfits, satAdd]

/-- Settles O10: both counts are fields that fill their registers, the page's one that wraps and the ward's one that stops. -/
theorem healthCountersWrapAndStop : Obligations.HealthCountersWrapAndStop := by
  unfold Obligations.HealthCountersWrapAndStop
  exact ⟨fun _ _ _ _ _ _ => State.addF_reg_whole _ _, fun _ _ _ _ _ => State.bump_reg_whole _ _⟩

end Sys2Proof.Machine
end

section
/-! PROOFS. Conversion to INT8 and INT4 (R142): a sign and a magnitude clamped to the largest code, so the range is symmetric. -/

namespace Sys2Proof.Machine

open Sys2Proof

variable {c m mag : Nat}

theorem isIntFmt_iff : isIntFmt c = true ↔ c = 8 ∨ c = 9 := by
  simp [isIntFmt]

/-- An infinite or overflowing magnitude becomes the end of the range: the integer formats have no infinity. -/
theorem bigCode_int (hc : isIntFmt c = true) (neg toInf : Bool) : bigCode c neg toInf = signed c (maxCode c) neg := by
  have hinf : hasInf c = false := by
    rcases isIntFmt_iff.1 hc with rfl | rfl <;> rfl
  simp [bigCode, hinf]

/-- A finite value rounds to a whole magnitude, which is clamped to the largest code before the sign is applied. -/
theorem roundTo_int_fin (hc : isIntFmt c = true) (hm : m ≠ 0) (mode u : Nat) (neg : Bool) (e : Int) :
    (roundTo c mode u (.fin neg m e)).1 = signed c (min (roundUnits mode u m e 0) (maxCode c)) neg := by
  simp only [roundTo, if_neg hm, unitOf, magCode, hc, if_true, bigCode_int hc]
  split
  next hbig => rw [min_eq_right hbig.le]
  next hfits => rw [min_eq_left (Nat.not_lt.1 hfits)]

/-- Whatever the value and the mode, the result is a signed magnitude of at most the largest code. -/
theorem roundTo_int (hc : isIntFmt c = true) (mode u : Nat) (v : FVal) :
    ∃ neg, ∃ mag ≤ maxCode c, (roundTo c mode u v).1 = signed c mag neg := by
  cases v with
  | nan =>
    refine ⟨false, 0, Nat.zero_le _, ?_⟩
    rcases isIntFmt_iff.1 hc with rfl | rfl <;> rfl
  | inf neg => exact ⟨neg, maxCode c, le_rfl, bigCode_int hc neg true⟩
  | fin neg m e =>
    by_cases hm : m = 0
    · exact ⟨neg, 0, Nat.zero_le _, by rw [roundTo, if_pos hm]⟩
    · exact ⟨neg, _, min_le_right _ _, roundTo_int_fin hc hm mode u neg e⟩

/-- The code of a sign alone (−128, −8) is the one after the largest, and halves the codes. -/
theorem signBit_int (hc : isIntFmt c = true) : signBit c true = maxCode c + 1 ∧ 2 ^ elemBits c = 2 * (maxCode c + 1) := by
  rcases isIntFmt_iff.1 hc with rfl | rfl <;> exact ⟨rfl, rfl⟩

/-- A signed magnitude of at most the largest code fits the format and is never the code of a sign alone. -/
theorem signed_int_ne_signBit (hc : isIntFmt c = true) (hmag : mag ≤ maxCode c) (neg : Bool) :
    signed c mag neg < 2 ^ elemBits c ∧ signed c mag neg ≠ signBit c true := by
  obtain ⟨hsign, hsize⟩ := signBit_int hc
  rw [signed, if_pos hc, hsign, hsize]
  cases neg with
  | false =>
    rw [if_neg Bool.false_ne_true]
    omega
  | true =>
    rw [if_pos rfl]
    rcases Nat.eq_zero_or_pos mag with rfl | hpos
    · rw [Nat.sub_zero, Nat.mod_self]
      omega
    · rw [Nat.mod_eq_of_lt (by omega)]
      omega

/-- The clamp of R142, at every mode and value. -/
theorem roundTo_int_ne_signBit (hc : isIntFmt c = true) (mode u : Nat) (v : FVal) :
    (roundTo c mode u v).1 < 2 ^ elemBits c ∧ (roundTo c mode u v).1 ≠ signBit c true := by
  obtain ⟨neg, mag, hmag, heq⟩ := roundTo_int hc mode u v
  rw [heq]
  exact signed_int_ne_signBit hc hmag neg

/-- An integer is already in the unit of the integer formats. -/
theorem roundUnits_of_integer (mode u m : Nat) : roundUnits mode u m 0 0 = m := by
  simp [roundUnits]

/-- An integer beyond the range becomes the end of the range. -/
theorem roundTo_int_saturates (hc : isIntFmt c = true) (hbig : maxCode c < m) (mode u : Nat) (neg : Bool) :
    (roundTo c mode u (.fin neg m 0)).1 = signed c (maxCode c) neg := by
  rw [roundTo_int_fin hc (Nat.ne_zero_of_lt hbig), roundUnits_of_integer, min_eq_right hbig.le]

/-- Settles O11: a conversion clamps a magnitude and then applies the sign. -/
theorem integersAreSymmetric : Obligations.IntegersAreSymmetric := by
  unfold Obligations.IntegersAreSymmetric
  refine ⟨fun mode u v => ?_, fun mode u m neg hbig => ?_, fun mode u m neg hbig => ?_⟩
  · obtain ⟨hfits8, hne8⟩ := roundTo_int_ne_signBit (c := 8) rfl mode u v
    obtain ⟨hfits4, hne4⟩ := roundTo_int_ne_signBit (c := 9) rfl mode u v
    exact ⟨hfits8, hne8, hfits4, hne4⟩
  · rw [roundTo_int_saturates rfl hbig]
    cases neg <;> rfl
  · rw [roundTo_int_saturates rfl hbig]
    cases neg <;> rfl

end Sys2Proof.Machine
end

section
/-! PROOFS. Writes to the user tables of the special-function unit (R170 to R173): which writes are refused, which wait, and the registers
that the others write. -/

namespace Sys2Proof.Machine

open Sys2Proof Sys2Proof.Safety

variable {s t : State} {who : Requester} {a k off tbl half : Nat} {v : W64} {cells : List Nat}

/-! ## Plain writes of registers -/

theorem State.plainWrite_reg_self (s : State) (a : Nat) (v : W64) (lo hi : Nat) :
    (s.plainWrite a v lo hi).reg a = writeFields (fieldsAt a) (s.reg a) v lo hi := State.setReg_reg_self _ _

theorem State.plainWrite_reg_ne {b : Nat} (v : W64) (lo hi : Nat) (h : b ≠ a) : (s.plainWrite a v lo hi).reg b = s.reg b :=
  State.setReg_reg_ne _ h

/-- One word written to several registers writes nothing but registers. -/
theorem State.plainWrites_rest (g : Nat → Nat) (l : List Nat) (s : State) (v : W64) :
    l.foldl (fun t k => t.plainWrite (g k) v 0 64) s =
      { s with regs := (l.foldl (fun t k => t.plainWrite (g k) v 0 64) s).regs } :=
  List.foldlRecOn (motive := fun t : State => t = { s with regs := t.regs }) _ _ rfl fun t ht k _ => by rw [ht]; rfl

theorem State.plainWrites_reg_ne {g : Nat → Nat} {l : List Nat} (s : State) (v : W64) (h : ∀ k ∈ l, a ≠ g k) :
    (l.foldl (fun t k => t.plainWrite (g k) v 0 64) s).reg a = s.reg a :=
  List.foldlRecOn (motive := fun t : State => t.reg a = s.reg a) _ _ rfl fun _ ht k hk =>
    (State.plainWrite_reg_ne _ _ _ (h k hk)).trans ht

/-- Each of several distinct registers is written once. -/
theorem State.plainWrites_reg_mem {g : Nat → Nat} {l : List Nat} (hg : Function.Injective g) (hl : l.Nodup) (v : W64) (hk : k ∈ l) :
    ∀ s : State, (l.foldl (fun t k => t.plainWrite (g k) v 0 64) s).reg (g k) = writeFields (fieldsAt (g k)) (s.reg (g k)) v 0 64 := by
  induction l with
  | nil => exact absurd hk List.not_mem_nil
  | cons j l ih =>
    intro s
    obtain ⟨hj, hl⟩ := List.nodup_cons.1 hl
    rw [List.foldl_cons]
    by_cases e : k = j
    · subst e
      rw [State.plainWrites_reg_ne _ _ fun i hi he => hj (by rwa [hg he]), State.plainWrite_reg_self]
    · rw [ih hl ((List.mem_cons.1 hk).resolve_left e), State.plainWrite_reg_ne _ _ _ (hg.ne e)]

/-- A register written and the access answered. -/
theorem State.plainWrite_answer_spec (ht : t = (s.plainWrite a v 0 64).answer St.ok) :
    t.reg a = writeFields (fieldsAt a) (s.reg a) v 0 64 ∧ (∀ b, b ≠ a → t.reg b = s.reg b) ∧ t.resp.status = St.ok ∧
      t = { s with regs := t.regs, resp := t.resp } := by
  subst ht
  exact ⟨State.plainWrite_reg_self _ _ _ _ _, fun b hb => State.plainWrite_reg_ne _ _ _ hb, rfl, rfl⟩

/-- A register of one field that software may write whole takes the word. -/
theorem writeFields_whole (old v : W64) : writeFields [fd 0 64 .rw 0] old v 0 64 = v := by
  have hfits : v.toNat ≤ 18446744073709551615 := Nat.le_of_lt_succ v.isLt
  simp [writeFields, FieldDef.within, FieldDef.takes, fd, fld_whole, setFld_whole, hfits]

/-! ## Offsets of a page (R170) -/

/-- No two cells have the same page. -/
theorem sfnPage_injective : Function.Injective sfnPage := by
  intro j k h
  unfold sfnPage R.HALF_SFN_COEF_LO at h
  omega

theorem tableOf_coef (h : off < 0x4000) : tableOf off = some (off / 0x1000) := if_pos h

theorem isTdesc_coef (h : off < 0x4000) : isTdesc off = false := by
  have hlow : ¬ 0x8000 ≤ off := by omega
  simp [isTdesc, hlow]

theorem tableOf_tdesc (h : tbl < 4) : tableOf (0x8000 + 0x40 * tbl) = some tbl := by
  unfold tableOf
  rw [if_neg (by omega), if_pos (by omega)]
  congr 1
  omega

theorem isTdesc_tdesc (h : tbl < 4) : isTdesc (0x8000 + 0x40 * tbl) = true := by
  simp only [isTdesc, Bool.and_eq_true, decide_eq_true_eq]
  omega

/-! ## What R171 refuses, and what waits -/

/-- Coefficients and constants of a valid table are fixed. -/
theorem State.sfnChk_of_not_tdesc (s : State) (k : Nat) (v : W64) (hdesc : isTdesc off = false) (htable : tableOf off = some tbl) :
    s.sfnChk k off v = chk (s.tableValid k tbl && (decide (off < 0x4000) || decide (off % 0x40 < 0x20))) St.bounds := by
  simp [State.sfnChk, htable, hdesc]

theorem State.sfnChk_coef (s : State) (k : Nat) (v : W64) (hoff : off < 0x4000) :
    s.sfnChk k off v = chk (s.tableValid k (off / 0x1000)) St.bounds := by
  simp [State.sfnChk_of_not_tdesc s k v (isTdesc_coef hoff) (tableOf_coef hoff), hoff]

/-- What belongs to no valid table is checked no further, a descriptor apart. -/
theorem State.sfnChk_of_not_valid (v : W64) (hdesc : isTdesc off = false)
    (hvalid : ∀ t, tableOf off = some t → s.tableValid k t = false) : s.sfnChk k off v = St.ok := by
  cases htable : tableOf off with
  | none => simp [State.sfnChk, htable]
  | some tbl => simp [State.sfnChk_of_not_tdesc s k v hdesc htable, hvalid tbl htable]

/-- A valid descriptor keeps its reduction fields, and VALID is not set over a reserved value. -/
theorem State.sfnChk_tdesc (s : State) (k : Nat) (v : W64) (h : tbl < 4) : s.sfnChk k (0x8000 + 0x40 * tbl) v =
    chk (if s.tableValid k tbl then tdescFields v ≠ tdescFields (s.tdesc k tbl) else bitAt v.toNat 32 && tdescReserved v) St.bounds := by
  simp [State.sfnChk, tableOf_tdesc h, isTdesc_tdesc h]

/-- Only the write of a descriptor waits. -/
theorem State.sfnWaits_of_not_tdesc (s : State) (k : Nat) (v : W64) (hdesc : isTdesc off = false) : s.sfnWaits k off v = false := by
  unfold State.sfnWaits
  cases tableOf off <;> simp [hdesc]

theorem State.sfnWaits_tdesc (s : State) (k : Nat) (v : W64) (h : tbl < 4) :
    s.sfnWaits k (0x8000 + 0x40 * tbl) v = (s.tableValid k tbl && !bitAt v.toNat 32 && s.sfnNames k tbl) := by
  simp [State.sfnWaits, tableOf_tdesc h, isTdesc_tdesc h]

/-! ## The writes -/

@[simp] theorem State.ctlEnd_ok (s : State) (who : Requester) (a : Nat) (v : W64) : s.ctlEnd who a St.ok v = s.answer St.ok v := by
  simp [State.ctlEnd]

/-- A requester other than the host is always served. -/
theorem servedNow_of_ne_host (s : State) (h : who ≠ .host) : ServedNow s who = true := by
  simp [ServedNow, h]

theorem State.sfnDo_ok {own : Nat} (hreach : s.reach who a = St.ok) (hown : own = St.ok) :
    s.sfnDo who a own cells off v = s.sfnPut who a cells off v := by
  have hst : worst (s.reach who a) own = St.ok := by rw [hreach, hown]; rfl
  simp only [State.sfnDo, hst, if_true]

theorem State.sfnDo_refused (hwho : who ≠ .host) (hreach : s.reach who a = St.ok) :
    s.sfnDo who a St.bounds cells off v = s.answer St.bounds := by
  have hst : worst (s.reach who a) St.bounds = St.bounds := by rw [hreach]; rfl
  simp only [State.sfnDo, hst, if_neg (show St.bounds ≠ St.ok by decide)]
  simp [State.ctlEnd, hwho]

/-- Where no cell waits, every cell is written and the write completes. -/
theorem State.sfnPut_of_none_waits (s : State) (who : Requester) (a : Nat) (h : ∀ k ∈ cells, s.sfnWaits k off v = false) :
    s.sfnPut who a cells off v = (cells.foldl (fun t k => t.plainWrite (sfnPage k + off) v 0 64) s).answer St.ok := by
  have hwait : cells.filter (fun k => s.sfnWaits k off v) = [] := List.filter_eq_nil_iff.2 fun k hk => by simp [h k hk]
  have hwrite : cells.filter (fun k => !s.sfnWaits k off v) = cells := List.filter_eq_self.2 fun k hk => by simp [h k hk]
  simp [State.sfnPut, hwait, hwrite]

/-- The write of one cell that waits is kept for later. -/
theorem State.sfnPut_of_waits (who : Requester) (a : Nat) (h : s.sfnWaits k off v = true) : s.sfnPut who a [k] off v =
    { s with mgt := { s.mgt with
      sfnClear := s.mgt.sfnClear ++ [{ cell := k, tbl := (off - 0x8000) / 0x40, who := who, off := a, val := v }] } } := by
  simp [State.sfnPut, h]

/-- The status of a write at an aligned offset of a page is the table's own. -/
theorem State.sfnWrite_of_chk_ok (hreach : s.reach who (sfnPage k + off) = St.ok) (halign : off % 8 = 0) (hoff : off < 0x10000)
    (hchk : s.sfnChk k off v = St.ok) : s.sfnWrite who k off v = s.sfnPut who (sfnPage k + off) [k] off v := by
  have hin : ¬ 0x10000 ≤ off := by omega
  exact State.sfnDo_ok hreach (by simp [hchk, halign, hin])

theorem State.sfnWrite_of_chk_bounds (hwho : who ≠ .host) (hreach : s.reach who (sfnPage k + off) = St.ok)
    (hchk : s.sfnChk k off v = St.bounds) : s.sfnWrite who k off v = s.answer St.bounds := by
  have hown (bad : Bool) : worst (chk bad St.bounds) St.bounds = St.bounds := by cases bad <;> rfl
  rw [State.sfnWrite, hchk, hown, State.sfnDo_refused hwho hreach]

/-- A write to a cell's page that is allowed and need not wait. -/
theorem State.sfnWrite_eq (hreach : s.reach who (sfnPage k + off) = St.ok) (halign : off % 8 = 0) (hoff : off < 0x10000)
    (hchk : s.sfnChk k off v = St.ok) (hwait : s.sfnWaits k off v = false) :
    s.sfnWrite who k off v = (s.plainWrite (sfnPage k + off) v 0 64).answer St.ok := by
  rw [State.sfnWrite_of_chk_ok hreach halign hoff hchk, State.sfnPut_of_none_waits _ _ _ (by simpa using hwait)]
  rfl

/-! A requester that is served now has its write carried out at once. -/

theorem exec_sfnTableWrite_of_served (v : W64) (hnow : ServedNow s who = true) (hreach : s.reach who (sfnPage k + off) = St.ok) :
    exec (.sfnTableWrite who k off v) s = .next (s.sfnWrite who k off v) := State.byHost_eq hnow hreach

theorem exec_sfnTdescWrite_of_served (v : W64) (hnow : ServedNow s who = true)
    (hreach : s.reach who (sfnPage k + (0x8000 + 0x40 * tbl)) = St.ok) :
    exec (.sfnTdescWrite who k tbl v) s = .next (s.sfnWrite who k (0x8000 + 0x40 * tbl) v) := State.byHost_eq hnow hreach

theorem exec_sfnBcastWrite_of_served (v : W64) (hnow : ServedNow s who = true) (hreach : s.reach who (bcastPage half + off) = St.ok) :
    exec (.sfnBcastWrite who half off v) s = .next (s.bcastWrite who half off v) := State.byHost_eq hnow hreach

/-- A descriptor write that R171 refuses. -/
theorem exec_sfnTdescWrite_of_chk_bounds (hwho : who ≠ .host) (hreach : s.reach who (sfnPage k + (0x8000 + 0x40 * tbl)) = St.ok)
    (hchk : s.sfnChk k (0x8000 + 0x40 * tbl) v = St.bounds) :
    exec (.sfnTdescWrite who k tbl v) s = .next (s.answer St.bounds) := by
  rw [exec_sfnTdescWrite_of_served v (servedNow_of_ne_host s hwho) hreach, State.sfnWrite_of_chk_bounds hwho hreach hchk]

/-- A descriptor write that is allowed and need not wait. -/
theorem exec_sfnTdescWrite_of_chk_ok (hnow : ServedNow s who = true) (hreach : s.reach who (sfnPage k + (0x8000 + 0x40 * tbl)) = St.ok)
    (htbl : tbl < 4) (hchk : s.sfnChk k (0x8000 + 0x40 * tbl) v = St.ok) (hwait : s.sfnWaits k (0x8000 + 0x40 * tbl) v = false) :
    exec (.sfnTdescWrite who k tbl v) s = .next ((s.plainWrite (sfnPage k + (0x8000 + 0x40 * tbl)) v 0 64).answer St.ok) := by
  rw [exec_sfnTdescWrite_of_served v hnow hreach, State.sfnWrite_eq hreach (by omega) (by omega) hchk hwait]

/-! ## Writes that waited (R171) -/

/-- The one write that waits ends. -/
theorem State.sfnRelease_one {w : SfnClear} {p : SfnClear → Bool} (hclear : s.mgt.sfnClear = [w]) (hp : p w = true) :
    s.sfnRelease p St.ok = ({ s with mgt := { s.mgt with sfnClear := [] } } : State).answer St.ok := by
  simp [State.sfnRelease, hclear, hp]

/-- Once no issued SFN names its table, the one write that waits is carried out and ends. -/
theorem exec_sfnValidClearDone_eq {w : SfnClear} (hclk : s.clk.on = true) (hclear : s.mgt.sfnClear = [w])
    (hnames : s.sfnNames w.cell w.tbl = false) : exec (.sfnValidClearDone w.cell w.tbl) s =
      .next ((s.plainWrite (R.HALF_SFN_TDESC (w.cell / 64) (w.cell % 64) w.tbl) w.val 0 64).sfnRelease
        (fun x => x.cell = w.cell && x.tbl = w.tbl) St.ok) := by
  change execSfnValidClearDone w.cell w.tbl s = _
  simp [execSfnValidClearDone, hclk, hnames, hclear]

/-- A register written and the write that waited for it ended. -/
theorem State.plainWrite_sfnRelease_spec {w : SfnClear} {p : SfnClear → Bool} (hclear : s.mgt.sfnClear = [w]) (hp : p w = true)
    (ht : t = (s.plainWrite a v 0 64).sfnRelease p St.ok) :
    t.reg a = writeFields (fieldsAt a) (s.reg a) v 0 64 ∧ t.mgt.sfnClear = [] ∧ (∀ b, b ≠ a → t.reg b = s.reg b) ∧
      t.resp.status = St.ok ∧ t = { s with regs := t.regs, resp := t.resp, mgt := { s.mgt with sfnClear := t.mgt.sfnClear } } := by
  have hwritten : (s.plainWrite a v 0 64).mgt.sfnClear = [w] := hclear
  rw [State.sfnRelease_one hwritten hp] at ht
  subst ht
  exact ⟨State.plainWrite_reg_self _ _ _ _ _, rfl, fun b hb => State.plainWrite_reg_ne _ _ _ hb, rfl, rfl⟩

theorem exec_sfnValidClearDone_of_names {cell : Nat} (hnames : s.sfnNames cell tbl = true) :
    exec (.sfnValidClearDone cell tbl) s = .next s := by
  change execSfnValidClearDone cell tbl s = _
  simp [execSfnValidClearDone, hnames]

/-! ## Broadcasts (R173) -/

theorem State.bcastCells_nodup (s : State) (half : Nat) : (s.bcastCells half).Nodup :=
  (List.nodup_range.filter _).map fun _ _ h => Nat.add_left_cancel h

/-- A coefficient is broadcast unless a cell of the mask is absent or has the table valid. -/
theorem State.bcastWrite_coef (who : Requester) (half : Nat) (v : W64) (hoff : off < 0x4000) (halign : off % 8 = 0) :
    s.bcastWrite who half off v = s.sfnDo who (bcastPage half + off)
      (chk ((s.bcastCells half).any (fun k => s.absent k || s.tableValid k (off / 0x1000))) St.bounds) (s.bcastCells half) off v := by
  have hbad (b : Bool) : decide (chk b St.bounds ≠ St.ok) = b := by cases b <;> rfl
  have hmask : off ≠ 0xF000 := by omega
  have hlow : ¬ 0x9000 ≤ off := by omega
  simp only [State.bcastWrite, if_neg hmask, if_neg hlow, State.sfnChk_coef s _ v hoff, hbad, halign, ne_eq, not_true_eq_false,
    decide_false, Bool.false_or]

/-- A broadcast that no cell refuses writes every cell of the mask. -/
theorem State.bcastWrite_eq (hreach : s.reach who (bcastPage half + off) = St.ok) (halign : off % 8 = 0) (hoff : off < 0x4000)
    (hall : (s.bcastCells half).all (fun k => !s.absent k && !s.tableValid k (off / 0x1000)) = true) :
    s.bcastWrite who half off v =
      ((s.bcastCells half).foldl (fun t k => t.plainWrite (sfnPage k + off) v 0 64) s).answer St.ok := by
  have hany : (s.bcastCells half).any (fun k => s.absent k || s.tableValid k (off / 0x1000)) = false := by
    simpa [List.any_eq_false, List.all_eq_true] using hall
  rw [State.bcastWrite_coef _ _ _ hoff halign, hany, State.sfnDo_ok hreach (chk_false _),
    State.sfnPut_of_none_waits _ _ _ fun k _ => State.sfnWaits_of_not_tdesc s k v (isTdesc_coef hoff)]

theorem State.bcastWrite_refused (v : W64) (hwho : who ≠ .host) (hreach : s.reach who (bcastPage half + off) = St.ok)
    (halign : off % 8 = 0) (hoff : off < 0x4000)
    (hany : (s.bcastCells half).any (fun k => s.absent k || s.tableValid k (off / 0x1000)) = true) :
    s.bcastWrite who half off v = s.answer St.bounds := by
  rw [State.bcastWrite_coef _ _ _ hoff halign, hany]
  exact State.sfnDo_refused hwho hreach

/-- The mask is one field of the whole register (R180). -/
theorem fieldsAt_bcastMask (h : half < 2) : fieldsAt (R.HALF_SFN_BCAST_MASK half) = [fd 0 64 .rw 0] := by
  have key : ∀ h < 2, fieldsAt (R.HALF_SFN_BCAST_MASK h) = [fd 0 64 .rw 0] := by decide
  exact key half h

/-! ## The statement -/

/-- Settles O36: a write of a page is refused, kept, or the plain write of one register; a broadcast is that write in every cell. -/
theorem sfnTablesComplete : Obligations.SfnTablesComplete := by
  unfold Obligations.SfnTablesComplete
  refine ⟨?coef, ?coefValid, ?tdesc, ?tdescReserved, ?tdescFixed, ?clear, ?clearWaits, ?clearDone, ?clearGoesOn, ?bcastRefused, ?bcast, ?mask⟩
  case coef =>
    intro s who cell off v hnow hreach halign hoff hdesc hvalid
    rw [exec_sfnTableWrite_of_served v hnow hreach,
      State.sfnWrite_eq hreach halign hoff (State.sfnChk_of_not_valid v hdesc hvalid) (State.sfnWaits_of_not_tdesc s cell v hdesc)]
    exact ⟨_, rfl, State.plainWrite_answer_spec rfl⟩
  case coefValid =>
    intro s who cell off tbl v hwho hreach hoff hdesc htable hfixed hvalid
    have hchk : s.sfnChk cell off v = St.bounds := by simp [State.sfnChk_of_not_tdesc s cell v hdesc htable, hvalid, hfixed, chk]
    rw [exec_sfnTableWrite_of_served v (servedNow_of_ne_host s hwho) hreach, State.sfnWrite_of_chk_bounds hwho hreach hchk]
    exact ⟨_, rfl, rfl, rfl⟩
  case tdesc =>
    intro s who cell tbl v hnow hreach htbl hvalid hreserved
    have hchk : s.sfnChk cell (0x8000 + 0x40 * tbl) v = St.ok := by simp [State.sfnChk_tdesc s cell v htbl, hvalid, hreserved]
    have hwait : s.sfnWaits cell (0x8000 + 0x40 * tbl) v = false := by simp [State.sfnWaits_tdesc s cell v htbl, hvalid]
    exact ⟨_, exec_sfnTdescWrite_of_chk_ok hnow hreach htbl hchk hwait, State.plainWrite_answer_spec rfl⟩
  case tdescReserved =>
    intro s who cell tbl v hwho hreach htbl hvalid hset hreserved
    have hchk : s.sfnChk cell (0x8000 + 0x40 * tbl) v = St.bounds := by
      simp [State.sfnChk_tdesc s cell v htbl, hvalid, hset, hreserved, chk]
    exact ⟨_, exec_sfnTdescWrite_of_chk_bounds hwho hreach hchk, rfl, rfl⟩
  case tdescFixed =>
    intro s who cell tbl v hwho hreach htbl hvalid hfields
    have hchk : s.sfnChk cell (0x8000 + 0x40 * tbl) v = St.bounds := by simp [State.sfnChk_tdesc s cell v htbl, hvalid, hfields, chk]
    exact ⟨_, exec_sfnTdescWrite_of_chk_bounds hwho hreach hchk, rfl, rfl⟩
  case clear =>
    intro s who cell tbl v hnow hreach htbl hvalid hfields _ hnames
    have hchk : s.sfnChk cell (0x8000 + 0x40 * tbl) v = St.ok := by simp [State.sfnChk_tdesc s cell v htbl, hvalid, hfields]
    have hwait : s.sfnWaits cell (0x8000 + 0x40 * tbl) v = false := by simp [State.sfnWaits_tdesc s cell v htbl, hnames]
    exact ⟨_, exec_sfnTdescWrite_of_chk_ok hnow hreach htbl hchk hwait, State.plainWrite_answer_spec rfl⟩
  case clearWaits =>
    intro s who cell tbl v hnow hreach htbl hvalid hfields hclears hnames
    have hchk : s.sfnChk cell (0x8000 + 0x40 * tbl) v = St.ok := by simp [State.sfnChk_tdesc s cell v htbl, hvalid, hfields]
    have hwait : s.sfnWaits cell (0x8000 + 0x40 * tbl) v = true := by
      simp [State.sfnWaits_tdesc s cell v htbl, hvalid, hclears, hnames]
    have hindex : (0x8000 + 0x40 * tbl - 0x8000) / 0x40 = tbl := by omega
    rw [exec_sfnTdescWrite_of_served v hnow hreach, State.sfnWrite_of_chk_ok hreach (by omega) (by omega) hchk,
      State.sfnPut_of_waits _ _ hwait, hindex]
    exact ⟨_, rfl, rfl, rfl⟩
  case clearDone =>
    rintro s _ _ w hclk hclear rfl rfl hnames
    exact ⟨_, exec_sfnValidClearDone_eq hclk hclear hnames, State.plainWrite_sfnRelease_spec hclear (by simp) rfl⟩
  case clearGoesOn => exact fun s cell tbl hnames => exec_sfnValidClearDone_of_names hnames
  case bcastRefused =>
    intro s who half off v hwho hreach hoff halign hany
    rw [exec_sfnBcastWrite_of_served v (servedNow_of_ne_host s hwho) hreach,
      State.bcastWrite_refused v hwho hreach halign hoff hany]
    exact ⟨_, rfl, rfl, rfl⟩
  case bcast =>
    intro s who half off v hnow hreach _ halign hoff hall
    have hinj : Function.Injective (fun k => sfnPage k + off) := fun _ _ h => sfnPage_injective (Nat.add_right_cancel h)
    rw [exec_sfnBcastWrite_of_served v hnow hreach, State.bcastWrite_eq hreach halign hoff hall]
    refine ⟨_, rfl, fun k hk => ?_, fun a ha => ?_, rfl, ?_⟩
    · exact State.plainWrites_reg_mem hinj (s.bcastCells_nodup half) v hk s
    · exact State.plainWrites_reg_ne s v ha
    · rw [State.plainWrites_rest (fun k => sfnPage k + off)]
      rfl
  case mask =>
    intro s who half v hnow hreach hhalf
    have hwrite : s.bcastWrite who half 0xF000 v = (s.plainWrite (R.HALF_SFN_BCAST_MASK half) v 0 64).answer St.ok :=
      (if_pos rfl).trans (State.ctlDo_ok hreach rfl)
    rw [exec_sfnBcastWrite_of_served v hnow hreach, hwrite]
    obtain ⟨hself, hother⟩ := State.plainWrite_answer_spec (s := s) (a := R.HALF_SFN_BCAST_MASK half) (v := v) rfl
    rw [fieldsAt_bcastMask hhalf, writeFields_whole] at hself
    exact ⟨_, rfl, hself, hother⟩

end Sys2Proof.Machine
end

section
/-! PROOFS. Blocks of the layer store: fills and drains (R186, R190, R192, R193, R195), and the slots of a bank (R208). -/

namespace Sys2Proof.Machine

open Sys2Proof Sys2Proof.Safety

variable {s : State} {b line : Nat} {x : Blk}

/-! ## Copied ranges -/

theorem mget_append {α : Type} (d : α) (l m : List (Nat × α)) (a : Nat) : mget d (l ++ m) a = mget (mget d m a) l a := by
  induction l with
  | nil => rfl
  | cons e l ih =>
    obtain ⟨k, v⟩ := e
    simp only [List.cons_append, mget, ih]

/-- A key of the range reads as in the source. -/
theorem mget_mcopyRange {α : Type} (d : α) (src dst : List (Nat × α)) {a n k : Nat} (ha : a ≤ k) (hn : k < a + n) :
    mget d (mcopyRange src dst a n) k = mget d src k := by
  rw [mcopyRange, mget_append, mget_append, mget_filter_of_not _ (fun _ => by simpa using ha),
    mget_filter_of_keep _ (fun _ => by simp [ha, hn]), mget_filter_of_not _ (fun _ => by simpa using hn)]

theorem bytesAt_mcopyRange (src dst : List Host.Cell) {a n k m : Nat} (ha : a ≤ k) (hn : k + m ≤ a + n) :
    bytesAt (mcopyRange src dst a n) k m = bytesAt src k m :=
  bytesAt_congr m _ fun _ h1 h2 => mget_mcopyRange _ src dst (by omega) (by omega)

/-! ## What a write at home leaves (R193, R203, R205, R230) -/

/-- A state without what a write at home may change: home lines and their marks, the memory-side cache, regions with the marks that a
clearing changes, and the counts of requests and of moves. -/
def State.offHome (s : State) : State :=
  { s with mem := { s.mem with
      hbm := [], marks := [], cache := [], stamp := 0, regions := [], fmarks := [], bucket := [], moverBusy := [] } }

theorem offHome_foldl {β : Type} {f : State → β → State} {l : List β} (hf : ∀ t e, (f t e).offHome = t.offHome) :
    (l.foldl f s).offHome = s.offHome :=
  List.foldlRecOn (motive := fun t : State => t.offHome = s.offHome) _ _ rfl fun t ht e _ => (hf t e).trans ht

theorem State.charge_offHome (line n : Nat) : (s.charge line n).offHome = s.offHome := by
  obtain ⟨bk, h⟩ := s.charge_eq line n
  rw [h]
  rfl

theorem State.ensureSet_offHome (key : Nat) : (s.ensureSet key).offHome = s.offHome := by
  unfold State.ensureSet
  split <;> rfl

theorem State.cwriteHome_offHome (line : Nat) (c : CLine) : (s.cwriteHome line c).offHome = s.offHome := by
  unfold State.cwriteHome
  split
  · split <;> rfl
  · rfl

theorem State.croom_offHome (st : Nat) : (s.croom st).offHome = s.offHome := by
  unfold State.croom
  dsimp only
  split
  · rfl
  · split
    · exact State.cwriteHome_offHome _ _
    · rfl

theorem State.homePut_offHome (line hint : Nat) (data : List Byte) : (s.homePut line hint data).offHome = s.offHome := by
  unfold State.homePut
  split
  · rfl
  · split
    · exact State.croom_offHome _
    · rfl

theorem State.homePoison_offHome (line : Nat) : (s.homePoison line).offHome = s.offHome := by
  unfold State.homePoison
  split <;> rfl

theorem State.writeBack_offHome (s : State) (b : Nat) (x : Blk) : (s.writeBack b x).offHome = s.offHome := by
  unfold State.writeBack
  split
  · rfl
  · refine (offHome_foldl fun t e => ?_).trans ((State.ensureSet_offHome _).trans (State.charge_offHome _ _))
    dsimp only
    split
    · exact State.homePoison_offHome _
    · exact State.homePut_offHome _ _ _

/-- What a state and its `offHome` agree on, a write at home leaves. -/
theorem State.kept_of_offHome {α : Type} {t : State} (f : State → α) (hf : ∀ u : State, f u.offHome = f u) (h : t.offHome = s.offHome) :
    f t = f s :=
  (hf t).symm.trans ((congrArg f h).trans (hf s))

@[simp] theorem State.writeBack_blk (s : State) (b : Nat) (x : Blk) (c : Nat) : (s.writeBack b x).blk c = s.blk c :=
  State.kept_of_offHome (fun t => t.blk c) (fun _ => rfl) (s.writeBack_offHome b x)

@[simp] theorem State.writeBack_due (s : State) (b : Nat) (x : Blk) : (s.writeBack b x).mem.due = s.mem.due :=
  State.kept_of_offHome (fun t => t.mem.due) (fun _ => rfl) (s.writeBack_offHome b x)

@[simp] theorem State.writeBack_waiting (s : State) (b : Nat) (x : Blk) : (s.writeBack b x).mem.waiting = s.mem.waiting :=
  State.kept_of_offHome (fun t => t.mem.waiting) (fun _ => rfl) (s.writeBack_offHome b x)

@[simp] theorem State.writeBack_walkers (s : State) (b : Nat) (x : Blk) : (s.writeBack b x).mem.walkers = s.mem.walkers :=
  State.kept_of_offHome (fun t => t.mem.walkers) (fun _ => rfl) (s.writeBack_offHome b x)

@[simp] theorem State.writeBack_regs (s : State) (b : Nat) (x : Blk) : (s.writeBack b x).regs = s.regs :=
  State.kept_of_offHome State.regs (fun _ => rfl) (s.writeBack_offHome b x)

@[simp] theorem State.writeBack_cores (s : State) (b : Nat) (x : Blk) : (s.writeBack b x).cores = s.cores :=
  State.kept_of_offHome State.cores (fun _ => rfl) (s.writeBack_offHome b x)

/-! ## After a move (R186, R200) -/

/-- Where nothing waits there is nothing to try again. -/
theorem State.retry_of_none_waits (h : s.mem.waiting = []) (p : WaitAcc → Bool) : s.retry p = s := by
  simp only [State.retry, h, List.foldl_nil]
  rw [← h]

theorem State.walker_of_none (h : s.mem.walkers = []) (k w : Nat) : s.walker k w = {} := by rw [State.walker, h, mget]

/-- Where no walker handles an entry none takes a turn. -/
theorem State.walkTurns_of_none (h : s.mem.walkers = []) (k n : Nat) : s.walkTurns k n = s := by
  have hturn : s.walkTurn k = none := by simp [State.walkTurn, State.walkReady, State.walker_of_none h]
  cases n with
  | zero => rfl
  | succ n => simp only [State.walkTurns, hturn, ite_self]

theorem State.afterMove_of_none (hwaiting : s.mem.waiting = []) (hwalkers : s.mem.walkers = []) (b : Nat) : s.afterMove b = s := by
  rw [State.afterMove, State.retryBlock, State.retry_of_none_waits hwaiting, State.walkTurns_of_none hwalkers]

/-! ## Migration of one block (R184, R186, R190, R195) -/

theorem State.settle_of_home (h : s.blk b = none) : s.settle b = s := by simp [State.settle, h]

/-- A block that neither fills nor drains is settled. -/
theorem State.settle_of_settled (h : s.blk b = some x) (hst : x.st = .clean ∨ x.st = .dirty) : s.settle b = s := by
  rcases hst with e | e <;> simp [State.settle, h, e]

theorem State.migrate_skipped {k : Nat} (h : blkHalf b ≠ k ∨ s.fixed b = true) (w cls tag : Nat) :
    s.migrate k w b cls tag = (s, .skipped) := by
  have hskip : (decide (blkHalf b ≠ k) || s.fixed b || s.fenced (b * 65536)) = true := by
    rcases h with h | h <;> simp [h]
  rw [State.migrate, if_pos hskip]

section
variable (hfixed : s.fixed b = false) (hfenced : s.fenced (b * 65536) = false)
include hfixed hfenced

theorem State.migrate_of_free {w cls way : Nat} (tag : Nat) (hblk : s.blk b = none) (hdue : s.dueOf b = none)
    (hfind : s.findFrame (blkHalf b) w b cls = .free way) :
    s.migrate (blkHalf b) w b cls tag = (s.startFill (blkHalf b) w b cls tag way, .started) := by
  simp [State.migrate, hfixed, hfenced, State.settle_of_home hblk, hblk, hdue, hfind]

theorem State.migrate_of_present (w cls tag : Nat) (hblk : s.blk b = some x) (hst : x.st = .clean ∨ x.st = .dirty) :
    s.migrate (blkHalf b) w b cls tag = (s.setBlk b (some { x with cls := cls, tag := tag }), .present) := by
  simp [State.migrate, hfixed, hfenced, State.settle_of_settled hblk hst, hblk]

end

/-- A block of the ward's own is migrated (R195). -/
theorem exec_fillStart_eq {k w cls tag : Nat} {t : State} {r : MigRes} (hclk : s.clk.on = true) (howner : s.owner (b * 65536) = w)
    (hb : b < 2 ^ 23) (hcls : cls < 3) (hmig : s.migrate k w b cls tag = (t, r)) :
    exec (.fillStart k w b cls tag) s = .next t := by
  change execFillStart k w b cls tag s = _
  have hmine : (decide (s.owner (b * 65536) = w) && decide (b < 2 ^ 23) && decide (cls < 3)) = true := by
    simp only [howner, hb, hcls, decide_true, Bool.and_self]
  rw [execFillStart, hclk, if_pos hmine, hmig]
  rfl

theorem exec_fillStart_skipped {k : Nat} (w cls tag : Nat) (hclk : s.clk.on = true) (h : blkHalf b ≠ k ∨ s.fixed b = true) :
    exec (.fillStart k w b cls tag) s = .next s := by
  change execFillStart k w b cls tag s = _
  rw [execFillStart, hclk, State.migrate_skipped h, ite_self]
  rfl

@[simp] theorem State.setBlk_dramLine (s : State) (b : Nat) (x : Option Blk) (l : Nat) : (s.setBlk b x).dramLine l = s.dramLine l := rfl

theorem State.setBlk_blk_ne {c : Nat} (x : Option Blk) (h : c ≠ b) : (s.setBlk b x).blk c = s.blk c := mget_mset_ne _ _ _ _ h

theorem State.startFill_blk (k w b cls tag way c : Nat) : (s.startFill k w b cls tag way).blk c =
    (s.setBlk b (some { way := way, st := .filling, ward := w, cls := cls, tag := tag, dirty := [] })).blk c := rfl

/-! ## The end of a fill (R186, R192) -/

/-- Home lines of a block without marks are good. -/
theorem State.mark_of_unmarked (h : s.mem.marks.filter (fun e => e.1 / 1024 = b) = []) {l : Nat} (hl : l / 1024 = b) :
    s.mark l = .ok := by
  rw [State.mark, ← mget_filter_of_keep .ok (p := fun e => decide (e.1 / 1024 = b)) (fun _ => by simpa using hl) s.mem.marks, h, mget]

theorem State.fillReads_of_sound (hfinds : s.mem.finds = []) (hmarks : s.mem.marks.filter (fun e => e.1 / 1024 = b) = []) :
    s.fillReads b = [] := by
  have hnone : s.mem.marks.filter (fun e => e.1 / 1024 = b && e.2 = .tagFail && (s.cline e.1).isNone) = [] := by
    rw [List.filter_eq_nil_iff] at hmarks ⊢
    intro e he
    simp only [Bool.and_assoc, Bool.and_eq_true, not_and]
    exact fun hb => absurd hb (hmarks e he)
  rw [State.fillReads, hfinds, List.isEmpty_nil, if_pos rfl, hnone, List.map_nil]

/-- The block's memory and marks in its frame. -/
def State.frameCopied (s : State) (b : Nat) : State :=
  { s with mem := { s.mem with
      frame := mcopyRange s.mem.hbm s.mem.frame (b * 65536) 65536
      fmarks := mcopyRange s.mem.marks s.mem.fmarks (b * 1024) 1024 } }

theorem State.copyFrame_of_sound (hfinds : s.mem.finds = []) (hmarks : s.mem.marks.filter (fun e => e.1 / 1024 = b) = []) :
    s.copyFrame b = s.frameCopied b := by
  have htook : s.tookFinds 1024 = s := by
    rw [State.tookFinds, hfinds, List.drop_nil, ← hfinds]
  rw [State.copyFrame, State.fillReads_of_sound hfinds hmarks, List.foldl_nil, htook, State.frameCopied]

/-- A SET region's block, none of whose lines is in the memory-side cache, is copied alone. -/
theorem State.fillCopy_of_sound (hregion : (s.region (blkRegion b)).st = 2) (hcache : s.mem.cache = []) (hfinds : s.mem.finds = [])
    (hmarks : s.mem.marks.filter (fun e => e.1 / 1024 = b) = []) (x : Blk) : s.fillCopy b x = s.frameCopied b := by
  simp only [State.fillCopy, hregion, hcache, List.filter_nil, List.foldl_nil, State.copyFrame_of_sound hfinds hmarks]

theorem State.frameCopied_frameLine {l : Nat} (hl : l / 1024 = b) : (s.frameCopied b).frameLine l = s.dramLine l :=
  bytesAt_mcopyRange _ _ (by omega) (by omega)

theorem State.frameCopied_fmark {l : Nat} (hl : l / 1024 = b) : (s.frameCopied b).fmark l = s.mark l :=
  mget_mcopyRange _ _ _ (by omega) (by omega)

/-- A fill of good lines that are not in the memory-side cache ends CLEAN. -/
theorem State.finishFill_of_sound (hblk : s.blk b = some x) (hst : x.st = .filling) (hdirty : x.dirty = [])
    (hregion : (s.region (blkRegion b)).st = 2) (hcache : s.mem.cache = []) (hfinds : s.mem.finds = [])
    (hmarks : s.mem.marks.filter (fun e => e.1 / 1024 = b) = []) : ∃ bk, s.finishFill b =
      (((s.withBucket bk).frameCopied b).moverCycles (blkHalf b) 1024).setBlk b (some { x with st := .clean }) := by
  obtain ⟨bk, hbk⟩ := s.charge_eq (b * 1024) 1024
  have hcopy : (s.withBucket bk).fillCopy b x = (s.withBucket bk).frameCopied b :=
    State.fillCopy_of_sound (s := s.withBucket bk) hregion hcache hfinds hmarks x
  have hkept : (((s.withBucket bk).frameCopied b).moverCycles (blkHalf b) 1024).blk b = some x := hblk
  refine ⟨bk, ?_⟩
  simp only [State.finishFill, hblk, hst, if_true, hbk, hcopy, hkept, hdirty, List.isEmpty_nil]

theorem exec_fillDone_eq {t : State} (hclk : s.clk.on = true) (hfenced : s.fenced (b * 65536) = false) (hblk : s.blk b = some x)
    (hst : x.st = .filling) (hfill : s.finishFill b = t) (hwaiting : t.mem.waiting = []) (hwalkers : t.mem.walkers = []) :
    exec (.fillDone b) s = .next t := by
  change execFillDone b s = _
  simp [execFillDone, hclk, hfenced, hblk, hst, hfill, State.afterMove_of_none hwaiting hwalkers]

/-! ## The end of a drain (R186, R193) -/

theorem exec_drainDone_eq {t : State} (hclk : s.clk.on = true) (hfenced : s.fenced (b * 65536) = false) (hblk : s.blk b = some x)
    (hst : x.st = .drainKeep ∨ x.st = .drainRelease) (hdrain : s.finishDrain b = t) (hwaiting : t.mem.waiting = [])
    (hwalkers : t.mem.walkers = []) : exec (.drainDone b) s = .next t := by
  change execDrainDone b s = _
  rcases hst with e | e <;> simp [execDrainDone, hclk, hfenced, hblk, e, hdrain, State.afterMove_of_none hwaiting hwalkers]

/-- One good dirty line of a SET region goes home; the memory-side cache is empty. -/
theorem State.writeBack_one {i : Nat} (hdirty : x.dirty = [(i, true)]) (hregion : (s.region (blkRegion b)).st = 2) (hcache : s.mem.cache = [])
    (hmark : s.fmark (b * 1024 + i) = .ok) : ∃ bk, s.writeBack b x =
      ((s.withBucket bk).moverCycles (blkHalf b) 1).dramPut (b * 1024 + i) (s.frameLine (b * 1024 + i)) := by
  obtain ⟨bk, hbk⟩ := s.charge_eq (b * 1024) 1
  have hset : ((s.withBucket bk).moverCycles (blkHalf b) 1).ensureSet (blkRegion b) = (s.withBucket bk).moverCycles (blkHalf b) 1 :=
    State.ensureSet_of_set hregion
  have hkept : ((s.withBucket bk).moverCycles (blkHalf b) 1).fmark (b * 1024 + i) = .ok := hmark
  have hline : ((s.withBucket bk).moverCycles (blkHalf b) 1).frameLine (b * 1024 + i) = s.frameLine (b * 1024 + i) := rfl
  have hnone : ((s.withBucket bk).moverCycles (blkHalf b) 1).cline (b * 1024 + i) = none := by
    change (s.mem.cache.find? _).map _ = none
    rw [hcache]
    rfl
  refine ⟨bk, ?_⟩
  simp only [State.writeBack, hdirty, List.isEmpty_cons, Bool.false_eq_true, if_false, List.length_singleton, hbk, hset, List.foldl_cons,
    List.foldl_nil, hkept, reduceCtorEq, State.homePut_of_dram hnone, hline]

theorem State.finishDrain_of_keep (hblk : s.blk b = some x) (hst : x.st = .drainKeep) :
    s.finishDrain b = (s.writeBack b x).setBlk b (some { x with st := .clean, dirty := [] }) := by
  simp only [State.finishDrain, hblk, hst]

theorem State.releaseBlk_blk (s : State) (b c : Nat) : (s.releaseBlk b).blk c = (s.setBlk b none).blk c := rfl

@[simp] theorem State.releaseBlk_due (s : State) (b : Nat) : (s.releaseBlk b).mem.due = s.mem.due := rfl

@[simp] theorem State.releaseBlk_waiting (s : State) (b : Nat) : (s.releaseBlk b).mem.waiting = s.mem.waiting := rfl

@[simp] theorem State.releaseBlk_walkers (s : State) (b : Nat) : (s.releaseBlk b).mem.walkers = s.mem.walkers := rfl

@[simp] theorem State.releaseBlk_regs (s : State) (b : Nat) : (s.releaseBlk b).regs = s.regs := rfl

@[simp] theorem State.releaseBlk_cores (s : State) (b : Nat) : (s.releaseBlk b).cores = s.cores := rfl

/-- A frame for which no fill waits is given up. -/
theorem State.finishDrain_of_release (hblk : s.blk b = some x) (hst : x.st = .drainRelease) (hdue : mget none s.mem.due b = none) :
    s.finishDrain b = (s.writeBack b x).releaseBlk b := by
  have hnone : mget none ((s.writeBack b x).releaseBlk b).mem.due b = none := by
    rw [State.releaseBlk_due, State.writeBack_due, hdue]
  simp only [State.finishDrain, hblk, hst, State.startDue, hnone]

/-! ## The slots of a bank (R208) -/

theorem State.tryLine_cores (w : WaitAcc) : (s.tryLine w).s.cores = s.cores := by
  unfold State.tryLine
  dsimp only
  split
  · rfl
  · exact (State.serveAs_mframe _ _ _ (MemFrame.refl s)).cores

theorem State.lineAccess_cores (w : WaitAcc) : (s.lineAccess w).cores = s.cores := by
  unfold State.lineAccess
  dsimp only
  split
  · rfl
  · split
    · rfl
    · split <;> exact State.tryLine_cores w

theorem State.retry_cores (p : WaitAcc → Bool) : (s.retry p).cores = s.cores :=
  List.foldlRecOn (motive := fun t : State => t.cores = s.cores) _ _ rfl fun t ht w _ => by
    split
    · exact (State.lineAccess_cores w).trans ht
    · exact ht

theorem State.grant_cores (st bank : Nat) (w : WaitAcc) : (s.grant st bank w).cores = s.cores :=
  (State.retry_cores _).trans (State.tryLine_cores w)

theorem State.grant_bankLast (st bank : Nat) (w : WaitAcc) :
    mget 0 (s.grant st bank w).mem.bankLast (st * 4096 + bank) = turnOf w.who + 1 := by
  rw [State.grant, State.setBankLast, mget_mset_self]

theorem exec_bankSlotGrant_of_winner {st bank : Nat} {w : WaitAcc} (hclk : s.clk.on = true) (h : s.slotWinner st bank = some w) :
    exec (.bankSlotGrant st bank) s = .next (s.grant st bank w) := by
  change execBankSlotGrant st bank s = _
  simp [execBankSlotGrant, hclk, h]

theorem exec_bankSlotGrant_of_none {st bank : Nat} (hclk : s.clk.on = true) (h : s.slotWinner st bank = none) :
    exec (.bankSlotGrant st bank) s = .next s := by
  change execBankSlotGrant st bank s = _
  simp [execBankSlotGrant, hclk, h]

/-! ## The statement -/

/-- Settles O47: a migration is a change of its block; the ends of a fill and of a drain by what is copied and written home; a slot is a
`State.grant`. -/
theorem blocksComplete : Obligations.BlocksComplete := by
  unfold Obligations.BlocksComplete
  refine ⟨?free, ?present, ?skipped, ?filled, ?kept, ?released, ?slot, ?noSlot⟩
  case free =>
    rintro s h w b cls tag way hclk howner hb hcls rfl hfixed hfenced hblk hdue hfind
    exact ⟨_, exec_fillStart_eq hclk howner hb hcls (State.migrate_of_free hfixed hfenced tag hblk hdue hfind),
      (State.startFill_blk _ _ _ _ _ _ _).trans (State.setBlk_blk_self _ _ _),
      fun c hc => (State.startFill_blk _ _ _ _ _ _ _).trans (State.setBlk_blk_ne _ hc), mget_mset_self _ _ _ _, rfl⟩
  case present =>
    rintro s h w b cls tag x hclk howner hb hcls rfl hfixed hfenced hblk hst
    exact ⟨_, exec_fillStart_eq hclk howner hb hcls (State.migrate_of_present hfixed hfenced w cls tag hblk hst),
      State.setBlk_blk_self _ _ _, fun c hc => State.setBlk_blk_ne _ hc, rfl⟩
  case skipped =>
    intro s h w b cls tag hclk hskip
    exact ⟨_, exec_fillStart_skipped w cls tag hclk hskip, rfl⟩
  case filled =>
    intro s b x hclk hblk hst hdirty hfenced hregion hcache hmarks hwaiting hfinds hwalkers
    obtain ⟨bk, hfill⟩ := State.finishFill_of_sound hblk hst hdirty hregion hcache hfinds hmarks
    refine ⟨_, exec_fillDone_eq hclk hfenced hblk hst hfill ?waiting ?walkers, ?blk, fun l hl => ⟨?line, ?mark⟩, ?others, rfl, ?frame⟩
    case waiting => exact hwaiting
    case walkers => exact hwalkers
    case blk => exact State.setBlk_blk_self _ _ _
    case line => exact State.frameCopied_frameLine (s := s.withBucket bk) hl
    case mark => exact (State.frameCopied_fmark (s := s.withBucket bk) hl).trans (State.mark_of_unmarked (s := s) hmarks hl)
    case others => exact fun c hc => State.setBlk_blk_ne _ hc
    case frame => simp only [State.setBlk, State.moverCycles, State.frameCopied, State.withBucket]
  case kept =>
    intro s b i x hclk hblk hst hdirty _ hfenced hregion hcache hmark hwaiting hwalkers
    obtain ⟨bk, hback⟩ := State.writeBack_one hdirty hregion hcache hmark
    have hdrain := State.finishDrain_of_keep hblk hst
    rw [hback] at hdrain
    refine ⟨_, exec_drainDone_eq hclk hfenced hblk (.inl hst) hdrain ?waiting ?walkers, ?line, fun l hl => ?lines, ?blk, ?others, rfl, ?frame⟩
    case waiting => exact hwaiting
    case walkers => exact hwalkers
    case line => exact (State.setBlk_dramLine _ _ _ _).trans (State.dramPut_dramLine_self (length_bytesAt _ _ _))
    case lines => exact (State.setBlk_dramLine _ _ _ _).trans (State.dramPut_dramLine_ne _ hl)
    case blk => exact State.setBlk_blk_self _ _ _
    case others => exact fun c hc => State.setBlk_blk_ne _ hc
    case frame => simp only [State.setBlk, State.dramPut, State.setMark, State.moverCycles, State.withBucket]
  case released =>
    intro s b x hclk hblk hst hfenced _ hwaiting hdue hwalkers
    refine ⟨_, exec_drainDone_eq hclk hfenced hblk (.inr hst) (State.finishDrain_of_release hblk hst hdue) ?waiting ?walkers, ?blk,
      fun c hc => ?others, ?regs, ?cores⟩
    case waiting => rw [State.releaseBlk_waiting, State.writeBack_waiting, hwaiting]
    case walkers => rw [State.releaseBlk_walkers, State.writeBack_walkers, hwalkers]
    case blk => rw [State.releaseBlk_blk, State.setBlk_blk_self]
    case others => rw [State.releaseBlk_blk, State.setBlk_blk_ne _ hc, State.writeBack_blk]
    case regs => rw [State.releaseBlk_regs, State.writeBack_regs]
    case cores => rw [State.releaseBlk_cores, State.writeBack_cores]
  case slot =>
    intro s st bank w hclk hwinner
    exact ⟨_, exec_bankSlotGrant_of_winner hclk hwinner, State.grant_bankLast st bank w, rfl, State.grant_cores st bank w⟩
  case noSlot =>
    intro s st bank hclk hnone
    exact ⟨_, exec_bankSlotGrant_of_none hclk hnone, rfl⟩

end Sys2Proof.Machine
end

section
/-! PROOFS. What a move of a block leaves: the cores, and what the walkers handle (R186, R199, R200). -/

namespace Sys2Proof.Machine

open Sys2Proof Sys2Proof.Safety

variable {s t u : State}

/-! ## The walkers' own state -/

theorem walkers_foldl {β : Type} {f : State → β → State} {l : List β} (hf : ∀ t e, (f t e).mem.walkers = t.mem.walkers) :
    (l.foldl f s).mem.walkers = s.mem.walkers :=
  List.foldlRecOn (motive := fun t : State => t.mem.walkers = s.mem.walkers) _ _ rfl fun t ht e _ => (hf t e).trans ht

@[simp] theorem State.raise_walkers (s : State) (e : EvRec) : (s.raise e).mem.walkers = s.mem.walkers := by rw [State.raise_mem]

@[simp] theorem State.memEvent_walkers (s : State) (st low cls off status : Nat) :
    (s.memEvent st low cls off status).mem.walkers = s.mem.walkers := s.raise_walkers _

@[simp] theorem State.memErr_walkers (s : State) (st off status : Nat) : (s.memErr st off status).mem.walkers = s.mem.walkers := by
  rw [State.memErr, State.setF_mem, State.setF_mem]

theorem State.bump_walkers (s : State) (a : Nat) (f : Fld) (n : Nat) : (s.bump a f n).mem.walkers = s.mem.walkers := by
  rw [State.bump_mem]

@[simp] theorem State.setMark_walkers (s : State) (line : Nat) (m : Mark) : (s.setMark line m).mem.walkers = s.mem.walkers := rfl

@[simp] theorem State.dramPoison_walkers (s : State) (line : Nat) : (s.dramPoison line).mem.walkers = s.mem.walkers := rfl

@[simp] theorem State.setBlk_walkers (s : State) (b : Nat) (x : Option Blk) : (s.setBlk b x).mem.walkers = s.mem.walkers := rfl

@[simp] theorem State.moverCycles_walkers (s : State) (k n : Nat) : (s.moverCycles k n).mem.walkers = s.mem.walkers := rfl

@[simp] theorem State.charge_walkers (s : State) (line n : Nat) : (s.charge line n).mem.walkers = s.mem.walkers :=
  State.kept_of_offHome (fun t => t.mem.walkers) (fun _ => rfl) (State.charge_offHome line n)

@[simp] theorem State.dramRead_walkers (s : State) (line : Nat) (f : LineFault) : (s.dramRead line f).1.mem.walkers = s.mem.walkers := by
  unfold State.dramRead
  dsimp only
  repeat' split
  all_goals simp only [State.memEvent_walkers, State.memErr_walkers, State.bump_walkers, State.setMark_walkers, State.dramPoison_walkers]

@[simp] theorem State.takeDirty_walkers (s : State) (b : Nat) (x : Blk) (e : Nat × CLine) :
    (s.takeDirty b x e).mem.walkers = s.mem.walkers := by
  unfold State.takeDirty
  dsimp only
  split <;> rfl

@[simp] theorem State.copyFrame_walkers (s : State) (b : Nat) : (s.copyFrame b).mem.walkers = s.mem.walkers := by
  have hreads := walkers_foldl (s := s) (l := s.fillReads b) (f := fun s e => (s.dramRead e.1 e.2).1) fun t e => t.dramRead_walkers e.1 e.2
  exact hreads

@[simp] theorem State.fillCopy_walkers (s : State) (b : Nat) (x : Blk) : (s.fillCopy b x).mem.walkers = s.mem.walkers := by
  unfold State.fillCopy
  split
  · rfl
  · rfl
  · exact (walkers_foldl fun t e => t.takeDirty_walkers b x e).trans (s.copyFrame_walkers b)

@[simp] theorem State.finishFill_walkers (s : State) (b : Nat) : (s.finishFill b).mem.walkers = s.mem.walkers := by
  unfold State.finishFill
  split
  · split
    · dsimp only
      split <;> simp
    · rfl
  · rfl

@[simp] theorem State.startDue_walkers (s : State) (v : Nat) : (s.startDue v).mem.walkers = s.mem.walkers := by
  unfold State.startDue
  split
  · rfl
  · split <;> rfl

@[simp] theorem State.finishDrain_walkers (s : State) (b : Nat) : (s.finishDrain b).mem.walkers = s.mem.walkers := by
  unfold State.finishDrain
  split
  · split <;> simp
  · rfl

theorem State.settle_walkers (s : State) (b : Nat) : (s.settle b).mem.walkers = s.mem.walkers := by
  unfold State.settle
  split
  · rfl
  · split
    · split <;> simp
    · rfl

/-! ## Moves of blocks -/

/-- From `s` to `t` neither the cores nor the walkers' own state differ. -/
structure MoveFrame (s t : State) : Prop where
  cores : t.cores = s.cores
  walkers : t.mem.walkers = s.mem.walkers

theorem MoveFrame.refl (s : State) : MoveFrame s s := ⟨rfl, rfl⟩

theorem MoveFrame.trans (h : MoveFrame s t) (k : MoveFrame t u) : MoveFrame s u :=
  ⟨k.cores.trans h.cores, k.walkers.trans h.walkers⟩

theorem State.settle_moveFrame (s : State) (b : Nat) : MoveFrame s (s.settle b) :=
  ⟨(State.settle_mframe s b (MemFrame.refl s)).cores, s.settle_walkers b⟩

theorem State.evict_moveFrame (s : State) (b : Nat) : MoveFrame s (s.evict b) := by
  unfold State.evict
  split
  · split <;> exact ⟨rfl, rfl⟩
  · exact ⟨rfl, rfl⟩

theorem State.cleanBlk_moveFrame (s : State) (b : Nat) : MoveFrame s (s.cleanBlk b) := by
  unfold State.cleanBlk
  split
  · split <;> exact ⟨rfl, rfl⟩
  · exact ⟨rfl, rfl⟩

theorem State.migrate_moveFrame (s : State) (k w b cls tag : Nat) : MoveFrame s (s.migrate k w b cls tag).1 := by
  unfold State.migrate
  split
  · exact MoveFrame.refl s
  · refine (s.settle_moveFrame b).trans ?_
    generalize s.settle b = t
    dsimp only
    split
    · exact ⟨rfl, rfl⟩
    · exact ⟨rfl, rfl⟩
    · split
      · exact ⟨rfl, rfl⟩
      · split
        · split
          · exact ⟨rfl, rfl⟩
          · have hevict := t.evict_moveFrame
            exact ⟨(hevict _).cores, (hevict _).walkers⟩
        · exact ⟨rfl, rfl⟩
      · exact ⟨rfl, rfl⟩

/-- One turn of a walker. -/
theorem State.walkGo_moveFrame (k w op cls tag n : Nat) : ∀ (s : State) (b : Nat), MoveFrame s (s.walkGo k w op cls tag n b).1 := by
  induction n with
  | zero => exact fun s b => MoveFrame.refl s
  | succ n ih =>
    intro s b
    unfold State.walkGo
    split
    · exact ih s _
    · split
      · have hmig := s.migrate_moveFrame k w b cls tag
        generalize s.migrate k w b cls tag = r at hmig ⊢
        obtain ⟨t, res⟩ := r
        cases res with
        | started | draining | noFrame => exact hmig
        | present | skipped => exact hmig.trans (ih t _)
      · have hop : MoveFrame s (if op = 1 then (s.settle b).evict b else (s.settle b).cleanBlk b) := by
          split
          · exact (s.settle_moveFrame b).trans (State.evict_moveFrame _ b)
          · exact (s.settle_moveFrame b).trans (State.cleanBlk_moveFrame _ b)
        dsimp only
        generalize (if op = 1 then (s.settle b).evict b else (s.settle b).cleanBlk b) = t at hop ⊢
        split
        · exact hop
        · exact hop.trans (ih _ _)

/-- One block of an operation of TIER_OP_CTRL. -/
theorem State.opBlock_moveFrame (s : State) (k op cls w b : Nat) : MoveFrame s (s.opBlock k op cls w b).1 := by
  unfold State.opBlock
  split
  · exact MoveFrame.refl s
  · split
    · have hmig := s.migrate_moveFrame k w b cls 0
      generalize s.migrate k w b cls 0 = r at hmig ⊢
      obtain ⟨t, res⟩ := r
      cases res <;> exact hmig
    · dsimp only
      split
      · exact (s.settle_moveFrame b).trans (State.evict_moveFrame _ b)
      · exact (s.settle_moveFrame b).trans (State.cleanBlk_moveFrame _ b)

/-! ## Turns of the walkers (R199, R200) -/

/-- From `s` to `t` neither the cores differ nor which entries the walkers handle. -/
structure WalkFrame (s t : State) : Prop where
  cores : t.cores = s.cores
  active : ∀ h w, (t.walker h w).active = (s.walker h w).active
  entry : ∀ h w, (t.walker h w).entry = (s.walker h w).entry

theorem WalkFrame.refl (s : State) : WalkFrame s s := ⟨rfl, fun _ _ => rfl, fun _ _ => rfl⟩

theorem WalkFrame.trans (h : WalkFrame s t) (k : WalkFrame t u) : WalkFrame s u :=
  ⟨k.cores.trans h.cores, fun i w => (k.active i w).trans (h.active i w), fun i w => (k.entry i w).trans (h.entry i w)⟩

theorem State.walker_congr (h : t.mem.walkers = s.mem.walkers) (k w : Nat) : t.walker k w = s.walker k w := by
  rw [State.walker, h, State.walker]

theorem MoveFrame.walkFrame (h : MoveFrame s t) : WalkFrame s t :=
  ⟨h.cores, fun k w => by rw [State.walker_congr h.walkers], fun k w => by rw [State.walker_congr h.walkers]⟩

@[simp] theorem State.setWalker_walker_self (s : State) (k w : Nat) (x : Walker) : (s.setWalker k w x).walker k w = x :=
  mget_mset_self _ _ _ _

theorem WalkFrame.setF (h : WalkFrame s t) (a : Nat) (f : Fld) (n : Nat) : WalkFrame s (t.setF a f n) := ⟨h.cores, h.active, h.entry⟩

theorem WalkFrame.setWalkNext (h : WalkFrame s t) (k w : Nat) : WalkFrame s (t.setWalkNext k w) := ⟨h.cores, h.active, h.entry⟩

/-- A walker that goes on to another block handles the same entry. -/
theorem State.setWalker_next_walkFrame (s : State) (k w n : Nat) : WalkFrame s (s.setWalker k w { s.walker k w with next := n }) := by
  have hwalker (i v : Nat) : (s.setWalker k w { s.walker k w with next := n }).walker i v =
      if i * 8 + v = k * 8 + w then { s.walker k w with next := n } else s.walker i v := by
    split
    · next e =>
      rw [State.walker, e]
      exact mget_mset_self _ _ _ _
    · next e => exact mget_mset_ne _ _ _ _ e
  have hsame {i v : Nat} (e : i * 8 + v = k * 8 + w) : s.walker i v = s.walker k w := by rw [State.walker, e, State.walker]
  refine ⟨rfl, fun i v => ?_, fun i v => ?_⟩
  all_goals
    rw [hwalker]
    split
    · next e => rw [hsame e]
    · rfl

theorem State.walkServe_walkFrame (s : State) (k w : Nat) : WalkFrame s (s.walkServe k w) := by
  unfold State.walkServe State.setWalkSt
  dsimp only
  generalize hgo : s.walkGo k w _ _ _ _ _ = r
  have hmove : MoveFrame s r.1 := hgo ▸ State.walkGo_moveFrame k w _ _ _ _ s _
  have hnext := r.1.setWalker_next_walkFrame k w r.2.1
  rw [State.walker_congr hmove.walkers] at hnext
  exact (hmove.walkFrame.trans hnext).setF _ _ _

theorem State.walkTurns_walkFrame (k n : Nat) : ∀ s : State, WalkFrame s (s.walkTurns k n) := by
  induction n with
  | zero => exact WalkFrame.refl
  | succ n ih =>
    intro s
    unfold State.walkTurns
    split
    · exact WalkFrame.refl s
    · split
      · exact WalkFrame.refl s
      · next w _ =>
        exact ((s.walkServe_walkFrame k w).setWalkNext k _).trans (ih _)

theorem State.walkOn_walkFrame (s : State) (k w : Nat) : WalkFrame s (s.walkOn k w) :=
  (s.walkServe_walkFrame k w).trans (State.walkTurns_walkFrame k 32 (s.walkServe k w))

/-- Reading an entry (R198). -/
theorem State.readEntry_cores (s : State) (k w : Nat) : (s.readEntry k w).1.cores = s.cores := by
  unfold State.readEntry
  dsimp only
  generalize worst _ _ = c
  split
  · rfl
  · exact (State.uRead_mframe _ _ _ _ _ (MemFrame.refl s)).cores

end Sys2Proof.Machine
end

section
/-! PROOFS. The walkers (R198, R199, R216) and the operations of TIER_OP_CTRL (R202). -/

namespace Sys2Proof.Machine

open Sys2Proof Sys2Proof.Safety

variable {s t : State} {who : Requester} {h w : Nat}

/-! ## The registers of a walker (R216) -/

theorem walkCtrl_ne_walkStatus (h w : Nat) : R.TIER_WALK_CTRL h w ≠ R.TIER_WALK_STATUS h w := by
  unfold R.TIER_WALK_CTRL R.TIER_WALK_STATUS
  omega

theorem walkLen_ne_walkStatus (h w : Nat) : R.TIER_WALK_LEN h w ≠ R.TIER_WALK_STATUS h w := by
  unfold R.TIER_WALK_LEN R.TIER_WALK_STATUS
  omega

theorem walkLen_ne_walkCtrl (h w : Nat) : R.TIER_WALK_LEN h w ≠ R.TIER_WALK_CTRL h w := by
  unfold R.TIER_WALK_LEN R.TIER_WALK_CTRL
  omega

/-- A walker's status is no loss counter. -/
theorem walkStatus_ne_evtLoss (h w p : Nat) (hp : p < 3) : R.TIER_WALK_STATUS h w ≠ R.EVT_LOSS p := by
  unfold R.TIER_WALK_STATUS R.EVT_LOSS
  omega

section
variable (s : State) (h w : Nat)

@[simp] theorem State.setWalker_reg (x : Walker) (a : Nat) : (s.setWalker h w x).reg a = s.reg a := rfl

@[simp] theorem State.setWalker_blocks (x : Walker) : (s.setWalker h w x).mem.blocks = s.mem.blocks := rfl

theorem State.walkHalt_mem (st : Nat) : (s.walkHalt h w st).mem = s.mem := by
  unfold State.walkHalt State.setWalkSt
  rw [State.setF_mem, State.setF_mem, State.setF_mem, State.setF_mem]

@[simp] theorem State.setWalker_walkSt (x : Walker) (f : Fld) : (s.setWalker h w x).walkSt h w f = s.walkSt h w f := rfl

@[simp] theorem State.answer_rf (a : Nat) (f : Fld) (st : Nat) (v : W64) (bs : List Byte) : (s.answer st v bs).rf a f = s.rf a f := rfl

@[simp] theorem State.answer_walkSt (f : Fld) (st : Nat) (v : W64) (bs : List Byte) :
    (s.answer st v bs).walkSt h w f = s.walkSt h w f := rfl

@[simp] theorem State.answer_walker (st : Nat) (v : W64) (bs : List Byte) : (s.answer st v bs).walker h w = s.walker h w := rfl

theorem State.setF_walker (a : Nat) (f : Fld) (x : Nat) : (s.setF a f x).walker h w = s.walker h w := by
  rw [State.walker, State.setF_mem, State.walker]

variable {f g : Fld} {x : Nat}

theorem State.setWalkSt_walkSt_self (hf : f.lsb + f.width ≤ 64) (hx : x < 2 ^ f.width) : (s.setWalkSt h w f x).walkSt h w f = x :=
  (State.setF_rf_self _ _ hf).trans (Nat.mod_eq_of_lt hx)

theorem State.setWalkSt_walkSt_other (hg : g.lsb + g.width ≤ 64) (hd : g.lsb + g.width ≤ f.lsb ∨ f.lsb + f.width ≤ g.lsb) :
    (s.setWalkSt h w f x).walkSt h w g = s.walkSt h w g := State.setF_rf_other _ _ hg hd

end

/-! ## Walkers and registers alone -/

/-- From `s` to `t` nothing but registers and the walkers' own state differs. -/
def WalkerOnly (s t : State) : Prop := t = { s with mem := { s.mem with walkers := t.mem.walkers }, regs := t.regs }

theorem WalkerOnly.refl (s : State) : WalkerOnly s s := rfl

theorem WalkerOnly.setReg (k : WalkerOnly s t) (a : Nat) (v : W64) : WalkerOnly s (t.setReg a v) := by
  unfold WalkerOnly
  conv_lhs => rw [k]
  rfl

theorem WalkerOnly.plainWrite (k : WalkerOnly s t) (a : Nat) (v : W64) (lo hi : Nat) : WalkerOnly s (t.plainWrite a v lo hi) := k.setReg a _

theorem WalkerOnly.setWalkSt (k : WalkerOnly s t) (h w : Nat) (f : Fld) (x : Nat) : WalkerOnly s (t.setWalkSt h w f x) := k.setReg _ _

theorem WalkerOnly.setWalker (k : WalkerOnly s t) (h w : Nat) (x : Walker) : WalkerOnly s (t.setWalker h w x) := by
  unfold WalkerOnly
  conv_lhs => rw [k]
  rfl

theorem WalkerOnly.answer_eq (k : WalkerOnly s t) (st : Nat) (v : W64) (bs : List Byte) : t.answer st v bs =
    { s with mem := { s.mem with walkers := (t.answer st v bs).mem.walkers }, regs := (t.answer st v bs).regs, resp := (t.answer st v bs).resp } := by
  conv_lhs => rw [k]
  rfl

theorem RegFrame.answer_eq {p : Nat → Prop} (k : RegFrame p s t) (st : Nat) (v : W64) (bs : List Byte) :
    t.answer st v bs = { s with regs := (t.answer st v bs).regs, resp := (t.answer st v bs).resp } := by
  conv_lhs => rw [k.rest]
  rfl

/-! ## Writes of TIER_WALK_CTRL (R216) -/

theorem exec_walkEnable_of_served (v : W64) (hnow : ServedNow s who = true) (hreach : s.reach who (R.TIER_WALK_CTRL h w) = St.ok) :
    exec (.walkEnable who h w v) s = .next ((s.walkWrite h w (setFld v 0 1 1)).answer St.ok) :=
  (State.byHost_eq hnow hreach).trans (congrArg Host.Outcome.next (State.ctlDo_ok hreach rfl))

theorem exec_walkDisable_of_served (hnow : ServedNow s who = true) (hreach : s.reach who (R.TIER_WALK_CTRL h w) = St.ok) :
    exec (.walkDisable who h w) s = .next ((s.walkOff h w).answer St.ok) :=
  (State.byHost_eq hnow hreach).trans (congrArg Host.Outcome.next (State.ctlDo_ok hreach rfl))

theorem exec_walkResume_of_served (hnow : ServedNow s who = true) (hreach : s.reach who (R.TIER_WALK_CTRL h w) = St.ok) :
    exec (.walkResume who h w) s = .next ((s.walkRetry h w).answer St.ok) :=
  (State.byHost_eq hnow hreach).trans (congrArg Host.Outcome.next (State.ctlDo_ok hreach rfl))

/-- ENABLE is set in a word written to enable a walker. -/
theorem bitAt_setFld_enable (v : W64) : bitAt (setFld v 0 1 1).toNat 0 = true := by
  have hfld : fld (setFld v 0 1 1) 0 1 = 1 := fld_setFld_self v 1 (by decide)
  exact decide_eq_true hfld

/-- Walker (h, w) at its first entry: its status zero, and nothing handled. -/
def State.walkCleared (s : State) (h w : Nat) : State := (s.setReg (R.TIER_WALK_STATUS h w) 0).setWalker h w {}

theorem State.walkCleared_reg_ne {a : Nat} (ha : a ≠ R.TIER_WALK_STATUS h w) : (s.walkCleared h w).reg a = s.reg a := by
  rw [State.walkCleared, State.setWalker_reg, State.setReg_reg_ne _ ha]

theorem State.walkCleared_walkSt (s : State) (h w : Nat) {f : Fld} (hf : fld 0 f.lsb f.width = 0) :
    (s.walkCleared h w).walkSt h w f = 0 := by
  rw [State.walkSt, State.rf, State.walkCleared, State.setWalker_reg, State.setReg_reg_self, hf]

theorem WalkerOnly.walkCleared (k : WalkerOnly s t) (h w : Nat) : WalkerOnly s (t.walkCleared h w) := (k.setReg _ 0).setWalker h w {}

theorem State.walkCleared_walker (s : State) (h w : Nat) : (s.walkCleared h w).walker h w = {} := by
  rw [State.walkCleared, State.setWalker_walker_self]

/-- A walker with entries starts, unless LC_ENGINE runs a program of another ward. -/
theorem State.walkStart_runs (hforeign : (s.walkCleared h w).foreignEngine h (s.walkCtl h w F.TIER_WALK_CTRL_LC_ENGINE) w = false)
    (hlen : s.rf (R.TIER_WALK_LEN h w) F.TIER_WALK_LEN_ENTRIES ≠ 0) :
    s.walkStart h w = (s.walkCleared h w).setWalkSt h w F.TIER_WALK_STATUS_RUNNING 1 := by
  have hctl : (s.walkCleared h w).walkCtl h w F.TIER_WALK_CTRL_LC_ENGINE = s.walkCtl h w F.TIER_WALK_CTRL_LC_ENGINE := by
    rw [State.walkCtl, State.rf, State.walkCleared_reg_ne (walkCtrl_ne_walkStatus h w), State.walkCtl, State.rf]
  rw [← hctl] at hforeign
  rw [State.rf, ← State.walkCleared_reg_ne (walkLen_ne_walkStatus h w), ← State.rf] at hlen
  unfold State.walkCleared at hforeign hlen ⊢
  unfold State.walkStart
  dsimp only
  rw [hforeign, if_neg Bool.false_ne_true, if_neg hlen]

/-- A walker that was not enabled is written, and starts. -/
theorem State.walkWrite_enables {v : W64} (hoff : s.rf (R.TIER_WALK_CTRL h w) F.TIER_WALK_CTRL_ENABLE = 0) (hbit : bitAt v.toNat 0 = true)
    (hforeign : ((s.plainWrite (R.TIER_WALK_CTRL h w) v 0 64).walkCleared h w).foreignEngine h
      ((s.plainWrite (R.TIER_WALK_CTRL h w) v 0 64).walkCtl h w F.TIER_WALK_CTRL_LC_ENGINE) w = false)
    (hlen : s.rf (R.TIER_WALK_LEN h w) F.TIER_WALK_LEN_ENTRIES ≠ 0) : s.walkWrite h w v =
      ((s.plainWrite (R.TIER_WALK_CTRL h w) v 0 64).walkCleared h w).setWalkSt h w F.TIER_WALK_STATUS_RUNNING 1 := by
  have hon : s.rf (R.TIER_WALK_CTRL h w) F.TIER_WALK_CTRL_ENABLE ≠ 1 := by omega
  rw [State.rf, ← State.plainWrite_reg_ne v 0 64 (walkLen_ne_walkCtrl h w), ← State.rf] at hlen
  rw [State.walkWrite, if_neg hon, if_pos hbit, State.walkStart_runs hforeign hlen]

/-- A walker that is written off. -/
theorem State.walkOff_frame (s : State) (h w : Nat) :
    RegFrame (fun a => a = R.TIER_WALK_CTRL h w ∨ a = R.TIER_WALK_STATUS h w) s (s.walkOff h w) :=
  (((RegFrame.refl _ s).setF (.inl rfl) _ _).setF (.inr rfl) _ _).setF (.inr rfl) _ _

theorem State.walkOff_enable (s : State) (h w : Nat) : (s.walkOff h w).rf (R.TIER_WALK_CTRL h w) F.TIER_WALK_CTRL_ENABLE = 0 := by
  rw [State.walkOff, State.setWalkSt, State.setF_rf_ne _ _ _ (walkCtrl_ne_walkStatus h w), State.setWalkSt,
    State.setF_rf_ne _ _ _ (walkCtrl_ne_walkStatus h w), State.setF_rf_self _ _ (by decide), Nat.zero_mod]

theorem State.walkOff_walkSt (s : State) (h w : Nat) : (s.walkOff h w).walkSt h w F.TIER_WALK_STATUS_RUNNING = 0 ∧
    (s.walkOff h w).walkSt h w F.TIER_WALK_STATUS_WAITING = 0 ∧
    (s.walkOff h w).walkSt h w F.TIER_WALK_STATUS_POS = s.walkSt h w F.TIER_WALK_STATUS_POS := by
  have hctrl (f : Fld) (x : Nat) (g : Fld) : (s.setF (R.TIER_WALK_CTRL h w) f x).walkSt h w g = s.walkSt h w g :=
    State.setF_rf_ne _ _ _ (walkCtrl_ne_walkStatus h w).symm
  unfold State.walkOff
  simp (disch := decide) only [State.setWalkSt_walkSt_self, State.setWalkSt_walkSt_other, hctrl, and_self]

/-- A stopped walker that runs again. -/
def State.walkAgain (s : State) (h w : Nat) : State :=
  ((s.setWalkSt h w F.TIER_WALK_STATUS_STOPPED 0).setWalkSt h w F.TIER_WALK_STATUS_STATUS 0).setWalkSt h w F.TIER_WALK_STATUS_RUNNING 1

theorem State.walkAgain_frame (s : State) (h w : Nat) : RegFrame (· = R.TIER_WALK_STATUS h w) s (s.walkAgain h w) :=
  (((RegFrame.refl (· = R.TIER_WALK_STATUS h w) s).setF rfl _ _).setF rfl _ _).setF rfl _ _

theorem State.walkAgain_walkSt (s : State) (h w : Nat) : (s.walkAgain h w).walkSt h w F.TIER_WALK_STATUS_RUNNING = 1 ∧
    (s.walkAgain h w).walkSt h w F.TIER_WALK_STATUS_STOPPED = 0 ∧ (s.walkAgain h w).walkSt h w F.TIER_WALK_STATUS_STATUS = 0 ∧
    (s.walkAgain h w).walkSt h w F.TIER_WALK_STATUS_POS = s.walkSt h w F.TIER_WALK_STATUS_POS := by
  unfold State.walkAgain
  simp (disch := decide) only [State.setWalkSt_walkSt_self, State.setWalkSt_walkSt_other, and_self]

theorem State.walkRetry_of_stopped (hstopped : s.walkSt h w F.TIER_WALK_STATUS_STOPPED = 1)
    (hon : s.rf (R.TIER_WALK_CTRL h w) F.TIER_WALK_CTRL_ENABLE = 1) (hforeign : s.walkForeign h w = false) :
    s.walkRetry h w = s.walkAgain h w := by
  have hagain : (decide (s.walkSt h w F.TIER_WALK_STATUS_STOPPED = 1) && decide (s.walkCtl h w F.TIER_WALK_CTRL_ENABLE = 1)) = true := by
    rw [State.walkCtl, hon, hstopped]
    rfl
  rw [State.walkRetry, hforeign, if_neg Bool.false_ne_true, if_pos hagain, State.walkAgain]

/-! ## The entry at POS (R198, R199) -/

section
variable {r : State × W64 × W64 × Nat} (hclk : s.clk.on = true) (hrun : s.walkSt h w F.TIER_WALK_STATUS_RUNNING = 1)
  (hidle : (s.walker h w).active = false) (hread : s.readEntry h w = r) (hok : r.2.2.2 = St.ok)
include hclk hrun hidle hread hok

theorem exec_walkEntryStart_held (hlayer : r.1.layerReached h w (fld r.2.1 48 16) = false) :
    exec (.walkEntryStart h w) s = .next r.1 := by
  change execWalkEntryStart h w s = _
  simp [execWalkEntryStart, hclk, hrun, hidle, hread, hok, hlayer]

/-- What R199 finds of an entry that the layer counter has reached decides. -/
theorem exec_walkEntryStart_reached (hlayer : r.1.layerReached h w (fld r.2.1 48 16) = true) {c : Nat}
    (hc : worst (chk (fld r.2.2.1 32 4 ≠ 1) St.bounds) (r.1.objectChk (fld r.2.2.1 24 2) (fld r.2.2.1 26 2) (fld r.2.1 0 48)
      (fld r.2.2.1 0 23) w) = c) :
    exec (.walkEntryStart h w) s = .next (if c ≠ St.ok then r.1.walkStop h w c else
      (r.1.setWalker h w { active := true, next := fld r.2.1 16 32, entry := { w0 := r.2.1, w1 := r.2.2.1 } }).walkTurns h 32) := by
  change execWalkEntryStart h w s = _
  simp only [execWalkEntryStart, hclk, hrun, hidle, hread, hok, hlayer, hc]
  rfl

end

theorem State.raise_walkSt (s : State) (e : EvRec) (h w : Nat) (f : Fld) : (s.raise e).walkSt h w f = s.walkSt h w f :=
  State.raise_rf e f (walkStatus_ne_evtLoss h w)

/-- A walker that stops on a failed entry. -/
theorem State.walkStop_spec (s : State) (h w : Nat) {st : Nat} (hst : st < 16) :
    (s.walkStop h w st).walkSt h w F.TIER_WALK_STATUS_STOPPED = 1 ∧ (s.walkStop h w st).walkSt h w F.TIER_WALK_STATUS_RUNNING = 0 ∧
      (s.walkStop h w st).walkSt h w F.TIER_WALK_STATUS_STATUS = st ∧ (s.walkStop h w st).walker h w = {} ∧
      (s.walkStop h w st).mem.blocks = s.mem.blocks := by
  have hfits : st < 2 ^ F.TIER_WALK_STATUS_STATUS.width := Nat.lt_trans hst (by decide)
  refine ⟨?stopped, ?running, ?status, ?walker, ?blocks⟩
  case walker => rw [State.walkStop, State.walker, State.raise_mem, ← State.walker, State.setWalker_walker_self]
  case blocks => rw [State.walkStop, State.raise_mem, State.setWalker_blocks, State.walkHalt_mem]
  all_goals rw [State.walkStop, State.raise_walkSt, State.setWalker_walkSt, State.walkHalt]
  case status => exact State.setWalkSt_walkSt_self _ _ _ (by decide) hfits
  all_goals simp (disch := decide) only [State.setWalkSt_walkSt_self, State.setWalkSt_walkSt_other]

theorem exec_walkFrameAvailable_waiting (hclk : s.clk.on = true) (hrun : s.walkSt h w F.TIER_WALK_STATUS_RUNNING = 1)
    (hactive : (s.walker h w).active = true) (hwaiting : s.walkSt h w F.TIER_WALK_STATUS_WAITING = 1) :
    exec (.walkFrameAvailable h w) s = .next (s.walkOn h w) := by
  change execWalkFrameAvailable h w s = _
  simp [execWalkFrameAvailable, hclk, hrun, hactive, hwaiting]

/-- A walker without a signal, before another entry, goes on to it. -/
theorem exec_walkEntryDone_next (hclk : s.clk.on = true) (hrun : s.walkSt h w F.TIER_WALK_STATUS_RUNNING = 1)
    (hactive : (s.walker h w).active = true) (hnext : (s.walker h w).next = (s.walker h w).first + (s.walker h w).count)
    (hmoving : s.moving h (s.walker h w).first (s.walker h w).count = false) (hsig : s.walkCtl h w F.TIER_WALK_CTRL_SIG_EN = 0)
    (hpos : s.walkSt h w F.TIER_WALK_STATUS_POS + 1 < s.rf (R.TIER_WALK_LEN h w) F.TIER_WALK_LEN_ENTRIES) :
    exec (.walkEntryDone h w) s = .next ((s.setWalker h w {}).setWalkSt h w F.TIER_WALK_STATUS_POS
      (s.walkSt h w F.TIER_WALK_STATUS_POS + 1)) := by
  have hoff : (s.setWalker h w {}).walkCtl h w F.TIER_WALK_CTRL_SIG_EN = 0 := hsig
  have hsilent : (s.setWalker h w {}).walkSignal h w = s.setWalker h w {} := by
    simp only [State.walkSignal, hoff, Nat.zero_ne_one, decide_false, Bool.false_and, Bool.false_eq_true, if_false]
  have hadvance : (s.setWalker h w {}).walkAdvance h w = (s.setWalker h w {}).setWalkSt h w F.TIER_WALK_STATUS_POS
      (s.walkSt h w F.TIER_WALK_STATUS_POS + 1) := if_pos hpos
  change execWalkEntryDone h w s = _
  simp only [execWalkEntryDone, hclk, hrun, hactive, hnext, hmoving, hsilent, hadvance, Bool.not_true, Bool.not_false, Bool.false_eq_true,
    decide_true, Bool.and_self, if_false, if_true]

/-! ## Operations of TIER_OP_CTRL (R202) -/

section
variable (hnow : ServedNow s who = true) (hreach : s.reach who (R.TIER_OP_CTRL h) = St.ok)
include hnow hreach

theorem exec_tierOpMigrate_of_served (count cls w : Nat) :
    exec (.tierOpMigrate who h count cls w) s = .next ((s.tierOp h 0 count cls w).answer St.ok) :=
  (State.byHost_eq hnow hreach).trans (congrArg Host.Outcome.next (State.ctlDo_ok hreach rfl))

theorem exec_tierOpEvict_of_served (count w : Nat) :
    exec (.tierOpEvict who h count w) s = .next ((s.tierOp h 1 count 0 w).answer St.ok) :=
  (State.byHost_eq hnow hreach).trans (congrArg Host.Outcome.next (State.ctlDo_ok hreach rfl))

theorem exec_tierOpClean_of_served (count w : Nat) :
    exec (.tierOpClean who h count w) s = .next ((s.tierOp h 2 count 0 w).answer St.ok) :=
  (State.byHost_eq hnow hreach).trans (congrArg Host.Outcome.next (State.ctlDo_ok hreach rfl))

end

theorem State.opStatus_busy (s : State) (h busy st done skipped : Nat) :
    (s.opStatus h busy st done skipped).rf (R.TIER_OP_STATUS h) F.TIER_OP_STATUS_BUSY = busy % 2 := by
  rw [State.opStatus]
  simp (disch := decide) only [State.setF_rf_self, State.setF_rf_other]
  rfl

theorem State.opStatus_status (s : State) (h busy st done skipped : Nat) :
    (s.opStatus h busy st done skipped).rf (R.TIER_OP_STATUS h) F.TIER_OP_STATUS_STATUS = st % 256 := by
  rw [State.opStatus]
  simp (disch := decide) only [State.setF_rf_self, State.setF_rf_other]
  rfl

theorem State.opStatus_frame (s : State) (h busy st done skipped : Nat) :
    RegFrame (· = R.TIER_OP_STATUS h) s (s.opStatus h busy st done skipped) := by
  unfold State.opStatus
  exact ((((RegFrame.refl (· = R.TIER_OP_STATUS h) s).setF rfl _ _).setF rfl _ _).setF rfl _ _).setF rfl _ _

theorem State.opStatus_cores (s : State) (h busy st done skipped : Nat) : (s.opStatus h busy st done skipped).cores = s.cores := by
  unfold State.opStatus
  rw [State.setF_cores, State.setF_cores, State.setF_cores, State.setF_cores]

/-- The operation of a half. -/
def State.setTierOp (s : State) (h : Nat) (o : Option TierOp) : State := { s with mem := { s.mem with ops := mset none s.mem.ops h o } }

@[simp] theorem State.setTierOp_ops_self (s : State) (h : Nat) (o : Option TierOp) : mget none (s.setTierOp h o).mem.ops h = o :=
  mget_mset_self _ _ _ _

@[simp] theorem State.setTierOp_rf (s : State) (h : Nat) (o : Option TierOp) (a : Nat) (f : Fld) : (s.setTierOp h o).rf a f = s.rf a f := rfl

@[simp] theorem State.setTierOp_reg (s : State) (h : Nat) (o : Option TierOp) (a : Nat) : (s.setTierOp h o).reg a = s.reg a := rfl

@[simp] theorem State.setTierOp_cores (s : State) (h : Nat) (o : Option TierOp) : (s.setTierOp h o).cores = s.cores := rfl

theorem State.setF_setTierOp_eq (s : State) (a : Nat) (f : Fld) (x h : Nat) (o : Option TierOp) : (s.setF a f x).setTierOp h o =
    { s with
      mem := { s.mem with ops := ((s.setF a f x).setTierOp h o).mem.ops }
      regs := ((s.setF a f x).setTierOp h o).regs } := rfl

/-- One block of an operation, with the count of those skipped. -/
def opStep (h op cls w : Nat) (a : State × Nat) (b : Nat) : State × Nat :=
  ((a.1.opBlock h op cls w b).1, a.2 + b2n (a.1.opBlock h op cls w b).2)

theorem opStep_cores (h op cls w : Nat) (a : State × Nat) (b : Nat) : (opStep h op cls w a b).1.cores = a.1.cores := by
  rw [opStep]
  exact (a.1.opBlock_moveFrame h op cls w b).cores

/-- The blocks of an operation, one after another. -/
def State.opRun (s : State) (h op cls w : Nat) (l : List Nat) : State × Nat := l.foldl (opStep h op cls w) (s, 0)

theorem State.opRun_cores (s : State) (h op cls w : Nat) (l : List Nat) : (s.opRun h op cls w l).1.cores = s.cores :=
  List.foldlRecOn (motive := fun a : State × Nat => a.1.cores = s.cores) _ _ rfl fun a ha b _ => (opStep_cores h op cls w a b).trans ha

/-- The operation `op` of half `h` runs over its range, and its status says so. -/
structure OpRuns (s t : State) (h op count : Nat) : Prop where
  ops : mget none t.mem.ops h = some { op := op, first := s.rf (R.TIER_OP_ADDR h) F.TIER_OP_ADDR_ADDR / 65536, count := count }
  busy : t.rf (R.TIER_OP_STATUS h) F.TIER_OP_STATUS_BUSY = 1
  status : t.rf (R.TIER_OP_STATUS h) F.TIER_OP_STATUS_STATUS = 0
  cores : t.cores = s.cores

/-- The access that starts an operation is answered OK. -/
theorem OpRuns.answered {op count : Nat} (k : OpRuns s t h op count) :
    mget none (t.answer St.ok).mem.ops h =
        some { op := op, first := s.rf (R.TIER_OP_ADDR h) F.TIER_OP_ADDR_ADDR / 65536, count := count } ∧
      (t.answer St.ok).rf (R.TIER_OP_STATUS h) F.TIER_OP_STATUS_BUSY = 1 ∧
      (t.answer St.ok).rf (R.TIER_OP_STATUS h) F.TIER_OP_STATUS_STATUS = 0 ∧ (t.answer St.ok).resp.status = St.ok ∧
      (t.answer St.ok).cores = s.cores := by
  rw [State.answer_rf, State.answer_rf, State.answer_cores]
  exact ⟨k.ops, k.busy, k.status, rfl, k.cores⟩

/-- An operation on an object that passes its checks. -/
theorem State.tierOp_eq {op count cls : Nat} {l : List Nat} (hops : mget none s.mem.ops h = none)
    (hchk : s.objectChk op cls (s.rf (R.TIER_OP_ADDR h) F.TIER_OP_ADDR_ADDR) count w = St.ok)
    (hl : halfBlocks h (s.rf (R.TIER_OP_ADDR h) F.TIER_OP_ADDR_ADDR / 65536) count = l) : s.tierOp h op count cls w =
      ((s.opRun h op cls w l).1.opStatus h 1 0 l.length (s.opRun h op cls w l).2).setTierOp h
        (some { op := op, first := s.rf (R.TIER_OP_ADDR h) F.TIER_OP_ADDR_ADDR / 65536, count := count }) := by
  simp only [State.tierOp, hops, hchk, hl, Option.isSome_none, Bool.false_eq_true, if_false, ne_eq, not_true_eq_false]
  rfl

theorem State.tierOp_runs {op count cls : Nat} (hops : mget none s.mem.ops h = none)
    (hchk : s.objectChk op cls (s.rf (R.TIER_OP_ADDR h) F.TIER_OP_ADDR_ADDR) count w = St.ok) :
    OpRuns s (s.tierOp h op count cls w) h op count := by
  rw [State.tierOp_eq hops hchk rfl]
  refine ⟨?ops, ?busy, ?status, ?cores⟩
  case ops => rw [State.setTierOp_ops_self]
  case busy => rw [State.setTierOp_rf, State.opStatus_busy]
  case status => rw [State.setTierOp_rf, State.opStatus_status]
  case cores => rw [State.setTierOp_cores, State.opStatus_cores, State.opRun_cores]

/-- An operation on an object that fails them. -/
theorem State.tierOp_refused {op count cls c : Nat} (hops : mget none s.mem.ops h = none)
    (hchk : s.objectChk op cls (s.rf (R.TIER_OP_ADDR h) F.TIER_OP_ADDR_ADDR) count w = c) (hc : c ≠ St.ok) :
    s.tierOp h op count cls w = s.opStatus h 0 c 0 0 := by
  simp [State.tierOp, hops, hchk, hc]

/-- An object of no blocks (R199). -/
theorem State.objectChk_empty (s : State) (op cls base w : Nat) : s.objectChk op cls base 0 w = St.bounds := by
  simp [State.objectChk, chk, worst, statusRank, St.bounds, St.ok]

theorem exec_tierOpDone_of_still {o : TierOp} (hclk : s.clk.on = true) (hops : mget none s.mem.ops h = some o)
    (hmoving : s.moving h o.first o.count = false) :
    exec (.tierOpDone h) s = .next ((s.setF (R.TIER_OP_STATUS h) F.TIER_OP_STATUS_BUSY 0).setTierOp h none) := by
  change execTierOpDone h s = _
  simp only [execTierOpDone, hclk, hops, hmoving, Bool.not_true, Bool.false_eq_true, if_false, State.setTierOp]

/-! ## The statement -/

/-- Settles O48: each write of a walker's control changes its status; an entry is taken by `exec_walkEntryStart_reached`, its turns by
`WalkFrame`; an operation of TIER_OP_CTRL by `State.tierOp_runs` and `State.tierOp_refused`. -/
theorem walkersComplete : Obligations.WalkersComplete := by
  unfold Obligations.WalkersComplete
  refine ⟨?enable, ?disable, ?resume, ?held, ?stops, ?starts, ?again, ?ends, ?migrate, ?evict, ?clean, ?refused, ?done⟩
  case enable =>
    intro s who h w v _ _ hnow hreach hoff hforeign hlen
    have hrest : WalkerOnly s (((s.plainWrite (R.TIER_WALK_CTRL h w) (setFld v 0 1 1) 0 64).walkCleared h w).setWalkSt h w
        F.TIER_WALK_STATUS_RUNNING 1) := (((WalkerOnly.refl s).plainWrite _ _ _ _).walkCleared h w).setWalkSt h w _ 1
    rw [← State.walkCleared] at hforeign
    rw [exec_walkEnable_of_served v hnow hreach, State.walkWrite_enables hoff (bitAt_setFld_enable v) hforeign hlen]
    refine ⟨_, rfl, ?running, ?pos, ?pass, ?walker, ?ctrl, fun a hctrl hstatus => ?others, rfl, hrest.answer_eq _ _ _⟩
    case running => rw [State.answer_walkSt]; exact State.setWalkSt_walkSt_self _ _ _ (by decide) (by decide)
    case pos => rw [State.answer_walkSt]; simp (disch := decide) only [State.setWalkSt_walkSt_other, State.walkCleared_walkSt]
    case pass => rw [State.answer_walkSt]; simp (disch := decide) only [State.setWalkSt_walkSt_other, State.walkCleared_walkSt]
    case walker => rw [State.answer_walker, State.setWalkSt, State.setF_walker, State.walkCleared_walker]
    case ctrl =>
      rw [State.answer_reg, State.setWalkSt, State.setF_reg_ne _ _ (walkCtrl_ne_walkStatus h w),
        State.walkCleared_reg_ne (walkCtrl_ne_walkStatus h w), State.plainWrite_reg_self]
    case others =>
      rw [State.answer_reg, State.setWalkSt, State.setF_reg_ne _ _ hstatus, State.walkCleared_reg_ne hstatus,
        State.plainWrite_reg_ne _ _ _ hctrl]
  case disable =>
    intro s who h w _ _ hnow hreach
    have hframe := s.walkOff_frame h w
    obtain ⟨hrunning, hwaiting, hpos⟩ := s.walkOff_walkSt h w
    refine ⟨_, exec_walkDisable_of_served hnow hreach, ?enable, ?running, ?waiting, ?pos, fun a hctrl hstatus => ?others, rfl,
      hframe.answer_eq _ _ _⟩
    case enable => rw [State.answer_rf, State.walkOff_enable]
    case running => rw [State.answer_walkSt, hrunning]
    case waiting => rw [State.answer_walkSt, hwaiting]
    case pos => rw [State.answer_walkSt, hpos]
    case others => rw [State.answer_reg, hframe.regs a (not_or.2 ⟨hctrl, hstatus⟩)]
  case resume =>
    intro s who h w _ _ hnow hreach hstopped hon hforeign
    have hframe := s.walkAgain_frame h w
    obtain ⟨hrunning, hcleared, hstatus, hpos⟩ := s.walkAgain_walkSt h w
    rw [exec_walkResume_of_served hnow hreach, State.walkRetry_of_stopped hstopped hon hforeign]
    refine ⟨_, rfl, ?running, ?stopped, ?status, ?pos, fun a ha => ?others, rfl, hframe.answer_eq _ _ _⟩
    case running => rw [State.answer_walkSt, hrunning]
    case stopped => rw [State.answer_walkSt, hcleared]
    case status => rw [State.answer_walkSt, hstatus]
    case pos => rw [State.answer_walkSt, hpos]
    case others => rw [State.answer_reg, hframe.regs a ha]
  case held =>
    intro s h w r hclk hrun hidle hread hok hlayer
    exact ⟨_, exec_walkEntryStart_held hclk hrun hidle hread hok hlayer, rfl⟩
  case stops =>
    intro s h w st r hclk _ _ hrun hidle hread hok hlayer hst hbad hlt
    rw [exec_walkEntryStart_reached hclk hrun hidle hread hok hlayer hst, if_pos hbad]
    exact ⟨_, rfl, r.1.walkStop_spec h w hlt⟩
  case starts =>
    intro s h w r hclk hrun hidle hread hok hlayer hvalid hchk
    have hst : worst (chk (fld r.2.2.1 32 4 ≠ 1) St.bounds) (r.1.objectChk (fld r.2.2.1 24 2) (fld r.2.2.1 26 2) (fld r.2.1 0 48)
        (fld r.2.2.1 0 23) w) = St.ok := by
      rw [hchk, hvalid]
      rfl
    rw [exec_walkEntryStart_reached hclk hrun hidle hread hok hlayer hst, if_neg (not_not.2 rfl)]
    have hcores : r.1.cores = s.cores := hread ▸ s.readEntry_cores h w
    have hturns := State.walkTurns_walkFrame h 32
      (r.1.setWalker h w { active := true, next := fld r.2.1 16 32, entry := { w0 := r.2.1, w1 := r.2.2.1 } })
    refine ⟨_, rfl, ?active, ?entry, hturns.cores.trans hcores⟩
    case active => rw [hturns.active, State.setWalker_walker_self]
    case entry => rw [hturns.entry, State.setWalker_walker_self]
  case again =>
    intro s h w hclk hrun hactive hwaiting
    have hturns := s.walkOn_walkFrame h w
    exact ⟨_, exec_walkFrameAvailable_waiting hclk hrun hactive hwaiting, rfl, (hturns.active h w).trans hactive, hturns.cores⟩
  case ends =>
    intro s h w hclk _ _ hrun hactive hnext hmoving hsig hpos
    have hentries : s.rf (R.TIER_WALK_LEN h w) F.TIER_WALK_LEN_ENTRIES < 2 ^ F.TIER_WALK_STATUS_POS.width :=
      Nat.mod_lt _ (Nat.two_pow_pos F.TIER_WALK_LEN_ENTRIES.width)
    refine ⟨_, exec_walkEntryDone_next hclk hrun hactive hnext hmoving hsig hpos, ?active, ?pos, ?running, fun a ha => ?others,
      ((WalkerOnly.refl s).setWalker h w {}).setWalkSt h w _ _⟩
    case active => rw [State.setWalkSt, State.setF_walker, State.setWalker_walker_self]
    case pos => exact State.setWalkSt_walkSt_self _ _ _ (by decide) (Nat.lt_trans hpos hentries)
    case running => simp (disch := decide) only [State.setWalkSt_walkSt_other, State.setWalker_walkSt, hrun]
    case others => rw [State.setWalkSt, State.setF_reg_ne _ _ ha, State.setWalker_reg]
  case migrate =>
    intro s who h count cls w _ hnow hreach hops hchk
    exact ⟨_, exec_tierOpMigrate_of_served hnow hreach count cls w, (State.tierOp_runs hops hchk).answered⟩
  case evict =>
    intro s who h count w _ hnow hreach hops hchk
    exact ⟨_, exec_tierOpEvict_of_served hnow hreach count w, (State.tierOp_runs hops hchk).answered⟩
  case clean =>
    intro s who h count w _ hnow hreach hops hchk
    exact ⟨_, exec_tierOpClean_of_served hnow hreach count w, (State.tierOp_runs hops hchk).answered⟩
  case refused =>
    rintro s who h _ w _ hnow hreach hops rfl
    have hframe := s.opStatus_frame h 0 St.bounds 0 0
    rw [exec_tierOpEvict_of_served hnow hreach, State.tierOp_refused hops (s.objectChk_empty 1 0 _ w) (by decide)]
    refine ⟨_, rfl, ?busy, ?status, fun a ha => ?others, rfl, hframe.answer_eq _ _ _⟩
    case busy => rw [State.answer_rf, State.opStatus_busy]
    case status => rw [State.answer_rf, State.opStatus_status]; rfl
    case others => rw [State.answer_reg, hframe.regs a ha]
  case done =>
    intro s h o hclk hops hmoving
    refine ⟨_, exec_tierOpDone_of_still hclk hops hmoving, ?idle, State.setTierOp_ops_self _ _ _, fun a ha => ?others, ?frame⟩
    case idle => rw [State.setTierOp_rf, State.setF_rf_self _ _ (by decide), Nat.zero_mod]
    case others => rw [State.setTierOp_reg, State.setF_reg_ne _ _ ha]
    case frame => exact s.setF_setTierOp_eq _ _ _ _ _

end Sys2Proof.Machine
end

section
/-! PROOFS. What the memory controllers do by themselves and on command: clearing (R234, R235), refresh (R218, R222), the patrol (R239),
retraining (R223, R470) and the region commands (R237). -/

namespace Sys2Proof.Machine

open Sys2Proof Sys2Proof.Safety

variable {s t u : State} {who : Requester} {st pc key k : Nat}

/-! ## The state of a stack and of a region (R233) -/

@[simp] theorem State.setStack_stack_self (s : State) (st : Nat) (x : Stack) : (s.setStack st x).stack st = x := mget_mset_self _ _ _ _

theorem State.setStack_stack_ne (x : Stack) (h : k ≠ st) : (s.setStack st x).stack k = s.stack k := mget_mset_ne _ _ _ _ h

@[simp] theorem State.setStack_region (s : State) (st : Nat) (x : Stack) (key : Nat) : (s.setStack st x).region key = s.region key := rfl

@[simp] theorem State.setStack_rf (s : State) (st : Nat) (x : Stack) (a : Nat) (f : Fld) : (s.setStack st x).rf a f = s.rf a f := rfl

@[simp] theorem State.setStack_hbm (s : State) (st : Nat) (x : Stack) : (s.setStack st x).mem.hbm = s.mem.hbm := rfl

@[simp] theorem State.setStack_schedOn (s : State) (st : Nat) (x : Stack) : (s.setStack st x).mem.schedOn = s.mem.schedOn := rfl

@[simp] theorem State.setRegion_region_self (s : State) (key : Nat) (x : Region) : (s.setRegion key x).region key = x := mget_mset_self _ _ _ _

theorem State.setRegion_region_ne (s : State) (x : Region) (h : k ≠ key) : (s.setRegion key x).region k = s.region k := mget_mset_ne _ _ _ _ h

@[simp] theorem State.setRegion_stack (s : State) (key : Nat) (x : Region) (st : Nat) : (s.setRegion key x).stack st = s.stack st := rfl

@[simp] theorem State.setF_stack (s : State) (a : Nat) (f : Fld) (x st : Nat) : (s.setF a f x).stack st = s.stack st := rfl

@[simp] theorem State.answer_stack (s : State) (r : Nat) (v : W64) (bs : List Byte) (st : Nat) : (s.answer r v bs).stack st = s.stack st := rfl

@[simp] theorem State.answer_region (s : State) (r : Nat) (v : W64) (bs : List Byte) (key : Nat) :
    (s.answer r v bs).region key = s.region key := rfl

/-! ## Clearing (R234, R235) -/

theorem State.finishClearing_region_self (s : State) (key : Nat) :
    (s.finishClearing key).region key = { s.region key with st := 2, rate := 0, urgent := false } := State.setRegion_region_self _ _ _

theorem State.finishClearing_region_ne (h : k ≠ key) : (s.finishClearing key).region k = s.region k := State.setRegion_region_ne _ _ h

theorem State.enterClearing_region_self (s : State) (key rate : Nat) (urgent : Bool) :
    (s.enterClearing key rate urgent).region key = { s.region key with st := 1, rate := rate, urgent := urgent } :=
  s.setRegion_region_self key { s.region key with st := 1, rate := rate, urgent := urgent }

theorem State.enterClearing_region_ne (rate : Nat) (urgent : Bool) (h : k ≠ key) :
    (s.enterClearing key rate urgent).region k = s.region k :=
  s.setRegion_region_ne { s.region key with st := 1, rate := rate, urgent := urgent } h

@[simp] theorem State.enterClearing_stack (s : State) (key rate : Nat) (urgent : Bool) (st : Nat) :
    (s.enterClearing key rate urgent).stack st = s.stack st := rfl

/-- A background clearing ends for which nothing waits. -/
theorem exec_clearingDone_of_background {region : Nat} (hclk : s.clk.on = true) (hst : (s.region (st * 65536 + region)).st = 1)
    (hlevel : s.thermLevel st ≠ 3) (hurgent : (s.region (st * 65536 + region)).urgent = false) (hbusy : s.urgentBusy st = false)
    (hwaiting : s.mem.waiting = []) : exec (.clearingDone st region) s = .next (s.finishClearing (st * 65536 + region)) := by
  have hretry (p : WaitAcc → Bool) : (s.finishClearing (st * 65536 + region)).retry p = s.finishClearing (st * 65536 + region) :=
    State.retry_of_none_waits (s := s.finishClearing (st * 65536 + region)) hwaiting p
  change execClearingDone st region s = _
  simp [execClearingDone, hclk, hst, hlevel, hurgent, hbusy, hretry]

/-- The background clearer is enabled, its stack has no clearing in progress, and a region is left to clear. -/
theorem exec_bgClearStart_of_region {r : Nat} (hclk : s.clk.on = true)
    (hon : s.rf (R.MEM_SCRUB_CTRL st) F.MEM_SCRUB_CTRL_BG_CLEAR_EN = 1) (hrate : s.clearRate st ≠ 0) (hlevel : s.thermLevel st ≠ 3)
    (hidle : s.mem.regions.any (fun e => e.1 / 65536 = st && e.2.st = 1) = false) (hregion : s.bgRegion st = some r) :
    exec (.bgClearStart st) s = .next
      ((s.enterClearing (st * 65536 + r) (s.clearRate st) false).setStack st { s.stack st with bgNext := (r + 1) % 65536 }) := by
  change execBgClearStart st s = _
  simp [execBgClearStart, hclk, hon, hidle, hregion, hrate, hlevel]

/-! ## Refresh (R218, R222) -/

theorem exec_refresh_eq (hclk : s.clk.on = true) (bank : Nat) : exec (.refresh st pc bank) s = .next
    (if (s.stack st).selfRefresh then s else s.setStack st { s.stack st with refreshes := (s.stack st).refreshes + 1 }) := by
  change execRefresh st pc bank s = _
  rw [execRefresh, hclk]
  rfl

theorem exec_refreshManagementRequest_eq (hclk : s.clk.on = true) :
    exec (.refreshManagementRequest st) s = .next (s.setStack st { s.stack st with rfm := (s.stack st).rfm + 1 }) := by
  change execRefreshManagementRequest st s = _
  rw [execRefreshManagementRequest, hclk]
  rfl

/-! ## The patrol (R239) -/

/-- The patrol finds a good line where it stands, and the position that follows is not the last. -/
theorem exec_patrolRead_of_good {pos : Nat} (hclk : s.clk.on = true) (hon : s.rf (R.MEM_SCRUB_CTRL st) F.MEM_SCRUB_CTRL_PATROL_EN = 1)
    (hlevel : s.thermLevel st ≠ 3) (hpos : s.rf (R.MEM_SCRUB_STATUS st) F.MEM_SCRUB_STATUS_PATROL_POS = pos)
    (hline : s.patrolLine st pos = some pos) (hend : pos + 1 < 2 ^ 30) (hmark : s.mark (stackAddr st (pos * 64) / 64) = .ok) :
    exec (.patrolRead st .good) s = .next (s.setF (R.MEM_SCRUB_STATUS st) F.MEM_SCRUB_STATUS_PATROL_POS (pos + 1)) := by
  have hlast : ¬ (pos < pos ∨ pos + 1 = 2 ^ 30) := by omega
  change execPatrolRead st .good s = _
  simp only [execPatrolRead, hpos, hline, State.dramRead_of_ok hmark, ite_self, if_neg hlast, Nat.mod_eq_of_lt hend]
  rw [hclk, hon, decide_eq_true hlevel]
  rfl

/-! ## Retraining (R223, R470) -/

/-- From `s` to `t` nothing but registers and the state of the stacks differs. -/
def StackOnly (s t : State) : Prop := t = { s with mem := { s.mem with stk := t.mem.stk }, regs := t.regs }

theorem StackOnly.refl (s : State) : StackOnly s s := rfl

theorem StackOnly.setF (h : StackOnly s t) (a : Nat) (f : Fld) (x : Nat) : StackOnly s (t.setF a f x) := by
  unfold StackOnly
  conv_lhs => rw [h]
  rfl

theorem StackOnly.setStack (h : StackOnly s t) (st : Nat) (x : Stack) : StackOnly s (t.setStack st x) := by
  unfold StackOnly
  conv_lhs => rw [h]
  rfl

theorem StackOnly.answer_eq (h : StackOnly s t) (st : Nat) (v : W64) (bs : List Byte) : t.answer st v bs =
    { s with mem := { s.mem with stk := (t.answer st v bs).mem.stk }, regs := (t.answer st v bs).regs, resp := (t.answer st v bs).resp } := by
  conv_lhs => rw [h]
  rfl

/-- The schedule has begun a retraining, and goes on at `pos`. -/
def State.scheduled (s : State) (pos : Nat) : State := { s with mem := { s.mem with schedOn := true, retrainPos := pos } }

theorem State.scheduled_stack (s : State) (pos st : Nat) : (s.scheduled pos).stack st = s.stack st := rfl

theorem State.scheduled_reg (s : State) (pos a : Nat) : (s.scheduled pos).reg a = s.reg a := rfl

theorem StackOnly.scheduled_eq (h : StackOnly s t) (pos : Nat) : t.scheduled pos =
    { s with
      mem := { s.mem with
        stk := (t.scheduled pos).mem.stk, schedOn := (t.scheduled pos).mem.schedOn, retrainPos := (t.scheduled pos).mem.retrainPos }
      regs := (t.scheduled pos).regs } := by
  conv_lhs => rw [h]
  rfl

theorem bitAt_eq_testBit (v i : Nat) : bitAt v i = v.testBit i := by
  rw [bitAt, Nat.testBit_eq_decide_div_mod_eq, Nat.shiftRight_eq_div_pow]

/-- A bit that was just taken out. -/
theorem bitAt_sub_two_pow (v : Nat) {i w : Nat} (h : i < w) : bitAt ((v - if bitAt v i then 2 ^ i else 0) % 2 ^ w) i = false := by
  have hmod : ∀ n, bitAt (n % 2 ^ w) i = bitAt n i := fun n => by
    rw [bitAt_eq_testBit, bitAt_eq_testBit, Nat.testBit_mod_two_pow, decide_eq_true h, Bool.true_and]
  rw [hmod]
  split
  case isTrue hbit =>
    have hdiv : (v - 2 ^ i) / 2 ^ i = v / 2 ^ i - 1 := by
      simpa using Nat.sub_mul_div v (2 ^ i) 1
    simp only [bitAt, Nat.shiftRight_eq_div_pow, decide_eq_true_eq, decide_eq_false_iff_not, hdiv] at hbit ⊢
    omega
  case isFalse hbit => simpa using hbit

section
variable (s : State) (st pc : Nat)

theorem State.startRetrain_stack_self : (s.startRetrain st pc).stack st = { s.stack st with retrain := some pc } := by
  rw [State.startRetrain, State.setStack_stack_self]

theorem State.startRetrain_stack_ne (h : k ≠ st) : (s.startRetrain st pc).stack k = s.stack k := by
  rw [State.startRetrain, State.setStack_stack_ne _ h, State.setF_stack]

theorem State.startRetrain_reg_ne {a : Nat} (h : a ≠ R.MEM_PC_ONLINE st) : (s.startRetrain st pc).reg a = s.reg a := by
  rw [State.startRetrain, State.setStack_reg, State.setF_reg_ne _ _ h]

theorem State.startRetrain_online (h : pc < 64) :
    bitAt ((s.startRetrain st pc).rf (R.MEM_PC_ONLINE st) F.MEM_PC_ONLINE_ONLINE) pc = false := by
  rw [State.startRetrain, State.setStack_rf, State.setF_rf_self _ _ (by decide)]
  exact bitAt_sub_two_pow _ h

theorem State.startRetrain_stackOnly : StackOnly s (s.startRetrain st pc) := by
  rw [State.startRetrain]
  exact ((StackOnly.refl s).setF _ _ _).setStack _ _

end

theorem exec_pcRetrainStart_of_served (hnow : ServedNow s who = true) (hreach : s.reach who (R.MEM_PC_CTRL st) = St.ok) :
    exec (.pcRetrainStart who st pc) s = .next ((s.manualRetrain st pc).answer St.ok) :=
  (State.byHost_eq hnow hreach).trans (congrArg Host.Outcome.next (State.ctlDo_ok hreach rfl))

theorem State.manualRetrain_of_none (hsched : s.mem.schedOn = false) (h : (s.stack st).retrain = none) :
    s.manualRetrain st pc = s.startRetrain st pc := by
  simp [State.manualRetrain, hsched, h]

theorem State.manualRetrain_of_some (hsched : s.mem.schedOn = false) (h : (s.stack st).retrain.isSome = true) :
    s.manualRetrain st pc = s := by
  simp [State.manualRetrain, hsched, h]

/-- A pseudo-channel is back in service, and log event PC_RETRAIN reports it. -/
def State.backOnline (s : State) (st pc : Nat) : State :=
  (s.setF (R.MEM_PC_ONLINE st) F.MEM_PC_ONLINE_ONLINE (Nat.lor (s.rf (R.MEM_PC_ONLINE st) F.MEM_PC_ONLINE_ONLINE) (2 ^ pc))).raise
    { ev (halfCode 0x1004 (st / 4)) 1 st 3 with source2 := pc }

theorem State.backOnline_mem (s : State) (st pc : Nat) : (s.backOnline st pc).mem = s.mem := by
  rw [State.backOnline, State.raise_mem, State.setF_mem]

theorem State.backOnline_stack (s : State) (st pc k : Nat) : (s.backOnline st pc).stack k = s.stack k := by
  rw [State.stack, State.backOnline_mem, State.stack]

theorem State.backOnline_online (s : State) (st : Nat) (hpc : pc < 64) :
    bitAt ((s.backOnline st pc).rf (R.MEM_PC_ONLINE st) F.MEM_PC_ONLINE_ONLINE) pc = true := by
  have hloss : ∀ p, p < 3 → R.MEM_PC_ONLINE st ≠ R.EVT_LOSS p := fun p _ => by
    unfold R.MEM_PC_ONLINE R.EVT_LOSS
    omega
  rw [State.backOnline, State.raise_rf _ _ hloss]
  exact State.bitAt_rf_setF_lor _ _ (by decide) hpc

/-- A good retraining ends, and no failure is counted any more. -/
theorem State.retrainResult_of_ok (s : State) (st pc : Nat) : s.retrainResult st pc true =
    s.setStack st { s.stack st with retrain := none, retrainFails := mset 0 (s.stack st).retrainFails pc 0 } := rfl

theorem exec_pcRetrainDone_of_good (hclk : s.clk.on = true) (h : (s.stack st).retrain = some pc) (hsched : s.mem.schedOn = false) :
    exec (.pcRetrainDone st true) s = .next ((s.backOnline st pc).retrainResult st pc true) := by
  have hoff : ((s.backOnline st pc).retrainResult st pc true).mem.schedOn = false := by
    rw [State.retrainResult_of_ok, State.setStack_schedOn, State.backOnline_mem, hsched]
  change execPcRetrainDone st true s = _
  simp only [execPcRetrainDone, hclk, h]
  change Host.Outcome.next (if ((s.backOnline st pc).retrainResult st pc true).mem.schedOn then _ else
    (s.backOnline st pc).retrainResult st pc true) = _
  rw [hoff, if_neg Bool.false_ne_true]

/-- The schedule takes the first pseudo-channel from its place on whose stack is NORMAL. -/
theorem exec_pcRetrainSchedule_of_due {p : Nat} (hclk : s.clk.on = true) (hon : s.rf R.CFG_LIVE_CTRL F.CFG_LIVE_CTRL_RETRAIN_EN = 1)
    (hmc : s.evt.mcDown = false) (hnone : (List.range 8).any (fun st => (s.stack st).retrain.isSome) = false)
    (hdue : s.mem.schedAt = 0 ∨ s.mem.schedAt + 18000000 ≤ s.now)
    (hfind : ((List.range 512).map (fun i => (s.mem.retrainPos + i) % 512)).find? (fun p => s.thermLevel (p / 64) = 0) = some p) :
    exec .pcRetrainSchedule s = .next ((s.startRetrain (p / 64) (p % 64)).scheduled ((p + 1) % 512)) := by
  have hcond : (decide (s.mem.schedAt = 0) || decide (s.mem.schedAt + 18000000 ≤ s.now)) = true := by simpa using hdue
  change execPcRetrainSchedule s = _
  simp only [execPcRetrainSchedule, hfind]
  rw [hclk, hon, hmc, hnone, hcond]
  rfl

/-! ## A region loses its content (R237) -/

/-- A state without what the loss of a region's content may change: home lines, blocks and their frames, what waits for a frame. -/
def State.offBlocks (s : State) : State :=
  { s with mem := { s.mem with
      hbm := [], marks := [], cache := [], blocks := [], frame := [], fmarks := [], due := [], wayPtr := [] } }

theorem offBlocks_foldl {β : Type} {f : State → β → State} {l : List β} (hf : ∀ t e, (f t e).offBlocks = t.offBlocks) :
    (l.foldl f s).offBlocks = s.offBlocks :=
  List.foldlRecOn (motive := fun t : State => t.offBlocks = s.offBlocks) _ _ rfl fun t ht e _ => (hf t e).trans ht

theorem State.noDue_offBlocks (s : State) (v : Nat) : (s.noDue v).offBlocks = s.offBlocks := rfl

theorem State.startFill_offBlocks (s : State) (h w b cls tag way : Nat) : (s.startFill h w b cls tag way).offBlocks = s.offBlocks := rfl

theorem State.startDue_offBlocks (s : State) (v : Nat) : (s.startDue v).offBlocks = s.offBlocks := by
  unfold State.startDue
  split
  · rfl
  · split
    · rw [State.startFill_offBlocks, State.noDue_offBlocks]
    · rw [State.noDue_offBlocks]

theorem State.dropRegion_offBlocks (s : State) (key : Nat) : (s.dropRegion key).offBlocks = s.offBlocks :=
  (offBlocks_foldl State.startDue_offBlocks).trans (offBlocks_foldl fun _ _ => rfl)

/-- What a state and its `offBlocks` agree on, the loss of a region's content leaves. -/
theorem State.dropRegion_kept {α : Type} (f : State → α) (hf : ∀ t : State, f t.offBlocks = f t) (s : State) (key : Nat) :
    f (s.dropRegion key) = f s :=
  (hf _).symm.trans ((congrArg f (s.dropRegion_offBlocks key)).trans (hf s))

theorem State.dropRegion_region (s : State) (key k : Nat) : (s.dropRegion key).region k = s.region k :=
  State.dropRegion_kept (fun t => t.region k) (fun _ => rfl) s key

theorem State.dropRegion_stack (s : State) (key k : Nat) : (s.dropRegion key).stack k = s.stack k :=
  State.dropRegion_kept (fun t => t.stack k) (fun _ => rfl) s key

theorem State.dropRegion_waiting (s : State) (key : Nat) : (s.dropRegion key).mem.waiting = s.mem.waiting :=
  State.dropRegion_kept (fun t => t.mem.waiting) (fun _ => rfl) s key

theorem State.dropRegion_cores (s : State) (key : Nat) : (s.dropRegion key).cores = s.cores :=
  State.dropRegion_kept State.cores (fun _ => rfl) s key

/-! ## The queue of urgent clearings (R235) -/

theorem State.unqueue_region (s : State) (key k : Nat) : (s.unqueue key).region k = s.region k := by
  unfold State.unqueue
  dsimp only
  split <;> rfl

theorem State.unqueue_waiting (s : State) (key : Nat) : (s.unqueue key).mem.waiting = s.mem.waiting := by
  unfold State.unqueue
  dsimp only
  split <;> rfl

theorem State.unqueue_cores (s : State) (key : Nat) : (s.unqueue key).cores = s.cores := by
  unfold State.unqueue
  dsimp only
  split <;> rfl

theorem State.unqueue_stack_ne (h : k ≠ key / 65536) : (s.unqueue key).stack k = s.stack k := by
  unfold State.unqueue
  dsimp only
  split
  · exact State.setStack_stack_ne _ h
  · rfl

/-- What is left of the queue of the region's stack. -/
theorem State.unqueue_urgentQ (s : State) (key : Nat) : ((s.unqueue key).stack (key / 65536)).urgentQ =
    (s.stack (key / 65536)).urgentQ.filter (fun r => r ≠ key % 65536) := by
  unfold State.unqueue
  dsimp only
  split
  case isTrue => rw [State.setStack_stack_self]
  case isFalse h =>
    refine (List.filter_eq_self.2 fun r hr => ?_).symm
    have hne : r ≠ key % 65536 := fun e => h (by simpa [e] using hr)
    simpa using hne

theorem State.mem_urgentQ_of_unqueue {r : Nat} (h : r ∈ ((s.unqueue key).stack st).urgentQ) : r ∈ (s.stack st).urgentQ := by
  by_cases e : st = key / 65536
  · subst e
    rw [State.unqueue_urgentQ] at h
    exact List.mem_of_mem_filter h
  · rwa [State.unqueue_stack_ne e] at h

/-! ## A reset of a range (R237) -/

/-- From `s` to `t` every region keeps its owner, every stack but `st` its state, and what waits and the cores are as they were. -/
structure ResetFrame (st : Nat) (s t : State) : Prop where
  owners : ∀ k, (t.region k).owner = (s.region k).owner
  otherStacks : ∀ k, k ≠ st → t.stack k = s.stack k
  waiting : t.mem.waiting = s.mem.waiting
  cores : t.cores = s.cores

theorem ResetFrame.refl (st : Nat) (s : State) : ResetFrame st s s := ⟨fun _ => rfl, fun _ _ => rfl, rfl, rfl⟩

theorem ResetFrame.trans (h : ResetFrame st s t) (g : ResetFrame st t u) : ResetFrame st s u :=
  ⟨fun k => (g.owners k).trans (h.owners k), fun k hk => (g.otherStacks k hk).trans (h.otherStacks k hk), g.waiting.trans h.waiting,
    g.cores.trans h.cores⟩

/-- A region's new content, with its owner. -/
theorem State.setRegion_resetFrame {x : Region} (hx : x.owner = (s.region key).owner) (st : Nat) : ResetFrame st s (s.setRegion key x) := by
  refine ⟨fun k => ?_, fun _ _ => rfl, rfl, rfl⟩
  by_cases e : k = key
  · rw [e, State.setRegion_region_self, hx]
  · rw [State.setRegion_region_ne _ _ e]

theorem State.finishClearing_resetFrame (s : State) (key st : Nat) : ResetFrame st s (s.finishClearing key) :=
  State.setRegion_resetFrame (x := { s.region key with st := 2, rate := 0, urgent := false }) rfl st

theorem State.setStack_resetFrame (s : State) (st : Nat) (x : Stack) : ResetFrame st s (s.setStack st x) :=
  ⟨fun _ => rfl, fun _ hk => State.setStack_stack_ne _ hk, rfl, rfl⟩

theorem State.enterClearing_resetFrame (s : State) (st key rate : Nat) (urgent : Bool) :
    ResetFrame st s (s.enterClearing key rate urgent) := by
  refine ⟨fun k => ?_, fun _ _ => rfl, rfl, rfl⟩
  by_cases e : k = key
  · rw [e, State.enterClearing_region_self]
  · rw [State.enterClearing_region_ne _ _ e]

theorem State.resetRegion_resetFrame (h : key / 65536 = st) : ResetFrame st s (s.resetRegion key) := by
  refine ResetFrame.trans (t := (s.dropRegion key).unqueue key) ⟨fun k => ?_, fun k hk => ?_, ?_, ?_⟩
    (State.setRegion_resetFrame ?_ st)
  · rw [State.unqueue_region, State.dropRegion_region]
  · rw [State.unqueue_stack_ne (h ▸ hk), State.dropRegion_stack]
  · rw [State.unqueue_waiting, State.dropRegion_waiting]
  · rw [State.unqueue_cores, State.dropRegion_cores]
  · rw [State.unqueue_region, State.dropRegion_region]

/-- Where nothing waits, clearings in progress just end. -/
theorem State.endClearings_resetFrame (hwaiting : s.mem.waiting = []) (st : Nat) (l : List Nat) : ResetFrame st s (s.endClearings l) :=
  List.foldlRecOn (motive := ResetFrame st s) _ _ (ResetFrame.refl st s) fun t ht k _ => by
    split
    · rw [State.retry_of_none_waits (s := t.finishClearing k) (ht.waiting.trans hwaiting)]
      exact ht.trans (State.finishClearing_resetFrame t k st)
    · exact ht

theorem State.nextUrgent_resetFrame (s : State) (st : Nat) : ResetFrame st s (s.nextUrgent st) := by
  unfold State.nextUrgent
  dsimp only
  split
  · exact State.setStack_resetFrame _ _ _
  · exact (State.setStack_resetFrame _ _ _).trans (State.enterClearing_resetFrame _ _ _ _ _)

theorem State.pumpUrgent_resetFrame (s : State) (st : Nat) : ResetFrame st s (s.pumpUrgent st) := by
  unfold State.pumpUrgent
  split
  · exact ResetFrame.refl st s
  · exact State.nextUrgent_resetFrame s st

/-- Region `r` of stack `st` is UNSET and does not queue for urgent clearing. -/
def State.unsetIdle (s : State) (st r : Nat) : Prop := (s.region (st * 65536 + r)).st = 0 ∧ r ∉ (s.stack st).urgentQ

theorem State.unsetIdle_resetRegion_self (s : State) {r : Nat} (hr : r < 65536) : (s.resetRegion (st * 65536 + r)).unsetIdle st r := by
  refine ⟨?_, ?_⟩
  · rw [State.resetRegion, State.setRegion_region_self]
  · have hst : (st * 65536 + r) / 65536 = st := by omega
    have hmod : (st * 65536 + r) % 65536 = r := by omega
    have hq := State.unqueue_urgentQ (s.dropRegion (st * 65536 + r)) (st * 65536 + r)
    rw [hst, hmod] at hq
    rw [State.resetRegion, State.setRegion_stack, hq]
    simp

theorem State.unsetIdle.resetRegion {r : Nat} (h : s.unsetIdle st r) (key : Nat) : (s.resetRegion key).unsetIdle st r := by
  obtain ⟨hst, hqueue⟩ := h
  refine ⟨?_, fun hmem => hqueue ?_⟩
  · by_cases e : st * 65536 + r = key
    · rw [State.resetRegion, e, State.setRegion_region_self]
    · rw [State.resetRegion, State.setRegion_region_ne _ _ e, State.unqueue_region, State.dropRegion_region, hst]
  · rw [State.resetRegion, State.setRegion_stack] at hmem
    have hdrop := State.mem_urgentQ_of_unqueue hmem
    rwa [State.dropRegion_stack] at hdrop

/-- The next urgent clearing is of a region that queues. -/
theorem State.unsetIdle.nextUrgent {r : Nat} (h : s.unsetIdle st r) : (s.nextUrgent st).unsetIdle st r := by
  obtain ⟨hst, hqueue⟩ := h
  unfold State.nextUrgent
  dsimp only
  have hsuffix := List.dropWhile_suffix (l := (s.stack st).urgentQ) (fun r => decide ((s.region (st * 65536 + r)).st ≠ 0))
  split
  case h_1 => exact ⟨hst, by rw [State.setStack_stack_self]; exact List.not_mem_nil⟩
  case h_2 n rest hrest =>
    rw [hrest] at hsuffix
    have hne : st * 65536 + r ≠ st * 65536 + n := fun e => hqueue (hsuffix.subset (by simp; omega))
    refine ⟨?_, ?_⟩
    · rw [State.enterClearing_region_ne _ _ hne]
      exact hst
    · rw [State.enterClearing_stack, State.setStack_stack_self]
      exact fun hmem => hqueue (hsuffix.subset (List.mem_cons_of_mem _ hmem))

theorem State.unsetIdle.pumpUrgent {r : Nat} (h : s.unsetIdle st r) : (s.pumpUrgent st).unsetIdle st r := by
  unfold State.pumpUrgent
  split
  · exact h
  · exact h.nextUrgent

/-- What each step of a fold keeps, and the step of an element of the list brings about, holds at its end. -/
theorem foldl_of_mem {β : Type} {f : State → β → State} {P : State → Prop} {x : β} {l : List β} (hx : x ∈ l) (hself : ∀ t, P (f t x))
    (hkeep : ∀ t e, P t → P (f t e)) (s : State) : P (l.foldl f s) := by
  induction l generalizing s with
  | nil => cases hx
  | cons e l ih =>
    rw [List.foldl_cons]
    rcases List.mem_cons.1 hx with rfl | hl
    · exact List.foldlRecOn (motive := P) l f (hself s) fun t ht e _ => hkeep t e ht
    · exact ih hl (f s e)

theorem mem_regionRange {first count : Nat} : key ∈ regionRange st first count ↔ ∃ i < count, st * 65536 + first + i = key := by
  simp [regionRange]

/-- The regions of a list are reset, and clearings in progress among them end first. -/
def State.resetRegions (s : State) (l : List Nat) : State := l.foldl State.resetRegion (s.endClearings l)

section
variable (first count : Nat) (hfits : first + count ≤ 65536)
include hfits

theorem State.resetRegions_unsetIdle {i : Nat} (hi : i < count) :
    (s.resetRegions (regionRange st first count)).unsetIdle st (first + i) :=
  foldl_of_mem (P := fun t => t.unsetIdle st (first + i)) (mem_regionRange.2 ⟨i, hi, Nat.add_assoc _ _ _⟩)
    (fun t => t.unsetIdle_resetRegion_self (by omega)) (fun _ key ht => ht.resetRegion key) _

variable (hwaiting : s.mem.waiting = [])
include hwaiting

theorem State.resetRegions_resetFrame : ResetFrame st s (s.resetRegions (regionRange st first count)) :=
  List.foldlRecOn (motive := ResetFrame st s) _ _ (State.endClearings_resetFrame hwaiting st _) fun t ht key hkey => by
    obtain ⟨i, hi, rfl⟩ := mem_regionRange.1 hkey
    exact ht.trans (State.resetRegion_resetFrame (by omega))

/-- Where nothing waits, a reset goes on with what queues for urgent clearing. -/
theorem State.resetRange_eq : s.resetRange st first count = (s.resetRegions (regionRange st first count)).pumpUrgent st :=
  congrArg (fun t => State.pumpUrgent t st)
    (State.retry_of_none_waits ((State.resetRegions_resetFrame first count hfits hwaiting).waiting.trans hwaiting) _)

theorem State.resetRange_resetFrame : ResetFrame st s (s.resetRange st first count) := by
  rw [State.resetRange_eq first count hfits hwaiting]
  exact (State.resetRegions_resetFrame first count hfits hwaiting).trans (State.pumpUrgent_resetFrame _ st)

theorem State.resetRange_unsetIdle {i : Nat} (hi : i < count) : (s.resetRange st first count).unsetIdle st (first + i) := by
  rw [State.resetRange_eq first count hfits hwaiting]
  exact (State.resetRegions_unsetIdle first count hfits hi).pumpUrgent

end

/-! ## The region commands (R237) -/

theorem State.regionStatus_frame (s : State) (st busy status done : Nat) :
    RegFrame (· = R.MEM_REGION_CMD_STATUS st) s (s.regionStatus st busy status done) := by
  unfold State.regionStatus
  exact (((RegFrame.refl (· = R.MEM_REGION_CMD_STATUS st) s).setF rfl _ _).setF rfl _ _).setF rfl _ _

theorem State.regionStatus_rf (s : State) (st busy status done : Nat) :
    (s.regionStatus st busy status done).rf (R.MEM_REGION_CMD_STATUS st) F.MEM_REGION_CMD_STATUS_BUSY = busy % 2 ∧
      (s.regionStatus st busy status done).rf (R.MEM_REGION_CMD_STATUS st) F.MEM_REGION_CMD_STATUS_STATUS = status % 256 ∧
      (s.regionStatus st busy status done).rf (R.MEM_REGION_CMD_STATUS st) F.MEM_REGION_CMD_STATUS_DONE = done % 2 ^ 17 := by
  rw [State.regionStatus]
  simp (disch := decide) only [State.setF_rf_self, State.setF_rf_other]
  exact ⟨rfl, rfl, rfl⟩

theorem State.regionStatus_mem (s : State) (st busy status done : Nat) : (s.regionStatus st busy status done).mem = s.mem := by
  rw [(s.regionStatus_frame st busy status done).rest]

theorem State.regionStatus_stack (s : State) (st busy status done k : Nat) : (s.regionStatus st busy status done).stack k = s.stack k := by
  rw [State.stack, State.regionStatus_mem, State.stack]

/-- A command of stack `st` runs. -/
def State.regionStarted (s : State) (st : Nat) (c : RegionCmd) : State :=
  (s.regionStatus st 1 St.ok 0).setStack st { s.stack st with cmd := some c }

section
variable (s : State) (st : Nat) (c : RegionCmd)

theorem State.regionStarted_stack_self : (s.regionStarted st c).stack st = { s.stack st with cmd := some c } := by
  rw [State.regionStarted, State.setStack_stack_self]

theorem State.regionStarted_stack_ne (h : k ≠ st) : (s.regionStarted st c).stack k = s.stack k := by
  rw [State.regionStarted, State.setStack_stack_ne _ h, State.regionStatus_stack]

theorem State.regionStarted_region (key : Nat) : (s.regionStarted st c).region key = s.region key := by
  rw [State.regionStarted, State.setStack_region, State.region, State.regionStatus_mem, State.region]

theorem State.regionStarted_hbm : (s.regionStarted st c).mem.hbm = s.mem.hbm := by
  rw [State.regionStarted, State.setStack_hbm, State.regionStatus_mem]

theorem State.regionStarted_cores : (s.regionStarted st c).cores = s.cores := by
  rw [State.regionStarted, State.setStack_cores, (s.regionStatus_frame st 1 St.ok 0).rest]

theorem State.regionStarted_busy : (s.regionStarted st c).rf (R.MEM_REGION_CMD_STATUS st) F.MEM_REGION_CMD_STATUS_BUSY = 1 := by
  rw [State.regionStarted, State.setStack_rf, (s.regionStatus_rf st 1 St.ok 0).1]

end

section
variable {op first count : Nat}

/-- A command of the module controller that is accepted. -/
theorem State.regionWrite_of_ok (hreach : s.reach .mc (R.MEM_REGION_CMD st) = St.ok) (h : s.regionCmd .mc op st first count = (t, St.ok)) :
    s.regionWrite .mc op st first count = t.answer St.ok := by
  rw [State.regionWrite, if_pos hreach, h, State.ctlEnd_ok]

variable (hcmd : (s.stack st).cmd = none) (hcount : 0 < count) (hfits : first + count ≤ 65536)
  (hlocked : s.rangeLocked st first count = none)
include hcmd hcount hfits hlocked

theorem State.regionCmd_reset (hfixed : s.rangeFixed st first count = false) : s.regionCmd .mc 0 st first count =
    ((s.resetRange st first count).regionStarted st { op := 0, first := first, count := count }, St.ok) := by
  have hbounds : ¬ (count = 0 ∨ 65536 < first + count) := by omega
  simp [State.regionCmd, hcmd, hbounds, hlocked, hfixed, State.regionStarted]

theorem State.regionCmd_clearNow : s.regionCmd .mc 1 st first count =
    (((regionRange st first count).foldl State.startUrgent s).regionStarted st { op := 1, first := first, count := count }, St.ok) := by
  have hbounds : ¬ (count = 0 ∨ 65536 < first + count) := by omega
  simp [State.regionCmd, hcmd, hbounds, hlocked, State.regionStarted]

variable (hreach : s.reach .mc (R.MEM_REGION_CMD st) = St.ok)
include hreach

theorem exec_regionReset_of_ok (hfixed : s.rangeFixed st first count = false) : exec (.regionReset .mc st first count) s = .next
    (((s.resetRange st first count).regionStarted st { op := 0, first := first, count := count }).answer St.ok) := by
  change execRegionReset .mc st first count s = _
  rw [execRegionReset, State.byHost_eq (servedNow_of_ne_host s (by decide)) hreach, ctlRegionReset,
    State.regionWrite_of_ok hreach (State.regionCmd_reset hcmd hcount hfits hlocked hfixed)]

theorem exec_regionClearNow_of_ok : exec (.regionClearNow .mc st first count) s = .next
    ((((regionRange st first count).foldl State.startUrgent s).regionStarted st { op := 1, first := first, count := count }).answer St.ok) := by
  change execRegionClearNow .mc st first count s = _
  rw [execRegionClearNow, State.byHost_eq (servedNow_of_ne_host s (by decide)) hreach, ctlRegionClearNow,
    State.regionWrite_of_ok hreach (State.regionCmd_clearNow hcmd hcount hfits hlocked)]

end

/-- Starting urgent clearings leaves the data and the cores. -/
theorem State.startUrgent_kept (s : State) (key : Nat) : (s.startUrgent key).mem.hbm = s.mem.hbm ∧ (s.startUrgent key).cores = s.cores := by
  unfold State.startUrgent
  dsimp only
  split
  · split
    · split <;> exact ⟨rfl, rfl⟩
    · exact ⟨rfl, rfl⟩
  · exact ⟨rfl, rfl⟩

theorem State.foldl_startUrgent_kept (s : State) (l : List Nat) :
    (l.foldl State.startUrgent s).mem.hbm = s.mem.hbm ∧ (l.foldl State.startUrgent s).cores = s.cores :=
  List.foldlRecOn (motive := fun t : State => t.mem.hbm = s.mem.hbm ∧ t.cores = s.cores) _ _ ⟨rfl, rfl⟩ fun t ht key _ =>
    ⟨(t.startUrgent_kept key).1.trans ht.1, (t.startUrgent_kept key).2.trans ht.2⟩

/-- No region of the command's range is left to clear. -/
theorem exec_regionCmdDone_of_cleared {c : RegionCmd} (hclk : s.clk.on = true) (hcmd : (s.stack st).cmd = some c)
    (hdone : (regionRange st c.first c.count).any (s.toClear st) = false) : exec (.regionCmdDone st) s = .next
      ((s.regionStatus st 0 St.ok c.count).setStack st { s.stack st with cmd := none }) := by
  change execRegionCmdDone st s = _
  simp [execRegionCmdDone, hclk, hcmd, hdone]

/-! ## The statement -/

/-- Settles O46: each event by its next state, and a reset of a range by what each of its steps keeps. -/
theorem memoryControllersComplete : Obligations.MemoryControllersComplete := by
  unfold Obligations.MemoryControllersComplete
  refine ⟨?cleared, ?background, ?refresh, ?selfRefresh, ?management, ?patrol, ?retrain, ?busy, ?retrained, ?schedule, ?reset, ?clearNow, ?ended⟩
  case cleared =>
    intro s st region hclk hst hlevel hurgent hbusy hwaiting
    refine ⟨_, exec_clearingDone_of_background hclk hst hlevel hurgent hbusy hwaiting, ?set, ?owner, fun k hk => ?others, rfl⟩
    case set => rw [State.finishClearing_region_self]
    case owner => rw [State.finishClearing_region_self]
    case others => exact State.finishClearing_region_ne hk
  case background =>
    intro s st r hclk hon hrate hlevel hidle hregion
    refine ⟨_, exec_bgClearStart_of_region hclk hon hrate hlevel hidle hregion, ?clearing, ?rate, ?next, fun k hk => ?others, rfl, rfl⟩
    case clearing => rw [State.setStack_region, State.enterClearing_region_self]
    case rate => rw [State.setStack_region, State.enterClearing_region_self]
    case next => rw [State.setStack_stack_self]
    case others => exact State.setStack_stack_ne _ hk
  case refresh =>
    intro s st pc bank hclk hself
    refine ⟨_, exec_refresh_eq hclk bank, ?_⟩
    rw [hself, if_neg Bool.false_ne_true, State.setStack_stack_self]
    exact ⟨rfl, fun k hk => State.setStack_stack_ne _ hk, rfl⟩
  case selfRefresh =>
    intro s st pc bank hclk hself
    exact ⟨_, exec_refresh_eq hclk bank, if_pos hself⟩
  case management =>
    intro s st hclk
    refine ⟨_, exec_refreshManagementRequest_eq hclk, ?_, fun k hk => State.setStack_stack_ne _ hk, rfl⟩
    rw [State.setStack_stack_self]
  case patrol =>
    intro s st hclk _ hon hlevel hline hend hmark
    have hframe := (RegFrame.refl (· = R.MEM_SCRUB_STATUS st) s).setF rfl F.MEM_SCRUB_STATUS_PATROL_POS
      (s.rf (R.MEM_SCRUB_STATUS st) F.MEM_SCRUB_STATUS_PATROL_POS + 1)
    exact ⟨_, exec_patrolRead_of_good hclk hon hlevel rfl hline hend hmark,
      (State.setF_rf_self _ _ (by decide)).trans (Nat.mod_eq_of_lt hend), hframe.regs, hframe.rest⟩
  case retrain =>
    intro s who st pc hnow hreach hsched hnone hpc
    refine ⟨_, exec_pcRetrainStart_of_served hnow hreach, ?_⟩
    rw [State.manualRetrain_of_none hsched hnone]
    rw [State.answer_stack, State.startRetrain_stack_self, State.answer_rf]
    refine ⟨rfl, s.startRetrain_online st pc hpc, fun a ha => ?regs, fun k hk => ?others, rfl, (s.startRetrain_stackOnly st pc).answer_eq _ _ _⟩
    case regs => rw [State.answer_reg, State.startRetrain_reg_ne _ _ _ ha]
    case others => rw [State.answer_stack, State.startRetrain_stack_ne _ _ _ hk]
  case busy =>
    intro s who st pc hnow hreach hsched hsome
    refine ⟨_, exec_pcRetrainStart_of_served hnow hreach, ?_⟩
    rw [State.manualRetrain_of_some hsched hsome]
    exact ⟨rfl, rfl⟩
  case retrained =>
    intro s st pc hclk _ hpc hretrain hsched _
    refine ⟨_, exec_pcRetrainDone_of_good hclk hretrain hsched, ?_⟩
    rw [State.retrainResult_of_ok, State.setStack_stack_self, State.setStack_rf, State.setStack_hbm, State.backOnline_mem]
    refine ⟨rfl, s.backOnline_online st hpc, ?fails, fun k hk => ?others, rfl⟩
    case fails => rw [mget_mset_self]
    case others => rw [State.setStack_stack_ne _ hk, State.backOnline_stack]
  case schedule =>
    intro s p hclk hon hmc hnone hdue hfind
    have hframe := s.startRetrain_stackOnly (p / 64) (p % 64)
    refine ⟨_, exec_pcRetrainSchedule_of_due hclk hon hmc hnone hdue hfind, ?retrain, rfl, rfl, fun a ha => ?others, hframe.scheduled_eq _⟩
    case retrain => rw [State.scheduled_stack, State.startRetrain_stack_self]
    case others => rw [State.scheduled_reg, State.startRetrain_reg_ne _ _ _ ha]
  case reset =>
    intro s st first count hreach hcmd hcount hfits hlocked hfixed hwaiting
    have hframe := State.resetRange_resetFrame (st := st) first count hfits hwaiting
    refine ⟨_, exec_regionReset_of_ok hcmd hcount hfits hlocked hreach hfixed, fun i hi => ?regions, ?running, ?command, fun k hk => ?others,
      rfl, ?cores⟩
    case regions =>
      rw [State.answer_region, State.regionStarted_region, Nat.add_assoc]
      exact ⟨(State.resetRange_unsetIdle first count hfits hwaiting hi).1, hframe.owners _⟩
    case running => rw [State.answer_rf, State.regionStarted_busy]
    case command => rw [State.answer_stack, State.regionStarted_stack_self]
    case others => rw [State.answer_stack, State.regionStarted_stack_ne _ _ _ hk, hframe.otherStacks k hk]
    case cores => rw [State.answer_cores, State.regionStarted_cores, hframe.cores]
  case clearNow =>
    intro s st first count hreach hcmd hcount hfits hlocked
    obtain ⟨hhbm, hcores⟩ := s.foldl_startUrgent_kept (regionRange st first count)
    refine ⟨_, exec_regionClearNow_of_ok hcmd hcount hfits hlocked hreach, ?running, ?command, ?hbm, rfl, ?cores⟩
    case running => rw [State.answer_rf, State.regionStarted_busy]
    case command => rw [State.answer_stack, State.regionStarted_stack_self]
    case hbm => rw [State.answer_mem, State.regionStarted_hbm, hhbm]
    case cores => rw [State.answer_cores, State.regionStarted_cores, hcores]
  case ended =>
    intro s st c hclk hcmd hdone hcount
    obtain ⟨hbusy, hstatus, hcounted⟩ := s.regionStatus_rf st 0 St.ok c.count
    have hframe : StackOnly s (s.regionStatus st 0 St.ok c.count) := by
      unfold State.regionStatus
      exact (((StackOnly.refl s).setF _ _ _).setF _ _ _).setF _ _ _
    refine ⟨_, exec_regionCmdDone_of_cleared hclk hcmd hdone, ?_⟩
    rw [State.setStack_rf, State.setStack_rf, State.setStack_rf, State.setStack_stack_self, hcounted]
    refine ⟨hbusy, Nat.mod_eq_of_lt hcount, hstatus, rfl, fun k hk => ?others, fun a ha => ?regs, hframe.setStack _ _⟩
    case others => rw [State.setStack_stack_ne _ hk, State.regionStatus_stack]
    case regs => rw [State.setStack_reg, (s.regionStatus_frame st 0 St.ok c.count).regs a ha]

end Sys2Proof.Machine
end

section
/-! PROOFS. The temperatures of the stacks (R245 to R249). -/

namespace Sys2Proof.Machine

open Sys2Proof Sys2Proof.Safety

variable {s t u : State} {who : Requester} {st level : Nat} {f : Fld}

/-! ## What a trip leaves (R407, R503, R528) -/

/-- Registers that a trip may change. -/
def tripReg (a : Nat) : Prop :=
  a = R.PWR_TRIP ∨ a = R.HOST_LINK_STATUS ∨ a = R.CFG_NAND_STATUS ∨ a = R.EVT_NAND_POS ∨ ∃ p, p < 3 ∧ a = R.EVT_LOSS p

/-- From `s` to `t` the memories are as they were, and of the registers only those that a trip may change differ. -/
structure TripFrame (s t : State) : Prop where
  mem : t.mem = s.mem
  regs : ∀ a, ¬ tripReg a → t.reg a = s.reg a

theorem TripFrame.refl (s : State) : TripFrame s s := ⟨rfl, fun _ _ => rfl⟩

theorem TripFrame.trans (h : TripFrame s t) (g : TripFrame t u) : TripFrame s u :=
  ⟨g.mem.trans h.mem, fun a ha => (g.regs a ha).trans (h.regs a ha)⟩

theorem TripFrame.ite {c : Prop} [Decidable c] (h : TripFrame s t) (g : TripFrame s u) : TripFrame s (if c then t else u) := by
  split
  · exact h
  · exact g

/-- What leaves memories and registers alone. -/
theorem TripFrame.keep (h : TripFrame s t) (hmem : u.mem = t.mem) (hregs : u.regs = t.regs) : TripFrame s u :=
  h.trans ⟨hmem, fun a _ => by rw [State.reg, hregs, State.reg]⟩

theorem TripFrame.setF (h : TripFrame s t) {a : Nat} (ha : tripReg a) (f : Fld) (x : Nat) : TripFrame s (t.setF a f x) :=
  h.trans ⟨rfl, fun _ hb => State.setF_reg_ne _ _ fun e => hb (e ▸ ha)⟩

theorem TripFrame.raise (h : TripFrame s t) (e : EvRec) : TripFrame s (t.raise e) :=
  h.trans ⟨State.raise_mem e, fun _ ha => State.raise_reg e fun p hp hloss => ha (.inr (.inr (.inr (.inr ⟨p, hp, hloss⟩))))⟩

theorem TripFrame.setTrip (h : TripFrame s t) (cause value source : Nat) : TripFrame s (t.setTrip cause value source) :=
  ((h.setF (.inl rfl) _ _).setF (.inl rfl) _ _).setF (.inl rfl) _ _

theorem TripFrame.faultRecord (h : TripFrame s t) (cause value source : Nat) : TripFrame s (t.faultRecord cause value source) := by
  unfold State.faultRecord
  dsimp only
  generalize t.faultBytes _ _ _ _ ++ _ = record
  exact h.ite (h.keep rfl rfl)

theorem TripFrame.dropGood (h : TripFrame s t) : TripFrame s t.dropGood :=
  ((h.setF (.inr (.inl rfl)) F.HOST_LINK_STATUS_SPEED 0).setF (.inr (.inl rfl)) F.HOST_LINK_STATUS_WIDTH 0).keep rfl rfl

theorem TripFrame.downEmergency (h : TripFrame s t) : TripFrame s t.downEmergency := by
  unfold State.downEmergency
  split
  · exact h.dropGood.keep rfl rfl
  · exact h.dropGood.keep rfl rfl
  · exact h.dropGood.keep rfl rfl
  · exact h

theorem TripFrame.eraseBlock (h : TripFrame s t) (b : Nat) : TripFrame s (t.eraseBlock b) := by
  unfold State.eraseBlock
  refine h.ite (TripFrame.setF (h.keep ?_ ?_) (.inr (.inr (.inl rfl))) _ _) <;> rfl

theorem TripFrame.showPages (h : TripFrame s t) : TripFrame s t.showPages :=
  (h.setF (.inr (.inr (.inr (.inl rfl)))) _ _).setF (.inr (.inr (.inr (.inl rfl)))) _ _

theorem TripFrame.putPage (h : TripFrame s t) : TripFrame s t.putPage := by
  unfold State.putPage
  dsimp only
  refine TripFrame.showPages (TripFrame.keep (TripFrame.ite (TripFrame.eraseBlock ?_ _) ?_) rfl rfl)
  · exact h.keep rfl rfl
  · exact h.keep rfl rfl

theorem TripFrame.finalPage (h : TripFrame s t) : TripFrame s t.finalPage := by
  unfold State.finalPage
  exact TripFrame.ite (TripFrame.putPage (h.keep rfl rfl)) (h.keep rfl rfl)

/-- The deadbolt leaves the memories and every register but those. -/
theorem State.deadbolt_frame (s : State) (cause value source : Nat) : TripFrame s (s.deadbolt cause value source) := by
  unfold State.deadbolt
  refine TripFrame.ite (TripFrame.finalPage (TripFrame.keep (TripFrame.downEmergency ?_) rfl rfl)) (TripFrame.refl s)
  exact (((TripFrame.refl s).setTrip cause value source).raise _).faultRecord _ _ _

/-! ## The thermal status of a stack (R245) -/

theorem memThermStatus_ne_evtLoss (st : Nat) {p : Nat} (hp : p < 3) : R.MEM_THERM_STATUS st ≠ R.EVT_LOSS p := by
  unfold R.MEM_THERM_STATUS R.EVT_LOSS
  omega

theorem not_tripReg_memThermStatus (st : Nat) : ¬ tripReg (R.MEM_THERM_STATUS st) := by
  rintro (h | h | h | h | ⟨p, hp, h⟩)
  case inr.inr.inr.inr => exact memThermStatus_ne_evtLoss st hp h
  all_goals
    simp only [R.MEM_THERM_STATUS, R.PWR_TRIP, R.HOST_LINK_STATUS, R.CFG_NAND_STATUS, R.EVT_NAND_POS] at h
    omega

/-- No event changes a stack's thermal status. -/
theorem State.memEvent_therm (s : State) (k low cls off status st : Nat) (f : Fld) :
    (s.memEvent k low cls off status).rf (R.MEM_THERM_STATUS st) f = s.rf (R.MEM_THERM_STATUS st) f :=
  State.raise_rf _ _ fun _ hp => memThermStatus_ne_evtLoss st hp

theorem State.memEvent_mem (s : State) (k low cls off status : Nat) : (s.memEvent k low cls off status).mem = s.mem := State.raise_mem _

/-- Nor does the deadbolt. -/
theorem State.deadbolt_therm (s : State) (cause value source st : Nat) (f : Fld) :
    (s.deadbolt cause value source).rf (R.MEM_THERM_STATUS st) f = s.rf (R.MEM_THERM_STATUS st) f := by
  rw [State.rf, (s.deadbolt_frame cause value source).regs _ (not_tripReg_memThermStatus st), State.rf]

theorem State.rf_lt (s : State) (a : Nat) (f : Fld) : s.rf a f < 2 ^ f.width := Nat.mod_lt _ (Nat.two_pow_pos _)

/-- A reading as the stack's status holds it. -/
def State.readTemp (s : State) (st c : Nat) : State :=
  ((s.setF (R.MEM_THERM_STATUS st) F.MEM_THERM_STATUS_TEMP c).setF (R.MEM_THERM_STATUS st) F.MEM_THERM_STATUS_VALID 1).setF
    (R.MEM_THERM_STATUS st) F.MEM_THERM_STATUS_PEAK (max c (s.rf (R.MEM_THERM_STATUS st) F.MEM_THERM_STATUS_PEAK))

theorem State.readTemp_level (s : State) (st c : Nat) : (s.readTemp st c).thermLevel st = s.thermLevel st := by
  unfold State.readTemp State.thermLevel
  simp (disch := decide) only [State.setF_rf_other]

theorem State.readTemp_rf (s : State) (st : Nat) {c : Nat} (hc : c < 256) :
    (s.readTemp st c).rf (R.MEM_THERM_STATUS st) F.MEM_THERM_STATUS_TEMP = c ∧
      (s.readTemp st c).rf (R.MEM_THERM_STATUS st) F.MEM_THERM_STATUS_VALID = 1 ∧
      (s.readTemp st c).rf (R.MEM_THERM_STATUS st) F.MEM_THERM_STATUS_PEAK =
        max c (s.rf (R.MEM_THERM_STATUS st) F.MEM_THERM_STATUS_PEAK) := by
  have hpeak : max c (s.rf (R.MEM_THERM_STATUS st) F.MEM_THERM_STATUS_PEAK) < 2 ^ F.MEM_THERM_STATUS_PEAK.width :=
    max_lt hc (s.rf_lt _ _)
  have htemp : c < 2 ^ F.MEM_THERM_STATUS_TEMP.width := hc
  unfold State.readTemp
  simp (disch := decide) only [State.setF_rf_self, State.setF_rf_other]
  exact ⟨Nat.mod_eq_of_lt htemp, rfl, Nat.mod_eq_of_lt hpeak⟩

theorem State.readTemp_mem (s : State) (st c : Nat) : (s.readTemp st c).mem = s.mem := by
  rw [State.readTemp, State.setF_mem, State.setF_mem, State.setF_mem]

theorem State.readTemp_xport (s : State) (st c : Nat) : (s.readTemp st c).xport = s.xport := by
  rw [State.readTemp, State.setF_xport, State.setF_xport, State.setF_xport]

/-- LEVEL and SLOW of a stack. -/
def State.levelled (s : State) (st level : Nat) : State :=
  (s.setF (R.MEM_THERM_STATUS st) F.MEM_THERM_STATUS_LEVEL level).setF (R.MEM_THERM_STATUS st) F.MEM_THERM_STATUS_SLOW (b2n (level = 2))

theorem State.levelled_level (s : State) (st level : Nat) : (s.levelled st level).thermLevel st = level % 8 := by
  unfold State.levelled State.thermLevel
  simp (disch := decide) only [State.setF_rf_self, State.setF_rf_other]
  rfl

/-- The fields below LEVEL and above SLOW. -/
theorem State.levelled_rf (s : State) (st level : Nat) (hf : f.lsb + f.width ≤ 64) (hd : f.lsb + f.width ≤ 9 ∨ 13 ≤ f.lsb) :
    (s.levelled st level).rf (R.MEM_THERM_STATUS st) f = s.rf (R.MEM_THERM_STATUS st) f := by
  have hlevel : f.lsb + f.width ≤ F.MEM_THERM_STATUS_LEVEL.lsb ∨
      F.MEM_THERM_STATUS_LEVEL.lsb + F.MEM_THERM_STATUS_LEVEL.width ≤ f.lsb := hd.imp_right fun h => le_trans (by decide) h
  have hslow : f.lsb + f.width ≤ F.MEM_THERM_STATUS_SLOW.lsb ∨
      F.MEM_THERM_STATUS_SLOW.lsb + F.MEM_THERM_STATUS_SLOW.width ≤ f.lsb := hd.imp_left fun h => le_trans h (by decide)
  rw [State.levelled, State.setF_rf_other _ _ hf hslow, State.setF_rf_other _ _ hf hlevel]

/-! ## Taking and entering a level (R246, R247) -/

theorem State.settleBuckets_eq (s : State) (st : Nat) : ∃ b, s.settleBuckets st = s.withBucket b :=
  List.foldlRecOn (motive := fun t : State => ∃ b, t = s.withBucket b) _ _ ⟨s.mem.bucket, rfl⟩ fun _ ht w _ => by
    obtain ⟨b, rfl⟩ := ht
    exact ⟨_, rfl⟩

theorem State.setF_withBucket (s : State) (b) (a : Nat) (f : Fld) (x : Nat) : (s.withBucket b).setF a f x = (s.setF a f x).withBucket b := rfl

theorem State.levelled_withBucket (s : State) (b) (st level : Nat) :
    (s.withBucket b).levelled st level = (s.levelled st level).withBucket b := by
  rw [State.levelled, State.setF_withBucket, State.setF_withBucket, State.levelled]

/-- The slow notice of a stack to the open collectives that depend on it (R320). -/
def State.slowColls (s : State) (st : Nat) : State :=
  (List.range 8).foldl (fun s q => if (s.coll q).isOpen && bitAt (s.coll q).mask st then s.slowDeadline q else s) s

def State.withXport (s : State) (x : Xport) : State := { s with xport := x }

theorem State.slowDeadline_eq (s : State) (x : Xport) (q : Nat) : ∃ y, (s.withXport x).slowDeadline q = s.withXport y := ⟨_, rfl⟩

theorem State.slowColls_eq (s : State) (st : Nat) : ∃ x, s.slowColls st = s.withXport x :=
  List.foldlRecOn (motive := fun t : State => ∃ x, t = s.withXport x) _ _ ⟨s.xport, rfl⟩ fun t ht q _ => by
    obtain ⟨x, rfl⟩ := ht
    split
    · exact s.slowDeadline_eq x q
    · exact ⟨x, rfl⟩

theorem State.withBucket_eq_withXport (s : State) (b) : s.withBucket b = (s.withBucket b).withXport s.xport := rfl

theorem State.levelled_mem (s : State) (st level : Nat) : (s.levelled st level).mem = s.mem := by
  rw [State.levelled, State.setF_mem, State.setF_mem]

theorem State.levelled_xport (s : State) (st level : Nat) : (s.levelled st level).xport = s.xport := by
  rw [State.levelled, State.setF_xport, State.setF_xport]

/-- What a stack takes with a level: its status, buckets that are settled, and deadlines of collectives where it is HOT. -/
theorem State.setLevel_eq (s : State) (st level : Nat) : ∃ b x, s.setLevel st level = ((s.levelled st level).withBucket b).withXport x ∧
    (level ≠ 2 → x = s.xport) := by
  have hbucket : ∃ b, (if (s.thermLevel st = 2) = (level = 2) then s else s.settleBuckets st) = s.withBucket b := by
    split
    · exact ⟨s.mem.bucket, rfl⟩
    · exact s.settleBuckets_eq st
  obtain ⟨b, hb⟩ := hbucket
  have hset : s.setLevel st level = if level = 2 then ((s.levelled st level).withBucket b).slowColls st
      else (s.levelled st level).withBucket b := by
    unfold State.setLevel
    dsimp only
    rw [hb, ← State.levelled, State.levelled_withBucket, State.slowColls]
  rw [hset]
  split
  case isTrue h =>
    obtain ⟨x, hx⟩ := ((s.levelled st level).withBucket b).slowColls_eq st
    exact ⟨b, x, hx, fun hne => absurd h hne⟩
  case isFalse => exact ⟨b, (s.levelled st level).xport, State.withBucket_eq_withXport _ b, fun _ => s.levelled_xport st level⟩

theorem State.withXport_withBucket_rf (s : State) (b) (x : Xport) (a : Nat) (f : Fld) : ((s.withBucket b).withXport x).rf a f = s.rf a f := rfl

theorem State.withXport_withBucket_hbm (s : State) (b) (x : Xport) : ((s.withBucket b).withXport x).mem.hbm = s.mem.hbm := rfl

theorem State.withXport_withBucket_waiting (s : State) (b) (x : Xport) : ((s.withBucket b).withXport x).mem.waiting = s.mem.waiting := rfl

theorem State.setLevel_rf (s : State) (st level a : Nat) (f : Fld) : (s.setLevel st level).rf a f = (s.levelled st level).rf a f := by
  obtain ⟨b, x, h, _⟩ := s.setLevel_eq st level
  rw [h, State.withXport_withBucket_rf]

theorem State.setLevel_hbm (s : State) (st level : Nat) : (s.setLevel st level).mem.hbm = s.mem.hbm := by
  obtain ⟨b, x, h, _⟩ := s.setLevel_eq st level
  rw [h, State.withXport_withBucket_hbm, State.levelled_mem]

theorem State.setLevel_waiting (s : State) (st level : Nat) : (s.setLevel st level).mem.waiting = s.mem.waiting := by
  obtain ⟨b, x, h, _⟩ := s.setLevel_eq st level
  rw [h, State.withXport_withBucket_waiting, State.levelled_mem]

theorem State.setLevel_xport (s : State) (st : Nat) (h : level ≠ 2) : (s.setLevel st level).xport = s.xport := by
  obtain ⟨b, x, heq, hx⟩ := s.setLevel_eq st level
  rw [heq, ← hx h]
  rfl

/-- Where no collective is open none depends on the stack. -/
theorem State.fenceColls_of_none (h : s.xport.colls = []) (st : Nat) : s.fenceColls st = s := by
  have hmask (q : Nat) : bitAt (s.coll q).mask st = false := by simp [State.coll, h, mget, bitAt]
  exact List.foldlRecOn (motive := (· = s)) _ _ rfl fun t ht q _ => by rw [ht, hmask q, if_neg Bool.false_ne_true]

/-- Entering a level is taking it and perhaps an event, unless the stack is fenced with requests that wait or with collectives. -/
theorem State.enterLevel_cases (s : State) (st old : Nat) {new : Nat} (h : new < 3 ∨ s.mem.waiting = [] ∧ s.xport.colls = []) :
    s.enterLevel st old new = s.setLevel st new ∨
      ∃ low cls status, s.enterLevel st old new = (s.setLevel st new).memEvent st low cls 0 status := by
  unfold State.enterLevel
  dsimp only
  split
  case isTrue => exact .inl rfl
  case isFalse =>
    right
    split
    case h_1 => exact ⟨_, _, _, rfl⟩
    case h_2 => exact ⟨_, _, _, rfl⟩
    case h_3 => exact ⟨_, _, _, rfl⟩
    case h_4 h0 h1 h2 =>
      have h3 : ¬ new < 3 := fun hlt => by
        interval_cases new
        exacts [h0 rfl, h1 rfl, h2 rfl]
      obtain ⟨hwaiting, hcolls⟩ := h.resolve_left h3
      rw [State.retry_of_none_waits ((s.setLevel_waiting st new).trans hwaiting),
        State.fenceColls_of_none ((congrArg Xport.colls (s.setLevel_xport st h2)).trans hcolls)]
      exact ⟨_, _, _, rfl⟩

section
variable (s : State) (st old : Nat) {new : Nat} (h : new < 3 ∨ s.mem.waiting = [] ∧ s.xport.colls = [])
include h

theorem State.enterLevel_therm (f : Fld) :
    (s.enterLevel st old new).rf (R.MEM_THERM_STATUS st) f = (s.levelled st new).rf (R.MEM_THERM_STATUS st) f := by
  rcases s.enterLevel_cases st old h with heq | ⟨low, cls, status, heq⟩
  · rw [heq, State.setLevel_rf]
  · rw [heq, State.memEvent_therm, State.setLevel_rf]

theorem State.enterLevel_level (hnew : new < 8) : (s.enterLevel st old new).thermLevel st = new := by
  rw [State.thermLevel, s.enterLevel_therm st old h, ← State.thermLevel, State.levelled_level, Nat.mod_eq_of_lt hnew]

theorem State.enterLevel_hbm : (s.enterLevel st old new).mem.hbm = s.mem.hbm := by
  rcases s.enterLevel_cases st old h with heq | ⟨low, cls, status, heq⟩
  · rw [heq, State.setLevel_hbm]
  · rw [heq, State.memEvent_mem, State.setLevel_hbm]

end

/-! ## Readings (R245, R248, R249) -/

theorem thermNext_lt {c : Nat} (hlevel : level ≠ 3) (hc : c < 105) : thermNext level c < 3 := by
  unfold thermNext
  split_ifs <;> omega

theorem thermNext_of_hot {c : Nat} (hc : 105 ≤ c) : thermNext level c = 3 := by
  rw [thermNext, if_pos hc, ite_self]

theorem exec_hbmTempReading_eq (s : State) (st c : Nat) : exec (.hbmTempReading st c) s = .next
    (if 115 ≤ c then ((s.readTemp st c).enterLevel st (s.thermLevel st) (thermNext (s.thermLevel st) c)).deadbolt 3 c st
      else (s.readTemp st c).enterLevel st (s.thermLevel st) (thermNext (s.thermLevel st) c)) := by
  change execHbmTempReading st c s = _
  simp (disch := decide) only [execHbmTempReading, State.setF_rf_other]
  rw [← State.readTemp, State.readTemp_level]

/-- The status of a stack whose sensor is lost, with the alarm. -/
def State.tempLost (s : State) (st : Nat) : State := (s.setF (R.MEM_THERM_STATUS st) F.MEM_THERM_STATUS_VALID 0).memEvent st 0x09 0 0 0

theorem State.tempLost_level (s : State) (st : Nat) : (s.tempLost st).thermLevel st = s.thermLevel st := by
  rw [State.thermLevel, State.tempLost, State.memEvent_therm, State.setF_rf_other _ _ (by decide) (by decide), State.thermLevel]

theorem State.tempLost_valid (s : State) (st : Nat) : (s.tempLost st).rf (R.MEM_THERM_STATUS st) F.MEM_THERM_STATUS_VALID = 0 := by
  rw [State.tempLost, State.memEvent_therm, State.setF_rf_self _ _ (by decide), Nat.zero_mod]

theorem exec_hbmTempLost_of_unfenced (h : s.thermLevel st ≠ 3) :
    exec (.hbmTempLost st) s = .next ((s.tempLost st).enterLevel st (s.thermLevel st) 2) := by
  change execHbmTempLost st s = _
  simp only [execHbmTempLost, ← State.tempLost.eq_1, State.tempLost_level, if_neg h]

section
variable (hnow : ServedNow s who = true) (hreach : s.reach who (R.MEM_THERM_CTRL st) = St.ok)
include hnow hreach

theorem exec_unfence_of_cool (hlevel : s.thermLevel st = 3) (hvalid : s.rf (R.MEM_THERM_STATUS st) F.MEM_THERM_STATUS_VALID = 1)
    (htemp : s.rf (R.MEM_THERM_STATUS st) F.MEM_THERM_STATUS_TEMP ≤ 82) :
    exec (.unfence who st) s = .next ((s.enterLevel st 3 0).answer St.ok) := by
  have hcool : s.rf (R.MEM_THERM_STATUS st) F.MEM_THERM_STATUS_TEMP ≤ 92 := by omega
  have hnormal : ¬ 82 < s.rf (R.MEM_THERM_STATUS st) F.MEM_THERM_STATUS_TEMP := by omega
  change execUnfence who st s = _
  rw [execUnfence, State.byHost_eq hnow hreach, ctlUnfence, State.ctlDo_ok hreach rfl]
  simp [hlevel, hvalid, hcool, hnormal]

theorem exec_unfence_of_warm (htemp : 92 < s.rf (R.MEM_THERM_STATUS st) F.MEM_THERM_STATUS_TEMP) :
    exec (.unfence who st) s = .next (s.answer St.ok) := by
  have hwarm : ¬ s.rf (R.MEM_THERM_STATUS st) F.MEM_THERM_STATUS_TEMP ≤ 92 := by omega
  change execUnfence who st s = _
  rw [execUnfence, State.byHost_eq hnow hreach, ctlUnfence, State.ctlDo_ok hreach rfl]
  simp [hwarm]

end

/-! ## The statement -/

/-- Settles O29: a reading or a lost sensor is written to the status before the level is entered, which keeps it. -/
theorem stackThermalCompletes : Obligations.StackThermalCompletes := by
  unfold Obligations.StackThermalCompletes
  refine ⟨?reading, ?fenced, ?lost, ?unfenced, ?kept⟩
  case reading =>
    intro s st c _ hc hlevel
    have hnext := thermNext_lt hlevel hc
    obtain ⟨htemp, hvalid, hpeak⟩ := s.readTemp_rf st (show c < 256 by omega)
    have hfield (f : Fld) := (s.readTemp st c).enterLevel_therm st (s.thermLevel st) (.inl hnext) f
    refine ⟨_, exec_hbmTempReading_eq s st c, ?_⟩
    rw [if_neg (by omega)]
    refine ⟨?temp, ?valid, ?level, ?peak⟩
    case temp => rw [hfield, State.levelled_rf _ _ _ (by decide) (by decide), htemp]
    case valid => rw [hfield, State.levelled_rf _ _ _ (by decide) (by decide), hvalid]
    case level => exact State.enterLevel_level _ _ _ (.inl hnext) (by omega)
    case peak => rw [hfield, State.levelled_rf _ _ _ (by decide) (by decide), hpeak]
  case fenced =>
    intro s st c _ hc _ hwaiting hcolls
    have hquiet : 3 < 3 ∨ (s.readTemp st c).mem.waiting = [] ∧ (s.readTemp st c).xport.colls = [] := by
      rw [State.readTemp_mem, State.readTemp_xport]
      exact .inr ⟨hwaiting, hcolls⟩
    have hlevel := (s.readTemp st c).enterLevel_level st (s.thermLevel st) hquiet (by decide)
    have hhbm := (s.readTemp st c).enterLevel_hbm st (s.thermLevel st) hquiet
    rw [State.readTemp_mem] at hhbm
    refine ⟨_, exec_hbmTempReading_eq s st c, ?_⟩
    rw [thermNext_of_hot hc]
    split
    case isTrue =>
      rw [State.thermLevel, State.deadbolt_therm, (State.deadbolt_frame _ 3 c st).mem]
      exact ⟨hlevel, hhbm⟩
    case isFalse => exact ⟨hlevel, hhbm⟩
  case lost =>
    intro s st _ hlevel
    refine ⟨_, exec_hbmTempLost_of_unfenced hlevel, ?valid, State.enterLevel_level _ _ _ (.inl (by decide)) (by decide)⟩
    case valid => rw [State.enterLevel_therm _ _ _ (.inl (by decide)), State.levelled_rf _ _ _ (by decide) (by decide), State.tempLost_valid]
  case unfenced =>
    intro s who st _ hnow hreach hlevel hvalid htemp
    exact ⟨_, exec_unfence_of_cool hnow hreach hlevel hvalid htemp, State.enterLevel_level _ _ _ (.inl (by decide)) (by decide), rfl⟩
  case kept =>
    intro s who st _ hwho hreach hlevel htemp
    exact ⟨_, exec_unfence_of_warm (servedNow_of_ne_host s hwho) hreach htemp, hlevel, rfl⟩

end Sys2Proof.Machine
end

section
/-! PROOFS. Received packets (R294, R437): the statement fails, because it asks for the ward's consent before the packet is charged and
the model asks for it after. -/
namespace Sys2Proof.Machine
open Sys2Proof

/-! ## A state whose link key entry lies on a counter of the ward -/

/-- A SEND packet under link key 5, for device 7 from itself. -/
def strayPacket : Packet := { State.reset.pkt0 3 7 with srcDev := 7, enc := true, keyId := 5 }

/-- It arrives on port 8. -/
def strayRx : RxInfo := { port := 8, csumOk := true, tagOk := true, ce := false }

/-- A receive queue of ward 0, in service. -/
def strayCtx : Ctx := { w0 := BitVec.ofNat 64 (1 + 16 + 2 ^ 11) }

/-- A valid link key entry of ward 0 with key 5 and peer 7, as the word of its register. -/
def strayKey : W64 := BitVec.ofNat 64 (5 + 7 * 2 ^ 16 + 2 ^ 35)

/-- Device 7 with ward 0 LOCKED. The transport knows one link key entry, of a number whose register is the packet counter of ward 0 on
port 8, and the duplicate filter holds the packet's message. -/
def strayBase : State :=
  let s := { State.reset with
    clk := { State.reset.clk with on := true }
    xport := { State.reset.xport with
      ctxCache := [(0, strayCtx)], linkAt := [(85982723, 0)], filter := [(msgKey 7 0, none)] } }
  (((s.setF R.XPORT_CFG F.XPORT_CFG_DEVNUM 7).setF R.XPORT_CFG F.XPORT_CFG_ENABLE 1).setF (R.SEC_WARD_STATE 0)
    F.SEC_WARD_STATE_STATE 2).setReg (R.PORT_WARD_COUNTER 8 0 3) strayKey

/-- The frame of the packet, addressed to the port. -/
def strayHead : IpHead :=
  { v6 := decide (strayBase.rf R.XPORT_CFG F.XPORT_CFG_IPV = 1), src := 0, dst := strayBase.ipAddr 8 strayBase.dev, dscp := 0, ecn := 2,
    srcPort := 0xC000, dstPort := strayBase.rf R.XPORT_CFG F.XPORT_CFG_UDP_PORT, csumOk := true }

/-- The packet waits in the receive buffer of port 8. -/
def strayState : State :=
  strayBase.setPort 8 { rxq := [{ len := 64, tag := none, cast := .unicast, kind := .sirri strayHead strayPacket }] }

/-- The state after the packet is taken. -/
def strayTaken : State := (strayState.rxGate strayRx strayPacket true).1

/-- The entry's register is the counter. -/
theorem secLink_eq_portWardCounter : R.SEC_LINK 85982723 = R.PORT_WARD_COUNTER 8 0 3 := rfl

theorem strayState_accepted : strayState.rxGate strayRx strayPacket true = (strayTaken, true) :=
  Prod.ext rfl (by decide +kernel : (strayState.rxGate strayRx strayPacket true).2 = true)

/-- Before the charge the ward takes the packet, whose message has no buffer. -/
theorem strayTaken_takes :
    strayTaken.collDrops strayPacket = false ∧ strayTaken.asleep = false ∧ strayPacket.msgLen ≤ strayTaken.maxMsg ∧
      strayTaken.ctxCached strayPacket.dstQueue = some strayCtx ∧
      strayTaken.wardTakes strayCtx.ward strayRx strayPacket = true ∧
      strayTaken.xport.asm.find? (fun e => e.1 = msgKey strayPacket.srcDev strayPacket.msgId) = none ∧
      mget [] strayTaken.xport.posted strayPacket.dstQueue = [] := by
  decide +kernel

/-- The NAK NOT_READY of the statement leaves no filter entry. -/
theorem strayTaken_notReady :
    (((strayTaken.ctxKeep strayPacket.dstQueue strayCtx).chargeRx strayRx.port strayCtx.ward strayPacket.payload.length).nak strayRx
      strayPacket strayCtx.ward 0x80).xport.filter = [] := by
  decide +kernel

/-- The model charges first, so that no entry has the packet's key any more: its NAK KEY_DENIED leaves the filter entry. -/
theorem strayState_denied : ∃ u, execRxSend strayRx strayPacket strayState = .next u ∧ u.xport.filter ≠ [] :=
  ⟨_, rfl, by decide +kernel⟩

/-- Refutes O51: the clause of a SEND without a posted buffer supposes that the ward takes the packet before its bytes are charged
(R353). The model tests the ward after the charge, and nothing in the statement keeps a link key entry away from the counters. -/
theorem not_receivedPacketsComplete : ¬ Obligations.ReceivedPacketsComplete := by
  unfold Obligations.ReceivedPacketsComplete
  intro ⟨_, _, _, _, _, _, _, notReady, _⟩
  obtain ⟨drops, sleep, len, ctx, takes, asm, posted⟩ := strayTaken_takes
  obtain ⟨t, hrun, ht, _⟩ := notReady strayState strayTaken strayRx strayPacket strayCtx rfl rfl strayState_accepted drops sleep rfl len
    rfl ctx takes asm posted
  obtain ⟨u, hu, hfilter⟩ := strayState_denied
  have : t = u := Host.Outcome.next.inj (hrun.symm.trans hu)
  rw [← this, ht, strayTaken_notReady] at hfilter
  exact hfilter rfl

end Sys2Proof.Machine
end

section
/-! PROOFS. The steps of the collective sequencers (R317 to R320): the two that open and close a collective, and the two that move rows. -/
namespace Sys2Proof.Machine
open Sys2Proof Sys2Proof.Safety
variable {s t r : State} {core q : Nat} {e : Issued}

/-! ## The step at the front -/

theorem State.runStep_of_front {op : Nat} {f : Issued → State} (habort : s.aborting core = false) (hfront : s.front core op = some e) :
    s.runStep core op f = f e := by
  rw [State.runStep, if_neg (by simp [habort]), hfront]

/-! ## Collectives and their status -/

@[simp] theorem State.setColl_coll_self (q : Nat) (c : Coll) : (s.setColl q c).coll q = c := mget_mset_self _ _ q c

/-- A collective opens or closes: its entry and its status register. -/
def State.collNoted (s : State) (q : Nat) (c : Coll) (open_ : Nat) : State := (s.setColl q c).collStatus q open_ c.id

/-- The status register alone differs beside the entry. -/
theorem State.collNoted_frame (q : Nat) (c : Coll) (n : Nat) :
    RegFrame (fun a => a = R.XPORT_COLL_STATUS q) (s.setColl q c) (s.collNoted q c n) :=
  RegFrame.setF (RegFrame.setF (RegFrame.refl (fun a => a = R.XPORT_COLL_STATUS q) _) rfl _ _) rfl _ _

theorem State.collNoted_coll (q : Nat) (c : Coll) (n : Nat) : (s.collNoted q c n).coll q = c := by
  have hx : (s.collNoted q c n).xport = (s.setColl q c).xport := by rw [(State.collNoted_frame q c n).rest]
  rw [State.coll, hx]
  exact State.setColl_coll_self q c

theorem State.collNoted_reg_ne {a : Nat} (c : Coll) (n : Nat) (ha : a ≠ R.XPORT_COLL_STATUS q) : (s.collNoted q c n).reg a = s.reg a :=
  (State.collNoted_frame q c n).regs a ha

theorem State.collNoted_open (q : Nat) (c : Coll) (n : Nat) :
    (s.collNoted q c n).rf (R.XPORT_COLL_STATUS q) F.XPORT_COLL_STATUS_OPEN = n % 2 := by
  rw [State.collNoted, State.collStatus, State.setF_rf_other _ _ (by decide) (by decide), State.setF_rf_self _ _ (by decide)]
  rfl

theorem State.collNoted_id (q : Nat) (c : Coll) (n : Nat) :
    (s.collNoted q c n).rf (R.XPORT_COLL_STATUS q) F.XPORT_COLL_STATUS_COLL_ID = c.id % 2 ^ 16 :=
  State.setF_rf_self _ _ (by decide)

/-- A phase is of the cores alone. -/
theorem State.setPhase_eq (s : State) (k ord : Nat) (p : Phase) : s.setPhase k ord p = { s with cores := (s.setPhase k ord p).cores } := rfl

@[simp] theorem State.setPhase_coll (s : State) (k ord : Nat) (p : Phase) (q : Nat) : (s.setPhase k ord p).coll q = s.coll q := rfl

@[simp] theorem State.setPhase_reg (s : State) (k ord : Nat) (p : Phase) (a : Nat) : (s.setPhase k ord p).reg a = s.reg a := rfl

@[simp] theorem State.setPhase_rf (s : State) (k ord : Nat) (p : Phase) (a : Nat) (f : Fld) : (s.setPhase k ord p).rf a f = s.rf a f := rfl

/-- A command that ends after a change of registers and transport. -/
theorem ended_beside {u : State} (h : u = { s with regs := u.regs, xport := u.xport }) (k ord : Nat) (p : Phase) :
    Ended s (u.setPhase k ord p) k ord p ∧
      u.setPhase k ord p =
        { s with regs := (u.setPhase k ord p).regs, xport := (u.setPhase k ord p).xport, cores := (u.setPhase k ord p).cores } := by
  refine ⟨ended_of_cores (State.setPhase_ended _ _ _ _) (by rw [h]), ?_⟩
  generalize hc : (u.setPhase k ord p).cores = x
  change { u with cores := (u.setPhase k ord p).cores } = { s with regs := u.regs, xport := u.xport, cores := x }
  rw [hc, h]

theorem State.collNoted_beside (q : Nat) (c : Coll) (n : Nat) :
    s.collNoted q c n = { s with regs := (s.collNoted q c n).regs, xport := (s.collNoted q c n).xport } := by
  have hrest := (State.collNoted_frame (s := s) q c n).rest
  generalize s.collNoted q c n = u at hrest ⊢
  rw [hrest]
  rfl

theorem memThermStatus_ne_collStatus (st q : Nat) : R.MEM_THERM_STATUS st ≠ R.XPORT_COLL_STATUS q := by
  unfold R.MEM_THERM_STATUS R.XPORT_COLL_STATUS
  omega

theorem State.collNoted_therm (c : Coll) (n st : Nat) (f : Fld) :
    (s.collNoted q c n).rf (R.MEM_THERM_STATUS st) f = s.rf (R.MEM_THERM_STATUS st) f := by
  rw [State.rf, State.collNoted_reg_ne c n (memThermStatus_ne_collStatus st q), State.rf]

/-- The thermal state of the stacks is that of their registers. -/
theorem State.slowMask_congr (h : ∀ st f, t.rf (R.MEM_THERM_STATUS st) f = s.rf (R.MEM_THERM_STATUS st) f) (mask : Nat) :
    t.slowMask mask = s.slowMask mask := by
  simp only [State.slowMask, h]

theorem State.thermLevel_congr (h : ∀ st f, t.rf (R.MEM_THERM_STATUS st) f = s.rf (R.MEM_THERM_STATUS st) f) (st : Nat) :
    t.thermLevel st = s.thermLevel st := h st _

/-- Nothing more happens to a collective over quick and unfenced stacks. -/
theorem State.begun_of_quiet {mask : Nat} (hslow : s.slowMask mask = false)
    (hfence : (List.range 8).any (fun i => bitAt mask i && s.thermLevel i = 3) = false) :
    (let u := if s.slowMask mask then s.slowDeadline q else s
     if (List.range 8).any (fun i => bitAt mask i && u.thermLevel i = 3) then u.abortColl q St.thermalAbort else u) = s := by
  dsimp only
  rw [hslow, if_neg Bool.false_ne_true, hfence, if_neg Bool.false_ne_true]

/-! ## CBEGIN and CEND (R319, R320) -/

/-- The collective that a CBEGIN opens. -/
def State.collOpened (s : State) (k : Nat) (c : Cmd) : Coll :=
  { isOpen := true, id := fld c.w1 0 16
    members := memberList (fld c.w1 24 13) (s.csBytes k (fld c.w2 0 16) (8 * fld c.w1 24 13))
    mask := fld c.w1 16 8, timeout := fld c.w2 32 16, deadline := s.us + fld c.w2 32 16, abort := none }

theorem exec_cbegin (habort : s.aborting (160 + q) = false) (hfront : s.front (160 + q) 0x6A = some e)
    (hclosed : (s.coll q).isOpen = false) (hn : 0 < fld e.cmd.w1 24 13) (hmax : fld e.cmd.w1 24 13 ≤ 4096) (htime : fld e.cmd.w2 32 16 ≠ 0)
    (halign : fld e.cmd.w2 0 16 % 8 = 0) (hroom : fld e.cmd.w2 0 16 + 8 * fld e.cmd.w1 24 13 ≤ 65536)
    (hknown : s.xport.aborted.find? (fun a => a.1 = fld e.cmd.w1 0 16) = none) (hslow : s.slowMask (fld e.cmd.w1 16 8) = false)
    (hfence : (List.range 8).any (fun i => bitAt (fld e.cmd.w1 16 8) i && s.thermLevel i = 3) = false) :
    exec (.cbegin (160 + q)) s = .next ((s.collNoted q (s.collOpened (160 + q) e.cmd) 1).setPhase (160 + q) e.ord (.done St.ok)) := by
  have htherm : ∀ st f, ((s.collNoted q (s.collOpened (160 + q) e.cmd) 1).setPhase (160 + q) e.ord (.done St.ok)).rf
      (R.MEM_THERM_STATUS st) f = s.rf (R.MEM_THERM_STATUS st) f := fun st f =>
    (State.setPhase_rf _ _ _ _ _ _).trans (State.collNoted_therm _ 1 st f)
  have hbad : ((s.coll q).isOpen || fld e.cmd.w1 24 13 = 0 || decide (4096 < fld e.cmd.w1 24 13) || fld e.cmd.w2 32 16 = 0 ||
      decide (fld e.cmd.w2 0 16 % 8 ≠ 0) || decide (65536 < fld e.cmd.w2 0 16 + 8 * fld e.cmd.w1 24 13)) = false := by
    simp only [hclosed, Bool.false_or, Bool.or_eq_false_iff, decide_eq_false_iff_not]
    omega
  refine (congrArg Host.Outcome.next (State.runStep_of_front habort hfront)).trans (congrArg Host.Outcome.next ?_)
  simp only [Nat.add_sub_cancel_left, hbad, hknown, Bool.false_eq_true, if_false]
  refine State.begun_of_quiet (s := (s.collNoted q (s.collOpened (160 + q) e.cmd) 1).setPhase (160 + q) e.ord (.done St.ok))
    ((State.slowMask_congr htherm _).trans hslow) ?_
  simp only [State.thermLevel_congr htherm, hfence]

theorem exec_cbegin_of_open (habort : s.aborting core = false) (hfront : s.front core 0x6A = some e)
    (hopen : (s.coll (core - 160)).isOpen = true) : exec (.cbegin core) s = .next (s.setPhase core e.ord (.done St.bounds)) := by
  refine (congrArg Host.Outcome.next (State.runStep_of_front habort hfront)).trans (congrArg Host.Outcome.next ?_)
  exact if_pos (by simp [hopen])

theorem exec_cend (habort : s.aborting (160 + q) = false) (hfront : s.front (160 + q) 0x6B = some e)
    (hfirst : (s.core (160 + q)).issued.any (fun f => decide (f.ord < e.ord)) = false) (hopen : (s.coll q).isOpen = true)
    (hid : (s.coll q).id = fld e.cmd.w1 0 16) :
    exec (.cend (160 + q)) s = .next ((s.collNoted q { s.coll q with isOpen := false } 0).setPhase (160 + q) e.ord (.done St.ok)) := by
  refine (congrArg Host.Outcome.next (State.runStep_of_front habort hfront)).trans (congrArg Host.Outcome.next ?_)
  dsimp only
  rw [if_neg (by simp [hfirst]), Nat.add_sub_cancel_left, if_neg (by simp [hopen, hid])]
  rfl

/-! ## CQSEND (R317) -/

theorem exec_cqsend {s1 : State} {x : State × List Byte × CqOut} (habort : s.aborting core = false)
    (hfront : s.front core 0x68 = some e) (hqueue : s.queueChk core (fld e.cmd.w2 0 20) = (s1, St.ok))
    (hchk : s1.cqsendChk core e.cmd = St.ok) (hrows : s1.cqRows core e = x) (hst : x.2.2.st = St.ok) :
    exec (.cqsend core) s = .next
      ((x.1.setTally core e.ord [(e.cmd.fmtD, x.2.2.cats), (2, x.2.2.errCats)]).submit
        { (x.1.setTally core e.ord [(e.cmd.fmtD, x.2.2.cats), (2, x.2.2.errCats)]).queueMsg core e.ord (fld e.cmd.w2 0 20) 0 x.2.1.length 0
            (fld e.cmd.w2 20 22 * 64) with data := x.2.1, fetch := false, st := St.ok }) := by
  refine (congrArg Host.Outcome.next (State.runStep_of_front habort hfront)).trans (congrArg Host.Outcome.next ?_)
  dsimp only
  rw [hqueue, hchk]
  dsimp only
  rw [hrows, hst, if_neg (by decide), if_neg (by decide)]

/-! ## CADD (R318) -/

theorem State.readUnits_mframe (a n : Nat) (h : MemFrame r s) : MemFrame r (s.readUnits a n).1 :=
  MemFrame.foldl_fst h fun _ _ hacc => State.devRead_mframe _ _ _ _ _ hacc

theorem State.caddRow_mframe (c : Cmd) (i : Nat) (h : MemFrame r s) : MemFrame r (s.caddRow c i).1 :=
  State.devRead_mframe _ _ _ _ _ (State.readUnits_mframe _ _ h)

/-- The rows of a CADD change memory alone. -/
theorem State.caddRows_mframe (s : State) (c : Cmd) : MemFrame s (s.caddRows c).1 := by
  unfold State.caddRows
  refine MemFrame.foldl_fst (MemFrame.refl s) fun acc i hacc => ?_
  have hrow := State.caddRow_mframe c i hacc
  dsimp only
  split
  · exact MemFrame.foldl_fst hrow fun b _ hb => State.uAtomic_mframe _ _ _ _ hb
  · exact State.devWrite_mframe _ _ _ _ hrow

/-- Counting the elements that a command has rounded changes registers alone. -/
theorem State.tallyUp_frame (s : State) (k : Nat) (e : Issued) (st : Nat) : RegFrame (fun _ => True) s (s.tallyUp k e st) := by
  have hcount : ∀ {t : State} (k w f c n), RegFrame (fun _ => True) s t → RegFrame (fun _ => True) s (t.count k w f c n) := by
    intro t k w f c n ht
    unfold State.count
    dsimp only
    split
    · exact ht
    · have hcell : RegFrame (fun _ => True) s (if isCell k then t.addF (R.HALF_FH (k / 64) (k % 64) f c) F.HALF_FH_COUNT n else t) := by
        split
        · exact ht.setF trivial _ _
        · exact ht
      split
      · exact hcell.setF trivial _ _
      · exact hcell
  unfold State.tallyUp
  split
  · exact RegFrame.refl _ s
  · exact List.foldlRecOn (motive := RegFrame (fun _ => True) s) _ _ (RegFrame.refl _ s) fun t ht x _ =>
      List.foldlRecOn (motive := RegFrame (fun _ => True) s) _ _ ht fun u hu c _ => hcount _ _ _ _ _ hu

/-- A command that has executed to the end: the registers of its counts, then its phase. -/
theorem State.cmdDone_eq (s : State) (k ord st : Nat) :
    ∃ u, RegFrame (fun _ => True) s u ∧ s.cmdDone k ord st = u.setPhase k ord (.done st) := by
  unfold State.cmdDone
  split
  case h_1 e' _ => exact ⟨_, s.tallyUp_frame k e' st, rfl⟩
  case h_2 => exact ⟨_, RegFrame.refl _ s, rfl⟩

theorem Core.Reissued.trans {a b c : Core} {l m : List Issued} (h : a.Reissued l b) (g : b.Reissued m c) : a.Reissued m c :=
  ⟨g.1, by rw [g.2, h.2]⟩

/-- Of two cores with new lists of issued commands, the second is the first with its list. -/
theorem Core.Reissued.of_left {a b c : Core} {l m : List Issued} (h : a.Reissued l b) (g : a.Reissued m c) : b.Reissued m c :=
  ⟨g.1, by rw [h.2, g.2]⟩

theorem State.setTally_reissued (s : State) (k ord : Nat) (l : List (Nat × List Nat)) :
    (s.core k).Reissued ((s.core k).issued.map (fun e => if e.ord = ord then { e with tally := l } else e)) ((s.setTally k ord l).core k) := by
  rw [State.setTally, State.setIssued_core]
  exact Core.withIssued_reissued _ _ _ _

/-- A tally set over memory that a command has changed, and the end of that command. -/
theorem ended_of_tally {k ord : Nat} {l : List (Nat × List Nat)} {st : Nat} (hr : r.cores = s.cores) :
    Ended (s.setTally k ord l) ((r.setTally k ord l).cmdDone k ord st) k ord (.done st) := by
  obtain ⟨u, hu, hdone⟩ := (r.setTally k ord l).cmdDone_eq k ord st
  have hcore : ∀ j, r.core j = s.core j := fun j => by rw [State.core, hr, State.core]
  have hucore : ∀ j, u.core j = (r.setTally k ord l).core j := fun j => by rw [State.core, hu.rest, State.core]
  obtain ⟨hissued, hrest, hothers⟩ := u.setPhase_ended k ord (.done st)
  have hs := s.setTally_reissued k ord l
  have hr := r.setTally_reissued k ord l
  rw [hucore] at hissued hrest
  rw [hcore] at hr
  have hall := hs.of_left (hr.trans ⟨hissued, hrest⟩)
  rw [hdone]
  refine ⟨hissued.trans (by rw [hr.1, hs.1]), hall.2, fun j hj => (hothers j hj).trans ?_⟩
  rw [hucore, State.setTally, State.setIssued_core_ne _ hj, hcore, State.setTally, State.setIssued_core_ne _ hj]

theorem State.cmdDone_fields (s : State) (k ord st : Nat) :
    s.cmdDone k ord st = { s with regs := (s.cmdDone k ord st).regs, cores := (s.cmdDone k ord st).cores } := by
  obtain ⟨u, hu, hdone⟩ := s.cmdDone_eq k ord st
  have hbeside : ∀ x, { u with cores := x } = { s with regs := u.regs, cores := x } := fun x => by rw [hu.rest]
  rw [hdone]
  exact (State.setPhase_eq _ _ _ _).trans (hbeside _)

/-- What a command may change that has changed memory, and then counts, tally and phase. -/
theorem MemFrame.cmdDone_eq (h : MemFrame s r) (k ord st : Nat) (l : List (Nat × List Nat)) :
    (r.setTally k ord l).cmdDone k ord st =
      { s with
        mem := ((r.setTally k ord l).cmdDone k ord st).mem
        regs := ((r.setTally k ord l).cmdDone k ord st).regs
        evt := ((r.setTally k ord l).cmdDone k ord st).evt
        free := ((r.setTally k ord l).cmdDone k ord st).free
        cores := ((r.setTally k ord l).cmdDone k ord st).cores } := by
  have hdone := State.cmdDone_fields (r.setTally k ord l) k ord st
  have htally : r.setTally k ord l = { r with cores := (r.setTally k ord l).cores } := rfl
  have hmem := h.eq
  generalize r.setTally k ord l = v at htally hdone ⊢
  generalize v.cmdDone k ord st = u at hdone ⊢
  rw [hdone, htally, hmem]

theorem exec_cadd (habort : s.aborting core = false) (hfront : s.front core 0x69 = some e)
    (hfirst : (s.core core).issued.any (fun f => f.cmd.opcode = 0x69 && decide (f.ord < e.ord)) = false)
    (hchk : s.caddChk core e.cmd = St.ok) :
    exec (.cadd core) s = .next
      (((s.caddRows e.cmd).1.setTally core e.ord [(e.cmd.fmtD, (s.caddRows e.cmd).2.2)]).cmdDone core e.ord (s.caddRows e.cmd).2.1) := by
  refine (congrArg Host.Outcome.next (State.runStep_of_front habort hfront)).trans (congrArg Host.Outcome.next ?_)
  dsimp only
  rw [hfirst, hchk]
  rfl

/-! ## The statement -/

/-! ## The statement -/

/-- Settles O53, one lemma for each step; a CADD changes memory, then the counts of what it has rounded, then its own phase. -/
theorem collectiveStepsComplete : Obligations.CollectiveStepsComplete := by
  unfold Obligations.CollectiveStepsComplete
  refine ⟨?begin, ?nested, ?end_, ?send, ?add⟩
  case begin =>
    intro s q e _ habort hfront hclosed hn hmax htime halign hroom hknown hslow hfence
    obtain ⟨hended, hrest⟩ := ended_beside (s.collNoted_beside q (s.collOpened (160 + q) e.cmd) 1) (160 + q) e.ord (.done St.ok)
    refine ⟨_, exec_cbegin habort hfront hclosed hn hmax htime halign hroom hknown hslow hfence, ?_, ?_, ?_, hended, fun a ha => ?_, hrest⟩
    · rw [State.setPhase_coll, State.collNoted_coll, State.collOpened]
    · rw [State.setPhase_rf, State.collNoted_open]
    · rw [State.setPhase_rf, State.collNoted_id]
      exact Nat.mod_eq_of_lt (Nat.mod_lt _ (Nat.two_pow_pos 16))
    · rw [State.setPhase_reg, State.collNoted_reg_ne _ _ ha]
  case nested =>
    intro s core e habort hfront hopen
    exact ⟨_, exec_cbegin_of_open habort hfront hopen, State.setPhase_ended _ _ _ _, rfl⟩
  case end_ =>
    intro s q e _ habort hfront hfirst hopen hid
    obtain ⟨hended, hrest⟩ := ended_beside (s.collNoted_beside q { s.coll q with isOpen := false } 0) (160 + q) e.ord (.done St.ok)
    refine ⟨_, exec_cend habort hfront hfirst hopen hid, ?_, ?_, hended, fun a ha => ?_, hrest⟩
    · rw [State.setPhase_coll, State.collNoted_coll]
    · rw [State.setPhase_rf, State.collNoted_open]
    · rw [State.setPhase_reg, State.collNoted_reg_ne _ _ ha]
  case send =>
    intro s core e s1 s2 x habort hfront hqueue hchk hrows hst hs2
    subst hs2
    exact ⟨_, exec_cqsend habort hfront hqueue hchk hrows hst, rfl⟩
  case add =>
    intro s core e r habort hfront hfirst hchk hr
    subst hr
    have hmem := s.caddRows_mframe e.cmd
    have hrest := State.cmdDone_fields ((s.caddRows e.cmd).1.setTally core e.ord [(e.cmd.fmtD, (s.caddRows e.cmd).2.2)]) core e.ord
      (s.caddRows e.cmd).2.1
    refine ⟨_, exec_cadd habort hfront hfirst hchk, ended_of_tally hmem.cores, by rw [hrest]; rfl, hmem.cmdDone_eq _ _ _ _⟩

end Sys2Proof.Machine
end

section
/-! PROOFS. Doorbells and queue contexts as software reads and writes them (R297 to R300), and the registration of regions (R303 to R306,
R413). -/
namespace Sys2Proof.Machine
open Sys2Proof Sys2Proof.Safety
variable {s t : State} {who : Requester} {q i : Nat} {c old : Ctx}

/-! ## Control writes that pass -/

/-- A control write that is served now and passes every check has its register's effect, and is answered with OK. -/
theorem exec_served {i : Instr} {a : Nat} {f : State → State} (hnow : ServedNow s who = true) (hreach : s.reach who a = St.ok) :
    s.byHost who i (fun s => .next (s.ctlDo who a St.ok f)) = .next ((f s).answer St.ok) := by
  rw [State.byHost_eq hnow hreach, State.ctlDo_ok hreach rfl]

/-- A write that R429 does not refuse passes over its test. -/
theorem not_lockedWrite {a w : Nat} (h : (lockable who && s.locked w) = false) :
    ¬(s.reach who a = St.ok && lockable who && s.locked w) = true := by
  rw [Bool.and_assoc, h, Bool.and_false]
  exact Bool.false_ne_true

/-! ## Doorbells (R299, R300) -/

theorem State.bell_of_served (f : Ctx → Ctx) (hc : s.ctxCached q = some c) (hen : c.enable = true) (htyp : c.typ = 0) :
    s.bell q f = (s.ctxKeep q c).ctxPut q (f c) := by
  simp [State.bell, State.ctxLoad_of_cached hc, hen, htyp]

theorem State.bell_of_unserved (f : Ctx → Ctx) (hc : s.ctxCached q = some c) (hout : c.enable = false ∨ c.typ ≠ 0) :
    s.bell q f = (s.ctxKeep q c).raise { ev 0x1808 1 0 0 with addr := q } := by
  have hno : ¬(c.enable && decide (c.typ = 0)) = true := by
    rcases hout with h | h <;> simp [h]
  simp only [State.bell, State.ctxLoad_of_cached hc, State.ctxKeep_ctx_self, if_neg hno]
  rfl

/-- A context put over a cached one changes memory and the transport. -/
theorem State.ctxPut_frame (s : State) (q : Nat) (c d : Ctx) : (s.ctxKeep q c).ctxPut q d =
    { s with
      mem := ((s.ctxKeep q c).ctxPut q d).mem
      regs := ((s.ctxKeep q c).ctxPut q d).regs
      evt := ((s.ctxKeep q c).ctxPut q d).evt
      free := ((s.ctxKeep q c).ctxPut q d).free
      xport := ((s.ctxKeep q c).ctxPut q d).xport } := by
  have h := State.ctxPut_mframe (s.ctxKeep q c) q d
  have hx := h.xport
  have heq := h.eq
  generalize (s.ctxKeep q c).ctxPut q d = u at heq hx ⊢
  rw [hx]
  exact heq

theorem State.ctxPut_ctx (s : State) (q : Nat) (c : Ctx) : (s.ctxPut q c).ctx q = c := by
  rw [State.ctx_congr (State.ctxPut_mframe s q c).xport, State.ctxKeep_ctx_self]

/-- What a doorbell of a queue in service does: the context with its field set, written through. -/
theorem State.bell_served (f : Ctx → Ctx) (hc : s.ctxCached q = some c) (hen : c.enable = true) (htyp : c.typ = 0)
    (ht : t = (s.bell q f).answer St.ok) :
    t.ctx q = f c ∧ t.resp.status = St.ok ∧ t.cores = s.cores ∧
      t = { s with mem := t.mem, regs := t.regs, evt := t.evt, free := t.free, xport := t.xport, resp := t.resp } := by
  rw [State.bell_of_served f hc hen htyp] at ht
  have hctx := State.ctxPut_ctx (s.ctxKeep q c) q (f c)
  have hframe := State.ctxPut_frame s q c (f c)
  generalize (s.ctxKeep q c).ctxPut q (f c) = u at ht hctx hframe
  subst ht
  refine ⟨hctx, rfl, by rw [State.answer_cores, hframe], ?_⟩
  rw [hframe]
  rfl

/-- And of any other: CTX_FAULT. -/
theorem State.bell_unserved (f : Ctx → Ctx) (hc : s.ctxCached q = some c) (hout : c.enable = false ∨ c.typ ≠ 0)
    (ht : t = (s.bell q f).answer St.ok) :
    t.ctx q = c ∧ t.resp.status = St.ok ∧ t = { s with regs := t.regs, evt := t.evt, xport := t.xport, resp := t.resp } := by
  rw [State.bell_of_unserved f hc hout] at ht
  have hframe := (s.ctxKeep q c).raise_eq { ev 0x1808 1 0 0 with addr := q }
  have hctx : ((s.ctxKeep q c).raise { ev 0x1808 1 0 0 with addr := q }).ctx q = c := by
    rw [State.ctx_congr (r := s.ctxKeep q c) (by rw [hframe]), State.ctxKeep_ctx_self]
  generalize (s.ctxKeep q c).raise { ev 0x1808 1 0 0 with addr := q } = u at ht hframe hctx
  subst ht
  refine ⟨hctx, rfl, ?_⟩
  rw [hframe]
  rfl

/-! ## Contexts in the data registers (R297) -/

theorem RegFrame.setReg {p : Nat → Prop} (h : RegFrame p s t) {a : Nat} (ha : p a) (v : W64) : RegFrame p s (t.setReg a v) := by
  refine ⟨?_, fun b hb => ?_⟩
  · conv_lhs => rw [h.rest]
    rfl
  · have hne : b ≠ a := fun e => hb (e.symm ▸ ha)
    exact (State.setReg_reg_ne v hne).trans (h.regs b hb)

/-- Registers written one after another leave the rest. -/
theorem State.setRegs_frame (l : List (Nat × W64)) (f : Nat → Nat) :
    RegFrame (fun a => ∃ e ∈ l, a = f e.1) s (l.foldl (fun s e => s.setReg (f e.1) e.2) s) :=
  List.foldlRecOn (motive := RegFrame (fun a => ∃ e ∈ l, a = f e.1) s) l _ (RegFrame.refl _ s) fun _ ht e he => ht.setReg ⟨e, he, rfl⟩ e.2

/-- Of registers written one after another, each reads as it was written. -/
theorem State.setRegs_reg (f : Nat → Nat) (hf : Function.Injective f) :
    ∀ (l : List (Nat × W64)) (s : State), (l.map (·.1)).Nodup → ∀ e ∈ l, (l.foldl (fun s e => s.setReg (f e.1) e.2) s).reg (f e.1) = e.2 := by
  intro l
  induction l with
  | nil => exact fun _ _ e he => absurd he List.not_mem_nil
  | cons x l ih =>
    intro s hnodup e he
    obtain ⟨hx, hl⟩ := List.nodup_cons.1 hnodup
    rcases List.mem_cons.1 he with rfl | he
    · refine ((State.setRegs_frame l f).regs _ fun ⟨y, hy, hfy⟩ => hx ?_).trans (State.setReg_reg_self _ _)
      exact List.mem_map.2 ⟨y, hy, (hf hfy).symm⟩
    · exact ih _ hl e he

theorem ctxData_injective : Function.Injective R.XPORT_CTX_DATA := fun a b h => by
  unfold R.XPORT_CTX_DATA at h
  omega

theorem State.showCtx_frame (s : State) (c : Ctx) : RegFrame (fun _ => True) s (s.showCtx c) := by
  have h := State.setRegs_frame (s := s) (List.zip (List.range 8) [c.w0, c.w1, c.w2, c.w3, c.w4, c.w5, c.w6, c.w7]) R.XPORT_CTX_DATA
  exact ⟨h.rest, fun _ hn => absurd trivial hn⟩

theorem State.showCtx_data (s : State) (c : Ctx) (hi : i < 8) :
    (s.showCtx c).reg (R.XPORT_CTX_DATA i) = [c.w0, c.w1, c.w2, c.w3, c.w4, c.w5, c.w6, c.w7].getD i 0 := by
  have hall := State.setRegs_reg R.XPORT_CTX_DATA ctxData_injective
    (List.zip (List.range 8) [c.w0, c.w1, c.w2, c.w3, c.w4, c.w5, c.w6, c.w7]) s (by simp [List.map_fst_zip, List.nodup_range])
  refine hall (i, [c.w0, c.w1, c.w2, c.w3, c.w4, c.w5, c.w6, c.w7].getD i 0) ?_
  interval_cases i <;> simp [List.range_succ]

/-- The status of a context command. -/
theorem State.ctxStatus_frame (s : State) (st : Nat) : RegFrame (· = R.XPORT_CTX_STATUS) s (s.ctxStatus st) :=
  RegFrame.setF (RegFrame.setF (RegFrame.refl (· = R.XPORT_CTX_STATUS) s) rfl _ _) rfl _ _

theorem State.ctxStatus_busy (s : State) (st : Nat) : (s.ctxStatus st).rf R.XPORT_CTX_STATUS F.XPORT_CTX_STATUS_BUSY = 0 := by
  rw [State.ctxStatus, State.setF_rf_other _ _ (by decide) (by decide), State.setF_rf_self _ _ (by decide), Nat.zero_mod]

theorem State.ctxStatus_status (s : State) (st : Nat) : (s.ctxStatus st).rf R.XPORT_CTX_STATUS F.XPORT_CTX_STATUS_STATUS = st % 2 ^ 8 :=
  State.setF_rf_self _ _ (by decide)

theorem ctxData_ne_ctxStatus (hi : i < 8) : R.XPORT_CTX_DATA i ≠ R.XPORT_CTX_STATUS := by
  unfold R.XPORT_CTX_DATA R.XPORT_CTX_STATUS
  omega

/-- Beside the cache and registers, an answer. -/
theorem RegFrame.cached_answer {p : Nat → Prop} (h : RegFrame p (s.ctxKeep q c) t) (st : Nat) :
    t.answer st = { s with regs := (t.answer st).regs, xport := (t.answer st).xport, resp := (t.answer st).resp } := by
  rw [h.rest]
  rfl

theorem State.answer_ctx (s : State) (st q : Nat) : (s.answer st).ctx q = s.ctx q := rfl

theorem RegFrame.ctx {p : Nat → Prop} (h : RegFrame p s t) (q : Nat) : t.ctx q = s.ctx q := State.ctx_congr (by rw [h.rest]) q

theorem RegFrame.trans {p : Nat → Prop} {r : State} (h : RegFrame p r s) (g : RegFrame p s t) : RegFrame p r t :=
  ⟨by rw [g.rest, h.rest], fun a ha => (g.regs a ha).trans (h.regs a ha)⟩

theorem RegFrame.mono {p p' : Nat → Prop} (h : RegFrame p s t) (hp : ∀ a, p a → p' a) : RegFrame p' s t :=
  ⟨h.rest, fun a ha => h.regs a fun hpa => ha (hp a hpa)⟩

/-- The context that a write leaves: putting it into service clears ERROR. -/
def Ctx.enabled (c : Ctx) : Ctx := if c.enable then { c with w0 := setFld c.w0 13 1 0 } else c

/-- The checks of a context write do not look at the cache. -/
theorem State.ctxKeep_ctxWriteChk (s : State) (q : Nat) (c : Ctx) (p : Nat) (old new : Ctx) :
    (s.ctxKeep q c).ctxWriteChk p old new = s.ctxWriteChk p old new := rfl

theorem State.ctxWrite_of_cached (hc : s.ctxCached q = some old) (hchk : s.ctxWriteChk q old s.ctxData = St.ok) :
    s.ctxWrite q = ((s.ctxKeep q old).ctxPut q s.ctxData.enabled).ctxStatus
      (((s.ctxKeep q old).ctxKeep q s.ctxData.enabled).uWrite (s.ctxAddr q) 0 s.ctxData.enabled.bytes).2 := by
  have hdata : (s.ctxKeep q old).ctxData = s.ctxData := rfl
  simp only [State.ctxWrite, State.ctxLoad_of_cached hc, State.ctxKeep_ctx_self, hdata, State.ctxKeep_ctxWriteChk, hchk]
  rfl

theorem State.ctxWrite_of_bad (hc : s.ctxCached q = some old) (hchk : s.ctxWriteChk q old s.ctxData ≠ St.ok) :
    s.ctxWrite q = (s.ctxKeep q old).ctxStatus (s.ctxWriteChk q old s.ctxData) := by
  have hdata : (s.ctxKeep q old).ctxData = s.ctxData := rfl
  simp only [State.ctxWrite, State.ctxLoad_of_cached hc, State.ctxKeep_ctx_self, hdata, State.ctxKeep_ctxWriteChk]
  rw [if_neg (by simp), if_pos hchk]

theorem exec_ctxCmdRead (hnow : ServedNow s who = true) (hreach : s.reach who R.XPORT_CTX_CMD = St.ok) (hc : s.ctxCached q = some c) :
    exec (.ctxCmdRead who q) s = .next ((((s.ctxKeep q c).showCtx c).ctxStatus St.ok).answer St.ok) := by
  refine (exec_served hnow hreach).trans (congrArg (fun u : State => Host.Outcome.next (u.answer St.ok)) ?_)
  simp [State.ctxLoad_of_cached hc]

theorem exec_ctxCmdWrite (hnow : ServedNow s who = true) (hreach : s.reach who R.XPORT_CTX_CMD = St.ok)
    (hlock : (lockable who && (match s.wardOfQueue q with | some w => s.locked w | none => false)) = false) :
    exec (.ctxCmdWrite who q) s = .next ((s.ctxWrite q).answer St.ok) := by
  refine (State.byHost_eq hnow hreach).trans ((congrArg Host.Outcome.next ?_).trans
    (congrArg Host.Outcome.next (State.ctlDo_ok (f := fun s => s.ctxWrite q) hreach rfl)))
  cases hw : s.wardOfQueue q with
  | none => rfl
  | some w =>
    rw [hw] at hlock
    exact if_neg (not_lockedWrite hlock)

/-! ## Regions (R303 to R306, R413) -/

theorem worst_wardFault (a : Nat) (h : statusRank a ≠ 0) : worst a St.wardFault = St.wardFault :=
  if_pos (Nat.pos_of_ne_zero h)

theorem State.regionChkReg_of_foreign {w a n : Nat} (hspace : spaceOfRange a n = .unified) (hn : 0 < n) (hmax : n ≤ 2 ^ 39)
    (hi : i ≤ (a + n - 1) / 2 ^ 25 - a / 2 ^ 25) (howner : s.sliceOwner (a / 2 ^ 25 + i) ≠ w) :
    s.regionChkReg w a n = St.wardFault := by
  have hsize : (decide (n = 0) || decide (2 ^ 39 < n)) = false := by
    rw [decide_eq_false (Nat.pos_iff_ne_zero.1 hn), decide_eq_false (Nat.not_lt.2 hmax)]
    rfl
  have hany : ((List.range ((a + n - 1) / 2 ^ 25 - a / 2 ^ 25 + 1)).map (fun i => s.sliceOwner (a / 2 ^ 25 + i))).any (fun o => o ≠ w) =
      true := by
    refine List.any_eq_true.2 ⟨_, List.mem_map.2 ⟨i, List.mem_range.2 (Nat.lt_succ_of_le hi), rfl⟩, decide_eq_true howner⟩
  unfold State.regionChkReg
  rw [hsize, hspace]
  dsimp only
  rw [hany]
  refine worst_wardFault _ ?_
  unfold chk
  split <;> decide

theorem State.regStatus_frame (s : State) (busy st : Nat) : RegFrame (· = R.XPORT_REG_STATUS) s (s.regStatus busy st) :=
  RegFrame.setF (RegFrame.setF (RegFrame.refl (· = R.XPORT_REG_STATUS) s) rfl _ _) rfl _ _

theorem State.regStatus_busy (s : State) (busy st : Nat) :
    (s.regStatus busy st).rf R.XPORT_REG_STATUS F.XPORT_REG_STATUS_BUSY = busy % 2 := by
  rw [State.regStatus, State.setF_rf_other _ _ (by decide) (by decide), State.setF_rf_self _ _ (by decide)]
  rfl

theorem State.regStatus_xport (s : State) (busy st : Nat) : (s.regStatus busy st).xport = s.xport := by rw [(s.regStatus_frame busy st).rest]

/-- A region's entry changes, and the register interface is busy with `b`. -/
def State.regSet (s : State) (i : Nat) (r : Option XRegion) (b : Option Nat) : State :=
  s.modX (fun x => { x with regions := mset none x.regions i r, regBusy := b })

@[simp] theorem State.regSet_xregion (i : Nat) (r : Option XRegion) (b : Option Nat) : (s.regSet i r b).xregion i = r :=
  mget_mset_self _ _ i r

/-- The region that a registration makes. -/
def State.newRegion (s : State) (w : Nat) (pw pr pa : Bool) : XRegion :=
  { base := s.rf R.XPORT_REG_ADDR F.XPORT_REG_ADDR_ADDR, len := s.rf R.XPORT_REG_LEN F.XPORT_REG_LEN_LEN, ward := w
    permWrite := pw, permRead := pr, permAtomic := pa, sig := s.reg R.XPORT_REG_SIG
    access := (Config.randomWord s.rnd).toNat % 2 ^ 32, phase := 0 }

/-- A registration as it starts: one draw, the entry with its new generation. -/
def State.regMade (s : State) (i w : Nat) (pw pr pa : Bool) : State :=
  { s with rnd := s.rnd + 1 }.modX (fun x => { x with
    regions := mset none x.regions i (some (s.newRegion w pw pr pa)), gens := mset 0 x.gens i (mget 0 x.gens i + 1), regBusy := some i })

theorem State.regMade_xregion (i w : Nat) (pw pr pa : Bool) : (s.regMade i w pw pr pa).xregion i = some (s.newRegion w pw pr pa) := by
  rw [State.xregion, State.regMade, State.modX, mget_mset_self]

theorem State.regMade_xregion_ne {j : Nat} (w : Nat) (pw pr pa : Bool) (h : j ≠ i) : (s.regMade i w pw pr pa).xregion j = s.xregion j := by
  rw [State.xregion, State.regMade, State.modX, mget_mset_ne _ _ _ _ h, State.xregion]

theorem State.regMade_gens (i w : Nat) (pw pr pa : Bool) :
    mget 0 (s.regMade i w pw pr pa).xport.gens i = mget 0 s.xport.gens i + 1 := by
  rw [State.regMade, State.modX, mget_mset_self]

theorem State.xregion_congr (h : t.xport = s.xport) (i : Nat) : t.xregion i = s.xregion i := by rw [State.xregion, h, State.xregion]

theorem RegFrame.xregion {p : Nat → Prop} (h : RegFrame p s t) (i : Nat) : t.xregion i = s.xregion i :=
  State.xregion_congr (by rw [h.rest]) i

theorem State.regStart_of_ok {w : Nat} (pw pr pa : Bool) (hbusy : s.xport.regBusy = none) (hward : s.wardState w = 1)
    (hchk : s.regionChkReg w (s.rf R.XPORT_REG_ADDR F.XPORT_REG_ADDR_ADDR) (s.rf R.XPORT_REG_LEN F.XPORT_REG_LEN_LEN) = St.ok)
    (hfree : s.freeRegion = some i) (hrng : s.rf R.SEC_STATUS F.SEC_STATUS_RNG_OK = 1) :
    s.regStart w pw pr pa = (s.regMade i w pw pr pa).regStatus 1 St.ok := by
  simp only [State.regStart, hbusy, hward, hchk, hfree, hrng, ne_eq, not_true_eq_false, decide_false, Bool.false_and, Option.isNone_some,
    Option.isSome_none, chk_false, worst_ok_right, Bool.false_eq_true, if_false]
  rfl

theorem State.regStop_of_own {w : Nat} {r : XRegion} (hbusy : s.xport.regBusy = none)
    (hr : s.xregion (s.rf R.XPORT_REG_KEY F.XPORT_REG_KEY_REGION_KEY % 65536) = some r)
    (hgen : mget 0 s.xport.gens (s.rf R.XPORT_REG_KEY F.XPORT_REG_KEY_REGION_KEY % 65536) =
      s.rf R.XPORT_REG_KEY F.XPORT_REG_KEY_REGION_KEY / 65536) (hward : r.ward = w) :
    s.regStop w = (s.regSet (s.rf R.XPORT_REG_KEY F.XPORT_REG_KEY_REGION_KEY % 65536) (some { r with phase := 2 })
      (some (s.rf R.XPORT_REG_KEY F.XPORT_REG_KEY_REGION_KEY % 65536))).regStatus 1 St.ok := by
  simp only [State.regStop, hbusy, hr, hgen, hward]
  simp [State.regSet]

/-- A region that is being deregistered is named by no key (R306). -/
theorem State.regionByKey_of_stopped {key access : Nat} {r : XRegion} (h : s.xregion (key % 65536) = some { r with phase := 2 }) :
    s.regionByKey key access = none := by
  simp [State.regionByKey, h]

/-- The keys of a region as software is shown them. -/
def State.keysShown (s : State) (region access : Nat) : State :=
  (s.setF R.XPORT_REG_KEY F.XPORT_REG_KEY_REGION_KEY region).setF R.XPORT_REG_KEY F.XPORT_REG_KEY_ACCESS_KEY access

theorem State.keysShown_frame (s : State) (region access : Nat) : RegFrame (· = R.XPORT_REG_KEY) s (s.keysShown region access) :=
  RegFrame.setF (RegFrame.setF (RegFrame.refl (· = R.XPORT_REG_KEY) s) rfl _ _) rfl _ _

theorem State.keysShown_region (s : State) {region access : Nat} (h : region < 2 ^ 32) :
    (s.keysShown region access).rf R.XPORT_REG_KEY F.XPORT_REG_KEY_REGION_KEY = region := by
  rw [State.keysShown, State.setF_rf_other _ _ (by decide) (by decide), State.setF_rf_self _ _ (by decide)]
  exact Nat.mod_eq_of_lt h

theorem State.keysShown_access (s : State) {region access : Nat} (h : access < 2 ^ 32) :
    (s.keysShown region access).rf R.XPORT_REG_KEY F.XPORT_REG_KEY_ACCESS_KEY = access :=
  (State.setF_rf_self _ _ (by decide)).trans (Nat.mod_eq_of_lt h)

theorem State.regStatus_rf_key (s : State) (busy st : Nat) (f : Fld) : (s.regStatus busy st).rf R.XPORT_REG_KEY f = s.rf R.XPORT_REG_KEY f := by
  rw [State.rf, (s.regStatus_frame busy st).regs _ (by decide), State.rf]

theorem exec_regCmdDone_register {r : XRegion} (hclk : s.clk.on = true) (hbusy : s.xport.regBusy = some i)
    (hr : s.xregion i = some r) (hphase : r.phase = 0) (hmove : s.rangeMoving r.base r.len = false) :
    exec .regCmdDone s = .next (((s.regSet i (some { r with phase := 1 }) none).keysShown (mget 0 s.xport.gens i * 65536 + i)
      r.access).regStatus 0 St.ok) := by
  change execRegCmdDone s = _
  simp only [execRegCmdDone, hclk, hbusy, hr, hphase, hmove]
  rfl

theorem exec_regCmdDone_deregister {r : XRegion} (hclk : s.clk.on = true) (hbusy : s.xport.regBusy = some i)
    (hr : s.xregion i = some r) (hphase : r.phase ≠ 0) : exec .regCmdDone s = .next ((s.regSet i none none).regStatus 0 St.ok) := by
  change execRegCmdDone s = _
  simp only [execRegCmdDone, hclk, hbusy, hr, hphase]
  rfl

/-! ## The statement -/

/-- Settles O49, one lemma for each command: what changes is the context or the region's entry, the registers that show it, and for a
context that is written through, memory. -/
theorem contextsAndRegionsComplete : Obligations.ContextsAndRegionsComplete := by
  unfold Obligations.ContextsAndRegionsComplete
  refine ⟨?prod, ?cons, ?unserved, ?read, ?write, ?bad, ?foreign, ?start, ?made, ?stop, ?gone⟩
  case prod =>
    intro s who q v c hnow hreach hc hen htyp
    exact ⟨_, exec_served hnow hreach, State.bell_served _ hc hen htyp rfl⟩
  case cons =>
    intro s who q v c hnow hreach hc hen htyp
    exact ⟨_, exec_served hnow hreach, State.bell_served _ hc hen htyp rfl⟩
  case unserved =>
    intro s who q v c hnow hreach hc hout
    exact ⟨_, exec_served hnow hreach, State.bell_unserved _ hc hout rfl⟩
  case read =>
    intro s who q c hnow hreach hc
    have hstatus := ((s.ctxKeep q c).showCtx c).ctxStatus_frame St.ok
    have hframe := ((s.ctxKeep q c).showCtx_frame c).trans (hstatus.mono fun _ _ => trivial)
    refine ⟨_, exec_ctxCmdRead hnow hreach hc, fun i hi => ?_, ?_, ?_, ?_, rfl, hframe.cached_answer _⟩
    · rw [State.answer_reg, hstatus.regs _ (ctxData_ne_ctxStatus hi), State.showCtx_data _ c hi]
    · rw [State.answer_rf, State.ctxStatus_busy]
    · rw [State.answer_rf, State.ctxStatus_status, Nat.mod_eq_of_lt (by decide)]
    · rw [State.answer_ctx, hframe.ctx, State.ctxKeep_ctx_self]
  case write =>
    intro s who q old new hnow hreach hc hnew hchk hlock
    subst hnew
    have hctx := State.ctxPut_ctx (s.ctxKeep q old) q s.ctxData.enabled
    have hput := State.ctxPut_frame s q old s.ctxData.enabled
    refine ⟨_, exec_ctxCmdWrite hnow hreach hlock, ?_⟩
    rw [State.ctxWrite_of_cached hc hchk]
    generalize (((s.ctxKeep q old).ctxKeep q s.ctxData.enabled).uWrite (s.ctxAddr q) 0 s.ctxData.enabled.bytes).2 = st
    generalize (s.ctxKeep q old).ctxPut q s.ctxData.enabled = u at hctx hput ⊢
    have hstatus := (u.ctxStatus_frame st).rest
    refine ⟨?_, ?_, rfl, ?_, ?_⟩
    · rw [State.answer_ctx, (u.ctxStatus_frame st).ctx, hctx, Ctx.enabled]
    · rw [State.answer_rf, State.ctxStatus_busy]
    · rw [State.answer_cores, hstatus, hput]
    · rw [hstatus, hput]
      rfl
  case bad =>
    intro s who q old new hnow hreach hc hnew hchk hlt hlock
    subst hnew
    have hframe := (s.ctxKeep q old).ctxStatus_frame (s.ctxWriteChk q old s.ctxData)
    refine ⟨_, exec_ctxCmdWrite hnow hreach hlock, ?_⟩
    rw [State.ctxWrite_of_bad hc hchk]
    refine ⟨?_, ?_, rfl, hframe.cached_answer _⟩
    · rw [State.answer_ctx, hframe.ctx, State.ctxKeep_ctx_self]
    · rw [State.answer_rf, State.ctxStatus_status]
      exact Nat.mod_eq_of_lt hlt
  case foreign =>
    intro s w a n i hspace hn hmax hi howner
    exact State.regionChkReg_of_foreign hspace hn hmax hi howner
  case start =>
    intro s who w i pw pr pa hnow hreach hlock hbusy hward hchk hfree hrng
    have hframe := (s.regMade i w pw pr pa).regStatus_frame 1 St.ok
    have hx := (s.regMade i w pw pr pa).regStatus_xport 1 St.ok
    refine ⟨((s.regMade i w pw pr pa).regStatus 1 St.ok).answer St.ok, ?_, ?_, ?_, ?_, ?_, ?_, ?_, rfl, ?_⟩
    · refine (State.byHost_eq hnow hreach).trans ?_
      change Host.Outcome.next (if _ then _ else _) = _
      rw [if_neg (not_lockedWrite hlock), State.ctlDo_ok hreach rfl, State.regStart_of_ok pw pr pa hbusy hward hchk hfree hrng]
    · rw [State.xregion_congr ((State.answer_xport _ _ _).trans hx), State.regMade_xregion, State.newRegion]
    · rw [State.answer_xport, hx, State.regMade_gens]
    · rw [State.answer_xport, hx]
      rfl
    · rw [State.answer_rf, State.regStatus_busy]
    · intro j hj
      rw [State.xregion_congr ((State.answer_xport _ _ _).trans hx), State.regMade_xregion_ne _ _ _ _ hj]
    · intro a ha
      rw [State.answer_reg, hframe.regs a ha]
      rfl
    · rw [hframe.rest]
      rfl
  case made =>
    intro s i r hclk hbusy hr hphase hmove hi hgen haccess
    have hshown := (s.regSet i (some { r with phase := 1 }) none).keysShown_frame (mget 0 s.xport.gens i * 65536 + i) r.access
    have hstatus := ((s.regSet i (some { r with phase := 1 }) none).keysShown (mget 0 s.xport.gens i * 65536 + i)
      r.access).regStatus_frame 0 St.ok
    refine ⟨_, exec_regCmdDone_register hclk hbusy hr hphase hmove, ?_, ?_, ?_, ?_, State.regStatus_busy _ _ _, ?_, ?_⟩
    · rw [hstatus.xregion, hshown.xregion, State.regSet_xregion]
    · rw [hstatus.rest, hshown.rest]
      rfl
    · rw [State.regStatus_rf_key, State.keysShown_region _ (by omega)]
    · rw [State.regStatus_rf_key, State.keysShown_access _ haccess]
    · exact fun a hkey hstat => (hstatus.regs a hstat).trans (hshown.regs a hkey)
    · rw [hstatus.rest, hshown.rest]
      rfl
  case stop =>
    intro s who w r hnow hreach hbusy hr hgen hward
    have hx := fun i x b => (s.regSet i x b).regStatus_xport 1 St.ok
    have hframe := fun i x b => (s.regSet i x b).regStatus_frame 1 St.ok
    refine ⟨_, exec_served hnow hreach, ?_⟩
    rw [State.regStop_of_own hbusy hr hgen hward]
    have hregion : (((s.regSet (s.rf R.XPORT_REG_KEY F.XPORT_REG_KEY_REGION_KEY % 65536) (some { r with phase := 2 })
        (some (s.rf R.XPORT_REG_KEY F.XPORT_REG_KEY_REGION_KEY % 65536))).regStatus 1 St.ok).answer St.ok).xregion
        (s.rf R.XPORT_REG_KEY F.XPORT_REG_KEY_REGION_KEY % 65536) = some { r with phase := 2 } := by
      rw [State.xregion_congr ((State.answer_xport _ _ _).trans (hx _ _ _)), State.regSet_xregion]
    refine ⟨hregion, State.regionByKey_of_stopped hregion, ?_, ?_, fun a ha => ?_, rfl, ?_⟩
    · rw [State.answer_xport, hx]
      rfl
    · rw [State.answer_rf, State.regStatus_busy]
    · rw [State.answer_reg, (hframe _ _ _).regs a ha]
      rfl
    · rw [(hframe _ _ _).rest]
      rfl
  case gone =>
    intro s i r hclk hbusy hr hphase
    have hframe := (s.regSet i none none).regStatus_frame 0 St.ok
    refine ⟨_, exec_regCmdDone_deregister hclk hbusy hr hphase, ?_, ?_, State.regStatus_busy _ _ _, fun a ha => hframe.regs a ha,
      ?_⟩
    · rw [hframe.xregion, State.regSet_xregion]
    · rw [hframe.rest]
      rfl
    · rw [hframe.rest]
      rfl

end Sys2Proof.Machine
end

section
/-! PROOFS. Frames handed to a port (R333, R336, R347, R348): what handing one over changes, and what a change of the routes may raise
(R313). -/
namespace Sys2Proof.Machine
open Sys2Proof Sys2Proof.Safety
variable {s t u : State} {p q : Nat}

/-- From `s` to `t` frames join those handed to port `p`; besides only the port, registers and events may differ. -/
structure PortTurn (p : Nat) (s t : State) : Prop where
  rest : t = { s with regs := t.regs, evt := t.evt, ports := t.ports }
  others : ∀ q, q ≠ p → t.port q = s.port q
  txq : ∃ l, (t.port p).txq = (s.port p).txq ++ l

theorem PortTurn.refl (p : Nat) (s : State) : PortTurn p s s := ⟨rfl, fun _ _ => rfl, [], (List.append_nil _).symm⟩

theorem PortTurn.trans (h : PortTurn p s t) (k : PortTurn p t u) : PortTurn p s u := by
  obtain ⟨l, hl⟩ := h.txq
  obtain ⟨m, hm⟩ := k.txq
  exact ⟨by rw [k.rest, h.rest], fun q hq => (k.others q hq).trans (h.others q hq), l ++ m, by rw [hm, hl, List.append_assoc]⟩

theorem PortTurn.ite {c : Prop} [Decidable c] (h : PortTurn p s t) (k : PortTurn p s u) : PortTurn p s (if c then t else u) := by
  split
  · exact h
  · exact k

@[simp] theorem State.setPort_port_self (s : State) (p : Nat) (x : Port) : (s.setPort p x).port p = x := mget_mset_self _ _ p x

theorem State.setPort_port_ne (s : State) (x : Port) (h : q ≠ p) : (s.setPort p x).port q = s.port q := mget_mset_ne _ _ _ x h

/-- A port that keeps its frames, or gets more of them. -/
theorem PortTurn.setPort (h : PortTurn p s t) {x : Port} {l : List TxFrame} (hx : x.txq = (t.port p).txq ++ l) :
    PortTurn p s (t.setPort p x) :=
  h.trans ⟨rfl, fun _ hq => State.setPort_port_ne t x hq, l, by rw [State.setPort_port_self, hx]⟩

/-- What a port keeps of its frames. -/
theorem PortTurn.setPort_kept (h : PortTurn p s t) {x : Port} (hx : x.txq = (t.port p).txq) : PortTurn p s (t.setPort p x) :=
  h.setPort (l := []) (hx.trans (List.append_nil _).symm)

theorem PortTurn.pushFrame (h : PortTurn p s t) (f : TxFrame) : PortTurn p s (t.pushFrame p f) := h.setPort rfl

/-- Registers and events. -/
theorem PortTurn.beside (h : PortTurn p s t) (hu : u = { t with regs := u.regs, evt := u.evt }) : PortTurn p s u := by
  have hport : ∀ q, u.port q = t.port q := fun q => by rw [State.port, hu, State.port]
  exact h.trans ⟨by rw [hu], fun q _ => hport q, [], by rw [hport, List.append_nil]⟩

theorem PortTurn.setF (h : PortTurn p s t) (a : Nat) (f : Fld) (x : Nat) : PortTurn p s (t.setF a f x) := h.beside rfl

theorem PortTurn.setReg (h : PortTurn p s t) (a : Nat) (v : W64) : PortTurn p s (t.setReg a v) := h.beside rfl

theorem PortTurn.raise (h : PortTurn p s t) (e : EvRec) : PortTurn p s (t.raise e) := h.beside (t.raise_eq e)

theorem PortTurn.setPark (h : PortTurn p s t) (q x : Nat) : PortTurn p s (t.setPark q x) := by
  unfold State.setPark
  exact ((h.setF _ _ _).raise _).ite (h.setF _ _ _)

theorem PortTurn.phyCount (h : PortTurn p s t) (q n x : Nat) : PortTurn p s (t.phyCount q n x) := by
  unfold State.phyCount State.portCount
  exact (h.setReg _ _).ite ((h.setReg _ _).raise _)

theorem PortTurn.parkFull (h : PortTurn p s t) : PortTurn p s (t.parkFull p) := by
  unfold State.parkFull
  exact (h.setPort_kept (by rfl)).setPark _ _

theorem PortTurn.parkFrame (h : PortTurn p s t) (typ seq : Nat) : PortTurn p s (t.parkFrame p typ seq) := h.pushFrame _

theorem PortTurn.answerWake (h : PortTurn p s t) : PortTurn p s (t.answerWake p) := by
  unfold State.answerWake
  split
  · exact (h.setPort_kept (by rfl)).parkFrame _ _
  · exact h

theorem PortTurn.wakeLanes (h : PortTurn p s t) : PortTurn p s (t.wakeLanes p) := by
  unfold State.wakeLanes
  exact ((h.setPort_kept (by rfl)).setPark _ _).phyCount _ _ _

theorem PortTurn.startWake (h : PortTurn p s t) : PortTurn p s (t.startWake p) := by
  unfold State.startWake
  exact ((h.setPort_kept (by rfl)).wakeLanes).parkFrame _ _

theorem PortTurn.parkCheck (h : PortTurn p s t) : PortTurn p s (t.parkCheck p) := by
  unfold State.parkCheck
  refine h.ite ?_
  split
  · exact h.parkFull.answerWake
  · exact h.startWake
  · exact h

/-- Handing a frame over. -/
theorem PortTurn.handFrame (h : PortTurn p s t) (f : TxFrame) : PortTurn p s (t.handFrame p f) := (h.pushFrame f).parkCheck

theorem State.pushFrame_txq (s : State) (p : Nat) (f : TxFrame) : ((s.pushFrame p f).port p).txq = (s.port p).txq ++ [f] := by
  rw [State.pushFrame, State.setPort_port_self]

/-- The frame stands behind those that were there. -/
theorem State.handFrame_txq (s : State) (p : Nat) (f : TxFrame) :
    ((s.handFrame p f).port p).txq.take ((s.port p).txq.length + 1) = (s.port p).txq ++ [f] := by
  obtain ⟨l, hl⟩ := (PortTurn.refl p (s.pushFrame p f)).parkCheck.txq
  rw [State.handFrame, hl, State.pushFrame_txq]
  exact List.take_left' (by simp)

/-- A port in FULL takes a frame and nothing more. -/
theorem State.handFrame_of_full (f : TxFrame) (h : s.parkState p = 0) : s.handFrame p f = s.pushFrame p f := by
  have hfull : (s.pushFrame p f).parkState p = 0 := h
  rw [State.handFrame, State.parkCheck, hfull]
  exact ite_self _

/-! ## What a change of the routes may raise -/

theorem State.noRoutes_frame (s : State) (l : List Nat) : EvFrame s (s.noRoutes l) :=
  List.foldlRecOn (motive := EvFrame s) _ _ (EvFrame.refl s) fun _ h _ _ => h.raise _

theorem EvFrame.eq (h : EvFrame s t) : t = { s with regs := t.regs, evt := t.evt } := by
  conv_lhs => rw [h.rest]
  conv_rhs => rw [h.rest]

theorem EvFrame.rf (h : EvFrame s t) {a : Nat} (f : Fld) (ha : ∀ p, p < 3 → a ≠ R.EVT_LOSS p) : t.rf a f = s.rf a f := by
  rw [State.rf, h.regs a ha, State.rf]

end Sys2Proof.Machine
end

section
/-! PROOFS. Values of XPORT_CFG and of the ports' prefixes that take effect (R463): of what a latch sets going they reach only the cells'
counts and levels, the cap, start grants and routes. -/
namespace Sys2Proof.Machine
open Sys2Proof Sys2Proof.Safety
variable {s t u : State} {l : List (Nat × W64)}

/-- The registers that the leader's latch takes: XPORT_CFG and the ports' prefixes. -/
def devReg (a : Nat) : Prop := a = R.XPORT_CFG ∨ ∃ p < 16, a = R.XPORT_ADDR p

theorem State.withTxn_frame (s : State) (l : List (Nat × W64)) {P : Nat → Prop} (hl : ∀ e ∈ l, P e.1) : RegFrame P s (s.withTxn l) :=
  List.foldlRecOn (motive := RegFrame P s) l _ (RegFrame.refl P s) fun _ h e he => RegFrame.setReg h (hl e he) _

section
variable (h : RegFrame devReg s t)
include h

theorem RegFrame.rf_of_devReg {a : Nat} (f : Fld) (ha : ¬devReg a) : t.rf a f = s.rf a f := by rw [State.rf, h.regs a ha, State.rf]

theorem RegFrame.moves_of_devReg (k : Nat) : moves s t k = false := by
  have hmap : ¬devReg (R.HALF_CELL_MAP (k / 64)) := by
    unfold devReg R.HALF_CELL_MAP R.XPORT_CFG R.XPORT_ADDR
    omega
  simp only [moves, State.physCol, h.rf_of_devReg _ hmap, ne_eq, not_true_eq_false, decide_false]

theorem RegFrame.absent_of_devReg (k : Nat) : t.absent k = s.absent k := by
  have habs : ¬devReg (R.HALF_CELL_ABSENT (k / 64)) := by
    unfold devReg R.HALF_CELL_ABSENT R.XPORT_CFG R.XPORT_ADDR
    omega
  rw [State.absent, h.rf_of_devReg _ habs, State.absent]

/-- No cell starts anew. -/
theorem RegFrame.startCells_of_devReg : s.startCells t = t.countCells := by
  rw [State.startCells, List.foldlRecOn (motive := (· = t)) _ _ rfl fun u hu k _ => ?_]
  simp [h.moves_of_devReg, h.absent_of_devReg, hu]

/-- No port restarts. -/
theorem RegFrame.restartPort_of_devReg {p : Nat} (hp : p < 16) (u : State) : s.restartPort t p u = u := by
  have hcfg : ¬devReg (R.PORT_CFG p) := by
    unfold devReg R.PORT_CFG R.XPORT_CFG R.XPORT_ADDR
    omega
  have hpfc : ¬devReg (R.PORT_PFC p) := by
    unfold devReg R.PORT_PFC R.XPORT_CFG R.XPORT_ADDR
    omega
  simp [State.restartPort, State.portCfg, h.rf_of_devReg _ hcfg, h.regs _ hcfg, h.regs _ hpfc]

/-- No bucket changes. -/
theorem RegFrame.rebucket_of_devReg {i : Nat} (hi : i < 64) (u : State) : s.rebucket t i u = u := by
  have hbw : ¬devReg (bwReg (i / 8) (i % 8)) := by
    unfold devReg bwReg R.TIER_BWREG R.XPORT_CFG R.XPORT_ADDR
    omega
  exact if_pos (h.regs _ hbw).symm

end

/-- After the new values: counts, cap, levels, start grants and routes. -/
def State.devTaken (s t : State) : State := (s.endGrants t.countCells.refreshCap.relevelAll).noRoutes s.reachable

theorem State.putTxn_of_devReg (hl : ∀ e ∈ l, devReg e.1) : s.putTxn l = s.devTaken (s.withTxn l) := by
  have h := s.withTxn_frame l hl
  have hcount := (s.withTxn l).countCells_frame
  have hward : ∀ a, (∀ w < 8, a ≠ R.SEC_WARD_STATE w) → ¬devReg a → (s.withTxn l).countCells.reg a = s.reg a := fun a hw ha =>
    (hcount.regs a fun ⟨w, hlt, he⟩ => hw w hlt he).trans (h.regs a ha)
  have hhw : ¬devReg R.HOST_HW_BASE := by
    unfold devReg R.HOST_HW_BASE R.XPORT_CFG R.XPORT_ADDR
    omega
  have hbase : s.stateBase = (s.withTxn l).countCells.stateBase := by
    refine congrArg (fun v => fld v _ _) (hward R.XPORT_STATE_BASE (fun w _ => ?_) ?_).symm
    · unfold R.XPORT_STATE_BASE R.SEC_WARD_STATE
      omega
    · unfold devReg R.XPORT_STATE_BASE R.XPORT_CFG R.XPORT_ADDR
      omega
  have hwindow : s.reg R.HOST_SHW = (s.withTxn l).countCells.reg R.HOST_SHW := by
    refine (hward R.HOST_SHW (fun w _ => ?_) ?_).symm
    · unfold R.HOST_SHW R.SEC_WARD_STATE
      omega
    · unfold devReg R.HOST_SHW R.XPORT_CFG R.XPORT_ADDR
      omega
  rw [State.putTxn, if_pos (h.rf_of_devReg _ hhw).symm, State.takeTxn]
  rw [h.startCells_of_devReg, State.moveArea, if_pos hbase, State.moveWindow, if_pos hwindow,
    List.foldlRecOn (motive := (· = (s.withTxn l).countCells)) (List.range 16) _ rfl fun u hu p hp => by
      rw [hu, h.restartPort_of_devReg (List.mem_range.1 hp)],
    List.foldlRecOn (motive := (· = (s.withTxn l).countCells)) (List.range 64) _ rfl fun u hu i hi => by
      rw [hu, h.rebucket_of_devReg (List.mem_range.1 hi)]]
  rfl

/-- What these leave alone: the transport, the non-volatile part, the supplies and XPORT_CFG. -/
structure DevKept (s t : State) : Prop where
  xport : t.xport = s.xport
  nv : t.nv = s.nv
  sup : t.sup = s.sup
  cfg : t.reg R.XPORT_CFG = s.reg R.XPORT_CFG

theorem DevKept.trans (h : DevKept s t) (k : DevKept t u) : DevKept s u :=
  ⟨k.xport.trans h.xport, k.nv.trans h.nv, k.sup.trans h.sup, k.cfg.trans h.cfg⟩

theorem xportCfg_ne_evtLoss (p : Nat) (_ : p < 3) : R.XPORT_CFG ≠ R.EVT_LOSS p := by
  unfold R.XPORT_CFG R.EVT_LOSS
  omega

theorem EvFrame.devKept (h : EvFrame s t) : DevKept s t :=
  ⟨by rw [h.rest], by rw [h.rest], by rw [h.rest], h.regs _ xportCfg_ne_evtLoss⟩

theorem RegFrame.devKept {P : Nat → Prop} (h : RegFrame P s t) (hP : ¬P R.XPORT_CFG) : DevKept s t :=
  ⟨by rw [h.rest], by rw [h.rest], by rw [h.rest], h.regs _ hP⟩

theorem LevelFrame.devKept (h : LevelFrame s t) : DevKept s t := by
  refine ⟨by rw [h.rest], by rw [h.rest], by rw [h.rest], h.regs _ fun k => ?_⟩
  unfold R.XPORT_CFG R.PWR_CELL
  omega

theorem State.countCells_devKept (s : State) : DevKept s s.countCells := by
  refine s.countCells_frame.devKept ?_
  unfold R.XPORT_CFG R.SEC_WARD_STATE
  omega

theorem State.endGrants_devKept (s t : State) : DevKept t (s.endGrants t) := by
  unfold State.endGrants
  split <;> exact ⟨rfl, rfl, rfl, rfl⟩

theorem State.refreshCap_devKept (s : State) : DevKept s s.refreshCap :=
  RegFrame.devKept (RegFrame.setF (RegFrame.refl (· = R.PWR_STATUS) s) rfl _ _) (by decide)

theorem State.devTaken_kept (s t : State) : DevKept t (s.devTaken t) :=
  t.countCells_devKept.trans (t.countCells.refreshCap_devKept.trans (t.countCells.refreshCap.relevelAll_frame.devKept.trans
    ((s.endGrants_devKept _).trans (State.noRoutes_frame _ _).devKept)))

/-! ## The device number in XPORT_CFG -/

/-- Setting fields that lie above bit `n` leaves the `n` bits below. -/
theorem fld_foldl_setFld (fs : List FieldDef) (v : W64) {n : Nat} (hn : n ≤ 64) (hfs : ∀ f ∈ fs, n ≤ f.lsb) (w : W64) :
    fld (fs.foldl (fun w f => setFld w f.lsb f.width (fld v f.lsb f.width)) w) 0 n = fld w 0 n := by
  refine List.foldlRecOn (motive := fun x => fld x 0 n = fld w 0 n) fs _ rfl fun x hx f hf => ?_
  rw [fld_setFld_ne _ _ (by omega) (.inl (by simpa using hfs f hf)), hx]

/-- XPORT_CFG's first TXN field is DEVNUM, and the others lie above it. -/
theorem txnFields_xportCfg : ((txnFields R.XPORT_CFG).head?.any (fun f => f.lsb = 0 && f.width = 16) &&
    (txnFields R.XPORT_CFG).tail.all (fun g => decide (16 ≤ g.lsb))) = true := by
  decide +kernel

/-- A device number that is merged into XPORT_CFG. -/
theorem mergeTxn_devnum (old v : W64) : fld (mergeTxn R.XPORT_CFG old v) 0 16 = fld v 0 16 := by
  have hfields := txnFields_xportCfg
  unfold mergeTxn
  cases hf : txnFields R.XPORT_CFG with
  | nil =>
    rw [hf] at hfields
    exact absurd hfields (by decide)
  | cons f l =>
    rw [hf] at hfields
    simp only [List.head?_cons, Option.any_some, List.tail_cons, Bool.and_eq_true, decide_eq_true_eq, List.all_eq_true] at hfields
    obtain ⟨⟨hlsb, hwidth⟩, hrest⟩ := hfields
    rw [List.foldl_cons, fld_foldl_setFld l v (by decide) hrest, hlsb, hwidth, fld_setFld_self _ _ (by decide)]
    exact Nat.mod_eq_of_lt (Nat.mod_lt _ (Nat.two_pow_pos 16))

end Sys2Proof.Machine
end

section
/-! PROOFS. Discovery (R307, R310, R346) and the election of a leader, which assigns the device numbers (R308, R309, R462). -/
namespace Sys2Proof.Machine
open Sys2Proof Sys2Proof.Safety
variable {s t u : State} {port sub : Nat} {i : Lldp}

/-! ## LLDP frames (R307) -/

/-- The frame that a port sends on a sub-port. -/
def State.lldpTx (s : State) (p sub mode : Nat) : TxFrame :=
  { frame := s.frameOf p (s.lldpBytes p mode).length .multicast .lldp, ward := none, sub := some sub, dst := nearestBridge
    etype := 0x88CC, bytes := s.lldpBytes p mode }

theorem State.lldpOut_of_up {p : Nat} (mode : Nat) (h : s.linkUp p sub = true) : s.lldpOut p sub mode = s.handFrame p (s.lldpTx p sub mode) :=
  if_pos h

theorem State.lldpOut_of_down {p : Nat} (mode : Nat) (h : s.linkUp p sub = false) : s.lldpOut p sub mode = s := by
  rw [State.lldpOut, h, if_neg Bool.false_ne_true]

theorem State.pushFrame_parkCap (s : State) (p : Nat) (f : TxFrame) : (s.pushFrame p f).parkCap p = s.parkCap p := by
  have hkept : ((s.pushFrame p f).port p).capKept = (s.port p).capKept := by rw [State.pushFrame, State.setPort_port_self]
  rw [State.parkCap, hkept, State.parkCap]
  rfl

/-- A frame that waits on a port is not in what the next one says. -/
theorem State.pushFrame_lldpTx (s : State) (p : Nat) (f : TxFrame) (sub mode : Nat) :
    (s.pushFrame p f).lldpTx p sub mode = s.lldpTx p sub mode := by
  have hbytes : (s.pushFrame p f).lldpBytes p mode = s.lldpBytes p mode := by
    rw [State.lldpBytes, State.pushFrame_parkCap, State.lldpBytes]
    rfl
  rw [State.lldpTx, hbytes, State.lldpTx]
  rfl

theorem exec_lldpTx_one (hmode : s.portMode port ≠ 2) (hup : s.linkUp port 0 = true) :
    exec (.lldpTx port) s = .next (s.handFrame port (s.lldpTx port 0 1)) := by
  refine congrArg Host.Outcome.next ?_
  rw [if_neg hmode, State.lldpOut_of_up 1 hup]

theorem exec_lldpTx_two (hmode : s.portMode port = 2) (hup : s.linkUp port 0 = true) (hup' : s.linkUp port 1 = true)
    (hfull : s.parkState port = 0) :
    exec (.lldpTx port) s = .next ((s.pushFrame port (s.lldpTx port 0 2)).pushFrame port (s.lldpTx port 1 3)) := by
  have hup1 : (s.pushFrame port (s.lldpTx port 0 2)).linkUp port 1 = true := hup'
  have hfull1 : (s.pushFrame port (s.lldpTx port 0 2)).parkState port = 0 := hfull
  refine congrArg Host.Outcome.next ?_
  rw [if_pos hmode, State.lldpOut_of_up 2 hup, State.handFrame_of_full _ hfull, State.lldpOut_of_up 3 hup1,
    State.handFrame_of_full _ hfull1, State.pushFrame_lldpTx]

theorem exec_lldpTx_none (hdown : s.linkUp port 0 = false) (hdown' : s.linkUp port 1 = false) : exec (.lldpTx port) s = .next s := by
  refine congrArg Host.Outcome.next ?_
  rw [State.lldpOut_of_down 2 hdown, State.lldpOut_of_down 3 hdown', State.lldpOut_of_down 1 hdown, ite_self]

/-! ## What a received frame teaches (R279, R310, R346) -/

theorem State.learnMac_frame (s : State) (p mac : Nat) (b : Bool) :
    RegFrame (fun a => a = R.XPORT_NEXTHOP p ∨ a = R.PORT_NEXTHOP_B p) s (s.learnMac p mac b) := by
  unfold State.learnMac
  split
  · split
    · exact RegFrame.setF (RegFrame.refl _ s) (.inr rfl) _ _
    · exact RegFrame.refl _ s
  · split
    · exact RegFrame.setF (RegFrame.refl _ s) (.inl rfl) _ _
    · exact RegFrame.refl _ s

theorem State.learnMac_xport (s : State) (p mac : Nat) (b : Bool) : (s.learnMac p mac b).xport = s.xport := by
  rw [(s.learnMac_frame p mac b).rest]

theorem State.learnMac_a {p : Nat} (mac : Nat) (h : s.rf (R.XPORT_NEXTHOP p) F.XPORT_NEXTHOP_LEARN = 1) :
    (s.learnMac p mac false).rf (R.XPORT_NEXTHOP p) F.XPORT_NEXTHOP_MAC = mac % 2 ^ 48 := by
  rw [State.learnMac, if_neg Bool.false_ne_true, if_pos h, State.setF_rf_self _ _ (by decide)]
  rfl

theorem State.learnMac_b {p : Nat} (mac : Nat) (h : s.rf (R.PORT_NEXTHOP_B p) F.PORT_NEXTHOP_B_LEARN = 1) :
    (s.learnMac p mac true).rf (R.PORT_NEXTHOP_B p) F.PORT_NEXTHOP_B_MAC = mac % 2 ^ 48 := by
  rw [State.learnMac, if_pos rfl, if_pos h, State.setF_rf_self _ _ (by decide)]
  rfl

/-- Whether a neighbour has this module's number (R310). -/
def State.devConflict (s : State) (i : Lldp) : Bool := i.devnum = s.dev && s.dev ≠ 0xFFFF && i.serial ≠ ownSerial

/-- A conflict is noted for the port; besides, events may be raised. -/
theorem State.noteConflict_frame (s : State) (p : Nat) (i : Lldp) :
    ∃ c, nmem c p = s.devConflict i ∧ EvFrame (s.modX (fun x => { x with conflict := c })) (s.noteConflict p i) := by
  have hlast : ∀ {t u : State} {b : Bool} {e : EvRec}, EvFrame t u → EvFrame t (if b = true then u.raise e else u) := fun h =>
    (h.raise _).ite h
  unfold State.noteConflict
  by_cases hwas : s.devConflict i = nmem s.xport.conflict p
  · refine ⟨s.xport.conflict, hwas.symm, hlast ?_⟩
    split
    case isTrue => exact EvFrame.refl s
    case isFalse hne => exact absurd hwas hne
  · refine ⟨nput s.xport.conflict p (s.devConflict i), nmem_nput_self _ _ _, hlast ?_⟩
    split
    case isTrue heq => exact absurd heq hwas
    case isFalse => exact State.noRoutes_frame _ _

/-- A peer as its frame shows it. -/
def lldpPeer (i : Lldp) : Peer :=
  { mac := i.mac, dev := i.devnum, port := i.portIndex, gen := i.generation, serial := i.serial, prio := i.prio, best := i.bestSerial }

/-- The peer and its parking as they are noted, before the conflict is looked for. -/
def State.peerSeen (s : State) (p n : Nat) (i : Lldp) : State :=
  (s.modX (fun x => { x with peers := mset none x.peers n (some (lldpPeer i)) })).setPortSt p F.PORT_STATUS_PEER_PARK (b2n (bitAt i.linkFlags 0))

theorem State.notePeer_eq (s : State) (p : Nat) (b : Bool) (i : Lldp) :
    s.notePeer p b i = (s.peerSeen p (if b then 16 + p else p) i).noteConflict p i := rfl

/-- XPORT_CFG, PORT_STATUS and the registers of the next hops. -/
theorem xportCfg_ne_nextHop (p : Nat) : ¬(R.XPORT_CFG = R.XPORT_NEXTHOP p ∨ R.XPORT_CFG = R.PORT_NEXTHOP_B p) := by
  unfold R.XPORT_CFG R.XPORT_NEXTHOP R.PORT_NEXTHOP_B
  omega

theorem xportCfg_ne_portStatus (p : Nat) : R.XPORT_CFG ≠ R.PORT_STATUS p := by
  unfold R.XPORT_CFG R.PORT_STATUS
  omega

theorem portStatus_ne_evtLoss (p k : Nat) (_ : k < 3) : R.PORT_STATUS p ≠ R.EVT_LOSS k := by
  unfold R.PORT_STATUS R.EVT_LOSS
  omega

theorem State.learnMac_cfg (s : State) (p mac : Nat) (b : Bool) (f : Fld) : (s.learnMac p mac b).rf R.XPORT_CFG f = s.rf R.XPORT_CFG f := by
  rw [State.rf, (s.learnMac_frame p mac b).regs _ (xportCfg_ne_nextHop p), State.rf]

/-- A peer that is noted: its entry and its parking, whether its number is this module's, and the registers of the transport as they were. -/
structure PeerNoted (s t : State) (p n : Nat) (i : Lldp) : Prop where
  peers : t.xport.peers = mset none s.xport.peers n (some (lldpPeer i))
  park : t.portSt p F.PORT_STATUS_PEER_PARK = b2n (bitAt i.linkFlags 0)
  conflict : nmem t.xport.conflict p = s.devConflict i
  cfg : ∀ f, t.rf R.XPORT_CFG f = s.rf R.XPORT_CFG f
  mem : t.mem = s.mem

theorem State.peerSeen_frame (s : State) (p n : Nat) (i : Lldp) :
    RegFrame (· = R.PORT_STATUS p) (s.modX (fun x => { x with peers := mset none x.peers n (some (lldpPeer i)) })) (s.peerSeen p n i) :=
  RegFrame.setF (RegFrame.refl (· = R.PORT_STATUS p) _) rfl _ _

theorem State.peerSeen_park (s : State) (p n : Nat) (i : Lldp) :
    (s.peerSeen p n i).rf (R.PORT_STATUS p) F.PORT_STATUS_PEER_PARK = b2n (bitAt i.linkFlags 0) := by
  rw [State.peerSeen, State.setPortSt, State.setF_rf_self _ _ (by decide)]
  cases bitAt i.linkFlags 0 <;> rfl

theorem State.peerSeen_cfg (s : State) (p n : Nat) (i : Lldp) (f : Fld) : (s.peerSeen p n i).rf R.XPORT_CFG f = s.rf R.XPORT_CFG f := by
  rw [State.rf, (s.peerSeen_frame p n i).regs _ (xportCfg_ne_portStatus p), State.modX_reg, State.rf]

theorem State.peerSeen_mem (s : State) (p n : Nat) (i : Lldp) : (s.peerSeen p n i).mem = s.mem := by
  rw [State.peerSeen, State.setPortSt, State.setF_mem, State.modX_mem]

theorem State.modX_rf (s : State) (g : Xport → Xport) (a : Nat) (f : Fld) : (s.modX g).rf a f = s.rf a f := rfl

theorem EvFrame.mem (h : EvFrame s t) : t.mem = s.mem := by rw [h.rest]

theorem State.devConflict_congr (h : ∀ f, t.rf R.XPORT_CFG f = s.rf R.XPORT_CFG f) (i : Lldp) : t.devConflict i = s.devConflict i := by
  rw [State.devConflict, State.dev, h, State.devConflict, State.dev]

theorem State.notePeer_noted (s : State) (p : Nat) (b : Bool) (i : Lldp) :
    PeerNoted s (s.notePeer p b i) p (if b then 16 + p else p) i := by
  rw [State.notePeer_eq]
  generalize (if b then 16 + p else p) = n
  obtain ⟨c, hc, hframe⟩ := (s.peerSeen p n i).noteConflict_frame p i
  have hseen := (s.peerSeen_frame p n i).rest
  refine ⟨?_, ?_, ?_, fun f => ?_, ?_⟩
  · rw [hframe.rest, hseen]
    rfl
  · rw [State.portSt, hframe.rf _ (portStatus_ne_evtLoss p), State.modX_rf, State.peerSeen_park]
  · rw [hframe.rest]
    exact hc.trans (State.devConflict_congr (s.peerSeen_cfg p n i) i)
  · rw [hframe.rf _ xportCfg_ne_evtLoss, State.modX_rf, State.peerSeen_cfg]
  · rw [hframe.mem, State.modX_mem, State.peerSeen_mem]

theorem State.leaderMode_congr (h : ∀ f, t.rf R.XPORT_CFG f = s.rf R.XPORT_CFG f) : t.leaderMode = s.leaderMode := by
  rw [State.leaderMode, h, State.leaderMode]

theorem State.takeAssign_of_member (p : Nat) (i : Lldp) (h : s.leaderMode = false) : s.takeAssign p i = s := by
  unfold State.takeAssign
  split
  · rfl
  · rw [h, Bool.false_and, Bool.false_and, if_neg Bool.false_ne_true]

/-- A frame of another make teaches the next hop only. -/
theorem exec_lldpRx_other (hup : s.linkUp port sub = true) (hgen : i.generation = 0) :
    exec (.lldpRx port { i with sub := sub }) s = .next (s.learnMac port i.mac (decide (sub = 1))) := by
  refine congrArg Host.Outcome.next ?_
  dsimp only
  rw [hup, if_neg (by decide), if_pos hgen]

/-- Without leader mode a peer is noted after its next hop, and assigns nothing. -/
theorem exec_lldpRx_member (hup : s.linkUp port sub = true) (hgen : i.generation ≠ 0)
    (hmode : s.rf R.XPORT_CFG F.XPORT_CFG_DEV_MODE ≠ 1) :
    exec (.lldpRx port { i with sub := sub }) s =
      .next ((s.learnMac port i.mac (decide (sub = 1))).notePeer port (decide (sub = 1)) { i with sub := sub }) := by
  have hleader : s.leaderMode = false := decide_eq_false hmode
  have hnoted := (s.learnMac port i.mac (decide (sub = 1))).notePeer_noted port (decide (sub = 1)) { i with sub := sub }
  have hlater := (State.leaderMode_congr hnoted.cfg).trans ((State.leaderMode_congr (s.learnMac_cfg port i.mac _)).trans hleader)
  refine congrArg Host.Outcome.next ?_
  dsimp only
  rw [hup, if_neg (by decide), if_neg hgen, State.takeAssign_of_member _ _ hlater, hlater, if_neg Bool.false_ne_true]

theorem exec_lldpRx_down (hdown : s.linkUp port sub = false) : exec (.lldpRx port { i with sub := sub }) s = .next s := by
  refine congrArg Host.Outcome.next ?_
  dsimp only
  rw [hdown]
  rfl

/-! ## The election (R308, R309) -/

/-- A route to a neighbour is registers. -/
theorem State.meshRoute_frame (s : State) (p d : Nat) :
    RegFrame (fun a => ∃ i < 4096, a = R.XPORT_ROUTE i) s (s.meshRoute p d) := by
  unfold State.meshRoute
  dsimp only
  split
  · next h =>
    simp only [Bool.and_eq_true, decide_eq_true_eq] at h
    have hd : d - s.rf R.XPORT_ROUTE_BASE F.XPORT_ROUTE_BASE_BASE < 4096 := by omega
    exact RegFrame.setF (RegFrame.setF (RegFrame.refl _ s) ⟨_, hd, rfl⟩ _ _) ⟨_, hd, rfl⟩ _ _
  · exact RegFrame.refl _ s

theorem RegFrame.meshRoute {P : Nat → Prop} (h : RegFrame P s t) (hP : ∀ i < 4096, P (R.XPORT_ROUTE i)) (p d : Nat) :
    RegFrame P s (t.meshRoute p d) :=
  h.trans ((t.meshRoute_frame p d).mono fun _ ⟨i, hi, ha⟩ => ha ▸ hP i hi)

/-- The values of the own latch of a module that leads: its number, and the network part of the address of each link. -/
def State.leaderValues (s : State) (pre : Nat) : List (Nat × W64) :=
  (match s.assignedTo ownSerial with
    | some d => [s.withDev d]
    | none => []) ++ s.peerList.map (fun e => (R.XPORT_ADDR (e.1 % 16), BitVec.ofNat 64 ((pre + e.1 % 16) % 2 ^ 64)))

theorem State.leaderValues_devReg (s : State) (pre : Nat) : ∀ e ∈ s.leaderValues pre, devReg e.1 := by
  intro e he
  rcases List.mem_append.1 he with h | h
  · split at h
    · rw [List.mem_singleton.1 h]
      exact .inl rfl
    · exact absurd h List.not_mem_nil
  · obtain ⟨x, _, rfl⟩ := List.mem_map.1 h
    exact .inr ⟨_, Nat.mod_lt _ (by decide), rfl⟩

/-- The numbers that the leader gives: the modules it knows in the order of their serials. -/
def State.ranks (s : State) : List (Nat × Nat) :=
  (List.zip s.serials (List.range s.serials.length)).map (fun e => (e.1, (s.rf R.XPORT_ELECT F.XPORT_ELECT_ASSIGN_BASE + e.2) % 65536))

/-- The module as it begins to lead. -/
def State.ledBy (s : State) : State := (s.drew 1).modX (fun x => { x with leads := true, assigned := s.ranks })

/-- The routes to the neighbours that have a number. -/
def State.meshRoutes (s : State) : State :=
  s.peerList.foldl (fun s e =>
    match s.assignedTo e.2.serial with
    | some d => s.meshRoute (e.1 % 16) d
    | none => s) s

theorem State.meshRoutes_frame (s : State) : RegFrame (fun a => ∃ i < 4096, a = R.XPORT_ROUTE i) s s.meshRoutes := by
  refine List.foldlRecOn (motive := RegFrame _ s) _ _ (RegFrame.refl _ s) fun t ht e _ => ?_
  split
  · exact ht.meshRoute (fun i hi => ⟨i, hi, rfl⟩) _ _
  · exact ht

theorem exec_electionSettled_leader (hmode : s.rf R.XPORT_CFG F.XPORT_CFG_DEV_MODE = 1) (hbest : s.bestCand.2 = ownSerial) :
    exec .electionSettled s = .next (s.ledBy.ownLatch (s.ledBy.leaderValues s.freeW.toNat)).meshRoutes := by
  refine congrArg Host.Outcome.next ?_
  have hleader : s.leaderMode = true := decide_eq_true hmode
  rw [hleader, if_neg (by decide), if_neg (not_not_intro hbest)]
  rfl

theorem exec_electionSettled_follower (hmode : s.rf R.XPORT_CFG F.XPORT_CFG_DEV_MODE = 1) (hbest : s.bestCand.2 ≠ ownSerial) :
    exec .electionSettled s = .next (s.modX (fun x => { x with leads := false, assigned := [] })) := by
  refine congrArg Host.Outcome.next ?_
  have hleader : s.leaderMode = true := decide_eq_true hmode
  rw [hleader, if_neg (by decide), if_pos hbest]

/-- The module's own latch leaves the transport, the non-volatile part and the supplies. -/
theorem State.ownLatch_kept {l : List (Nat × W64)} (hl : ∀ e ∈ l, devReg e.1) :
    (s.ownLatch l).xport = s.xport ∧ (s.ownLatch l).nv = s.nv ∧ (s.ownLatch l).sup = s.sup := by
  unfold State.ownLatch
  split
  · have h := s.withTxn_frame l hl
    have hkept := s.devTaken_kept (s.withTxn l)
    rw [State.putTxn_of_devReg hl, hkept.xport, hkept.nv, hkept.sup, h.rest]
    exact ⟨rfl, rfl, rfl⟩
  · exact ⟨rfl, rfl, rfl⟩

/-! ### A module that knows no other -/

section
variable (halone : s.xport.peers = [])
include halone

theorem State.peerList_of_alone : s.peerList = [] := by rw [State.peerList, halone, List.filterMap_nil]

theorem State.bestCand_of_alone : s.bestCand.2 = ownSerial := by rw [State.bestCand, State.peerList_of_alone halone, List.foldl_nil]

theorem State.ranks_of_alone : s.ranks = [(ownSerial, s.rf R.XPORT_ELECT F.XPORT_ELECT_ASSIGN_BASE)] := by
  have hserials : s.serials = [ownSerial] := by rw [State.serials, State.peerList_of_alone halone, List.foldl_nil]; rfl
  have hbase : s.rf R.XPORT_ELECT F.XPORT_ELECT_ASSIGN_BASE % 65536 = s.rf R.XPORT_ELECT F.XPORT_ELECT_ASSIGN_BASE :=
    Nat.mod_eq_of_lt (s.rf_lt _ _)
  rw [State.ranks, hserials]
  simp [hbase]

/-- It takes the first number. -/
theorem State.leaderValues_of_alone (pre : Nat) : s.ledBy.leaderValues pre = [s.withDev (s.rf R.XPORT_ELECT F.XPORT_ELECT_ASSIGN_BASE)] := by
  have hassigned : s.ledBy.assignedTo ownSerial = some (s.rf R.XPORT_ELECT F.XPORT_ELECT_ASSIGN_BASE) := by
    change (s.ranks.find? (fun e => e.1 = ownSerial)).map (·.2) = _
    rw [State.ranks_of_alone halone]
    simp
  have hlinks : s.ledBy.peerList = [] := State.peerList_of_alone halone
  rw [State.leaderValues, hassigned, hlinks, List.map_nil, List.append_nil]
  rfl

end

theorem State.meshRoutes_of_alone (h : s.xport.peers = []) : s.meshRoutes = s := by
  rw [State.meshRoutes, State.peerList_of_alone h, List.foldl_nil]

/-- The rules of a latch look neither at the free values nor at the transport. -/
theorem State.ledBy_latchFails (s : State) (e : Nat × W64) (b : Bool) : s.ledBy.latchFails [e] b = s.latchFails [e] b := rfl

/-- A number that a latch has taken. -/
theorem State.ownLatch_dev {d : Nat} (hok : s.latchFails [s.withDev d] false = []) : (s.ownLatch [s.withDev d]).dev = d % 2 ^ 16 := by
  have hl : ∀ e ∈ [s.withDev d], devReg e.1 := fun e he => .inl (by rw [List.mem_singleton.1 he]; rfl)
  rw [State.ownLatch, hok, List.isEmpty_nil, if_pos rfl, State.putTxn_of_devReg hl, State.dev, State.rf, (s.devTaken_kept _).cfg]
  change fld ((s.setReg R.XPORT_CFG (mergeTxn R.XPORT_CFG (s.reg R.XPORT_CFG) (s.withDev d).2)).reg R.XPORT_CFG) 0 16 = _
  rw [State.setReg_reg_self, mergeTxn_devnum]
  exact fld_setFld_self _ _ (by decide)

/-! ## The statement -/

/-- Settles O59: what a frame teaches, and what the leader's latch reaches. -/
theorem discoveryCompletes : Obligations.DiscoveryCompletes := by
  unfold Obligations.DiscoveryCompletes
  refine ⟨?one, ?two, ?none_, ?other, ?peer, ?conflict, ?down, ?member, ?leads, ?alone, ?refused⟩
  case one =>
    intro s port hmode hup
    have hturn := (PortTurn.refl port s).handFrame (s.lldpTx port 0 1)
    exact ⟨_, exec_lldpTx_one hmode hup, s.handFrame_txq port _, hturn.others, hturn.rest⟩
  case two =>
    intro s port hmode hup hup' hfull
    have hturn := ((PortTurn.refl port s).pushFrame (s.lldpTx port 0 2)).pushFrame (s.lldpTx port 1 3)
    refine ⟨_, exec_lldpTx_two hmode hup hup' hfull, ?_, hturn.others, rfl⟩
    rw [State.pushFrame_txq, State.pushFrame_txq, List.append_assoc]
    rfl
  case none_ => exact fun s port hdown hdown' => ⟨s, exec_lldpTx_none hdown hdown', rfl⟩
  case other =>
    intro s port sub i hup hgen
    refine ⟨_, exec_lldpRx_other hup hgen, rfl, fun hsub hlearn => ?_, fun hsub hlearn => ?_, (s.learnMac_frame _ _ _).rest⟩
    · rw [decide_eq_false hsub, State.learnMac_a _ hlearn]
    · rw [decide_eq_true hsub, State.learnMac_b _ hlearn]
  case peer =>
    intro s port sub i hup hgen hmode _ hdev
    have hdevL : (s.learnMac port i.mac (decide (sub = 1))).dev = s.dev := s.learnMac_cfg port i.mac _ _
    have hnoted := (s.learnMac port i.mac (decide (sub = 1))).notePeer_noted port (decide (sub = 1)) { i with sub := sub }
    have hpeers := hnoted.peers
    rw [State.learnMac_xport] at hpeers
    simp only [decide_eq_true_eq] at hpeers
    refine ⟨_, exec_lldpRx_member hup hgen hmode, ?_, fun q hq => ?_, hnoted.park, ?_, (hnoted.cfg _).trans hdevL, ?_⟩
    · rw [hpeers, mget_mset_self]
      rfl
    · rw [hpeers, mget_mset_ne _ _ _ _ hq]
    · rw [hnoted.conflict, State.devConflict, hdevL, decide_eq_false hdev, Bool.false_and, Bool.false_and]
    · rw [hnoted.mem, (s.learnMac_frame _ _ _).rest]
  case conflict =>
    intro s port sub i hup hgen hmode _ hdev hset
    have hdevL : (s.learnMac port i.mac (decide (sub = 1))).dev = s.dev := s.learnMac_cfg port i.mac _ _
    have hnoted := (s.learnMac port i.mac (decide (sub = 1))).notePeer_noted port (decide (sub = 1)) { i with sub := sub }
    refine ⟨_, exec_lldpRx_member hup hgen hmode, ?_, (hnoted.cfg _).trans hdevL⟩
    rw [hnoted.conflict, State.devConflict, hdevL, decide_eq_true hdev, decide_eq_true hset, Bool.true_and, Bool.true_and]
  case down => exact fun s port sub i hdown => ⟨s, exec_lldpRx_down hdown, rfl⟩
  case member => exact fun s hmode => ⟨s, congrArg Host.Outcome.next (if_pos (by simp [State.leaderMode, hmode])), rfl⟩
  case leads =>
    intro s hmode
    by_cases hbest : s.bestCand.2 = ownSerial
    · obtain ⟨hx, hnv, hsup⟩ := State.ownLatch_kept (s := s.ledBy) (s.ledBy.leaderValues_devReg s.freeW.toNat)
      have hroutes := (s.ledBy.ownLatch (s.ledBy.leaderValues s.freeW.toNat)).meshRoutes_frame.rest
      refine ⟨_, exec_electionSettled_leader hmode hbest, ?_⟩
      rw [hroutes]
      dsimp only
      rw [hx, hnv, hsup, decide_eq_true hbest, if_pos hbest]
      exact ⟨rfl, rfl, rfl, rfl, rfl⟩
    · refine ⟨_, exec_electionSettled_follower hmode hbest, ?_⟩
      rw [decide_eq_false hbest, if_neg hbest]
      exact ⟨rfl, rfl, rfl, rfl, rfl⟩
  case alone =>
    intro s hmode halone hok
    have hbest := State.bestCand_of_alone halone
    have hvalues := State.leaderValues_of_alone halone s.freeW.toNat
    obtain ⟨hx, -, -⟩ := State.ownLatch_kept (s := s.ledBy) (s.ledBy.leaderValues_devReg s.freeW.toNat)
    have hpeers : (s.ledBy.ownLatch (s.ledBy.leaderValues s.freeW.toNat)).xport.peers = [] := by rw [hx]; exact halone
    refine ⟨_, exec_electionSettled_leader hmode hbest, ?_, ?_⟩
    · rw [State.meshRoutes_of_alone hpeers, hx]
      rfl
    · rw [State.meshRoutes_of_alone hpeers, hvalues]
      exact (State.ownLatch_dev (s := s.ledBy) hok).trans (Nat.mod_eq_of_lt (s.rf_lt _ _))
  case refused =>
    intro s hmode halone hbad
    have hbest := State.bestCand_of_alone halone
    have hlatch : s.ledBy.ownLatch (s.ledBy.leaderValues s.freeW.toNat) = s.ledBy := by
      rw [State.leaderValues_of_alone halone, State.ownLatch, State.ledBy_latchFails, if_neg (by simpa using hbad)]
    refine ⟨_, exec_electionSettled_leader hmode hbest, ?_⟩
    rw [hlatch, State.meshRoutes_of_alone (s := s.ledBy) halone]
    rfl

end Sys2Proof.Machine
end


section
/-! PROOFS. The host's accesses in P0: registers through BAR0 (R360 to R362), doorbells and flags through BAR2 (R368, R369, R378), placed data
through BAR4 (R377), and the shared window (R366, R367). -/
namespace Sys2Proof.Machine
open Sys2Proof Sys2Proof.Safety
variable {s t : State} {a off q n : Nat} {v : W64} {c : Ctx}

/-! ## Accesses that are served at once, and accesses that are refused -/

/-- In P0 a host access that may wake the module has its effect at once (R376). -/
theorem State.hostWake_of_awake (i : Instr) (f : State → State) (hup : s.hostUp = true) (hawake : s.awake = true) :
    s.hostWake i f = f s := by
  have hp : s.pstate ≠ 4 := by
    simp only [State.awake, Bool.and_eq_true, decide_eq_true_eq] at hawake
    omega
  rw [State.hostWake, hup, if_neg (by decide), if_neg hp, State.wake_of_awake hawake]

theorem hostErr_ne_evtLoss : ∀ p, p < 3 → R.HOST_ERR ≠ R.EVT_LOSS p := by decide

/-- HOST_ERR names the status and the BAR or window of an access that ends badly (R362). -/
theorem State.hostErr_rf (s : State) (off : Nat) {src st : Nat} (hsrc : src < 8) (hst : st < 256) :
    (s.hostErr off src st).rf R.HOST_ERR F.HOST_ERR_STATUS = st ∧ (s.hostErr off src st).rf R.HOST_ERR F.HOST_ERR_SOURCE = src := by
  have hcount : R.HOST_ERR ≠ R.HOST_ERR_COUNT := by decide
  constructor
  · rw [State.hostErr, State.raise_rf _ _ hostErr_ne_evtLoss, State.bump, State.setF_rf_ne _ _ _ hcount,
      State.setF_rf_other _ _ (by decide) (by decide), State.setF_rf_self _ _ (by decide)]
    exact Nat.mod_eq_of_lt hst
  · rw [State.hostErr, State.raise_rf _ _ hostErr_ne_evtLoss, State.bump, State.setF_rf_ne _ _ _ hcount,
      State.setF_rf_self _ _ (by decide)]
    exact Nat.mod_eq_of_lt hsrc

theorem State.hostErr_frame (s : State) (off src st : Nat) :
    s.hostErr off src st = { s with evt := (s.hostErr off src st).evt, regs := (s.hostErr off src st).regs } :=
  RegFrame.raise_eq (p := fun _ => True)
    ((((RegFrame.refl _ s |>.setF trivial _ _).setF trivial _ _).setF trivial _ _).setF trivial _ _) _

/-- An access that is refused: its status, HOST_ERR, and nothing else. -/
theorem State.hostErr_answer {src st : Nat} (hsrc : src < 8) (hst : st < 256) (ht : t = (s.hostErr off src st).answer st) :
    t.resp.status = st ∧ t.rf R.HOST_ERR F.HOST_ERR_STATUS = st ∧ t.rf R.HOST_ERR F.HOST_ERR_SOURCE = src ∧
      t = { s with regs := t.regs, evt := t.evt, resp := t.resp } := by
  obtain ⟨hstatus, hsource⟩ := s.hostErr_rf off hsrc hst
  have hframe := s.hostErr_frame off src st
  generalize s.hostErr off src st = u at ht hstatus hsource hframe
  subst ht
  refine ⟨rfl, by rw [answer_rf, hstatus], by rw [answer_rf, hsource], ?_⟩
  rw [hframe]
  rfl

theorem State.barEnd_of_ne (s : State) (src off : Nat) {st : Nat} (h : st ≠ St.ok) :
    s.barEnd src off st = (s.hostErr off src st).answer st := by
  rw [State.barEnd, if_neg h]

/-! ## Registers through BAR0 (R360 to R362) -/

theorem State.readChk_of_not_prog (h : progOf a = none) : s.readChk a = St.ok := by
  simp only [State.readChk, h]

/-- An aligned read that reaches a register outside the program memories and the cells. -/
theorem State.ctlRead_of_reg (hreach : s.reach .host a = St.ok) (halign : a % 8 = 0) (hprog : progOf a = none) (hcell : windowOf a ≠ 0x08) :
    s.ctlRead .host a 8 = (s.setReg a (clearRc (fieldsAt a) (s.reg a) 0 64)).answer St.ok (s.view a) := by
  have hclear : s.readClear a = s.setReg a (clearRc (fieldsAt a) (s.reg a) 0 64) := by
    rw [State.readClear, if_neg hcell]
  simp [State.ctlRead, hreach, halign, State.readChk_of_not_prog hprog, hclear]

/-- A read that does not reach its register (R361). -/
theorem State.ctlRead_of_bounds (hup : s.hostUp = true) (hreach : s.reach .host a = St.bounds) (n : Nat) :
    s.ctlRead .host a n = (s.hostErr a 0 St.bounds).answer St.bounds := by
  have hst (b : Bool) : worst St.bounds (chk b St.bounds) = St.bounds := by cases b <;> rfl
  simp only [State.ctlRead, hreach, hst]
  simp [State.ctlEnd, hup, show St.bounds ≠ St.ok by decide, show St.bounds ≠ St.unset by decide]

/-- The PWR window holds no program memory. -/
theorem progOf_of_pwr (h : windowOf a = 0x28) : progOf a = none := by
  simp [progOf, h]

/-- A write in the PWR window is a plain one. -/
theorem State.ctlWrite_of_pwr (halign : a % 8 = 0) (hwin : windowOf a = 0x28) (htxn : hasAcc a .txn = false) (who : Requester) :
    s.ctlWrite who a 8 v = s.plainCtl who a v := by
  have hctrl : a ≠ R.CFG_TXN_CTRL := by rintro rfl; exact absurd hwin (by decide)
  have htag : a ≠ R.TAG_ACCESS := by rintro rfl; exact absurd hwin (by decide)
  simp [State.ctlWrite, halign, State.hubWrite, progOf_of_pwr hwin, htxn, hwin, hctrl, htag]

theorem exec_bar0Write (hawake : s.awake = true) (hreach : s.reach .host a = St.ok) (halign : a % 8 = 0) (hwin : windowOf a = 0x28)
    (htxn : hasAcc a .txn = false) :
    exec (.hostBar0Access true a 8 v) s = .next ((s.plainWrite a v 0 64).answer St.ok) := by
  have hnow : ServedNow s .host = true := by simpa [ServedNow] using hawake
  refine (State.byHost_eq (i := .hostBar0Access true a 8 v) (f := fun s => .next (s.ctlWrite .host a 8 v)) hnow hreach).trans
    (congrArg Host.Outcome.next ?_)
  rw [State.ctlWrite_of_pwr halign hwin htxn, State.plainCtl, State.ctlDo_ok hreach rfl]

/-! ## Doorbell pages and flags (R368, R369, R378) -/

theorem exec_doorbellProd (n : Nat) (hup : s.hostUp = true) (hawake : s.awake = true) :
    exec (.hostDoorbellProd off n v) s = .next (s.doorbell off n v) :=
  congrArg Host.Outcome.next (State.hostWake_of_awake _ _ hup hawake)

theorem exec_doorbellCq (n : Nat) (hup : s.hostUp = true) (hawake : s.awake = true) :
    exec (.hostDoorbellCq off n v) s = .next (s.doorbell off n v) :=
  congrArg Host.Outcome.next (State.hostWake_of_awake _ _ hup hawake)

/-- The page and the place in it of a queue's doorbells: 64 queues to a page. -/
theorem State.doorbell_of_queue (hq : q < 2 ^ 20) {r : Nat} (hr : r = 0 ∨ r = 8) :
    s.doorbell (q / 64 * 0x1000 + q % 64 * 0x10 + r) 8 v =
      (if r = 0 then s.bellProd q (fld v 0 32) else s.bellCq q (fld v 0 32)).answer St.ok := by
  have hbad : ¬(8 ≠ 8 ∨ (q / 64 * 0x1000 + q % 64 * 0x10 + r) % 8 ≠ 0 ∨ 0x800_0000 ≤ q / 64 * 0x1000 + q % 64 * 0x10 + r) := by omega
  have hhole : ¬(0x400_0000 ≤ q / 64 * 0x1000 + q % 64 * 0x10 + r ∨ 0x400 ≤ (q / 64 * 0x1000 + q % 64 * 0x10 + r) % 0x1000) := by omega
  have hqueue : (q / 64 * 0x1000 + q % 64 * 0x10 + r) / 0x1000 * 64 + (q / 64 * 0x1000 + q % 64 * 0x10 + r) % 0x1000 / 0x10 = q := by omega
  have hfield : (q / 64 * 0x1000 + q % 64 * 0x10 + r) % 0x10 = 0 ↔ r = 0 := by omega
  simp only [State.doorbell, if_neg hbad, if_neg hhole, hqueue, hfield]

theorem State.doorbell_of_bad (h : n ≠ 8 ∨ off % 8 ≠ 0) : s.doorbell off n v = (s.hostErr off 1 St.bounds).answer St.bounds := by
  have hbad : n ≠ 8 ∨ off % 8 ≠ 0 ∨ 0x800_0000 ≤ off := h.imp_right Or.inl
  rw [State.doorbell, if_pos hbad, State.barEnd_of_ne _ _ _ (by decide)]

theorem exec_placeFlag (rel : Bool) (hclk : s.clk.on = true) (hup : s.hostUp = true) (hawake : s.awake = true) :
    exec (.hostPlaceFlag n { size := 8, relaxed := rel }) s = .next (s.placeFlag n 8) := by
  refine congrArg Host.Outcome.next ?_
  rw [State.hostWake_of_awake _ _ hup hawake, hclk]
  rfl

/-- A flag of a slot in service gives its region's signal. -/
theorem State.placeFlag_of_signal {r : XRegion} (hn : n < s.slots) (hen : s.slotEn n = true) (hr : s.slotRegion n = some r)
    (hsig : bitAt r.sig.toNat 6 = true) (hnotify : bitAt r.sig.toNat 37 = false) : s.placeFlag n 8 =
      ((s.drew 1).wardSignal r.ward (fld r.sig 14 2) (fld r.sig 7 7) (fld r.sig 0 6) (bitAt r.sig.toNat 16)).answer St.ok := by
  have hslot : ¬s.slots ≤ n := Nat.not_le.2 hn
  simp [State.placeFlag, hslot, hen, hr, State.regionSignal, hsig, hnotify]

theorem State.placeFlag_of_slot_off (hn : n < s.slots) (hen : s.slotEn n = false) :
    s.placeFlag n 8 = (s.hostErr (0x400_0000 + 8 * n) 1 St.bounds).answer St.bounds := by
  have hslot : ¬s.slots ≤ n := Nat.not_le.2 hn
  simp [State.placeFlag, hslot, hen, State.barEnd_of_ne _ _ _ (show St.bounds ≠ St.ok by decide)]

/-! ## The placement aperture (R292, R362, R377) -/

theorem exec_bar4Write (d : List Byte) (hclk : s.clk.on = true) (hup : s.hostUp = true) (hawake : s.awake = true) :
    exec (.hostBar4Write off d) s = .next (s.place off d) := by
  refine congrArg Host.Outcome.next ?_
  rw [State.hostWake_of_awake _ _ hup hawake, hclk]
  rfl

/-- A placed write that passes the checks and lands. -/
theorem State.place_of_ok {d : List Byte} {r : XRegion} {x : State × Nat}
    (hchk : s.placeChk (off / 2 ^ 30) (off % 2 ^ 30) d.length = (St.ok, some r))
    (hwrite : s.devWrite (r.base + s.rf (R.HOST_PLACE_CTL (off / 2 ^ 30)) F.HOST_PLACE_CTL_OFFSET * 4096 + off % 2 ^ 30) 0 d = x)
    (hok : x.2 = St.ok) : s.place off d = x.1.answer St.ok := by
  simp only [State.place, hchk, hwrite, hok, if_true, State.barEnd]

/-- A placed write that the checks refuse. -/
theorem State.place_of_refused {d : List Byte} {st : Nat} (hne : st ≠ St.ok)
    (hchk : s.placeChk (off / 2 ^ 30) (off % 2 ^ 30) d.length = (st, none)) : s.place off d = (s.hostErr off 2 st).answer st := by
  simp only [State.place, hchk, State.barEnd_of_ne _ _ _ hne]

theorem State.placeChk_of_slot_off (hen : s.slotEn n = false) (at_ len : Nat) : s.placeChk n at_ len = (St.bounds, none) := by
  simp [State.placeChk, hen]

theorem State.placeChk_of_no_region {at_ len : Nat} (hn : n < s.slots) (hen : s.slotEn n = true) (hin : at_ + len ≤ 2 ^ 30)
    (hr : s.slotRegion n = none) : s.placeChk n at_ len = (St.keyDenied, none) := by
  have hpass : ¬(s.slots ≤ n ∨ !s.slotEn n ∨ 2 ^ 30 < at_ + len) := by
    rw [hen]
    simp only [Bool.not_true, Bool.false_eq_true, false_or]
    omega
  rw [State.placeChk, if_neg hpass, hr]

/-! ## The shared window (R366, R367, R372) -/

theorem State.hostUp_of_cxlTakes (h : s.cxlTakes a = true) : s.hostUp = true := by
  simp only [State.cxlTakes, Bool.and_eq_true] at h
  exact h.1.1.1

/-- A host that is served is past stage 3. -/
theorem State.not_unready (h : s.hostUp = true) : s.unready = false := by
  simp only [State.hostUp, Bool.and_eq_true, decide_eq_true_eq] at h
  simp [State.unready, h.2]

section
variable (hclk : s.clk.on = true) (htakes : s.cxlTakes a = true) (hawake : s.awake = true)
include hclk htakes hawake

theorem exec_cxlRead (f : LineFault) : exec (.cxlMemRead a f) s = .next (s.cxlRead a f) := by
  have hup := State.hostUp_of_cxlTakes htakes
  refine congrArg Host.Outcome.next ?_
  rw [State.not_unready hup, if_neg (by decide), if_pos htakes, State.hostWake_of_awake _ _ hup hawake, hclk]
  rfl

theorem exec_cxlWrite (d : List Byte) (f : LineFault) : exec (.cxlMemWrite a d f) s = .next (s.cxlWrite a d f) := by
  have hup := State.hostUp_of_cxlTakes htakes
  refine congrArg Host.Outcome.next ?_
  rw [State.not_unready hup, if_neg (by decide), if_pos htakes, State.hostWake_of_awake _ _ hup hawake, hclk]
  rfl

end

/-- The snoop filter apart, noting a line leaves the state as it was, and the line noted last is in the filter. -/
theorem State.noteHeld_eq (s : State) (l : Nat) : ∃ k, s.noteHeld l = s.withSnoop k ∧ k.contains l = true := by
  refine ⟨_, rfl, ?_⟩
  generalize s.mem.snoop.filter (fun x => x ≠ l) = k
  have hdrop : (k ++ [l]).length - 262144 ≤ k.length := by
    rw [List.length_append, List.length_singleton]
    omega
  rw [List.drop_append_of_le_length hdrop]
  simp

/-- A read of the shared window whose home read ends well. -/
theorem State.cxlRead_of_home (hfenced : s.fenced a = false) (f : LineFault) : ∃ b, ∀ d st,
    (s.withBucket b).homeRead (a / 64) 0 false f = (s.withBucket b, d, st) → st = St.ok ∨ st = St.unset →
      s.cxlRead a f = ((s.withBucket b).noteHeld (a / 64)).answer St.ok 0 d := by
  obtain ⟨b, hb⟩ := s.charge_eq (a / 64) 1
  refine ⟨b, fun d st hread hst => ?_⟩
  have hserve : s.cxlServe a (.read 0 false) f = { s := s.withBucket b, data := d, status := st } := by
    simp [State.cxlServe, hfenced, State.serveHome, hb, hread]
  have hend : (if st = St.unset then St.ok else st) = St.ok := by
    split
    · rfl
    · next hne => exact hst.resolve_right hne
  simp only [State.cxlRead, hserve, hend, State.cxlEnd, true_or, if_true]

/-- What such a read leaves. -/
theorem State.cxlRead_spec {d : List Byte} {b : List (Nat × (Nat × Nat))} (ht : t = ((s.withBucket b).noteHeld (a / 64)).answer St.ok 0 d) :
    t.resp.status = St.ok ∧ t.resp.bytes = d ∧ t.mem.snoop.contains (a / 64) = true ∧
      (∀ l, t.mark l = s.mark l ∧ t.dramLine l = s.dramLine l) ∧
      t = { s with mem := { s.mem with snoop := t.mem.snoop, bucket := t.mem.bucket }, resp := t.resp } := by
  obtain ⟨k, hk, hmem⟩ := (s.withBucket b).noteHeld_eq (a / 64)
  rw [hk] at ht
  subst ht
  exact ⟨rfl, rfl, hmem, fun _ => ⟨rfl, rfl⟩, rfl⟩

/-- Bytes that fit into a good line in DRAM are merged into it (R230). -/
theorem State.homeWrite_of_dram {line : Nat} {d : List Byte} (hcache : s.cline line = none) (hmark : s.mark line = .ok)
    (hfit : off + d.length ≤ 64) :
    s.homeWrite line 0 off d .good = (s.dramPut line (overlay (s.dramLine line) off d), St.ok) := by
  by_cases hwhole : off = 0 ∧ d.length = 64
  · obtain ⟨rfl, hlen⟩ := hwhole
    have hover : overlay (s.dramLine line) 0 d = d := by simp [overlay, State.dramLine, hlen]
    rw [State.homeWrite_full hcache _ hlen, hover]
  · have hpart : ¬(off = 0 ∧ 64 ≤ d.length) := fun h => hwhole ⟨h.1, by omega⟩
    rw [State.homeWrite, if_neg hpart, State.homeMerge_of_ok hcache hmark]
    simp only [State.homePut_of_dram hcache]

/-- A write of bytes within a good line of a SET region of the shared window. -/
theorem State.cxlWrite_of_dram {d : List Byte} (hfenced : s.fenced a = false) (hst : (s.region (regionKey (a / 64 * 64))).st = 2)
    (hcache : s.cline (a / 64) = none) (hmark : s.mark (a / 64) = .ok) (hfit : a % 64 + d.length ≤ 64) :
    ∃ b, s.cxlWrite a d .good = ((s.withBucket b).dramPut (a / 64) (overlay (s.dramLine (a / 64)) (a % 64) d)).answer St.ok := by
  obtain ⟨b, hb⟩ := s.charge_eq (a / 64) 1
  refine ⟨b, ?_⟩
  have hset : (s.withBucket b).ensureSet (regionKey (a / 64 * 64)) = s.withBucket b := State.ensureSet_of_set hst
  have htake : d.take (64 - a % 64) = d := List.take_of_length_le (by omega)
  have hwrite : (s.withBucket b).homeWrite (a / 64) 0 (a % 64) d .good =
      ((s.withBucket b).dramPut (a / 64) (overlay (s.dramLine (a / 64)) (a % 64) d), St.ok) :=
    State.homeWrite_of_dram hcache hmark hfit
  have hserve : s.cxlServe a (.write 0 (a % 64) (d.take (64 - a % 64))) .good =
      { s := (s.withBucket b).dramPut (a / 64) (overlay (s.dramLine (a / 64)) (a % 64) d), status := St.ok } := by
    simp [State.cxlServe, hfenced, State.serveHome, hb, hset, htake, hwrite]
  simp only [State.cxlWrite, hserve, State.cxlEnd, true_or, if_true]

/-- Before stage 3 the window is not served (R372). -/
theorem State.unready_of_stage (hlink : s.rf R.HOST_LINK_STATUS F.HOST_LINK_STATUS_SPEED ≠ 0)
    (hstage : s.rf R.MGMT_STAGE F.MGMT_STAGE_STAGE < 3) : s.unready = true := by
  simp [State.unready, hlink, hstage]

/-! ## The tolerance (R376) -/

theorem fieldsAt_pmTol : fieldsAt R.HOST_PM_TOL = [fd 0 32 .rw 0] := by decide +kernel

/-- A written tolerance reads as its 32 bits. -/
theorem State.plainWrite_pmTol (s : State) (v : W64) :
    (s.plainWrite R.HOST_PM_TOL v 0 64).rf R.HOST_PM_TOL F.HOST_PM_TOL_TOL_US = v.toNat % 2 ^ 32 := by
  have hfits : fld v 0 32 ≤ 4294967295 := Nat.le_of_lt_succ (Nat.mod_lt _ (Nat.two_pow_pos 32))
  have hwrite : writeFields (fieldsAt R.HOST_PM_TOL) (s.reg R.HOST_PM_TOL) v 0 64 = setFld (s.reg R.HOST_PM_TOL) 0 32 (fld v 0 32) := by
    rw [fieldsAt_pmTol]
    simp [writeFields, FieldDef.within, FieldDef.takes, fd, hfits]
  have hlow : fld v 0 32 = v.toNat % 2 ^ 32 := by simp [fld, bitsOf]
  rw [State.rf, State.plainWrite_reg_self, hwrite]
  refine (fld_setFld_self _ _ (by decide)).trans ?_
  rw [hlow, Nat.mod_mod]

/-- In P0 no tolerance is below the wake time. -/
theorem State.setTol_of_p0 {who : Requester} (hreach : s.reach who R.HOST_PM_TOL = St.ok) (hp : s.pstate = 0) :
    s.setTol who v = (s.plainWrite R.HOST_PM_TOL v 0 64).answer St.ok := by
  have hstate : (s.plainWrite R.HOST_PM_TOL v 0 64).pstate = 0 := by
    rw [State.pstate, State.rf, State.plainWrite_reg_ne _ _ _ (by decide)]
    exact hp
  have hslow : ¬(s.plainWrite R.HOST_PM_TOL v 0 64).rf R.HOST_PM_TOL F.HOST_PM_TOL_TOL_US < (wakeUs[(0 : Nat)]?).getD 0 := Nat.not_lt_zero _
  rw [State.setTol, State.ctlDo_ok hreach rfl]
  simp only [hstate, if_neg hslow]

theorem exec_pmTolWrite {who : Requester} (hnow : ServedNow s who = true) (hreach : s.reach who R.HOST_PM_TOL = St.ok) (hp : s.pstate = 0) :
    exec (.pmTolWrite who v) s = .next ((s.plainWrite R.HOST_PM_TOL v 0 64).answer St.ok) := by
  refine congrArg Host.Outcome.next ?_
  rw [State.setTol_of_p0 hreach hp]
  split
  · next hhost =>
    subst hhost
    have hawake : s.awake = true := by simpa [ServedNow] using hnow
    rw [State.hostWake_of_awake _ _ (State.hostUp_of_reach hreach) hawake, State.setTol_of_p0 hreach hp]
  · rfl

/-! ## The statement -/

/-- Settles O57. A host access in P0 does what its register, doorbell, slot or line does; a refused one is the end that HOST_ERR records. -/
theorem hostAccessesComplete : Obligations.HostAccessesComplete := by
  unfold Obligations.HostAccessesComplete
  refine ⟨?_, ?_, ?_, ?_, ?_, ?_, ?_, ?_, ?_, ?_, ?_, ?_, ?_, ?_, ?_, ?_, ?_, ?_, ?_⟩
  case refine_1 => -- BAR0 read
    intro s a _ hreach halign hprog hcell
    refine ⟨_, congrArg Host.Outcome.next (State.ctlRead_of_reg hreach halign hprog hcell), rfl, ?_, fun b hb => ?_, rfl, rfl⟩
    · rw [State.answer_reg, State.setReg_reg_self]
    · rw [State.answer_reg, State.setReg_reg_ne _ hb]
  case refine_2 => -- BAR0 write
    intro s a v _ hawake hreach halign hwin htxn
    exact ⟨_, exec_bar0Write hawake hreach halign hwin htxn, State.plainWrite_answer_spec rfl⟩
  case refine_3 => -- BAR0 read, refused
    intro s a n hup hreach
    exact ⟨_, congrArg Host.Outcome.next (State.ctlRead_of_bounds hup hreach n), State.hostErr_answer (by decide) (by decide) rfl⟩
  case refine_4 => -- no link, or before stage 3
    intro s wr a n v hdown hwr
    subst hwr
    refine ⟨s.answer St.bounds, ?_, rfl, rfl⟩
    change s.byHost .host (.hostBar0Access true a n v) (fun s => .next (s.ctlWrite .host a n v)) = _
    rw [State.byHost, hdown]
    rfl
  case refine_5 => -- producer doorbell
    intro s q v c hup hawake hq hc hen htyp
    refine ⟨_, exec_doorbellProd 8 hup hawake,
      State.bell_served (fun c => { c with w2 := setFld c.w2 0 32 (fld v 0 32) }) hc hen htyp ?_⟩
    have hbell := State.doorbell_of_queue (s := s) (v := v) hq (.inl rfl)
    rw [Nat.add_zero, if_pos rfl] at hbell
    exact hbell
  case refine_6 => -- completion doorbell
    intro s q v c hup hawake hq hc hen htyp
    refine ⟨_, exec_doorbellCq 8 hup hawake,
      State.bell_served (fun c => { c with w4 := setFld c.w4 32 32 (fld v 0 32) }) hc hen htyp ?_⟩
    exact State.doorbell_of_queue hq (r := 8) (.inr rfl)
  case refine_7 => -- doorbell access of another size or place
    intro s off n v hup hawake hbad
    exact ⟨_, exec_doorbellProd n hup hawake, State.hostErr_answer (by decide) (by decide) (State.doorbell_of_bad hbad)⟩
  case refine_8 => -- placed write
    intro s off d r x hclk hup hawake hchk hwrite hok
    refine ⟨_, (exec_bar4Write d hclk hup hawake).trans (congrArg _ (State.place_of_ok hchk hwrite hok)), rfl, rfl⟩
  case refine_9 => -- slot that is not enabled
    intro s off d hclk hup hawake hen
    exact ⟨_, exec_bar4Write d hclk hup hawake, State.hostErr_answer (by decide) (by decide)
      (State.place_of_refused (by decide) (State.placeChk_of_slot_off hen _ _))⟩
  case refine_10 => -- keys that name no region
    intro s off d hclk hup hawake hn hen hin hr
    exact ⟨_, exec_bar4Write d hclk hup hawake, State.hostErr_answer (by decide) (by decide)
      (State.place_of_refused (by decide) (State.placeChk_of_no_region hn hen hin hr))⟩
  case refine_11 => -- BAR4 read
    intro s off hup
    refine ⟨_, congrArg Host.Outcome.next (if_pos hup), State.hostErr_answer (by decide) (by decide) (State.barEnd_of_ne _ _ _ (by decide))⟩
  case refine_12 => -- flag
    intro s n rel r hclk hup hawake hn hen hr hsig hnotify
    exact ⟨_, exec_placeFlag rel hclk hup hawake, State.placeFlag_of_signal hn hen hr hsig hnotify⟩
  case refine_13 => -- flag of a slot that is not enabled
    intro s n rel hclk hup hawake hn hen
    exact ⟨_, exec_placeFlag rel hclk hup hawake, State.hostErr_answer (by decide) (by decide) (State.placeFlag_of_slot_off hn hen)⟩
  case refine_14 => -- UNSET line
    intro s a f hclk htakes hawake hfenced hst
    obtain ⟨b, hread⟩ := State.cxlRead_of_home hfenced f
    have hunset : (s.withBucket b).homeRead (a / 64) 0 false f = (s.withBucket b, zeros 64, St.unset) :=
      State.homeRead_of_unset (s := s.withBucket b) hst
    obtain ⟨hstatus, hbytes, hheld, hlines, hframe⟩ := State.cxlRead_spec (hread _ _ hunset (.inr rfl))
    exact ⟨_, exec_cxlRead hclk htakes hawake f, hstatus, hbytes, hheld, hlines, hframe⟩
  case refine_15 => -- good line
    intro s a hclk htakes hawake hfenced hst hcache hmark
    obtain ⟨b, hread⟩ := State.cxlRead_of_home hfenced .good
    have hdram : (s.withBucket b).homeRead (a / 64) 0 false .good = (s.withBucket b, s.dramLine (a / 64), St.ok) :=
      State.homeRead_of_dram (s := s.withBucket b) hcache hst (State.dramRead_of_ok hmark)
    obtain ⟨hstatus, hbytes, hheld, -, hframe⟩ := State.cxlRead_spec (hread _ _ hdram (.inl rfl))
    exact ⟨_, exec_cxlRead hclk htakes hawake .good, hstatus, hbytes, hheld, hframe⟩
  case refine_16 => -- write of a good line
    intro s a d hclk htakes hawake hfenced hst hcache hmark hfit _
    obtain ⟨b, hwrite⟩ := State.cxlWrite_of_dram hfenced hst hcache hmark hfit
    have hlen : (overlay (s.dramLine (a / 64)) (a % 64) d).length = 64 := by
      have hold : (s.dramLine (a / 64)).length = 64 := length_bytesAt _ _ _
      rw [length_overlay (by omega), hold]
    exact ⟨_, (exec_cxlWrite hclk htakes hawake d .good).trans (congrArg _ hwrite), rfl, State.dramPut_dramLine_self hlen,
      fun l hl => ⟨State.dramPut_mark_ne _ hl, State.dramPut_dramLine_ne _ hl⟩, rfl, rfl⟩
  case refine_17 => -- a request that the decoder does not take
    intro s a f hready htakes
    refine ⟨s, congrArg Host.Outcome.next ?_, rfl⟩
    rw [hready, htakes]
    rfl
  case refine_18 => -- before stage 3
    intro s a f d hlink hstage
    have hunready := State.unready_of_stage hlink hstage
    exact ⟨_, congrArg Host.Outcome.next (if_pos hunready), congrArg Host.Outcome.next (if_pos hunready), rfl, rfl⟩
  case refine_19 => -- tolerance
    intro s who v hnow hreach hp
    obtain ⟨-, hothers, hstatus, hframe⟩ := State.plainWrite_answer_spec (s := s) (a := R.HOST_PM_TOL) (v := v) rfl
    refine ⟨_, exec_pmTolWrite hnow hreach hp, ?_, hothers, hstatus, hframe⟩
    rw [State.answer_rf, State.plainWrite_pmTol]

end Sys2Proof.Machine
end


section
/-! PROOFS. What sending packets, and the ends of messages, leave alone (R276, R281 to R284, R301, R313, R321). -/
namespace Sys2Proof.Machine
open Sys2Proof Sys2Proof.Safety
variable {s t u : State} {m : Msg} {p q : Nat}

/-! ## Packets that go -/

/-- From `s` to `t` packets may have gone, on a port or the memory fabric, and messages may have been given a number. -/
structure Sends (s t : State) : Prop where
  mem : t.mem = s.mem
  cores : t.cores = s.cores
  colls : t.xport.colls = s.xport.colls
  coal : t.xport.coal = s.xport.coal
  next : s.xport.nextMsg ≤ t.xport.nextMsg

theorem Sends.refl (s : State) : Sends s s := ⟨rfl, rfl, rfl, rfl, Nat.le_refl _⟩

theorem Sends.trans (h : Sends s t) (k : Sends t u) : Sends s u :=
  ⟨k.mem.trans h.mem, k.cores.trans h.cores, k.colls.trans h.colls, k.coal.trans h.coal, h.next.trans k.next⟩

/-- A change beside memory, cores and the transport. -/
theorem Sends.beside (h : Sends s t) (hmem : u.mem = t.mem) (hcores : u.cores = t.cores) (hxport : u.xport = t.xport) : Sends s u :=
  h.trans ⟨hmem, hcores, by rw [hxport], by rw [hxport], by rw [hxport]⟩

theorem Sends.setF (h : Sends s t) (a : Nat) (f : Fld) (x : Nat) : Sends s (t.setF a f x) := h.beside rfl rfl rfl

theorem Sends.bump (h : Sends s t) (a : Nat) (f : Fld) (n : Nat) : Sends s (t.bump a f n) := h.beside rfl rfl rfl

theorem Sends.keys (h : Sends s t) (l : List (Nat × List Byte)) : Sends s { t with sec := { t.sec with linkKeys := l } } :=
  h.beside rfl rfl rfl

theorem Sends.events (h : Sends s t) (k : EvFrame t u) : Sends s u := by
  refine h.beside ?_ ?_ ?_ <;> rw [k.rest]

theorem Sends.raise (h : Sends s t) (e : EvRec) : Sends s (t.raise e) := h.events (t.raise_frame e)

theorem Sends.turn (h : Sends s t) (k : PortTurn p t u) : Sends s u := by
  refine h.beside ?_ ?_ ?_ <;> rw [k.rest]

theorem Sends.ite {c : Prop} [Decidable c] (h : Sends s t) (k : Sends s u) : Sends s (if c then t else u) := by
  split
  · exact h
  · exact k

/-- A packet goes to a port, or to this module itself. -/
theorem State.sendPkt_sends (s : State) (p : Nat) (pkt : Packet) (w : Option Nat) : Sends s (s.sendPkt p pkt w) := by
  unfold State.sendPkt
  split
  · exact Sends.refl s
  · split
    · exact ⟨rfl, rfl, rfl, rfl, Nat.le_refl _⟩
    · exact (Sends.refl s).turn ((PortTurn.refl p s).handFrame _)

/-- To a port, it changes nothing of the transport (R313). -/
theorem State.sendPkt_port (s : State) (hp : p ≠ 16) (pkt : Packet) (w : Option Nat) : PortTurn p s (s.sendPkt p pkt w) := by
  unfold State.sendPkt
  rw [if_neg hp]
  exact (PortTurn.refl p s).ite ((PortTurn.refl p s).handFrame _)

theorem Sends.sendBack (h : Sends s t) (port : Nat) (a : Packet) (w : Nat) : Sends s (t.sendBack port a w) := by
  unfold State.sendBack
  dsimp only
  split
  · exact h.trans (State.sendPkt_sends _ _ _ _)
  · exact h

/-- A copy that goes is a packet sent. -/
theorem State.copyOut_sends {i x from_ : Nat} {pkt : Packet} {counted : Bool} {m1 : Msg}
    (h : s.copyOut m i x from_ pkt counted = .ok (t, m1)) : Sends s t := by
  unfold State.copyOut at h
  split at h
  · cases h
  · split at h
    · cases h
    · cases h
      exact State.sendPkt_sends _ _ _ _

/-- What one copy leaves, whether it goes or not. -/
theorem sentOf_copyOut_sends (s : State) (m : Msg) (i x from_ : Nat) (pkt : Packet) (counted : Bool) :
    Sends s (sentOf s m (s.copyOut m i x from_ pkt counted)).1 := by
  cases h : s.copyOut m i x from_ pkt counted with
  | error e => exact Sends.refl s
  | ok r => exact State.copyOut_sends h

theorem State.tryLast_sends (s : State) (m : Msg) (lifePassed : Bool) : Sends s (s.tryLast m lifePassed).1 := by
  unfold State.tryLast
  split
  · split
    · exact Sends.refl s
    · exact sentOf_copyOut_sends _ _ _ _ _ _ _
  · exact Sends.refl s

theorem State.pumpFrom_sends (fuel : Nat) : ∀ (s : State) (m : Msg) (i : Nat), Sends s (s.pumpFrom m fuel i).1 := by
  induction fuel with
  | zero => exact fun s _ _ => Sends.refl s
  | succ fuel ih =>
    intro s m i
    unfold State.pumpFrom
    split
    · exact Sends.refl s
    split
    · exact Sends.refl s
    split
    · exact ih _ _ _
    split
    · exact Sends.refl s
    split
    · exact Sends.refl s
    · next h => exact (State.copyOut_sends h).trans (ih _ _ _)

theorem State.readRound_sends (s : State) (m : Msg) : Sends s (s.readRound m).1 := by
  unfold State.readRound
  refine List.foldlRecOn (motive := fun r : Sent => Sends s r.1) _ _ (Sends.refl s) fun r hr g _ => ?_
  obtain ⟨v, n, e⟩ := r
  cases e with
  | some e => exact hr
  | none => exact hr.trans (sentOf_copyOut_sends _ _ _ _ _ _ _)

/-- Two timeouts in a row may take a port out of a route (R313). -/
theorem State.missOn_sends (s : State) (d p : Nat) : Sends s (s.missOn d p) := by
  unfold State.missOn
  refine Sends.ite (Sends.refl s) ?_
  have hcount (n : Nat) : Sends s (s.modX (fun x => { x with misses := mset 0 x.misses (d * 16 + p) n })) :=
    ⟨rfl, rfl, rfl, rfl, Nat.le_refl _⟩
  dsimp only
  split
  · exact Sends.ite ((((hcount _).raise _).setF _ _ _).events (State.noRoutes_frame _ _)) (hcount _)
  · exact hcount _

/-- Spent link keys go with the number of a message (R437). -/
theorem State.spendLinks_sends (s : State) : Sends s s.spendLinks := by
  unfold State.spendLinks
  refine List.foldlRecOn (motive := Sends s) _ _ (Sends.refl s) fun t ht e _ => ?_
  dsimp only
  split
  · exact ((ht.keys _).setF _ _ _).raise _
  · exact ht

theorem State.spendLinks_xport (s : State) : s.spendLinks.xport = s.xport := by
  unfold State.spendLinks
  refine List.foldlRecOn (motive := fun t : State => t.xport = s.xport) _ _ rfl fun t ht e _ => ?_
  dsimp only
  split
  · rw [State.raise_xport, State.setF_xport]
    exact ht
  · exact ht

theorem State.nextId_next (s : State) : s.nextId.xport.nextMsg = s.xport.nextMsg + 1 := by rw [State.nextId, State.spendLinks_xport]; rfl

theorem State.nextId_sends (s : State) : Sends s s.nextId := by
  have hnumber : Sends s (s.modX (fun x => { x with nextMsg := x.nextMsg + 1 })) := ⟨rfl, rfl, rfl, rfl, Nat.le_succ _⟩
  exact hnumber.trans (State.spendLinks_sends _)

theorem Sends.msgFail (h : Sends s t) (m : Msg) (st : Nat) : Sends s (t.msgFail m st) := by
  unfold State.msgFail
  split
  · exact h.raise _
  · exact h

theorem State.launchAbort_sends (s : State) (m : Msg) : Sends s (s.launchAbort m) := by
  unfold State.launchAbort
  dsimp only
  split
  · exact s.nextId_sends.msgFail _ _
  · split
    · next h => exact s.nextId_sends.trans ((State.copyOut_sends h).trans ⟨rfl, rfl, rfl, rfl, Nat.le_refl _⟩)
    · exact s.nextId_sends.msgFail _ _

theorem State.sendAbort_sends (s : State) (q : Nat) (c : Coll) (dst dstQ st : Nat) : Sends s (s.sendAbort q c dst dstQ st) := by
  unfold State.sendAbort
  dsimp only
  split
  · exact ⟨rfl, rfl, rfl, rfl, Nat.le_refl _⟩
  · exact State.launchAbort_sends _ _

/-! ## Aborts of a collective (R321, R322) -/

/-- The notices of an abort: its event, and a CTRL ABORT to every member. -/
def State.tellAbort (s : State) (q st : Nat) : State :=
  (s.coll q).members.foldl (fun t e => t.sendAbort q (s.coll q) e.1 e.2 st)
    (s.raise { ev 0x1806 1 q 7 with ward := (s.wardOfCore (160 + q)).getD 0xFF, status := st, source2 := (s.coll q).id })

theorem State.tellAbort_sends (s : State) (q st : Nat) : Sends s (s.tellAbort q st) :=
  List.foldlRecOn (motive := Sends s) _ _ ((Sends.refl s).raise _) fun _ ht _ _ => ht.trans (State.sendAbort_sends _ _ _ _ _ _)

theorem Sends.coll (h : Sends s t) (q : Nat) : t.coll q = s.coll q := by rw [State.coll, h.colls, State.coll]

theorem State.abortColl_of_open {st : Nat} (hopen : (s.coll q).isOpen = true) (habort : (s.coll q).abort = none) :
    s.abortColl q st = (s.tellAbort q st).noteAbort q st := by
  have hgo : ¬(!(s.coll q).isOpen || (s.coll q).abort.isSome) = true := by simp [hopen, habort]
  rw [State.abortColl]
  exact if_neg hgo

/-- The first abort that reaches a collective ends its messages. -/
theorem State.noteAbort_spec {st : Nat} (habort : (s.coll q).abort = none) (ht : t = s.noteAbort q st) :
    (t.coll q).abort = some st ∧ (∀ m, m ∈ t.xport.msgs → m.coll ≠ some q) ∧ t.mem = s.mem ∧ t.cores = s.cores := by
  have hnote : s.noteAbort q st = (s.setColl q { s.coll q with abort := some st }).modX (fun x => { x with
      msgs := x.msgs.filter (fun m => m.coll ≠ some q)
      waitMsgs := x.waitMsgs.filter (fun m => m.coll ≠ some q) }) := by
    simp only [State.noteAbort, habort]
  rw [hnote] at ht
  subst ht
  refine ⟨congrArg Coll.abort (State.setColl_coll_self q _), fun m hm => ?_, rfl, rfl⟩
  simpa using (List.mem_filter.1 hm).2

/-- An abort of an open collective that is the first. -/
theorem State.abortColl_spec {st : Nat} (hopen : (s.coll q).isOpen = true) (habort : (s.coll q).abort = none)
    (ht : t = s.abortColl q st) :
    (t.coll q).abort = some st ∧ (∀ m, m ∈ t.xport.msgs → m.coll ≠ some q) ∧ t.mem = s.mem ∧ t.cores = s.cores := by
  have htold := s.tellAbort_sends q st
  rw [State.abortColl_of_open hopen habort] at ht
  obtain ⟨hstatus, hmsgs, hmem, hcores⟩ := State.noteAbort_spec (by rw [htold.coll, habort]) ht
  exact ⟨hstatus, hmsgs, hmem.trans htold.mem, hcores.trans htold.cores⟩

theorem State.noteAbort_next (s : State) (q st : Nat) : (s.noteAbort q st).xport.nextMsg = s.xport.nextMsg := by
  unfold State.noteAbort
  dsimp only
  split <;> rfl

theorem State.abortColl_next (s : State) (q st : Nat) : s.xport.nextMsg ≤ (s.abortColl q st).xport.nextMsg := by
  by_cases hgo : (!(s.coll q).isOpen || (s.coll q).abort.isSome) = true
  · have hstay : s.abortColl q st = s := if_pos hgo
    rw [hstay]
  · simp only [Bool.or_eq_true, Bool.not_eq_true', not_or, Bool.not_eq_false, Bool.not_eq_true, Option.isSome_eq_false_iff,
      Option.isNone_iff_eq_none] at hgo
    rw [State.abortColl_of_open hgo.1 hgo.2, State.noteAbort_next]
    exact (s.tellAbort_sends q st).next

/-! ## The end of a message (R284, R289, R290, R301) -/

/-- From `s` to `t` the outstanding messages and the next number stay. -/
structure MsgsKept (s t : State) : Prop where
  msgs : t.xport.msgs = s.xport.msgs
  next : t.xport.nextMsg = s.xport.nextMsg

theorem MsgsKept.refl (s : State) : MsgsKept s s := ⟨rfl, rfl⟩

theorem MsgsKept.trans (h : MsgsKept s t) (k : MsgsKept t u) : MsgsKept s u := ⟨k.msgs.trans h.msgs, k.next.trans h.next⟩

theorem MsgsKept.of_xport (h : t.xport = s.xport) : MsgsKept s t := ⟨by rw [h], by rw [h]⟩

theorem MsgsKept.ite {c : Prop} [Decidable c] (h : MsgsKept s t) (k : MsgsKept s u) : MsgsKept s (if c then t else u) := by
  split
  · exact h
  · exact k

theorem State.msgFail_xport (s : State) (m : Msg) (st : Nat) : (s.msgFail m st).xport = s.xport := by
  unfold State.msgFail
  split
  · exact State.raise_xport _
  · rfl

/-- A context brought in or written changes the cache alone. -/
theorem State.ctxLoad_kept (s : State) (q : Nat) : MsgsKept s (s.ctxLoad q).1 := by
  unfold State.ctxLoad
  split
  · exact ⟨rfl, rfl⟩
  · have hread := MsgsKept.of_xport (State.uRead_mframe s (s.ctxAddr q) 64 0 false (MemFrame.refl s)).xport
    dsimp only
    split
    · exact hread.trans ⟨rfl, rfl⟩
    · exact hread.trans (.of_xport (State.raise_xport _))

theorem State.ctxPut_kept (s : State) (q : Nat) (c : Ctx) : MsgsKept s (s.ctxPut q c) :=
  MsgsKept.trans (t := s.ctxKeep q c) ⟨rfl, rfl⟩ (.of_xport (State.ctxPut_mframe s q c).xport)

theorem State.loadFor_kept (s : State) (m : Msg) : MsgsKept s (s.loadFor m) := by
  unfold State.loadFor
  split
  · exact MsgsKept.refl s
  · exact s.ctxLoad_kept _

theorem State.signalTo_xport (s : State) (w kind target ctr amount : Nat) (all : Bool) :
    (s.signalTo w kind target ctr amount all).xport = s.xport := by
  unfold State.signalTo
  split
  · refine List.foldlRecOn (motive := fun t : State => t.xport = s.xport) _ _ rfl fun t ht c _ => ?_
    split
    · exact ht
    · exact ht
  · rfl

theorem State.ctxSignal_xport (s : State) (q : Nat) : (s.ctxSignal q).xport = s.xport := by
  unfold State.ctxSignal State.wardSignal
  dsimp only
  split
  · split
    · exact State.signalTo_xport _ _ _ _ _ _ _
    · rfl
  · rfl

/-- A completion reaches its queue or command; the messages stay. -/
theorem State.deliverDone_kept (s : State) (m : Msg) (st : Nat) : MsgsKept s (s.deliverDone m st) := by
  unfold State.deliverDone
  split
  · exact ⟨rfl, rfl⟩
  · next k ord _ =>
    have hdone : ((s.ctxSignal m.queue).cmdDone k ord st).xport = s.xport := by rw [State.cmdDone_fields, State.ctxSignal_xport]
    exact (MsgsKept.refl s).ite (.of_xport hdone)
  · exact MsgsKept.refl s

/-- A message is taken out, its context is brought in, and a STRICT queue and the event log note a bad end. -/
def State.dropMsg (s : State) (m : Msg) (st : Nat) : State :=
  let u := (s.modX (fun x => { x with msgs := x.msgs.filter (fun n => n.id ≠ m.id) })).loadFor m
  (if m.strict && badStatus st then u.ctxPut m.queue { u.ctx m.queue with w0 := setFld (u.ctx m.queue).w0 13 1 1 } else u).msgFail m st

theorem State.dropMsg_kept (s : State) (m : Msg) (st : Nat) :
    MsgsKept (s.modX (fun x => { x with msgs := x.msgs.filter (fun n => n.id ≠ m.id) })) (s.dropMsg m st) := by
  have hload := (s.modX (fun x => { x with msgs := x.msgs.filter (fun n => n.id ≠ m.id) })).loadFor_kept m
  exact (MsgsKept.ite (hload.trans (State.ctxPut_kept _ _ _)) hload).trans (.of_xport (State.msgFail_xport _ _ _))

theorem State.finishMsg_of_no_coll (st : Nat) (h : m.coll = none) :
    s.finishMsg m st = (s.dropMsg m (worst st m.st)).deliverDone m (worst st m.st) := by
  rw [State.finishMsg]
  simp only [h]
  rfl

/-- The message that has ended is no longer there. -/
theorem State.finishMsg_msg_none (s : State) (st : Nat) (h : m.coll = none) : (s.finishMsg m st).msg m.id = none := by
  have hkept := (s.dropMsg_kept m (worst st m.st)).trans (State.deliverDone_kept _ m (worst st m.st))
  rw [State.finishMsg_of_no_coll st h, State.msg, hkept.msgs, List.find?_eq_none]
  intro n hn
  simpa using (List.mem_filter.1 hn).2

/-- No end of a message takes a number back. -/
theorem State.finishMsg_next (s : State) (m : Msg) (st : Nat) : s.xport.nextMsg ≤ (s.finishMsg m st).xport.nextMsg := by
  have hdrop : (s.dropMsg m (worst st m.st)).xport.nextMsg = s.xport.nextMsg := (s.dropMsg_kept m (worst st m.st)).next
  cases hcoll : m.coll with
  | none => rw [State.finishMsg_of_no_coll st hcoll, (State.deliverDone_kept _ _ _).next, hdrop]
  | some q =>
    have hfinish : s.finishMsg m st = (if worst st m.st = St.retryExhausted || worst st m.st = St.peerUnreachable then
        (s.dropMsg m (worst st m.st)).abortColl q (worst st m.st) else s.dropMsg m (worst st m.st)).deliverDone m (worst st m.st) := by
      rw [State.finishMsg]
      simp only [hcoll]
      rfl
    rw [hfinish, (State.deliverDone_kept _ _ _).next, ← hdrop]
    split
    · exact State.abortColl_next _ _ _
    · exact Nat.le_refl _

/-! ## Messages that start (R281, R291) -/

theorem settleSent_next (r : Sent) : r.1.xport.nextMsg ≤ (settleSent r).xport.nextMsg := by
  unfold settleSent
  split
  · exact Nat.le_refl _
  · exact State.finishMsg_next _ _ _

theorem State.pump_next (s : State) (m : Msg) : s.xport.nextMsg ≤ (s.pump m).xport.nextMsg := by
  unfold State.pump
  refine Nat.le_trans ?_ (settleSent_next _)
  split
  · split
    · exact (s.readRound_sends m).next
    · exact Nat.le_refl _
  · have hpump := s.pumpFrom_sends m.npkts m 0
    generalize s.pumpFrom m m.npkts 0 = r at hpump
    obtain ⟨v, n, e⟩ := r
    cases e with
    | none => exact (hpump.trans (State.tryLast_sends v n false)).next
    | some e => exact hpump.next

theorem State.fetchData_kept (s : State) (m : Msg) : MsgsKept s (s.fetchData m).1 := by
  unfold State.fetchData
  split
  · exact MsgsKept.refl s
  · exact .of_xport (State.devRead_mframe _ _ _ _ _ (MemFrame.refl s)).xport

/-- A message joins those outstanding, and the command that sends it is on its way. -/
def State.numbered (s : State) (m : Msg) : State :=
  let u := (s.modX (fun x => { x with msgs := x.msgs ++ [s.readyMsg m] })).nextId
  match m.origin with
  | .cmd k ord => u.setPhase k ord .flying
  | _ => u

theorem State.numbered_next (s : State) (m : Msg) : (s.numbered m).xport.nextMsg = s.xport.nextMsg + 1 := by
  have hid : ((s.modX (fun x => { x with msgs := x.msgs ++ [s.readyMsg m] })).nextId).xport.nextMsg = s.xport.nextMsg + 1 :=
    State.nextId_next _
  unfold State.numbered
  dsimp only
  split
  · rw [State.setPhase_eq]
    exact hid
  · exact hid

/-- A message with a number fetches its data and goes, or ends. -/
def State.setOff (s : State) (m : Msg) : State :=
  if s.noWay m ≠ St.ok then s.finishMsg m (s.noWay m)
  else
    let r := s.fetchData m
    if r.2.st = St.thermalAbort || statusRank r.2.st < 4 then r.1.finishMsg r.2 r.2.st else r.1.pump r.2

theorem State.beginMsg_eq (s : State) (m : Msg) : s.beginMsg m = (s.numbered m).setOff (s.readyMsg m) := rfl

theorem State.setOff_next (s : State) (m : Msg) : s.xport.nextMsg ≤ (s.setOff m).xport.nextMsg := by
  unfold State.setOff
  dsimp only
  split
  · exact State.finishMsg_next _ _ _
  · refine Nat.le_trans (Nat.le_of_eq (s.fetchData_kept m).next.symm) ?_
    split
    · exact State.finishMsg_next _ _ _
    · exact State.pump_next _ _

/-- A message that starts takes a number (R281). -/
theorem State.beginMsg_next (s : State) (m : Msg) : s.xport.nextMsg < (s.beginMsg m).xport.nextMsg := by
  rw [State.beginMsg_eq]
  refine Nat.lt_of_lt_of_le ?_ (State.setOff_next _ _)
  rw [State.numbered_next]
  exact Nat.lt_succ_self _

end Sys2Proof.Machine
end

section
/-! PROOFS. The timers of messages and collectives (R281, R283 to R285, R287, R289, R290, R313, R320 to R322). -/
namespace Sys2Proof.Machine
open Sys2Proof Sys2Proof.Safety
variable {s t : State} {m : Msg} {c : Copy} {l : List Copy} {i k q : Nat}

/-! ## Packets that go again (R284, R289) -/

theorem State.msg_id (h : s.msg i = some m) : m.id = i := by simpa using List.find?_some h

/-- A timeout halves the window of the message and may take the port out of the route. -/
theorem State.timedOut_eq {s0 : State} {m0 : Msg} {p : Nat} (h : s.timedOut m p = (s0, m0)) :
    s0 = s.missOn m.dst p ∧ m0 = { m with cwnd := max 1 (m.cwnd / 2), run := 0 } :=
  ⟨(congrArg Prod.fst h).symm, (congrArg Prod.snd h).symm⟩

/-- A copy that goes again is counted. -/
theorem State.settle_copyAgain {s1 : State} {m1 : Msg} {counted : Bool}
    (hcopy : s.copyOut m k (c.xmit + 1) ((c.port + 1) % 16) (s.msgPkt m k (c.xmit + 1)) counted = .ok (s1, m1)) :
    settleSent (s.copyAgain m k c counted) = (s1.bump R.XPORT_RETX_COUNT F.XPORT_RETX_COUNT_COUNT 1).putMsg m1 := by
  rw [State.copyAgain, hcopy]
  rfl

section
variable (hclk : s.clk.on = true) (hmsg : s.msg i = some m) (hkind : m.kind ≠ 1) (hon : s.xportOn = true)
  (hcopies : (m.pkt k).copies = c :: l)
include hclk hmsg hkind hon hcopies

/-- A packet whose RTO has passed: the message ends, or the packet goes again. -/
theorem exec_retxTimeout {s0 : State} {m0 : Msg} (hacked : (m.pkt k).acked = none) (hheld : (m.pkt k).held = false)
    (htimed : s.timedOut m c.port = (s0, m0)) :
    exec (.retxTimeout i k) s = .next (if m.retryMax + 1 ≤ (m.pkt k).sends then s0.finishMsg m0 St.retryExhausted
      else settleSent (s0.copyAgain m0 k c true)) := by
  obtain ⟨rfl, rfl⟩ := State.timedOut_eq htimed
  refine congrArg Host.Outcome.next ?_
  simp [hclk, hmsg, hkind, hcopies, hon, hacked, hheld, State.timedOut]

/-- A packet held by a NAK goes again. -/
theorem exec_nakRetryTimer (hheld : (m.pkt k).held = true) :
    exec (.nakRetryTimer i k) s = .next (settleSent (s.copyAgain (m.setPkt k { m.pkt k with held := false }) k c false)) := by
  refine congrArg Host.Outcome.next ?_
  simp only [hclk, hmsg, hcopies, hon, hheld, Bool.not_true, Bool.or_self, Bool.false_eq_true, if_false]
  exact congrArg settleSent (if_neg hkind)

end

theorem exec_retxTimeout_of_none (hclk : s.clk.on = true) (hmsg : s.msg i = none) : exec (.retxTimeout i k) s = .next s := by
  refine congrArg Host.Outcome.next ?_
  simp [hclk, hmsg]

/-! ## The last packet, coalesced ACKs, and messages that wait (R281, R283, R285, R290) -/

theorem exec_lastPacketSend {lifePassed : Bool} {s1 : State} {m1 : Msg} (hclk : s.clk.on = true) (hmsg : s.msg i = some m)
    (hon : s.xportOn = true) (hlast : s.tryLast m lifePassed = (s1, m1, none)) : exec (.lastPacketSend i lifePassed) s = .next (s1.putMsg m1) := by
  refine congrArg Host.Outcome.next ?_
  simp [hclk, hmsg, hon, hlast, settleSent]

/-- A coalesced ACK that is sent leaves its entry. -/
theorem State.flushAck_spec (s : State) (key : Nat) : (s.flushAck key).xport.coal.find? (fun e => e.1 = key) = none ∧
    (s.flushAck key).mem = s.mem ∧ (s.flushAck key).cores = s.cores := by
  unfold State.flushAck
  split
  · next hnone => exact ⟨hnone, rfl, rfl⟩
  · next x _ =>
    dsimp only
    generalize hu : s.modX (fun x => { x with coal := x.coal.filter (fun e => e.1 ≠ key) }) = u
    have hcoal : u.xport.coal.find? (fun e => e.1 = key) = none := by
      rw [← hu, List.find?_eq_none]
      intro e he
      simpa using (List.mem_filter.1 he).2
    have hmem : u.mem = s.mem := by rw [← hu]; rfl
    have hcores : u.cores = s.cores := by rw [← hu]; rfl
    generalize ackMaps x.idxs = maps
    have hsent (g : State → Nat × Nat → Packet) : Sends u (maps.foldl (fun t a => t.sendBack x.port (g t a) x.ward) u) :=
      List.foldlRecOn (motive := Sends u) _ _ (Sends.refl u) fun _ ht _ _ => ht.sendBack _ _ _
    have hgo := hsent fun t g => t.answerPkt x.pkt 5 x.ward (fun a =>
      { a with pktIndex := g.1, msgLen := g.2, xmit := 0, ece := x.ece, slow := x.slow })
    exact ⟨by rw [hgo.coal, hcoal], hgo.mem.trans hmem, hgo.cores.trans hcores⟩

/-- A message that has waited for its time on NOT_READY or BUSY ends. -/
theorem exec_msgTimeout (hclk : s.clk.on = true) (hmsg : s.msg i = some m) (hheld : m.pkts.any (fun e => e.2.held) = true)
    (hlate : ((s.loadFor m).ctx m.queue).timeoutUs * cyclesPerUs ≤ (s.loadFor m).now - m.start) :
    exec (.msgTimeout i) s = .next ((s.loadFor m).finishMsg m St.timeout) := by
  refine congrArg Host.Outcome.next ?_
  simp only [hclk, hmsg, hheld, Bool.not_true, Bool.false_eq_true, if_false, Bool.true_and, decide_eq_true hlate, if_true]

theorem State.ctxLoad_now (s : State) (q : Nat) : (s.ctxLoad q).1.now = s.now := by
  unfold State.ctxLoad
  split
  · rfl
  · have hread := (State.uRead_mframe s (s.ctxAddr q) 64 0 false (MemFrame.refl s)).now
    dsimp only
    split
    · exact hread
    · exact (State.raise_now _).trans hread

theorem State.loadFor_now (s : State) (m : Msg) : (s.loadFor m).now = s.now := by
  unfold State.loadFor
  split
  · rfl
  · exact State.ctxLoad_now _ _

theorem exec_msgContextGrant (hclk : s.clk.on = true)
    (hfind : s.xport.waitMsgs.find? (fun m => (s.loadFor m).mayBegin m) = some m) :
    exec .msgContextGrant s = .next (((s.loadFor m).modX (fun x => { x with waitMsgs := x.waitMsgs.erase m })).beginMsg m) := by
  refine congrArg Host.Outcome.next ?_
  simp only [hclk, Bool.not_true, Bool.false_eq_true, if_false, hfind]

/-! ## Probes (R313) -/

/-- From `s` to `t` only frames handed to ports, registers and events may differ. -/
def PortsOnly (s t : State) : Prop := t = { s with regs := t.regs, evt := t.evt, ports := t.ports }

theorem PortsOnly.refl (s : State) : PortsOnly s s := rfl

theorem PortsOnly.ite {b : Prop} [Decidable b] {u : State} (h : PortsOnly s t) (g : PortsOnly s u) : PortsOnly s (if b then t else u) := by
  split
  · exact h
  · exact g

theorem PortsOnly.sendPkt {p : Nat} (h : PortsOnly s t) (hp : p ≠ 16) (pkt : Packet) (w : Option Nat) : PortsOnly s (t.sendPkt p pkt w) := by
  have hport := (t.sendPkt_port hp pkt w).rest
  unfold PortsOnly at h ⊢
  generalize t.sendPkt p pkt w = v at hport ⊢
  rw [hport, h]

/-- The probes that are due leave on ports (R313). -/
theorem exec_probeTimer (s : State) : ∃ t, exec .probeTimer s = .next t ∧ PortsOnly s t := by
  refine ⟨_, rfl, PortsOnly.ite (.refl s) (PortsOnly.ite (.refl s) ?_)⟩
  refine List.foldlRecOn (motive := PortsOnly s) _ _ (.refl s) fun t ht e _ => PortsOnly.ite ?_ ht
  refine List.foldlRecOn (motive := PortsOnly s) _ _ ht fun u hu p hp => hu.sendPkt ?_ _ _
  exact Nat.ne_of_lt (List.mem_range.1 (List.mem_filter.1 hp).1)

/-! ## Collectives (R320 to R322) -/

theorem exec_collDeadline (hclk : s.clk.on = true) : exec (.collDeadline q) s =
    .next (if (s.coll q).isOpen && decide ((s.coll q).deadline ≤ s.us) then s.abortColl q St.timeout else s) := by
  refine congrArg Host.Outcome.next ?_
  simp only [hclk, Bool.not_true, Bool.false_eq_true, if_false]

/-- The end of an abort's window closes the collective with its status, whatever its commands have done. -/
theorem State.abortClosed_spec (s : State) (c : Coll) {st : Nat} (hst : st < 256)
    (ht : t = (s.collNoted q { c with isOpen := false } 0).setF (R.XPORT_COLL_STATUS q) F.XPORT_COLL_STATUS_STATUS st) :
    (t.coll q).isOpen = false ∧ t.rf (R.XPORT_COLL_STATUS q) F.XPORT_COLL_STATUS_OPEN = 0 ∧
      t.rf (R.XPORT_COLL_STATUS q) F.XPORT_COLL_STATUS_STATUS = st := by
  have hcoll := s.collNoted_coll q { c with isOpen := false } 0
  have hopen := s.collNoted_open q { c with isOpen := false } 0
  generalize s.collNoted q { c with isOpen := false } 0 = u at ht hcoll hopen
  subst ht
  refine ⟨?_, ?_, ?_⟩
  · have hkept : (u.setF (R.XPORT_COLL_STATUS q) F.XPORT_COLL_STATUS_STATUS st).coll q = u.coll q := rfl
    rw [hkept, hcoll]
  · rw [State.setF_rf_other _ _ (by decide) (by decide), hopen]
  · rw [State.setF_rf_self _ _ (by decide)]
    exact Nat.mod_eq_of_lt hst

theorem exec_abortWindowExpiry {st : Nat} (hclk : s.clk.on = true) (hopen : (s.coll q).isOpen = true)
    (habort : (s.coll q).abort = some st) : ∃ u : State, exec (.abortWindowExpiry q) s =
      .next ((u.collNoted q { s.coll q with isOpen := false } 0).setF (R.XPORT_COLL_STATUS q) F.XPORT_COLL_STATUS_STATUS st) := by
  refine ⟨((s.core (seqCore q)).issued.foldl (fun s e => s.abortCmd (seqCore q) st e) s).abortHead (seqCore q) st,
    congrArg Host.Outcome.next ?_⟩
  simp only [hclk, hopen, habort, Bool.not_true, Bool.false_eq_true, if_false]
  rfl

/-! ## The statement -/

/-- Settles O52. Each timer that is due sends what it names, or ends its message or collective; sending touches no memory, and the end of a
message takes it out before anything else is done for it. -/
theorem transportTimersComplete : Obligations.TransportTimersComplete := by
  unfold Obligations.TransportTimersComplete
  refine ⟨?_, ?_, ?_, ?_, ?_, ?_, ?_, ?_, ?_, ?_, ?_, ?_, ?_, ?_, ?_⟩
  case refine_1 => -- a packet goes again
    intro s i m k c l s0 s1 m0 m1 hclk hmsg hkind hon hcopies hacked hheld hsends htimed hcopy
    have hexec := exec_retxTimeout hclk hmsg hkind hon hcopies hacked hheld htimed
    rw [if_neg (by omega), State.settle_copyAgain hcopy] at hexec
    obtain ⟨hs0, hm0⟩ := State.timedOut_eq htimed
    refine ⟨_, hexec, rfl, hm0, ?_⟩
    exact (State.copyOut_sends hcopy).mem.trans (hs0 ▸ (s.missOn_sends _ _).mem)
  case refine_2 => -- its retries are spent
    intro s i m k c l hclk hmsg hkind hcoll hon hcopies hacked hheld hsends
    have hexec := exec_retxTimeout hclk hmsg hkind hon hcopies hacked hheld rfl
    rw [if_pos hsends] at hexec
    refine ⟨_, hexec, ?_⟩
    rw [← State.msg_id hmsg]
    exact State.finishMsg_msg_none (m := { m with cwnd := max 1 (m.cwnd / 2), run := 0 }) _ _ hcoll
  case refine_3 => -- no such message
    intro s i k hclk hmsg
    exact ⟨s, exec_retxTimeout_of_none hclk hmsg, rfl⟩
  case refine_4 => -- a held packet
    intro s i m k c l s1 m0 m1 hclk hmsg hkind hon hcopies hheld hm0 hcopy
    subst hm0
    have hexec := exec_nakRetryTimer hclk hmsg hkind hon hcopies hheld
    rw [State.settle_copyAgain hcopy] at hexec
    exact ⟨_, hexec, rfl, (State.copyOut_sends hcopy).mem⟩
  case refine_5 => -- the last packet
    intro s i m p s1 m1 hclk hmsg hon hlast
    have hsends := s.tryLast_sends m p
    rw [hlast] at hsends
    exact ⟨_, exec_lastPacketSend hclk hmsg hon hlast, rfl, hsends.mem⟩
  case refine_6 => -- coalesced ACKs
    intro s src mid hclk
    obtain ⟨hcoal, hmem, hcores⟩ := s.flushAck_spec (msgKey src mid)
    refine ⟨_, congrArg Host.Outcome.next (if_neg (by simp [hclk])), hcoal, hmem, hcores⟩
  case refine_7 => -- filter entry
    intro s src mid hclk
    exact ⟨_, congrArg Host.Outcome.next (if_neg (by simp [hclk])), rfl, rfl⟩
  case refine_8 => -- a message that waits
    intro s i m hclk hmsg hcoll hheld hlate
    rw [← s.loadFor_now m] at hlate
    refine ⟨_, exec_msgTimeout hclk hmsg hheld hlate, ?_⟩
    rw [← State.msg_id hmsg]
    exact State.finishMsg_msg_none _ _ hcoll
  case refine_9 => -- probes
    intro s
    obtain ⟨t, hexec, hports⟩ := exec_probeTimer s
    unfold PortsOnly at hports
    exact ⟨t, hexec, by rw [hports], by rw [hports], by rw [hports]⟩
  case refine_10 => -- a free context
    intro s m hclk hfind
    refine ⟨_, exec_msgContextGrant hclk hfind, rfl, ?_⟩
    have hload := (s.loadFor_kept m).next
    generalize s.loadFor m = u at hload
    have hgrant : (u.modX (fun x => { x with waitMsgs := x.waitMsgs.erase m })).xport.nextMsg = s.xport.nextMsg := hload
    have hbegin := (u.modX (fun x => { x with waitMsgs := x.waitMsgs.erase m })).beginMsg_next m
    rw [hgrant] at hbegin
    exact hbegin
  case refine_11 => -- a deadline that has passed
    intro s q hclk hopen hlate habort
    have hexec := exec_collDeadline (q := q) hclk
    rw [if_pos (by simp [hopen, hlate])] at hexec
    exact ⟨_, hexec, State.abortColl_spec hopen habort rfl⟩
  case refine_12 => -- one that has not
    intro s q hclk hearly
    have hexec := exec_collDeadline (q := q) hclk
    have hnot : ¬((s.coll q).isOpen && decide ((s.coll q).deadline ≤ s.us)) = true := by
      simp only [Bool.and_eq_true, decide_eq_true_eq]
      omega
    rw [if_neg hnot] at hexec
    exact ⟨s, hexec, rfl⟩
  case refine_13 => -- an abort by software
    intro s who q hnow hreach hopen habort
    obtain ⟨hstatus, hmsgs, hmem, -⟩ := State.abortColl_spec (st := St.aborted) hopen habort rfl
    have hexec : exec (.collAbortWrite who q) s = .next ((s.abortColl q St.aborted).answer St.ok) := exec_served hnow hreach
    generalize s.abortColl q St.aborted = u at hstatus hmsgs hmem hexec
    exact ⟨_, hexec, hstatus, hmsgs, rfl, hmem⟩
  case refine_14 => -- the window of an abort
    intro s q st hclk _ hopen habort hst
    obtain ⟨u, hexec⟩ := exec_abortWindowExpiry hclk hopen habort
    exact ⟨_, hexec, State.abortClosed_spec u (s.coll q) hst rfl⟩
  case refine_15 => -- an entry of the aborted table
    intro s cid hclk
    exact ⟨_, congrArg Host.Outcome.next (if_neg (by simp [hclk])), rfl, rfl⟩

end Sys2Proof.Machine
end

section
/-! PROOFS. The registers of a port (R355): its counters (R351, R356), its parking state (R348), and what the operations that the rows of
chapter 10 share change of the rest. -/
namespace Sys2Proof.Machine
open Sys2Proof Sys2Proof.Safety
variable {s t u : State} {p q n v a : Nat}

/-! ## Events and ports -/

theorem EvFrame.port (h : EvFrame s t) (q : Nat) : t.port q = s.port q := by rw [State.port, h.rest, State.port]

theorem EvFrame.portSt (h : EvFrame s t) (q : Nat) (f : Fld) : t.portSt q f = s.portSt q f := h.rf f (portStatus_ne_evtLoss q)

theorem State.portEvent_portSt (s : State) (p low cls src2 addr q : Nat) (f : Fld) :
    (s.portEvent p low cls src2 addr).portSt q f = s.portSt q f := (s.raise_frame _).portSt q f

/-- From `s` to `t` only events, the loss counters and registers named by `P` may differ. -/
structure NoteFrame (P : Nat → Prop) (s t : State) : Prop where
  rest : t = { s with regs := t.regs, evt := t.evt }
  regs : ∀ a, ¬P a → (∀ k, k < 3 → a ≠ R.EVT_LOSS k) → t.reg a = s.reg a

theorem NoteFrame.refl (P : Nat → Prop) (s : State) : NoteFrame P s s := ⟨rfl, fun _ _ _ => rfl⟩

theorem NoteFrame.trans {P : Nat → Prop} (h : NoteFrame P s t) (k : NoteFrame P t u) : NoteFrame P s u :=
  ⟨by rw [k.rest, h.rest], fun a ha hev => (k.regs a ha hev).trans (h.regs a ha hev)⟩

theorem NoteFrame.ite {P : Nat → Prop} {c : Prop} [Decidable c] (h : NoteFrame P s t) (k : NoteFrame P s u) :
    NoteFrame P s (if c then t else u) := by
  split
  · exact h
  · exact k

theorem NoteFrame.events {P : Nat → Prop} (h : NoteFrame P s t) (k : EvFrame t u) : NoteFrame P s u :=
  h.trans ⟨k.eq, fun a _ hev => k.regs a hev⟩

theorem NoteFrame.setReg {P : Nat → Prop} (h : NoteFrame P s t) (ha : P a) (v : W64) : NoteFrame P s (t.setReg a v) :=
  h.trans ⟨rfl, fun _ hb _ => State.setReg_reg_ne v fun e => hb (e ▸ ha)⟩

theorem NoteFrame.setF {P : Nat → Prop} (h : NoteFrame P s t) (ha : P a) (f : Fld) (x : Nat) : NoteFrame P s (t.setF a f x) :=
  h.setReg ha _

theorem NoteFrame.weaken {P Q : Nat → Prop} (h : NoteFrame P s t) (hPQ : ∀ a, P a → Q a) : NoteFrame Q s t :=
  ⟨h.rest, fun a ha hev => h.regs a (fun hP => ha (hPQ a hP)) hev⟩

theorem NoteFrame.port {P : Nat → Prop} (h : NoteFrame P s t) (q : Nat) : t.port q = s.port q := by rw [State.port, h.rest, State.port]

theorem NoteFrame.ports {P : Nat → Prop} (h : NoteFrame P s t) : t.ports = s.ports := by rw [h.rest]

theorem NoteFrame.now {P : Nat → Prop} (h : NoteFrame P s t) : t.now = s.now := by rw [h.rest]

/-! ## Counters (R351) -/

/-- A counter of a port that rolls over. -/
def portCtr (a : Nat) : Prop :=
  ∃ p n, n < 32 ∧ (a = R.PORT_RX_COUNTER p n ∨ a = R.PORT_TX_COUNTER p n ∨ a = R.PORT_PHY_COUNTER p n)

theorem portCtr_rx (p : Nat) (h : n < 32) : portCtr (R.PORT_RX_COUNTER p n) := ⟨p, n, h, .inl rfl⟩

theorem portCtr_tx (p : Nat) (h : n < 32) : portCtr (R.PORT_TX_COUNTER p n) := ⟨p, n, h, .inr (.inl rfl)⟩

theorem portCtr_phy (p : Nat) (h : n < 32) : portCtr (R.PORT_PHY_COUNTER p n) := ⟨p, n, h, .inr (.inr rfl)⟩

theorem portCtr_ne_evtLoss (h : portCtr a) (k : Nat) (_ : k < 3) : a ≠ R.EVT_LOSS k := by
  obtain ⟨p, n, hn, h⟩ := h
  unfold R.PORT_RX_COUNTER R.PORT_TX_COUNTER R.PORT_PHY_COUNTER at h
  unfold R.EVT_LOSS
  omega

/-- A register that neither a counter of a port nor an event touches. -/
def Still (a : Nat) : Prop := ¬portCtr a ∧ ∀ k, k < 3 → a ≠ R.EVT_LOSS k

/-- The registers of a port below its counters. -/
theorem still_portReg {o : Nat} (h : a = 0x19000000 + o + p / 8 * 0x40000000 + p % 8 * 0x200000) (ho : o < 0x1000) : Still a := by
  refine ⟨fun ⟨q, n, hn, hq⟩ => ?_, fun k hk => ?_⟩
  · unfold R.PORT_RX_COUNTER R.PORT_TX_COUNTER R.PORT_PHY_COUNTER at hq
    omega
  · unfold R.EVT_LOSS
    omega

theorem still_portStatus (p : Nat) : Still (R.PORT_STATUS p) := still_portReg (o := 0x108) rfl (by decide)

theorem still_portCfg (p : Nat) : Still (R.PORT_CFG p) := still_portReg (o := 0x100) rfl (by decide)

/-- A count, and the event of its top bit. -/
theorem State.portCount_events (s : State) (p a n : Nat) :
    EvFrame (s.setReg a (setFld (s.reg a) 0 48 (fld (s.reg a) 0 48 + n))) (s.portCount p a n) := by
  unfold State.portCount
  exact (EvFrame.refl _).ite ((EvFrame.refl _).raise _)

theorem NoteFrame.portCount {P : Nat → Prop} (h : NoteFrame P s t) (ha : P a) (p n : Nat) : NoteFrame P s (t.portCount p a n) :=
  (h.setReg ha _).events (t.portCount_events p a n)

theorem State.portCount_self (s : State) (p n : Nat) (ha : portCtr a) :
    fld ((s.portCount p a n).reg a) 0 48 = (fld (s.reg a) 0 48 + n) % 2 ^ 48 := by
  rw [(s.portCount_events p a n).regs a (portCtr_ne_evtLoss ha), State.setReg_reg_self, fld_setFld_self _ _ (by decide)]

theorem State.portCount_ne {b : Nat} (s : State) (p n : Nat) (hb : b ≠ a) (hev : ∀ k, k < 3 → b ≠ R.EVT_LOSS k) :
    (s.portCount p a n).reg b = s.reg b := by
  rw [(s.portCount_events p a n).regs b hev, State.setReg_reg_ne _ hb]

theorem State.rxCount_self (s : State) (p v : Nat) (hn : n < 32) :
    fld ((s.rxCount p n v).reg (R.PORT_RX_COUNTER p n)) 0 48 = (fld (s.reg (R.PORT_RX_COUNTER p n)) 0 48 + v) % 2 ^ 48 :=
  s.portCount_self p v (portCtr_rx p hn)

theorem State.txCount_self (s : State) (p v : Nat) (hn : n < 32) :
    fld ((s.txCount p n v).reg (R.PORT_TX_COUNTER p n)) 0 48 = (fld (s.reg (R.PORT_TX_COUNTER p n)) 0 48 + v) % 2 ^ 48 :=
  s.portCount_self p v (portCtr_tx p hn)

theorem State.phyCount_self (s : State) (p v : Nat) (hn : n < 32) :
    fld ((s.phyCount p n v).reg (R.PORT_PHY_COUNTER p n)) 0 48 = (fld (s.reg (R.PORT_PHY_COUNTER p n)) 0 48 + v) % 2 ^ 48 :=
  s.portCount_self p v (portCtr_phy p hn)

/-- The other counters of the group stand. -/
theorem State.rxCount_other {m : Nat} (s : State) (p v : Nat) (hm : m < 32) (h : m ≠ n) :
    (s.rxCount p n v).reg (R.PORT_RX_COUNTER p m) = s.reg (R.PORT_RX_COUNTER p m) := by
  refine s.portCount_ne p v ?_ (portCtr_ne_evtLoss (portCtr_rx p hm))
  unfold R.PORT_RX_COUNTER
  omega

theorem State.txCount_other {m : Nat} (s : State) (p v : Nat) (hm : m < 32) (h : m ≠ n) :
    (s.txCount p n v).reg (R.PORT_TX_COUNTER p m) = s.reg (R.PORT_TX_COUNTER p m) := by
  refine s.portCount_ne p v ?_ (portCtr_ne_evtLoss (portCtr_tx p hm))
  unfold R.PORT_TX_COUNTER
  omega

theorem State.phyCount_other {m : Nat} (s : State) (p v : Nat) (hm : m < 32) (h : m ≠ n) :
    (s.phyCount p n v).reg (R.PORT_PHY_COUNTER p m) = s.reg (R.PORT_PHY_COUNTER p m) := by
  refine s.portCount_ne p v ?_ (portCtr_ne_evtLoss (portCtr_phy p hm))
  unfold R.PORT_PHY_COUNTER
  omega

theorem NoteFrame.rxCount (h : NoteFrame portCtr s t) (p v : Nat) (hn : n < 32) : NoteFrame portCtr s (t.rxCount p n v) :=
  h.portCount (portCtr_rx p hn) p v

theorem NoteFrame.txCount (h : NoteFrame portCtr s t) (p v : Nat) (hn : n < 32) : NoteFrame portCtr s (t.txCount p n v) :=
  h.portCount (portCtr_tx p hn) p v

theorem NoteFrame.phyCount (h : NoteFrame portCtr s t) (p v : Nat) (hn : n < 32) : NoteFrame portCtr s (t.phyCount p n v) :=
  h.portCount (portCtr_phy p hn) p v

theorem State.rxCount_frame (s : State) (p v : Nat) (hn : n < 32) : NoteFrame portCtr s (s.rxCount p n v) := (NoteFrame.refl _ s).rxCount p v hn

theorem State.txCount_frame (s : State) (p v : Nat) (hn : n < 32) : NoteFrame portCtr s (s.txCount p n v) := (NoteFrame.refl _ s).txCount p v hn

theorem State.phyCount_frame (s : State) (p v : Nat) (hn : n < 32) : NoteFrame portCtr s (s.phyCount p n v) := (NoteFrame.refl _ s).phyCount p v hn

/-- What counts leave alone. -/
theorem NoteFrame.rf_still (h : NoteFrame portCtr s t) (f : Fld) (ha : Still a) : t.rf a f = s.rf a f := by
  rw [State.rf, h.regs a ha.1 ha.2, State.rf]

theorem NoteFrame.portSt (h : NoteFrame portCtr s t) (q : Nat) (f : Fld) : t.portSt q f = s.portSt q f := h.rf_still f (still_portStatus q)

theorem NoteFrame.portCfg (h : NoteFrame portCtr s t) (q : Nat) (f : Fld) : t.portCfg q f = s.portCfg q f := h.rf_still f (still_portCfg q)

/-! ## PORT_STATUS -/

theorem State.setPortSt_self {f : Fld} (s : State) (p x : Nat) (hf : f.lsb + f.width ≤ 64) :
    (s.setPortSt p f x).portSt p f = x % 2 ^ f.width := State.setF_rf_self _ _ hf

theorem State.setPortSt_other {f g : Fld} (s : State) (p x : Nat) (hg : g.lsb + g.width ≤ 64)
    (hd : g.lsb + g.width ≤ f.lsb ∨ f.lsb + f.width ≤ g.lsb) : (s.setPortSt p f x).portSt p g = s.portSt p g :=
  State.setF_rf_other _ _ hg hd

theorem portStatus_inj (h : R.PORT_STATUS p = R.PORT_STATUS q) : p = q := by
  unfold R.PORT_STATUS at h
  omega

theorem State.setPortSt_ne (s : State) (f g : Fld) (x : Nat) (h : q ≠ p) : (s.setPortSt p f x).portSt q g = s.portSt q g :=
  State.setF_rf_ne f g x fun e => h (portStatus_inj e)

theorem State.setPortSt_frame (s : State) (p : Nat) (f : Fld) (x : Nat) : NoteFrame (· = R.PORT_STATUS p) s (s.setPortSt p f x) :=
  (NoteFrame.refl (· = R.PORT_STATUS p) s).setF rfl f x

/-- A counter is not PORT_STATUS. -/
theorem portCtr_ne_portStatus (ha : portCtr a) (q : Nat) : a ≠ R.PORT_STATUS q := fun e => (still_portStatus q).1 (e ▸ ha)

/-- What a change of PORT_STATUS leaves of the counters. -/
theorem NoteFrame.ctr (h : NoteFrame (· = R.PORT_STATUS p) s t) (ha : portCtr a) : t.reg a = s.reg a :=
  h.regs a (portCtr_ne_portStatus ha p) (portCtr_ne_evtLoss ha)

/-! ## The parking state (R348) -/

/-- A parking state, and PARK_CHANGE. -/
theorem State.setPark_events (s : State) (p x : Nat) : EvFrame (s.setPortSt p F.PORT_STATUS_PARK_STATE x) (s.setPark p x) := by
  unfold State.setPark
  exact ((EvFrame.refl _).raise _).ite (EvFrame.refl _)

theorem State.setPark_frame (s : State) (p x : Nat) : NoteFrame (· = R.PORT_STATUS p) s (s.setPark p x) :=
  (s.setPortSt_frame p _ x).events (s.setPark_events p x)

@[simp] theorem State.setPark_port (s : State) (p x q : Nat) : (s.setPark p x).port q = s.port q := (s.setPark_frame p x).port q

@[simp] theorem State.phyCount_port (s : State) (p n v q : Nat) : (s.phyCount p n v).port q = s.port q := by
  rw [State.phyCount, (s.portCount_events p _ v).port, State.port, State.setReg_ports, State.port]

theorem State.setPark_parkState (s : State) (p : Nat) {x : Nat} (hx : x < 4) : (s.setPark p x).portSt p F.PORT_STATUS_PARK_STATE = x := by
  rw [(s.setPark_events p x).portSt, State.setPortSt_self _ _ _ (by decide)]
  exact Nat.mod_eq_of_lt hx

theorem State.setPark_portSt {g : Fld} (s : State) (p x : Nat) (hg : g.lsb + g.width ≤ 64) (hd : g.lsb + g.width ≤ 3 ∨ 5 ≤ g.lsb) :
    (s.setPark p x).portSt p g = s.portSt p g := by
  rw [(s.setPark_events p x).portSt, State.setPortSt_other _ _ _ hg hd]

theorem State.setPark_portSt_ne (s : State) (x : Nat) (g : Fld) (h : q ≠ p) : (s.setPark p x).portSt q g = s.portSt q g := by
  rw [(s.setPark_events p x).portSt, State.setPortSt_ne _ _ _ _ h]

theorem State.phyCount_portSt (s : State) (p v q : Nat) (f : Fld) (hn : n < 32) : (s.phyCount p n v).portSt q f = s.portSt q f :=
  (s.phyCount_frame p v hn).portSt q f

/-- A frame's tag comes from PORT_CFG (R336). -/
theorem State.parkTx_congr (h : t.reg (R.PORT_CFG p) = s.reg (R.PORT_CFG p)) (typ seq : Nat) : t.parkTx p typ seq = s.parkTx p typ seq := by
  have hcfg : ∀ f, t.portCfg p f = s.portCfg p f := fun f => by rw [State.portCfg, State.rf, h, State.portCfg, State.rf]
  have htag : t.vlanTag p = s.vlanTag p := by rw [State.vlanTag, hcfg, hcfg, hcfg, State.vlanTag]
  rw [State.parkTx, State.frameOf, htag, State.parkTx, State.frameOf]

@[simp] theorem State.setPark_parkTx (s : State) (p x typ seq : Nat) : (s.setPark p x).parkTx p typ seq = s.parkTx p typ seq := by
  refine State.parkTx_congr ((s.setPark_frame p x).regs _ ?_ (still_portCfg p).2) typ seq
  unfold R.PORT_CFG R.PORT_STATUS
  omega

theorem State.parkFrame_port (s : State) (p typ seq : Nat) :
    (s.parkFrame p typ seq).port p = { s.port p with txq := (s.port p).txq ++ [s.parkTx p typ seq] } := s.setPort_port_self p _

theorem State.parkFrame_portSt (s : State) (p typ seq q : Nat) (f : Fld) : (s.parkFrame p typ seq).portSt q f = s.portSt q f := rfl

theorem State.parkFull_port (s : State) (p : Nat) : (s.parkFull p).port p =
    { s.port p with lowWindows := 0, reqSeq := none, lanesIdle := false, lanesLocked := true, wakes := 0, wakeAcked := false,
                    missRun := [], capKept := false } := by
  rw [State.parkFull, State.setPark_port, State.setPort_port_self]

theorem State.parkFull_parkState (s : State) (p : Nat) : (s.parkFull p).portSt p F.PORT_STATUS_PARK_STATE = 0 :=
  State.setPark_parkState _ _ (by decide)

theorem State.parkNow_port (s : State) (p : Nat) : (s.parkNow p).port p =
    { s.port p with lanesIdle := true, lanesLocked := false, reqSeq := none, missRun := [] } := by
  rw [State.parkNow, State.phyCount_port, State.setPark_port, State.setPort_port_self]

theorem State.parkNow_parkState (s : State) (p : Nat) : (s.parkNow p).portSt p F.PORT_STATUS_PARK_STATE = 2 := by
  rw [State.parkNow, State.phyCount_portSt _ _ _ _ _ (by decide), State.setPark_parkState _ _ (by decide)]

theorem State.parkNow_parks (s : State) (p : Nat) : fld ((s.parkNow p).reg (R.PORT_PHY_COUNTER p 14)) 0 48 =
    (fld (s.reg (R.PORT_PHY_COUNTER p 14)) 0 48 + 1) % 2 ^ 48 := by
  rw [State.parkNow, State.phyCount_self _ _ _ (by decide), (State.setPark_frame _ p 2).ctr (portCtr_phy p (by decide))]
  rfl

theorem State.wakeLanes_port (s : State) (p : Nat) : (s.wakeLanes p).port p =
    { s.port p with lanesIdle := false, lanesLocked := false, wakeAcked := false } := by
  rw [State.wakeLanes, State.phyCount_port, State.setPark_port, State.setPort_port_self]

theorem State.wakeLanes_parkState (s : State) (p : Nat) : (s.wakeLanes p).portSt p F.PORT_STATUS_PARK_STATE = 3 := by
  rw [State.wakeLanes, State.phyCount_portSt _ _ _ _ _ (by decide), State.setPark_parkState _ _ (by decide)]

theorem State.wakeLanes_wakes (s : State) (p : Nat) : fld ((s.wakeLanes p).reg (R.PORT_PHY_COUNTER p 15)) 0 48 =
    (fld (s.reg (R.PORT_PHY_COUNTER p 15)) 0 48 + 1) % 2 ^ 48 := by
  rw [State.wakeLanes, State.phyCount_self _ _ _ (by decide), (State.setPark_frame _ p 3).ctr (portCtr_phy p (by decide))]
  rfl

theorem PortTurn.parkNow (h : PortTurn p s t) : PortTurn p s (t.parkNow p) := by
  unfold State.parkNow
  exact ((h.setPort_kept (by rfl)).setPark _ _).phyCount _ _ _

theorem State.parkCheck_of_calm (h : s.wakeCond p = false) : s.parkCheck p = s := by
  rw [State.parkCheck, h, Bool.not_false, if_pos rfl]

theorem State.answerWake_of_owed (h : (s.port p).wakeOwed = some q) :
    s.answerWake p = (s.setPort p { s.port p with wakeOwed := none }).parkFrame p 6 q := by
  rw [State.answerWake, h]

end Sys2Proof.Machine
end

section
/-! PROOFS. What frames that return to the transport reach of other ports (R314, R341), the routes of a port (R340 to R342), and a link that
goes down (R341). -/
namespace Sys2Proof.Machine
open Sys2Proof Sys2Proof.Safety
variable {s t u : State} {p q lo sub : Nat} {lane : Option Nat} {align : Bool}

/-! ## Frames handed to other ports -/

/-- From `s` to `t` frames may have been handed to ports, which may have left PARKING or PARKED: of PORT_STATUS only bits `lo` to 4 may
differ, and of the other registers only WAKES and the loss counters. -/
structure HandKept (lo : Nat) (s t : State) : Prop where
  nv : t.nv = s.nv
  retiming : ∀ q, (t.port q).retiming = (s.port q).retiming
  status : ∀ q (f : Fld), f.lsb + f.width ≤ 64 → f.lsb + f.width ≤ lo ∨ 5 ≤ f.lsb → t.portSt q f = s.portSt q f
  full : ∀ q, s.parkState q = 0 → t.parkState q = 0
  ctr : ∀ a, portCtr a → (∀ q, a ≠ R.PORT_PHY_COUNTER q 15) → t.reg a = s.reg a

theorem HandKept.refl (lo : Nat) (s : State) : HandKept lo s s :=
  ⟨rfl, fun _ => rfl, fun _ _ _ _ => rfl, fun _ h => h, fun _ _ _ => rfl⟩

theorem HandKept.trans (h : HandKept lo s t) (k : HandKept lo t u) : HandKept lo s u where
  nv := k.nv.trans h.nv
  retiming q := (k.retiming q).trans (h.retiming q)
  status q f hf hlo := (k.status q f hf hlo).trans (h.status q f hf hlo)
  full q hq := k.full q (h.full q hq)
  ctr a ha hw := (k.ctr a ha hw).trans (h.ctr a ha hw)

/-- A narrower change of PORT_STATUS. -/
theorem HandKept.mono {lo' : Nat} (h : HandKept lo s t) (hlo : lo' ≤ lo) : HandKept lo' s t :=
  ⟨h.nv, h.retiming, fun q f hf hd => h.status q f hf (by omega), h.full, h.ctr⟩

theorem HandKept.events (h : HandKept lo s t) (k : EvFrame t u) : HandKept lo s u :=
  h.trans ⟨by rw [k.rest], fun q => by rw [k.port], fun q f _ _ => k.portSt q f, fun q hq => (k.portSt q _).trans hq,
    fun a ha _ => k.regs a (portCtr_ne_evtLoss ha)⟩

theorem HandKept.modX (h : HandKept lo s t) (f : Xport → Xport) : HandKept lo s (t.modX f) :=
  h.trans ⟨rfl, fun _ => rfl, fun _ _ _ _ => rfl, fun _ hq => hq, fun _ _ _ => rfl⟩

theorem HandKept.setPort (h : HandKept lo s t) {x : Port} (hx : x.retiming = (t.port p).retiming) : HandKept lo s (t.setPort p x) := by
  refine h.trans ⟨rfl, fun q => ?_, fun _ _ _ _ => rfl, fun _ hq => hq, fun _ _ _ => rfl⟩
  by_cases hq : q = p
  · rw [hq, State.setPort_port_self, hx]
  · rw [State.setPort_port_ne _ _ hq]

theorem HandKept.pushFrame (h : HandKept lo s t) (p : Nat) (f : TxFrame) : HandKept lo s (t.pushFrame p f) := by
  unfold State.pushFrame
  exact h.setPort rfl

theorem HandKept.parkFrame (h : HandKept lo s t) (p typ seq : Nat) : HandKept lo s (t.parkFrame p typ seq) := h.pushFrame p _

theorem HandKept.phyCount (h : HandKept lo s t) (p v : Nat) : HandKept lo s (t.phyCount p 15 v) := by
  have k := t.phyCount_frame (n := 15) p v (by decide)
  exact h.trans ⟨by rw [k.rest], fun q => by rw [k.port], fun q f _ _ => k.portSt q f, fun q hq => (k.portSt q _).trans hq,
    fun a ha hw => State.portCount_ne _ _ _ (hw p) (portCtr_ne_evtLoss ha)⟩

section
variable (hp : s.parkState p ≠ 0)
include hp

/-- A port that is not FULL changes its parking state. -/
theorem HandKept.setPark (h : HandKept 3 s t) (x : Nat) : HandKept 3 s (t.setPark p x) where
  nv := by rw [(t.setPark_frame p x).rest, h.nv]
  retiming q := by rw [State.setPark_port, h.retiming]
  status q f hf hlo := by
    rw [← h.status q f hf hlo]
    by_cases hq : q = p
    · rw [hq, State.setPark_portSt _ _ _ hf hlo]
    · rw [State.setPark_portSt_ne _ _ _ hq]
  full q hq := by
    have hne : q ≠ p := fun e => hp (by rw [← e, hq])
    rw [State.parkState, State.setPark_portSt_ne _ _ _ hne]
    exact h.full q hq
  ctr a ha hw := ((t.setPark_frame p x).ctr ha).trans (h.ctr a ha hw)

theorem HandKept.parkFull (h : HandKept 3 s t) : HandKept 3 s (t.parkFull p) := by
  unfold State.parkFull
  exact HandKept.setPark hp (h.setPort (by rfl)) 0

theorem HandKept.startWake (h : HandKept 3 s t) : HandKept 3 s (t.startWake p) := by
  unfold State.startWake State.wakeLanes
  exact ((HandKept.setPark hp ((h.setPort (by rfl)).setPort (by rfl)) 3).phyCount p 1).parkFrame p 5 _

end

theorem HandKept.answerWake (h : HandKept lo s t) (p : Nat) : HandKept lo s (t.answerWake p) := by
  unfold State.answerWake
  split
  · exact (h.setPort (by rfl)).parkFrame _ _ _
  · exact h

theorem State.parkCheck_handKept (s : State) (p : Nat) : HandKept 3 s (s.parkCheck p) := by
  unfold State.parkCheck
  split
  · exact .refl 3 s
  · split
    case h_1 hst => exact (HandKept.parkFull (by rw [hst]; decide) (.refl 3 s)).answerWake p
    case h_2 hst => exact HandKept.startWake (by rw [hst]; decide) (.refl 3 s)
    case h_3 => exact .refl 3 s

theorem State.handFrame_handKept (s : State) (p : Nat) (f : TxFrame) : HandKept 3 s (s.handFrame p f) :=
  ((HandKept.refl 3 s).pushFrame p f).trans ((s.pushFrame p f).parkCheck_handKept p)

theorem State.sendPkt_handKept (s : State) (p : Nat) (pkt : Packet) (w : Option Nat) : HandKept 3 s (s.sendPkt p pkt w) := by
  unfold State.sendPkt
  split
  · exact .refl 3 s
  · split
    · exact (HandKept.refl 3 s).modX _
    · exact s.handFrame_handKept p _

theorem State.respray_handKept (s : State) (p : Nat) (f : TxFrame) : HandKept 3 s (s.respray p f) := by
  unfold State.respray
  split
  · exact .refl 3 s
  · split
    · exact .refl 3 s
    · exact ((HandKept.refl 3 s).modX _).trans (State.sendPkt_handKept _ _ _ _)

theorem State.returnFrames_handKept (s : State) (p : Nat) : HandKept 3 s (s.returnFrames p) := by
  unfold State.returnFrames
  exact List.foldlRecOn (motive := HandKept 3 s) _ _ ((HandKept.refl 3 s).setPort rfl) fun _ h f _ => h.trans (State.respray_handKept _ p f)

/-! ## The routes of a port -/

/-- USABLE as it is set, and NO_ROUTE for what the routes lose. -/
theorem State.rerouted_events (s : State) (f : State → State) : EvFrame (f s) (s.rerouted f) := State.noRoutes_frame _ _

theorem State.setUsable_handKept (s : State) (p x : Nat) : HandKept 2 s (s.setPortSt p F.PORT_STATUS_USABLE x) where
  nv := by rw [State.setPortSt, State.setF_nv]
  retiming q := by rw [(s.setPortSt_frame p _ x).port]
  status q f hf hlo := by
    by_cases hq : q = p
    · rw [hq, State.setPortSt_other _ _ _ hf (hlo.imp id (Nat.le_trans (by decide)))]
    · rw [State.setPortSt_ne _ _ _ _ hq]
  full q hq := by
    by_cases hqp : q = p
    · rw [← hq, hqp, State.parkState, State.setPortSt_other _ _ _ (by decide) (by decide), State.parkState]
    · rw [← hq, State.parkState, State.setPortSt_ne _ _ _ _ hqp, State.parkState]
  ctr _ ha _ := (s.setPortSt_frame p _ x).ctr ha

/-- A port's place in the routes is looked at anew: USABLE says whether it belongs there. -/
theorem State.refreshPort_cases (s : State) (p : Nat) :
    (s.refreshPort p = s ∧ s.portSt p F.PORT_STATUS_USABLE = b2n (s.portGood p)) ∨
    (s.portGood p = true ∧ EvFrame (s.setPortSt p F.PORT_STATUS_USABLE 1) (s.refreshPort p)) ∨
    (s.portGood p = false ∧ ∃ v, EvFrame (s.setPortSt p F.PORT_STATUS_USABLE 0) v ∧ s.refreshPort p = v.returnFrames p) := by
  have hlt : s.portSt p F.PORT_STATUS_USABLE < 2 := s.rf_lt _ _
  unfold State.refreshPort
  cases s.portGood p <;> by_cases hwas : s.portSt p F.PORT_STATUS_USABLE = 1
  · exact .inr (.inr ⟨rfl, _, s.rerouted_events (fun s => s.setPortSt p F.PORT_STATUS_USABLE 0), by simp [hwas, b2n]⟩)
  · exact .inl ⟨by simp [hwas], by change _ = 0; omega⟩
  · exact .inl ⟨by simp [hwas], hwas⟩
  · refine .inr (.inl ⟨rfl, ?_⟩)
    simp only [hwas]
    exact s.rerouted_events fun s => s.setPortSt p F.PORT_STATUS_USABLE 1

theorem State.refreshPort_usable (s : State) (p : Nat) : (s.refreshPort p).portSt p F.PORT_STATUS_USABLE = b2n (s.portGood p) := by
  rcases s.refreshPort_cases p with ⟨he, hb⟩ | ⟨hgood, hev⟩ | ⟨hgood, v, hev, he⟩
  · rw [he, hb]
  · rw [hev.portSt, State.setPortSt_self _ _ _ (by decide), hgood]
    rfl
  · rw [he, (v.returnFrames_handKept p).status _ _ (by decide) (by decide), hev.portSt, State.setPortSt_self _ _ _ (by decide), hgood]
    rfl

theorem State.refreshPort_kept (s : State) (p : Nat) : HandKept 2 s (s.refreshPort p) := by
  rcases s.refreshPort_cases p with ⟨he, _⟩ | ⟨_, hev⟩ | ⟨_, v, hev, he⟩
  · rw [he]
    exact .refl 2 s
  · exact (s.setUsable_handKept p 1).events hev
  · rw [he]
    exact ((s.setUsable_handKept p 0).events hev).trans ((v.returnFrames_handKept p).mono (by decide))

/-- A port that belongs in the routes returns no frames. -/
theorem State.refreshPort_ports (h : s.portGood p = true) : (s.refreshPort p).ports = s.ports := by
  rcases s.refreshPort_cases p with ⟨he, _⟩ | ⟨_, hev⟩ | ⟨hbad, _⟩
  · rw [he]
  · rw [hev.rest]
    exact (s.setPortSt_frame p F.PORT_STATUS_USABLE 1).ports
  · rw [h] at hbad
    cases hbad

/-- A link that is up puts its port into the routes where nothing keeps it out (R340 to R344). -/
theorem State.portGood_of_up {x : Port} (hport : s.port p = x) (hup : s.linkUp p sub = true) (hsub : sub < 2) (hhold : x.holding sub = false)
    (hstorm : s.portSt p F.PORT_STATUS_STORM = 0) (hloop : s.rf (R.PORT_LINK_CTRL p) F.PORT_LINK_CTRL_LOOPBACK = 0)
    (hretime : x.retiming = false) : s.portGood p = true := by
  have hlink : ((s.linkUp p 0 && !x.holdA) || (s.linkUp p 1 && !x.holdB)) = true := by
    interval_cases sub <;> simp_all [Port.holding]
  rw [State.portGood, hport, hlink, hretime, decide_eq_true hstorm, decide_eq_true hloop]
  rfl

theorem State.setPort_portSt (s : State) (p : Nat) (x : Port) (q : Nat) (g : Fld) : (s.setPort p x).portSt q g = s.portSt q g := rfl

/-- Without a link it does not belong there (R329). -/
theorem State.portGood_of_down (hdown : s.linkUp p 0 = false) (hdown' : s.linkUp p 1 = false) : s.portGood p = false := by
  rw [State.portGood, hdown, hdown']
  rfl

theorem State.linkUp_lt (h : s.linkUp p sub = true) : sub < 2 := by
  simp only [State.linkUp, State.hasSub, Bool.and_eq_true, Bool.or_eq_true, decide_eq_true_eq] at h
  omega

/-! ## A link that goes down (R341) -/

/-- The lanes that are left of those with clock recovery. -/
def lanesLeft (ok : Nat) : Option Nat → Nat
  | some l => if bitAt ok l then ok - 2 ^ l else ok
  | none => ok

/-- The link is down, and its lane has no clock recovery. -/
def State.linkDark (s : State) (p sub : Nat) (lane : Option Nat) : State :=
  (s.setPortSt p (linkFld sub) 0).setPortSt p F.PORT_STATUS_LANE_OK (lanesLeft (s.portSt p F.PORT_STATUS_LANE_OK) lane)

/-- Its counts. -/
def State.linkCounts (s : State) (p : Nat) (align : Bool) : State :=
  if align then (s.phyCount p 12 1).phyCount p 13 1 else s.phyCount p 12 1

/-- The port before its routes are looked at. -/
def State.linkLost (s : State) (p sub : Nat) (lane : Option Nat) (align : Bool) : State :=
  (((s.linkDark p sub lane).setPort p (((s.linkDark p sub lane).port p).setHold sub false)).linkCounts p align).parkFull p

/-- What a link that goes down leaves of its port, beside its place in the routes. -/
structure LinkLost (p sub : Nat) (lane : Option Nat) (align : Bool) (s t : State) : Prop where
  nv : t.nv = s.nv
  link : t.portSt p (linkFld sub) = 0
  lanes : t.portSt p F.PORT_STATUS_LANE_OK = lanesLeft (s.portSt p F.PORT_STATUS_LANE_OK) lane
  park : t.portSt p F.PORT_STATUS_PARK_STATE = 0
  downs : fld (t.reg (R.PORT_PHY_COUNTER p 12)) 0 48 = (fld (s.reg (R.PORT_PHY_COUNTER p 12)) 0 48 + 1) % 2 ^ 48
  aligns : align = true → fld (t.reg (R.PORT_PHY_COUNTER p 13)) 0 48 = (fld (s.reg (R.PORT_PHY_COUNTER p 13)) 0 48 + 1) % 2 ^ 48
  frags : t.reg (R.PORT_RX_COUNTER p 17) = s.reg (R.PORT_RX_COUNTER p 17)

theorem lanesLeft_le (ok : Nat) (lane : Option Nat) : lanesLeft ok lane ≤ ok := by
  unfold lanesLeft
  split
  · split
    · exact Nat.sub_le _ _
    · exact Nat.le_refl ok
  · exact Nat.le_refl ok

/-- A lane that failed has no clock recovery. -/
theorem bitAt_lanesLeft {ok l : Nat} : bitAt (lanesLeft ok (some l)) l = false := by
  by_cases h : bitAt ok l = true
  · simp only [lanesLeft, h, if_true]
    simp only [bitAt, decide_eq_true_eq, Nat.shiftRight_eq_div_pow, decide_eq_false_iff_not] at h ⊢
    have hle : 2 ^ l ≤ ok := by
      by_contra hlt
      rw [Nat.div_eq_of_lt (by omega)] at h
      exact absurd h (by decide)
    have hsub := Nat.sub_mul_div ok (2 ^ l) 1
    rw [Nat.mul_one] at hsub
    omega
  · simp [lanesLeft, h]

theorem linkFld_le (sub : Nat) : (linkFld sub).lsb + (linkFld sub).width ≤ 2 := by
  unfold linkFld
  split <;> decide

theorem State.linkCounts_frame (s : State) (p : Nat) (align : Bool) : NoteFrame portCtr s (s.linkCounts p align) :=
  NoteFrame.ite ((s.phyCount_frame p 1 (by decide)).phyCount p 1 (by decide)) (s.phyCount_frame p 1 (by decide))

theorem State.parkFull_portSt {g : Fld} (s : State) (p : Nat) (hg : g.lsb + g.width ≤ 64) (hd : g.lsb + g.width ≤ 3 ∨ 5 ≤ g.lsb) :
    (s.parkFull p).portSt p g = s.portSt p g := by
  rw [State.parkFull, State.setPark_portSt _ _ _ hg hd]
  rfl

theorem State.parkFull_ctr {a : Nat} (s : State) (p : Nat) (ha : portCtr a) : (s.parkFull p).reg a = s.reg a := by
  rw [State.parkFull, (State.setPark_frame _ p 0).ctr ha]
  rfl

theorem LinkLost.kept {lane : Option Nat} (h : LinkLost p sub lane align s t) (k : HandKept 2 t u) : LinkLost p sub lane align s u where
  nv := k.nv.trans h.nv
  link := (k.status p _ (by have := linkFld_le sub; omega) (.inl (linkFld_le sub))).trans h.link
  lanes := (k.status p _ (by decide) (by decide)).trans h.lanes
  park := k.full p h.park
  downs := by
    rw [k.ctr _ (portCtr_phy p (by decide)) fun q => by unfold R.PORT_PHY_COUNTER; omega, h.downs]
  aligns ha := by
    rw [k.ctr _ (portCtr_phy p (by decide)) fun q => by unfold R.PORT_PHY_COUNTER; omega, h.aligns ha]
  frags := by
    rw [k.ctr _ (portCtr_rx p (by decide)) fun q => by unfold R.PORT_RX_COUNTER R.PORT_PHY_COUNTER; omega, h.frags]

theorem State.linkLost_portSt {g : Fld} (s : State) (p sub : Nat) (lane : Option Nat) (align : Bool) (hg : g.lsb + g.width ≤ 64)
    (hd : g.lsb + g.width ≤ 3 ∨ 5 ≤ g.lsb) : (s.linkLost p sub lane align).portSt p g =
      (s.linkDark p sub lane).portSt p g := by
  rw [State.linkLost, State.parkFull_portSt _ _ hg hd, (State.linkCounts_frame _ p align).portSt, State.setPort_portSt]

theorem State.linkDark_frame (s : State) (p sub : Nat) (lane : Option Nat) : NoteFrame (· = R.PORT_STATUS p) s (s.linkDark p sub lane) :=
  (s.setPortSt_frame p _ 0).trans (State.setPortSt_frame _ p _ _)

theorem State.linkDark_link (s : State) (p sub : Nat) (lane : Option Nat) : (s.linkDark p sub lane).portSt p (linkFld sub) = 0 := by
  have hle := linkFld_le sub
  rw [State.linkDark, State.setPortSt_other _ _ _ (by omega) (.inl (Nat.le_trans hle (by decide))),
    State.setPortSt_self _ _ _ (by omega), Nat.zero_mod]

theorem State.linkDark_lanes (s : State) (p sub : Nat) (lane : Option Nat) :
    (s.linkDark p sub lane).portSt p F.PORT_STATUS_LANE_OK = lanesLeft (s.portSt p F.PORT_STATUS_LANE_OK) lane := by
  rw [State.linkDark, State.setPortSt_self _ _ _ (by decide)]
  exact Nat.mod_eq_of_lt (Nat.lt_of_le_of_lt (lanesLeft_le _ _) (s.rf_lt _ _))

theorem State.linkCounts_downs (s : State) (p : Nat) (align : Bool) : fld ((s.linkCounts p align).reg (R.PORT_PHY_COUNTER p 12)) 0 48 =
    (fld (s.reg (R.PORT_PHY_COUNTER p 12)) 0 48 + 1) % 2 ^ 48 := by
  cases align
  · exact s.phyCount_self p 1 (by decide)
  · exact (congrArg (fld · 0 48) (State.phyCount_other _ p 1 (by decide) (by decide))).trans (s.phyCount_self p 1 (by decide))

theorem State.linkCounts_aligns (s : State) (p : Nat) : fld ((s.linkCounts p true).reg (R.PORT_PHY_COUNTER p 13)) 0 48 =
    (fld (s.reg (R.PORT_PHY_COUNTER p 13)) 0 48 + 1) % 2 ^ 48 := by
  rw [← s.phyCount_other (n := 12) p 1 (by decide) (by decide)]
  exact State.phyCount_self _ p 1 (by decide)

/-- They are not among the receive counters. -/
theorem State.linkCounts_rx {n : Nat} (s : State) (p : Nat) (align : Bool) (hn : n < 32) :
    (s.linkCounts p align).reg (R.PORT_RX_COUNTER p n) = s.reg (R.PORT_RX_COUNTER p n) := by
  have hne (m : Nat) : R.PORT_RX_COUNTER p n ≠ R.PORT_PHY_COUNTER p m := by
    unfold R.PORT_RX_COUNTER R.PORT_PHY_COUNTER
    omega
  have hone (u : State) (m : Nat) : (u.phyCount p m 1).reg (R.PORT_RX_COUNTER p n) = u.reg (R.PORT_RX_COUNTER p n) :=
    u.portCount_ne p 1 (hne m) (portCtr_ne_evtLoss (portCtr_rx p hn))
  cases align
  · exact hone s 12
  · exact (hone _ 13).trans (hone s 12)

theorem State.linkLost_lost (s : State) (p sub : Nat) (lane : Option Nat) (align : Bool) :
    LinkLost p sub lane align s (s.linkLost p sub lane align) where
  nv := by
    rw [State.linkLost, State.parkFull, (State.setPark_frame _ p 0).rest]
    dsimp only
    rw [State.setPort_nv, (State.linkCounts_frame _ p align).rest]
    dsimp only
    rw [State.setPort_nv, (s.linkDark_frame p sub lane).rest]
  link := by
    have hle := linkFld_le sub
    rw [State.linkLost_portSt _ _ _ _ _ (by omega) (.inl (by omega)), State.linkDark_link]
  lanes := by rw [State.linkLost_portSt _ _ _ _ _ (by decide) (by decide), State.linkDark_lanes]
  park := State.parkFull_parkState _ p
  downs := by
    rw [State.linkLost, State.parkFull_ctr _ _ (portCtr_phy p (by decide)), State.linkCounts_downs, State.setPort_reg,
      (s.linkDark_frame p sub lane).ctr (portCtr_phy p (by decide))]
  aligns ha := by
    rw [State.linkLost, State.parkFull_ctr _ _ (portCtr_phy p (by decide)), ha, State.linkCounts_aligns, State.setPort_reg,
      (s.linkDark_frame p sub lane).ctr (portCtr_phy p (by decide))]
  frags := by
    have hrx : portCtr (R.PORT_RX_COUNTER p 17) := portCtr_rx p (by decide)
    rw [State.linkLost, State.parkFull_ctr _ _ hrx, State.linkCounts_rx _ _ _ (by decide), State.setPort_reg, (s.linkDark_frame p sub lane).ctr hrx]

theorem State.linkFail_events (s : State) (p sub : Nat) (lane : Option Nat) (align : Bool) :
    EvFrame ((s.linkLost p sub lane align).refreshPort p) (s.linkFail p sub lane align) := by
  cases lane with
  | none => exact (EvFrame.refl _).raise _
  | some l => exact ((EvFrame.refl _).raise _).raise _

/-- A link that goes down. -/
theorem State.linkFail_lost (s : State) (p sub : Nat) (lane : Option Nat) (align : Bool) :
    LinkLost p sub lane align s (s.linkFail p sub lane align) :=
  (s.linkLost_lost p sub lane align).kept (((s.linkLost p sub lane align).refreshPort_kept p).events (s.linkFail_events p sub lane align))

/-- Which links are up comes from PORT_CFG and PORT_STATUS. -/
theorem State.linkUp_congr (hcfg : t.portMode p = s.portMode p) (hst : t.portSt p (linkFld sub) = s.portSt p (linkFld sub)) :
    t.linkUp p sub = s.linkUp p sub := by
  rw [State.linkUp, State.hasSub, hcfg, hst, State.linkUp, State.hasSub]

theorem portCfg_ne_portStatus (p q : Nat) : R.PORT_CFG p ≠ R.PORT_STATUS q := by
  unfold R.PORT_CFG R.PORT_STATUS
  omega

theorem NoteFrame.portMode (h : NoteFrame (· = R.PORT_STATUS p) s t) (q : Nat) : t.portMode q = s.portMode q := by
  have hreg := h.regs _ (portCfg_ne_portStatus q p) (still_portCfg q).2
  rw [State.portMode, State.portCfg, State.rf, hreg, State.portMode, State.portCfg, State.rf]

theorem State.setPort_portMode (s : State) (p : Nat) (x : Port) (q : Nat) : (s.setPort p x).portMode q = s.portMode q := rfl

theorem State.linkLost_portMode (s : State) (lane : Option Nat) : (s.linkLost p sub lane align).portMode p = s.portMode p := by
  have hcounts (u : State) : (u.linkCounts p align).portMode p = u.portMode p := (u.linkCounts_frame p align).portCfg p _
  rw [State.linkLost, State.parkFull, (State.setPark_frame _ p 0).portMode, State.setPort_portMode, hcounts, State.setPort_portMode,
    (s.linkDark_frame p sub lane).portMode]

/-- The other link stands as it was. -/
theorem State.linkLost_linkUp_other (s : State) (lane : Option Nat) (hsub : sub < 2) :
    (s.linkLost p sub lane align).linkUp p (1 - sub) = s.linkUp p (1 - sub) := by
  have hle := linkFld_le (1 - sub)
  have happart : (linkFld (1 - sub)).lsb + (linkFld (1 - sub)).width ≤ (linkFld sub).lsb ∨
      (linkFld sub).lsb + (linkFld sub).width ≤ (linkFld (1 - sub)).lsb := by
    interval_cases sub <;> decide
  refine State.linkUp_congr (s.linkLost_portMode lane) ?_
  rw [State.linkLost_portSt _ _ _ _ _ (by omega) (.inl (by omega)), State.linkDark,
    State.setPortSt_other _ _ _ (by omega) (.inl (Nat.le_trans hle (by decide))), State.setPortSt_other _ _ _ (by omega) happart]

/-- The port of a link that goes down leaves the routes where no other link of it is up (R341). -/
theorem State.linkFail_usable (s : State) (lane : Option Nat) (align : Bool) (hsub : sub < 2) (hother : s.linkUp p (1 - sub) = false) :
    (s.linkFail p sub lane align).portSt p F.PORT_STATUS_USABLE = 0 := by
  have hown : (s.linkLost p sub lane align).linkUp p sub = false := by
    rw [State.linkUp, (s.linkLost_lost p sub lane align).link]
    exact Bool.and_false _
  have hother' : (s.linkLost p sub lane align).linkUp p (1 - sub) = false := (s.linkLost_linkUp_other lane hsub).trans hother
  have hbad : (s.linkLost p sub lane align).portGood p = false := by
    interval_cases sub
    · exact State.portGood_of_down hown hother'
    · exact State.portGood_of_down hother' hown
  rw [(s.linkFail_events p sub lane align).portSt, State.refreshPort_usable, hbad]
  rfl

end Sys2Proof.Machine
end

section
/-! PROOFS. Links of the ports: which faults take them down, alignment, the hold time and retiming (R341, R342, R344, R375). -/
namespace Sys2Proof.Machine
open Sys2Proof Sys2Proof.Safety
variable {s t u : State} {p q sub : Nat}

/-! ## A fault (R341) -/

/-- A frame partly received is counted. -/
def State.countFragment (s : State) (p : Nat) (fr : Bool) : State := if fr then s.rxCount p 17 1 else s

theorem State.countFragment_frame (s : State) (p : Nat) (fr : Bool) : NoteFrame portCtr s (s.countFragment p fr) :=
  (s.rxCount_frame p 1 (by decide)).ite (.refl _ s)

theorem State.countFragment_frags (s : State) (p : Nat) (fr : Bool) : fld ((s.countFragment p fr).reg (R.PORT_RX_COUNTER p 17)) 0 48 =
    (fld (s.reg (R.PORT_RX_COUNTER p 17)) 0 48 + b2n fr) % 2 ^ 48 := by
  cases fr
  · exact (Nat.mod_eq_of_lt (Nat.mod_lt _ (Nat.two_pow_pos 48))).symm
  · exact s.rxCount_self p 1 (by decide)

theorem State.countFragment_phy {n : Nat} (s : State) (p : Nat) (fr : Bool) (hn : n < 32) :
    (s.countFragment p fr).reg (R.PORT_PHY_COUNTER p n) = s.reg (R.PORT_PHY_COUNTER p n) := by
  cases fr
  · rfl
  · refine s.portCount_ne p 1 ?_ (portCtr_ne_evtLoss (portCtr_phy p hn))
    unfold R.PORT_RX_COUNTER R.PORT_PHY_COUNTER
    omega

theorem State.countFragment_linkUp (s : State) (p : Nat) (fr : Bool) (x : Nat) : (s.countFragment p fr).linkUp p x = s.linkUp p x :=
  State.linkUp_congr ((s.countFragment_frame p fr).portCfg p _) ((s.countFragment_frame p fr).portSt p _)

theorem exec_linkDown_up {a fr : Bool} (lane : Option Nat) (hup : s.linkUp p sub = true) :
    exec (.linkDown p sub lane { alignLoss := a, fragment := fr }) s = .next ((s.countFragment p fr).linkFail p sub lane a) :=
  congrArg Host.Outcome.next (if_pos hup)

theorem exec_linkDown_down {f : PcsFault} (lane : Option Nat) (hdown : s.linkUp p sub = false) :
    exec (.linkDown p sub lane f) s = .next s :=
  congrArg Host.Outcome.next (if_neg (by rw [hdown]; exact Bool.false_ne_true))

/-! ## Alignment and the hold time (R342) -/

/-- A change of PORT_STATUS and then of the port. -/
theorem RegFrame.setPort_eq (h : RegFrame (· = R.PORT_STATUS p) s t) (x : Port) :
    t.setPort p x = { s with regs := (t.setPort p x).regs, ports := (t.setPort p x).ports } := by
  rw [h.rest]
  rfl

/-- The link is up, and its lanes have clock recovery. -/
def State.linkLit (s : State) (p sub : Nat) : State :=
  (s.setPortSt p (linkFld sub) 1).setPortSt p F.PORT_STATUS_LANE_OK (Nat.lor (s.portSt p F.PORT_STATUS_LANE_OK) (s.laneMask p sub))

theorem exec_linkAligned_dark (hsub : s.hasSub p sub = true) (hup : s.linkUp p sub = false)
    (hp4 : s.rf R.HOST_PM_STATUS F.HOST_PM_STATUS_STATE ≠ 4) (hstage : 3 ≤ s.rf R.MGMT_STAGE F.MGMT_STAGE_STAGE) :
    exec (.linkAligned p sub) s =
      .next ((s.linkLit p sub).setPort p { ((s.linkLit p sub).port p).setHold sub true with retiming := false }) := by
  refine congrArg Host.Outcome.next (if_pos ?_)
  simp [hsub, hup, hp4, hstage]

theorem exec_linkAligned_off (h : s.rf R.HOST_PM_STATUS F.HOST_PM_STATUS_STATE = 4 ∨ s.rf R.MGMT_STAGE F.MGMT_STAGE_STAGE < 3) :
    exec (.linkAligned p sub) s = .next s := by
  refine congrArg Host.Outcome.next (if_neg ?_)
  rcases h with h | h
  · simp [h]
  · simp [Nat.not_le.2 h]

theorem State.linkLit_frame (s : State) (p sub : Nat) : RegFrame (· = R.PORT_STATUS p) s (s.linkLit p sub) :=
  RegFrame.setF (RegFrame.setF (.refl (· = R.PORT_STATUS p) s) rfl _ _) rfl _ _

theorem State.linkLit_link (s : State) (p sub : Nat) : (s.linkLit p sub).portSt p (linkFld sub) = 1 := by
  have hle := linkFld_le sub
  have hone : (linkFld sub).width = 1 := by
    unfold linkFld
    split <;> rfl
  rw [State.linkLit, State.setPortSt_other _ _ _ (by omega) (.inl (Nat.le_trans hle (by decide))), State.setPortSt_self _ _ _ (by omega), hone,
    Nat.mod_eq_of_lt (by decide)]

theorem State.linkLit_usable (s : State) (p sub : Nat) :
    (s.linkLit p sub).portSt p F.PORT_STATUS_USABLE = s.portSt p F.PORT_STATUS_USABLE := by
  rw [State.linkLit, State.setPortSt_other _ _ _ (by decide) (by decide), State.setPortSt_other _ _ _ (by decide) (.inr (linkFld_le sub))]

@[simp] theorem Port.setHold_holding (x : Port) (sub : Nat) (b : Bool) : (x.setHold sub b).holding sub = b := by
  unfold Port.holding Port.setHold
  split <;> rfl

theorem Port.setHold_retiming (x : Port) (sub : Nat) (b : Bool) : (x.setHold sub b).retiming = x.retiming := by
  unfold Port.setHold
  split <;> rfl

/-- A hold time that has passed. -/
def State.unheld (s : State) (p sub : Nat) : State := s.setPort p ((s.port p).setHold sub false)

theorem exec_linkupHoldExpiry_held (hup : s.linkUp p sub = true) (hhold : (s.port p).holding sub = true)
    (hgood : (s.unheld p sub).portGood p = true) :
    exec (.linkupHoldExpiry p sub) s = .next (((s.unheld p sub).refreshPort p).portEvent p 2 1 sub 0) := by
  have husable : ((s.unheld p sub).refreshPort p).portSt p F.PORT_STATUS_USABLE = 1 := by
    rw [State.refreshPort_usable, hgood]
    rfl
  refine congrArg Host.Outcome.next ((if_pos ?_).trans (if_pos husable))
  rw [hup, hhold]
  rfl

theorem exec_linkupHoldExpiry_free (h : (s.port p).holding sub = false) : exec (.linkupHoldExpiry p sub) s = .next s := by
  refine congrArg Host.Outcome.next (if_neg ?_)
  rw [h, Bool.and_false]
  exact Bool.false_ne_true

/-! ## Retiming (R344) -/

theorem State.answer_portSt (s : State) (st p : Nat) (f : Fld) : (s.answer st).portSt p f = s.portSt p f := rfl

theorem State.answer_port (s : State) (st p : Nat) : (s.answer st).port p = s.port p := rfl

theorem exec_retime_on {who : Requester} (hnow : ServedNow s who = true) (hreach : s.reach who (R.PORT_LINK_CTRL p) = St.ok)
    (hmode : s.portMode p ≠ 0) : exec (.retime who p) s = .next ((s.retime p).answer St.ok) :=
  (exec_served hnow hreach).trans (by rw [if_neg hmode])

theorem exec_retime_off {who : Requester} (hnow : ServedNow s who = true) (hreach : s.reach who (R.PORT_LINK_CTRL p) = St.ok)
    (hmode : s.portMode p = 0) : exec (.retime who p) s = .next (s.answer St.ok) :=
  (exec_served hnow hreach).trans (by rw [if_pos hmode])

/-- A port whose lanes are adapted again, before its routes are looked at. -/
def State.adapting (s : State) (p : Nat) : State :=
  let v := (s.setPortSt p F.PORT_STATUS_LINK_A 0).setPortSt p F.PORT_STATUS_LINK_B 0
  (v.setPort p { v.port p with retiming := true, holdA := false, holdB := false }).parkFull p

theorem State.retime_eq (s : State) (p : Nat) : s.retime p = (s.adapting p).refreshPort p := rfl

theorem State.adapting_retiming (s : State) (p : Nat) : ((s.adapting p).port p).retiming = true := by
  rw [State.adapting, State.parkFull_port, State.setPort_port_self]

theorem State.adapting_linkA (s : State) (p : Nat) : (s.adapting p).portSt p F.PORT_STATUS_LINK_A = 0 := by
  rw [State.adapting, State.parkFull_portSt _ _ (by decide) (by decide), State.setPort_portSt,
    State.setPortSt_other _ _ _ (by decide) (by decide), State.setPortSt_self _ _ _ (by decide), Nat.zero_mod]

theorem State.adapting_linkB (s : State) (p : Nat) : (s.adapting p).portSt p F.PORT_STATUS_LINK_B = 0 := by
  rw [State.adapting, State.parkFull_portSt _ _ (by decide) (by decide), State.setPort_portSt, State.setPortSt_self _ _ _ (by decide),
    Nat.zero_mod]

/-- A port that is retimed belongs in no route. -/
theorem State.adapting_bad (s : State) (p : Nat) : (s.adapting p).portGood p = false := by
  rw [State.portGood, State.adapting_retiming, Bool.not_true, Bool.and_false]

/-! ## The statement -/

/-- Settles O55. A link that goes down leaves its bits as LinkLost says, and what its port's frames reach elsewhere does not touch them; a
link that comes up or a port that is retimed enters or leaves the routes as portGood says. -/
theorem linkStatesComplete : Obligations.LinkStatesComplete := by
  unfold Obligations.LinkStatesComplete
  refine ⟨?fault, ?alignLoss, ?wasDown, ?aligned, ?dark, ?held, ?free, ?retime, ?off⟩
  case fault =>
    intro s port sub l a fr _ hup
    have hlost := (s.countFragment port fr).linkFail_lost port sub (some l) a
    have hframe := s.countFragment_frame port fr
    refine ⟨_, exec_linkDown_up (some l) hup, hlost.link, fun hbit => ?_, hlost.park, fun hother => ?_, ?_, ?_, ?_⟩
    · rw [hlost.lanes, bitAt_lanesLeft] at hbit
      cases hbit
    · exact State.linkFail_usable _ _ _ (State.linkUp_lt hup) ((s.countFragment_linkUp port fr _).trans hother)
    · rw [hlost.downs, State.countFragment_phy _ _ _ (by decide)]
    · rw [hlost.frags, State.countFragment_frags]
    · rw [hlost.nv, hframe.rest]
  case alignLoss =>
    intro s port sub fr _ hup
    have hlost := (s.countFragment port fr).linkFail_lost port sub none true
    refine ⟨_, exec_linkDown_up none hup, hlost.link, ?_, hlost.park, ?_, ?_⟩
    · rw [hlost.lanes, (s.countFragment_frame port fr).portSt]
      rfl
    · rw [hlost.downs, State.countFragment_phy _ _ _ (by decide)]
    · rw [hlost.aligns rfl, State.countFragment_phy _ _ _ (by decide)]
  case wasDown => exact fun s port sub l a fr hdown => ⟨s, exec_linkDown_down l hdown, rfl⟩
  case aligned =>
    intro s port sub hsub hup hp4 hstage
    have hframe := s.linkLit_frame port sub
    refine ⟨_, exec_linkAligned_dark hsub hup hp4 hstage, ?_, ?_, ?_, ?_, fun a ha => ?_, fun q hq => ?_, ?_⟩
    · exact (State.setPort_portSt _ _ _ _ _).trans (s.linkLit_link port sub)
    · rw [State.setPort_port_self]
      exact Port.setHold_holding _ _ _
    · rw [State.setPort_port_self]
    · rw [State.setPort_portSt, State.linkLit_usable]
    · rw [State.setPort_reg, hframe.regs a ha]
    · rw [State.setPort_port_ne _ _ hq, State.port, hframe.rest, State.port]
    · exact hframe.setPort_eq _
  case dark => exact fun s port sub h => ⟨s, exec_linkAligned_off h, rfl⟩
  case held =>
    intro s port sub _ hup hhold hstorm hloop hretime
    have hgood : (s.unheld port sub).portGood port = true :=
      State.portGood_of_up (s.setPort_port_self port _) hup (State.linkUp_lt hup) (Port.setHold_holding _ _ _) hstorm hloop
        ((Port.setHold_retiming _ _ _).trans hretime)
    have hports : ∀ q, (((s.unheld port sub).refreshPort port).portEvent port 2 1 sub 0).port q = (s.unheld port sub).port q := fun q => by
      rw [State.portEvent, State.port, State.raise_ports, State.refreshPort_ports hgood, State.port]
    refine ⟨_, exec_linkupHoldExpiry_held hup hhold hgood, ?_, ?_, fun q hq => ?_⟩
    · rw [State.portEvent_portSt, State.refreshPort_usable, hgood]
      rfl
    · rw [hports, State.unheld, State.setPort_port_self, Port.setHold_holding]
    · rw [hports, State.unheld, State.setPort_port_ne _ _ hq]
  case free => exact fun s port sub h => ⟨s, exec_linkupHoldExpiry_free h, rfl⟩
  case retime =>
    intro s who port _ hnow hreach hmode
    have hkept := (s.adapting port).refreshPort_kept port
    have hexec := exec_retime_on hnow hreach hmode
    rw [State.retime_eq] at hexec
    refine ⟨_, hexec, ?_, ?_, ?_, ?_, rfl⟩
    · rw [State.answer_portSt, hkept.status port _ (by decide) (by decide), State.adapting_linkA]
    · rw [State.answer_portSt, hkept.status port _ (by decide) (by decide), State.adapting_linkB]
    · rw [State.answer_portSt, State.refreshPort_usable, State.adapting_bad]
      rfl
    · rw [State.answer_port, hkept.retiming, State.adapting_retiming]
  case off => exact fun s who port hnow hreach hmode => ⟨_, exec_retime_off hnow hreach hmode, rfl, rfl⟩

end Sys2Proof.Machine
end

section
/-! PROOFS. Priority flow control: pauses of sending (R337, R339), the pausing frame (R339), and storms (R340). -/
namespace Sys2Proof.Machine
open Sys2Proof Sys2Proof.Safety
variable {s t u : State} {p q sub prios quanta : Nat}

/-! ## Pauses (R339) -/

/-- Whether a PFC frame speaks to the port (R337, R339). -/
def State.heedsPfc (s : State) (p prios : Nat) : Prop :=
  s.portCfg p F.PORT_CFG_PFC_EN = 1 ∧ bitAt prios (s.portCfg p F.PORT_CFG_PCP) = true

/-- Sending pauses now. -/
def State.pauseNow (s : State) (p : Nat) : State :=
  (s.setPort p { s.port p with pausedAt := s.now }).setPortSt p F.PORT_STATUS_TX_PAUSED 1

/-- Sending resumes after a pause of `us` µs. -/
def State.resumeTx (s : State) (p us : Nat) : State := (s.setPortSt p F.PORT_STATUS_TX_PAUSED 0).txCount p 15 us

/-- What a PFC frame that speaks to the port does once it is counted. -/
def State.takePfc (s : State) (p quanta : Nat) : State :=
  if quanta = 0 then
    if s.portSt p F.PORT_STATUS_TX_PAUSED = 1 then s.resumeTx p ((s.now - (s.port p).pausedAt) / cyclesPerUs) else s
  else if s.portSt p F.PORT_STATUS_TX_PAUSED = 1 then s else s.pauseNow p

theorem State.takePfc_pause (hquanta : quanta ≠ 0) (hfree : s.portSt p F.PORT_STATUS_TX_PAUSED = 0) : s.takePfc p quanta = s.pauseNow p := by
  rw [State.takePfc, if_neg hquanta, if_neg (by rw [hfree]; decide)]

theorem State.takePfc_resume (hpaused : s.portSt p F.PORT_STATUS_TX_PAUSED = 1) :
    s.takePfc p 0 = s.resumeTx p ((s.now - (s.port p).pausedAt) / cyclesPerUs) := by
  rw [State.takePfc, if_pos rfl, if_pos hpaused]

theorem exec_rxPfc_heeded (hup : s.linkUp p sub = true) (hheed : s.heedsPfc p prios) :
    exec (.rxPfc p sub prios quanta) s = .next ((s.rxCount p 18 1).takePfc p quanta) := by
  have hframe := s.rxCount_frame (n := 18) p 1 (by decide)
  obtain ⟨hen, hprio⟩ := hheed
  refine congrArg Host.Outcome.next ((if_neg (by rw [hup]; decide)).trans (if_pos ?_))
  rw [hframe.portCfg, hframe.portCfg, hen, hprio]
  rfl

theorem exec_rxPfc_ignored (hup : s.linkUp p sub = true) (hheed : ¬s.heedsPfc p prios) :
    exec (.rxPfc p sub prios quanta) s = .next (s.rxCount p 18 1) := by
  have hframe := s.rxCount_frame (n := 18) p 1 (by decide)
  refine congrArg Host.Outcome.next ((if_neg (by rw [hup]; decide)).trans (if_neg ?_))
  rw [hframe.portCfg, hframe.portCfg, Bool.and_eq_true, decide_eq_true_eq]
  exact hheed

theorem State.pauseNow_paused (s : State) (p : Nat) : (s.pauseNow p).portSt p F.PORT_STATUS_TX_PAUSED = 1 := by
  rw [State.pauseNow, State.setPortSt_self _ _ _ (by decide), Nat.mod_eq_of_lt (by decide)]

theorem State.pauseNow_port (s : State) (p q : Nat) :
    (s.pauseNow p).port q = (s.setPort p { s.port p with pausedAt := s.now }).port q := by
  rw [State.pauseNow, (State.setPortSt_frame _ p _ 1).port]

theorem State.pauseNow_ctr {a : Nat} (s : State) (p : Nat) (ha : portCtr a) : (s.pauseNow p).reg a = s.reg a := by
  rw [State.pauseNow, (State.setPortSt_frame _ p _ 1).ctr ha, State.setPort_reg]

theorem State.setPortSt_eq (s : State) (p : Nat) (f : Fld) (x : Nat) : s.setPortSt p f x = { s with regs := (s.setPortSt p f x).regs } := rfl

theorem State.pauseNow_eq (s : State) (p : Nat) :
    s.pauseNow p = { s with regs := (s.pauseNow p).regs, ports := (s.pauseNow p).ports } := by
  rw [State.pauseNow, State.setPortSt_eq]
  rfl

theorem State.resumeTx_paused (s : State) (p us : Nat) : (s.resumeTx p us).portSt p F.PORT_STATUS_TX_PAUSED = 0 := by
  rw [State.resumeTx, (State.txCount_frame _ p us (by decide)).portSt, State.setPortSt_self _ _ _ (by decide), Nat.zero_mod]

theorem State.resumeTx_us (s : State) (p us : Nat) : fld ((s.resumeTx p us).reg (R.PORT_TX_COUNTER p 15)) 0 48 =
    (fld (s.reg (R.PORT_TX_COUNTER p 15)) 0 48 + us) % 2 ^ 48 := by
  rw [State.resumeTx, State.txCount_self _ _ _ (by decide), (s.setPortSt_frame p _ 0).ctr (portCtr_tx p (by decide))]

/-- The receive and the transmit counters are apart. -/
theorem rxCounter_ne_txCounter (p q : Nat) {n m : Nat} (hn : n < 32) (hm : m < 32) : R.PORT_RX_COUNTER p n ≠ R.PORT_TX_COUNTER q m := by
  unfold R.PORT_RX_COUNTER R.PORT_TX_COUNTER
  omega

theorem State.resumeTx_rx {n : Nat} (s : State) (p us : Nat) (hn : n < 32) :
    (s.resumeTx p us).reg (R.PORT_RX_COUNTER p n) = s.reg (R.PORT_RX_COUNTER p n) := by
  have hrx := portCtr_rx p hn
  rw [State.resumeTx, State.txCount, State.portCount_ne _ _ _ (rxCounter_ne_txCounter p p hn (by decide)) (portCtr_ne_evtLoss hrx),
    (s.setPortSt_frame p _ 0).ctr hrx]

theorem State.rxCount_tx {m : Nat} (s : State) (p n v : Nat) (hn : n < 32) (hm : m < 32) :
    (s.rxCount p n v).reg (R.PORT_TX_COUNTER p m) = s.reg (R.PORT_TX_COUNTER p m) :=
  s.portCount_ne p v (rxCounter_ne_txCounter p p hn hm).symm (portCtr_ne_evtLoss (portCtr_tx p hm))

theorem State.resumeTx_frame (s : State) (p us : Nat) : NoteFrame (fun _ => True) s (s.resumeTx p us) :=
  ((s.setPortSt_frame p F.PORT_STATUS_TX_PAUSED 0).weaken fun _ _ => trivial).trans
    ((State.txCount_frame (n := 15) _ p us (by decide)).weaken fun _ _ => trivial)

theorem exec_pfcPauseExpiry_paused (us : Nat) (h : s.portSt p F.PORT_STATUS_TX_PAUSED = 1) :
    exec (.pfcPauseExpiry p us) s = .next (s.resumeTx p us) := congrArg Host.Outcome.next (if_pos h)

theorem exec_pfcPauseExpiry_unpaused (us : Nat) (h : s.portSt p F.PORT_STATUS_TX_PAUSED ≠ 1) :
    exec (.pfcPauseExpiry p us) s = .next s := congrArg Host.Outcome.next (if_neg h)

theorem exec_pfcRefresh_high (hsent : s.portSt p F.PORT_STATUS_XOFF_SENT = 1)
    (hhigh : s.rf (R.PORT_PFC p) F.PORT_PFC_XON_KIB * 1024 ≤ s.rxFill p) : exec (.pfcRefresh p) s = .next (s.pfcFrame p 0xFFFF) :=
  congrArg Host.Outcome.next (if_pos (by rw [decide_eq_true hsent, decide_eq_true hhigh]; rfl))

/-! ## Storms (R340) -/

theorem exec_pfcStorm_paused (hpaused : s.portSt p F.PORT_STATUS_TX_PAUSED = 1) (hcalm : s.portSt p F.PORT_STATUS_STORM = 0) :
    exec (.pfcStorm p) s = .next (((s.setPortSt p F.PORT_STATUS_STORM 1).refreshPort p).portEvent p 5 0 0 0) :=
  congrArg Host.Outcome.next (if_pos (by rw [decide_eq_true hpaused, decide_eq_true hcalm]; rfl))

theorem exec_pfcStormEnd_storm (h : s.portSt p F.PORT_STATUS_STORM = 1) :
    exec (.pfcStormEnd p) s = .next ((s.setPortSt p F.PORT_STATUS_STORM 0).refreshPort p) := congrArg Host.Outcome.next (if_pos h)

theorem exec_pfcStormEnd_calm (h : s.portSt p F.PORT_STATUS_STORM = 0) : exec (.pfcStormEnd p) s = .next s :=
  congrArg Host.Outcome.next (if_neg (by rw [h]; decide))

/-- A storm keeps its port out of the routes. -/
theorem State.portGood_of_storm (h : s.portSt p F.PORT_STATUS_STORM ≠ 0) : s.portGood p = false := by
  rw [State.portGood, decide_eq_false h, Bool.and_false, Bool.false_and, Bool.false_and]

/-- The links do not hang on STORM. -/
theorem State.setStorm_linkUp (s : State) (p x : Nat) (sub : Nat) : (s.setPortSt p F.PORT_STATUS_STORM x).linkUp p sub = s.linkUp p sub := by
  have hle := linkFld_le sub
  exact State.linkUp_congr ((s.setPortSt_frame p _ x).portMode p)
    (State.setPortSt_other _ _ _ (by omega) (.inl (Nat.le_trans hle (by decide))))

theorem linkCtrl_ne_portStatus (p : Nat) : R.PORT_LINK_CTRL p ≠ R.PORT_STATUS p := by
  unfold R.PORT_LINK_CTRL R.PORT_STATUS
  omega

/-! ## The statement -/

/-- Settles O54. A pause and its end are one bit and a counter; what a storm's returned frames reach elsewhere leaves STORM, USABLE and
TX_PAUSED of its port alone. -/
theorem flowControlCompletes : Obligations.FlowControlCompletes := by
  unfold Obligations.FlowControlCompletes
  refine ⟨?pause, ?resume, ?ignored, ?expiry, ?noPause, ?refresh, ?storm, ?stormEnd, ?calm⟩
  case pause =>
    intro s port sub prios quanta _ hup hen hprio hquanta hfree
    have hframe := s.rxCount_frame (n := 18) port 1 (by decide)
    have hexec := exec_rxPfc_heeded (quanta := quanta) hup ⟨hen, hprio⟩
    rw [State.takePfc_pause hquanta ((hframe.portSt port _).trans hfree)] at hexec
    have hport := (s.rxCount port 18 1).pauseNow_port port
    refine ⟨_, hexec, State.pauseNow_paused _ _, ?_, ?_, ?_, fun q hq => ?_, ?_⟩
    · rw [State.pauseNow_ctr _ _ (portCtr_rx port (by decide)), State.rxCount_self _ _ _ (by decide)]
    · rw [hport, State.setPort_port_self, hframe.now]
    · rw [hport, State.setPort_port_self, hframe.port]
    · rw [(s.rxCount port 18 1).pauseNow_port, State.setPort_port_ne _ _ hq, hframe.port]
    · rw [State.pauseNow_eq, hframe.rest]
  case resume =>
    intro s port sub prios _ hup hen hprio hpaused
    have hframe := s.rxCount_frame (n := 18) port 1 (by decide)
    have hexec := exec_rxPfc_heeded (quanta := 0) hup ⟨hen, hprio⟩
    rw [State.takePfc_resume ((hframe.portSt port _).trans hpaused), hframe.now, hframe.port] at hexec
    refine ⟨_, hexec, State.resumeTx_paused _ _ _, ?_, ?_, ((hframe.weaken fun _ _ => trivial).trans (State.resumeTx_frame _ _ _)).rest⟩
    · rw [State.resumeTx_rx _ _ _ (by decide), State.rxCount_self _ _ _ (by decide)]
    · rw [State.resumeTx_us, State.rxCount_tx _ _ _ _ (by decide) (by decide)]
  case ignored =>
    intro s port sub prios quanta hup hheed
    exact ⟨_, exec_rxPfc_ignored hup hheed, s.rxCount_self port 1 (by decide), (s.rxCount_frame port 1 (by decide)).rest⟩
  case expiry =>
    intro s port us _ hpaused
    exact ⟨_, exec_pfcPauseExpiry_paused us hpaused, s.resumeTx_paused port us, s.resumeTx_us port us, (s.resumeTx_frame port us).rest⟩
  case noPause => exact fun s port us h => ⟨s, exec_pfcPauseExpiry_unpaused us h, rfl⟩
  case refresh =>
    intro s port hsent hhigh
    refine ⟨_, exec_pfcRefresh_high hsent hhigh, s.pushFrame_txq port _, ?_, fun q hq => s.setPort_port_ne _ hq, rfl⟩
    rw [State.pfcFrame, State.pushFrame, State.setPort_port_self]
  case storm =>
    intro s port _ hpaused hcalm
    have hkept := (s.setPortSt port F.PORT_STATUS_STORM 1).refreshPort_kept port
    have hstorm : (s.setPortSt port F.PORT_STATUS_STORM 1).portSt port F.PORT_STATUS_STORM = 1 := by
      rw [State.setPortSt_self _ _ _ (by decide), Nat.mod_eq_of_lt (by decide)]
    have hevent := State.portEvent_portSt ((s.setPortSt port F.PORT_STATUS_STORM 1).refreshPort port) port 5 0 0 0 port
    refine ⟨_, exec_pfcStorm_paused hpaused hcalm, ?_, ?_, ?_⟩
    · rw [hevent, hkept.status _ _ (by decide) (by decide), hstorm]
    · rw [hevent, State.refreshPort_usable, State.portGood_of_storm (by rw [hstorm]; decide)]
      rfl
    · rw [hevent, hkept.status _ _ (by decide) (by decide), State.setPortSt_other _ _ _ (by decide) (by decide), hpaused]
  case stormEnd =>
    intro s port _ hstorm hup hhold hloop hretime
    have hkept := (s.setPortSt port F.PORT_STATUS_STORM 0).refreshPort_kept port
    have hcalm : (s.setPortSt port F.PORT_STATUS_STORM 0).portSt port F.PORT_STATUS_STORM = 0 := by
      rw [State.setPortSt_self _ _ _ (by decide), Nat.zero_mod]
    have hframe := s.setPortSt_frame port F.PORT_STATUS_STORM 0
    have hloop' : (s.setPortSt port F.PORT_STATUS_STORM 0).rf (R.PORT_LINK_CTRL port) F.PORT_LINK_CTRL_LOOPBACK = 0 := by
      rw [State.setPortSt, State.setF_rf_ne _ _ _ (linkCtrl_ne_portStatus port), hloop]
    have hgood := State.portGood_of_up (hframe.port port) ((s.setStorm_linkUp port 0 0).trans hup) (by decide) hhold hcalm hloop' hretime
    refine ⟨_, exec_pfcStormEnd_storm hstorm, ?_, ?_, ?_⟩
    · rw [hkept.status _ _ (by decide) (by decide), hcalm]
    · rw [State.refreshPort_usable, hgood]
      rfl
    · rw [State.refreshPort_ports hgood, hframe.ports]
  case calm => exact fun s port h => ⟨s, exec_pfcStormEnd_calm h, rfl⟩

end Sys2Proof.Machine
end

section
/-! PROOFS. Lane parking: the windows, the frames of R348's table, the timeouts, and missed refreshes (R346, R348, R349). -/
namespace Sys2Proof.Machine
open Sys2Proof Sys2Proof.Safety
variable {s t u : State} {p q seq sent received missed : Nat}

/-! ## Frames handled (R346, R348) -/

theorem State.parkRx_of_ok (f : State → State) (hok : s.parkOk p = true) (hup : s.linkUp p 0 = true) : s.parkRx p f = f s :=
  if_pos (by rw [hok, hup]; rfl)

theorem State.parkRx_unnegotiated (f : State → State) (hok : s.parkOk p = false) : s.parkRx p f = s :=
  if_neg (by rw [hok, Bool.false_and]; exact Bool.false_ne_true)

theorem exec_parkReq_unnegotiated (hok : s.parkOk p = false) : exec (.parkReq p seq) s = .next s :=
  congrArg Host.Outcome.next (State.parkRx_unnegotiated _ hok)

/-- A WAKE that the port has to answer. -/
def State.oweWake (s : State) (p seq : Nat) : State := s.setPort p { s.port p with wakeOwed := some seq }

section
variable (hok : s.parkOk p = true) (hup : s.linkUp p 0 = true)
include hok hup

theorem exec_parkReq_full (hst : s.parkState p = 0) : exec (.parkReq p seq) s = .next
    (if (s.port p).lastLow && !s.wakeCond p then (s.setPark p 1).parkFrame p 2 seq else s.parkFrame p 3 seq) := by
  refine congrArg Host.Outcome.next ((State.parkRx_of_ok _ hok hup).trans ?_)
  rw [hst]
  rfl

theorem exec_parkReq_parking {r : Nat} (hst : s.parkState p = 1) (hreq : (s.port p).reqSeq = some r) :
    exec (.parkReq p seq) s = .next ((s.parkFrame p 4 r).parkNow p) := by
  refine congrArg Host.Outcome.next ((State.parkRx_of_ok _ hok hup).trans ?_)
  rw [hst, hreq]
  rfl

theorem exec_parkAck_parking (hst : s.parkState p = 1) (hreq : (s.port p).reqSeq = some seq) :
    exec (.parkAck p seq) s = .next ((s.parkFrame p 4 seq).parkNow p) :=
  congrArg Host.Outcome.next ((State.parkRx_of_ok _ hok hup).trans (if_pos (by simp [hst, hreq])))

theorem exec_parkNak_parking (hst : s.parkState p = 1) (hreq : (s.port p).reqSeq = some seq) :
    exec (.parkNak p seq) s = .next (s.parkFull p) :=
  congrArg Host.Outcome.next ((State.parkRx_of_ok _ hok hup).trans (if_pos (by simp [hst, hreq])))

theorem exec_parkGo_parking (hst : s.parkState p = 1) : exec (.parkGo p seq) s = .next (s.parkNow p) :=
  congrArg Host.Outcome.next ((State.parkRx_of_ok _ hok hup).trans (if_pos hst))

theorem exec_wake_full (hst : s.parkState p = 0) : exec (.wake p seq) s = .next ((s.oweWake p seq).answerWake p) := by
  have hst' : (s.oweWake p seq).parkState p = 0 := hst
  refine congrArg Host.Outcome.next ((State.parkRx_of_ok _ hok hup).trans ?_)
  unfold State.oweWake at hst' ⊢
  simp only [hst']

theorem exec_wake_parked (hst : s.parkState p = 2) : exec (.wake p seq) s = .next ((s.oweWake p seq).wakeLanes p) := by
  have hst' : (s.oweWake p seq).parkState p = 2 := hst
  refine congrArg Host.Outcome.next ((State.parkRx_of_ok _ hok hup).trans ?_)
  unfold State.oweWake at hst' ⊢
  simp only [hst']

theorem exec_wakeAck_waking (hst : s.parkState p = 3) (hreq : (s.port p).reqSeq = some seq) : exec (.wakeAck p seq) s = .next
    (if (s.port p).lanesLocked then s.parkFull p else s.setPort p { s.port p with wakeAcked := true }) :=
  congrArg Host.Outcome.next ((State.parkRx_of_ok _ hok hup).trans (if_pos (by simp [hst, hreq])))

end

theorem exec_parkAck_unasked (h : (s.port p).reqSeq ≠ some seq) : exec (.parkAck p seq) s = .next s := by
  refine congrArg Host.Outcome.next ?_
  unfold State.parkRx
  dsimp only
  rw [decide_eq_false h, Bool.and_false, if_neg Bool.false_ne_true, ite_self]

/-! ## Windows (R348) -/

/-- A window that is counted. -/
def State.windowed (s : State) (p sent received : Nat) : State :=
  s.setPort p { s.port p with lowWindows := if s.lowTraffic p sent received then (s.port p).lowWindows + 1 else 0
                              lastLow := s.lowTraffic p sent received }

theorem exec_parkWindow_asks (hok : s.parkOk p = true) (hup : s.linkUp p 0 = true) (hst : s.parkState p = 0)
    (hlow : s.lowTraffic p sent received = true)
    (hhold : s.rf (R.PORT_PARK p) F.PORT_PARK_HOLD_MS * 10 ≤ (s.port p).lowWindows + 1) :
    exec (.parkWindow p sent received) s = .next ((s.windowed p sent received).askPark p) := by
  have hok' : (s.windowed p sent received).parkOk p = true := by
    rw [← hok, State.parkOk, State.parkCap, State.windowed, State.setPort_port_self]
    rfl
  refine congrArg Host.Outcome.next (if_pos ?_)
  have hcond : (decide (s.parkState p = 0) && (s.windowed p sent received).parkOk p && s.linkUp p 0 &&
      decide (s.rf (R.PORT_PARK p) F.PORT_PARK_HOLD_MS * 10 ≤ if s.lowTraffic p sent received then (s.port p).lowWindows + 1 else 0)) = true := by
    rw [hst, hok', hup, hlow, if_pos rfl, decide_eq_true hhold]
    rfl
  exact hcond

theorem exec_parkWindow_counts (hcalm : s.wakeCond p = false)
    (hhold : (s.port p).lowWindows + 1 < s.rf (R.PORT_PARK p) F.PORT_PARK_HOLD_MS * 10) :
    exec (.parkWindow p sent received) s = .next (s.windowed p sent received) := by
  have hcalm' : (s.windowed p sent received).wakeCond p = false := by
    rw [← hcalm, State.wakeCond, State.txFill, State.windowed, State.setPort_port_self]
    rfl
  have hfew : ¬s.rf (R.PORT_PARK p) F.PORT_PARK_HOLD_MS * 10 ≤ if s.lowTraffic p sent received then (s.port p).lowWindows + 1 else 0 := by
    split <;> omega
  refine congrArg Host.Outcome.next ((if_neg fun hcond => hfew ?_).trans (State.parkCheck_of_calm hcalm'))
  exact of_decide_eq_true (Bool.and_eq_true_iff.1 hcond).2

/-- A port that has drawn the number of its request. -/
def State.asking (s : State) (p : Nat) : State :=
  s.setPort p { s.port p with parkSeq := ((s.port p).parkSeq + 1) % 65536, reqSeq := some (s.port p).parkSeq }

theorem State.parkTx_len (s : State) (p typ seq : Nat) : (s.parkTx p typ seq).frame.len = 64 := by
  unfold State.parkTx State.frameOf
  dsimp only
  split <;> rfl

theorem State.pushFrame_txFill (s : State) (p : Nat) (f : TxFrame) : (s.pushFrame p f).txFill p = s.txFill p + f.frame.len := by
  rw [State.txFill, State.pushFrame_txq, List.map_append, List.foldl_append, State.txFill]
  rfl

/-- A request leaves a port calm that has room below WAKE_KIB and no WAKE to answer. -/
theorem State.askPark_calm (howed : (s.port p).wakeOwed = none)
    (hfill : s.txFill p + 64 ≤ s.rf (R.PORT_PARK p) F.PORT_PARK_WAKE_KIB * 1024) :
    s.askPark p = ((s.asking p).setPark p 1).parkFrame p 1 (s.port p).parkSeq := by
  refine State.parkCheck_of_calm (s := ((s.asking p).setPark p 1).parkFrame p 1 (s.port p).parkSeq) ?_
  have hown : ((((s.asking p).setPark p 1).parkFrame p 1 (s.port p).parkSeq).port p).wakeOwed = none := by
    rw [State.parkFrame_port, State.setPark_port, State.asking, State.setPort_port_self, howed]
  have hfull : (((s.asking p).setPark p 1).parkFrame p 1 (s.port p).parkSeq).txFill p = s.txFill p + 64 := by
    rw [State.parkFrame, State.pushFrame_txFill, State.parkTx_len, State.txFill, State.setPark_port, State.asking, State.setPort_port_self,
      State.txFill]
  have hkib : (((s.asking p).setPark p 1).parkFrame p 1 (s.port p).parkSeq).rf (R.PORT_PARK p) F.PORT_PARK_WAKE_KIB =
      s.rf (R.PORT_PARK p) F.PORT_PARK_WAKE_KIB := by
    refine congrArg (fld · _ _) (((s.asking p).setPark_frame p 1).regs (R.PORT_PARK p) ?_ (still_portReg (o := 0x128) rfl (by decide)).2)
    unfold R.PORT_PARK R.PORT_STATUS
    omega
  rw [State.wakeCond, hown, hfull, hkib, decide_eq_false (Nat.not_lt.2 hfill)]
  rfl

/-! ## Lanes, answers and timeouts -/

theorem exec_parkAnswerTimeout_parking (h : s.parkState p = 1) : exec (.parkAnswerTimeout p) s = .next (s.parkFull p) :=
  congrArg Host.Outcome.next (if_pos h)

theorem exec_parkAnswerTimeout_other (h : s.parkState p ≠ 1) : exec (.parkAnswerTimeout p) s = .next s :=
  congrArg Host.Outcome.next (if_neg h)

/-- The lanes have locked. -/
def State.lockLanes (s : State) (p : Nat) : State := s.setPort p { s.port p with lanesLocked := true }

theorem exec_lanesLocked_owed (hst : s.parkState p = 3) (howed : (s.port p).wakeOwed = some q) :
    exec (.lanesLocked p) s = .next (((s.lockLanes p).answerWake p).parkFull p) :=
  congrArg Host.Outcome.next ((if_pos hst).trans (if_pos (by rw [howed]; rfl)))

theorem exec_lanesLocked_unacked (hst : s.parkState p = 3) (howed : (s.port p).wakeOwed = none) (hack : (s.port p).wakeAcked = false) :
    exec (.lanesLocked p) s = .next (s.lockLanes p) := by
  refine congrArg Host.Outcome.next ((if_pos hst).trans ((if_neg ?_).trans (if_neg ?_)))
  · rw [howed]
    decide
  · rw [hack]
    decide

theorem exec_wakeTimeout_again (hst : s.parkState p = 3) (hack : (s.port p).wakeAcked = false) (hreq : (s.port p).reqSeq = some q)
    (hfew : (s.port p).wakes < 3) : exec (.wakeTimeout p) s =
      .next ((s.setPort p { s.port p with wakes := (s.port p).wakes + 1 }).parkFrame p 5 q) := by
  refine congrArg Host.Outcome.next ((if_pos (by rw [hack, hst]; rfl)).trans ?_)
  dsimp only
  rw [hreq]
  exact if_neg (Nat.not_le.2 hfew)

theorem exec_wakeTimeout_last (hst : s.parkState p = 3) (hack : (s.port p).wakeAcked = false) (hreq : (s.port p).reqSeq = some q)
    (hmany : 3 ≤ (s.port p).wakes) : exec (.wakeTimeout p) s = .next (s.linkFail p 0 none false) := by
  refine congrArg Host.Outcome.next ((if_pos (by rw [hack, hst]; rfl)).trans ?_)
  rw [hreq]
  exact if_pos hmany

/-! ## Refreshes (R349) -/

/-- Whether a parked lane has missed three refreshes in a row. -/
def thirdMiss (run : List (Nat × Nat)) (l : Nat) : Bool := decide (3 ≤ mget 0 run l)

/-- Missed refreshes as they are noted and counted. -/
def State.missNoted (s : State) (p missed : Nat) : State :=
  (s.setPort p { s.port p with missRun := missUpdate (s.port p).missRun missed }).phyCount p 16 ([4, 5, 6, 7].filter (bitAt missed)).length

theorem exec_parkRefresh_few (hst : s.parkState p = 2) (hany : [4, 5, 6, 7].any (thirdMiss (missUpdate (s.port p).missRun missed)) = false) :
    exec (.parkRefresh p missed) s = .next (s.missNoted p missed) := by
  have hfind : [4, 5, 6, 7].find? (thirdMiss (missUpdate (s.port p).missRun missed)) = none :=
    List.find?_eq_none.2 (List.any_eq_false.1 hany)
  unfold thirdMiss at hfind
  refine congrArg Host.Outcome.next ((if_pos hst).trans ?_)
  dsimp only
  rw [hfind]
  rfl

theorem exec_parkRefresh_third (hst : s.parkState p = 2) (hany : [4, 5, 6, 7].any (thirdMiss (missUpdate (s.port p).missRun missed)) = true) :
    ∃ l, exec (.parkRefresh p missed) s = .next ((s.missNoted p missed).linkFail p 0 (some l) false) := by
  obtain ⟨l, hfind⟩ := Option.isSome_iff_exists.1 (List.find?_isSome.2 (List.any_eq_true.1 hany))
  unfold thirdMiss at hfind
  refine ⟨l, congrArg Host.Outcome.next ((if_pos hst).trans ?_)⟩
  dsimp only
  rw [hfind]
  rfl

/-! ## The statement -/

/-- Settles O56, row by row of R348's table: a transition hands its frames to the port, and the port and its PARK_STATE read as the row says. -/
theorem laneParkingCompletes : Obligations.LaneParkingCompletes := by
  unfold Obligations.LaneParkingCompletes
  refine ⟨?unnegotiated, ?asks, ?counts, ?reqLow, ?reqBusy, ?crossing, ?ack, ?unasked, ?nak, ?go, ?timeout, ?noTimeout, ?wakeFull, ?wakeParked,
    ?lockedOwed, ?lockedFirst, ?wakeAckLocked, ?wakeAckFirst, ?wakeAgain, ?wakeLast, ?missedFew, ?missedThree⟩
  case unnegotiated => exact fun s port seq hok => ⟨s, exec_parkReq_unnegotiated hok, rfl⟩
  case asks =>
    intro s port sent rcvd hok hup hst howed hfill hlow hhold
    have hseq : ((s.windowed port sent rcvd).port port).parkSeq = (s.port port).parkSeq := by
      rw [State.windowed, State.setPort_port_self]
    have hexec := exec_parkWindow_asks hok hup hst hlow hhold
    rw [State.askPark_calm (by rw [State.windowed, State.setPort_port_self, howed])
      (by rw [State.txFill, State.windowed, State.setPort_port_self]; exact hfill), hseq] at hexec
    have hturn : PortTurn port s ((((s.windowed port sent rcvd).asking port).setPark port 1).parkFrame port 1 (s.port port).parkSeq) :=
      ((((PortTurn.refl port s).setPort_kept (by rfl)).setPort_kept (by rfl)).setPark port 1).parkFrame 1 _
    refine ⟨_, hexec, ?_, ?_, ?_, hturn.others, hturn.rest⟩
    · rw [State.parkFrame_portSt, State.setPark_parkState _ _ (by decide)]
    · rw [State.parkFrame_port, State.setPark_port, State.asking, State.setPort_port_self, State.windowed, State.setPort_port_self,
        State.setPark_parkTx]
      rfl
    · rw [State.parkFrame_port, State.setPark_port, State.asking, State.setPort_port_self, State.windowed, State.setPort_port_self]
  case counts =>
    intro s port sent rcvd _ hcalm hhold
    refine ⟨_, exec_parkWindow_counts hcalm hhold, ?_, ?_, fun q hq => s.setPort_port_ne _ hq, rfl⟩
    · rw [State.windowed, State.setPort_port_self]
    · rw [State.windowed, State.setPort_port_self]
  case reqLow =>
    intro s port seq hok hup hst hlow hcalm
    have hexec := exec_parkReq_full (seq := seq) hok hup hst
    rw [hlow, hcalm, Bool.not_false, Bool.and_true, if_pos rfl] at hexec
    have hturn := ((PortTurn.refl port s).setPark port 1).parkFrame 2 seq
    refine ⟨_, hexec, ?_, ?_, ?_, hturn.others, hturn.rest⟩
    · rw [State.parkFrame_portSt, State.setPark_parkState _ _ (by decide)]
    · rw [State.parkFrame_port, State.setPark_port, State.setPark_parkTx]
    · rw [State.parkFrame_port, State.setPark_port]
  case reqBusy =>
    intro s port seq hok hup hst hbusy
    have hexec := exec_parkReq_full (seq := seq) hok hup hst
    rw [if_neg (by rcases hbusy with h | h <;> simp [h])] at hexec
    exact ⟨_, hexec, s.pushFrame_txq port _, fun q hq => s.setPort_port_ne _ hq, rfl⟩
  case crossing =>
    intro s port seq r hok hup hst hreq
    have hturn := ((PortTurn.refl port s).parkFrame 4 r).parkNow
    refine ⟨_, exec_parkReq_parking hok hup hst hreq, State.parkNow_parkState _ _, ?_, ?_, hturn.others, hturn.rest⟩
    · rw [State.parkNow_port, State.parkFrame_port]
    · rw [State.parkNow_port]
  case ack =>
    intro s port seq hok hup hst hreq
    have hturn := ((PortTurn.refl port s).parkFrame 4 seq).parkNow
    refine ⟨_, exec_parkAck_parking hok hup hst hreq, State.parkNow_parkState _ _, ?_, ?_, State.parkNow_parks _ _, hturn.others, hturn.rest⟩
    · rw [State.parkNow_port, State.parkFrame_port]
    · rw [State.parkNow_port]
  case unasked => exact fun s port seq h => ⟨s, exec_parkAck_unasked h, rfl⟩
  case nak =>
    intro s port seq hok hup hst hreq
    have hturn := (PortTurn.refl port s).parkFull
    refine ⟨_, exec_parkNak_parking hok hup hst hreq, s.parkFull_parkState port, ?_, ?_, hturn.others, hturn.rest⟩
    · rw [State.parkFull_port]
    · rw [State.parkFull_port]
  case go =>
    intro s port seq hok hup hst
    have hturn := (PortTurn.refl port s).parkNow
    refine ⟨_, exec_parkGo_parking hok hup hst, s.parkNow_parkState port, ?_, ?_, s.parkNow_parks port, hturn.others, hturn.rest⟩
    · rw [State.parkNow_port]
    · rw [State.parkNow_port]
  case timeout =>
    intro s port hst
    have hturn := (PortTurn.refl port s).parkFull
    refine ⟨_, exec_parkAnswerTimeout_parking hst, s.parkFull_parkState port, ?_, hturn.others, hturn.rest⟩
    rw [State.parkFull_port]
  case noTimeout => exact fun s port h => ⟨s, exec_parkAnswerTimeout_other h, rfl⟩
  case wakeFull =>
    intro s port seq hok hup hst
    have hexec := exec_wake_full (seq := seq) hok hup hst
    rw [State.answerWake_of_owed (q := seq) (by rw [State.oweWake, State.setPort_port_self])] at hexec
    have hturn : PortTurn port s (((s.oweWake port seq).setPort port { (s.oweWake port seq).port port with wakeOwed := none }).parkFrame
        port 6 seq) := (((PortTurn.refl port s).setPort_kept (by rfl)).setPort_kept (by rfl)).parkFrame 6 seq
    refine ⟨_, hexec, ?_, hst, ?_, hturn.others, rfl⟩
    · rw [State.parkFrame_port, State.setPort_port_self, State.oweWake, State.setPort_port_self]
      rfl
    · rw [State.parkFrame_port, State.setPort_port_self]
  case wakeParked =>
    intro s port seq hok hup hst
    have hturn : PortTurn port s ((s.oweWake port seq).wakeLanes port) := ((PortTurn.refl port s).setPort_kept (by rfl)).wakeLanes
    refine ⟨_, exec_wake_parked hok hup hst, State.wakeLanes_parkState _ _, ?_, ?_, ?_, State.wakeLanes_wakes _ _, hturn.others, hturn.rest⟩
    · rw [State.wakeLanes_port]
    · rw [State.wakeLanes_port, State.oweWake, State.setPort_port_self]
    · rw [State.wakeLanes_port, State.oweWake, State.setPort_port_self]
  case lockedOwed =>
    intro s port seq hst howed
    have hexec := exec_lanesLocked_owed hst howed
    rw [State.answerWake_of_owed (q := seq) (by rw [State.lockLanes, State.setPort_port_self, howed])] at hexec
    have hturn : PortTurn port s (((((s.lockLanes port).setPort port { (s.lockLanes port).port port with wakeOwed := none }).parkFrame
        port 6 seq)).parkFull port) :=
      ((((PortTurn.refl port s).setPort_kept (by rfl)).setPort_kept (by rfl)).parkFrame 6 seq).parkFull
    refine ⟨_, hexec, State.parkFull_parkState _ _, ?_, ?_, hturn.others, hturn.rest⟩
    · rw [State.parkFull_port, State.parkFrame_port, State.setPort_port_self, State.lockLanes, State.setPort_port_self]
      rfl
    · rw [State.parkFull_port, State.parkFrame_port, State.setPort_port_self]
  case lockedFirst =>
    intro s port hst howed hack
    refine ⟨_, exec_lanesLocked_unacked hst howed hack, ?_, ?_, fun q hq => s.setPort_port_ne _ hq, rfl⟩
    · rw [State.lockLanes, State.setPort_port_self]
    · rw [State.lockLanes, State.setPort_port_self]
  case wakeAckLocked =>
    intro s port seq hok hup hst hreq hlocked
    have hexec := exec_wakeAck_waking hok hup hst hreq
    rw [hlocked, if_pos rfl] at hexec
    have hturn := (PortTurn.refl port s).parkFull
    refine ⟨_, hexec, s.parkFull_parkState port, ?_, hturn.others, hturn.rest⟩
    rw [State.parkFull_port]
  case wakeAckFirst =>
    intro s port seq hok hup hst hreq hlocked
    have hexec := exec_wakeAck_waking hok hup hst hreq
    rw [hlocked, if_neg Bool.false_ne_true] at hexec
    refine ⟨_, hexec, ?_, ?_, fun q hq => s.setPort_port_ne _ hq, rfl⟩
    · rw [State.setPort_port_self]
    · rw [State.setPort_port_self]
  case wakeAgain =>
    intro s port seq hst hack hreq hfew
    have hturn : PortTurn port s ((s.setPort port { s.port port with wakes := (s.port port).wakes + 1 }).parkFrame port 5 seq) :=
      ((PortTurn.refl port s).setPort_kept (by rfl)).parkFrame 5 seq
    refine ⟨_, exec_wakeTimeout_again hst hack hreq hfew, ?_, ?_, hturn.others, rfl⟩
    · rw [State.parkFrame_port, State.setPort_port_self]
      rfl
    · rw [State.parkFrame_port, State.setPort_port_self]
  case wakeLast =>
    intro s port seq _ hst hack hreq hmany
    have hlost := s.linkFail_lost port 0 none false
    exact ⟨_, exec_wakeTimeout_last hst hack hreq hmany, hlost.link, hlost.park, hlost.downs⟩
  case missedFew =>
    intro s port missed hst hany
    have hturn : PortTurn port s (s.missNoted port missed) := ((PortTurn.refl port s).setPort_kept (by rfl)).phyCount _ _ _
    refine ⟨_, exec_parkRefresh_few hst hany, ?_, ?_, hturn.others, hturn.rest⟩
    · rw [State.missNoted, State.phyCount_port, State.setPort_port_self]
    · rw [State.missNoted, State.phyCount_port, State.setPort_port_self]
  case missedThree =>
    intro s port missed _ hst hany
    obtain ⟨l, hexec⟩ := exec_parkRefresh_third hst hany
    have hlost := (s.missNoted port missed).linkFail_lost port 0 (some l) false
    refine ⟨_, hexec, hlost.link, hlost.park, hlost.downs.trans ?_⟩
    rw [State.missNoted, State.phyCount_other _ _ _ (by decide) (by decide), State.setPort_reg]

end Sys2Proof.Machine
end

section
/-! PROOFS. Frames of the ports: what is received, dropped and counted (R334, R336, R337, R351, R352, R356), what is sent (R333), answers to
ARP, neighbour discovery and echo (R337), and the FEC counts of a second (R343). -/
namespace Sys2Proof.Machine
open Sys2Proof Sys2Proof.Safety
variable {s t u : State} {p q sub i n : Nat} {f : Frame} {g : TxFrame} {ip : IpHead} {pkt : Packet}

/-! ## Counts and bytes -/

/-- From `s` to `t` only events, bytes for the energy model, the loss counters and registers named by `P` may differ. -/
structure TallyFrame (P : Nat → Prop) (s t : State) : Prop where
  rest : t = { s with regs := t.regs, evt := t.evt, pwr := t.pwr }
  regs : ∀ a, ¬P a → (∀ k, k < 3 → a ≠ R.EVT_LOSS k) → t.reg a = s.reg a

theorem TallyFrame.refl (P : Nat → Prop) (s : State) : TallyFrame P s s := ⟨rfl, fun _ _ _ => rfl⟩

theorem TallyFrame.trans {P : Nat → Prop} (h : TallyFrame P s t) (k : TallyFrame P t u) : TallyFrame P s u :=
  ⟨by rw [k.rest, h.rest], fun a ha hev => (k.regs a ha hev).trans (h.regs a ha hev)⟩

theorem TallyFrame.note {P : Nat → Prop} (h : TallyFrame P s t) (k : NoteFrame P t u) : TallyFrame P s u :=
  h.trans ⟨by rw [k.rest], k.regs⟩

theorem TallyFrame.useBytes {P : Nat → Prop} (h : TallyFrame P s t) (p w n : Nat) : TallyFrame P s (t.useBytes p w n) :=
  h.trans ⟨rfl, fun _ _ _ => rfl⟩

theorem TallyFrame.bump {P : Nat → Prop} {a : Nat} (h : TallyFrame P s t) (ha : P a) (f : Fld) (n : Nat) : TallyFrame P s (t.bump a f n) :=
  h.note ((NoteFrame.refl P t).setF ha f _)

theorem TallyFrame.port {P : Nat → Prop} (h : TallyFrame P s t) (q : Nat) : t.port q = s.port q := by rw [State.port, h.rest, State.port]

theorem TallyFrame.rf_still (h : TallyFrame portCtr s t) {a : Nat} (f : Fld) (ha : Still a) : t.rf a f = s.rf a f := by
  rw [State.rf, h.regs a ha.1 ha.2, State.rf]

theorem castClass_bounds (c : CastKind) : 2 ≤ castClass c ∧ castClass c < 5 := by cases c <;> decide

theorem sizeClass_bounds (n : Nat) : 5 ≤ sizeClass n ∧ sizeClass n < 14 := by
  unfold sizeClass
  split_ifs <;> decide

/-! ## A good frame received (R352, R356) -/

theorem State.countRx_frame (s : State) (p : Nat) (f : Frame) : TallyFrame portCtr s (s.countRx p f) := by
  have hcast := castClass_bounds f.cast
  have hsize := sizeClass_bounds f.len
  unfold State.countRx
  exact ((TallyFrame.refl _ s).useBytes _ _ _).note
    ((((State.rxCount_frame _ _ _ (by decide)).rxCount _ _ (by decide)).rxCount _ _ (by omega)).rxCount _ _ (by omega))

/-- Octets and frames. -/
theorem State.countRx_octets (s : State) (p : Nat) (f : Frame) : fld ((s.countRx p f).reg (R.PORT_RX_COUNTER p 0)) 0 48 =
    (fld (s.reg (R.PORT_RX_COUNTER p 0)) 0 48 + f.len) % 2 ^ 48 := by
  have hcast := castClass_bounds f.cast
  have hsize := sizeClass_bounds f.len
  rw [State.countRx, State.rxCount_other _ _ _ (by decide) (by omega), State.rxCount_other _ _ _ (by decide) (by omega),
    State.rxCount_other _ _ _ (by decide) (by decide), State.rxCount_self _ _ _ (by decide)]
  rfl

theorem State.countRx_frames (s : State) (p : Nat) (f : Frame) : fld ((s.countRx p f).reg (R.PORT_RX_COUNTER p 1)) 0 48 =
    (fld (s.reg (R.PORT_RX_COUNTER p 1)) 0 48 + 1) % 2 ^ 48 := by
  have hcast := castClass_bounds f.cast
  have hsize := sizeClass_bounds f.len
  rw [State.countRx, State.rxCount_other _ _ _ (by decide) (by omega), State.rxCount_other _ _ _ (by decide) (by omega),
    State.rxCount_self _ _ _ (by decide), State.rxCount_other _ _ _ (by decide) (by decide)]
  rfl

/-- The counters of frames that are dropped or marked stand. -/
theorem State.countRx_other (s : State) (p : Nat) (f : Frame) (hlow : 14 ≤ n) (hn : n < 32) :
    (s.countRx p f).reg (R.PORT_RX_COUNTER p n) = s.reg (R.PORT_RX_COUNTER p n) := by
  have hcast := castClass_bounds f.cast
  have hsize := sizeClass_bounds f.len
  rw [State.countRx, State.rxCount_other _ _ _ hn (by omega), State.rxCount_other _ _ _ hn (by omega),
    State.rxCount_other _ _ _ hn (by omega), State.rxCount_other _ _ _ hn (by omega)]
  rfl

/-- A good frame that is dropped into RX_DROP_OTHER. -/
theorem State.countRx_dropped (s : State) (p : Nat) (f : Frame) :
    fld (((s.countRx p f).rxCount p 21 1).reg (R.PORT_RX_COUNTER p 21)) 0 48 = (fld (s.reg (R.PORT_RX_COUNTER p 21)) 0 48 + 1) % 2 ^ 48 ∧
    fld (((s.countRx p f).rxCount p 21 1).reg (R.PORT_RX_COUNTER p 1)) 0 48 = (fld (s.reg (R.PORT_RX_COUNTER p 1)) 0 48 + 1) % 2 ^ 48 ∧
    (s.countRx p f).rxCount p 21 1 = { s with regs := ((s.countRx p f).rxCount p 21 1).regs, evt := ((s.countRx p f).rxCount p 21 1).evt
                                              pwr := ((s.countRx p f).rxCount p 21 1).pwr } := by
  refine ⟨?_, ?_, ((s.countRx_frame p f).note (State.rxCount_frame _ p 1 (by decide))).rest⟩
  · rw [State.rxCount_self _ _ _ (by decide), State.countRx_other _ _ _ (by decide) (by decide)]
  · rw [State.rxCount_other _ _ _ (by decide) (by decide), State.countRx_frames]

theorem State.tagOk_congr (h : ∀ x, t.portCfg p x = s.portCfg p x) (f : Frame) : t.tagOk p f = s.tagOk p f := by
  unfold State.tagOk
  split
  · rfl
  · rw [h, h]

theorem State.countRx_tagOk (s : State) (p : Nat) (f g : Frame) : (s.countRx p f).tagOk p g = s.tagOk p g :=
  State.tagOk_congr (fun x => (s.countRx_frame p f).rf_still x (still_portCfg p)) g

theorem still_xportCfg : Still R.XPORT_CFG := by
  refine ⟨fun ⟨q, n, hn, hq⟩ => ?_, fun k hk => ?_⟩
  · unfold R.PORT_RX_COUNTER R.PORT_TX_COUNTER R.PORT_PHY_COUNTER R.XPORT_CFG at hq
    omega
  · unfold R.EVT_LOSS R.XPORT_CFG
    omega

/-- A packet that arrives with a CE mark (R338). -/
def State.countMark (s : State) (p : Nat) (ip : IpHead) : State := if ip.ecn = 3 then s.rxCount p 22 1 else s

theorem State.countMark_frame (s : State) (p : Nat) (ip : IpHead) : NoteFrame portCtr s (s.countMark p ip) :=
  (s.rxCount_frame p 1 (by decide)).ite (.refl _ s)

theorem State.countMark_other (s : State) (p : Nat) (ip : IpHead) (hn : n < 22) :
    (s.countMark p ip).reg (R.PORT_RX_COUNTER p n) = s.reg (R.PORT_RX_COUNTER p n) := by
  unfold State.countMark
  split
  · exact s.rxCount_other p 1 (by omega) (by omega)
  · rfl

/-- A Sirri frame that is counted. -/
def State.countSirri (s : State) (p : Nat) (f : Frame) (ip : IpHead) : State := (s.countRx p f).countMark p ip

theorem State.countSirri_frame (s : State) (p : Nat) (f : Frame) (ip : IpHead) : TallyFrame portCtr s (s.countSirri p f ip) :=
  (s.countRx_frame p f).note (State.countMark_frame _ p ip)

theorem State.countSirri_rxFill (s : State) (p : Nat) (f : Frame) (ip : IpHead) : (s.countSirri p f ip).rxFill p = s.rxFill p := by
  rw [State.rxFill, (s.countSirri_frame p f ip).port, State.rxFill]

/-- A frame joins the receive buffer. -/
def State.keepFrame (s : State) (p : Nat) (f : Frame) : State := (s.setPort p { s.port p with rxq := (s.port p).rxq ++ [f] }).pfcCheck p

theorem State.acceptFrame_sirri (hkind : f.kind = .sirri ip pkt) (hdst : ip.dstPort = s.rf R.XPORT_CFG F.XPORT_CFG_UDP_PORT) :
    s.acceptFrame p f = if 1048576 < (s.countMark p ip).rxFill p + f.len then (s.countMark p ip).rxCount p 20 1
      else (s.countMark p ip).keepFrame p f := by
  rw [State.acceptFrame, hkind]
  exact if_neg (not_not_intro hdst)

/-! ## Frames received (R334, R336, R337) -/

theorem exec_portFrameRx_down {ok : Bool} (hdown : s.linkUp p sub = false) : exec (.portFrameRx p sub f ok) s = .next s :=
  congrArg Host.Outcome.next (if_pos (by rw [hdown]; rfl))

theorem exec_portFrameRx_badFcs (hup : s.linkUp p sub = true) :
    exec (.portFrameRx p sub f false) s = .next ((if carriesSirri f then s.dropPkt else s).rxCount p 14 1) :=
  congrArg Host.Outcome.next ((if_neg (by rw [hup]; decide)).trans (if_pos rfl))

theorem exec_portFrameRx_short (hup : s.linkUp p sub = true) (hlen : f.len < 64) :
    exec (.portFrameRx p sub f true) s = .next (s.rxCount p 15 1) :=
  congrArg Host.Outcome.next ((if_neg (by rw [hup]; decide)).trans ((if_neg (by decide)).trans (if_pos hlen)))

theorem exec_portFrameRx_long (hup : s.linkUp p sub = true) (hlen : 64 ≤ f.len) (hmax : s.portCfg p F.PORT_CFG_MAX_FRAME < f.len) :
    exec (.portFrameRx p sub f true) s = .next (s.rxCount p 16 1) :=
  congrArg Host.Outcome.next ((if_neg (by rw [hup]; decide)).trans ((if_neg (by decide)).trans ((if_neg (Nat.not_lt.2 hlen)).trans (if_pos hmax))))

section
variable (hup : s.linkUp p sub = true) (hlen : 64 ≤ f.len) (hmax : f.len ≤ s.portCfg p F.PORT_CFG_MAX_FRAME)
include hup hlen hmax

theorem exec_portFrameRx_good : exec (.portFrameRx p sub f true) s = .next
    (if (s.countRx p f).tagOk p f then (s.countRx p f).acceptFrame p f else (s.countRx p f).rxCount p 21 1) :=
  congrArg Host.Outcome.next ((if_neg (by rw [hup]; decide)).trans ((if_neg (by decide)).trans
    ((if_neg (Nat.not_lt.2 hlen)).trans (if_neg (Nat.not_lt.2 hmax)))))

theorem exec_portFrameRx_tagged (htag : s.tagOk p f = false) :
    exec (.portFrameRx p sub f true) s = .next ((s.countRx p f).rxCount p 21 1) := by
  rw [exec_portFrameRx_good hup hlen hmax, State.countRx_tagOk, htag, if_neg Bool.false_ne_true]

theorem exec_portFrameRx_other (htag : s.tagOk p f = true) (hkind : f.kind = .other) :
    exec (.portFrameRx p sub f true) s = .next ((s.countRx p f).rxCount p 21 1) := by
  rw [exec_portFrameRx_good hup hlen hmax, State.countRx_tagOk, htag, if_pos rfl, State.acceptFrame, hkind]

theorem exec_portFrameRx_sirri (htag : s.tagOk p f = true) (hkind : f.kind = .sirri ip pkt)
    (hdst : ip.dstPort = s.rf R.XPORT_CFG F.XPORT_CFG_UDP_PORT) : exec (.portFrameRx p sub f true) s = .next
      (if 1048576 < s.rxFill p + f.len then (s.countSirri p f ip).rxCount p 20 1 else (s.countSirri p f ip).keepFrame p f) := by
  have hdst' := hdst.trans ((s.countRx_frame p f).rf_still F.XPORT_CFG_UDP_PORT still_xportCfg).symm
  rw [exec_portFrameRx_good hup hlen hmax, State.countRx_tagOk, htag, if_pos rfl, State.acceptFrame_sirri hkind hdst', ← State.countSirri,
    State.countSirri_rxFill]

end

/-! ## The receive buffer (R334, R339) -/

/-- From `s` to `t` PFC frames may have been handed to port `p` and PORT_STATUS changed; the receive buffers and the counters stand. -/
structure RxKept (p : Nat) (s t : State) : Prop where
  rest : t = { s with regs := t.regs, ports := t.ports }
  others : ∀ q, q ≠ p → t.port q = s.port q
  rxq : (t.port p).rxq = (s.port p).rxq
  ctr : ∀ a, portCtr a → t.reg a = s.reg a

theorem RxKept.refl (p : Nat) (s : State) : RxKept p s s := ⟨rfl, fun _ _ => rfl, rfl, fun _ _ => rfl⟩

theorem RxKept.trans (h : RxKept p s t) (k : RxKept p t u) : RxKept p s u :=
  ⟨by rw [k.rest, h.rest], fun q hq => (k.others q hq).trans (h.others q hq), k.rxq.trans h.rxq, fun a ha => (k.ctr a ha).trans (h.ctr a ha)⟩

theorem RxKept.ite {c : Prop} [Decidable c] (h : RxKept p s t) (k : RxKept p s u) : RxKept p s (if c then t else u) := by
  split
  · exact h
  · exact k

theorem RxKept.setPortSt (h : RxKept p s t) (f : Fld) (x : Nat) : RxKept p s (t.setPortSt p f x) := by
  have hport := (t.setPortSt_frame p f x).port
  have hctr {a : Nat} := (t.setPortSt_frame p f x).ctr (a := a)
  have heq := t.setPortSt_eq p f x
  generalize t.setPortSt p f x = v at hport hctr heq ⊢
  exact h.trans ⟨by rw [heq], fun q _ => hport q, by rw [hport], fun a ha => hctr ha⟩

theorem RxKept.pfcFrame (h : RxKept p s t) (quanta : Nat) : RxKept p s (t.pfcFrame p quanta) := by
  unfold State.pfcFrame State.pushFrame
  exact h.trans ⟨rfl, fun q hq => t.setPort_port_ne _ hq, by rw [State.setPort_port_self], fun _ _ => State.setPort_reg _ _ _⟩

/-- The fill and the PFC frame it calls for (R339). -/
theorem State.pfcCheck_rxKept (s : State) (p : Nat) : RxKept p s (s.pfcCheck p) := by
  have hfill := (RxKept.refl p s).setPortSt F.PORT_STATUS_RX_FILL (min 1024 (s.rxFill p / 1024))
  unfold State.pfcCheck
  dsimp only
  generalize s.setPortSt p F.PORT_STATUS_RX_FILL (min 1024 (s.rxFill p / 1024)) = v at hfill ⊢
  exact ((((hfill.setPortSt _ _).pfcFrame _).ite hfill).ite (((hfill.setPortSt _ _).pfcFrame _).ite hfill)).ite (hfill.setPortSt _ _)

theorem State.keepFrame_rxq (s : State) (p : Nat) (f : Frame) : ((s.keepFrame p f).port p).rxq = (s.port p).rxq ++ [f] := by
  rw [State.keepFrame, (State.pfcCheck_rxKept _ p).rxq, State.setPort_port_self]

theorem State.keepFrame_port_ne (s : State) (f : Frame) (h : q ≠ p) : (s.keepFrame p f).port q = s.port q := by
  rw [State.keepFrame, (State.pfcCheck_rxKept _ p).others q h, State.setPort_port_ne _ _ h]

theorem State.keepFrame_ctr {a : Nat} (s : State) (p : Nat) (f : Frame) (ha : portCtr a) : (s.keepFrame p f).reg a = s.reg a := by
  rw [State.keepFrame, (State.pfcCheck_rxKept _ p).ctr a ha, State.setPort_reg]

theorem State.setPort_rest {x : Port} (h : t = { s.setPort p x with regs := t.regs, ports := t.ports }) :
    t = { s with regs := t.regs, ports := t.ports } := h

theorem State.keepFrame_rest (s : State) (p : Nat) (f : Frame) :
    s.keepFrame p f = { s with regs := (s.keepFrame p f).regs, ports := (s.keepFrame p f).ports } := by
  unfold State.keepFrame
  exact State.setPort_rest (State.pfcCheck_rxKept _ p).rest

/-- After counts, a change of registers and ports. -/
theorem TallyFrame.ports_eq {P : Nat → Prop} (h : TallyFrame P s t) (k : u = { t with regs := u.regs, ports := u.ports }) :
    u = { s with regs := u.regs, evt := u.evt, ports := u.ports, pwr := u.pwr } := by
  rw [k, h.rest]

/-! ## Frames sent (R333, R352) -/

/-- The four counters of every frame sent. -/
def State.countSent (s : State) (p : Nat) (g : TxFrame) : State :=
  (((s.txCount p 0 g.frame.len).txCount p 1 1).txCount p (castClass g.frame.cast) 1).txCount p (sizeClass g.frame.len) 1

theorem State.countSent_frame (s : State) (p : Nat) (g : TxFrame) : NoteFrame portCtr s (s.countSent p g) := by
  have hcast := castClass_bounds g.frame.cast
  have hsize := sizeClass_bounds g.frame.len
  exact (((State.txCount_frame _ _ _ (by decide)).txCount _ _ (by decide)).txCount _ _ (by omega)).txCount _ _ (by omega)

theorem State.countSent_octets (s : State) (p : Nat) (g : TxFrame) : fld ((s.countSent p g).reg (R.PORT_TX_COUNTER p 0)) 0 48 =
    (fld (s.reg (R.PORT_TX_COUNTER p 0)) 0 48 + g.frame.len) % 2 ^ 48 := by
  have hcast := castClass_bounds g.frame.cast
  have hsize := sizeClass_bounds g.frame.len
  rw [State.countSent, State.txCount_other _ _ _ (by decide) (by omega), State.txCount_other _ _ _ (by decide) (by omega),
    State.txCount_other _ _ _ (by decide) (by decide), State.txCount_self _ _ _ (by decide)]

theorem State.countSent_frames (s : State) (p : Nat) (g : TxFrame) : fld ((s.countSent p g).reg (R.PORT_TX_COUNTER p 1)) 0 48 =
    (fld (s.reg (R.PORT_TX_COUNTER p 1)) 0 48 + 1) % 2 ^ 48 := by
  have hcast := castClass_bounds g.frame.cast
  have hsize := sizeClass_bounds g.frame.len
  rw [State.countSent, State.txCount_other _ _ _ (by decide) (by omega), State.txCount_other _ _ _ (by decide) (by omega),
    State.txCount_self _ _ _ (by decide), State.txCount_other _ _ _ (by decide) (by decide)]

/-- The counter of PFC frames and the wards' counters. -/
def lateCtr (p a : Nat) : Prop := a = R.PORT_TX_COUNTER p 14 ∨ ∃ w < 8, ∃ k < 2, a = R.PORT_WARD_COUNTER p w k

theorem State.countTx_later (s : State) (p : Nat) (g : TxFrame) : TallyFrame (lateCtr p) (s.countSent p g) (s.countTx p g) := by
  have hrefl := TallyFrame.refl (lateCtr p) (s.countSent p g)
  have hpfc : TallyFrame (lateCtr p) (s.countSent p g) (match g.frame.kind with
      | .pfc _ _ => (s.countSent p g).txCount p 14 1
      | _ => s.countSent p g) := by
    split
    · exact hrefl.note ((NoteFrame.refl _ _).portCount (.inl rfl) _ _)
    · exact hrefl
  unfold State.countTx
  dsimp only
  split
  · split
    · next hw => exact ((hpfc.useBytes _ _ _).bump (.inr ⟨_, hw, 0, by decide, rfl⟩) _ _).bump (.inr ⟨_, hw, 1, by decide, rfl⟩) _ _
    · exact hpfc.useBytes _ _ _
  · exact hpfc.useBytes _ _ _

theorem not_lateCtr_tx (h : n ≠ 14) (hn : n < 32) : ¬lateCtr p (R.PORT_TX_COUNTER p n) := by
  unfold lateCtr R.PORT_TX_COUNTER R.PORT_WARD_COUNTER
  omega

/-- Octets and frames, beside PFC frames and what a ward is charged with. -/
theorem State.countTx_ctr (s : State) (p : Nat) (g : TxFrame) (h : n ≠ 14) (hn : n < 32) :
    (s.countTx p g).reg (R.PORT_TX_COUNTER p n) = (s.countSent p g).reg (R.PORT_TX_COUNTER p n) :=
  (s.countTx_later p g).regs _ (not_lateCtr_tx h hn) (portCtr_ne_evtLoss (portCtr_tx p hn))

theorem State.countTx_frame (s : State) (p : Nat) (g : TxFrame) : TallyFrame (fun _ => True) s (s.countTx p g) := by
  have hall {P : Nat → Prop} {u v : State} (h : TallyFrame P u v) : TallyFrame (fun _ => True) u v := ⟨h.rest, fun _ ha => absurd trivial ha⟩
  exact (hall ((TallyFrame.refl _ s).note (s.countSent_frame p g))).trans (hall (s.countTx_later p g))

/-- The frame has gone. -/
def State.sendOut (s : State) (p sub i : Nat) (g : TxFrame) : State :=
  s.setPort p { s.port p with txq := (s.port p).txq.eraseIdx i, wire := some (s.sentFrame p sub g, sub)
                              turn := if g.sub.isNone then 1 - sub else (s.port p).turn }

theorem exec_portFrameTx_some (hup : s.linkUp p sub = true) (hfind : (buffered 0 (s.port p).txq).findIdx? (s.mayGoOut p sub) = some i)
    (hget : (s.port p).txq[i]? = some g) : exec (.portFrameTx p sub) s = .next ((s.sendOut p sub i g).countTx p g) := by
  refine congrArg Host.Outcome.next ((if_neg (by rw [hup]; decide)).trans ?_)
  rw [hfind]
  dsimp only
  rw [hget]
  rfl

theorem exec_portFrameTx_none (hfind : (buffered 0 (s.port p).txq).findIdx? (s.mayGoOut p sub) = none) :
    exec (.portFrameTx p sub) s = .next s := by
  refine congrArg Host.Outcome.next ?_
  rw [hfind]
  exact ite_self _

/-! ## ARP, neighbour discovery and echo (R337) -/

/-- A frame that is handed to a port stands behind those that were there. -/
theorem State.handFrame_last (s : State) (p : Nat) (g : TxFrame) :
    ((s.handFrame p g).port p).txq[(s.port p).txq.length]? = some g ∧
      ((s.handFrame p g).port p).txq.take (s.port p).txq.length = (s.port p).txq := by
  obtain ⟨l, hl⟩ := ((PortTurn.refl p (s.pushFrame p g)).parkCheck).txq
  rw [State.pushFrame_txq] at hl
  rw [State.handFrame, hl]
  exact ⟨by simp, by simp⟩

/-- The answer to a request for the port's address. -/
def State.arpAnswer (s : State) (p sub : Nat) (v6 : Bool) (peer : Nat) : TxFrame :=
  { frame := s.frameOf p (if v6 then 72 else 28) .unicast .arpNd, ward := none, sub := some sub, etype := if v6 then 0x86DD else 0x0806
    bytes := (leBytes 6 peer).reverse ++ (leBytes 6 (s.macOf p sub)).reverse }

theorem exec_arpNdRequest_own {v6 : Bool} {target : Nat} (peer : Nat) (hup : s.linkUp p sub = true) (hown : s.ownAddr p v6 target = true) :
    exec (.arpNdRequest p sub v6 target peer) s = .next (s.handFrame p (s.arpAnswer p sub v6 peer)) :=
  congrArg Host.Outcome.next (if_pos (by rw [hup, hown]; rfl))

theorem exec_arpNdRequest_other {v6 : Bool} {target : Nat} (peer : Nat) (hup : s.linkUp p sub = true)
    (hother : s.ownAddr p v6 target = false) : exec (.arpNdRequest p sub v6 target peer) s = .next (s.rxCount p 21 1) :=
  congrArg Host.Outcome.next ((if_neg (by rw [hother, Bool.and_false]; exact Bool.false_ne_true)).trans (if_pos hup))

/-- The answer to an echo request. -/
def State.echoAnswer (s : State) (p sub : Nat) (v6 : Bool) (data : List Byte) : TxFrame :=
  { frame := s.frameOf p ((if v6 then 48 else 28) + data.length) .unicast .echo, ward := none, sub := some sub
    etype := if v6 then 0x86DD else 0x0800, bytes := data }

/-- The port in the second of an echo request. -/
def State.echoPort (s : State) (p : Nat) : Port :=
  if (s.port p).echoAt + 1000000 * cyclesPerUs ≤ s.now || (s.port p).echoes = 0 then { s.port p with echoes := 0, echoAt := s.now } else s.port p

theorem State.echoPort_txq (s : State) (p : Nat) : (s.echoPort p).txq = (s.port p).txq := by
  unfold State.echoPort
  split <;> rfl

theorem State.echoPort_few (s : State) (h : (s.port p).echoes < 1000) : (s.echoPort p).echoes < 1000 := by
  unfold State.echoPort
  split
  · exact (by decide : 0 < 1000)
  · exact h

/-- An answer is counted. -/
def Port.countEcho (x : Port) : Port := { x with echoes := x.echoes + 1 }

theorem Port.countEcho_txq (x : Port) : x.countEcho.txq = x.txq := rfl

theorem State.echoCounted_txq (s : State) (p : Nat) : (s.echoPort p).countEcho.txq = (s.port p).txq := by
  rw [Port.countEcho_txq, State.echoPort_txq]

theorem exec_icmpEcho_own {v6 : Bool} {target : Nat} (data : List Byte) (hup : s.linkUp p sub = true) (hown : s.ownAddr p v6 target = true) :
    exec (.icmpEcho p sub v6 target data) s = .next (if 1000 ≤ (s.echoPort p).echoes then s.setPort p (s.echoPort p)
      else (s.setPort p (s.echoPort p).countEcho).handFrame p (s.echoAnswer p sub v6 data)) :=
  congrArg Host.Outcome.next (if_pos (by rw [hup, hown]; rfl))

theorem exec_rxPause_up (hup : s.linkUp p sub = true) : exec (.rxPause p sub) s = .next (s.rxCount p 19 1) :=
  congrArg Host.Outcome.next (if_pos hup)

/-! ## The FEC counts of a second (R343) -/

/-- The counters of the first `n` lanes. -/
def State.countLanes (s : State) (p : Nat) (c : FecCounts) (n : Nat) : State :=
  (List.range n).foldl (fun s l => s.phyCount p (4 + l) (c.lanes.getD l 0)) s

theorem State.countLanes_succ (s : State) (p : Nat) (c : FecCounts) (n : Nat) :
    s.countLanes p c (n + 1) = (s.countLanes p c n).phyCount p (4 + n) (c.lanes.getD n 0) := by
  rw [State.countLanes, List.range_succ, List.foldl_append, State.countLanes]
  rfl

theorem State.countLanes_frame (s : State) (p : Nat) (c : FecCounts) : ∀ n ≤ 8, NoteFrame portCtr s (s.countLanes p c n) := by
  intro n
  induction n with
  | zero => exact fun _ => .refl _ s
  | succ n ih =>
    intro hn
    rw [State.countLanes_succ]
    exact (ih (by omega)).phyCount p _ (by omega)

/-- The counters below the lanes', and those of lanes not yet counted, stand. -/
theorem State.countLanes_other (s : State) (p : Nat) (c : FecCounts) {m : Nat} (hm : m < 32) : ∀ n ≤ 8, m < 4 ∨ 4 + n ≤ m →
    (s.countLanes p c n).reg (R.PORT_PHY_COUNTER p m) = s.reg (R.PORT_PHY_COUNTER p m) := by
  intro n
  induction n with
  | zero => exact fun _ _ => rfl
  | succ n ih =>
    intro hn h
    rw [State.countLanes_succ, State.phyCount_other _ _ _ hm (by omega), ih (by omega) (by omega)]

theorem State.countLanes_lane (s : State) (p : Nat) (c : FecCounts) {l : Nat} : ∀ n ≤ 8, l < n →
    fld ((s.countLanes p c n).reg (R.PORT_PHY_COUNTER p (4 + l))) 0 48 =
      (fld (s.reg (R.PORT_PHY_COUNTER p (4 + l))) 0 48 + c.lanes.getD l 0) % 2 ^ 48 := by
  intro n
  induction n with
  | zero => exact fun _ h => absurd h (Nat.not_lt_zero l)
  | succ n ih =>
    intro hn h
    rw [State.countLanes_succ]
    rcases Nat.lt_succ_iff_lt_or_eq.1 h with h | rfl
    · rw [State.phyCount_other _ _ _ (by omega) (by omega), ih (by omega) h]
    · rw [State.phyCount_self _ _ _ (by omega), s.countLanes_other p c (by omega) _ (by omega) (by omega)]

/-- The words and symbols of a second. -/
def State.countWords (s : State) (p : Nat) (c : FecCounts) : State :=
  (((s.phyCount p 0 c.words).phyCount p 1 c.corrected).phyCount p 2 c.uncorrectable).phyCount p 3 (fecSymbols c)

theorem State.countFec_eq (s : State) (p : Nat) (c : FecCounts) : s.countFec p c = (s.countWords p c).countLanes p c 8 := rfl

theorem State.countWords_frame (s : State) (p : Nat) (c : FecCounts) : NoteFrame portCtr s (s.countWords p c) :=
  (((s.phyCount_frame p _ (by decide)).phyCount p _ (by decide)).phyCount p _ (by decide)).phyCount p _ (by decide)

theorem State.countFec_frame (s : State) (p : Nat) (c : FecCounts) : NoteFrame portCtr s (s.countFec p c) :=
  (s.countWords_frame p c).trans (State.countLanes_frame _ p c 8 (Nat.le_refl 8))

theorem State.countFec_degrade (s : State) (p : Nat) (c : FecCounts) : (s.countFec p c).rf (R.PORT_FEC_THRESH p) F.PORT_FEC_THRESH_DEGRADE =
    s.rf (R.PORT_FEC_THRESH p) F.PORT_FEC_THRESH_DEGRADE := (s.countFec_frame p c).rf_still _ (still_portReg (o := 0x138) rfl (by decide))

theorem exec_fecDegrade_above {c : FecCounts} (h : s.rf (R.PORT_FEC_THRESH p) F.PORT_FEC_THRESH_DEGRADE < fecSymbols c) :
    exec (.fecDegrade p c) s = .next ((s.countFec p c).portEvent p 4 1 0 0) :=
  congrArg Host.Outcome.next (if_pos (by rw [State.countFec_degrade]; exact h))

theorem exec_fecDegrade_below {c : FecCounts} (h : fecSymbols c ≤ s.rf (R.PORT_FEC_THRESH p) F.PORT_FEC_THRESH_DEGRADE) :
    exec (.fecDegrade p c) s = .next (s.countFec p c) :=
  congrArg Host.Outcome.next (if_neg (by rw [State.countFec_degrade]; exact Nat.not_lt.2 h))

/-! ## The statement -/

/-- Settles O15. A frame's counters are apart from one another and from all that is looked at, so that each reads as it is counted. -/
theorem portFramesComplete : Obligations.PortFramesComplete := by
  unfold Obligations.PortFramesComplete
  refine ⟨?down, ?badFcs, ?short, ?long, ?kept, ?full, ?tag, ?other, ?sent, ?noneSent, ?arp, ?arpOther, ?echo, ?echoLimit, ?pause, ?fecAbove,
    ?fecBelow⟩
  case down => exact fun s port sub f ok hdown => ⟨s, exec_portFrameRx_down hdown, rfl⟩
  case badFcs =>
    intro s port sub f _ hup
    have hdrop : NoteFrame (· = R.XPORT_DROP_COUNT) s (if carriesSirri f then s.dropPkt else s) :=
      NoteFrame.ite ((NoteFrame.refl (· = R.XPORT_DROP_COUNT) s).setF rfl _ _) (.refl _ s)
    have hfcs : portCtr (R.PORT_RX_COUNTER port 14) := portCtr_rx port (by decide)
    refine ⟨_, exec_portFrameRx_badFcs hup, ?_, ?_⟩
    · rw [State.rxCount_self _ _ _ (by decide), hdrop.regs _ ?_ (portCtr_ne_evtLoss hfcs)]
      unfold R.PORT_RX_COUNTER R.XPORT_DROP_COUNT
      omega
    · rw [(State.rxCount_frame _ port 1 (by decide)).rest, hdrop.rest]
  case short =>
    intro s port sub f _ hup hlen
    exact ⟨_, exec_portFrameRx_short hup hlen, s.rxCount_self port 1 (by decide), (s.rxCount_frame port 1 (by decide)).rest⟩
  case long =>
    intro s port sub f _ hup hlen hmax
    exact ⟨_, exec_portFrameRx_long hup hlen hmax, s.rxCount_self port 1 (by decide), (s.rxCount_frame port 1 (by decide)).rest⟩
  case kept =>
    intro s port sub f ip pkt _ hup hlen hmax htag hkind hdst hroom
    have hexec := exec_portFrameRx_sirri hup hlen hmax htag hkind hdst
    rw [if_neg (Nat.not_lt.2 hroom)] at hexec
    have hframe := s.countSirri_frame port f ip
    refine ⟨_, hexec, ?_, ?_, ?_, fun q hq => ?_, hframe.ports_eq (State.keepFrame_rest _ port f)⟩
    · rw [State.keepFrame_rxq, hframe.port]
    · rw [State.keepFrame_ctr _ _ _ (portCtr_rx port (by decide)), State.countSirri, State.countMark_other _ _ _ (by decide),
        State.countRx_octets]
    · rw [State.keepFrame_ctr _ _ _ (portCtr_rx port (by decide)), State.countSirri, State.countMark_other _ _ _ (by decide),
        State.countRx_frames]
    · rw [State.keepFrame_port_ne _ _ hq, hframe.port]
  case full =>
    intro s port sub f ip pkt _ hup hlen hmax htag hkind hdst hfull
    have hexec := exec_portFrameRx_sirri hup hlen hmax htag hkind hdst
    rw [if_pos hfull] at hexec
    refine ⟨_, hexec, ?_, ?_, ((s.countSirri_frame port f ip).note (State.rxCount_frame _ port 1 (by decide))).rest⟩
    · rw [State.rxCount_self _ _ _ (by decide), State.countSirri, State.countMark_other _ _ _ (by decide),
        State.countRx_other _ _ _ (by decide) (by decide)]
    · rw [State.rxCount_other _ _ _ (by decide) (by decide), State.countSirri, State.countMark_other _ _ _ (by decide), State.countRx_frames]
  case tag =>
    intro s port sub f _ hup hlen hmax htag
    exact ⟨_, exec_portFrameRx_tagged hup hlen hmax htag, s.countRx_dropped port f⟩
  case other =>
    intro s port sub f _ hup hlen hmax htag hkind
    exact ⟨_, exec_portFrameRx_other hup hlen hmax htag hkind, s.countRx_dropped port f⟩
  case sent =>
    intro s port sub i g _ hup hfind hget
    have hframe := (s.sendOut port sub i g).countTx_frame port g
    have hport : ((s.sendOut port sub i g).countTx port g).port port = { s.port port with
        txq := (s.port port).txq.eraseIdx i, wire := some (s.sentFrame port sub g, sub)
        turn := if g.sub.isNone then 1 - sub else (s.port port).turn } := by
      rw [hframe.port, State.sendOut, State.setPort_port_self]
    refine ⟨_, exec_portFrameTx_some hup hfind hget, ?_, ?_, ?_, ?_, ?_, fun q hq => ?_, ?_⟩
    · rw [hport]
    · rw [hport]
    · rw [hport]
    · rw [State.countTx_ctr _ _ _ (by decide) (by decide), State.countSent_octets, State.sendOut, State.setPort_reg]
    · rw [State.countTx_ctr _ _ _ (by decide) (by decide), State.countSent_frames, State.sendOut, State.setPort_reg]
    · rw [hframe.port, State.sendOut, State.setPort_port_ne _ _ hq]
    · rw [hframe.rest]
      rfl
  case noneSent => exact fun s port sub hfind => ⟨s, exec_portFrameTx_none hfind, rfl⟩
  case arp =>
    intro s port sub v6 target peer hup hown
    have hturn := (PortTurn.refl port s).handFrame (s.arpAnswer port sub v6 peer)
    obtain ⟨hlast, hfront⟩ := s.handFrame_last port (s.arpAnswer port sub v6 peer)
    refine ⟨_, exec_arpNdRequest_own peer hup hown, ?_, hfront, hturn.others, hturn.rest⟩
    rw [hlast]
    rfl
  case arpOther =>
    intro s port sub v6 target peer _ hup hother
    exact ⟨_, exec_arpNdRequest_other peer hup hother, s.rxCount_self port 1 (by decide), (s.rxCount_frame port 1 (by decide)).rest⟩
  case echo =>
    intro s port sub v6 target data hup hown hfew
    have hexec := exec_icmpEcho_own data hup hown
    rw [if_neg (Nat.not_le.2 (s.echoPort_few hfew))] at hexec
    have hturn := ((PortTurn.refl port s).setPort_kept (s.echoCounted_txq port)).handFrame (s.echoAnswer port sub v6 data)
    obtain ⟨hlast, hfront⟩ := (s.setPort port (s.echoPort port).countEcho).handFrame_last port (s.echoAnswer port sub v6 data)
    rw [State.setPort_port_self, State.echoCounted_txq] at hlast hfront
    refine ⟨_, hexec, ?_, hfront, hturn.others, hturn.rest⟩
    rw [hlast]
    rfl
  case echoLimit =>
    intro s port sub v6 target data hup hown hmany hsecond
    have hexec := exec_icmpEcho_own data hup hown
    have hport : s.echoPort port = s.port port := if_neg (by simp; omega)
    rw [hport, if_pos hmany] at hexec
    exact ⟨_, hexec, by rw [State.setPort_port_self], fun q hq => s.setPort_port_ne _ hq, rfl⟩
  case pause =>
    intro s port sub _ hup
    exact ⟨_, exec_rxPause_up hup, s.rxCount_self port 1 (by decide), (s.rxCount_frame port 1 (by decide)).rest⟩
  case fecAbove => exact fun s port c _ h => ⟨_, exec_fecDegrade_above h, rfl⟩
  case fecBelow =>
    intro s port c _ h
    refine ⟨_, exec_fecDegrade_below h, ?_, ?_, fun l hl => ?_, (s.countFec_frame port c).rest⟩ <;> rw [State.countFec_eq]
    · rw [State.countLanes_other _ _ _ (by decide) _ (by decide) (by decide), State.countWords, State.phyCount_other _ _ _ (by decide) (by decide),
        State.phyCount_other _ _ _ (by decide) (by decide), State.phyCount_other _ _ _ (by decide) (by decide),
        State.phyCount_self _ _ _ (by decide)]
    · rw [State.countLanes_other _ _ _ (by decide) _ (by decide) (by decide), State.countWords, State.phyCount_self _ _ _ (by decide),
        State.phyCount_other _ _ _ (by decide) (by decide), State.phyCount_other _ _ _ (by decide) (by decide),
        State.phyCount_other _ _ _ (by decide) (by decide)]
    · rw [State.countLanes_lane _ _ _ _ (by decide) hl, State.countWords, State.phyCount_other _ _ _ (by omega) (by omega),
        State.phyCount_other _ _ _ (by omega) (by omega), State.phyCount_other _ _ _ (by omega) (by omega),
        State.phyCount_other _ _ _ (by omega) (by omega)]

end Sys2Proof.Machine
end

section
/-! PROOFS. Control writes of a host whose link is not served (R26, R362, R372). -/
namespace Sys2Proof.Machine
open Sys2Proof

/-- A host whose link is not served has its write answered with BOUNDS, whatever the write would do (R372). -/
theorem State.byHost_of_hostDown {s : State} (h : s.hostUp = false) (i : Instr) (f : State → Host.Outcome State Fault Refusal) :
    s.byHost .host i f = .next (s.answer St.bounds) := by
  simp [State.byHost, h]

/-- Settles O13: each of these rows is a control write by its requester, which the host link stands before. -/
theorem hostWritesNeedTheLink : Obligations.HostWritesNeedTheLink := by
  unfold Obligations.HostWritesNeedTheLink
  intro s hdown
  and_intros <;> intros <;> exact State.byHost_of_hostDown hdown _ _

end Sys2Proof.Machine
end

section
/-! PROOFS. Events leave the module: waiting keys enter a queue (R497, R498), and records go to the host ring (R500), the sideband (R501) and
the incident log (R502 to R504); interrupts that waited are raised (R380). -/
namespace Sys2Proof.Machine
open Sys2Proof Sys2Proof.Safety
variable {s t : State} {p : Nat} {r : EvRec} {l : List EvRec}

/-! ## Queues (R497, R498) -/

@[simp] theorem State.setPath_path_self (s : State) (p : Nat) (q : EvPath) : (s.setPath p q).path p = q := mget_mset_self _ _ p q

theorem State.enqueue_path_self (s : State) (p : Nat) (r : EvRec) : (s.enqueue p r).path p =
    { s.path p with queue := (s.path p).queue ++ [{ r with seq := (s.path p).seq % 65536 }], seq := (s.path p).seq + 1 } :=
  s.setPath_path_self p _

/-- The oldest alarm that waits enters a queue with room. -/
theorem exec_alarmDequeue_room (halarms : (s.path p).alarms = r :: l) (htakes : s.pathTakes p 0 = true) (hfree : 0 < s.pathFree p) :
    exec (.alarmDequeue p) s =
      .next ((s.setPath p { s.path p with alarms := l }).enqueue p { r with summary := decide (1 < r.count) }) := by
  change execAlarmDequeue p s = _
  simp [execAlarmDequeue, halarms, htakes, hfree]

/-- The oldest summary enters a queue with room above the alarm reserve. -/
theorem exec_summaryDequeue_room (hsums : (s.path p).sums = r :: l) (htakes : s.pathTakes p 1 = true)
    (hfree : alarmReserve p < s.pathFree p) :
    exec (.summaryDequeue p) s = .next ((s.setPath p { s.path p with sums := l }).enqueue p r) := by
  change execSummaryDequeue p s = _
  simp [execSummaryDequeue, hsums, htakes, hfree]

/-! ## The host ring (R500) -/

/-- The ring has become full, or not. -/
theorem State.noteFull_frame (s before : State) : s.noteFull before = { s with evt := (s.noteFull before).evt } := by
  unfold State.noteFull
  split <;> rfl

/-- PROD counts a record taken out of its queue, and no stall of the ring is noted. -/
def State.ringTaken (s : State) (r : EvRec) : State :=
  let t := ((s.dropRecs 0 [r]).addF R.EVT_HOST_PROD F.EVT_HOST_PROD_PROD 1).noteFull s
  { t with evt := { t.evt with stalled := false } }

theorem exec_hostRingWrite_ready (hready : s.ringReady = true) (hnext : s.nextRecs 0 1 = r :: l) : exec .hostRingWrite s =
    .next ((((s.ringTaken r).uWrite s.ringEntry 0 r.bytes).1).irq 0 ((s.ringTaken r).rf R.EVT_CTRL F.EVT_CTRL_IRQ_MIN_US)) := by
  change execHostRingWrite s = _
  simp only [execHostRingWrite, hnext, hready, if_true]
  rfl

theorem State.ringTaken_frame (s : State) (r : EvRec) :
    s.ringTaken r = { s with evt := (s.ringTaken r).evt, regs := (s.ringTaken r).regs } := by
  unfold State.ringTaken
  dsimp only
  rw [State.noteFull_frame]
  rfl

theorem State.ringTaken_prod (s : State) (r : EvRec) : (s.ringTaken r).rf R.EVT_HOST_PROD F.EVT_HOST_PROD_PROD =
    (s.rf R.EVT_HOST_PROD F.EVT_HOST_PROD_PROD + 1) % 2 ^ 32 := by
  have hreg : (s.ringTaken r).reg R.EVT_HOST_PROD = ((s.dropRecs 0 [r]).addF R.EVT_HOST_PROD F.EVT_HOST_PROD_PROD 1).reg R.EVT_HOST_PROD := by
    unfold State.ringTaken
    dsimp only
    rw [State.noteFull_frame]
    rfl
  rw [State.rf, hreg]
  exact State.setF_rf_self _ _ (by decide)

theorem not_memReg_hostProd : ¬ memReg R.EVT_HOST_PROD := by
  rintro (⟨p, h⟩ | ⟨st, h⟩ | ⟨st, h⟩) <;>
  · simp only [R.EVT_HOST_PROD, R.EVT_LOSS, R.MEM_ECC_COUNT, R.MEM_ERR_ADDR] at h
    omega

/-- An interrupt is no stall of the ring. -/
theorem State.irq_stalled (s : State) (v minUs : Nat) : (s.irq v minUs).evt.stalled = s.evt.stalled := by
  unfold State.irq
  split <;> rfl

/-- A record in the ring: what is written and raised with it leaves PROD as it was counted. -/
theorem State.ringTaken_write_spec {a v minUs : Nat} {bs : List Byte} (ht : t = (((s.ringTaken r).uWrite a 0 bs).1).irq v minUs) :
    t.rf R.EVT_HOST_PROD F.EVT_HOST_PROD_PROD = (s.rf R.EVT_HOST_PROD F.EVT_HOST_PROD_PROD + 1) % 2 ^ 32 ∧ t.evt.stalled = false ∧
      t.sup = s.sup ∧ t.cores = s.cores := by
  have hmem := State.uWrite_mframe (s.ringTaken r) a 0 bs (MemFrame.refl _)
  generalize ((s.ringTaken r).uWrite a 0 bs).1 = u at ht hmem
  have hrest := u.irq_frame v minUs
  rw [← ht] at hrest
  refine ⟨?_, ?_, ?_, ?_⟩
  · rw [← s.ringTaken_prod r, State.rf, State.reg, hrest, State.rf, ← hmem.regs _ not_memReg_hostProd, State.reg]
  · rw [ht, State.irq_stalled, hmem.evt]
    rfl
  · rw [hrest]
    exact hmem.sup.trans (by rw [s.ringTaken_frame r])
  · rw [hrest]
    exact hmem.cores.trans (by rw [s.ringTaken_frame r])

/-- The stall of the ring, as the other paths are told. -/
def State.stallTold (s : State) : State :=
  let t : State := { s with evt := { s.evt with stalled := true } }
  (t.logTo 1 { ev 0x3F01 1 0 0 with time := t.ns }).logTo 2 { ev 0x3F01 1 0 0 with time := t.ns }

theorem exec_hostRingStall_long (hen : s.rf R.EVT_CTRL F.EVT_CTRL_HOST_EN = 1) (hfull : s.ringFull = true) (hnew : s.evt.stalled = false)
    (hlong : s.evt.fullAt + 1800000000 ≤ s.now) : exec .hostRingStall s = .next s.stallTold :=
  congrArg Host.Outcome.next (if_pos (by simp [hen, hfull, hnew, hlong]))

theorem State.stallTold_frame (s : State) : EvFrame { s with evt := { s.evt with stalled := true } } s.stallTold :=
  ((EvFrame.refl _).logTo 1 _).logTo 2 _

/-! ## Interrupts that waited (R380) -/

theorem exec_irqMinExpiry_waited {v : Nat} (h : s.evt.holdOff = [(v, true)]) : exec (.irqMinExpiry v) s =
    .next { s with evt := { s.evt with msix := s.evt.msix ++ [v], holdOff := [(v, false)] } } := by
  change execIrqMinExpiry v s = _
  simp [execIrqMinExpiry, h]

/-! ## The sideband (R501) -/

/-- Records that GET_EVENTS returns wait for their acknowledgement. -/
def State.noteReturned (s : State) (l : List EvRec) : State :=
  { s with evt := { s.evt with
    returned := s.evt.returned ++ (l.map (fun r : EvRec => r.seq)).filter (fun n => !(s.evt.returned.contains n)) } }

theorem exec_getEvents_answered (h : s.sideband = true) : exec .getEvents s =
    .next ((s.noteReturned (s.nextRecs 1 8)).answer St.ok (BitVec.ofNat 64 (s.path 1).queue.length)
      (((s.nextRecs 1 8).map EvRec.bytes).flatten)) :=
  congrArg Host.Outcome.next (if_pos h)

/-- One record is in the order of delivery, whatever its class (R496). -/
theorem ordered_singleton (r : EvRec) : ordered [r] = [r] := by
  unfold ordered
  by_cases halarm : r.cls = 0
  · simp [halarm]
  · by_cases hlog : r.cls = 1 <;> cases hsum : r.summary <;> simp [halarm, hlog, hsum]

/-- A returned record is acknowledged by its number. -/
theorem ackedSeqs_singleton (r : EvRec) : ackedSeqs [r] [r.seq] r.seq = [r.seq] := by
  simp [ackedSeqs, ordered_singleton]

/-- No record of the sideband waits, returned or not. -/
def State.allAcked (s : State) : State :=
  let t := s.setPath 1 { s.path 1 with queue := [] }
  { t with evt := { t.evt with returned := [] } }

/-- The one record that was returned leaves its queue. -/
theorem exec_ackEvents_one (hsb : s.sideband = true) (hreturned : s.evt.returned = [r.seq]) (hqueue : (s.path 1).queue = [r]) :
    exec (.ackEvents r.seq) s = .next (s.allAcked.answer St.ok) := by
  refine congrArg Host.Outcome.next ((if_pos hsb).trans ?_)
  have hkept : (s.setPath 1 { s.path 1 with queue := [] }).evt.returned = [r.seq] := hreturned
  simp [State.allAcked, hqueue, hreturned, ackedSeqs_singleton, hkept]

/-! ## The incident log (R502, R503) -/

/-- A page that is due is programmed where the energy covers it, and waits where it does not. -/
theorem exec_incidentPageProgram_due (hup : s.evt.mcDown = false) (hseq : s.sup.seq = .on) (hrecs : (s.nextRecs 2 64).isEmpty = false)
    (hdue : s.pageDue = true) (hrate : s.pageAllowed = true) : exec .incidentPageProgram s =
      .next (if s.covers 60 false = true then (s.drew 2).putPage else (s.drew 2).deferPage) := by
  refine congrArg Host.Outcome.next (if_neg ?_)
  simp [hup, hseq, hrecs, hdue, hrate]

/-- A gauge in fault covers nothing (R538). -/
theorem State.covers_of_disagree (h : s.sup.disagree = true) (cost : Nat) (final : Bool) : s.covers cost final = false := by
  simp [State.covers, State.gaugeFault, h]

/-- A page that waits is noted, and the event of it goes to the paths. -/
theorem State.deferPage_frame (s : State) : EvFrame { s with evt := { s.evt with deferred := true } } s.deferPage := by
  unfold State.deferPage
  split
  · next h =>
    rw [← h]
    exact EvFrame.refl s
  · exact (EvFrame.refl _).raise _

theorem State.deferPage_evt (s : State) : s.deferPage.evt = { s.evt with paths := s.deferPage.evt.paths, deferred := true } := by
  conv_lhs => rw [s.deferPage_frame.rest]

theorem State.eraseBlock_evt (s : State) (b : Nat) : (s.eraseBlock b).evt = s.evt := by
  unfold State.eraseBlock
  dsimp only
  split
  · rfl
  · exact State.setF_evt _ _ _

theorem State.showPages_evt (s : State) : s.showPages.evt = s.evt := by
  unfold State.showPages
  dsimp only
  rw [State.setF_evt, State.setF_evt]

theorem State.nandPush_evt (s : State) (op : NandOp) : (s.nandPush op).evt = s.evt := rfl

/-- The page that is programmed is the newest, and the next one stands behind it in the ring. -/
theorem State.putPage_evt (s : State) : s.putPage.evt.pagePos = (s.evt.pagePos + 1) % 131072 ∧
    s.putPage.evt.pages.getLast? = some (s.evt.pagePos, s.nv.starts, s.nextRecs 2 64) := by
  have herase (c : Prop) [Decidable c] (u : State) (b : Nat) : (if c then u.eraseBlock b else u).evt = u.evt := by
    rw [apply_ite State.evt, State.eraseBlock_evt, ite_self]
  unfold State.putPage
  dsimp only
  rw [State.showPages_evt, State.nandPush_evt, herase]
  exact ⟨rfl, List.getLast?_concat⟩

theorem State.putPage_mem (s : State) : s.putPage.mem = s.mem := (TripFrame.refl s).putPage.mem

theorem State.deferPage_mem (s : State) : s.deferPage.mem = s.mem := by rw [s.deferPage_frame.rest]

/-! ## Pages read (R504) -/

/-- A page that is read: its number, and the read of its block. -/
def State.pageAsked (s : State) (page : Nat) : State :=
  (s.setF R.EVT_NAND_READ F.EVT_NAND_READ_PAGE (page % 2 ^ 17)).noteRead (1672 + page % 2 ^ 17 / 64)

/-- The page cannot be read: POISON, its count and its event. -/
def State.pageLost (s : State) (page : Nat) : State :=
  (((s.pageAsked page).setF R.EVT_NAND_READ F.EVT_NAND_READ_STATUS St.poison).bump R.CFG_NAND_ECC F.CFG_NAND_ECC_UNREADABLE 1).raise
    (ev 0x3807 1 0 0)

theorem exec_evtNandRead_unreadable {page : Nat} (hreach : s.reach .mc R.EVT_NAND_READ = St.ok) :
    exec (.evtNandRead .mc page false) s = .next ((s.pageLost page).answer St.ok) := by
  refine (State.byHost_eq (i := .evtNandRead .mc page false) (f := ctlEvtNandRead .mc page false) rfl hreach).trans ?_
  rw [ctlEvtNandRead, State.ctlDo_ok hreach rfl]
  simp only [Bool.false_eq_true, if_false, State.pageLost, State.pageAsked]

/-- A read of a block touches no register and no memory but the NAND's own. -/
theorem State.noteRead_frame (s : State) (b : Nat) : (s.noteRead b).regs = s.regs ∧ (s.noteRead b).mem = s.mem := by
  unfold State.noteRead
  dsimp only
  split <;> exact ⟨rfl, rfl⟩

theorem nandRead_ne_evtLoss : ∀ p, p < 3 → R.EVT_NAND_READ ≠ R.EVT_LOSS p := by decide

/-- An unreadable page leaves POISON beside its number. -/
theorem State.pageLost_spec {page : Nat} (hpage : page < 2 ^ 17) (ht : t = (s.pageLost page).answer St.ok) :
    t.rf R.EVT_NAND_READ F.EVT_NAND_READ_STATUS = St.poison ∧ t.rf R.EVT_NAND_READ F.EVT_NAND_READ_PAGE = page ∧ t.mem = s.mem := by
  obtain ⟨hregs, hmem⟩ :=
    (s.setF R.EVT_NAND_READ F.EVT_NAND_READ_PAGE (page % 2 ^ 17)).noteRead_frame (1672 + page % 2 ^ 17 / 64)
  have hrf (f : Fld) : (s.pageLost page).rf R.EVT_NAND_READ f =
      ((s.pageAsked page).setF R.EVT_NAND_READ F.EVT_NAND_READ_STATUS St.poison).rf R.EVT_NAND_READ f := by
    rw [State.pageLost, State.raise_rf _ _ nandRead_ne_evtLoss, State.bump, State.setF_rf_ne _ _ _ (by decide)]
  subst ht
  refine ⟨?_, ?_, ?_⟩
  · rw [State.answer_rf, hrf, State.setF_rf_self _ _ (by decide)]
    rfl
  · rw [State.answer_rf, hrf, State.setF_rf_other _ _ (by decide) (by decide), State.pageAsked, State.rf, State.reg, hregs]
    refine (State.setF_rf_self R.EVT_NAND_READ (page % 2 ^ 17) (by decide)).trans ?_
    exact (Nat.mod_mod _ _).trans (Nat.mod_eq_of_lt hpage)
  · rw [State.answer_mem, State.pageLost, State.raise_mem, State.bump_mem, State.setF_mem, State.pageAsked, hmem, State.setF_mem]

/-! ## The statement -/

/-- Settles O21: each row's next state, and of what it tells the paths only that they and the loss counters change. -/
theorem eventPathsComplete : Obligations.EventPathsComplete := by
  unfold Obligations.EventPathsComplete
  refine ⟨?alarm, ?summary, ?ring, ?stall, ?irq, ?get, ?ack, ?deferred, ?page, ?unreadable⟩
  case alarm =>
    intro s p r l halarms htakes hfree
    refine ⟨_, exec_alarmDequeue_room halarms htakes hfree, ?_, ?_, ?_, rfl⟩ <;> rw [State.enqueue_path_self, State.setPath_path_self]
    exact List.length_append
  case summary =>
    intro s p r l hsums htakes hfree
    refine ⟨_, exec_summaryDequeue_room hsums htakes hfree, ?_, ?_, rfl⟩ <;> rw [State.enqueue_path_self, State.setPath_path_self]
    exact List.length_append
  case ring =>
    intro s r l hready hnext
    exact ⟨_, exec_hostRingWrite_ready hready hnext, State.ringTaken_write_spec rfl⟩
  case stall =>
    intro s hen hfull hnew hlong
    refine ⟨_, exec_hostRingStall_long hen hfull hnew hlong, ?_, s.stallTold_frame.eq⟩
    rw [s.stallTold_frame.rest]
  case irq => exact fun s v h => ⟨_, exec_irqMinExpiry_waited h, rfl, rfl, rfl⟩
  case get => exact fun s hsb => ⟨_, exec_getEvents_answered hsb, rfl, rfl, rfl⟩
  case ack =>
    rintro s _ r hsb hreturned rfl hqueue
    refine ⟨_, exec_ackEvents_one hsb hreturned hqueue, ?_, rfl, rfl, rfl⟩
    exact congrArg EvPath.queue (s.setPath_path_self 1 _)
  case deferred =>
    intro s hup hseq hrecs hdue hrate hdisagree
    refine ⟨_, exec_incidentPageProgram_due hup hseq hrecs hdue hrate, ?_⟩
    rw [if_neg (by rw [State.covers_of_disagree hdisagree]; decide), State.deferPage_evt]
    refine ⟨rfl, rfl, ?_⟩
    rw [(s.drew 2).deferPage_frame.rest]
    rfl
  case page =>
    intro s hup hseq hrecs hdue hrate
    refine ⟨_, exec_incidentPageProgram_due hup hseq hrecs hdue hrate, ?_⟩
    by_cases hcovers : s.covers 60 false = true
    · obtain ⟨hpos, hlast⟩ := (s.drew 2).putPage_evt
      simp only [if_pos hcovers]
      exact ⟨hpos, fun _ => hlast, (s.drew 2).putPage_mem⟩
    · simp only [if_neg hcovers]
      refine ⟨?_, fun h => absurd h hcovers, (s.drew 2).deferPage_mem⟩
      rw [State.deferPage_evt]
      rfl
  case unreadable => exact fun s page hpage hreach => ⟨_, exec_evtNandRead_unreadable hreach, State.pageLost_spec hpage rfl⟩

end Sys2Proof.Machine
end

section
/-! PROOFS. Configuration requests (R359, R372), snoops of the device cache (R363), and the host link as it comes up, goes down and is reset
(R358, R364, R372, R373). -/
namespace Sys2Proof.Machine
open Sys2Proof Sys2Proof.Safety
variable {s t : State} {off line q w : Nat} {c : Ctx}

/-! ## Configuration requests (R359, R372) -/

/-- Without a link nothing answers. -/
theorem exec_hostConfigRequest_unlinked {wr : Bool} {v : W32} (hlink : s.rf R.HOST_LINK_STATUS F.HOST_LINK_STATUS_SPEED = 0) :
    exec (.hostConfigRequest wr off v) s = .next s :=
  congrArg Host.Outcome.next (if_pos hlink)

section
variable (hlink : s.rf R.HOST_LINK_STATUS F.HOST_LINK_STATUS_SPEED ≠ 0)
include hlink

theorem exec_hostConfigRequest_retry {wr : Bool} {v : W32} (hrrs : s.rf R.HOST_LINK_STATUS F.HOST_LINK_STATUS_RRS = 1) :
    exec (.hostConfigRequest wr off v) s = .next (s.answer rrs) :=
  congrArg Host.Outcome.next ((if_neg hlink).trans (if_pos hrrs))

theorem exec_hostConfigRequest_served (wr : Bool) (v : W32) (hrrs : s.rf R.HOST_LINK_STATUS F.HOST_LINK_STATUS_RRS ≠ 1) :
    exec (.hostConfigRequest wr off v) s =
      .next (if wr then (s.cfgWrite off v).answer St.ok else s.answer St.ok (BitVec.ofNat 64 (s.cfgRead off).toNat)) :=
  congrArg Host.Outcome.next ((if_neg hlink).trans (if_neg hrrs))

end

/-- A configuration write is kept, and may set the HDM decoder (R365). -/
theorem State.cfgWrite_frame (s : State) (off : Nat) (v : W32) : s.cfgWrite off v = { s with mem := { s.mem with
    cfgSpace := minsert (off / 4 * 4) v s.mem.cfgSpace, hostCfg := true
    hdm := (s.cfgWrite off v).mem.hdm, hdmError := (s.cfgWrite off v).mem.hdmError } } := by
  unfold State.cfgWrite
  dsimp only
  split
  · rfl
  · rfl
  · split <;> rfl

theorem State.cfgWrite_cfgSpace (s : State) (off : Nat) (v : W32) :
    (s.cfgWrite off v).mem.cfgSpace = minsert (off / 4 * 4) v s.mem.cfgSpace := by rw [State.cfgWrite_frame]

theorem State.cfgWrite_hostCfg (s : State) (off : Nat) (v : W32) : (s.cfgWrite off v).mem.hostCfg = true := by rw [State.cfgWrite_frame]

/-! ## Snoops (R363) -/

/-- An entry that is removed is not found. -/
theorem find?_merase_self {α : Type} (a : Nat) (m : List (Nat × α)) : (merase a m).find? (fun e => e.1 = a) = none := by
  induction m with
  | nil => rfl
  | cons e m ih =>
    obtain ⟨k, v⟩ := e
    unfold merase
    split
    · exact ih
    · next hne => rw [List.find?_cons_of_neg (by simpa using Ne.symm hne), ih]

/-- A line that is held is replaced where it stands. -/
theorem State.dput_of_held {c c' : CLine} (h : s.dline line = some c') : s.dput line c = { s with mem := { s.mem with
    dcache := minsert line { c with stamp := s.mem.stamp } s.mem.dcache, stamp := s.mem.stamp + 1 } } := by
  have hroom : (decide (s.mem.dcache.length < 131072) || (s.dline line).isSome) = true := by rw [h, Option.isSome_some, Bool.or_true]
  unfold State.dput
  simp only [Bool.or_eq_true, decide_eq_true_eq] at hroom ⊢
  rw [if_pos hroom]

theorem State.dput_dline_self {c c' : CLine} (h : s.dline line = some c') :
    (s.dput line c).dline line = some { c with stamp := s.mem.stamp } := by
  rw [State.dput_of_held h, State.dline, find?_minsert_self]
  rfl

/-- A line's data goes to host memory. -/
def State.writtenBack (s : State) (line : Nat) (data : List Byte) : State :=
  { s with mem := { s.mem with host := putBytes s.mem.host (s.hostPhys (line * 64)) data } }

theorem State.writtenBack_dline (s : State) (line : Nat) (d : List Byte) (l : Nat) : (s.writtenBack line d).dline l = s.dline l := rfl

theorem exec_hostSnoop_absent (h : s.dline line = none) : exec (.hostSnoop line .current none) s = .next (s.answer St.ok 0 []) := by
  change execHostSnoop line .current none s = _
  simp [execHostSnoop, State.snooped, h]

section
variable {c : CLine} (hheld : s.dline line = some c) (hdirty : c.dirty = true)
include hheld hdirty

theorem exec_hostSnoop_current : exec (.hostSnoop line .current none) s =
    .next (((s.writtenBack line c.data).dput line { c with dirty := false }).answer St.ok 0 c.data) := by
  change execHostSnoop line .current none s = _
  simp [execHostSnoop, State.snooped, State.writtenBack, hheld, hdirty]

/-- The host's own new data follows what the module gave up. -/
theorem exec_hostSnoop_invalidate {d : List Byte} (hd : d.length = 64) : exec (.hostSnoop line .invalidate (some d)) s =
    .next ((State.writtenBack { s.writtenBack line c.data with
      mem := { (s.writtenBack line c.data).mem with dcache := merase line s.mem.dcache } } line d).answer St.ok 0 c.data) := by
  change execHostSnoop line .invalidate (some d) s = _
  simp only [execHostSnoop, State.snooped, hheld, hdirty, padTo_of_length hd]
  rfl

end

/-! ## The registers of the link (R358, R364) -/

/-- The link's speed, its width and whether it runs CXL. -/
def State.linkSet (s : State) (speed width : Nat) (cxl : Bool) : State :=
  ((s.setF R.HOST_LINK_STATUS F.HOST_LINK_STATUS_SPEED speed).setF R.HOST_LINK_STATUS F.HOST_LINK_STATUS_WIDTH width).setF R.HOST_LINK_STATUS
    F.HOST_LINK_STATUS_CXL (b2n cxl)

section
variable {speed : Nat} {cxl : Bool}

theorem State.linkSet_frame (s : State) (speed width : Nat) (cxl : Bool) : RegFrame (· = R.HOST_LINK_STATUS) s (s.linkSet speed width cxl) :=
  (((RegFrame.refl (· = R.HOST_LINK_STATUS) s).setF rfl _ _).setF rfl _ _).setF rfl _ _

theorem State.linkSet_speed (hs : speed < 16) : (s.linkSet speed w cxl).rf R.HOST_LINK_STATUS F.HOST_LINK_STATUS_SPEED = speed := by
  rw [State.linkSet, State.setF_rf_other _ _ (by decide) (by decide), State.setF_rf_other _ _ (by decide) (by decide),
    State.setF_rf_self _ _ (by decide)]
  exact Nat.mod_eq_of_lt hs

theorem State.linkSet_width (hw : w < 32) : (s.linkSet speed w cxl).rf R.HOST_LINK_STATUS F.HOST_LINK_STATUS_WIDTH = w := by
  rw [State.linkSet, State.setF_rf_other _ _ (by decide) (by decide), State.setF_rf_self _ _ (by decide)]
  exact Nat.mod_eq_of_lt hw

theorem State.linkSet_cxl : (s.linkSet speed w cxl).rf R.HOST_LINK_STATUS F.HOST_LINK_STATUS_CXL = b2n cxl := by
  rw [State.linkSet, State.setF_rf_self _ _ (by decide)]
  cases cxl <;> rfl

end

theorem linkStatus_ne_evtLoss : ∀ p, p < 3 → R.HOST_LINK_STATUS ≠ R.EVT_LOSS p := by decide

/-! ## The link comes up (R358) -/

/-- The link as it has been trained, out of its low-power state. -/
def State.linkTrained (s : State) (width : Nat) (cxl : Bool) : State :=
  (s.linkSet 6 width cxl).modSup (fun x => { x with l12 := false })

theorem State.modSup_rf (s : State) (f : Sup → Sup) (a : Nat) (g : Fld) : (s.modSup f).rf a g = s.rf a g := rfl

theorem State.linkTrained_rf (s : State) (width : Nat) (cxl : Bool) (a : Nat) (f : Fld) :
    (s.linkTrained width cxl).rf a f = (s.linkSet 6 width cxl).rf a f := State.modSup_rf _ _ _ _

theorem exec_hostLinkUp_trained {cxl : Bool} (hgood : s.sup.pwrgd = true) (hperst : s.sup.perst = false)
    (hlink : s.rf R.HOST_LINK_STATUS F.HOST_LINK_STATUS_SPEED = 0) (hw : w = 4 ∨ w = 8 ∨ w = 16) :
    ∃ t, exec (.hostLinkUp 6 w cxl) s = .next t ∧ EvFrame (s.linkTrained w cxl) t := by
  have hwidth : (w = 4 || w = 8 || w = 16) = true := by simpa [or_assoc] using hw
  refine ⟨_, congrArg Host.Outcome.next (if_pos (by simp [hgood, hperst, hlink, hwidth])), ?_⟩
  exact ((EvFrame.refl _).raise _).ite (((EvFrame.refl _).raise _).raise _)

/-- What the events of a trained link leave. -/
theorem EvFrame.linkTrained_spec {cxl : Bool} (h : EvFrame (s.linkTrained w cxl) t) (hw : w = 4 ∨ w = 8 ∨ w = 16) :
    t.rf R.HOST_LINK_STATUS F.HOST_LINK_STATUS_SPEED = 6 ∧ t.rf R.HOST_LINK_STATUS F.HOST_LINK_STATUS_WIDTH = w ∧
      t.rf R.HOST_LINK_STATUS F.HOST_LINK_STATUS_CXL = b2n cxl ∧ t.sup = { s.sup with l12 := false } ∧
      t = { s with sup := t.sup, regs := t.regs, evt := t.evt } := by
  have hrf (f : Fld) : t.rf R.HOST_LINK_STATUS f = (s.linkSet 6 w cxl).rf R.HOST_LINK_STATUS f := by
    rw [h.rf f linkStatus_ne_evtLoss, State.linkTrained_rf]
  have hrest := h.eq
  have hset := (s.linkSet_frame 6 w cxl).rest
  unfold State.linkTrained at hrest
  refine ⟨?_, ?_, ?_, ?_⟩
  · rw [hrf, State.linkSet_speed (by decide)]
  · rw [hrf, State.linkSet_width (by omega)]
  · rw [hrf, State.linkSet_cxl]
  · generalize s.linkSet 6 w cxl = u at hrest hset
    generalize u.regs = x at hset
    generalize t.regs = y, t.evt = z at hrest ⊢
    subst hset hrest
    exact ⟨rfl, rfl⟩

/-! ## The link goes down and is reset (R364, R373) -/

/-- Memory without what the link had brought: configuration space, the device cache and the snoop filter are empty. -/
def Mem.unlinked (m : Mem) : Mem := { m with dcache := [], hostCfg := false, cfgSpace := [], hdm := none, hdmError := false, snoop := [] }

/-- With the link goes what it had brought, and the interrupts that waited. -/
def State.linkCleared (s : State) : State :=
  { s.linkSet 0 0 false with mem := s.mem.unlinked, evt := { s.evt with msix := [] } }

theorem State.withMemEvt_rf (s : State) (m : Mem) (e : Evt) (a : Nat) (f : Fld) : ({ s with mem := m, evt := e } : State).rf a f = s.rf a f := rfl

theorem State.linkCleared_rf (s : State) (a : Nat) (f : Fld) : s.linkCleared.rf a f = (s.linkSet 0 0 false).rf a f :=
  State.withMemEvt_rf _ _ _ _ _

theorem State.linkReset_frame (s : State) : EvFrame s.linkCleared s.linkReset := by
  have hup : EvFrame s.linkCleared (if s.rf R.HOST_LINK_STATUS F.HOST_LINK_STATUS_SPEED ≠ 0 then s.linkCleared.raise (ev 0x2001 0 0 0)
      else s.linkCleared) := ((EvFrame.refl _).raise _).ite (EvFrame.refl _)
  exact hup.raise _

/-- A reset link leaves its registers, memory without what it had brought, and events. -/
structure LinkGone (s t : State) : Prop where
  speed : t.rf R.HOST_LINK_STATUS F.HOST_LINK_STATUS_SPEED = 0
  cxl : t.rf R.HOST_LINK_STATUS F.HOST_LINK_STATUS_CXL = 0
  rest : t = { s with regs := t.regs, mem := s.mem.unlinked, evt := t.evt }

theorem State.linkReset_gone (s : State) : LinkGone s s.linkReset where
  speed := by
    rw [s.linkReset_frame.rf _ linkStatus_ne_evtLoss, State.linkCleared_rf, State.linkSet_speed (by decide)]
  cxl := by
    rw [s.linkReset_frame.rf _ linkStatus_ne_evtLoss, State.linkCleared_rf, State.linkSet_cxl]
    rfl
  rest := by
    have hrest := s.linkReset_frame.eq
    have hset := (s.linkSet_frame 0 0 false).rest
    generalize s.linkReset = t at hrest ⊢
    unfold State.linkCleared at hrest
    generalize s.linkSet 0 0 false = u at hrest hset
    generalize u.regs = x at hset
    subst hset
    exact hrest

section
variable (h : LinkGone s t)
include h

theorem LinkGone.mem : t.mem = s.mem.unlinked := by rw [h.rest]

theorem LinkGone.cores : t.cores = s.cores := by rw [h.rest]

theorem LinkGone.xport : t.xport = s.xport := by rw [h.rest]

theorem LinkGone.sup : t.sup = s.sup := by rw [h.rest]

/-- What the link had brought is gone from memory. -/
theorem LinkGone.brought : t.mem.dcache = [] ∧ t.mem.hostCfg = false ∧ t.mem.snoop = [] ∧ t.mem.hdm = none ∧ t.mem.host = s.mem.host := by
  rw [h.mem]
  exact ⟨rfl, rfl, rfl, rfl, rfl⟩

end

theorem exec_hostLinkDown_up (hlink : s.rf R.HOST_LINK_STATUS F.HOST_LINK_STATUS_SPEED ≠ 0) : exec .hostLinkDown s = .next s.linkReset :=
  congrArg Host.Outcome.next (if_pos hlink)

theorem exec_hostLinkDown_down (hlink : s.rf R.HOST_LINK_STATUS F.HOST_LINK_STATUS_SPEED = 0) : exec .hostLinkDown s = .next s :=
  congrArg Host.Outcome.next (if_neg (not_not.2 hlink))

theorem exec_hotReset_up (hlink : s.rf R.HOST_LINK_STATUS F.HOST_LINK_STATUS_SPEED ≠ 0) : exec .hotReset s = .next s.linkReset :=
  congrArg Host.Outcome.next (if_pos hlink)

/-- PERST# while the module runs. -/
theorem exec_perstAssert_running (hgood : s.sup.pwrgd = true) :
    exec .perstAssert s = .next (s.modSup (fun x => { x with perst := true })).linkReset :=
  congrArg Host.Outcome.next (if_pos hgood)

/-! ## Function Level Resets (R373) -/

theorem exec_flr_unserved (h : s.hostUp = false) : exec .flr s = .next s :=
  congrArg Host.Outcome.next (if_neg (by rw [h]; decide))

/-- The one listed queue is an enabled HOST queue, and its context is in the cache. -/
theorem exec_flr_hostQueue (hup : s.hostUp = true) (hlisted : s.listedQueues = [q]) (hcached : s.ctxCached q = some c)
    (hen : c.enable = true) (htyp : c.typ = 0) : exec .flr s = .next ((s.ctxKeep q c).flrQueue q).linkReset := by
  refine congrArg Host.Outcome.next ((if_pos hup).trans ?_)
  simp [hlisted, State.ctxLoad_of_cached hcached, hen, htyp]

/-- ENABLE is clear in a word from which it is taken. -/
theorem bitAt_setFld_disable (v : W64) : bitAt (setFld v 11 1 0).toNat 11 = false := by
  have hfld : fld (setFld v 11 1 0) 11 1 = 0 := fld_setFld_self v 0 (by decide)
  exact decide_eq_false fun h => absurd (hfld.symm.trans h) (by decide)

/-- A HOST queue at a reset is out of service, its messages but those that are aborts are gone, and the cores stand. -/
theorem State.flrQueue_spec (s : State) (q : Nat) : ((s.flrQueue q).ctx q).enable = false ∧
    (∀ m, m ∈ (s.flrQueue q).xport.msgs → m.queue = q → m.kind = 7) ∧ (s.flrQueue q).cores = s.cores := by
  have hput := s.ctxPut_mframe q { s.ctx q with w0 := setFld (s.ctx q).w0 11 1 0 }
  have hctx : (s.flrQueue q).ctx q = { s.ctx q with w0 := setFld (s.ctx q).w0 11 1 0 } :=
    (State.ctx_congr hput.xport q).trans (State.ctxKeep_ctx_self _ _ _)
  refine ⟨?_, fun m hm hq => ?_, hput.cores⟩
  · rw [hctx]
    exact bitAt_setFld_disable _
  · have hkept : (m.queue ≠ q || m.kind = 7) = true := (List.mem_filter.1 hm).2
    simpa [hq] using hkept

end Sys2Proof.Machine
end

section
/-! PROOFS. Cells that start from reset (R39), HBM in self-refresh (R218, R375), and parking of ports that are in step with the power state
(R348, R375): what each leaves of the power state's register and of what it does not name. -/
namespace Sys2Proof.Machine
open Sys2Proof Sys2Proof.Safety
variable {s t u : State} {a k j p n : Nat}

/-! ## Levels set anew, and the change traced (R391) -/

/-- A register that neither the levels nor events touch. -/
def OffLevels (a : Nat) : Prop := (∀ k < 128, a ≠ R.PWR_CELL k) ∧ ∀ p < 3, a ≠ R.EVT_LOSS p

/-- From `s` to `t` the cells' levels may differ, and events may have been raised. -/
structure LevelsTold (s t : State) : Prop where
  rest : t = { s with regs := t.regs, pwr := t.pwr, evt := t.evt }
  regs : ∀ a, OffLevels a → t.reg a = s.reg a

theorem State.relevelAll_told (s : State) : LevelsTold s s.relevelAll.pstateEvent where
  rest := by
    have hev := (s.relevelAll.raise_frame (ev 0x2006 2 0 0)).eq
    have hlevel := s.relevelAll_frame.rest
    unfold State.pstateEvent
    generalize s.relevelAll.raise (ev 0x2006 2 0 0) = t at hev ⊢
    generalize s.relevelAll = u at hev hlevel
    generalize t.regs = x, t.evt = y at hev ⊢
    generalize u.regs = v, u.pwr.cells = w at hlevel
    subst hlevel hev
    rfl
  regs a ha := by
    have h0 := (CyclesKept.relevel s (half := 0) (by decide)).regs a ha.1
    have h1 := (CyclesKept.relevel (s.relevel 0) (half := 1) (by decide)).regs a ha.1
    exact (State.raise_reg _ ha.2).trans (h1.trans h0)

theorem LevelsTold.rf (h : LevelsTold s t) (f : Fld) (ha : OffLevels a) : t.rf a f = s.rf a f := by rw [State.rf, h.regs a ha, State.rf]

theorem LevelsTold.mem (h : LevelsTold s t) : t.mem = s.mem := by rw [h.rest]

theorem LevelsTold.cores (h : LevelsTold s t) : t.cores = s.cores := by rw [h.rest]

theorem LevelsTold.xport (h : LevelsTold s t) : t.xport = s.xport := by rw [h.rest]

theorem LevelsTold.sec (h : LevelsTold s t) : t.sec = s.sec := by rw [h.rest]

theorem offLevels_pmStatus : OffLevels R.HOST_PM_STATUS := by
  refine ⟨fun k hk => ?_, by decide⟩
  unfold R.HOST_PM_STATUS R.PWR_CELL
  omega

theorem offLevels_portStatus (p : Nat) : OffLevels (R.PORT_STATUS p) := by
  refine ⟨fun k hk => ?_, fun q hq => (still_portStatus p).2 q hq⟩
  unfold R.PORT_STATUS R.PWR_CELL
  omega

/-! ## Self-refresh (R218, R375) -/

/-- Self-refresh is of the stacks alone. -/
theorem State.selfRefresh_frame (s : State) (b : Bool) :
    s.selfRefresh b = { s with mem := { s.mem with stk := (s.selfRefresh b).mem.stk } } :=
  List.foldlRecOn (motive := fun t : State => t = { s with mem := { s.mem with stk := t.mem.stk } }) _ _ rfl fun t ht st _ => by
    conv_lhs => rw [ht]
    rfl

/-- Every stack of the module is in it, or out of it. -/
theorem State.selfRefresh_stack (s : State) (b : Bool) {st : Nat} (hst : st < 8) : ((s.selfRefresh b).stack st).selfRefresh = b := by
  refine foldl_of_mem (P := fun t : State => (t.stack st).selfRefresh = b) (List.mem_range.2 hst) (fun t => ?_) (fun t e ht => ?_) s
  · exact congrArg Stack.selfRefresh (mget_mset_self _ _ _ _)
  · by_cases he : st = e
    · subst he
      exact congrArg Stack.selfRefresh (mget_mset_self _ _ _ _)
    · exact (congrArg Stack.selfRefresh (mget_mset_ne _ _ _ _ he)).trans ht

/-! ## Ports that park or wake (R348, R375) -/

/-- The status and the counters of the ports. -/
def PortRegs (a : Nat) : Prop := (∃ q, a = R.PORT_STATUS q) ∨ portCtr a

/-- From `s` to `t` only ports, their status and counters, and events may differ. -/
structure PortsMoved (s t : State) : Prop where
  rest : t = { s with regs := t.regs, evt := t.evt, ports := t.ports }
  regs : ∀ a, ¬PortRegs a → (∀ k, k < 3 → a ≠ R.EVT_LOSS k) → t.reg a = s.reg a

theorem PortsMoved.refl (s : State) : PortsMoved s s := ⟨rfl, fun _ _ _ => rfl⟩

theorem PortsMoved.trans (h : PortsMoved s t) (k : PortsMoved t u) : PortsMoved s u :=
  ⟨by rw [k.rest, h.rest], fun a ha hev => (k.regs a ha hev).trans (h.regs a ha hev)⟩

theorem PortsMoved.note {P : Nat → Prop} (h : PortsMoved s t) (k : NoteFrame P t u) (hP : ∀ a, P a → PortRegs a) : PortsMoved s u :=
  h.trans ⟨by rw [k.rest], fun a ha hev => k.regs a (fun hp => ha (hP a hp)) hev⟩

theorem PortsMoved.setPort (h : PortsMoved s t) (p : Nat) (x : Port) : PortsMoved s (t.setPort p x) := h.trans ⟨rfl, fun _ _ _ => rfl⟩

theorem PortsMoved.setPark (h : PortsMoved s t) (p x : Nat) : PortsMoved s (t.setPark p x) :=
  h.note (t.setPark_frame p x) fun _ ha => .inl ⟨p, ha⟩

theorem PortsMoved.phyCount (h : PortsMoved s t) (p v : Nat) (hn : n < 32) : PortsMoved s (t.phyCount p n v) :=
  h.note (t.phyCount_frame p v hn) fun _ ha => .inr ha

theorem PortsMoved.parkFrame (h : PortsMoved s t) (p typ seq : Nat) : PortsMoved s (t.parkFrame p typ seq) := h.setPort _ _

theorem PortsMoved.parkFull (h : PortsMoved s t) (p : Nat) : PortsMoved s (t.parkFull p) := (h.setPort _ _).setPark _ _

theorem PortsMoved.startWake (h : PortsMoved s t) (p : Nat) : PortsMoved s (t.startWake p) := by
  unfold State.startWake State.wakeLanes
  exact ((((h.setPort _ _).setPort _ _).setPark _ _).phyCount _ _ (by decide)).parkFrame _ _ _

theorem PortsMoved.answerWake (h : PortsMoved s t) (p : Nat) : PortsMoved s (t.answerWake p) := by
  unfold State.answerWake
  split
  · exact (h.setPort _ _).parkFrame _ _ _
  · exact h

theorem PortsMoved.parkCheck (h : PortsMoved s t) (p : Nat) : PortsMoved s (t.parkCheck p) := by
  unfold State.parkCheck
  split
  · exact h
  · split
    · exact (h.parkFull p).answerWake p
    · exact h.startWake p
    · exact h

theorem PortsMoved.parkPort (h : PortsMoved s t) (p : Nat) : PortsMoved s (t.parkPort p) := by
  unfold State.parkPort State.askPark
  split
  · exact (((h.setPort _ _).setPark _ _).parkFrame _ _ _).parkCheck p
  · exact h

theorem PortsMoved.wakePort (h : PortsMoved s t) (p : Nat) : PortsMoved s (t.wakePort p) := by
  unfold State.wakePort
  split
  · exact h.startWake p
  · exact h

/-- All ports, one after another. -/
theorem PortsMoved.foldl {f : State → Nat → State} (hf : ∀ {s t : State}, PortsMoved s t → ∀ p, PortsMoved s (f t p)) (s : State) (l : List Nat) :
    PortsMoved s (l.foldl f s) :=
  List.foldlRecOn (motive := PortsMoved s) _ _ (.refl s) fun _ ht p _ => hf ht p

theorem PortsMoved.mem (h : PortsMoved s t) : t.mem = s.mem := by rw [h.rest]

theorem PortsMoved.cores (h : PortsMoved s t) : t.cores = s.cores := by rw [h.rest]

theorem PortsMoved.xport (h : PortsMoved s t) : t.xport = s.xport := by rw [h.rest]

theorem pmStatus_ne_evtLoss : ∀ k, k < 3 → R.HOST_PM_STATUS ≠ R.EVT_LOSS k := by decide

theorem not_portRegs_pmStatus : ¬PortRegs R.HOST_PM_STATUS := by
  rintro (⟨q, h⟩ | ⟨q, n, hn, h⟩)
  · unfold R.HOST_PM_STATUS R.PORT_STATUS at h
    omega
  · unfold R.HOST_PM_STATUS R.PORT_RX_COUNTER R.PORT_TX_COUNTER R.PORT_PHY_COUNTER at h
    omega

/-- What ports do leaves the power state. -/
theorem PortsMoved.pstate (h : PortsMoved s t) : t.pstate = s.pstate := by
  rw [State.pstate, State.rf, h.regs _ not_portRegs_pmStatus pmStatus_ne_evtLoss, State.pstate, State.rf]

/-! ## Cells that start from reset (R39) -/

/-- Of what is looked at, the power state's register and the stacks: neither differs from `s` to `t`. -/
structure BesideCells (s t : State) : Prop where
  stk : t.mem.stk = s.mem.stk
  pm : t.reg R.HOST_PM_STATUS = s.reg R.HOST_PM_STATUS

theorem BesideCells.refl (s : State) : BesideCells s s := ⟨rfl, rfl⟩

theorem BesideCells.trans (h : BesideCells s t) (k : BesideCells t u) : BesideCells s u := ⟨k.stk.trans h.stk, k.pm.trans h.pm⟩

/-- A register outside a range that is reset reads as before. -/
theorem State.resetRegs_reg (s : State) {b : Nat} (h : a < b ∨ b + n ≤ a) : (s.resetRegs b n).reg a = s.reg a :=
  mget_filter_of_keep _ (fun _ => by simpa using h) s.regs

theorem BesideCells.resetRegs (h : BesideCells s t) {b : Nat} (hb : R.HOST_PM_STATUS < b ∨ b + n ≤ R.HOST_PM_STATUS) :
    BesideCells s (t.resetRegs b n) := h.trans ⟨rfl, t.resetRegs_reg hb⟩

/-- Waiting writes that end well end with an answer alone. -/
theorem State.sfnRelease_frame (s : State) (f : SfnClear → Bool) : s.sfnRelease f St.ok =
    { s with mgt := (s.sfnRelease f St.ok).mgt, resp := (s.sfnRelease f St.ok).resp } := by
  unfold State.sfnRelease
  refine List.foldlRecOn (motive := fun t : State => t = { s with mgt := t.mgt, resp := t.resp }) _ _ rfl fun t ht w _ => ?_
  split
  · exact ht
  · have hend : t.ctlEnd w.who w.off St.ok = t.answer St.ok := by simp [State.ctlEnd]
    rw [hend]
    conv_lhs => rw [ht]
    rfl

theorem State.sfnRelease_reg (s : State) (f : SfnClear → Bool) (a : Nat) : (s.sfnRelease f St.ok).reg a = s.reg a := by
  rw [s.sfnRelease_frame f]
  rfl

/-- A cell without its messages, memories and registers, before its core is set. -/
def State.cellCleared (s : State) (k : Nat) : State :=
  (((((s.forget k).zeroCore k).resetRegs (0x8000000 + k * 0x20000) 0x20000).resetRegs (R.HALF_CVT_CTRL (k / 64) (k % 64)) 0x1000).resetRegs
    (R.HALF_SFN_COEF_LO (k / 64) (k % 64) 0 0) 0x10000).sfnRelease (fun w => w.cell = k) St.ok

theorem State.resetCell_eq (s : State) (k : Nat) : s.resetCell k =
    (s.cellCleared k).setCore k { cycAdd := (2 ^ 64 - (s.cellCleared k).ck k % 2 ^ 64) % 2 ^ 64 } := rfl

theorem State.sfnRelease_core (s : State) (f : SfnClear → Bool) (j : Nat) : (s.sfnRelease f St.ok).core j = s.core j := by
  rw [s.sfnRelease_frame f]
  rfl

theorem State.resetRegs_core (s : State) (b n j : Nat) : (s.resetRegs b n).core j = s.core j := rfl

theorem State.cellCleared_core (s : State) (k j : Nat) : (s.cellCleared k).core j = s.core j := by
  rw [State.cellCleared, State.sfnRelease_core, State.resetRegs_core, State.resetRegs_core, State.resetRegs_core]
  rfl

theorem State.cellCleared_beside (s : State) (hk : k < 128) : BesideCells s (s.cellCleared k) := by
  have hrelease (u : State) (f : SfnClear → Bool) : BesideCells u (u.sfnRelease f St.ok) :=
    ⟨by rw [u.sfnRelease_frame f], u.sfnRelease_reg f _⟩
  have hmem : BesideCells s ((s.forget k).zeroCore k) := ⟨rfl, rfl⟩
  refine BesideCells.trans (((hmem.resetRegs ?_).resetRegs ?_).resetRegs ?_) (hrelease _ _)
  · unfold R.HOST_PM_STATUS
    omega
  · unfold R.HOST_PM_STATUS R.HALF_CVT_CTRL
    omega
  · unfold R.HOST_PM_STATUS R.HALF_SFN_COEF_LO
    omega

/-- A core as reset leaves it: everything but the base of its count of cycles is 0. -/
def Core.fresh (c : Core) : Prop := c = { cycAdd := c.cycAdd }

theorem State.resetCell_core_self (s : State) (k : Nat) : ((s.resetCell k).core k).fresh := by
  rw [State.resetCell_eq, State.setCore_core_self]
  rfl

theorem State.resetCell_core_ne (s : State) (h : j ≠ k) : (s.resetCell k).core j = s.core j := by
  rw [State.resetCell_eq, State.setCore_core_ne _ h, State.cellCleared_core]

/-- Every cell of the module starts from reset. -/
def State.resetCells (s : State) : State := (List.range 128).foldl (fun s k => s.resetCell k) s

theorem State.resetCells_fresh (s : State) (hk : k < 128) : (s.resetCells.core k).fresh := by
  refine foldl_of_mem (P := fun t : State => (t.core k).fresh) (List.mem_range.2 hk) (fun t => t.resetCell_core_self k) (fun t e ht => ?_) s
  by_cases he : k = e
  · subst he
    exact t.resetCell_core_self k
  · rw [t.resetCell_core_ne he]
    exact ht

theorem State.resetCells_beside (s : State) : BesideCells s s.resetCells :=
  List.foldlRecOn (motive := BesideCells s) _ _ (.refl s) fun t ht _ hk => by
    refine ht.trans ?_
    rw [State.resetCell_eq]
    exact (t.cellCleared_beside (List.mem_range.1 hk)).trans ⟨rfl, rfl⟩

theorem BesideCells.pstate (h : BesideCells s t) : t.pstate = s.pstate := by
  rw [State.pstate, State.rf, h.pm, State.pstate, State.rf]

end Sys2Proof.Machine
end

section
/-! PROOFS. The power states (R374 to R376, R380, R418): an entry in progress, what entering a state does when the block idles, and the ways
out of each state. -/
namespace Sys2Proof.Machine
open Sys2Proof Sys2Proof.Safety
variable {s t u : State} {p q : Nat}

/-! ## The state's register, and an entry in progress (R374) -/

theorem State.setPstate_pstate (s : State) (hp : p < 8) : (s.setPstate p).pstate = p :=
  (State.setF_rf_self _ _ (by decide)).trans (Nat.mod_eq_of_lt hp)

theorem State.setPstate_entering (s : State) (p : Nat) :
    (s.setPstate p).rf R.HOST_PM_STATUS F.HOST_PM_STATUS_ENTERING = s.rf R.HOST_PM_STATUS F.HOST_PM_STATUS_ENTERING :=
  State.setF_rf_other _ _ (by decide) (by decide)

/-- An entry in progress, or none. -/
def State.setEntering (s : State) (e : Option Nat) (b : Nat) : State :=
  { s with mgt := { s.mgt with entering := e } }.setF R.HOST_PM_STATUS F.HOST_PM_STATUS_ENTERING b

theorem State.setEntering_flag (s : State) (e : Option Nat) {b : Nat} (hb : b < 2) :
    (s.setEntering e b).rf R.HOST_PM_STATUS F.HOST_PM_STATUS_ENTERING = b :=
  (State.setF_rf_self _ _ (by decide)).trans (Nat.mod_eq_of_lt hb)

theorem State.setEntering_pstate (s : State) (e : Option Nat) (b : Nat) : (s.setEntering e b).pstate = s.pstate :=
  State.setF_rf_other _ _ (by decide) (by decide)

theorem State.setEntering_reg (s : State) (e : Option Nat) (b : Nat) {a : Nat} (ha : a ≠ R.HOST_PM_STATUS) :
    (s.setEntering e b).reg a = s.reg a := State.setF_reg_ne _ _ ha

theorem State.abandon_of_entering (h : s.mgt.entering = some p) : s.abandon = s.setEntering none 0 := by
  rw [State.abandon, h]
  rfl

theorem State.abandon_of_none (h : s.mgt.entering = none) : s.abandon = s := by
  rw [State.abandon, h]

/-- Abandoning is of `mgt` and the state's register alone. -/
theorem State.abandon_frame (s : State) : s.abandon = { s with mgt := s.abandon.mgt, regs := s.abandon.regs } := by
  cases h : s.mgt.entering with
  | none => rw [State.abandon_of_none h]
  | some p =>
    rw [State.abandon_of_entering h]
    rfl

theorem State.abandon_pstate (s : State) : s.abandon.pstate = s.pstate := by
  cases h : s.mgt.entering with
  | none => rw [State.abandon_of_none h]
  | some p => rw [State.abandon_of_entering h, State.setEntering_pstate]

theorem exec_pstateEntry_begins (hdeeper : s.pstate < p) (hmax : p ≤ 4) (hok : s.pstateOk p = true) :
    exec (.pstateEntry p) s = .next (s.setEntering (some p) 1) :=
  congrArg Host.Outcome.next (if_pos (by simp [hdeeper, hmax, hok]))

theorem exec_pstateEntry_refused (hok : s.pstateOk p = false) : exec (.pstateEntry p) s = .next s :=
  congrArg Host.Outcome.next (if_neg (by simp [hok]))

/-- No state is entered where the host tolerates no wake time, or a shorter one (R374). -/
theorem State.pstateOk_of_intolerant (h : s.rf R.HOST_PM_TOL F.HOST_PM_TOL_TOL_US = 0 ∨
    s.rf R.HOST_PM_TOL F.HOST_PM_TOL_TOL_US < (wakeUs[p]?).getD 0) : s.pstateOk p = false := by
  rw [State.pstateOk]
  rcases h with hzero | hshort
  · simp [hzero]
  · simp [Nat.not_le.2 hshort]

/-! ## Entries that end when the block idles (R374, R376) -/

theorem step_entry_ends (hq : s.pending = []) (he : s.mgt.entering = some p) (hok : s.pstateOk p = true) :
    step s = .next { s.enterPstate p with now := s.now + 1 } := by
  simp only [step, hq, idleTick, State.settlePstate, he, hok, if_true]

theorem step_entry_abandoned (hq : s.pending = []) (he : s.mgt.entering = some p) (hok : s.pstateOk p = false) :
    step s = .next { s.setEntering none 0 with now := s.now + 1 } := by
  simp only [step, hq, idleTick, State.settlePstate, he, hok, Bool.false_eq_true, if_false, State.abandon_of_entering he]

theorem State.enterPstate_light (hp : p ≤ 2) : s.enterPstate p = (s.abandon.setPstate p).relevelAll.pstateEvent := by
  rw [State.enterPstate, if_neg (by omega), if_neg (by omega)]

/-- HBM in self-refresh and the ports parked, as P3 and P4 have it (R375). -/
def State.parked (s : State) : State := (List.range 16).foldl (fun s i => s.parkPort i) (s.selfRefresh true)

theorem State.enterPstate_three (s : State) : s.enterPstate 3 = (s.abandon.setPstate 3).parked.relevelAll.pstateEvent := rfl

theorem State.enterPstate_four (s : State) : s.enterPstate 4 = (s.abandon.setPstate 4).parked.enterP4.relevelAll.pstateEvent := rfl

/-- From `s` to `t` the module has come to the power state `p`, and memory, cores and transport are as they were. -/
structure StateTaken (p : Nat) (s t : State) : Prop where
  pstate : t.pstate = p
  mem : t.mem = s.mem
  cores : t.cores = s.cores
  xport : t.xport = s.xport

/-- A state that is left or entered with nothing to do but set the levels anew. -/
theorem State.setPstate_taken (s : State) (hp : p < 8) : StateTaken p s (s.abandon.setPstate p).relevelAll.pstateEvent := by
  have htold := (s.abandon.setPstate p).relevelAll_told
  refine ⟨(htold.rf _ offLevels_pmStatus).trans (s.abandon.setPstate_pstate hp), ?_, ?_, ?_⟩
  · rw [htold.mem, State.setPstate, State.setF_mem, s.abandon_frame]
  · rw [htold.cores, State.setPstate, State.setF_cores, s.abandon_frame]
  · rw [htold.xport, State.setPstate, State.setF_xport, s.abandon_frame]

/-- P1 and P2 (R374). -/
theorem State.enterPstate_taken (hp : p ≤ 2) : StateTaken p s (s.enterPstate p) := by
  rw [State.enterPstate_light hp]
  exact s.setPstate_taken (by omega)

theorem State.enterPstate_entering (hp : p ≤ 2) (he : s.mgt.entering = some q) :
    (s.enterPstate p).rf R.HOST_PM_STATUS F.HOST_PM_STATUS_ENTERING = 0 := by
  rw [State.enterPstate_light hp, (State.relevelAll_told _).rf _ offLevels_pmStatus, State.setPstate_entering, State.abandon_of_entering he,
    State.setEntering_flag _ _ (by decide)]

/-! ## Self-refresh and parking (R375) -/

theorem State.parked_moved (s : State) : PortsMoved (s.selfRefresh true) s.parked := PortsMoved.foldl (fun h => h.parkPort) _ _

theorem State.selfRefresh_regs (s : State) (b : Bool) : (s.selfRefresh b).regs = s.regs := by rw [s.selfRefresh_frame b]

theorem State.selfRefresh_pstate (s : State) (b : Bool) : (s.selfRefresh b).pstate = s.pstate := by
  rw [State.pstate, State.rf, State.reg, s.selfRefresh_regs, State.pstate, State.rf, State.reg]

theorem State.parked_pstate (s : State) : s.parked.pstate = s.pstate := s.parked_moved.pstate.trans (s.selfRefresh_pstate true)

/-- Ports and levels leave the stacks. -/
theorem State.stack_of_mem (h : t.mem = s.mem) (st : Nat) : t.stack st = s.stack st := by
  rw [State.stack, h, State.stack]

theorem State.parked_stack (s : State) {st : Nat} (hst : st < 8) : (s.parked.stack st).selfRefresh = true := by
  rw [State.stack_of_mem s.parked_moved.mem, s.selfRefresh_stack true hst]

/-- P3: the module is in it, every stack refreshes itself, and HBM, cores and transport are as they were. -/
theorem State.enterPstate_three_spec (s : State) : (s.enterPstate 3).pstate = 3 ∧
    (∀ st < 8, ((s.enterPstate 3).stack st).selfRefresh = true) ∧ (s.enterPstate 3).mem.hbm = s.mem.hbm ∧
    (s.enterPstate 3).cores = s.cores ∧ (s.enterPstate 3).xport = s.xport := by
  have htold := (s.abandon.setPstate 3).parked.relevelAll_told
  have hmoved := (s.abandon.setPstate 3).parked_moved
  rw [State.enterPstate_three]
  refine ⟨?_, fun st hst => ?_, ?_, ?_, ?_⟩
  · rw [State.pstate, htold.rf _ offLevels_pmStatus]
    exact (State.parked_pstate _).trans (s.abandon.setPstate_pstate (by decide))
  · rw [State.stack_of_mem htold.mem, State.parked_stack _ hst]
  · rw [htold.mem, hmoved.mem, State.selfRefresh_frame, State.setPstate, State.setF_mem, s.abandon_frame]
  · rw [htold.cores, hmoved.cores, State.selfRefresh_frame, State.setPstate, State.setF_cores, s.abandon_frame]
  · rw [htold.xport, hmoved.xport, State.selfRefresh_frame, State.setPstate, State.setF_xport, s.abandon_frame]

/-! ## Ports that go dark (R375, R418) -/

/-- A port that goes dark, before its routes are looked at. -/
def State.darkening (s : State) (p : Nat) : State :=
  let v := ((s.setPortSt p F.PORT_STATUS_LINK_A 0).setPortSt p F.PORT_STATUS_LINK_B 0).setPortSt p F.PORT_STATUS_LANE_OK 0
  (v.setPort p { v.port p with retiming := false, holdA := false, holdB := false }).parkFull p

theorem State.darkPort_eq (s : State) (p : Nat) : s.darkPort p = (s.darkening p).refreshPort p := rfl

/-- Neither link of a port is up. -/
def State.linksDown (s : State) (p : Nat) : Prop := s.portSt p F.PORT_STATUS_LINK_A = 0 ∧ s.portSt p F.PORT_STATUS_LINK_B = 0

theorem State.darkening_linksDown (s : State) (p : Nat) : (s.darkening p).linksDown p := by
  constructor
  · rw [State.darkening, State.parkFull_portSt _ _ (by decide) (by decide), State.setPort_portSt,
      State.setPortSt_other _ _ _ (by decide) (by decide), State.setPortSt_other _ _ _ (by decide) (by decide),
      State.setPortSt_self _ _ _ (by decide), Nat.zero_mod]
  · rw [State.darkening, State.parkFull_portSt _ _ (by decide) (by decide), State.setPort_portSt,
      State.setPortSt_other _ _ _ (by decide) (by decide), State.setPortSt_self _ _ _ (by decide), Nat.zero_mod]

theorem State.darkening_portSt_ne (s : State) (f : Fld) (h : q ≠ p) : (s.darkening p).portSt q f = s.portSt q f := by
  rw [State.darkening, State.parkFull, State.setPark_portSt_ne _ _ _ h, State.setPort_portSt, State.setPort_portSt,
    State.setPortSt_ne _ _ _ _ h, State.setPortSt_ne _ _ _ _ h, State.setPortSt_ne _ _ _ _ h]

/-- What the routes do of a port leaves its links. -/
theorem State.linksDown.refreshPort (h : s.linksDown q) (p : Nat) : (s.refreshPort p).linksDown q :=
  ⟨((s.refreshPort_kept p).status q _ (by decide) (by decide)).trans h.1, ((s.refreshPort_kept p).status q _ (by decide) (by decide)).trans h.2⟩

theorem State.darkPort_linksDown (s : State) (p : Nat) : (s.darkPort p).linksDown p := by
  rw [State.darkPort_eq]
  exact (s.darkening_linksDown p).refreshPort p

theorem State.linksDown.darkPort (h : s.linksDown q) (p : Nat) : (s.darkPort p).linksDown q := by
  by_cases hq : q = p
  · rw [hq]
    exact s.darkPort_linksDown p
  · rw [State.darkPort_eq]
    refine State.linksDown.refreshPort ?_ p
    exact ⟨(s.darkening_portSt_ne _ hq).trans h.1, (s.darkening_portSt_ne _ hq).trans h.2⟩

/-- Every port of a list that goes dark is dark at its end. -/
theorem State.foldl_darkPort_linksDown (s : State) {l : List Nat} (hp : p ∈ l) : (l.foldl (fun s i => s.darkPort i) s).linksDown p :=
  foldl_of_mem (P := fun t => t.linksDown p) hp (fun t => t.darkPort_linksDown p) (fun _ e h => h.darkPort e) s

/-! ## Frames and ports leave the keys -/

theorem NoteFrame.sec {P : Nat → Prop} (h : NoteFrame P s t) : t.sec = s.sec := by rw [h.rest]

theorem PortTurn.sec (h : PortTurn p s t) : t.sec = s.sec := by rw [h.rest]

theorem EvFrame.sec (h : EvFrame s t) : t.sec = s.sec := by rw [h.rest]

theorem State.setPortSt_sec (s : State) (p : Nat) (f : Fld) (x : Nat) : (s.setPortSt p f x).sec = s.sec := by
  rw [State.setPortSt, State.setF_sec]

theorem State.sendPkt_sec (s : State) (p : Nat) (pkt : Packet) (w : Option Nat) : (s.sendPkt p pkt w).sec = s.sec := by
  unfold State.sendPkt
  split
  · rfl
  · split
    · rfl
    · exact ((PortTurn.refl p s).handFrame _).sec

theorem State.respray_sec (s : State) (p : Nat) (f : TxFrame) : (s.respray p f).sec = s.sec := by
  unfold State.respray
  split
  · rfl
  · split
    · rfl
    · exact State.sendPkt_sec _ _ _ _

theorem State.returnFrames_sec (s : State) (p : Nat) : (s.returnFrames p).sec = s.sec := by
  unfold State.returnFrames
  exact List.foldlRecOn (motive := fun t : State => t.sec = s.sec) _ _ rfl fun t ht f _ => (t.respray_sec p f).trans ht

theorem State.refreshPort_sec (s : State) (p : Nat) : (s.refreshPort p).sec = s.sec := by
  rcases s.refreshPort_cases p with ⟨he, _⟩ | ⟨_, hev⟩ | ⟨_, v, hev, he⟩
  · rw [he]
  · rw [hev.sec, State.setPortSt_sec]
  · rw [he, v.returnFrames_sec, hev.sec, State.setPortSt_sec]

theorem State.setPark_sec (s : State) (p x : Nat) : (s.setPark p x).sec = s.sec := (s.setPark_frame p x).sec

theorem State.darkPort_sec (s : State) (p : Nat) : (s.darkPort p).sec = s.sec := by
  rw [State.darkPort_eq, State.refreshPort_sec, State.darkening, State.parkFull, State.setPark_sec, State.setPort_sec, State.setPort_sec,
    State.setPortSt_sec, State.setPortSt_sec, State.setPortSt_sec]

theorem State.foldl_darkPort_sec (s : State) (l : List Nat) : (l.foldl (fun s i => s.darkPort i) s).sec = s.sec := by
  induction l generalizing s with
  | nil => rfl
  | cons p l ih => rw [List.foldl_cons, ih, State.darkPort_sec]

theorem State.keyless_moduleKeys (s : State) : (s.modSec (fun x => { x with moduleKeys := 0 })).sec.moduleKeys = 0 := rfl

/-- P4: every port is dark and the module's keys are gone (R375, R418). -/
theorem State.enterP4_spec (s : State) : s.enterP4.sec.moduleKeys = 0 ∧ ∀ p < 16, s.enterP4.linksDown p := by
  unfold State.enterP4
  refine ⟨?_, fun p hp => State.foldl_darkPort_linksDown _ (List.mem_range.2 hp)⟩
  rw [State.foldl_darkPort_sec, State.keyless_moduleKeys]

theorem LevelsTold.linksDown (h : LevelsTold s t) (hp : s.linksDown p) : t.linksDown p :=
  ⟨(h.rf _ (offLevels_portStatus p)).trans hp.1, (h.rf _ (offLevels_portStatus p)).trans hp.2⟩

theorem State.enterPstate_four_spec (s : State) : (s.enterPstate 4).sec.moduleKeys = 0 ∧ ∀ p < 16, (s.enterPstate 4).linksDown p := by
  rw [State.enterPstate_four]
  obtain ⟨hkeys, hdark⟩ := (s.abandon.setPstate 4).parked.enterP4_spec
  have htold := (s.abandon.setPstate 4).parked.enterP4.relevelAll_told
  exact ⟨by rw [htold.sec, hkeys], fun p hp => htold.linksDown (hdark p hp)⟩

/-! ## Ways out (R376) -/

theorem exec_pstateWake_awake (h : s.awake = true) : exec .pstateWake s = .next s := congrArg Host.Outcome.next (State.wake_of_awake h)

theorem exec_pstateWake_entering (hp : s.pstate = 0) (he : s.mgt.entering = some q) : exec .pstateWake s = .next (s.setEntering none 0) := by
  refine congrArg Host.Outcome.next ?_
  rw [State.wake, if_neg (by omega), State.rouse, s.abandon_pstate, hp, if_neg (by decide), State.abandon_of_entering he]

/-- From P1 to P3 the module comes to P0. -/
theorem exec_pstateWake_shallower (hp : 1 ≤ s.pstate) (hq : s.pstate ≤ 3) : exec .pstateWake s = .next (s.abandon.shallower 0) := by
  refine congrArg Host.Outcome.next ?_
  rw [State.wake, if_neg (by omega), State.rouse, s.abandon_pstate, if_pos ⟨hp, hq⟩]

theorem State.shallower_one (h : s.pstate = 1) : s.shallower 0 = (s.setPstate 0).relevelAll.pstateEvent := by
  rw [State.shallower, h, if_neg (show ¬(1 = 3) by decide), if_neg (show ¬(2 ≤ 1 ∧ 0 < 2) by decide)]

theorem State.shallower_two (h : s.pstate = 2) : s.shallower 0 = (s.setPstate 0).resetCells.relevelAll.pstateEvent := by
  rw [State.shallower, h, if_neg (show ¬(2 = 3) by decide), if_pos (show 2 ≤ 2 ∧ 0 < 2 by decide)]
  rfl

/-- HBM out of self-refresh and the ports awake. -/
def State.unparked (s : State) : State := (List.range 16).foldl (fun s i => s.wakePort i) (s.selfRefresh false)

theorem State.shallower_three (h : s.pstate = 3) : s.shallower 0 = (s.setPstate 0).unparked.resetCells.relevelAll.pstateEvent := by
  rw [State.shallower, h, if_pos rfl, if_pos (show 2 ≤ 3 ∧ 0 < 2 by decide)]
  rfl

theorem State.unparked_moved (s : State) : PortsMoved (s.selfRefresh false) s.unparked := PortsMoved.foldl (fun h => h.wakePort) _ _

theorem State.unparked_pstate (s : State) : s.unparked.pstate = s.pstate := s.unparked_moved.pstate.trans (s.selfRefresh_pstate false)

theorem State.unparked_stack (s : State) {st : Nat} (hst : st < 8) : (s.unparked.stack st).selfRefresh = false := by
  rw [State.stack_of_mem s.unparked_moved.mem, s.selfRefresh_stack false hst]

/-- Cells that start from reset, and their levels after that. -/
theorem State.resetCells_told (s : State) : s.resetCells.relevelAll.pstateEvent.pstate = s.pstate ∧
    (∀ k < 128, (s.resetCells.relevelAll.pstateEvent.core k).fresh) ∧
    ∀ st, s.resetCells.relevelAll.pstateEvent.stack st = s.stack st := by
  have htold := s.resetCells.relevelAll_told
  refine ⟨?_, fun k hk => ?_, fun st => ?_⟩
  · rw [State.pstate, htold.rf _ offLevels_pmStatus]
    exact s.resetCells_beside.pstate
  · rw [State.core, htold.cores]
    exact s.resetCells_fresh hk
  · rw [State.stack_of_mem htold.mem, State.stack, s.resetCells_beside.stk, State.stack]

/-- P0 from P2: every cell starts from reset. -/
theorem State.shallower_two_spec (h : s.pstate = 2) : (s.shallower 0).pstate = 0 ∧ ∀ k < 128, ((s.shallower 0).core k).fresh := by
  rw [State.shallower_two h]
  obtain ⟨hpstate, hfresh, -⟩ := (s.setPstate 0).resetCells_told
  exact ⟨hpstate.trans (s.setPstate_pstate (by decide)), hfresh⟩

/-- P0 from P3: the stacks leave self-refresh. -/
theorem State.shallower_three_spec (h : s.pstate = 3) : (s.shallower 0).pstate = 0 ∧ ∀ st < 8, ((s.shallower 0).stack st).selfRefresh = false := by
  rw [State.shallower_three h]
  obtain ⟨hpstate, -, hstack⟩ := (s.setPstate 0).unparked.resetCells_told
  refine ⟨hpstate.trans ((State.unparked_pstate _).trans (s.setPstate_pstate (by decide))), fun st hst => ?_⟩
  rw [hstack, State.unparked_stack _ hst]

theorem exec_pstateWake_restart (hp : s.pstate = 4) : exec .pstateWake s = .next s.warmRestart.pstateEvent :=
  congrArg Host.Outcome.next (if_pos hp)

/-- P0 from P4: the module restarts from stage 1 (R446). -/
theorem State.warmRestart_spec (s : State) : s.warmRestart.pstateEvent.rf R.MGMT_STAGE F.MGMT_STAGE_WARM = 1 ∧
    s.warmRestart.pstateEvent.rf R.MGMT_STAGE F.MGMT_STAGE_STAGE = 0 ∧ s.warmRestart.pstateEvent.cores = [] ∧
    s.warmRestart.pstateEvent.mem.regions = [] ∧ s.warmRestart.pstateEvent.nv = s.nv ∧
    s.warmRestart.pstateEvent.pending = s.pending := by
  obtain ⟨hwarm, hstage⟩ := s.warmRestart_stage
  refine ⟨?_, ?_, ?_, ?_, ?_, ?_⟩
  · rw [State.pstateEvent, State.raise_rf _ _ (by decide), hwarm]
  · rw [State.pstateEvent, State.raise_rf _ _ (by decide), hstage]
  · rw [State.pstateEvent, State.raise_cores]
    rfl
  · rw [State.pstateEvent, State.raise_mem]
    rfl
  · rw [State.pstateEvent, State.raise_nv]
    rfl
  · rw [State.pstateEvent, State.raise_pending]
    rfl

end Sys2Proof.Machine
end

section
/-! PROOFS. The host link and the power states as the model gives them (R358, R359, R363, R364, R372 to R376, R418). -/
namespace Sys2Proof.Machine
open Sys2Proof Sys2Proof.Safety
variable {s t : State} {p q : Nat}

theorem mem_range_all_iff {n : Nat} {f : Nat → Bool} : (List.range n).all f = true ↔ ∀ k < n, f k = true := by
  simp [List.all_eq_true]

theorem bytesAt_putBytes_of_length {d : List Byte} {n : Nat} (hd : d.length = n) (m : List Host.Cell) (a : Nat) :
    bytesAt (putBytes m a d) a n = d := by
  rw [← hd, bytesAt_putBytes_self]

/-- A dirty line whose data the host has: the line stays, clean. -/
theorem State.cleaned_spec {line : Nat} {c : CLine} (h : s.dline line = some c)
    (ht : t = ((s.writtenBack line c.data).dput line { c with dirty := false }).answer St.ok 0 c.data) :
    (t.dline line).map (fun x => (x.data, x.dirty)) = some (c.data, false) ∧
      t.mem.host = putBytes s.mem.host (s.hostPhys (line * 64)) c.data ∧ t.cores = s.cores ∧ t.regs = s.regs := by
  have hheld : (s.writtenBack line c.data).dline line = some c := (s.writtenBack_dline line c.data line).trans h
  have hline (u : State) : (u.answer St.ok 0 c.data).dline line = u.dline line := rfl
  subst ht
  rw [hline, State.dput_dline_self hheld, State.dput_of_held hheld]
  exact ⟨rfl, rfl, rfl, rfl⟩

/-- What a reset link leaves after FLR: the HOST queue out of service. -/
theorem LinkGone.flr_spec (h : LinkGone (s.flrQueue q) t) :
    (t.ctx q).enable = false ∧ (∀ m, m ∈ t.xport.msgs → m.queue = q → m.kind = 7) ∧ t.cores = s.cores := by
  obtain ⟨hen, hmsgs, hcores⟩ := s.flrQueue_spec q
  refine ⟨?_, fun m hm => hmsgs m (h.xport ▸ hm), h.cores.trans hcores⟩
  rw [State.ctx_congr h.xport q, hen]

/-! ## The statement -/

/-- Settles O58: each command's next state, and of it what the links, the power states and the ports' frames do and leave alone. -/
theorem hostLinkAndPowerComplete : Obligations.HostLinkAndPowerComplete := by
  unfold Obligations.HostLinkAndPowerComplete
  refine ⟨?retry, ?identifiers, ?configWrite, ?noLink, ?absent, ?current, ?invalidate, ?linkUp, ?linkDown, ?noneDown, ?perst, ?released, ?hotReset,
    ?flr, ?flrUnserved, ?begins, ?light, ?three, ?four, ?abandoned, ?intolerant, ?awake, ?wakeEntering, ?wakeOne, ?wakeTwo, ?wakeThree, ?wakeFour⟩
  case retry => exact fun s wr off v hlink hrrs => ⟨_, exec_hostConfigRequest_retry hlink hrrs, rfl, rfl⟩
  case identifiers =>
    intro s v hlink hrrs
    exact ⟨_, exec_hostConfigRequest_served hlink false v hrrs, rfl, rfl, rfl⟩
  case configWrite =>
    intro s off v hlink hrrs
    refine ⟨_, exec_hostConfigRequest_served hlink true v hrrs, rfl, s.cfgWrite_hostCfg off v, ?_, ?_⟩
    · rw [if_pos rfl, State.answer_mem, State.cfgWrite_cfgSpace, find?_minsert_self]
      rfl
    · have hframe := s.cfgWrite_frame off v
      rw [if_pos rfl]
      generalize s.cfgWrite off v = u at hframe
      generalize u.mem.hdm = x, u.mem.hdmError = y at hframe
      subst hframe
      rfl
  case noLink => exact fun s wr off v hlink => ⟨_, exec_hostConfigRequest_unlinked hlink, rfl⟩
  case absent => exact fun s line habsent => ⟨_, exec_hostSnoop_absent habsent, rfl, rfl, rfl⟩
  case current => exact fun s line c hheld hdirty => ⟨_, exec_hostSnoop_current hheld hdirty, rfl, rfl, State.cleaned_spec hheld rfl⟩
  case invalidate =>
    intro s line c d hheld hdirty hd _
    refine ⟨_, exec_hostSnoop_invalidate hheld hdirty hd, rfl, rfl, ?_, ?_, rfl⟩
    · exact congrArg (Option.map Prod.snd) (find?_merase_self line s.mem.dcache)
    · exact bytesAt_putBytes_of_length hd _ _
  case linkUp =>
    intro s w cxl hgood hperst hlink hw
    obtain ⟨t, hexec, hframe⟩ := exec_hostLinkUp_trained hgood hperst hlink hw
    exact ⟨t, hexec, hframe.linkTrained_spec hw⟩
  case linkDown =>
    intro s hlink
    have hgone := s.linkReset_gone
    obtain ⟨hlines, hcfg, hsnoop, hhdm, hhost⟩ := hgone.brought
    exact ⟨_, exec_hostLinkDown_up hlink, hgone.speed, hgone.cxl, hlines, hcfg, hsnoop, hhdm, hhost, hgone.rest⟩
  case noneDown => exact fun s hlink => ⟨_, exec_hostLinkDown_down hlink, rfl⟩
  case perst =>
    intro s hgood
    have hgone := (s.modSup (fun x => { x with perst := true })).linkReset_gone
    obtain ⟨hlines, hcfg, hsnoop, hhdm, -⟩ := hgone.brought
    exact ⟨_, exec_perstAssert_running hgood, hgone.speed, hgone.cxl, hlines, hcfg, hsnoop, hhdm, hgone.sup, hgone.cores⟩
  case released => exact fun s => ⟨_, rfl, rfl⟩
  case hotReset =>
    intro s hlink
    have hgone := s.linkReset_gone
    obtain ⟨hlines, hcfg, hsnoop, hhdm, -⟩ := hgone.brought
    exact ⟨_, exec_hotReset_up hlink, hgone.speed, hgone.cxl, hlines, hcfg, hsnoop, hhdm, hgone.rest⟩
  case flr =>
    intro s q c hup hlisted hcached hen htyp
    have hgone := ((s.ctxKeep q c).flrQueue q).linkReset_gone
    obtain ⟨hlines, hcfg, hsnoop, hhdm, -⟩ := hgone.brought
    exact ⟨_, exec_flr_hostQueue hup hlisted hcached hen htyp, hgone.speed, hgone.cxl, hlines, hcfg, hsnoop, hhdm, hgone.flr_spec⟩
  case flrUnserved => exact fun s h => ⟨_, exec_flr_unserved h, rfl⟩
  case begins =>
    intro s p hdeeper hmax htol hwake hstage hclk hmay
    have hok : s.pstateOk p = true := by simp [State.pstateOk, Nat.le_min.1 hmax, htol, hwake, hstage, hclk, hmay]
    exact ⟨_, exec_pstateEntry_begins hdeeper (Nat.le_min.1 hmax).1 hok, rfl, s.setEntering_flag _ (by decide), s.setEntering_pstate _ _,
      fun a ha => s.setEntering_reg _ _ ha, rfl⟩
  case light =>
    intro s p hidle he _ hp hok
    have htaken := State.enterPstate_taken (s := s) hp
    exact ⟨_, step_entry_ends hidle he hok, htaken.pstate, State.enterPstate_entering hp he, htaken.mem, htaken.cores, htaken.xport⟩
  case three =>
    intro s hidle he hok
    obtain ⟨hpstate, hstack, hhbm, hcores, hxport⟩ := s.enterPstate_three_spec
    exact ⟨_, step_entry_ends hidle he hok, hpstate, mem_range_all_iff.2 hstack, hhbm, hcores, hxport⟩
  case four =>
    intro s hidle he hok
    obtain ⟨hkeys, hdark⟩ := s.enterPstate_four_spec
    refine ⟨_, step_entry_ends hidle he hok, rfl, hkeys, mem_range_all_iff.2 fun p hp => ?_⟩
    exact Bool.and_eq_true_iff.2 ⟨decide_eq_true (hdark p hp).1, decide_eq_true (hdark p hp).2⟩
  case abandoned =>
    intro s p hidle he hok
    exact ⟨_, step_entry_abandoned hidle he hok, rfl, s.setEntering_flag none (by decide), s.setEntering_pstate none 0, rfl⟩
  case intolerant => exact fun s p h => ⟨_, exec_pstateEntry_refused (State.pstateOk_of_intolerant h), rfl⟩
  case awake => exact fun s h => ⟨_, exec_pstateWake_awake h, rfl⟩
  case wakeEntering =>
    intro s p hp he
    exact ⟨_, exec_pstateWake_entering hp he, rfl, s.setEntering_flag none (by decide), (s.setEntering_pstate none 0).trans hp, rfl⟩
  case wakeOne =>
    intro s hp
    have htaken := s.setPstate_taken (p := 0) (by decide)
    rw [← State.shallower_one (s.abandon_pstate.trans hp)] at htaken
    exact ⟨_, exec_pstateWake_shallower (by omega) (by omega), htaken.pstate, htaken.mem, htaken.cores, htaken.xport⟩
  case wakeTwo =>
    intro s hp
    obtain ⟨hpstate, hfresh⟩ := State.shallower_two_spec (s.abandon_pstate.trans hp)
    exact ⟨_, exec_pstateWake_shallower (by omega) (by omega), hpstate, mem_range_all_iff.2 fun k hk => decide_eq_true (hfresh k hk)⟩
  case wakeThree =>
    intro s hp
    obtain ⟨hpstate, hstack⟩ := State.shallower_three_spec (s.abandon_pstate.trans hp)
    refine ⟨_, exec_pstateWake_shallower (by omega) (by omega), hpstate, mem_range_all_iff.2 fun st hst => ?_⟩
    rw [hstack st hst, Bool.not_false]
  case wakeFour => exact fun s hp => ⟨_, exec_pstateWake_restart hp, s.warmRestart_spec⟩

end Sys2Proof.Machine
end
